-- ==== Sys2Proof/Word.lean ====
section
/-!
DEFINITION. The word types of the module and their plainest arithmetic: saturating counters (used wherever the spec
says "the counters saturate") and single-bit updates.
-/

namespace Sys2Proof

/-- One byte of memory, of a frame or of a register. -/
abbrev Byte := BitVec 8

/-- A 16-bit field. -/
abbrev Half := BitVec 16

/-- A 32-bit register. -/
abbrev Word := BitVec 32

/-- A 64-bit register. -/
abbrev DWord := BitVec 64

/-- One more, staying at the maximum (registers whose table says "saturates"). -/
def satInc {n : Nat} (w : BitVec n) : BitVec n :=
  if w = BitVec.allOnes n then w else w + 1

/-- `k` more, staying at the maximum. -/
def satAdd {n : Nat} (w : BitVec n) (k : Nat) : BitVec n :=
  if w.toNat + k < 2 ^ n then BitVec.ofNat n (w.toNat + k) else BitVec.allOnes n

/-- Bit `i` of `w` set. -/
def setBit {n : Nat} (w : BitVec n) (i : Nat) : BitVec n := w ||| (BitVec.ofNat n (2 ^ i))

/-- Bit `i` of `w` cleared. -/
def clrBit {n : Nat} (w : BitVec n) (i : Nat) : BitVec n := w &&& ~~~(BitVec.ofNat n (2 ^ i))

/-- Bit `i` of `w` made `b`. -/
def putBit {n : Nat} (w : BitVec n) (i : Nat) (b : Bool) : BitVec n := if b then setBit w i else clrBit w i

end Sys2Proof
end

