-- ==== Sys2Proof/Syntax.lean ====
section
/-!
DEFINITION. The commands of the block: one constructor of `Instr` for each row of spec/opcode_table.json, and the plain
data that their operands are made of (frames as 03 R119 to R122, 05 R187, 06 R202 and 09 R332 lay them out, requests,
cell errors). What the module itself decides is never an operand; an operand is what reaches the module from outside.
-/

namespace Sys2Proof

/-- Rack slot (02 R45, R463). -/
inductive Slot where
  | a | b | c
deriving DecidableEq, Repr

/-- The seven roles (02 R48), in the order of their codes. -/
inductive Role where
  | offline | standby | active | reserve | fenced | update | clockHold
deriving DecidableEq, Repr

/-- Substate of STANDBY (02 R48, R94). -/
inductive Sub where
  | none | resync | synchronised
deriving DecidableEq, Repr

/-- Keyswitch position (15 R481). -/
inductive KeyPos where
  | run | hold | service
deriving DecidableEq, Repr

/-- State of a power feed (15 R469). -/
inductive Feed where
  | lost | low | good
deriving DecidableEq, Repr

/-- Level at which a request is checked (12 R398); the codes of GATE_FLT_INFO.LEVEL. -/
inductive Level where
  | u | s | m | agent
deriving DecidableEq, Repr

/-- Kind of a bus request (12 R419, GATE_FLT_INFO.TYPE). -/
inductive BusOp where
  | read | write | fetch | atomic
deriving DecidableEq, Repr

/-- A bus master (01 R24), by the codes of 12 R406; the Cord processor and the debug port have no code there. -/
inductive Master where
  | core (n : Nat)
  | rick
  | cycle
  | port (n : Nat)
  | flue (n : Nat)
  | cordCpu
  | scale
  | journal
  | recorder
  | service
  | debug
deriving DecidableEq, Repr

/-- What a cell reports while it serves (01 R15, R16) and what a Gate rule's parity check reports (12 R416).
`row` names the row, line or way; `addr` the data concerned. -/
inductive CellEvent where
  | none
  | corrected (block : Byte) (cell : Nat) (row : Nat)
  | uncorrectable (block : Byte) (cell : Nat) (row : Nat)
  | ruleParity (gate : Nat) (rule : Nat)
  | trackError (word : Nat)
deriving DecidableEq, Repr

/-- One bus request of a master (12 R402): address, length in bytes and, for a write, its data. `busy` says that the
target cannot take the request in the cycle that offers it (17 R525). -/
structure BusReq where
  master : Master
  level  : Level
  op     : BusOp
  addr   : Nat
  len    : Nat
  data   : List Byte
  cell   : CellEvent
  busy   : Bool
deriving DecidableEq, Repr

/-- The clock sources that Hearth judges (10 R342). -/
inductive Source where
  | xt1 | firc | pllc | pllf | plln | xt2 | sirc
deriving DecidableEq, Repr

/-- Flue header (03 R119) without the length, which the payload has. -/
structure FlueHdr where
  ver   : Byte
  src   : Slot
  dst   : Option Slot      -- none: 0xFF, all slots
  epoch : Word
  seq   : Word
  flags : Byte
deriving DecidableEq, Repr

/-- STATUS payload (03 R120 and the table after it). -/
structure StatusP where
  role     : Role
  sub      : Sub
  key      : KeyPos
  flags    : Byte
  beat     : DWord
  beatTime : DWord
  progid   : Word
deriving DecidableEq, Repr

/-- One part of an IMAGE message (03 R120). -/
structure ImageP where
  task   : Nat
  part   : Nat
  parts  : Nat
  inst   : DWord
  offset : Nat
  body   : List Byte
deriving DecidableEq, Repr

/-- DIGEST payload (03 R121). `outcome`: 0 completed, 1 extended once, 2 skipped, 3 faulted. -/
structure DigestP where
  task     : Nat
  outcome  : Nat
  inst     : DWord
  digest   : DWord
  outBytes : Word
  retBytes : Word
deriving DecidableEq, Repr

/-- An entry of RELAY-OUT or RELAY-IN (03 R121); `frame` are the Folmonet frame's bytes. -/
structure RelayE where
  port  : Nat
  flags : Byte
  toff  : Word
  frame : List Byte
deriving DecidableEq, Repr

/-- CLAIM payload (03 R122). `reason`: 1 takeover, 2 switchover, 3 partner dead, 4 raise, 5 start. -/
structure ClaimP where
  epoch   : Word
  slot    : Slot
  reason  : Nat
  members : BitVec 3
  rept    : Nat
  time    : DWord
deriving DecidableEq, Repr

/-- JOIN payload (03 R122), with the PAIRCOMPAT and the Cord identification that the runtimes exchange at a join
(16 R503 text, 07 R254). -/
structure JoinP where
  slot       : Slot
  epoch      : Word
  progid     : Word
  pairCompat : Half
  legalId    : List Byte
  legalCfg   : List Byte
  holders    : List (Nat × Slot × Nat)
deriving DecidableEq, Repr

/-- PROMOTE payload (03 R122). -/
structure PromoteP where
  target : Slot
  action : Nat
  epoch  : Word
deriving DecidableEq, Repr

/-- SWITCH and SWITCH-ACK payload (03 R122). -/
structure SwitchP where
  beat  : DWord
  epoch : Word
deriving DecidableEq, Repr

/-- NAK payload (03 R122). -/
structure NakP where
  first : Word
  count : Half
deriving DecidableEq, Repr

/-- An entry of an OBJWRITE frame (09 R332) or of an IMAGE message's OBJWRITE section (03 R120). -/
structure ObjE where
  index : Half
  sub   : Byte
  typ   : Byte
  value : List Byte
deriving DecidableEq, Repr

/-- OBJWRITE payload (09 R332). `op`: 1 APPLY, 2 ACK, 3 NACK, 4 FORWARD, 5 RESULT. -/
structure ObjWriteP where
  op      : Nat
  txn     : Word
  beat    : DWord
  arg     : Word
  entries : List ObjE
deriving DecidableEq, Repr

/-- RESYNC-DATA payload (03 R122). -/
structure ResyncDataP where
  addr : Nat
  data : List Byte
deriving DecidableEq, Repr

/-- RESYNC-CTRL payload (03 R122, R554). `task` 0xFF: all. -/
structure ResyncCtrlP where
  phase : Nat
  task  : Nat
  arg   : Word
  beat  : DWord
deriving DecidableEq, Repr

/-- KINDLE payload (05 R187). -/
structure KindleP where
  op    : Nat
  flags : Byte
  imgid : Word
  arg   : DWord
  aux   : Word
  data  : List Byte
deriving DecidableEq, Repr

/-- A Flue frame's payload, by type (03 R120). -/
inductive FlueBody where
  | status (p : StatusP)
  | image (p : ImageP)
  | digest (p : DigestP)
  | relayOut (es : List RelayE)
  | relayIn (es : List RelayE)
  | claim (p : ClaimP)
  | join (p : JoinP)
  | promote (p : PromoteP)
  | switch (p : SwitchP)
  | switchAck (p : SwitchP)
  | objWrite (p : ObjWriteP)
  | nak (p : NakP)
  | resyncData (p : ResyncDataP)
  | resyncCtrl (p : ResyncCtrlP)
  | kindle (p : KindleP)
deriving DecidableEq, Repr

/-- A whole Flue frame. -/
structure FlueFrame where
  hdr  : FlueHdr
  body : FlueBody
deriving DecidableEq, Repr

/-- Why a Flue frame fails the receiver's first checks (03 R119, R120, 02 R50). -/
inductive FlueBad where
  | crc | fcs | version | badType | lowEpoch | epochMax
deriving DecidableEq, Repr

/-- Folmonet header (06 R202) without VER, LEN and the reserved bytes. -/
structure FolHdr where
  typ     : Byte
  seg     : Nat
  flags   : Byte
  stamp   : Word
  epoch   : Word
  station : Nat            -- 0 to 2,047; 0xFFFF broadcast
  hops    : Half
deriving DecidableEq, Repr

/-- SERVICE payload (06 R202). -/
structure SvcMsg where
  op      : Byte
  tid     : Byte
  index   : Half
  sub     : Byte
  sflags  : Byte
  session : Half
  arg     : Word
  data    : List Byte
deriving DecidableEq, Repr

/-- CYCLE-START payload (06 R202). -/
structure CycleStartP where
  read     : Word
  write    : Word
  beatTime : DWord
  period   : Byte
  csflags  : Byte
  svcOpen  : Half
  svcClose : Half
  cfgid    : Word
deriving DecidableEq, Repr

/-- INPUT payload (06 R202). -/
structure InputP where
  gateEpoch : Word
  status    : Half
  refusals  : Half
  latchDev  : Half
  data      : List Byte
deriving DecidableEq, Repr

/-- OUTPUT payload (06 R202). -/
structure OutputP where
  task   : Nat
  oflags : Byte
  inst   : Word
  data   : List Byte
deriving DecidableEq, Repr

/-- TIME payload (06 R202). -/
structure TimeP where
  time   : DWord
  utcoff : Half
  tflags : Byte
deriving DecidableEq, Repr

/-- A Folmonet frame's payload, by type (06 R202). -/
inductive FolBody where
  | cycleStart (p : CycleStartP)
  | input (p : InputP)
  | output (p : OutputP)
  | service (p : SvcMsg)
  | time (p : TimeP)
  | wake (target : Nat) (reason : Byte)
deriving DecidableEq, Repr

/-- A whole Folmonet frame. -/
structure FolFrame where
  hdr  : FolHdr
  body : FolBody
deriving DecidableEq, Repr

/-- Why a field port discards a frame (06 R198, R202, R215, 02 R50). -/
inductive FolBad where
  | fcs | crc | other | lowEpoch | stamp | epochMax
deriving DecidableEq, Repr

/-- A PROBE-RESP (06 R202), with the round trip that the port measured. -/
structure ProbeResp where
  station    : Nat
  epoch      : Word
  fromEnd    : Nat          -- 0 end A, 1 end B
  roundTrip  : Nat
  turnaround : Nat
  typeid     : Word
  cfgid      : Word
  serial     : Word
deriving DecidableEq, Repr

/-- The path by which a dictionary request arrives (09 R318, R320). -/
inductive Path where
  | service (conn : Nat)
  | folmonet (seg : Nat) (station : Nat) (fromEnd : Nat)
deriving DecidableEq, Repr

/-- A dictionary request: its path, session, transaction number and value bytes as sent (09 R312, R321). -/
structure Rq where
  path    : Path
  session : Nat
  tid     : Byte
  value   : List Byte
deriving DecidableEq, Repr

/-- The two ways a command reaches its block: a write of its register, or a write of its object entry. -/
inductive Via where
  | reg (master : Master) (level : Level) (word : Word)
  | obj (rq : Rq)
deriving DecidableEq, Repr

/-- A Cord mailbox request's header without SEQ and OP (07 R242), and its data. -/
structure MbxRq where
  session : Word
  arg0    : DWord
  arg1    : DWord
  data    : List Byte
deriving DecidableEq, Repr

/-- A retained-data delta record (03 R107, item 3): offset in the retained area, data. -/
structure Delta where
  offset : Nat
  data   : List Byte
deriving DecidableEq, Repr

/-- A host-variable entry (09 R322): symbol identity and value. -/
structure HostE where
  symid : Word
  value : List Byte
deriving DecidableEq, Repr

/-- An event record as it is posted (11 R382, R386): code, block, continuation flag, 14 data bytes at most. -/
structure EvRec where
  code  : Half
  block : Byte
  cont  : Bool
  data  : List Byte
deriving DecidableEq, Repr

/-- What an IEEE 1588 message reports to the servo (10 R359, R360). -/
inductive PtpMsg where
  | announce (master : DWord) (better : Bool)
  | sync (master : DWord) (offset : Int)
deriving DecidableEq, Repr

/-- Wake conditions of Ember (13 R434). -/
inductive Wake where
  | rtc | flue | folmonet | lio | watch (k : Nat)
deriving DecidableEq, Repr

/-- The SFP identity and diagnostics read once per second (06 R197, R231). -/
structure SfpRead where
  fitted    : Bool
  qualified : Bool
  los       : Bool
  txfault   : Bool
  warn      : Bool
  alarm     : Bool
deriving DecidableEq, Repr

/-- The commands, one for each row of spec/opcode_table.json, in the table's order, those with operands before those without. `kindleData` and
`updateData` carry one segment `m` of a long write (09 R321); their `rq` names the path, the session and the TID of the client. -/
inductive Instr where
  -- commands with operands, chapter by chapter
  -- architecture (01, 12, 17)
  | busRequest (r : BusReq)
  | supFailSilent (core : Nat) (level : Level) (word : Word)
  | dramPatrolScrub (errors : List CellEvent)
  | blockResponseTimeout (block : Byte) (cell : Nat) (master : Master)
  | retryReissue (master : Master) (busy : Bool)
  | rickResetReload (tid : Byte)
  -- pair, reserve and claims (02)
  | damperToggleRecognised (slot : Slot)
  | lossOfToggle (slot : Slot)
  | damperRoleMismatch (slot : Slot)
  | claimRecordWriteDone (ok : Bool)
  | startWindowClose (seg : Nat)
  | partnerDead (slot : Slot)
  | switchover (via : Via)
  | makeOffline (via : Via)
  | promoteReserve (via : Via)
  | dmpArm (level : Level) (word : Word)
  | keyswitchChange (pos : KeyPos)
  -- Flue (03)
  | statusFrame (lane : Nat) (h : FlueHdr) (p : StatusP)
  | imageFrame (lane : Nat) (h : FlueHdr) (p : ImageP)
  | digestFrame (lane : Nat) (h : FlueHdr) (p : DigestP)
  | relayOutFrame (lane : Nat) (h : FlueHdr) (es : List RelayE)
  | relayOutTransmit (port : Nat) (late : Bool)
  | relayInFrame (lane : Nat) (h : FlueHdr) (es : List RelayE)
  | claimFrame (lane : Nat) (h : FlueHdr) (p : ClaimP)
  | joinFrame (lane : Nat) (h : FlueHdr) (p : JoinP)
  | promoteToStandby (lane : Nat) (h : FlueHdr) (p : PromoteP)
  | returnToReserve (lane : Nat) (h : FlueHdr) (p : PromoteP)
  | switchFrame (lane : Nat) (h : FlueHdr) (p : SwitchP)
  | switchAckFrame (lane : Nat) (h : FlueHdr) (p : SwitchP)
  | nakFrame (lane : Nat) (h : FlueHdr) (p : NakP)
  | resyncDataFrame (lane : Nat) (h : FlueHdr) (p : ResyncDataP)
  | resyncCtrlFrame (lane : Nat) (h : FlueHdr) (p : ResyncCtrlP)
  | flueFrameDiscard (lane : Nat) (why : FlueBad) (src : Slot)
  | slotCForward (lane : Nat) (f : FlueFrame)
  | imageLagTimeout (task : Nat)
  | instanceLagTimeout (task : Nat)
  | digestMissed (task : Nat)
  | selfTestDone (passed : Bool)
  | laneBlockLock (lane : Nat) (locked : Bool)
  | laneDown (lane : Nat)
  | fluClearLanes (level : Level)
  | fluClearPeaks (level : Level)
  -- cycle engine (04)
  | inputLatch (task : Nat)
  | cycDone (core : Nat) (level : Level) (word : Word) (deltas : List Delta)
  | taskTrap (core : Nat) (level : Level) (task : Nat)
  | trapStopComplete (task : Nat)
  | commitComplete (task : Nat)
  | emitoffEmission (seg : Nat)
  | deadlineMiss (task : Nat)
  | skipLimit (task : Nat)
  | resume (task : Nat) (rq : Rq)
  | cycFaultClear (level : Level) (tasks : BitVec 16) (events : DWord)
  | taskEnable (task : Nat) (rq : Rq)
  | cycWdog (core : Nat) (level : Level) (word : Word)
  | warmRestart (via : Via)
  | coldRestart (via : Via)
  | programStop (via : Via)
  | programLoad (image : List Byte)
  -- online change and forces (05)
  | kindleData (m : SvcMsg) (rq : Rq)
  | changeStart (rq : Rq)
  | changeAbandon (rq : Rq)
  | kindleDataFrame (lane : Nat) (h : FlueHdr) (p : KindleP)
  | kindleLoaded (lane : Nat) (h : FlueHdr) (p : KindleP)
  | kindleStart (lane : Nat) (h : FlueHdr) (p : KindleP)
  | kindleGo (lane : Nat) (h : FlueHdr) (p : KindleP)
  | kindleGoAck (lane : Nat) (h : FlueHdr) (p : KindleP)
  | kindleNogo (lane : Nat) (h : FlueHdr) (p : KindleP)
  | kindleDone (lane : Nat) (h : FlueHdr) (p : KindleP)
  | kindleAbandon (lane : Nat) (h : FlueHdr) (p : KindleP)
  | forceSet (rq : Rq)
  | forceClear (rq : Rq)
  | forceClearAll (rq : Rq)
  -- Folmonet (06)
  | portUp (port : Nat)
  | portDown (port : Nat)
  | sfpPoll (port : Nat) (r : SfpRead)
  | folmonetFrameDiscard (port : Nat) (why : FolBad) (station : Nat)
  | stationInput (port : Nat) (h : FolHdr) (p : InputP)
  | probeResp (port : Nat) (r : ProbeResp)
  | continuityLost (seg : Nat)
  | continuityRestored (seg : Nat)
  | stationAbsent (station : Nat)
  | configuringTimeout (station : Nat)
  | stationProbeTimer (station : Nat)
  | segmentStart (seg : Nat) (via : Via)
  | segmentStop (seg : Nat) (via : Via)
  | segmentReprobe (seg : Nat) (via : Via)
  | probingEnd (seg : Nat)
  | gateReset (station : Nat) (rq : Rq)
  | timeFrameSend (port : Nat)
  | fptClear (port : Nat) (level : Level) (word : Word)
  -- Cord (07)
  | reqDoor (master : Master) (level : Level) (seq : Word)
  | crdMbxRsp (seq : Word)
  | loadBegin (m : MbxRq)
  | loadData (m : MbxRq)
  | loadEnd (m : MbxRq)
  | ident (m : MbxRq)
  | objRead (m : MbxRq)
  | objWrite (m : MbxRq)
  | vChallenge (m : MbxRq)
  | vProve (m : MbxRq)
  | vClose (m : MbxRq)
  | channelTest (m : MbxRq)
  | channelService (m : MbxRq)
  | auditRead (m : MbxRq)
  | legalIdRecheck (computed : List Byte)
  | statusRepublish (unit : Nat)
  | verificationSwitchChange (set : Bool)
  | crdMode (word : Word)
  | audAppend (word : Word) (mramOk : Bool)
  | audInit (word : DWord)
  | audErase (word : Word)
  | crdWdog (word : Word)
  | crdNotify (word : Word)
  -- scale engine (08)
  | zero (channel : Nat)
  | semiAutomaticTare (channel : Nat)
  | presetTare (channel : Nat)
  | clearTare (channel : Nat)
  | weighingStart (channel : Nat)
  | weighingEnd (channel : Nat)
  | resetTotals (channel : Nat)
  | initialZeroTimeout (channel : Nat)
  -- object dictionary (09)
  | serviceConnection (conn : Nat)
  | sessionOpen (path : Path) (tid : Byte) (level : Byte)
  | sessionProve (path : Path) (tid : Byte) (session : Nat) (credSlot : Byte) (signature : List Byte)
  | sessionClose (path : Path) (tid : Byte) (session : Nat)
  | sessionKeepalive (path : Path) (tid : Byte) (session : Nat)
  | proveTimeout (session : Nat)
  | sessionIdleTimeout (session : Nat)
  | serviceRead (m : SvcMsg) (path : Path)
  | serviceWrite (m : SvcMsg) (path : Path)
  | segmentTransferTimeout (session : Nat)
  | hostwrite (tid : Byte) (path : Path) (session : Nat) (entries : List HostE)
  | objwriteApply (lane : Nat) (h : FlueHdr) (p : ObjWriteP)
  | objwriteAck (lane : Nat) (h : FlueHdr) (p : ObjWriteP)
  | objwriteNack (lane : Nat) (h : FlueHdr) (p : ObjWriteP)
  | objwriteForward (lane : Nat) (h : FlueHdr) (p : ObjWriteP)
  | objwriteResult (lane : Nat) (h : FlueHdr) (p : ObjWriteP)
  | forwardTimeout (number : Word)
  | restore (rq : Rq)
  -- clocks and time (10, 15)
  | sourceJudged (src : Source)
  | clockSourceFailure (src : Source)
  | slowSourceFailure (src : Source)
  | kdvTarget (level : Level) (word : Word)
  | fircTrimWindow (count : Nat)
  | timSet (level : Level) (value : DWord)
  | timIncr (level : Level) (value : DWord)
  | ptpMessage (m : PtpMsg)
  | rtcSet (value : DWord)
  -- journal and events (11)
  | seasonPause (rq : Rq)
  | jrnCmdStartPass (word : Word)
  | mramWriteError (block : Byte) (failed : Bool)
  | eventPosting (window : Nat) (level : Level) (word : Word)
  | bucketSet (rq : Rq)
  -- Gate (12)
  | gateCommit (level : Level) (epoch : Word)
  | gateFltPop (level : Level) (word : Word)
  | gateTrkHarvest (level : Level)
  | gateTrkClear (level : Level) (word : Word)
  | mgatetagWrite (core : Nat) (level : Level) (value : DWord)
  -- DIC and Ember (13)
  | dicDoorbell (source : Nat)
  | dicRelRead (core : Nat)
  | deviceReRing (source : Nat)
  | wfi (core : Nat)
  | embSleep (core : Nat) (level : Level) (word : Word)
  | wakeCondition (w : Wake)
  -- local I/O (14)
  | localReadMark (inputs : Half)
  | localWriteMark (cool : Byte)
  | supplyLow (group : Nat) (mv10 : Half)
  | supplyTrip (group : Nat) (mv10 : Half)
  | tripSwitchOff (group : Nat) (channel : Nat)
  | supplyGood (group : Nat) (mv10 : Half)
  | supplyRecovered (group : Nat) (mv10 : Half)
  | rearm (rq : Rq)
  | lioRearm (level : Level) (word : Word)
  | currentLimitLong (output : Nat)
  | thermalShutdown (output : Nat)
  -- module hardware (15)
  | feedStateChange (feedB : Bool) (st : Feed) (mv10 : Half)
  | eject (opened : Bool)
  | tempWarning (junction : Half)
  | overTemperature (junction : Half)
  | hpwClear (level : Level) (word : Word)
  -- update and security (16)
  | updateData (m : SvcMsg) (rq : Rq)
  | updateCheck (rq : Rq)
  | updateStart (rq : Rq)
  | updateDiscard (rq : Rq)
  | loaderUpdate (readbackOk : Bool)
  | recoveryImage (image : List Byte)
  | svnCommit (rq : Rq)
  | updBegin (m : MbxRq)
  | updData (m : MbxRq)
  | updEnd (m : MbxRq)
  | ksEnrol (m : MbxRq)
  | ksRevoke (m : MbxRq)
  | ksLoad (m : MbxRq)
  | ksInfo (m : MbxRq)
  | ksSign (m : MbxRq)
  | arbAdvance (m : MbxRq)
  | credentialEnrol (rq : Rq)
  | credentialRevoke (rq : Rq)
  | progkeyEnrol (rq : Rq)
  | progkeyRevoke (rq : Rq)
  | keyLoad (rq : Rq)
  | verifierEnrol (rq : Rq)
  | verifierRevoke (rq : Rq)
  | zeroise (via : Via)
  | debugChallenge (rq : Rq)
  | debugUnlock (rq : Rq)
  -- maintenance and fault injection (17)
  | commission (rq : Rq)
  | fijComm (level : Level) (word : Word)
  | fijStart (via : Via)
  | fijStop (via : Via)
  | fijClear (level : Level) (word : Word)
  | reorderHoldExpiry (rule : Nat)
  | registerWrite (master : Master) (level : Level) (addr : Nat) (wide : Bool) (value : DWord)
  | presenceLineChange (slot : Slot) (asserted : Bool)
  | damperEdge (slot : Slot) (heldNs : Nat)
  | stationWriteResp (station : Nat) (epoch : Word) (tid : Byte) (abort : Half)
  | throughCycleStart (port : Nat) (h : FolHdr)
  | serviceConnectionEnd (conn : Nat)
  -- commands without operands, chapter by chapter
  -- architecture (01, 12, 17)
  | bankResetAfterBurst
  | autoRestart
  | startSequence
  -- pair, reserve and claims (02)
  | reserveTakeoverWaitEnd
  | damperReadbackLost
  | foreignToggleFence
  | startAlone
  | joinRepeat
  | reserveSelfTestEnd
  | switchAckTimeout
  | switchPoint
  -- Flue (03)
  | alignmentLost
  | pairLinkReturn
  | resyncBulkDone
  | resyncNotConverging
  -- cycle engine (04)
  | beatBoundary
  | beatBoundaryLate
  | runtimeWatchdogExpiry
  | rickWatchdogExpiry
  | restartInitDone
  -- online change and forces (05)
  | measuringEnd
  | precopyRoundEnd
  | goAckTimeout
  | swapCopyDone
  -- Cord (07)
  | verifierSessionTimeout
  | cordStartScan
  | cordWatchdogExpiry
  -- scale engine (08)
  | sclStart
  | sclStop
  | sclAdopt
  | sclRetire
  -- clocks and time (10, 15)
  | seatedRead
  | xt1StartTimeout
  | dvfsPowerGood
  | dvfsStepDone
  | powerGoodTimeout
  | announceTimeout
  | rtcAlarm
  | rtcHourlySet
  -- journal and events (11)
  | deltasComplete
  | commitDurable
  | seasoningPassDone
  | coldSnapshotDurable
  | coalesceFlush
  | coalescingLeave
  | eventRecordWritten
  | timeAnchor
  -- Gate (12)
  | gateTrkClearDone
  -- DIC and Ember (13)
  | entryTimeout
  | allCoresWfi
  | bankedEntered
  | resumeDigestCheck
  | wakeComplete
  -- module hardware (15)
  | unseated
  | powerFail
  -- update and security (16)
  | ksCmdGenerate
  | ksCmdSign
  | ksCmdUnwrap
  | ksCmdEnrol
  | ksCmdRevoke
  | ksCmdVerify
  | ksCmdZeroise
  | ksCmdArbAdvance
  | ksCmdDebugPermit
  -- maintenance and fault injection (17)
  | fijRunExpiry
deriving DecidableEq, Repr

end Sys2Proof
end

