-- ==== Sys2Proof/Decode.lean ====
section
/-!
DEFINITION. The commands that words spell. No row of spec/opcode_table.json gives bits (98_reader.md: n_rows_with_fields 0), so no
word spells a command.
-/

namespace Sys2Proof

/-- The command that the word `w` of `nbits` bits spells by the table's bits: none, for the table gives none. -/
def decodeTableWord (_nbits _w : Nat) : Option Instr := none

end Sys2Proof
end

