-- ==== Sys2Proof/Config.lean ====
section
/-!
DEFINITION. What one implementation fixes and the values that the spec leaves open, as constants without a body: nothing in Lean
can see their value, so a statement about them holds for every value (log 3). The cryptographic functions that the spec
names by their standards (SHA-256, Ed25519, AES-128-CMAC, RFC 3394 and RFC 5869) stand here too, uninterpreted (log 6).
-/

namespace Sys2Proof.Config

/-- A free value of any width: the n-th one taken (State.freeCtr). -/
opaque freeNat : Nat → Nat

/-- A free value of any width that a step takes by a number of its own beside the counter. -/
opaque freeAt : Nat → Nat → Nat

/-- The two datapaths of a scale channel give different results at the sample index of a step (R301, log 22). -/
opaque datapathsDiffer : Nat → Nat → Bool

/-- Budgeted payload that Belaux computed for a position of the hyperperiod of a program (R126, log 41). -/
opaque beatBudget : Nat → Nat → Nat

/-- What Belaux sets for an exported variable of a program, by PROGID and symbol identity (R336, log 20): its read level, its write
level (5: read-only), and whether it is marked as a host variable (R322). -/
opaque exportRead : Nat → Nat → Nat
opaque exportWrite : Nat → Nat → Nat
opaque hostVariable : Nat → Nat → Bool

/-- Exchange inputs that Belaux laid out for a task of a program (R104, R144): byte in the output image, byte in the input image, length. No
structure of the program image holds them (log 54). -/
opaque exchangeInputs : Nat → Nat → List (Nat × Nat × Nat)

/-- Number of signals that the configuration of a program holds (0x1200.01; the spec does not say how it is counted). -/
opaque signalCount : Nat → Nat

/-- The bytes of the boot ROMs (R35, R233), which the spec does not give: the module's at its address, Cord's from 2^40 on. -/
opaque romByte : Nat → Byte

/-- LATCH_DELAY that a station declares (R229): no frame to this module carries it. -/
opaque latchDelay : Nat → Word

/-- Random bytes (challenges): the byte k of the n-th one taken. -/
opaque freeByte : Nat → Nat → Byte

/-- SHA-256 of a byte string; its 32 bytes are cut from it (`sha256` of Machine/Ops.lean). -/
opaque sha256Raw : List Byte → List Byte

/-- Ed25519 verification: public key, message, signature. -/
opaque ed25519Verify : List Byte → List Byte → List Byte → Bool

/-- Ed25519 signature of a message under the device key of generation n. -/
opaque deviceSign : Nat → List Byte → List Byte

/-- Public parts of the device key and the exchange key of generation n. -/
opaque devicePublic : Nat → List Byte
opaque exchangePublic : Nat → List Byte

/-- Unwrapping of a key blob (R508) under the exchange key of generation n: the 16 key bytes, or none where the RFC 3394
check fails. -/
opaque unwrapBlob : Nat → List Byte → Option (List Byte)

/-- AES-128-CMAC of a message under a key. -/
opaque cmac : List Byte → List Byte → List Byte

/-- Serial number, variant (true: -C), Rick firmware's own version word, hardware revision, date of manufacture (R313). -/
opaque serial : Word
opaque variantC : Bool
opaque hwRevision : Half
opaque manufactured : Word

/-- The vendor public key of a slot, as the boot ROM and the key store hold it (R493, R506). -/
opaque vendorKey : Nat → List Byte

/-- The factory identification of Cord (R505). -/
opaque factoryId : List Byte

/-- The resident loader's signature holds against the boot ROM's key (R30, step 1). -/
opaque loaderValid : Bool

/-- The factory value of HCK_FIRC_TRIM.TRIM is loaded at power-on (10 R349, R365). -/
opaque factoryTrim : Word

/-- The certificate with which a new module answers (0x1730.09, default "Self-signed"). -/
opaque selfSigned : List Byte

end Sys2Proof.Config
end

