-- ==== Sys2Proof/Machine/Bits.lean ====
section
/-!
DEFINITION. Bit fields of registers and byte order: registers and memory structures are little-endian (R7), frame fields
most significant byte first (R8). Bit tables number fields from bit 0 up, as the register tables of every chapter do.
-/

namespace Sys2Proof.Machine

/-- 1 for true, 0 for false: a one-bit field's value. -/
def b2n (b : Bool) : Nat := if b then 1 else 0

/-- The field of `len` bits of `w` that begins at bit `lo`, as a number. -/
def fld {n : Nat} (w : BitVec n) (lo len : Nat) : Nat := (w.toNat >>> lo) % 2 ^ len

/-- Bit `i` of `w`. -/
def bit {n : Nat} (w : BitVec n) (i : Nat) : Bool := w.toNat.testBit i

/-- A register of `n` bits from its fields, each a pair of its lowest bit and its value. -/
def pack (n : Nat) (fs : List (Nat × Nat)) : BitVec n := BitVec.ofNat n (fs.foldl (fun acc f => acc ||| (f.2 <<< f.1)) 0)

/-- `w` with the field of `len` bits at `lo` replaced by `v`. -/
def setFld {n : Nat} (w : BitVec n) (lo len v : Nat) : BitVec n :=
  (w &&& ~~~(BitVec.ofNat n ((2 ^ len - 1) <<< lo))) ||| BitVec.ofNat n ((v % 2 ^ len) <<< lo)

/-- The bits of `mask` taken from `new`, the others from `old`: a write of the writable bits of a register. -/
def maskIn {n : Nat} (old mask new : BitVec n) : BitVec n := (old &&& ~~~mask) ||| (new &&& mask)

/-- The value `v` in `k` bytes, least significant first (R7). -/
def leBytes : Nat → Nat → List Byte
  | 0, _ => []
  | k + 1, v => BitVec.ofNat 8 (v % 256) :: leBytes k (v / 256)

/-- The number that bytes hold, least significant first (R7). -/
def leNat : List Byte → Nat
  | [] => 0
  | b :: bs => b.toNat + 256 * leNat bs

/-- The value `v` in `k` bytes, most significant first (R8). -/
def beBytes (k v : Nat) : List Byte := (leBytes k v).reverse

/-- The number that bytes hold, most significant first (R8). -/
def beNat (bs : List Byte) : Nat := leNat bs.reverse

/-- `n` bytes of zero. -/
def zeros (n : Nat) : List Byte := List.replicate n 0

/-- `bs` cut or filled with zero bytes to exactly `n` bytes. -/
def fit (n : Nat) (bs : List Byte) : List Byte := bs.take n ++ zeros (n - bs.length)

/-- The bytes from `off` on, `len` of them. -/
def slice (bs : List Byte) (off len : Nat) : List Byte := (bs.drop off).take len

/-- The little-endian field of `len` bytes at `off`. -/
def leAt (bs : List Byte) (off len : Nat) : Nat := leNat (slice bs off len)

/-- The most-significant-first field of `len` bytes at `off`. -/
def beAt (bs : List Byte) (off len : Nat) : Nat := beNat (slice bs off len)

/-- Two's complement reading of the low `len` bits of `v`. -/
def signed (len v : Nat) : Int :=
  if v % 2 ^ len < 2 ^ (len - 1) then (v % 2 ^ len : Nat) else (v % 2 ^ len : Nat) - (2 ^ len : Nat)

/-- `i` in two's complement of `len` bits, wrapping. -/
def unsigned (len : Nat) (i : Int) : Nat := (i % (2 ^ len : Nat)).toNat

/-- Element `i` of `l` replaced by `f` of it (nothing where there is none). -/
def modAt {α : Type} (l : List α) (i : Nat) (f : α → α) : List α :=
  l.mapIdx (fun j x => if j = i then f x else x)

/-- Element `i` of `l` replaced by `v`. -/
def putAt {α : Type} (l : List α) (i : Nat) (v : α) : List α := modAt l i (fun _ => v)

/-- The two bytes of a 16-bit value, four of a 32-bit one, eight of a 64-bit one, least significant first. -/
def le2 (v : Nat) : List Byte := leBytes 2 v
def le4 (v : Nat) : List Byte := leBytes 4 v
def le8 (v : Nat) : List Byte := leBytes 8 v
def be2 (v : Nat) : List Byte := beBytes 2 v
def be4 (v : Nat) : List Byte := beBytes 4 v
def be8 (v : Nat) : List Byte := beBytes 8 v
def u8 (v : Nat) : List Byte := [BitVec.ofNat 8 v]

/-- Least number of bits set: how many bits of `w` are 1. -/
def popcount {n : Nat} (w : BitVec n) : Nat := ((List.range n).filter (fun i => bit w i)).length

/-- The lowest bit of `w` that is 1, if any. -/
def lowest {n : Nat} (w : BitVec n) : Option Nat := (List.range n).find? (fun i => bit w i)

end Sys2Proof.Machine
end

