-- ==== Sys2Proof/Machine/Crc.lean ====
section
/-!
DEFINITION. The two cyclic redundancy checks of the module: CRC-32C (frames, records, copies) and CRC-64/ECMA-182
(instance digests, R107, and the state digest of a resync). The spec names them by their standard names; the polynomials
and the initial and final values are those of the standards (PRESUMED, log 5).
-/

namespace Sys2Proof.Machine

/-- One bit of the reflected CRC-32C. -/
def crc32cBit (c : BitVec 32) : BitVec 32 :=
  if bit c 0 then (c >>> 1) ^^^ 0x82F63B78#32 else c >>> 1

/-- `k` bits of the reflected CRC-32C. -/
def crc32cBits : Nat → BitVec 32 → BitVec 32
  | 0, c => c
  | k + 1, c => crc32cBits k (crc32cBit c)

/-- CRC-32C of a byte string (Castagnoli, initial value and final exclusive-or all ones). -/
def crc32c (bs : List Byte) : BitVec 32 :=
  ~~~(bs.foldl (fun c b => crc32cBits 8 (c ^^^ b.setWidth 32)) (0xFFFFFFFF#32))

/-- One bit of CRC-64/ECMA-182, most significant bit first. -/
def crc64Bit (c : BitVec 64) : BitVec 64 :=
  if bit c 63 then (c <<< 1) ^^^ 0x42F0E1EBA9EA3693#64 else c <<< 1

/-- `k` bits of CRC-64/ECMA-182. -/
def crc64Bits : Nat → BitVec 64 → BitVec 64
  | 0, c => c
  | k + 1, c => crc64Bits k (crc64Bit c)

/-- CRC-64/ECMA-182 continued over a byte string from the value `c`. -/
def crc64From (c : BitVec 64) (bs : List Byte) : BitVec 64 :=
  bs.foldl (fun d b => crc64Bits 8 (d ^^^ BitVec.ofNat 64 (b.toNat * 2 ^ 56))) c

/-- CRC-64/ECMA-182 of a byte string (initial value and final exclusive-or zero). -/
def crc64 (bs : List Byte) : BitVec 64 := crc64From 0 bs

end Sys2Proof.Machine
end

