-- ==== Sys2Proof/Machine/Mem.lean ====
section
/-!
DEFINITION. The addressed memories (image SRAM, read window, mailbox, NOR, MRAM, DRAM: R35, R142, R369) as ONE sparse list of
bytes by physical address, strictly rising, without an entry equal to what an unlisted byte reads as. The spec gives no
contents of a byte that nothing has written: it reads as 0 (DESIGN CHOICE, log 4).
-/

namespace Sys2Proof.Machine

/-- A sparse memory. -/
abbrev Memory := List Host.Cell

/-- What an unlisted byte reads as (DESIGN CHOICE, log 4). -/
def unlisted : Byte := 0

/-- Addresses from `lo` on, strictly rising, and no byte equal to the unlisted one. -/
def Memory.wfFrom : Nat → Memory → Bool
  | _, [] => true
  | lo, (a, b) :: m => decide (lo ≤ a) && decide (b ≠ unlisted) && Memory.wfFrom (a + 1) m

/-- The canonical form of a memory. -/
def Memory.wf (m : Memory) : Bool := Memory.wfFrom 0 m

/-- The byte at address `a`. -/
def readByte : Memory → Nat → Byte
  | [], _ => unlisted
  | (a', b) :: m, a => if a' = a then b else readByte m a

/-- Memory with byte `v` at address `a`, in canonical form. -/
def writeByte : Memory → Nat → Byte → Memory
  | [], a, v => if v = unlisted then [] else [(a, v)]
  | (a', b) :: m, a, v =>
    if a < a' then (if v = unlisted then (a', b) :: m else (a, v) :: (a', b) :: m)
    else if a = a' then (if v = unlisted then m else (a, v) :: m)
    else (a', b) :: writeByte m a v

/-- `n` bytes from address `a` up. -/
def readBytes (m : Memory) : Nat → Nat → List Byte
  | _, 0 => []
  | a, n + 1 => readByte m a :: readBytes m (a + 1) n

/-- The bytes `bs` written from address `a` up. -/
def writeBytes : Memory → Nat → List Byte → Memory
  | m, _, [] => m
  | m, a, b :: bs => writeBytes (writeByte m a b) (a + 1) bs

/-- The little-endian number of `n` bytes at `a` (R7). -/
def readLe (m : Memory) (a n : Nat) : Nat := leNat (readBytes m a n)

/-- `n` bytes at `a` made the little-endian number `v` (R7). -/
def writeLe (m : Memory) (a n v : Nat) : Memory := writeBytes m a (leBytes n v)

/-- Every listed byte from `lo` to before `hi` removed: the range reads as unwritten memory. -/
def clearRange (m : Memory) (lo hi : Nat) : Memory := m.filter (fun c => decide (c.1 < lo) || decide (hi ≤ c.1))

end Sys2Proof.Machine
end

