-- ==== Sys2Proof/Machine/StateA.lean ====
section
/-!
DEFINITION. State of the module supervisor and the cells (01), the Gate (12), the DIC and Ember (13), the journal engine and
the event recorder (11), the maintenance token, COMMISSION and the fault injector (17), and of the buses (01 R21 to R24, 17 R525).
The value after `:=` is the field's value at reset: the register tables' value where they give one, else the one
that the assumption log names (log 2).
-/

namespace Sys2Proof.Machine

/-- Five regions of the module (R12), by region number. -/
inductive Region where
  | hearth | kiln | rick | bank | cord
deriving DecidableEq, Repr

/-- A corrected error that a cell has had (R15): block, cell, row and TIME. -/
structure CeRec where
  block : Byte
  cell  : Nat
  row   : Nat
  time  : Nat
deriving DecidableEq, Repr

/-- A retired cell of the retirement map (R18). -/
structure Retired where
  block : Byte
  cell  : Nat
  row   : Nat
deriving DecidableEq, Repr

/-- The module supervisor (01 R25 to R40) and the cells it keeps account of (R14 to R18). -/
structure Sup where
  /-- SUP_REGION_FAULT: bit r, region r has isolated a block. -/
  regionFault   : BitVec 5 := 0
  /-- Isolated blocks (R13); SUP_ISO_x shows them. -/
  isolated      : List Byte := []
  /-- SUP_LAST_FAULT and SUP_FS_CAUSE (R39, R40). -/
  lastFault     : DWord := 0
  fsCause       : DWord := 0
  ceCount       : Word := 0
  retiredCount  : Word := 0
  /-- SUP_STATUS.FSPREV and CLKHOLDPREV. -/
  fsPrev        : Bool := false
  clkHoldPrev   : Bool := false
  /-- Moments (ns of the RTC's oscillator, R556) of the automatic restarts of the last 60 minutes. -/
  autoRestarts  : List Nat := []
  /-- The module is fail-silent (R25), since `fsAt`. -/
  failSilent    : Bool := false
  fsAt          : Nat := 0
  /-- A third automatic restart was made: it stays fail-silent (R27). -/
  heldSilent    : Bool := false
  /-- The other of two simultaneous chip-level errors (R26): bits 63:32 of its cause. -/
  simultaneous  : Option Word := none
  /-- Events to be posted at the next start (R547, R352, R438): code, block, data. -/
  atStart       : List EvRec := []
  /-- Regions held in reset (R25, R343, R351). -/
  kilnHeld      : Bool := true
  rickHeld      : Bool := true
  bankHeld      : Bool := true
  cordHeld      : Bool := true
  /-- Bank waits for the MRAM burst in progress before its reset (R25). -/
  bankDraining  : Bool := false
  /-- Released processors (R30): the runtime, the Rick processor, Cord firmware (the microcode: SCL_CTRL.RUN). -/
  runtimeUp     : Bool := false
  rickUp        : Bool := false
  cordUp        : Bool := false
  /-- FAULT is lit red (R27, R31, R485). -/
  faultLed      : Bool := false
  /-- Retirement map and what it leaves (R18): spare rows of the 16 image banks, of the five processor SRAMs, ways
  of the two L2 and of the system cache. -/
  retireMap     : List Retired := []
  imgRows       : List Nat := List.replicate 16 8
  procRows      : List Nat := List.replicate 5 4
  l2Ways        : List Nat := [2, 2]
  sysWays       : Nat := 2
  ceHist        : List CeRec := []
deriving DecidableEq, Repr

/-- A rule of the Gate, staged or active (R399): GATE_gRr_ADDR and GATE_gRr_PERM. -/
structure GateRule where
  addr : DWord := 0
  perm : Word := 0
deriving DecidableEq, Repr

/-- A fault record (R406): GATE_FLT_ADDR, GATE_FLT_INFO, GATE_FLT_TIME. -/
structure GateFault where
  addr : DWord
  info : DWord
  time : DWord
deriving DecidableEq, Repr

/-- The Gate controller (12). -/
structure Gate where
  /-- Staged and active rules: rule r of gate g at 16 g + r. -/
  staged      : List GateRule := List.replicate 96 {}
  active      : List GateRule := List.replicate 96 {}
  /-- MOPEN staged (GATE_CFG), in force, and whether a commit has cleared it since reset (R400). -/
  mopenStaged : Bool := true
  mopen       : Bool := true
  mopenShut   : Bool := false
  /-- The applied epoch (GATE_EPOCH). -/
  epoch       : Word := 0
  faultCount  : Word := 0
  faultLost   : Word := 0
  perrCount   : Word := 0
  /-- Fault records, oldest first, at most 16. -/
  faults      : List GateFault := []
  /-- The last recorded fault (0x8010.04). -/
  lastFault   : Option GateFault := none
  badRule     : Bool := false
  badGate     : Nat := 0
  badRuleNo   : Nat := 0
  intStatus   : Word := 0
  intMask     : Word := 0
  /-- Tracking: GATE_TRK_CTRL.EN and BUSY, INDEX, the windows, the dirty pages in rising order. -/
  trkEn       : Bool := false
  trkBusy     : Bool := false
  trkIndex    : Nat := 0
  windows     : List DWord := List.replicate 8 0
  dirty       : List Nat := []
  /-- Rules isolated for parity (16 g + r) and the TIMEs of their parity errors (R416). -/
  perr        : List Nat := []
  perrHist    : List (Nat × Nat) := []
  /-- Requests accepted under an earlier epoch and not complete (R408). -/
  oldPending  : Nat := 0
  /-- mgatetag of the eight Kiln cores (R398). -/
  tags        : List Nat := List.replicate 8 0
deriving DecidableEq, Repr

/-- The DIC (13 R420 to R430, R442). -/
structure Dic where
  /-- Pending and mask words, one bit a source. -/
  pend      : BitVec 1024 := 0
  mask      : BitVec 1024 := 0
  /-- DIC_ROUTEs that differ from 0, by source, and DIC_THRESHt of the nine targets. -/
  routes    : List (Nat × Word) := []
  thresh    : List Nat := List.replicate 9 15
  /-- DIC_RELc: waiting entries (OP, TASK) of the eight cores, oldest first, at most 4 each. -/
  rel       : List (List (Nat × Nat)) := List.replicate 8 []
  ringCount : DWord := 0
  stalls    : Word := 0
  /-- The doorbell queue of 32 (R421): the entries it held at `queueAt`; one leaves each CYCLE cycle. -/
  queueLen  : Nat := 0
  queueAt   : Nat := 0
  /-- Kiln cores in IDLE (R432), one bit a core. -/
  idle      : BitVec 8 := 0
deriving DecidableEq, Repr

/-- How far a sleep request has gone (R435), and a wake past its digest check (R437). -/
inductive SleepStep where
  | none | taken | inWfi | resumed
deriving DecidableEq, Repr

/-- Power state of the module (R431), by code. -/
inductive Power where
  | run | entering | banked | waking
deriving DecidableEq, Repr

/-- Ember (13 R431 to R443). -/
structure Emb where
  state       : Power := .run
  resumed     : Bool := false
  /-- EMB_SLEEP_STATUS.RESULT. -/
  result      : Nat := 0
  wakeEn      : Word := 0
  cause       : BitVec 5 := 0
  watchIdx    : Nat := 0
  lioEdge     : Word := 0
  resume      : DWord := 0
  bankCount   : Word := 0
  /-- EMB_BANK_TIME in ns. -/
  bankNs      : Nat := 0
  rdigest     : List DWord := List.replicate 4 0
  intStatus   : Word := 0
  intMask     : Word := 0
  watch       : List Word := List.replicate 32 0
  /-- The wake latch (R435): conditions recorded since the request was taken. -/
  latch       : BitVec 5 := 0
  step        : SleepStep := .none
  /-- Moment of the step (in WAKING: the ns spent in BANKED), and TIME at which BANKED was entered. -/
  stepAt      : Nat := 0
  bankedAt    : Nat := 0
  /-- EMB_CAUSE bits 4:0 at the last wake (0x8020.03). -/
  lastCause   : Nat := 0
  /-- A PROMOTE frame with ACTION 0 that the Flue block keeps for the runtime (R434). -/
  promote     : Option PromoteP := none
deriving DecidableEq, Repr

/-- A record that waits at the event recorder, with its continuation records (R382). -/
abbrev EvGroup := List EvRec

/-- The token bucket of one event code (R387), for codes whose register or account differs from the reset state.
`nano` counts billionths of a token as at `at`. -/
structure Bucket where
  code       : Nat
  cfg        : Word
  nano       : Nat
  at_        : Nat
  suppressed : Nat
deriving DecidableEq, Repr

/-- One posting window's data words (R386). -/
structure Window where
  data : List Word := List.replicate 4 0
deriving DecidableEq, Repr

/-- The event recorder (11 R381 to R394, R544). -/
structure Evr where
  /-- Records waiting, at most 64; the supervisor's own path; the groups are kept whole. -/
  queue      : List EvRec := []
  supQueue   : List EvRec := []
  /-- The next sequence number (EVR_HEAD). -/
  head       : Nat := 1
  lost       : Word := 0
  suppressed : Word := 0
  /-- The global bucket, in billionths of a record as at `gAt` (EVR_GTOKENS). -/
  gNano      : Nat := 65536000000000
  gAt        : Nat := 0
  buckets    : List Bucket := []
  /-- Postings refused by the global bucket or lost since the last loss record. -/
  lossCount  : Nat := 0
  rlen       : Bool := true
  /-- 0x1800.04 in force (R388). -/
  hostrl     : Bool := false
  intStatus  : Word := 0
  intMask    : Word := 0
  windows    : List Window := List.replicate 3 {}
  /-- Slots with a bad CRC that the scan counted (R383). -/
  badSlots   : Nat := 0
deriving DecidableEq, Repr

/-- One journal record (R371); `delta` and `snap` carry their bytes. -/
inductive JRec where
  | delta (task : Nat) (commit : Nat) (ds : List Delta)
  | commit (task : Nat) (commit : Nat) (inst : Nat) (bytes : Nat)
  | snapData (commit : Nat) (offset : Nat) (data : List Byte)
  | snapEnd (commit : Nat) (retLen : Nat)
  | swap (commit : Nat) (newId oldId : Nat) (base : Nat)
deriving DecidableEq, Repr

/-- Use of a segment (R371). -/
inductive SegKind where
  | free | log | snapshot
deriving DecidableEq, Repr

/-- One of the 192 journal segments (R371). -/
structure JSeg where
  kind   : SegKind := .free
  gen    : Nat := 0
  first  : Nat := 0
  layout : Nat := 0
  used   : Nat := 64
  recs   : List JRec := []
deriving DecidableEq, Repr

/-- A commit that the engine has numbered and not yet made durable (R372). -/
structure JPending where
  commit : Nat
  task   : Nat
  inst   : Nat
  ds     : List Delta
  /-- Its DELTA records have completed. -/
  deltas : Bool
  /-- It is a SWAP record of its own commit (R376): NEWID, OLDID, BASE. -/
  swap   : Option (Nat × Nat × Nat)
deriving DecidableEq, Repr

/-- A seasoning or snapshot pass in progress (R376, R377): its base, its size, what it is for. -/
structure JPass where
  base : Nat
  size : Nat
  cold : Bool
deriving DecidableEq, Repr

/-- The journal engine and the MRAM interface (11 R369 to R380, R393). -/
structure Jrn where
  segs       : List JSeg := List.replicate 192 {}
  /-- Allocation count, the segment allocated last, the log segment in use, the copy of the directory written next. -/
  gen        : Nat := 0
  lastSeg    : Nat := 191
  logSeg     : Option Nat := none
  dirCopy    : Bool := false
  /-- The last commit number given, and the last durable one (JRN_COMMIT). -/
  given      : Nat := 0
  durable    : Nat := 0
  pending    : List JPending := []
  /-- Base of the current snapshot (JRN_SNAP_BASE), and C of R377. -/
  snapBase   : Nat := 0
  since      : Nat := 0
  /-- The commit bucket in billionths of a KiB as at `tokAt` (JRN_TOKENS). -/
  tokNano    : Nat := 32768000000000
  tokAt      : Nat := 0
  /-- Coalescing mode, its buffer, the moment its oldest byte was handed over, the largest lag in ms. -/
  coalescing : Bool := false
  buffer     : List Delta := []
  bufSince   : Nat := 0
  maxLag     : Nat := 0
  pass       : Option JPass := none
  paused     : Bool := false
  host       : Bool := false
  cmdErr     : Bool := false
  wear       : DWord := 0
  passes     : Word := 0
  wrErr      : Word := 0
  intStatus  : Word := 0
  intMask    : Word := 0
  /-- Retries of the MRAM write in progress (R370). -/
  retries    : Nat := 0
  /-- The write bucket of the configuration area, in units of a twelve-thousand-millionth of a write (R380). -/
  cfgNano    : Int := 7200000000000
  cfgAt      : Nat := 0
deriving DecidableEq, Repr

/-- A holder of the maintenance token (R528): its activity, module, argument and session. -/
structure Holder where
  code    : Nat
  slot    : Slot
  arg     : Nat
  session : Nat
deriving DecidableEq, Repr

/-- A rule of the fault injector (R535 to R537) and its account within a run. -/
structure FijRule where
  cfg    : Word := 0
  match_ : Word := 0x0000FFFF
  sel    : Word := 0
  arg    : Word := 0x00640000
  hits   : Word := 0
  miss   : Word := 0
  /-- Matching frames seen and frames acted on in this run, and the rule's LFSR (R536). -/
  seen   : Nat := 0
  acted  : Nat := 0
  lfsr   : Word := 0
deriving DecidableEq, Repr

/-- What a corrupting rule flips in a frame on its way out (R537): byte and bit, and whether the FCS is formed after it. -/
structure Flip where
  byte   : Nat
  bit    : Nat
  fixFcs : Bool
deriving DecidableEq, Repr

/-- A Flue frame, and a Folmonet frame, on their way out of a lane or a port. -/
structure FlueTx where
  f    : FlueFrame
  flip : Option Flip := none
deriving DecidableEq, Repr
structure FolTx where
  f    : FolFrame
  flip : Option Flip := none
deriving DecidableEq, Repr

/-- A frame that a reorder rule holds (R537): on transmit the frame itself, on receive the command that carries it. -/
inductive HeldFrame where
  | flueTx (lane : Nat) (f : FlueFrame)
  | folTx (port : Nat) (f : FolFrame)
  | flueRx (lane : Nat) (f : FlueFrame)
  | folRx (port : Nat) (f : FolFrame)
deriving DecidableEq, Repr

/-- Maintenance token, COMMISSION and fault injector (17). -/
structure Mnt where
  holders   : List Holder := []
  busyCount : Word := 0
  /-- FIJ_COMM.COMMISSION, the COMMISSION line (R533). -/
  comm      : Bool := false
  running   : Bool := false
  stopCause : Nat := 0
  haltWr    : Bool := false
  duration  : Word := 0x3C
  seed      : Word := 1
  elapsed   : Nat := 0
  startedAt : Nat := 0
  rules     : List FijRule := List.replicate 12 {}
  /-- Frames held by rule (R537), with the moment they were held. -/
  held      : List (Nat × HeldFrame × Nat) := []
deriving DecidableEq, Repr

/-- A request that passed its checks, was answered RETRY so many times (R525) and waits for its hold-off. -/
structure Retry where
  req     : BusReq
  retries : Nat
deriving DecidableEq, Repr

/-- How a bus request ended. -/
inductive BusEnd where
  /-- Complete, with the data read (none for a write) and whether it was poisoned (R16). -/
  | done (data : List Byte) (poisoned : Bool)
  /-- Access fault or error response: by the Gate, by decode (R36), by R9, by an isolated block (R22). -/
  | gateFault
  | decodeError
  | accessFault
  | blockError
  /-- RETRY: to be issued again after a hold-off of so many FABRIC cycles (R525). -/
  | retry (holdOff : Nat)
  /-- Not issued: the master's limit (R24) or the boundary's credits (R21) are used up. -/
  | waits
deriving DecidableEq, Repr

/-- A response on its way to a master. -/
structure BusRsp where
  master : Master
  how    : BusEnd
deriving DecidableEq, Repr

/-- Half of a 64-bit register that a master's access leaves: the low half of a write (R10), the high half of a captured read
(R355); the register's address. -/
structure Latch where
  master : Master
  addr   : Nat
  half   : Word
deriving DecidableEq, Repr

/-- Buses: requests that wait after RETRY, write latches (R10) and read snapshots (R355), by master. -/
structure Bus where
  retries : List Retry := []
  latches : List Latch := []
  snaps   : List Latch := []
deriving DecidableEq, Repr

end Sys2Proof.Machine
end

