-- ==== Sys2Proof/Machine/StateB.lean ====
section
/-!
DEFINITION. State of the power and reset supervisor and the front panel (15), of clocks and time (10), of local I/O (14) and of
the pair and claim control block (02). The value after `:=` is the field's value at reset (register tables, else log 2).
-/

namespace Sys2Proof.Machine

/-- One power feed (R469): its state and its voltage in 10 mV. -/
structure FeedSt where
  st   : Feed := .lost
  mv10 : Half := 0
deriving DecidableEq, Repr

/-- Module hardware (15). -/
structure Hw where
  /-- Power-on reset has been released (R465). -/
  porReleased : Bool := false
  /-- SEATED_N reads seated (HPW_STATUS.SEATED resets to 1). -/
  seated      : Bool := true
  /-- SEATED_N has changed since the last release of power-on reset (R473). -/
  seatChanged : Bool := true
  /-- Rack straps (R466); the reset values are those of slot A. -/
  slot0       : Bool := false
  slot1       : Bool := false
  slotP       : Bool := true
  /-- Keyswitch, debounced (R481), and ejector lever, debounced and open (R474). -/
  key         : KeyPos := .run
  ejectOpen   : Bool := false
  feedA       : FeedSt := {}
  feedB       : FeedSt := {}
  /-- Moment at which both feeds became LOST (R472). -/
  bothLost    : Option Nat := none
  /-- HPW_STATUS.HOLDUP. -/
  holdup      : Bool := true
  powerNow    : Half := 0
  powerPeak   : Half := 0
  junction    : Half := 0
  board       : Half := 0
  resetCause  : Nat := 0
  cntInsert   : Word := 0
  cntFeedLoss : Word := 0
  flags       : Word := 0
  /-- Power has failed (R472): the rails have fallen. -/
  powerDown   : Bool := false
  /-- End of the lamp test (R483). -/
  lampUntil   : Nat := 0
  /-- Event 0x0C0A has been raised for the ejector request in force. -/
  ejectTold   : Bool := false
  /-- Hours of operation in ns (0x1000.0B). -/
  onNs        : Nat := 0
deriving DecidableEq, Repr

/-- One judged clock source (R342). -/
structure SrcSt where
  judged  : Bool := false
deriving DecidableEq, Repr

/-- What the clock start waits for (R343): power-on reset, XT1, the loops, the start sequence; `run` from then on. -/
inductive ClkPhase where
  | idle | xt1 | loops | ready | run
deriving DecidableEq, Repr

/-- Clock generator, DVFS sequencer, TIME, 1588 servo and RTC (10). -/
structure Clk where
  -- Hearth and its sources
  xt1        : SrcSt := {}
  firc       : SrcSt := {}
  pllc       : SrcSt := {}
  pllf       : SrcSt := {}
  plln       : SrcSt := {}
  xt2        : SrcSt := {}
  sirc       : Bool := false
  phase      : ClkPhase := .idle
  /-- Moment of the last failure declared (R351). -/
  failAt     : Nat := 0
  lastFail   : Nat := 0
  /-- CLOCK-HOLD entries of the last 60 minutes of the RTC's oscillator, and whether R353 holds the module. -/
  holds      : List Nat := []
  holdLimit  : Bool := false
  holdCount  : Word := 0
  divf       : Word := 0x180C0604
  trim       : Word := 0x40000200
  /-- 0x1800.06 in force. -/
  trimHost   : Bool := false
  fircCnt    : Word := 0
  hckInt     : Word := 0
  hckMask    : Word := 0
  -- DVFS sequencer
  op         : Nat := 0
  target     : Nat := 0
  stepTo     : Option Nat := none
  supplyUp   : Bool := false
  dvfsTimeout : Bool := false
  kdvSteps   : Word := 0
deriving DecidableEq, Repr

/-- TIME, its discipline and the calendar clock (10 R355 to R363, R546). -/
structure Tim where
  time       : DWord := 0
  frac       : Word := 0
  incr       : DWord := 0x800000000
  /-- A write of TIM_SET, or of TIM_INCR, that the next tick takes. -/
  setPend    : Option DWord := none
  /-- TIME_SOURCE (R546). -/
  source     : Nat := 0
  /-- 1588: selected master, agreeing measurements, last offset, locked. -/
  master     : Option DWord := none
  agreeing   : Nat := 0
  lastOffset : Int := 0
  locked     : Bool := false
  /-- Moment of the last change of the increment in ACTIVE (rate limit of R358). -/
  incrAt     : Nat := 0
  -- RTC
  rtc        : DWord := 0
  /-- Part of a nanosecond, in 2 to the minus 24, and the phase of XT2 against TIME ticks. -/
  rtcFrac    : Nat := 0
  rtcPhase   : Nat := 0
  rtcLost    : Bool := true
  onSirc     : Bool := false
  backupLow  : Bool := false
  alarm      : DWord := 0
  rtcInt     : Word := 0
  rtcMask    : Word := 0
deriving DecidableEq, Repr

/-- State of a field-supply group (R451), by code. -/
inductive GroupSt where
  | good | low | tripped | ready
deriving DecidableEq, Repr

/-- One local I/O group. -/
structure LioGroup where
  st      : GroupSt := .tripped
  missing : Bool := true
  mv10    : Half := 0
  /-- The trip sequence: the next channel to be switched off (4: at its end). -/
  nextOff : Nat := 4
  /-- The 50 ms are met and the group becomes GOOD at the next write mark (R453). -/
  recover : Bool := false
  /-- A re-enable by command acts at the next write mark. -/
  reEnable : Bool := false
  /-- Since the start the group has not yet left TRIPPED (R451). -/
  first   : Bool := true
  /-- Input bits and quality as last latched (R447). -/
  held    : Nat := 0
deriving DecidableEq, Repr

/-- Local inputs and outputs (14). -/
structure Lio where
  g0         : LioGroup := {}
  g1         : LioGroup := {}
  cfg        : Word := 0
  policy     : Word := 0x3022
  policyNext : Option Word := none
  cycle      : DWord := 7
  map        : DWord := 0
  /-- Live filtered inputs. -/
  inputs     : Half := 0
  latch      : Byte := 0
  limit      : Byte := 0
  thermal    : Byte := 0
  /-- Channels whose switch the trip sequence or the re-enable ramp holds off. -/
  off        : Byte := 0xFF
  missed     : Nat := 0
  missedCnt  : Word := 0
  tripCount  : Word := 0
  flags      : Word := 0
  /-- An instance of the local I/O task has committed since the previous write mark; and since the restart. -/
  committed  : Bool := false
  sinceRst   : Bool := false
  /-- The latch holds the substitute byte. -/
  subst      : Bool := false
  /-- CTRL byte of the task's previous commit (R448), and groups named by REARM for the next one. -/
  ctrlPrev   : Byte := 0
  rearmReq   : Nat := 0
deriving DecidableEq, Repr

/-- What this module knows of another slot (02 R66, R94; 03 R119). -/
structure Peer where
  present  : Bool := false
  /-- Last reported role; none: none heard. -/
  role     : Option Role := none
  sub      : Sub := .none
  key      : KeyPos := .run
  /-- STATUS FLAGS as last reported. -/
  flags    : Byte := 0
  epoch    : Word := 0
  progid   : Word := 0
  /-- Moment of the last Flue frame, and of the last STATUS frame with START set. -/
  heardAt  : Option Nat := none
  startAt  : Option Nat := none
  dead     : Bool := false
  /-- Its Damper as judged here (R57). -/
  toggling : Bool := false
  edges    : Nat := 0
  lastEdge : Nat := 0
  togAt    : Nat := 0
  /-- Moment of the last claim message from it, and since when its STATUS frames have reported a role other than ACTIVE. -/
  claimAt  : Option Nat := none
  notActAt : Option Nat := none
  /-- When it was last seen in ACTIVE, STANDBY or UPDATE (R67). -/
  busyAt   : Option Nat := none
  /-- PAIRCOMPAT and Cord identification that it gave at a join. -/
  compat   : Half := 0
  legalId  : List Byte := []
  legalCfg : List Byte := []
  /-- Event 0x0107 has been raised for the toggling in progress. -/
  misTold  : Bool := false
deriving DecidableEq, Repr

/-- A pending planned switchover (R86). -/
structure SwOver where
  beat   : Nat
  epoch  : Word
  acked  : Bool
  /-- The holder session that commanded it; asked by the keyswitch or the lever. -/
  service : Bool
deriving DecidableEq, Repr

/-- The switch message that a standby holds (R86, R552). -/
structure SwSeen where
  beat  : Nat
  epoch : Word
  acked : Bool
deriving DecidableEq, Repr

/-- Pair and claim control (02). -/
structure Pair where
  role         : Role := .offline
  sub          : Sub := .none
  epoch        : Word := 0
  epochSeen    : Word := 0
  stationEpoch : Word := 0
  /-- Epochs that this module has itself claimed (R64). -/
  claimed      : List Word := []
  cmdAbort     : Half := 0
  cmdState     : Nat := 0
  cmdLast      : Byte := 0
  cfg          : Word := 0x01F40020
  cfgNext      : Option Word := none
  peerA        : Peer := {}
  peerB        : Peer := {}
  peerC        : Peer := {}
  takeTime     : DWord := 0
  takeCount    : Word := 0
  intStatus    : Word := 0
  intMask      : Word := 0
  -- Damper and output enable
  armed        : Bool := false
  driving      : Bool := false
  outEn        : Bool := false
  lossCount    : Word := 0
  glitchCount  : Word := 0
  -- claim record (R52)
  recSeq       : Word := 0
  recSecond    : Bool := false
  recBusy      : Bool := false
  recFailed    : Bool := false
  fenceMark    : Bool := false
  -- claim message (R54): repeats left, its reason and members
  claimLeft    : Nat := 0
  claimReason  : Nat := 0
  claimMembers : BitVec 3 := 0
  /-- The last new epoch was taken at this moment (R78). -/
  epochAt      : Nat := 0
  -- start and takeover
  joinAt       : Option Nat := none
  /-- Slot C's wait of 1.5 µs after a loss declaration (R70). -/
  lossAt       : Option Nat := none
  /-- A takeover whose event 0x0100 waits for the output enable (R93): old and new epoch, when. -/
  takeover     : Option (Word × Word × Nat) := none
  switch       : Option SwOver := none
  switchSeen   : Option SwSeen := none
  /-- After a switchover that SERVICE or the lever asked for, the module goes OFFLINE. -/
  leaveAfter   : Bool := false
  /-- It has left ACTIVE at a switch point and has not heard the new active's claim yet. -/
  leaving      : Bool := false
  /-- Moment at which the last takeover's loss was declared (R72). -/
  tookAt       : Option Nat := none
  /-- Event 0x0108 of the SERVICE request in force has been raised (R553). -/
  serviceTold  : Bool := false
  /-- The slot C module is to be returned to RESERVE (R81); self-test of the reserve in progress since (R80). -/
  returnC      : Bool := false
  selfTest     : Option Nat := none
deriving DecidableEq, Repr

end Sys2Proof.Machine
end

