-- ==== Sys2Proof/Machine/StateC.lean ====
section
/-!
DEFINITION. State of the Flue (03), the cycle engine and the program (04), and online change and forces (05).
The value after `:=` is the field's value at reset (register tables, else log 2).
-/

namespace Sys2Proof.Machine

/-- One Flue lane (R116, R135). -/
structure Lane where
  locked   : Bool := false
  up       : Bool := false
  upSince  : Nat := 0
  tx       : DWord := 0
  rx       : DWord := 0
  crcErr   : Word := 0
  naks     : Word := 0
  retx     : Word := 0
  linkDown : Word := 0
  /-- Frames waiting to leave. -/
  out      : List FlueTx := []
deriving DecidableEq, Repr

/-- An IMAGE message in assembly on the standby (R103). -/
structure Assembly where
  task  : Nat
  inst  : DWord
  parts : Nat
  got   : List ImageP
deriving DecidableEq, Repr

/-- A digest that waits for the other unit's (R108): whose it is says the list it stands in. -/
structure DigestRec where
  p  : DigestP
  at_ : Nat
deriving DecidableEq, Repr

/-- A relayed frame that waits at the standby for its transmit time (R122). -/
structure RelayWait where
  e  : RelayE
  at_ : Nat
deriving DecidableEq, Repr

/-- A frame kept for retransmission (R122), with the beat in which it was sent. -/
structure HeldTx where
  beat : Nat
  f    : FlueFrame
deriving DecidableEq, Repr

/-- Sequences of a module on the Flue (R550): the next SEQ toward A, B, C and all. -/
structure Seqs where
  toA : Word := 0
  toB : Word := 0
  toC : Word := 0
  all : Word := 0
deriving DecidableEq, Repr

/-- What a receiver keeps of one sender (R550): highest SEQ accepted toward this slot, and toward all; the gaps in the first that have not
been filled, each its first SEQ and how many. -/
structure RxSeq where
  own  : Option Word := none
  all  : Option Word := none
  gaps : List (Nat × Nat) := []
deriving DecidableEq, Repr

/-- The resync procedure (R127, R554), as led by the active and as followed by the standby. -/
structure Resync where
  phase    : Nat := 0
  since    : Nat := 0
  /-- Pages (of 4 KiB, by address / 4096) still to send, in phase 2 and in the set of phases 3 and 4; the total of phase 2. -/
  pages    : List Nat := []
  total    : Nat := 0
  /-- Tasks in flight at the closing boundary whose pages are sent again (trailing), and sets whose answer is awaited. -/
  trailing : List Nat := []
  awaiting : List (Nat × Word) := []
  arrived  : List Nat := []
  /-- Sets marked by RESYNC-CTRL and not yet answered (standby): task and ARG. -/
  marked   : List (Nat × Word) := []
  told     : Bool := false
  /-- RESYNC entered because of a divergence: phase 1 waits for the active's self-tests (R112). -/
  byDiv    : Bool := false
  /-- RESYNC entered on the active's command (R164). -/
  byCmd    : Bool := false
  /-- The whole set of copied entries has been sent, or taken (R330). -/
  whole    : Bool := false
deriving DecidableEq, Repr

/-- The Flue block (03). -/
structure Flu where
  lane0     : Lane := {}
  lane1     : Lane := {}
  path      : Nat := 0
  cfg       : Word := 0x00064330
  cfgNext   : Option Word := none
  syncTasks : BitVec 16 := 0
  syncEvts  : Bool := false
  resync    : Resync := {}
  alignOk   : Bool := false
  /-- Standby: own boundary minus the active's in ns (R114), once measured. -/
  alignErr  : Option Int := none
  divTask   : Nat := 0
  divInst   : DWord := 0
  digLocal  : DWord := 0
  digPeer   : DWord := 0
  /-- TIMEs of the divergences of the last 24 h, the hold, and the lifetime count (R113). -/
  divTimes  : List Nat := []
  divHold   : Bool := false
  divLife   : Word := 0
  txLast    : Word := 0
  txPeak    : Word := 0
  txNow     : Nat := 0
  rxLast    : Word := 0
  rxPeak    : Word := 0
  rxNow     : Nat := 0
  intStatus : Word := 0
  intMask   : Word := 0
deriving DecidableEq, Repr

/-- The Flue's queues and accounts: sequences, held frames, assemblies, digests, relays (03 R103 to R122, R550). -/
structure FluQ where
  seqs     : Seqs := {}
  rxA      : RxSeq := {}
  rxB      : RxSeq := {}
  rxC      : RxSeq := {}
  held     : List HeldTx := []
  images   : List Assembly := []
  /-- Instances whose END has come and that wait for their release (an earlier instance still runs). -/
  relays   : List RelayWait := []
  own      : List DigestRec := []
  peer     : List DigestRec := []
  missed   : Nat := 0
  /-- Self-test after a divergence (R111): running since; passed. -/
  testSince : Option Nat := none
  testPass  : Bool := true
  /-- Bytes of OBJWRITE and HOSTVAR sections sent in this beat (R102). -/
  objBytes : Nat := 0
deriving DecidableEq, Repr

/-- States of the program (R163), by code. -/
inductive PState where
  | none | stopped | starting | running
deriving DecidableEq, Repr

/-- Working copy of a task descriptor's configuration part and bitmaps (R145, R146). -/
structure Desc where
  kind     : Nat := 0xFF
  prio     : Nat := 0
  policy   : Nat := 0
  cores    : BitVec 8 := 0
  trigger  : Nat := 0xFFFF
  period   : Nat := 0
  offset   : Nat := 0
  latch    : Nat := 0
  deadline : Nat := 0
  entry    : Nat := 0
  data     : Nat := 0
  segmask  : BitVec 8 := 0
  inPages  : BitVec 1024 := 0
  outPages : BitVec 1024 := 0
deriving DecidableEq, Repr

/-- One task: its working descriptor, its status part (R147) and its instance in flight. -/
structure Task where
  desc      : Desc := {}
  inst      : DWord := 0
  st        : Nat := 0
  outcome   : Nat := 0
  first     : Bool := false
  lastExec  : Word := 0
  maxExec   : Word := 0
  overruns  : Word := 0
  skips     : Word := 0
  commitAt  : Word := 0
  /-- An instance is in flight: its start (start boundary or release), its release, its deadline, whether extended, the
  releases skipped during its run, the next release to skip, threads still running, stops issued after a trap. -/
  inFlight  : Bool := false
  startAt   : Nat := 0
  relAt     : Nat := 0
  dueAt     : Nat := 0
  extended  : Bool := false
  missed    : Bool := false
  skipRun   : Nat := 0
  skipNext  : Nat := 0
  threads   : BitVec 8 := 0
  trapped   : Bool := false
  reinit    : Bool := false
  /-- The policy it was released with (R141). -/
  pol       : Nat := 0
  /-- Start boundary at which the last instance was started or skipped (beat number). -/
  lastStart : Option Nat := none
  /-- A latch is due at this moment of the running instance's start (R148). -/
  latchDue  : Option Nat := none
  /-- The cycle timestamp of the last update (R161). -/
  stamp     : DWord := 0
  /-- The last commit: the instance, and the beat in which it ended; none since the restart (R158). -/
  comInst   : DWord := 0
  comBeat   : Option Nat := none
  /-- Standby: the active's outcome of the instance in flight, when its DIGEST has come (R106). -/
  partner   : Option Nat := none
  /-- Command slots of a commit that wait for the active's DIGEST (R551). -/
  handWait  : Bool := false
  /-- Retained deltas that program-visible writes and forces have left for the commit (R331), and the threads'. -/
  pds       : List Delta := []
  /-- Number of the instance in flight, the digest of a commit in progress, and whether poisoned data suppressed it (R17). -/
  cur       : DWord := 0
  dig       : Option DigestP := none
  poison    : Bool := false
deriving DecidableEq, Repr

/-- A symbol table entry (R174). -/
structure Sym where
  id     : Word
  typ    : Nat
  flags  : Byte
  count  : Nat
  offset : Nat
  owner  : Nat
deriving DecidableEq, Repr

/-- A migration table entry (R174). -/
structure Mig where
  id      : Word
  op      : Nat
  oldType : Nat
  newType : Nat
  flags   : Byte
  oldOff  : Nat
  newOff  : Nat
  len     : Nat
  initOff : Nat
deriving DecidableEq, Repr

/-- A loaded program: what the runtime keeps of its image (R174, R175). -/
structure Prog where
  id       : Word
  codeLen  : Nat
  dataLen  : Nat
  retLen   : Nat
  syms     : List Sym
  migs     : List Mig
  init     : List Byte
  /-- The 80 descriptors and 64 trigger entries of the image. -/
  descs    : List Byte
  triggers : List Byte
  codeBase : Nat
  dataBase : Nat
  /-- Bytes of the Kindle image, which stands whole at codeBase. -/
  imgLen   : Nat
deriving DecidableEq, Repr

/-- A restart in progress (R165): cold or warm, whether step 3 is complete, and B0. -/
structure Restart where
  cold   : Bool
  begun  : Bool
  /-- The snapshot of a cold restart is durable (R376). -/
  snap   : Bool
  inited : Bool
  b0     : Option Nat
deriving DecidableEq, Repr

/-- The cycle engine (04). -/
structure Cyc where
  pstate    : PState := .none
  lastRst   : Nat := 0
  wdArmed   : Bool := false
  wdBeat    : Nat := 0
  releasing : Bool := false
  cmdAbort  : Half := 0
  cmdState  : Nat := 0
  cmdLast   : Byte := 0
  cfg       : Word := 0x40
  cfgNext   : Option Word := none
  beat      : DWord := 0
  beatTime  : DWord := 0
  /-- The moment of the last boundary, and LENGTH and POS of CYC_HYPER. -/
  beatAt    : Nat := 0
  hyper     : Nat := 1
  pos       : Nat := 0
  taskEn    : BitVec 16 := 0
  taskEnNext : Option (BitVec 16) := none
  taskFault : BitVec 16 := 0
  evtEn     : BitVec 64 := 0
  evtEnNext : Option (BitVec 64) := none
  evtPend   : BitVec 64 := 0
  evtFault  : BitVec 64 := 0
  stale     : BitVec 16 := 0
  staleEvt  : BitVec 64 := 0
  cntOvr    : Word := 0
  cntSkip   : Word := 0
  cntLost   : Word := 0
  lastOvr   : DWord := 0
  intStatus : Word := 0
  intMask   : Word := 0
deriving DecidableEq, Repr

/-- Values that a trigger entry's terms had at their owner's previous update (R160). -/
structure TrigPrev where
  entry : Nat
  vals  : List Nat
deriving DecidableEq, Repr

/-- Segments' cycle registers, tasks and the program (04). -/
structure Run where
  segs      : List Word := List.replicate 4 7
  tasks     : List Task := List.replicate 80 {}
  prog      : Option Prog := none
  restart   : Option Restart := none
  stopReq   : Bool := false
  trigPrev  : List TrigPrev := []
  /-- Triggers that fired with the last update of each owner, listed in its next TRIGGER section. -/
  fired     : List Nat := []
  /-- A program loaded other than by online change has not run yet: its first restart is a cold one (R163). -/
  freshLoad : Bool := false
  /-- PAIRVIEW section of the last IMAGE message taken: what the standby's program reads of the pair (R100). -/
  view      : List Byte := []
  digestHost : Bool := false
  stationHost : Bool := false
deriving DecidableEq, Repr

/-- States of an online change (R176), by code. -/
inductive ChgSt where
  | idle | loading | measuring | precopy | ready | swap | done | refused | abandoned
deriving DecidableEq, Repr

/-- One force (R188): symbol identity, type, value. -/
structure Force where
  id  : Word
  typ : Nat
  val : List Byte
deriving DecidableEq, Repr

/-- Online change and forces (05). -/
structure Chg where
  st        : ChgSt := .idle
  /-- Image bytes transferred (0x1360.02 on the active, DATA frames on the standby), and the program read from them. -/
  image     : List Byte := []
  new       : Option Prog := none
  loadedOwn : Option Nat := none
  loadedPeer : Option Nat := none
  swapBeat  : DWord := 0
  reopen    : Option Nat := none
  estimate  : Word := 0
  lastDelta : Word := 0
  postponed : Nat := 0
  lastAbort : Half := 0
  remain    : Word := 0
  count     : Word := 0
  /-- Pages dirtied in each of the last four beats of MEASURING, newest first, and the largest weight so far, in KiB (R178). -/
  recent    : List (List Nat) := []
  measured  : Nat := 0
  /-- The first pre-copy pass is complete (R179). The standby takes part in the change, and is asked for the swap. -/
  passed    : Bool := false
  pair      : Bool := false
  goSent    : Bool := false
  goAcked   : Bool := false
  /-- Enable masks before the swap, restored by a postponement (R183), and whether they have been written to 0 for S. -/
  oldTaskEn : BitVec 16 := 0
  oldEvtEn  : BitVec 64 := 0
  closed    : Bool := false
  /-- In the swap beat: no instance in flight, tracking stopped, delta measured (R182); the copy is complete. -/
  quiesced  : Bool := false
  copied    : Bool := false
  /-- An instance overran into the swap beat, and event 0x0329 has not told it yet. -/
  extended  : Bool := false
  /-- Event tasks that the new descriptors remove or alter (R185). -/
  altered   : BitVec 64 := 0
  /-- Standby: the DONE frame has come: R, POSTPONED. -/
  doneR     : Option Nat := none
  forces    : List Force := []
  dropped   : Word := 0
deriving DecidableEq, Repr

end Sys2Proof.Machine
end

