-- ==== Sys2Proof/Machine/StateD.lean ====
section
/-!
DEFINITION. State of the field ports, segments and stations (06) and of Cord: mailbox, verification, legal objects, audit trail (07).
The value after `:=` is the field's value at reset (register tables, else log 2).
-/

namespace Sys2Proof.Machine

/-- Whom an answer goes to. -/
structure Client where
  path    : Path
  session : Nat
  tid     : Byte
  index   : Nat
  sub     : Nat
deriving DecidableEq, Repr

/-- One field port (R197, R231). -/
structure Port where
  up        : Bool := false
  cfg       : Word := 0x000A000C
  marks     : DWord := 0
  svc       : Word := 0x00050002
  svcNext   : Option Word := none
  cfgid     : Word := 0
  flipped   : Nat := 0
  cutAfter  : Nat := 0xFFFF
  /-- Through CYCLE-START frames of the present bus cycle (bit 0) and of the two before it; a cut is declared. -/
  through   : BitVec 3 := 0
  cut       : Bool := false
  cstx      : DWord := 0
  csrx      : DWord := 0
  /-- FPT_SFP without TXDIS, and TXDIS; the type not qualified has been reported for this insertion. -/
  sfp       : Byte := 0
  txdis     : Bool := false
  sfpTold   : Bool := false
  /-- Second of TIME in which the last TIME frame was sent. -/
  timeSec   : Nat := 0
  intStatus : Word := 0
  intMask   : Word := 0
  /-- Frames waiting to leave, and those that wait for the service window (R205). -/
  out       : List FolTx := []
  waiting   : List FolFrame := []
deriving DecidableEq, Repr

/-- The counters of one field port (R231). -/
structure PortCnt where
  tx        : DWord := 0
  rx        : DWord := 0
  crcErr    : Word := 0
  fcsErr    : Word := 0
  epochDisc : Word := 0
  stampDisc : Word := 0
  relayLate : Word := 0
  noInput   : Word := 0
  linkDown  : Word := 0
  otherDisc : Word := 0
deriving DecidableEq, Repr

/-- State of a segment (R218), by code. -/
inductive SegSt where
  | stopped | probing | running
deriving DecidableEq, Repr

/-- A start window (R63, R555): beats of its first CYCLE-START and of its last raise. -/
structure StartWin where
  firstCs : Option Nat
  raise   : Nat
  /-- A station epoch has raised the module's epoch in the bus cycle in progress. -/
  raised  : Bool
deriving DecidableEq, Repr

/-- One segment (R218). -/
structure Seg where
  st     : SegSt := .stopped
  since  : Nat := 0
  /-- The bus cycle in progress: beat of its start boundary. -/
  start  : Option Nat := none
  window : Option StartWin := none
  /-- Epoch of the last CYCLE-START sent (CSFLAGS.NEWEPOCH). -/
  csEpoch : Word := 0
deriving DecidableEq, Repr

/-- A station table entry (R226). -/
structure StCfg where
  flags   : Byte
  seg     : Nat
  pos     : Nat
  inOff   : Nat
  inLen   : Nat
  outLen  : Nat
  outOff  : Nat
  qOff    : Nat
  inSlot  : Nat
  subCnt  : Nat
  ioTask  : Nat
  outTask : Nat
  typeId  : Word
deriving DecidableEq, Repr

/-- State of a station at the module (R217), by code. -/
inductive StSt where
  | absent | configuring | present | mismatch
deriving DecidableEq, Repr

/-- One station of a segment that has been started: the working copy of its table entry (R219) and its status. -/
structure Station where
  no        : Nat
  cfg       : StCfg
  st        : StSt := .absent
  endNow    : Nat := 0
  lastStamp : Word := 0
  filter    : Word := 0
  gate      : Word := 0
  status    : Half := 0
  quality   : Byte := 0
  refusals  : Half := 0
  /-- An INPUT of the present bus cycle has been accepted; consecutive cycles with NODATA. -/
  got       : Bool := false
  noData    : Nat := 0
  delayA    : Word := 0
  delayB    : Word := 0
  cNoInput  : Word := 0
  cCrc      : Word := 0
  cRefuse   : Word := 0
  cDrop     : Word := 0
  cEnd      : Word := 0
  /-- Configuration writes not yet acknowledged, by transaction; service windows that remain. -/
  unacked   : List Byte := []
  windows   : Nat := 0
  probeEnd  : Nat := 0
  /-- OUTPUT frames of the present bus cycle have been sent or relayed (R73); the commit whose values were sent last. -/
  sent      : Bool := false
  sentCom   : Option DWord := none
deriving DecidableEq, Repr

/-- A GATE_RESET that waits for its station's answer (R220, R528). -/
structure GateRst where
  station : Nat
  tid     : Byte
  client  : Option Client
  /-- Forward number of the standby that sent it. -/
  forward : Option Word := none
deriving DecidableEq, Repr

/-- Folmonet: ports, segments, stations (06). -/
structure Fol where
  ports    : List Port := List.replicate 4 {}
  cnts     : List PortCnt := List.replicate 4 {}
  segs     : List Seg := List.replicate 4 {}
  stations : List Station := []
  gateRsts : List GateRst := []
  /-- Transaction number of the next SERVICE frame that the active sends of itself. -/
  tid      : Byte := 0
  /-- Dictionary requests of stations that a reorder rule had held and that the runtime has not served yet (R319): segment, frame. -/
  requests : List (Nat × FolFrame) := []
deriving DecidableEq, Repr

/-- State of a scale channel toward the law (R253), by code. -/
inductive ChSt where
  | unconfigured | test | inService
deriving DecidableEq, Repr

/-- Who takes an open load, of what, and the bytes so far (R243). -/
structure LoadJob where
  what : Nat
  len  : Nat
  data : List Byte
deriving DecidableEq, Repr

/-- A value of a legal object that differs from its default zero (R251). -/
structure LegalVal where
  index : Nat
  sub   : Nat
  val   : Nat
deriving DecidableEq, Repr

/-- The open Verifier session (R249, R250): its handle, credential slot and actor word. -/
structure VSess where
  handle : Word
  slot   : Nat
  actor  : Word
deriving DecidableEq, Repr

/-- A recorded Cord update in progress (R504): component, length, bytes. -/
structure CordUpd where
  comp : Nat
  len  : Nat
  data : List Byte
deriving DecidableEq, Repr

/-- Cord processor, mailbox, verification and legal objects (07). -/
structure Cord where
  /-- CSTATE: start scan complete. -/
  running   : Bool := false
  /-- The Cord firmware has started (instruction SRAM locked); the microcode store is locked. -/
  ilock     : Bool := false
  uclock    : Bool := false
  load      : Option LoadJob := none
  /-- Image as loaded, its versions, and the legal identification (R244). -/
  firmware  : List Byte := []
  microcode : List Byte := []
  fwVer     : Word := 0x00010004
  ucVer     : Word := 0x00010004
  legalId   : List Byte := []
  idBad     : Bool := false
  -- verification
  switchRaw : Bool := false
  switchSet : Bool := false
  changes   : Nat := 0
  session   : Bool := false
  vmode     : Bool := false
  sess      : Option VSess := none
  challenge : Option (List Byte × Nat) := none
  failures  : List Nat := []
  lockUntil : Nat := 0
  handles   : Nat := 0
  -- mailbox
  reqDoor   : Word := 0
  rspDoor   : Word := 0
  busy      : Bool := false
  mbxReq    : Word := 0
  mbxErr    : Word := 0
  /-- A response stands whose RSP_DOOR Kiln has not read yet (R422, source 72). -/
  rspUnread : Bool := false
  led       : Word := 3
  wdArmed   : Bool := false
  intStatus : Word := 0
  intMask   : Word := 0
deriving DecidableEq, Repr

/-- Legal store, channel states and read window publications (07 R237, R251, R253). -/
structure Legal where
  vals      : List LegalVal := []
  chans     : List ChSt := List.replicate 128 .unconfigured
  /-- Publication counts of status units 0 and 1. -/
  pub0      : Word := 0
  pub1      : Word := 0
  upd       : Option CordUpd := none
deriving DecidableEq, Repr

/-- Append engine of the audit trail (07 R255 to R262, R269); the entries are bytes of the MRAM. -/
structure Aud where
  used      : Nat := 0
  sealNo    : Word := 0
  lastCrc   : Word := 0
  inited    : Bool := false
  result    : Nat := 0
  stage     : List Word := List.replicate 16 0
  damaged   : Bool := false
  intStatus : Word := 0
  intMask   : Word := 0
deriving DecidableEq, Repr

end Sys2Proof.Machine
end

