-- ==== Sys2Proof/Machine/StateE.lean ====
section
/-!
DEFINITION. State of the scale engine (08), of the object dictionary with its sessions and configuration store (09), of update and
the key store (16), and the answers on their way out. The value after `:=` is the field's value at reset (register
tables, else log 2). Binary64 quantities are kept as their 64 bits.
-/

namespace Sys2Proof.Machine

/-- State of a physical channel (R308), by code. -/
inductive PhysSt where
  | idle | running | retired | spare
deriving DecidableEq, Repr

/-- A value of SCL_PARAM that differs from its reset value zero: offset j, subindex s. -/
structure ParamVal where
  j   : Nat
  sub : Nat
  val : DWord
deriving DecidableEq, Repr

/-- A command slot handed to Cord and its tag E (R290). -/
structure ScaleCmd where
  tag  : Nat
  cseq : Nat
  cmd  : Nat
  arg  : Int
deriving DecidableEq, Repr

/-- What a channel remembers of a record that it published (R298): LASTIDX, SEQ, ZERO, TARE, AUX. -/
structure PubHist where
  lastIdx : Word
  seq     : Word
  zero    : Int
  tare    : Int
  aux     : Int
deriving DecidableEq, Repr

/-- A record of another KIND that waits for the next record output (R292): its NET where it has one of its own, and GAP. -/
structure DueRec where
  kind : Nat
  net  : Option Int
  gap  : Bool
deriving DecidableEq, Repr

/-- The instrument's window between START and END, and its totals (R297). -/
structure Instrument where
  open_    : Bool := false
  /-- Sum and number of the outputs since START (checkweigher), and whether one of them held replaced samples. -/
  sum      : DWord := 0
  count    : Nat := 0
  gap      : Bool := false
  /-- Stable gross at START (batch). -/
  startG   : Int := 0
  /-- Articles and the zone of the last one; vehicles. -/
  total    : Nat := 0
  zone     : Nat := 0
  /-- Sum of the BATCH NET values; the belt's general total in value units (binary64). -/
  batchSum : Int := 0
  belt     : DWord := 0
  /-- Pulse count at the last output (belt). -/
  travel   : Option Nat := none
  /-- Axles of the vehicle so far, the sum of their values; sum and number of the plateau in progress. -/
  axle     : Nat := 0
  vehicle  : Int := 0
  plateau  : DWord := 0
  above    : Nat := 0
deriving DecidableEq, Repr

/-- One sample instant of one digitiser: its index, the samples by cell index, whether replaced (R276), fault flags. -/
structure Samp where
  idx : Nat
  xs  : List Int
  rep : Bool
  flt : Bool
deriving DecidableEq, Repr

/-- What a channel keeps of one of its stations (R275): DIGID and BSEQ of the last block accepted, the index its next sample has,
the last valid samples, and samples that wait for those of the channel's other stations. -/
structure DigSt where
  station : Nat
  digid   : Word
  bseq    : Word
  next    : Nat
  last    : List Int
  queue   : List Samp
deriving DecidableEq, Repr

/-- One physical channel of the scale engine (08). -/
structure ScCh where
  st       : PhysSt := .idle
  logical  : Option Nat := none
  selfchk  : Bool := false
  params   : List ParamVal := []
  digs     : List DigSt := []
  /-- Consecutive valid samples processed, to 3D + LD (R283); samples since the last replaced one, and since the last of a
  block with a fault flag (R276). -/
  filled   : Nat := 0
  sinceRep : Option Nat := none
  sinceFlt : Option Nat := none
  /-- CIC integrators and comb delays (R278). -/
  integ    : List DWord := List.replicate 3 0
  comb     : List DWord := List.replicate 3 0
  /-- x1, x2, y1, y2 of each biquad; the last biquad outputs, newest first (R279). -/
  bq1      : List DWord := List.replicate 4 0
  bq2      : List DWord := List.replicate 4 0
  ma       : List DWord := []
  /-- Mass, zero reference, initial zero (binary64); tare, whether preset, range. -/
  m        : DWord := 0
  z        : DWord := 0
  z0       : DWord := 0
  tare     : Int := 0
  preset   : Bool := false
  range    : Nat := 1
  nozero   : Bool := true
  /-- Event 0x0516 has been posted since the start (R285). -/
  zeroTold : Bool := false
  /-- The last values of G, newest first (R284); whether the last output was stable; OVER and UNDER at it. -/
  hist     : List DWord := []
  stable   : Bool := false
  ovr     : Bool := false
  under    : Bool := false
  /-- Last SEQ and sample index, the cycle timestamp of that sample. -/
  seq      : Word := 0
  idx      : Word := 0
  pubs     : List PubHist := []
  ins      : Instrument := {}
  due      : List DueRec := []
  cmds     : List ScaleCmd := []
  cseq     : Nat := 0
  cresult  : Nat := 0
  cmd      : Nat := 0
  blocks   : Word := 0
  refused  : Word := 0
  gaps     : Word := 0
  following : Bool := false
  /-- The record copy taken last (R298): each publication is followed once. -/
  copied   : List Byte := []
  moved    : Bool := false
  /-- The channel restarts at its next record boundary (R253). -/
  restart  : Bool := false
deriving DecidableEq, Repr

/-- The scale engine (08). -/
structure Scl where
  swq       : Bool := false
  ingress   : Bool := false
  run       : Bool := false
  chsel     : Nat := 0
  adoptZero : Word := 0
  adoptTare : Word := 0
  adoptAux  : DWord := 0
  adoptSeq  : Word := 0
  adoptIdx  : Word := 0
  cntBlocks : DWord := 0
  cntMac    : Word := 0
  cntGap    : Word := 0
  cntFmt    : Word := 0
  cntSelf   : Word := 0
  intStatus : Word := 0
  intMask   : Word := 0
  map       : List Word := List.replicate 128 0
  chans     : List ScCh := List.replicate 132 {}
  /-- CSEQ last handed for each channel by the cycle engine (R290). -/
  handed    : List (Nat × Nat) := []
deriving DecidableEq, Repr

/-- A segmented transfer of a session (R323, R324): a read's snapshot or a write's bytes so far. -/
structure Xfer where
  index  : Nat
  sub    : Nat
  write  : Bool
  data   : List Byte
  at_    : Nat
  /-- More than 5 s have passed since its last segment (R324). -/
  late   : Bool := false
  /-- Offset of the next segment of a read. -/
  off    : Nat := 0
deriving DecidableEq, Repr

/-- A session (R315 to R318). Level: 0 Observer, 1 Operator, 2 Engineer, 3 Verifier, 4 Service. -/
structure Session where
  handle    : Nat
  level     : Nat
  proven    : Bool
  challenge : List Byte
  openedAt  : Nat
  cred      : Option Nat
  path      : Path
  xfer      : Option Xfer
  /-- The credential was revoked: it closes after its answer (R514). -/
  revoked   : Bool := false
  /-- Handle of the Cord session that its PROOF has opened (R249). -/
  cord      : Option Word := none
deriving DecidableEq, Repr

/-- A value of the configuration store that differs from its default (R333), its bytes as sent in frames (R312). -/
structure CfgVal where
  index : Nat
  sub   : Nat
  val   : List Byte
deriving DecidableEq, Repr

/-- A copied write of the active between APPLY and its apply boundary (R327). The client is a session of this unit, or
the standby by its forward number. -/
structure Txn where
  no      : Word
  beat    : Nat
  entries : List ObjE
  client  : Option Client
  forward : Option Word
  acked   : Bool
  /-- CONFIG_ID with this write and those before it (R328). -/
  cfgId   : Word
deriving DecidableEq, Repr

/-- An APPLY that the standby has taken (R328). -/
structure Taken where
  no      : Word
  beat    : Nat
  entries : List ObjE
deriving DecidableEq, Repr

/-- A write or request that the standby has forwarded (R329). -/
structure Fwd where
  no     : Word
  /-- None: a command given to a register (R95). -/
  client : Option Client
  /-- The value, for a request to start an activity: the standby acts itself once the active has granted it (R531). -/
  value  : List Byte
  at_    : Nat
deriving DecidableEq, Repr

/-- A program-visible write that waits for its owner's next instance (R331). -/
structure ProgW where
  sym    : Word
  elem   : Nat
  value  : List Byte
  entry  : Option ObjE
  client : Option Client
  /-- Forward number of the standby that sent it. -/
  forward : Option Word := none
  /-- Carried by the instance in flight; answered at its release. -/
  carried : Bool
deriving DecidableEq, Repr

/-- A command that would start a block and waits behind Halt writes accepted before it (R326): until which beat, its entry, its client. -/
structure Wait where
  beat   : Nat
  index  : Nat
  sub    : Nat
  value  : List Byte
  client : Client
deriving DecidableEq, Repr

/-- Object dictionary, sessions, configuration store (09). -/
structure Od where
  conns      : List Nat := []
  sessions   : List Session := []
  handles    : Nat := 0
  proofFails : List Nat := []
  lockUntil  : Nat := 0
  failCount  : Word := 0
  vals       : List CfgVal := []
  savedAt    : DWord := 0
  /-- A valid copy of the store stands in the MRAM; none does before the first write. -/
  storeOk    : Bool := false
  txnNo      : Word := 0
  txns       : List Txn := []
  taken      : List Taken := []
  fwdNo      : Word := 0
  forwards   : List Fwd := []
  /-- Entries of a transaction of several frames, by number and by whether it was an APPLY. -/
  rxParts    : List (Word × Bool × List ObjE) := []
  progWs     : List ProgW := []
  waits      : List Wait := []
  peerCfgId  : Word := 0
  agree      : Nat := 2
  linkUp     : Bool := false
  restartAt  : Option Nat := none
deriving DecidableEq, Repr

/-- State of an update (R499), by code. -/
inductive UpdSt where
  | idle | staged | checked | writing | failed
deriving DecidableEq, Repr

/-- The open update record of the NOR (R501): component, SHA-256, whether the erase has begun. -/
structure UpdRec where
  comp  : Nat
  sha   : List Byte
  begun : Bool
deriving DecidableEq, Repr

/-- What runs of one component: whether it passed at the last start, VERSION, SVN, KEYSLOT, PAIRCOMPAT. -/
structure FwRun where
  valid      : Bool := false
  version    : Word := 0
  svn        : Nat := 0
  keySlot    : Nat := 0
  pairCompat : Half := 0
deriving DecidableEq, Repr

/-- Update (16): staging, record, counters and revocation bits, program slots, debug port. -/
structure Upd where
  st         : UpdSt := .idle
  staged     : List Byte := []
  lastResult : Half := 0
  record     : Option UpdRec := none
  /-- Recovery (R494), and the events 0x0D02 or 0x0D03 that the next start posts. -/
  recovery   : Bool := false
  oldVersion : Word := 0
  /-- What runs, by component 1 to 4. -/
  fw         : List FwRun := List.replicate 4 {}
  /-- Counters of the four components (0 to 64), and the revocation bits in the NOR's OTP and in the key store. -/
  arb        : List Nat := List.replicate 4 0
  revNor     : BitVec 4 := 0
  revKs      : BitVec 4 := 0
  /-- SVN_AUTO_COMMIT has acted for the running images. -/
  autoDone   : Bool := false
  /-- The program slot that the boot parameters name, and the lengths of the images in the two slots. -/
  slot       : Option Nat := none
  slotLen0   : Nat := 0
  slotLen1   : Nat := 0
  debugOpen  : Bool := false
  debugChal  : Option (List Byte × Nat) := none
deriving DecidableEq, Repr

/-- A credential (R506). -/
structure Cred where
  slot  : Nat
  key   : List Byte
  level : Nat
  debug : Bool
deriving DecidableEq, Repr

/-- A stored key of a numbered slot: program, record or pairing class; `digid` for pairing. -/
structure KeyRec where
  idx   : Nat
  key   : List Byte
  digid : Word
deriving DecidableEq, Repr

/-- The key store (16 R506 to R520). -/
structure Ks where
  creds     : List Cred := []
  progs     : List KeyRec := []
  records   : List KeyRec := []
  pairings  : List KeyRec := []
  /-- Generation of the device and exchange key pairs, when present; how many generations there have been. -/
  dev       : Option Nat := none
  gens      : Nat := 0
  zeroised  : Bool := false
  permit    : Bool := false
  sel       : Word := 0
  resultCmd : Nat := 0
  result    : Nat := 0
  data      : List Word := List.replicate 32 0
deriving DecidableEq, Repr

/-- An answer on its way out: to a client, to a bus master, a closed connection. -/
inductive OutMsg where
  | reply (path : Path) (m : SvcMsg)
  | bus (r : BusRsp)
  | closed (conn : Nat)
deriving DecidableEq, Repr

end Sys2Proof.Machine
end

