-- ==== Sys2Proof/Machine/State.lean ====
section
/-!
DEFINITION. The state of the block: one module in its rack slot, the queue of the commands that wait, and `State.reset`, the module
without power-on reset released (register tables of every chapter; where a chapter gives no value, logs 2 to 4).
-/

namespace Sys2Proof.Machine

/-- Reasons for which the machine stops with a fault. The spec gives every command its effect, so no meaning raises one;
the constructor is kept so that the type is not empty. -/
inductive Fault where
  /-- Raised by nothing (safe). -/
  | none
deriving DecidableEq, Repr

/-- Reasons for which a command has no meaning. -/
inductive Refusal where
  /-- Raised by an arm of `exec` whose command is not modelled yet (safe). -/
  | notModelled (mnemonic : String)
deriving DecidableEq, Repr

/-- The whole module. -/
structure State where
  /-- Commands that wait, first in, first out. -/
  pending : List Instr := []
  /-- Real time in ns since reset, advanced by the idle step (log 1). -/
  now     : Nat := 0
  /-- Counter of the free values taken (log 3); the model's own field. -/
  freeCtr : Nat := 0
  mem     : Memory := []
  sup     : Sup := {}
  hw      : Hw := {}
  clk     : Clk := {}
  tim     : Tim := {}
  pair    : Pair := {}
  flu     : Flu := {}
  fluq    : FluQ := {}
  cyc     : Cyc := {}
  run     : Run := {}
  chg     : Chg := {}
  fol     : Fol := {}
  cord    : Cord := {}
  legal   : Legal := {}
  aud     : Aud := {}
  scl     : Scl := {}
  od      : Od := {}
  upd     : Upd := {}
  ks      : Ks := {}
  jrn     : Jrn := {}
  evr     : Evr := {}
  gate    : Gate := {}
  dic     : Dic := {}
  emb     : Emb := {}
  lio     : Lio := {}
  mnt     : Mnt := {}
  bus     : Bus := {}
  /-- Answers that have not left yet. -/
  out     : List OutMsg := []
deriving DecidableEq, Repr

/-- The module right after reset: every field at the value its structure names. -/
def State.reset : State := {}

end Sys2Proof.Machine
end

