-- ==== Sys2Proof/Machine/Ops.lean ====
section
/-!
DEFINITION. The named operations that the commands share: posting an event (11), ringing the DIC (13), raising a block's
interrupt, block faults and their escalation (01), answers to clients. Each is one record update of the state, so that what
it leaves alone is plain.
-/

namespace Sys2Proof.Machine

/-- SHA-256 (the standard's function, uninterpreted; log 6), 32 bytes. -/
def sha256 (bs : List Byte) : List Byte := fit 32 (Config.sha256Raw bs)

/-- First 8 bytes of the SHA-256 of a key: its fingerprint (R275, R294, R508). -/
def fingerprint (key : List Byte) : Nat := leNat ((sha256 key).take 8)

/-- AES-128-CMAC cut to its first 8 bytes (R272, R293). -/
def mac8 (key msg : List Byte) : List Byte := fit 8 (Config.cmac key msg)

/-- `n` random bytes: the free value numbered `ctr` (log 3). -/
def randomBytes (ctr n : Nat) : List Byte := (List.range n).map (Config.freeByte ctr)

/-- Region number of a block identifier (R12). -/
def blockRegion (block : Byte) : Nat := fld block 5 3

/-- The block is isolated (R13). -/
def isolated (s : State) (block : Byte) : Bool := s.sup.isolated.contains block

/-- The blocks of Rick run: the region is not held in reset and its clocks run (R25, R351). -/
def rickLive (s : State) : Bool := !s.sup.rickHeld

/-- BANKED or WAKING: the parts that R433 names are clock-gated. -/
def bankedNow (s : State) : Bool := s.emb.state == .banked || s.emb.state == .waking

/-- The cycle engine, the image SRAM, the field ports, the Rick processor and the injector run (R433). -/
def rickFull (s : State) : Bool := rickLive s && !bankedNow s

/-- The blocks of Bank run. -/
def bankLive (s : State) : Bool := !s.sup.bankHeld

/-- The Cord region runs. -/
def cordLive (s : State) : Bool := !s.sup.cordHeld && !bankedNow s

/-- The runtime runs on Kiln. -/
def runtimeLive (s : State) : Bool := s.sup.runtimeUp && !s.sup.kilnHeld && !bankedNow s

/-- Bits of an interrupt status that become enabled and were not set before: the block rings its source (R422). -/
def rings (old new mask : Word) : Bool := (new &&& mask &&& ~~~old) != 0

-- DIC ---------------------------------------------------------------------------------------------------------

/-- DIC_ROUTEs of a source (reset value 0). -/
def routeOf (d : Dic) (src : Nat) : Word :=
  match d.routes.find? (fun r => r.1 == src) with
  | some r => r.2
  | none => 0

/-- Source `src` is deliverable to target `t` (R424). -/
def deliverable (d : Dic) (t src : Nat) : Bool :=
  bit d.pend src && bit d.mask src && (fld (routeOf d src) 0 4 == t) &&
    decide (d.thresh.getD t 15 < fld (routeOf d src) 8 4) && decide (t < 9)

/-- The queue of doorbells as it stands at `now`: one leaves each CYCLE cycle of 2.5 ns (R421). -/
def dicQueue (d : Dic) (now : Nat) : Nat := d.queueLen - (now - d.queueAt) * 2 / 5

/-- Some source is deliverable to target `t`: its line is high (R425). -/
def lineHigh (d : Dic) (t : Nat) : Bool := (List.range 1024).any (deliverable d t)

/-- Cores whose line is high leave IDLE (R432). -/
def leaveIdle (d : Dic) : Dic :=
  { d with idle := (List.range 8).foldl (fun i c => if bit i c && lineHigh d c then clrBit i c else i) d.idle }

/-- The DIC accepts a doorbell of `src`: its pending bit is set, it is counted; a core that it is deliverable to leaves
IDLE (R420, R421, R432). A doorbell that finds 32 waiting stalls and is counted, never dropped. -/
def dicAccept (d : Dic) (now src : Nat) : Dic :=
  let q := dicQueue d now
  let d := { d with
    pend := setBit d.pend (src % 1024)
    ringCount := satInc d.ringCount
    stalls := if 32 ≤ q then satInc d.stalls else d.stalls
    queueLen := min (q + 1) 32
    queueAt := now }
  { d with
    idle := (List.range 8).foldl (fun i c => if bit i c && deliverable d c (src % 1024) then clrBit i c else i) d.idle }

/-- A block or a processor rings source `src` (R420); in a Rick held in reset nothing hears it. -/
def ring (src : Nat) (s : State) : State :=
  { s with dic := if s.sup.rickHeld then s.dic else dicAccept s.dic s.now src }

/-- Ring `src` if `c`. -/
def ringIf (c : Bool) (src : Nat) (s : State) : State := if c then ring src s else s

-- events --------------------------------------------------------------------------------------------------------

/-- The records of an event: 14 bytes of data each, at most three, the later ones with CONT (R382, R545). -/
def evRecs (code : Nat) (block : Byte) (data : List Byte) : List EvRec :=
  let r (k : Nat) (c : Bool) : EvRec :=
    { code := BitVec.ofNat 16 code, block := block, cont := c, data := fit 14 (slice data (14 * k) 14) }
  r 0 false :: ((if data.length ≤ 14 then [] else [r 1 true]) ++ (if data.length ≤ 28 then [] else [r 2 true]))

/-- The bucket of a code as the recorder holds it: reset value RATE 4, BURST 16, full (R387; the first filling: log 7). -/
def bucketOf (e : Evr) (code : Nat) : Bucket :=
  match e.buckets.find? (fun b => b.code == code) with
  | some b => b
  | none => { code := code, cfg := 0x1004, nano := 16000000000, at_ := 0, suppressed := 0 }

/-- BURST of a bucket: 0 acts as 1 (R394). -/
def burstOf (cfg : Word) : Nat := max 1 (fld cfg 8 8)

/-- Tokens of a bucket at `now`, in billionths (R387). -/
def bucketNano (b : Bucket) (now : Nat) : Nat :=
  min (burstOf b.cfg * 1000000000) (b.nano + fld b.cfg 0 8 * (now - b.at_))

/-- The table of buckets with `b` in it. -/
def putBucket (e : Evr) (b : Bucket) : List Bucket := b :: e.buckets.filter (fun x => x.code != b.code)

/-- The global bucket at `now`, in billionths: 65,536 records, 1,900 a second (R381). -/
def globalNano (e : Evr) (now : Nat) : Nat := min 65536000000000 (e.gNano + 1900 * (now - e.gAt))

/-- Codes of time anchors, suppression and loss records: no bucket, no global bucket (R381, R387). -/
def evFree (code : Nat) : Bool := decide (0x10 ≤ code ∧ code ≤ 0x12)

/-- The recorder takes the posting of a group of records: code bucket, global bucket, place in the queue (R386, R387, R388;
a group is admitted or not as a whole: log 7). -/
def evrTake (e : Evr) (now code : Nat) (rs : List EvRec) : Evr :=
  let k := rs.length
  let b := bucketOf e code
  let t := bucketNano b now
  let limited := e.rlen && !evFree code && !bit b.cfg 31
  if limited && decide (t < k * 1000000000) then
    { e with
      buckets := putBucket e { b with nano := t, at_ := now, suppressed := b.suppressed + k }
      suppressed := satAdd e.suppressed k
      intStatus := setBit e.intStatus 0 }
  else
    let bs := if limited then putBucket e { b with nano := t - k * 1000000000, at_ := now } else e.buckets
    let g := globalNano e now
    if !evFree code && decide (g < k * 1000000000) then
      { e with buckets := bs, lossCount := e.lossCount + k, intStatus := setBit e.intStatus 2 }
    else
      let g' := if evFree code then g else g - k * 1000000000
      if 64 < e.queue.length + k then
        { e with buckets := bs, gNano := g', gAt := now, lost := satAdd e.lost k, lossCount := e.lossCount + k,
                 intStatus := setBit e.intStatus 1 }
      else { e with buckets := bs, gNano := g', gAt := now, queue := e.queue ++ rs }

/-- A posting of the records `rs` of code `code` (R386): lost in a Bank held in reset (R389), counted in SUP_CE_COUNT while
the recorder is isolated (R13). -/
def postRecs (code : Nat) (rs : List EvRec) (s : State) : State :=
  if s.sup.bankHeld then s
  else if isolated s 0x63 then { s with sup := { s.sup with ceCount := satAdd s.sup.ceCount rs.length } }
  else
    let e := evrTake s.evr s.now code rs
    { s with
      evr := e
      dic := if !s.sup.rickHeld && rings s.evr.intStatus e.intStatus e.intMask then dicAccept s.dic s.now 78 else s.dic }

/-- An event with its data (R386, R545). -/
def post (code : Nat) (block : Byte) (data : List Byte) (s : State) : State :=
  postRecs code (evRecs code block data) s

/-- Post if `c`. -/
def postIf (c : Bool) (code : Nat) (block : Byte) (data : List Byte) (s : State) : State :=
  if c then post code block data s else s

/-- A posting of the supervisor's own path, served ahead of the queue (R547, R389). -/
def supPost (code : Nat) (data : List Byte) (s : State) : State :=
  if s.sup.bankHeld then s
  else if isolated s 0x63 then { s with sup := { s.sup with ceCount := satInc s.sup.ceCount } }
  else { s with evr := { s.evr with supQueue := s.evr.supQueue ++ evRecs code 0x05 data } }

-- answers -------------------------------------------------------------------------------------------------------

/-- An answer leaves toward a client. -/
def send (m : OutMsg) (s : State) : State := { s with out := s.out ++ [m] }

-- faults (01) ---------------------------------------------------------------------------------------------------

/-- Bits 63:32 of SUP_LAST_FAULT for a level, cause, block and cell (R39). -/
def faultWord (level cause : Nat) (block : Byte) (cell : Nat) : Word :=
  pack 32 [(30, level % 4), (24, cause % 64), (16, block.toNat), (0, cell % 65536)]

/-- The blocks whose isolation leaves the module in its role (R13, "Degraded"); the Flue lanes as well while the other lane
remains, and both of them are a region fault only. -/
def degraded (block : Byte) : Bool :=
  [0x02#8, 0x03#8, 0x06#8, 0x23#8, 0x42#8, 0x43#8, 0x44#8, 0x45#8, 0x46#8, 0x47#8, 0x4C#8, 0x62#8, 0x63#8, 0x82#8].contains block

/-- The module's transmitters and outputs are silent (R25, R351). -/
def silence (p : Pair) : Pair := { p with driving := false, armed := false, outEn := false }

/-- Fail-silent (R25): the cause is latched at level 3, the Damper stops, outputs and transmitters are gated, Kiln, Rick and
Cord are held in reset at once and Bank after its burst. -/
def failSilent (cause : Nat) (block : Byte) (cell : Nat) (s : State) : State :=
  { s with
    sup := { s.sup with
      fsCause := (faultWord 3 cause block cell).setWidth 64 <<< 32
      failSilent := true
      fsAt := s.now
      kilnHeld := true
      rickHeld := true
      cordHeld := true
      bankDraining := true
      runtimeUp := false
      rickUp := false
      cordUp := false }
    pair := silence s.pair
    mnt := { s.mnt with running := false, held := [] }
    out := [] }

/-- An error passes to the chip (R25, R26): a second one at the same moment is kept for the next start, and the one with the
lower block identifier is the one recorded. -/
def chipError (cause : Nat) (block : Byte) (cell : Nat) (s : State) : State :=
  if s.sup.failSilent then
    if s.sup.fsAt = s.now then
      let old := s.sup.fsCause
      let new := (faultWord 3 cause block cell).setWidth 64 <<< 32
      if block.toNat < fld old 48 8 then
        { s with sup := { s.sup with fsCause := new, simultaneous := some (old >>> 32 |>.setWidth 32) } }
      else { s with sup := { s.sup with simultaneous := some (new >>> 32 |>.setWidth 32) } }
    else s
  else failSilent cause block cell s

/-- SUP_LAST_FAULT takes a new value (R40), and the supervisor posts event 0x0001 or 0x0002 (R547). -/
def recordFault (level code cause : Nat) (block : Byte) (cell : Nat) (s : State) : State :=
  supPost code (le4 (faultWord level cause block cell).toNat)
    { s with sup := { s.sup with lastFault := (faultWord level cause block cell).setWidth 64 <<< 32 } }

/-- Bit of SUP_REGION_FAULT set, with the supervisor's doorbell of source 0 on a new bit (R422). -/
def noteRegion (r : Nat) (s : State) : State :=
  ringIf (!bit s.sup.regionFault r) 0 { s with sup := { s.sup with regionFault := setBit s.sup.regionFault r } }

/-- What isolating a block stops inside it (R13, R538): the injector's run, a field port, a Flue lane. -/
def isolateEffects (block : Byte) (s : State) : State :=
  if block = 0x4C then { s with mnt := { s.mnt with running := false, stopCause := if s.mnt.running then 4 else s.mnt.stopCause } }
  else if block = 0x46 then { s with flu := { s.flu with lane0 := { s.flu.lane0 with up := false, locked := false } } }
  else if block = 0x47 then { s with flu := { s.flu with lane1 := { s.flu.lane1 with up := false, locked := false } } }
  else if decide (0x42 ≤ block.toNat ∧ block.toNat ≤ 0x45) then
    { s with fol := { s.fol with ports := modAt s.fol.ports (block.toNat - 0x42) (fun p => { p with up := false }) } }
  else s

/-- The region isolates a block (R13, R22, R39): recorded, notified, and passed to the chip where its consequence says so. -/
def isolate (cause : Nat) (block : Byte) (cell : Nat) (s : State) : State :=
  let s := recordFault 2 2 cause block cell s
  let s := { s with sup := { s.sup with isolated := if s.sup.isolated.contains block then s.sup.isolated else block :: s.sup.isolated } }
  let s := isolateEffects block (noteRegion (blockRegion block) s)
  if degraded block then s else chipError cause block cell s

/-- A block fault that the block contains (R11, R16): recorded at level 1. -/
def blockFault (cause : Nat) (block : Byte) (cell : Nat) (s : State) : State := recordFault 1 1 cause block cell s

/-- A block fault that the block cannot contain: the region isolates it (R11, R13). -/
def blockFails (cause : Nat) (block : Byte) (cell : Nat) (s : State) : State :=
  isolate cause block cell (blockFault cause block cell s)

-- levels --------------------------------------------------------------------------------------------------------

/-- What is a level of the logic and follows from the rest of the state at once: while the module is fail-silent its outputs and
transmitters stay gated and Kiln, Rick and Cord stay in reset (R25), and no core whose line is high stays in IDLE (R425, R432). -/
def settle (s : State) : State :=
  { s with
    dic := leaveIdle s.dic
    pair := if s.sup.failSilent then silence s.pair else s.pair
    sup := if s.sup.failSilent then { s.sup with kilnHeld := true, rickHeld := true, cordHeld := true } else s.sup }

/-- The end of every meaning: the state with its levels, as the next state. -/
def finish (s : State) : Host.Outcome State Fault Refusal := .next (settle s)

end Sys2Proof.Machine
end

