-- ==== Sys2Proof/Machine/Wire.lean ====
section
/-!
DEFINITION. The bytes of frames: payload lengths of the Flue (03 R119 to R122, 05 R187, 09 R332) and the bytes of Folmonet frames from
the destination address through the CRC-32C (06 R201 to R203), as RELAY entries carry them (03 R122), and their reading back.
-/

namespace Sys2Proof.Machine

def slotNo : Slot → Nat
  | .a => 0
  | .b => 1
  | .c => 2

def slotOf : Nat → Slot
  | 0 => .a
  | 1 => .b
  | _ => .c

def roleNo : Role → Nat
  | .offline => 0
  | .standby => 1
  | .active => 2
  | .reserve => 3
  | .fenced => 4
  | .update => 5
  | .clockHold => 6

def subNo : Sub → Nat
  | .none => 0
  | .resync => 1
  | .synchronised => 2

def keyNo : KeyPos → Nat
  | .run => 0
  | .hold => 1
  | .service => 2

/-- `n` rounded up to a multiple of four. -/
def pad4 (n : Nat) : Nat := (n + 3) / 4 * 4

/-- Payload length of a Flue frame. -/
def bodyLen : FlueBody → Nat
  | .status _ => 24
  | .image p => 16 + p.body.length
  | .digest _ => 28
  | .relayOut es => (es.map (fun e => 8 + e.frame.length)).sum
  | .relayIn es => (es.map (fun e => 8 + e.frame.length)).sum
  | .claim _ => 16
  | .join _ => 12
  | .promote _ => 8
  | .switch _ => 16
  | .switchAck _ => 16
  | .objWrite p => 24 + (p.entries.map (fun e => 8 + pad4 e.value.length)).sum
  | .nak _ => 8
  | .resyncData p => 8 + p.data.length
  | .resyncCtrl _ => 16
  | .kindle p => 24 + p.data.length

/-- Type code of a Flue frame (R120). -/
def bodyType : FlueBody → Nat
  | .status _ => 1
  | .image _ => 2
  | .digest _ => 3
  | .relayOut _ => 4
  | .relayIn _ => 5
  | .claim _ => 6
  | .join _ => 7
  | .promote _ => 8
  | .switch _ => 9
  | .switchAck _ => 10
  | .objWrite _ => 11
  | .nak _ => 12
  | .resyncData _ => 13
  | .resyncCtrl _ => 14
  | .kindle _ => 15

/-- Class of a waiting frame in R123, lowest first. -/
def txClass (f : FlueFrame) : Nat :=
  if bit f.hdr.flags 2 then 5 else
  match f.body with
  | .claim _ => 0
  | .switch _ => 0
  | .switchAck _ => 0
  | .promote _ => 0
  | .status _ => 0
  | .relayOut _ => 1
  | .image _ => 2
  | .digest _ => 3
  | .relayIn _ => 4
  | .nak _ => 5
  | .objWrite _ => 6
  | .join _ => 6
  | .resyncData _ => 7
  | .resyncCtrl _ => 7
  | .kindle _ => 7

/-- Bulk traffic, which does not count toward the budget (R124, R126). -/
def bulk : FlueBody → Bool
  | .resyncData _ => true
  | .resyncCtrl _ => true
  | .kindle _ => true
  | _ => false

/-- Bytes of a Flue frame from its destination address through its CRC-32C. -/
def flueBytes (f : FlueFrame) : Nat := 14 + 16 + bodyLen f.body + 4

/-- The SERVICE payload (06 R202). -/
def svcBytes (m : SvcMsg) : List Byte :=
  [m.op, m.tid] ++ be2 m.index.toNat ++ [m.sub, m.sflags] ++ be2 m.session.toNat ++ be4 m.arg.toNat ++
    be2 m.data.length ++ zeros 2 ++ m.data

/-- Payload of a Folmonet frame (06 R202, R203). -/
def folPayload : FolBody → List Byte
  | .cycleStart p => be4 p.read.toNat ++ be4 p.write.toNat ++ be8 p.beatTime.toNat ++ [p.period, p.csflags] ++
      be2 p.svcOpen.toNat ++ be2 p.svcClose.toNat ++ be4 p.cfgid.toNat
  | .input p => be4 p.gateEpoch.toNat ++ be2 p.status.toNat ++ be2 p.refusals.toNat ++ be2 p.latchDev.toNat ++
      fit (pad4 p.data.length) p.data
  | .output p => u8 p.task ++ [p.oflags] ++ be2 p.data.length ++ be4 p.inst.toNat ++ zeros 2 ++ fit (pad4 p.data.length) p.data
  | .service m => svcBytes m
  | .time p => be8 p.time.toNat ++ be2 p.utcoff.toNat ++ [p.tflags] ++ zeros 5
  | .wake t r => be2 t ++ [r] ++ zeros 1

/-- TYPE of a Folmonet frame (R202). -/
def folType : FolBody → Nat
  | .cycleStart _ => 1
  | .input _ => 2
  | .output _ => 3
  | .service _ => 4
  | .time _ => 5
  | .wake _ _ => 6

/-- Folmonet header (R202). -/
def folHeader (f : FolFrame) : List Byte :=
  u8 1 ++ u8 (folType f.body) ++ u8 f.hdr.seg ++ [f.hdr.flags] ++ be4 f.hdr.stamp.toNat ++ be4 f.hdr.epoch.toNat ++
    be2 f.hdr.station ++ be2 (folPayload f.body).length ++ be2 f.hdr.hops.toNat ++ zeros 2

/-- Addresses of a frame that a module's port sends, and its EtherType (R201). -/
def folEth (slot : Nat) (f : FolFrame) : List Byte :=
  let multi := [0x01#8, 0, 0, 0, 0xF0, 0]
  let dst := match f.body with
    | .cycleStart _ => multi
    | .time _ => multi
    | .wake t _ => if t = 0xFFFF then multi else [0x02#8, 0, 0, 0xF2] ++ be2 f.hdr.station
    | _ => [0x02#8, 0, 0, 0xF2] ++ be2 f.hdr.station
  dst ++ [0x02#8, 0, 0, 0xF0] ++ u8 slot ++ u8 f.hdr.seg ++ [0x9A#8, 0x3C]

/-- A Folmonet frame from its destination address through its CRC-32C: the CRC covers header bytes 0 to 15 and the
payload (R202). -/
def folBytes (slot : Nat) (f : FolFrame) : List Byte :=
  let h := folHeader f
  let p := folPayload f.body
  folEth slot f ++ h ++ p ++ be4 (crc32c (h.take 16 ++ p)).toNat

/-- The SERVICE payload read back. -/
def svcOf (b : List Byte) : SvcMsg :=
  { op := BitVec.ofNat 8 (beAt b 0 1), tid := BitVec.ofNat 8 (beAt b 1 1), index := BitVec.ofNat 16 (beAt b 2 2)
    sub := BitVec.ofNat 8 (beAt b 4 1), sflags := BitVec.ofNat 8 (beAt b 5 1), session := BitVec.ofNat 16 (beAt b 6 2)
    arg := BitVec.ofNat 32 (beAt b 8 4), data := slice b 16 (beAt b 12 2) }

/-- CYCLE-START, INPUT, OUTPUT and TIME payloads read back. -/
def csOf (p : List Byte) : CycleStartP :=
  { read := BitVec.ofNat 32 (beAt p 0 4), write := BitVec.ofNat 32 (beAt p 4 4), beatTime := BitVec.ofNat 64 (beAt p 8 8)
    period := BitVec.ofNat 8 (beAt p 16 1), csflags := BitVec.ofNat 8 (beAt p 17 1), svcOpen := BitVec.ofNat 16 (beAt p 18 2)
    svcClose := BitVec.ofNat 16 (beAt p 20 2), cfgid := BitVec.ofNat 32 (beAt p 22 4) }
def inputOf (p : List Byte) : InputP :=
  { gateEpoch := BitVec.ofNat 32 (beAt p 0 4), status := BitVec.ofNat 16 (beAt p 4 2), refusals := BitVec.ofNat 16 (beAt p 6 2)
    latchDev := BitVec.ofNat 16 (beAt p 8 2), data := p.drop 10 }
def outputOf (p : List Byte) : OutputP :=
  { task := beAt p 0 1, oflags := BitVec.ofNat 8 (beAt p 1 1), inst := BitVec.ofNat 32 (beAt p 4 4), data := slice p 10 (beAt p 2 2) }
def timeOf (p : List Byte) : TimeP :=
  { time := BitVec.ofNat 64 (beAt p 0 8), utcoff := BitVec.ofNat 16 (beAt p 8 2), tflags := BitVec.ofNat 8 (beAt p 10 1) }
def folHdrOf (h : List Byte) : FolHdr :=
  { typ := BitVec.ofNat 8 (beAt h 1 1), seg := beAt h 2 1, flags := BitVec.ofNat 8 (beAt h 3 1), stamp := BitVec.ofNat 32 (beAt h 4 4)
    epoch := BitVec.ofNat 32 (beAt h 8 4), station := beAt h 12 2, hops := BitVec.ofNat 16 (beAt h 16 2) }

/-- A Folmonet frame read from its bytes; none where R202 discards it (CRC-32C, VER, TYPE, LEN). -/
def folOf (bs : List Byte) : Option FolFrame :=
  let h := slice bs 14 20
  let len := beAt h 14 2
  let p := slice bs 34 len
  if beAt h 0 1 ≠ 1 ∨ bs.length < 38 + len ∨ beAt bs (34 + len) 4 ≠ (crc32c (h.take 16 ++ p)).toNat then none else
  let mk (b : FolBody) : Option FolFrame := some { hdr := folHdrOf h, body := b }
  match beAt h 1 1 with
  | 1 => mk (.cycleStart (csOf p))
  | 2 => mk (.input (inputOf p))
  | 3 => mk (.output (outputOf p))
  | 4 => mk (.service (svcOf p))
  | 5 => mk (.time (timeOf p))
  | 6 => mk (.wake (beAt p 0 2) (BitVec.ofNat 8 (beAt p 2 1)))
  | _ => none

end Sys2Proof.Machine
end

