-- ==== Sys2Proof/Machine/PairOps.lean ====
section
/-!
DEFINITION. Shared operations of the pair: slots and peers, the fault injector's rules (17), frames that leave on the Flue (03), the
claim epoch and its record, changes of role (02), entry into RESYNC, the maintenance token (17).
-/

namespace Sys2Proof.Machine

-- slots and peers ------------------------------------------------------------------------------------------------

/-- Straps read as no slot (R466): code 1, 1 or wrong parity. -/
def slotErr (s : State) : Bool := (s.hw.slot0 && s.hw.slot1) || ((s.hw.slot0 ^^ s.hw.slot1) == s.hw.slotP)

/-- The module's slot (R466). -/
def mySlot (s : State) : Slot := if s.hw.slot1 then .c else if s.hw.slot0 then .b else .a

/-- The other of slots A and B; for C, which has no such partner, A. -/
def partnerSlot : Slot → Slot
  | .a => .b
  | .b => .a
  | .c => .a

def peerOf (p : Pair) : Slot → Peer
  | .a => p.peerA
  | .b => p.peerB
  | .c => p.peerC

def setPeer (p : Pair) (x : Slot) (q : Peer) : Pair :=
  match x with
  | .a => { p with peerA := q }
  | .b => { p with peerB := q }
  | .c => { p with peerC := q }

/-- The slots other than the module's own. -/
def others (s : State) : List Slot := [Slot.a, .b, .c].filter (fun x => x != mySlot s)

/-- Dead time in ns: values outside 100 to 10,000 ms act as the nearer bound (R94). -/
def deadNs (s : State) : Nat := max 100 (min 10000 (fld s.pair.cfg 16 16)) * 1000000

/-- A Flue frame from that slot has arrived within the dead time (R66). -/
def heard (s : State) (x : Slot) : Bool :=
  match (peerOf s.pair x).heardAt with
  | some t => decide (s.now - t ≤ deadNs s)
  | none => false

/-- The slot's module is seen in role `r` (R66, R67): by its STATUS frames, and as ACTIVE while its Damper toggles. -/
def seenIn (s : State) (r : Role) (x : Slot) : Bool :=
  let p := peerOf s.pair x
  (r == .active && p.toggling) || (heard s x && p.role == some r && !p.dead)

/-- Some other slot is seen in role `r`. -/
def anySeen (s : State) (r : Role) : Bool := (others s).any (seenIn s r)

/-- The slot that is seen ACTIVE, and the one that is seen STANDBY. -/
def activeSlot (s : State) : Option Slot := (others s).find? (seenIn s .active)
def standbySlot (s : State) : Option Slot := (others s).find? (seenIn s .standby)

/-- The module that twin execution exchanges frames with: the standby for an active, the active for a standby. -/
def twinSlot (s : State) : Option Slot :=
  if s.pair.role = .active then standbySlot s else activeSlot s

/-- Interrupt bits of PAIR_, FLU_ and CYC_ and their sources (R94, R135, R173). -/
def pairInt (b : Nat) (s : State) : State :=
  let st := setBit s.pair.intStatus b
  ringIf (rings s.pair.intStatus st s.pair.intMask) 64 { s with pair := { s.pair with intStatus := st } }
def fluInt (b : Nat) (s : State) : State :=
  let st := setBit s.flu.intStatus b
  ringIf (rings s.flu.intStatus st s.flu.intMask) 65 { s with flu := { s.flu with intStatus := st } }
def cycInt (b : Nat) (s : State) : State :=
  let st := setBit s.cyc.intStatus b
  ringIf (rings s.cyc.intStatus st s.cyc.intMask) 66 { s with cyc := { s.cyc with intStatus := st } }

-- fault injector (R535 to R538) --------------------------------------------------------------------------------------

/-- What a rule does to a frame. -/
inductive FijAct where
  | pass | drop | hold
  | flip (f : Flip)
deriving DecidableEq, Repr

/-- One step of the 32-bit Galois LFSR with taps 0x8020_0003 (R536). -/
def lfsrNext (w : Word) : Word := if bit w 0 then (w >>> 1) ^^^ 0x80200003 else w >>> 1

/-- The rule selects this matching frame (R536). -/
def fijSelect (r : FijRule) : FijRule × Bool :=
  if bit r.cfg 25 then
    ({ r with lfsr := lfsrNext r.lfsr }, decide (fld r.lfsr 0 16 < fld r.sel 0 16))
  else if r.seen < fld r.sel 16 16 then ({ r with seen := r.seen + 1 }, false)
  else if r.acted < max 1 (fld r.sel 0 16) then ({ r with seen := r.seen + 1, acted := r.acted + 1 }, true)
  else ({ r with seen := r.seen + 1 }, false)

/-- The rule's match (R536): type, and at a field port the station. -/
def fijMatch (r : FijRule) (typ : Nat) (station : Option Nat) : Bool :=
  bit r.cfg 31 && (fld r.cfg 8 8 == 0xFF || fld r.cfg 8 8 == typ) &&
    (match station with
     | none => true
     | some x => fld r.match_ 0 16 == 0xFFFF || fld r.match_ 0 16 == x)

/-- The action of rule `k` on a frame of `len` bytes (R537), with its counters. -/
def fijRule (m : Mnt) (k typ : Nat) (station : Option Nat) (len : Nat) : Mnt × FijAct :=
  let r := m.rules.getD k {}
  if !m.running || !fijMatch r typ station then (m, .pass)
  else
    let (r, hit) := fijSelect r
    let set (r : FijRule) : Mnt := { m with rules := putAt m.rules k r }
    if !hit then (set r, .pass)
    else match fld r.cfg 26 2 with
      | 1 => (set { r with hits := satInc r.hits }, .drop)
      | 2 =>
        if fld r.arg 3 13 < len then
          (set { r with hits := satInc r.hits }, .flip { byte := fld r.arg 3 13, bit := fld r.arg 0 3, fixFcs := bit r.cfg 24 })
        else (set { r with miss := satInc r.miss }, .pass)
      | 3 => (set { r with hits := satInc r.hits }, .hold)
      | _ => (set r, .pass)

/-- The frame that rule `k` holds, and the table without it. -/
def heldBy (m : Mnt) (k : Nat) : Option HeldFrame := (m.held.find? (fun h => h.1 == k)).map (fun h => h.2.1)
def dropHeld (m : Mnt) (k : Nat) : Mnt := { m with held := m.held.filter (fun h => h.1 != k) }

/-- A Flue frame at its lane's transmit point: the frames that leave now (R537). -/
def fijFlueTx (m : Mnt) (now lane : Nat) (f : FlueFrame) : Mnt × List FlueTx :=
  let k := 8 + 2 * lane
  match heldBy m k with
  | some (.flueTx _ g) => (dropHeld m k, [{ f := f }, { f := g }])
  | _ =>
    match fijRule m k (bodyType f.body) none (flueBytes f) with
    | (m, .pass) => (m, [{ f := f }])
    | (m, .drop) => (m, [])
    | (m, .flip x) => (m, [{ f := f, flip := some x }])
    | (m, .hold) => ({ m with held := (k, .flueTx lane f, now) :: m.held }, [])

/-- A Folmonet frame at its port's transmit point (R537). -/
def fijFolTx (m : Mnt) (now port : Nat) (f : FolFrame) : Mnt × List FolTx :=
  let k := 2 * port
  match heldBy m k with
  | some (.folTx _ g) => (dropHeld m k, [{ f := f }, { f := g }])
  | _ =>
    match fijRule m k (folType f.body) (some f.hdr.station) (38 + (folPayload f.body).length) with
    | (m, .pass) => (m, [{ f := f }])
    | (m, .drop) => (m, [])
    | (m, .flip x) => (m, [{ f := f, flip := some x }])
    | (m, .hold) => ({ m with held := (k, .folTx port f, now) :: m.held }, [])

-- frames that leave on the Flue ---------------------------------------------------------------------------------------

def laneOf (f : Flu) (n : Nat) : Lane := if n = 0 then f.lane0 else f.lane1
def setLane (f : Flu) (n : Nat) (l : Lane) : Flu := if n = 0 then { f with lane0 := l } else { f with lane1 := l }

/-- The lane that reaches a slot (R45, R116): A and B use the pair link, or slot C's path. -/
def laneTo (s : State) (x : Slot) : Option Nat :=
  match mySlot s, x with
  | .c, .a => some 0
  | .c, .b => some 1
  | .c, .c => none
  | _, .c => some 1
  | _, _ => if s.flu.path = 1 then some 0 else if s.flu.path = 2 then some 1 else none

/-- The lane can carry a frame: block lock, its block not isolated. -/
def laneOpen (s : State) (n : Nat) : Bool :=
  (laneOf s.flu n).locked && !isolated s (if n = 0 then 0x46 else 0x47)

/-- The module may send on the Flue: not gated, and not FENCED or CLOCK-HOLD (R25, R82, R118, R466). -/
def maySendFlue (s : State) : Bool :=
  rickLive s && !s.sup.failSilent && s.pair.role != .fenced && s.pair.role != .clockHold && !slotErr s && !s.hw.powerDown

def seqTo (q : Seqs) : Option Slot → Word
  | none => q.all
  | some .a => q.toA
  | some .b => q.toB
  | some .c => q.toC

/-- The sequence number after one: it rises by one and wraps from the largest to 1 (R550). -/
def seqNext (w : Word) : Word := if w = 0xFFFFFFFF then 1 else w + 1

def seqBump (q : Seqs) : Option Slot → Seqs
  | none => { q with all := seqNext q.all }
  | some .a => { q with toA := seqNext q.toA }
  | some .b => { q with toB := seqNext q.toB }
  | some .c => { q with toC := seqNext q.toC }

/-- A frame goes out on a lane: its rule, then the lane's queue (R535, R537). -/
def laneSend (n : Nat) (f : FlueFrame) (s : State) : State :=
  let (m, fs) := fijFlueTx s.mnt s.now n f
  let l := laneOf s.flu n
  { s with mnt := m, flu := setLane s.flu n { l with out := l.out ++ fs } }

/-- Lanes for a destination: every open lane for all slots, else the lane that reaches the slot (R550). -/
def lanesFor (s : State) (dst : Option Slot) : List Nat :=
  match dst with
  | none => [0, 1].filter (laneOpen s)
  | some x => match laneTo s x with
    | some n => if laneOpen s n then [n] else []
    | none => []

/-- Frames kept for retransmission: IMAGE and RELAY-OUT (R122). -/
def keptForRetx : FlueBody → Bool
  | .image _ => true
  | .relayOut _ => true
  | _ => false

/-- A frame is formed and sent (R119, R550, R51): header with the module's epoch and the next SEQ; budgeted payload is
counted; IMAGE and RELAY-OUT frames are kept for two beats. Where no lane leads there, nothing is formed. -/
def sendFlueF (flags : Byte) (dst : Option Slot) (body : FlueBody) (s : State) : State :=
  let ls := lanesFor s dst
  if !maySendFlue s || ls.isEmpty then s
  else
    let h : FlueHdr :=
      { ver := 1, src := mySlot s, dst := dst, epoch := s.pair.epoch, seq := seqTo s.fluq.seqs dst, flags := flags }
    let f : FlueFrame := { hdr := h, body := body }
    let s := ls.foldl (fun s n => laneSend n f s) s
    { s with
      flu := { s.flu with txNow := if bulk body then s.flu.txNow else s.flu.txNow + bodyLen body }
      fluq := { s.fluq with
        seqs := seqBump s.fluq.seqs dst
        held := if keptForRetx body then s.fluq.held ++ [{ beat := s.cyc.beat.toNat, f := f }] else s.fluq.held } }

def sendFlue (dst : Option Slot) (body : FlueBody) (s : State) : State := sendFlueF 0 dst body s

/-- To the module that twin execution exchanges frames with, if there is one. -/
def sendTwin (body : FlueBody) (s : State) : State :=
  match twinSlot s with
  | some x => sendFlue (some x) body s
  | none => s

-- epochs (R50 to R54) -------------------------------------------------------------------------------------------------

def timeNs (s : State) : Nat := s.tim.time.toNat

/-- The greater of two 32-bit epochs. -/
def maxW (a b : Word) : Word := if a.toNat < b.toNat then b else a

/-- The highest epoch heard from a module or a station (R50, R51). -/
def heardEpoch (s : State) : Word := maxW s.pair.epochSeen s.pair.stationEpoch

/-- No epoch above is left (R50). -/
def epochExhausted (s : State) : Bool := decide (0xFFFFFFFE ≤ (maxW s.pair.epoch (heardEpoch s)).toNat)

/-- The new epoch of R50. -/
def nextEpoch (s : State) : Word := maxW s.pair.epoch (heardEpoch s) + 1

/-- An epoch heard from a module, and from a station (R51). -/
def noteEpoch (e : Word) (s : State) : State := { s with pair := { s.pair with epochSeen := maxW s.pair.epochSeen e } }
def noteStationEpoch (e : Word) (s : State) : State :=
  { s with pair := { s.pair with stationEpoch := maxW s.pair.stationEpoch e } }

/-- The claim record is to be written (R52): the write is issued. -/
def issueRecord (s : State) : State := { s with pair := { s.pair with recBusy := true } }

/-- Bit of a slot in a member mask. -/
def memberBit (x : Slot) : BitVec 3 := BitVec.ofNat 3 (2 ^ slotNo x)

/-- The slots that the module holds in good standing (R54): itself, and each slot heard within the dead time that is not
dead and reports neither FENCED nor CLOCK-HOLD (log 9). -/
def goodStanding (s : State) : BitVec 3 :=
  (others s).foldl
    (fun m x =>
      let p := peerOf s.pair x
      if heard s x && !p.dead && p.role != some .fenced && p.role != some .clockHold then m ||| memberBit x else m)
    (memberBit (mySlot s))

/-- The claim message as it stands, with its repeat number (R54, R122). -/
def claimBody (s : State) (rept : Nat) : FlueBody :=
  .claim { epoch := s.pair.epoch, slot := mySlot s, reason := s.pair.claimReason, members := s.pair.claimMembers,
           rept := rept, time := s.tim.time }

/-- The module takes a new epoch (R50): its register changes, the record is issued, PAIR_INT_STATUS.EPOCH is set and the claim
message goes out, to be repeated at the next 8 boundaries (R54). -/
def takeEpoch (e : Word) (reason : Nat) (members : BitVec 3) (s : State) : State :=
  let s := { s with
    pair := { s.pair with
      epoch := e, claimed := e :: s.pair.claimed, epochAt := s.now, recBusy := true
      claimLeft := 8, claimReason := reason, claimMembers := members } }
  sendFlue none (claimBody s 0) (pairInt 2 s)

/-- The module adopts a higher epoch (R54): register, record, interrupt. -/
def adoptEpoch (e : Word) (s : State) : State :=
  pairInt 2 { s with pair := { s.pair with epoch := e, recBusy := true } }

-- roles (R48, R55, R64) -------------------------------------------------------------------------------------------------

/-- Roles in which tasks run. -/
def runsTasks : Role → Bool
  | .active => true
  | .standby => true
  | _ => false

/-- An instance is stopped (R48, R163): it ends with outcome faulted and commits nothing. -/
def stopTask (t : Task) : Task :=
  if t.inFlight then
    { t with inFlight := false, threads := 0, trapped := false, outcome := 3, st := if t.st = 5 then 5 else 1, latchDue := none }
  else { t with latchDue := none, st := if t.st = 2 then 1 else t.st }

def stopTasks (r : Run) : Run := { r with tasks := r.tasks.map stopTask }

/-- TIME_SOURCE after a change of role (R546). -/
def timeSource (r : Role) (locked : Bool) (old : Nat) : Nat :=
  if r = .standby then 3 else if r = .active ∧ locked then 1 else if old = 0 then 0 else 2

/-- Roles in which an injection run may stand (R538). -/
def fijRole : Role → Bool
  | .active => true
  | .standby => true
  | .offline => true
  | _ => false

/-- The holders that satisfy `p` give the token back, each with event 0x0E02 (R528, R532). -/
def releaseToken (p : Holder → Bool) (s : State) : State :=
  let gone := s.mnt.holders.filter p
  gone.foldl (fun s _ => post 0x0E02 0x05 [] s) { s with mnt := { s.mnt with holders := s.mnt.holders.filter (fun h => !p h) } }

/-- Frames held on transmit leave their rule (R538). -/
def flushHeldTx (s : State) : State :=
  s.mnt.held.reverse.foldl
    (fun s h =>
      match h.2.1 with
      | .flueTx n f => { s with flu := setLane s.flu n { laneOf s.flu n with out := (laneOf s.flu n).out ++ [{ f := f }] } }
      | .folTx n f => { s with fol := { s.fol with ports := modAt s.fol.ports n (fun p => { p with out := p.out ++ [{ f := f }] }) } }
      | _ => s)
    { s with mnt := { s.mnt with held := s.mnt.held.filter (fun h => match h.2.1 with | .flueTx _ _ => false | .folTx _ _ => false | _ => true) } }

/-- An injection run stops (R538): rules cease to act, held frames pass, event 0x0E11 with cause and hits. Frames held on receive
pass at REORDER_HOLD_EXPIRY (log 10). -/
def fijStopRun (cause : Nat) (s : State) : State :=
  if !s.mnt.running then s
  else
    let hits := (s.mnt.rules.map (fun r => r.hits.toNat)).sum
    let s := { s with
      mnt := { s.mnt with running := false, stopCause := cause, elapsed := (s.now - s.mnt.startedAt) / 1000000000 } }
    releaseToken (fun h => h.code == 9 && h.slot == mySlot s) (post 0x0E11 0x4C (u8 cause ++ le4 hits) (flushHeldTx s))

/-- Cord's registers where a line that it sees may have changed (R268): the bit of CRD_INT_STATUS, while Cord is out of reset. -/
def crdLine (b : Nat) (changed : Bool) (s : State) : Cord :=
  if changed && !s.sup.cordHeld then { s.cord with intStatus := setBit s.cord.intStatus b } else s.cord

/-- The role register changes, with everything that follows in hardware (R48, R55, R97, R546): the arm falls in the roles that may
not hold it, leaving ACTIVE stops the Damper and closes the outputs, leaving the executing roles stops every instance. -/
def setRole (r : Role) (sub : Sub) (s : State) : State :=
  let keepArm := s.pair.armed && runsTasks r
  let s := { s with
    pair := { s.pair with
      role := r, sub := sub, armed := keepArm
      driving := s.pair.driving && r == .active
      outEn := s.pair.outEn && r == .active
      switch := if r = .active then s.pair.switch else none
      switchSeen := if r = .standby then s.pair.switchSeen else none }
    tim := { s.tim with
      locked := s.tim.locked && r == .active
      source := timeSource r (s.tim.locked && r == .active) s.tim.source }
    cord := crdLine 3 (r != s.pair.role) s
    run := if runsTasks r then s.run else stopTasks s.run }
  if fijRole r then s else fijStopRun 5 s

/-- The module's Damper toggles and its outputs open where nothing forbids it (R55, R56). -/
def openOutputs (s : State) : State :=
  let go := s.pair.role == .active && s.pair.armed
  let clear := (others s).all (fun x => !(peerOf s.pair x).toggling)
  { s with pair := { s.pair with driving := go, outEn := go && clear } }

/-- Digests, images, relays and twin execution of a module that executes no twin any more. -/
def clearTwin (s : State) : State :=
  { s with
    flu := { s.flu with syncTasks := 0, syncEvts := false }
    fluq := { s.fluq with images := [], own := [], peer := [], relays := [], missed := 0 } }

/-- FENCED (R64, R82): event 0x0104 with the epoch heard, the path and the sender; the mark goes to the claim record. -/
def fence (heardE : Word) (path : Nat) (sender : List Byte) (s : State) : State :=
  let s := setRole .fenced .none (clearTwin s)
  let s := { s with pair := { s.pair with fenceMark := true, recBusy := true } }
  post 0x0104 0x4B (le4 heardE.toNat ++ u8 path ++ sender) (pairInt 7 s)

/-- A standby enters RESYNC (R103, R109, R110): phase 1, twin execution ended. Gaps left from before do not count toward its sets
(R554, log 46). -/
def enterResync (byDiv : Bool) (s : State) : State :=
  let waiting := s.fluq.relays
  let s := clearTwin s
  fluInt 0 { s with
    pair := { s.pair with sub := .resync }
    flu := { s.flu with resync := { phase := 1, since := s.now, byDiv := byDiv } }
    fluq := { s.fluq with
      rxA := { s.fluq.rxA with gaps := [] }, rxB := { s.fluq.rxB with gaps := [] }, rxC := { s.fluq.rxC with gaps := [] }, relays := waiting }
    run := stopTasks s.run }

/-- Folmonet sessions end at a takeover or a switchover (R318): event 0x0601 with the handle and cause 3. -/
def endFolSessions (s : State) : State :=
  let isFol (x : Session) : Bool := match x.path with | .folmonet _ _ _ => true | .service _ => false
  (s.od.sessions.filter isFol).foldl (fun s x => post 0x0601 0x06 (le2 x.handle ++ u8 3) s)
    { s with od := { s.od with sessions := s.od.sessions.filter (fun x => !isFol x) } }

-- maintenance token (R528 to R532) -------------------------------------------------------------------------------------

/-- Segment of a station, from its working table entry. -/
def stationSeg (s : State) (n : Nat) : Option Nat := (s.fol.stations.find? (fun x => x.no == n)).map (fun x => x.cfg.seg)

/-- The ordered pair of activities may hold the token together (R530). -/
def alongside1 (s : State) (a b : Holder) : Bool :=
  match a.code, b.code with
  | 1, 6 => true
  | 1, 9 => true
  | 2, 6 => true
  | 2, 9 => true
  | 3, 6 => true
  | 4, 4 => a.arg != b.arg
  | 4, 6 => true
  | 4, 9 => true
  | 4, 10 => stationSeg s b.arg != some a.arg
  | 5, 6 => true
  | 6, 6 => a.slot != b.slot
  | 6, 7 => a.slot != b.slot
  | 6, 8 => true
  | 6, 9 => true
  | 6, 10 => true
  | 9, 9 => a.slot != b.slot
  | 9, 10 => true
  | _, _ => false

def alongside (s : State) (a b : Holder) : Bool := alongside1 s a b || alongside1 s b a

/-- Every pair of holders lies within R530. -/
def tableOk (s : State) : List Holder → Bool
  | [] => true
  | h :: hs => hs.all (alongside s h) && tableOk s hs

/-- The token would be granted to `h` (R529, R531): at most three holders. -/
def tokenFree (s : State) (h : Holder) : Bool :=
  s.mnt.holders.all (alongside s h) && tableOk s s.mnt.holders && decide (s.mnt.holders.length < 3)

/-- The holder that BUSY names: the first that does not go with `h`. -/
def busyHolder (s : State) (h : Holder) : Nat :=
  match s.mnt.holders.find? (fun x => !alongside s h x) with
  | some x => x.code
  | none => (s.mnt.holders.head?.map (fun x => x.code)).getD 0

/-- The token is granted: event 0x0E00 with the activity and the slot. -/
def takeToken (h : Holder) (s : State) : State :=
  post 0x0E00 0x05 (u8 h.code ++ u8 (slotNo h.slot)) { s with mnt := { s.mnt with holders := s.mnt.holders ++ [h] } }

/-- BUSY (R529): event 0x0E01 with the request and the holder, BUSY_COUNT. -/
def tokenBusy (h : Holder) (s : State) : State :=
  post 0x0E01 0x05 (u8 h.code ++ u8 (busyHolder s h)) { s with mnt := { s.mnt with busyCount := satInc s.mnt.busyCount } }

/-- A holder of the module itself. -/
def ownHolder (s : State) (code arg session : Nat) : Holder := { code := code, slot := mySlot s, arg := arg, session := session }

end Sys2Proof.Machine
end

