-- ==== Sys2Proof/Machine/Journal.lean ====
section
/-!
DEFINITION. The journal engine (11 R369 to R380, R393): commits, coalescing, segments, the seasoning pass, snapshots, replay, and
its commands.
-/

namespace Sys2Proof.Machine

/-- JRN_INT_STATUS and source 75 (R393). -/
def jrnInt (b : Nat) (s : State) : State :=
  let st := setBit s.jrn.intStatus b
  ringIf (rings s.jrn.intStatus st s.jrn.intMask) 75 { s with jrn := { s.jrn with intStatus := st } }

/-- Bytes of a delta record in a DELTA payload (R107, R371). -/
def deltaBytes (d : Delta) : Nat := 8 + d.data.length

/-- Bytes of a journal record: a 16-byte header and the payload padded to 8 (R371). -/
def recBytes : JRec → Nat
  | .delta _ _ ds => 16 + ((ds.map deltaBytes).sum + 7) / 8 * 8
  | .commit _ _ _ _ => 32
  | .snapData _ _ d => 16 + (8 + d.length + 7) / 8 * 8
  | .snapEnd _ _ => 32
  | .swap _ _ _ _ => 32

/-- Commit number of a record. -/
def recCommit : JRec → Nat
  | .delta _ c _ => c
  | .commit _ c _ _ => c
  | .snapData c _ _ => c
  | .snapEnd c _ => c
  | .swap c _ _ _ => c

/-- DELTA and COMMIT bytes of a commit (R379). -/
def commitBytes (ds : List Delta) : Nat := recBytes (.delta 0 0 ds) + 32

/-- RETLEN of the current layout, and its PROGID. -/
def retLen (s : State) : Nat := (s.run.prog.map (fun p => p.retLen)).getD 0
def progId (s : State) : Nat := (s.run.prog.map (fun p => p.id.toNat)).getD 0

/-- First byte of the retained area: the program's static data begins with it (log 12). -/
def retBase (s : State) : Nat := (s.run.prog.map (fun p => p.dataBase)).getD 0

/-- Free segments (JRN_STATUS.FREESEG). -/
def freeSegs (j : Jrn) : Nat := (j.segs.filter (fun g => g.kind == .free)).length

/-- The next free segment in rising number from the one allocated last (R374). -/
def nextFree (j : Jrn) : Option Nat :=
  ((List.range 192).map (fun k => (j.lastSeg + 1 + k) % 192)).find? (fun k => ((j.segs.getD k {}).kind == .free))

/-- A segment is allocated (R371, R374): GEN rises, both directory copies are written in turn. -/
def allocSeg (j : Jrn) (kind : SegKind) (first layout : Nat) : Jrn × Option Nat :=
  match nextFree j with
  | none => (j, none)
  | some k =>
    ({ j with
       gen := j.gen + 1, lastSeg := k, dirCopy := !j.dirCopy
       segs := putAt j.segs k { kind := kind, gen := j.gen + 1, first := first, layout := layout, used := 64, recs := [] } }, some k)

/-- A record appended to a segment. -/
def appendRec (j : Jrn) (k : Nat) (r : JRec) : Jrn :=
  { j with segs := modAt j.segs k (fun g => { g with used := g.used + recBytes r, recs := g.recs ++ [r] }) }

/-- The segment still has room for a record and the End record that closes it (R371). -/
def hasRoom (j : Jrn) (k : Nat) (r : JRec) : Bool := decide ((j.segs.getD k {}).used + recBytes r + 16 ≤ 0x100000)

/-- A record appended to the log: in the segment in use, or in the next one allocated. -/
def logRec (layout : Nat) (j : Jrn) (r : JRec) : Jrn :=
  match j.logSeg with
  | some k =>
    if hasRoom j k r then appendRec j k r
    else match allocSeg j .log (recCommit r) layout with
      | (j, some n) => appendRec { j with logSeg := some n } n r
      | (j, none) => j
  | none => match allocSeg j .log (recCommit r) layout with
    | (j, some n) => appendRec { j with logSeg := some n } n r
    | (j, none) => j

/-- Records of a snapshot appended in fresh segments: the segment in use is carried along. -/
def snapRecs (base layout : Nat) : Jrn → Option Nat → List JRec → Jrn
  | j, _, [] => j
  | j, some k, r :: rs =>
    if hasRoom j k r then snapRecs base layout (appendRec j k r) (some k) rs
    else match allocSeg j .snapshot base layout with
      | (j, some n) => snapRecs base layout (appendRec j n r) (some n) rs
      | (j, none) => j
  | j, none, r :: rs =>
    match allocSeg j .snapshot base layout with
    | (j, some n) => snapRecs base layout (appendRec j n r) (some n) rs
    | (j, none) => j

/-- Bytes in one SNAPDATA record (the spec names no size: log 12). -/
def snapChunk : Nat := 0x8000

/-- The records of a snapshot of the retained area. -/
def snapshotOf (m : Memory) (at_ len base : Nat) : List JRec :=
  (List.range ((len + snapChunk - 1) / snapChunk)).map
    (fun k => .snapData base (k * snapChunk) (readBytes m (at_ + k * snapChunk) (min snapChunk (len - k * snapChunk)))) ++
  [.snapEnd base len]

/-- Segments that satisfy `p` are released (R374). -/
def releaseSegs (j : Jrn) (p : JSeg → Bool) : Jrn :=
  let segs := j.segs.map (fun g => if g.kind != .free && p g then { g with kind := .free, recs := [], used := 64 } else g)
  { j with
    segs := segs
    dirCopy := !j.dirCopy
    logSeg := match j.logSeg with
      | some k => if ((segs.getD k {}).kind == .log) then some k else none
      | none => none }

/-- Commit tokens at `now` in billionths of a KiB: 32 MiB at most, 1 MiB/s (R379). -/
def jrnTokens (j : Jrn) (now : Nat) : Nat := min 32768000000000 (j.tokNano + 1024 * (now - j.tokAt))

/-- Billionths of a KiB that `n` bytes draw. -/
def byteTokens (n : Nat) : Nat := n * 1000000000 / 1024

/-- A delta merged into the coalescing buffer: later bytes replace earlier ones (R379). -/
def mergeDelta (buf : List Delta) (d : Delta) : List Delta :=
  let keep (x : Delta) : List Delta :=
    let a := x.data.take (d.offset - x.offset)
    let cut := d.offset + d.data.length - x.offset
    if x.offset + x.data.length ≤ d.offset ∨ d.offset + d.data.length ≤ x.offset then [x]
    else (if a.isEmpty then [] else [{ offset := x.offset, data := a }]) ++
      (if x.data.length ≤ cut then [] else [{ offset := d.offset + d.data.length, data := x.data.drop cut }])
  buf.flatMap keep ++ [d]

/-- Fewer than 8 segments are free (R377, R378): a pause ends, event 0x0808, the interrupt. -/
def lowSegs (before : Nat) (s : State) : State :=
  if freeSegs s.jrn < 8 ∧ 8 ≤ before then
    post 0x0808 0x61 [] (jrnInt 3 { s with jrn := { s.jrn with paused := false } })
  else if freeSegs s.jrn < 8 then { s with jrn := { s.jrn with paused := false } } else s

/-- A seasoning pass is due (R377). -/
def passDue (s : State) : Bool :=
  s.run.prog.isSome && s.jrn.pass.isNone && (decide (max (retLen s / 2) 0x1000000 ≤ s.jrn.since) || decide (freeSegs s.jrn < 8))

/-- The pass begins (R377): its base is the commit number at its start. -/
def startPass (s : State) : State :=
  { s with jrn := { s.jrn with pass := some { base := s.jrn.given, size := retLen s, cold := false } } }

/-- A pass begins by itself where the hardware directs it and nothing pauses it (R377, R378). -/
def autoPass (s : State) : State := if passDue s && !s.jrn.paused && !s.jrn.host then startPass s else s

/-- A commit is numbered and its records are under way (R372). -/
def numberCommit (task inst : Nat) (ds : List Delta) (draw : Nat) (s : State) : State :=
  { s with
    jrn := { s.jrn with
      given := s.jrn.given + 1
      tokNano := jrnTokens s.jrn s.now - draw
      tokAt := s.now
      pending := s.jrn.pending ++
        [{ commit := s.jrn.given + 1, task := task, inst := inst, ds := ds, deltas := false, swap := none }] } }

/-- Phase 5 hands over the deltas of a commit (R372, R379). -/
def jrnCommit (task inst : Nat) (ds : List Delta) (s : State) : State :=
  if s.sup.bankHeld || isolated s 0x61 then s
  else if s.jrn.coalescing then
    { s with jrn := { s.jrn with
        buffer := ds.foldl mergeDelta s.jrn.buffer
        bufSince := if s.jrn.buffer.isEmpty then s.now else s.jrn.bufSince } }
  else
    let need := byteTokens (commitBytes ds)
    if need ≤ jrnTokens s.jrn s.now then numberCommit task inst ds need s
    else
      post 0x0800 0x61 [] (jrnInt 1 { s with
        jrn := { s.jrn with coalescing := true, buffer := ds.foldl mergeDelta [], bufSince := s.now, maxLag := 0 } })

/-- Age of the coalescing buffer in ms (JRN_LAG). -/
def jrnLag (j : Jrn) (now : Nat) : Nat :=
  if j.coalescing && !j.buffer.isEmpty then (now - j.bufSince) / 1000000 else 0

/-- The buffer is written as one commit, whatever the bucket holds (R379, R390). -/
def flushBuffer (s : State) : State :=
  if s.jrn.buffer.isEmpty then s
  else
    let ds := s.jrn.buffer
    let lag := jrnLag s.jrn s.now
    let s := numberCommit 0xFF 0 ds (min (jrnTokens s.jrn s.now) (byteTokens (commitBytes ds))) s
    { s with jrn := { s.jrn with buffer := [], maxLag := max s.jrn.maxLag lag } }

/-- The swap commit record is queued as its own commit (R376, R390): the coalescing buffer goes before it. -/
def jrnSwap (newId oldId base : Nat) (s : State) : State :=
  let s := flushBuffer s
  { s with
    jrn := { s.jrn with
      given := s.jrn.given + 1
      pending := s.jrn.pending ++ [{ commit := s.jrn.given + 1, task := 0xFF, inst := 0, ds := [], deltas := true, swap := some (newId, oldId, base) }] } }

/-- A snapshot becomes durable (R376, R377): its records stand in fresh segments; segments that `drop` names are released. -/
def snapshotDone (base : Nat) (drop : JSeg → Bool) (s : State) : State :=
  let before := freeSegs s.jrn
  let j := releaseSegs s.jrn drop
  let j := snapRecs base (progId s) j none (snapshotOf s.mem (retBase s) (retLen s) base)
  lowSegs before { s with jrn := { j with snapBase := base, wear := satAdd j.wear (retLen s), pass := none } }

-- replay (R375) ------------------------------------------------------------------------------------------------------------

/-- Segments of a kind, oldest allocation first. -/
def segsBy (j : Jrn) (k : SegKind) : List JSeg :=
  (j.segs.filter (fun g => g.kind == k)).mergeSort (fun a b => a.gen ≤ b.gen)

/-- Records of the log in order. -/
def logRecs (j : Jrn) : List JRec := (segsBy j .log).flatMap (fun g => g.recs)

/-- NEWIDs of the durable SWAP records. -/
def swapIds (j : Jrn) : List Nat := (logRecs j).filterMap (fun r => match r with | .swap _ n _ _ => some n | _ => none)

/-- The newest snapshot that is complete and of a layout that the replay accepts: its base and its records. -/
def pickSnapshot (j : Jrn) (id : Nat) : Option (Nat × List JRec) :=
  let gs := (segsBy j .snapshot).filter (fun g => g.layout == id || (swapIds j).contains g.layout)
  let ends := gs.flatMap (fun g => g.recs.filterMap (fun r => match r with | .snapEnd c _ => some c | _ => none))
  match ends.getLast? with
  | none => none
  | some c => some (c, gs.flatMap (fun g => g.recs.filter (fun r => recCommit r == c)))

/-- A record applied to the retained area. -/
def applyRec (at_ : Nat) (m : Memory) : JRec → Memory
  | .delta _ _ ds => ds.foldl (fun m d => writeBytes m (at_ + d.offset) d.data) m
  | .snapData _ o d => writeBytes m (at_ + o) d
  | _ => m

/-- Commit numbers above the base whose closing record stands, without a gap. -/
def lastApplied (j : Jrn) (base : Nat) : Nat :=
  let done := (logRecs j).filterMap (fun r => match r with | .commit _ c _ _ => some c | .swap c _ _ _ => some c | _ => none)
  (List.range done.length).foldl (fun c _ => if done.contains (c + 1) then c + 1 else c) base

/-- The replay of a warm restart (R375): true when a snapshot qualified. Its success is told by event 0x0804. -/
def replay (s : State) : State × Bool :=
  match pickSnapshot s.jrn (progId s) with
  | none => (s, false)
  | some (base, snap) =>
    let top := lastApplied s.jrn base
    let m := snap.foldl (applyRec (retBase s)) s.mem
    let log := (logRecs s.jrn).filter (fun r => decide (base < recCommit r ∧ recCommit r ≤ top))
    let m := log.foldl (applyRec (retBase s)) m
    let j := { s.jrn with
      segs := s.jrn.segs.map (fun g =>
        if g.kind == .log then { g with recs := g.recs.filter (fun r => decide (recCommit r ≤ top)) } else g) }
    let j := releaseSegs j (fun g => g.kind == .log && g.recs.isEmpty)
    (post 0x0804 0x61 (le8 top) { s with
      mem := m
      jrn := { j with given := top, durable := top, pending := [], buffer := [], coalescing := false, snapBase := base } }, true)

-- bytes of a segment, as the MRAM window shows them (R371) ------------------------------------------------------------------

def recHeader (typ task len commit : Nat) : List Byte := u8 typ ++ u8 task ++ zeros 2 ++ le4 len ++ le8 commit

def padTo8 (bs : List Byte) : List Byte := bs ++ zeros ((8 - bs.length % 8) % 8)

def deltaPayload (ds : List Delta) : List Byte := ds.flatMap (fun d => le4 d.offset ++ le4 d.data.length ++ d.data)

/-- A DELTA record's bytes. -/
def deltaRec (task commit : Nat) (ds : List Delta) : List Byte :=
  let p := deltaPayload ds
  recHeader 1 task p.length commit ++ padTo8 p

/-- A record's bytes; a COMMIT's CRC covers its commit's DELTA records and its own first 28 bytes, a SNAPEND's its
snapshot's SNAPDATA records. -/
def recImage (all : List JRec) : JRec → List Byte
  | .delta t c ds => deltaRec t c ds
  | .commit t c i n =>
    let head := recHeader 2 t 16 c ++ le8 i ++ le4 n
    let deltas := all.flatMap (fun r => match r with | .delta t' c' ds => if c' = c then deltaRec t' c' ds else [] | _ => [])
    head ++ le4 (crc32c (deltas ++ head)).toNat
  | .snapData c o d => recHeader 3 0 (8 + d.length) c ++ padTo8 (le4 o ++ le4 d.length ++ d)
  | .snapEnd c n =>
    let data := all.flatMap
      (fun r => match r with
        | .snapData c' o d => if c' = c then recHeader 3 0 (8 + d.length) c' ++ padTo8 (le4 o ++ le4 d.length ++ d) else []
        | _ => [])
    recHeader 4 0 16 c ++ le4 n ++ le4 (crc32c data).toNat ++ zeros 8
  | .swap c n o b => recHeader 5 0 16 c ++ le4 n ++ le4 o ++ le8 b

/-- A segment's header (R371). -/
def segHeader (g : JSeg) : List Byte :=
  let k := match g.kind with | .free => 0 | .log => 1 | .snapshot => 2
  let h := le4 0x4A534731 ++ u8 k ++ zeros 3 ++ le8 g.gen ++ le8 g.first ++ le4 g.layout ++ zeros 28
  h ++ le4 (crc32c h).toNat

/-- The 1 MiB of segment `k` as it reads. -/
def segImage (j : Jrn) (k : Nat) : List Byte :=
  let g := j.segs.getD k {}
  let all := j.segs.flatMap (fun x => if x.layout = g.layout ∧ x.kind = g.kind then x.recs else [])
  if g.kind = .free ∧ g.gen = 0 then [] else segHeader g ++ g.recs.flatMap (recImage all)

-- commands -------------------------------------------------------------------------------------------------------------------

/-- The DELTA records of the oldest commit under way have completed in the devices (R372). -/
def execDeltasComplete (s : State) : Host.Outcome State Fault Refusal :=
  match s.jrn.pending.find? (fun p => !p.deltas) with
  | none => finish s
  | some p =>
    let before := freeSegs s.jrn
    let j := if p.ds.isEmpty then s.jrn else logRec (progId s) s.jrn (.delta p.task p.commit p.ds)
    finish (lowSegs before { s with
      jrn := { j with pending := j.pending.map (fun q => if q.commit = p.commit then { q with deltas := true } else q) } })

/-- The COMMIT record of the oldest commit completes once its DELTA records have: it is durable (R372), its bytes count (R377),
and a seasoning pass may begin. -/
def execCommitDurable (s : State) : Host.Outcome State Fault Refusal :=
  match s.jrn.pending with
  | [] => finish s
  | p :: rest =>
    if !p.deltas then finish s
    else
      let before := freeSegs s.jrn
      let n := (p.ds.map deltaBytes).sum
      let r : JRec := match p.swap with
        | some (a, b, c) => .swap p.commit a b c
        | none => .commit p.task p.commit p.inst n
      let bytes := (if p.ds.isEmpty then 0 else recBytes (.delta 0 0 p.ds)) + recBytes r
      let j := logRec (progId s) s.jrn r
      finish (autoPass (lowSegs before { s with
        jrn := { j with pending := rest, durable := p.commit, since := j.since + bytes, wear := satAdd j.wear bytes } }))

/-- WEAR_FRACTION: hundredths of a percent of 192 MiB × 10^8 (R391). -/
def wearFraction (j : Jrn) : Nat := j.wear.toNat * 10000 / (201326592 * 100000000)

/-- The pass is complete (R377): snapshot of base N, the old snapshot and every log segment at or below N are released, event
0x0802 with N and V; the lifetime count is saved (R393), and its marks are reported (R392). -/
def execSeasoningPassDone (s : State) : Host.Outcome State Fault Refusal :=
  match s.jrn.pass with
  | none => finish s
  | some p =>
    if s.jrn.paused then finish s
    else
      let w := wearFraction s.jrn
      let old (g : JSeg) : Bool := g.kind == .snapshot || g.recs.all (fun r => decide (recCommit r ≤ p.base))
      let since := ((logRecs s.jrn).filter (fun r => decide (p.base < recCommit r))).map recBytes
      let s := snapshotDone p.base old s
      let s := { s with jrn := { s.jrn with passes := satInc s.jrn.passes, since := since.sum } }
      let s := post 0x0802 0x61 (le8 p.base ++ le4 (retLen s)) (jrnInt 2 s)
      let crossed := [2500, 5000, 7500].any (fun k => decide (w < k ∧ k ≤ wearFraction s.jrn))
      finish (autoPass (postIf crossed 0x0809 0x61 [] s))

/-- The snapshot of a cold restart is durable (R376): every other segment is released. -/
def coldSnapshot (s : State) : State :=
  let s := snapshotDone s.jrn.given (fun _ => true) s
  { s with jrn := { s.jrn with since := 0, pending := [], buffer := [], coalescing := false, durable := s.jrn.given } }

/-- JRN_CMD (R378, R393): the key; a pass is started only in the host-assisted mode, unpaused, and when R377's condition holds. -/
def execJrnCmdStartPass (word : Word) (s : State) : Host.Outcome State Fault Refusal :=
  finish <|
  if s.sup.bankHeld ∨ isolated s 0x61 ∨ fld word 16 16 ≠ 0x5EA5 ∨ fld word 0 8 ≠ 1 then s
  else if s.jrn.host && passDue s && !s.jrn.paused then startPass { s with jrn := { s.jrn with cmdErr := false } }
  else { s with jrn := { s.jrn with cmdErr := true } }

/-- The bucket covers the coalescing buffer: it is written as one commit, and a new buffer begins (R379). -/
def execCoalesceFlush (s : State) : Host.Outcome State Fault Refusal :=
  finish <|
  if s.jrn.coalescing && decide (byteTokens (commitBytes s.jrn.buffer) ≤ jrnTokens s.jrn s.now) then flushBuffer s else s

/-- The bucket holds 4 MiB again: coalescing mode ends with event 0x0801 and the largest lag (R379, R392). -/
def execCoalescingLeave (s : State) : Host.Outcome State Fault Refusal :=
  finish <|
  if s.jrn.coalescing && decide (4096000000000 ≤ jrnTokens s.jrn s.now) then
    let s := flushBuffer s
    post 0x0801 0x61 (le4 s.jrn.maxLag) (jrnInt 1 { s with jrn := { s.jrn with coalescing := false } })
  else s

/-- An MRAM write reports an error (R370): it is retried and told (event 0x0805); after the third failure the writing block
cannot go on (block fault, cause 0x01), but for the pair and claim control block, whose record R52 retries (log 13). -/
def execMramWriteError (block : Byte) (failed : Bool) (s : State) : Host.Outcome State Fault Refusal :=
  finish <|
  if s.sup.bankHeld then s
  else if failed then
    let s := { s with jrn := { s.jrn with retries := 0 } }
    if block = 0x4B then s else blockFails 0x01 block 0 s
  else
    post 0x0805 0x61 [] (jrnInt 0 { s with jrn := { s.jrn with retries := s.jrn.retries + 1, wrErr := satInc s.jrn.wrErr } })

end Sys2Proof.Machine
end

