-- ==== Sys2Proof/Machine/Events.lean ====
section
/-!
DEFINITION. The event recorder (11 R381 to R389, R394, R544): posting windows, the ring, time anchors, the scan at start, and its
commands. The bucket register itself is written by `setBucket`, which 0x1502.01 and EVR_BUCKETc share.
-/

namespace Sys2Proof.Machine

/-- The event ring in the MRAM (R369): 131,072 slots of 32 bytes. -/
def ringBase : Nat := 0x3C000000
def slotAddr (seq : Nat) : Nat := ringBase + 32 * (seq % 131072)

/-- VALID of a written record (R382). -/
def evValid : Nat := 0xC0A1E7E5

/-- Bytes 0 to 27 of a record (R382): COMMISSION is set while the line is. -/
def evBytes (seq : Nat) (comm : Bool) (r : EvRec) : List Byte :=
  let b := leBytes 6 seq ++ le2 r.code.toNat ++ [r.block] ++ u8 (b2n r.cont + 2 * b2n comm) ++ fit 14 r.data
  b ++ le4 (crc32c b).toNat

/-- A record stands in the ring under its sequence number (R382, R544); the supervisor fills EVSEQ (R547). -/
def writeEvent (r : EvRec) (s : State) : State :=
  let a := slotAddr s.evr.head
  let d := leAt r.data 0 4
  let seq := BitVec.ofNat 32 s.evr.head
  let fill (w : DWord) : DWord := if fld w 32 32 = d then setFld w 0 32 seq.toNat else w
  { s with
    sup := { s.sup with
      lastFault := if r.code = 1 ∨ r.code = 2 then fill s.sup.lastFault else s.sup.lastFault
      fsCause := if r.code = 3 then fill s.sup.fsCause else s.sup.fsCause }
    mem := writeBytes s.mem a (evBytes s.evr.head s.mnt.comm r ++ le4 evValid)
    evr := { s.evr with head := (s.evr.head + 1) % 2 ^ 48 } }

/-- The slot at `a` holds a record with its mark; its sequence number where the CRC holds too (R383, R385). -/
def slotMarked (m : Memory) (a : Nat) : Bool := readLe m (a + 28) 4 == evValid
def slotSeq (m : Memory) (a : Nat) : Option Nat :=
  if slotMarked m a && (crc32c (readBytes m a 24)).toNat == readLe m (a + 24) 4 then some (readLe m a 6) else none

/-- Slots whose mark's first byte is listed: every valid slot is among them. -/
def ringSlots (m : Memory) : List Nat :=
  (m.filter (fun c => decide (ringBase ≤ c.1 ∧ c.1 < ringBase + 0x400000) && (c.1 - ringBase) % 32 == 28)).map (fun c => c.1 - 28)

/-- The scan at each start (R383): the next sequence number is one above the highest valid one, slots with a bad CRC are
counted, event 0x0806 tells the number. -/
def ringScan (s : State) : State :=
  let slots := ringSlots s.mem
  let top := (slots.filterMap (slotSeq s.mem)).foldl max 0
  let bad := (slots.filter (fun a => slotMarked s.mem a && (slotSeq s.mem a).isNone)).length
  post 0x0806 0x63 (leBytes 6 (top + 1)) { s with
    evr := { s.evr with head := top + 1, badSlots := s.evr.badSlots + bad } }

/-- Room left in the queue of 64. -/
def evRoom (s : State) : Nat := 64 - s.evr.queue.length

/-- Suppression records in ascending order of code, at most 64 at one anchor; a code without a place keeps its count (R387,
log 14). -/
def suppress : Nat → List Nat → State → State
  | 0, _, s => s
  | _, [], s => s
  | n + 1, c :: cs, s =>
    let b := bucketOf s.evr c
    if evRoom s = 0 then s
    else suppress n cs (post 0x0011 0x63 (le2 c ++ le4 b.suppressed)
      { s with evr := { s.evr with buckets := putBucket s.evr { b with suppressed := 0 } } })

/-- Codes with postings refused since their last suppression record, ascending. -/
def suppressedCodes (e : Evr) : List Nat :=
  ((e.buckets.filter (fun b => b.suppressed != 0)).map (fun b => b.code)).mergeSort (fun a b => a ≤ b)

/-- The time anchor of a second, or of a start (R384). -/
def anchor (s : State) : State := post 0x0010 0x63 (le8 s.tim.time.toNat ++ u8 s.tim.source) s

/-- One loss record of what the global bucket and the full queue refused (R387). -/
def lossRecord (s : State) : State :=
  if s.evr.lossCount = 0 ∨ evRoom s = 0 then s
  else post 0x0012 0x63 (le4 s.evr.lossCount) { s with evr := { s.evr with lossCount := 0 } }

/-- EVR_BUCKETc takes a new configuration: its tokens stay, cut to the new BURST (R387). -/
def setBucket (code : Nat) (cfg : Word) (s : State) : State :=
  let b := bucketOf s.evr code
  let t := bucketNano b s.now
  { s with evr := { s.evr with
      buckets := putBucket s.evr { b with cfg := cfg &&& 0x8000FFFF, nano := min t (burstOf cfg * 1000000000), at_ := s.now } } }

/-- 0x1502.01 (R391): CODE, RATE, BURST; BURST 0 means unlimited. Fields within raw bytes are little-endian (R312, log 18). -/
def bucketObj (v : List Byte) (s : State) : State :=
  let burst := leAt v 3 1
  setBucket (leAt v 0 2) (pack 32 [(31, b2n (burst == 0)), (8, burst), (0, leAt v 2 1)]) s

/-- SEASON_PAUSE (R378): pausing stops the pass after its record; unpausing starts it again, or one that is due. -/
def seasonPauseTo (p : Bool) (s : State) : State :=
  if p then
    if freeSegs s.jrn < 8 then s else { s with jrn := { s.jrn with paused := true } }
  else
    let s := { s with jrn := { s.jrn with paused := false } }
    if s.jrn.pass.isSome then startPass s else autoPass s

/-- A posting window's code word (R386, R394): window 0 takes it from M mode only; BLOCK of windows 1 and 2 is the hardware's. -/
def execEventPosting (window : Nat) (level : Level) (word : Word) (s : State) : Host.Outcome State Fault Refusal :=
  finish <|
  let code := fld word 0 16
  if (window = 0 ∧ level ≠ .m) ∨ 2 < window ∨ 0x0FFF < code then s
  else
    let block : Byte := if window = 1 then 0x4A else if window = 2 then 0x80 else BitVec.ofNat 8 (fld word 16 8)
    let data := ((s.evr.windows.getD window {}).data.flatMap (fun w => le4 w.toNat)).take 14
    postRecs code [{ code := BitVec.ofNat 16 code, block := block, cont := bit word 31, data := data }] s

/-- The record in front is written to the ring (R544): the supervisor's path and the records of R389 go ahead of the queue, but
not between the parts of one event (R382). -/
def execEventRecordWritten (s : State) : Host.Outcome State Fault Refusal :=
  finish <|
  if s.sup.bankHeld || isolated s 0x63 then s
  else
    let midGroup := (s.evr.queue.head?.map (fun r => r.cont)).getD false
    match s.evr.supQueue, s.evr.queue with
    | r :: rs, q =>
      if midGroup then writeEvent (q.headD r) { s with evr := { s.evr with queue := q.tail } }
      else writeEvent r { s with evr := { s.evr with supQueue := rs } }
    | [], r :: rs => writeEvent r { s with evr := { s.evr with queue := rs } }
    | [], [] => s

/-- A whole second of TIME (R384, R387): the anchor, the suppression records, one loss record. -/
def execTimeAnchor (s : State) : Host.Outcome State Fault Refusal :=
  finish <|
  if s.sup.bankHeld || isolated s 0x63 then s
  else
    let s := anchor s
    lossRecord (suppress 64 (suppressedCodes s.evr) s)

end Sys2Proof.Machine
end

