-- ==== Sys2Proof/Machine/DicEmber.lean ====
section
/-!
DEFINITION. The commands of the DIC and of Ember (13): doorbells, releases, WFI, the sleep request and its steps, wake conditions,
the resume check. (WAKE_COMPLETE stands with the pair, for a Flue wake joins.)
-/

namespace Sys2Proof.Machine

-- DIC ------------------------------------------------------------------------------------------------------------

/-- A write of DIC_DOORBELL (R420, R421): accepted, counted, never dropped; a stall is told by event 0x0A05. -/
def doorbell (src : Nat) (s : State) : State :=
  if s.sup.rickHeld then s else postIf (decide (32 ≤ dicQueue s.dic s.now)) 0x0A05 0x49 [] (ring src s)

/-- What a read of DIC_RELc answers, and the queue after it (R423): the oldest entry leaves; an empty queue clears bit 80 + c. -/
def relRead (d : Dic) (c : Nat) : Dic × Word :=
  match d.rel.getD c [] with
  | [] => (d, 0)
  | e :: es =>
    ({ d with
       rel := putAt d.rel c es
       pend := if es.isEmpty then clrBit d.pend (80 + c) else d.pend },
     pack 32 [(31, 1), (24, es.length), (8, e.1), (0, e.2)])

/-- An entry for core `c` from the cycle engine (R423): at most 4 wait, and source 80 + c is rung. -/
def placeRel (c op task : Nat) (s : State) : State :=
  let q := s.dic.rel.getD c []
  ring (80 + c) { s with dic := { s.dic with rel := if q.length < 4 then putAt s.dic.rel c (q ++ [(op, task)]) else s.dic.rel } }

/-- DIC_CLAIMt (R426): the deliverable source of highest priority, lowest number on a tie. -/
def claimOf (d : Dic) (t : Nat) : Word :=
  let best := (List.range 1024).foldl
    (fun (b : Option (Nat × Nat)) src =>
      if deliverable d t src then
        let p := fld (routeOf d src) 8 4
        match b with
        | some (q, _) => if q < p then some (p, src) else b
        | none => some (p, src)
      else b)
    none
  match best with
  | some (p, src) => pack 32 [(31, 1), (16, p), (0, src)]
  | none => 0

/-- A device's event is still unacknowledged (R422, R429): its row's acknowledge has not happened. Of the sources that software
rings and of the service port the command itself tells it (log 15). -/
def unacked (s : State) (src : Nat) : Bool :=
  let lv (st m : Word) : Bool := (st &&& m) != 0
  let port (n : Nat) : Bool := let p := s.fol.ports.getD n {}; lv p.intStatus p.intMask
  if src = 0 then s.sup.regionFault != 0
  else if src = 60 then true
  else if src = 64 then lv s.pair.intStatus s.pair.intMask
  else if src = 65 then lv s.flu.intStatus s.flu.intMask
  else if src = 66 then lv s.cyc.intStatus s.cyc.intMask
  else if 68 ≤ src ∧ src ≤ 71 then port (src - 68)
  else if src = 72 then s.cord.rspUnread
  else if src = 74 then lv s.clk.hckInt s.clk.hckMask
  else if src = 75 then lv s.jrn.intStatus s.jrn.intMask
  else if src = 76 then lv s.tim.rtcInt s.tim.rtcMask
  else if src = 77 then lv s.gate.intStatus s.gate.intMask
  else if src = 78 then lv s.evr.intStatus s.evr.intMask
  else if src = 79 then lv s.emb.intStatus s.emb.intMask
  else if 81 ≤ src ∧ src ≤ 87 then !(s.dic.rel.getD (src - 80) []).isEmpty
  else (decide (88 ≤ src ∧ src ≤ 95) || decide (128 ≤ src ∧ src ≤ 255))

-- Ember ----------------------------------------------------------------------------------------------------------

def embInt (b : Nat) (s : State) : State :=
  let st := setBit s.emb.intStatus b
  ringIf (rings s.emb.intStatus st s.emb.intMask) 79 { s with emb := { s.emb with intStatus := st } }

/-- The watched sources that are enabled and pending (R434), and the lowest of them. -/
def watchFired (s : State) : Option Nat :=
  (List.range 32).find? (fun k => let w := s.emb.watch.getD k 0; bit w 31 && bit s.dic.pend (fld w 0 10))

/-- The wake conditions present of themselves, laid out as EMB_WAKE_EN (R434): the alarm, the PROMOTE frame kept, the watched
sources. A WAKE frame and an input edge are momentary: their command carries them. -/
def wakePresent (s : State) : BitVec 5 :=
  (pack 5 [(0, b2n (bit s.tim.rtcInt 0)), (1, b2n s.emb.promote.isSome), (4, b2n (watchFired s).isSome)]) &&& s.emb.wakeEn.setWidth 5

/-- A wake condition is enabled, counting WATCH only with an enabled entry (R435). -/
def wakeEnabled (s : State) : Bool :=
  fld s.emb.wakeEn 0 4 != 0 || (bit s.emb.wakeEn 4 && s.emb.watch.any (fun w => bit w 31))

/-- Conditions recorded in EMB_CAUSE with the watched index (R439). -/
def recordCause (c : BitVec 5) (s : State) : State :=
  { s with emb := { s.emb with
      cause := s.emb.cause ||| c
      watchIdx := if bit c 4 then (watchFired s).getD 0 else s.emb.watchIdx } }

/-- The request ends in RUN (R435): result, the cores out of WFI. -/
def endRequest (result : Nat) (s : State) : State :=
  { s with
    emb := { s.emb with state := .run, step := .none, result := result, latch := 0 }
    dic := if result = 3 then { s.dic with idle := 0 } else s.dic }

/-- A latched condition undoes entry (R435): ABORTED-WAKE, interrupt, event 0x0A02 with the cause. -/
def sleepAbort (c : BitVec 5) (s : State) : State :=
  post 0x0A02 0x03 (u8 c.toNat) (embInt 1 (endRequest 3 (recordCause c s)))

/-- A request is refused or times out (R435): event 0x0A03 with the result. -/
def sleepRefuse (result : Nat) (s : State) : State := post 0x0A03 0x03 (u8 result) (embInt 2 (endRequest result s))

/-- The power switches have opened (R435): 4 µs after all cores were in WFI. -/
def pastOpen (s : State) : Bool := s.emb.step == .inWfi && decide (4000 ≤ s.now - s.emb.stepAt)

/-- Kiln has lost its power (R433): its region is in reset, PLL-C is off. -/
def kilnOff (s : State) : State :=
  { s with
    sup := { s.sup with kilnHeld := true, runtimeUp := false }
    clk := { s.clk with pllc := {}, op := 0, stepTo := none }
    dic := { s.dic with idle := 0 } }

/-- WAKING begins (R437): the cause is recorded, the time in BANKED ends. -/
def startWaking (c : BitVec 5) (s : State) : State :=
  let ns := if s.emb.state = .banked then s.tim.time.toNat - s.emb.bankedAt else 0
  let s := recordCause c (kilnOff s)
  { s with emb := { s.emb with state := .waking, step := .none, bankNs := s.emb.bankNs + ns, stepAt := ns } }

/-- A write of EMB_SLEEP (R435, R443): key and GO from M mode; the three checks at the edge. -/
def embSleep (level : Level) (word : Word) (s : State) : State :=
  if level ≠ .m ∨ fld word 16 16 ≠ 0xE3B0 ∨ !bit word 0 ∨ s.emb.result = 1 ∨ isolated s 0x03 ∨ s.emb.state ≠ .run then s
  else
    let s := { s with emb := { s.emb with result := 1, latch := wakePresent s } }
    if s.pair.role ≠ .reserve then sleepRefuse 4 s
    else if !wakeEnabled s then sleepRefuse 5 s
    else if s.emb.latch ≠ 0 then sleepAbort s.emb.latch s
    else { s with emb := { s.emb with state := .entering, step := .taken, stepAt := s.now } }

-- commands -------------------------------------------------------------------------------------------------------

def execDicDoorbell (source : Nat) (s : State) : Host.Outcome State Fault Refusal := finish (doorbell (source % 1024) s)

/-- A read of DIC_RELc by its core (R423). -/
def execDicRelRead (core : Nat) (s : State) : Host.Outcome State Fault Refusal :=
  finish <|
  if s.sup.rickHeld then s
  else
    let (d, w) := relRead s.dic core
    send (.bus { master := .core core, how := .done (le4 w.toNat) false }) { s with dic := d }

/-- A device rings again while its event is unacknowledged (R429). -/
def execDeviceReRing (source : Nat) (s : State) : Host.Outcome State Fault Refusal := finish (ringIf (unacked s source) source s)

/-- A core executes WFI (R432): IDLE, unless its line is high already. -/
def execWfi (core : Nat) (s : State) : Host.Outcome State Fault Refusal :=
  finish <|
  if s.sup.kilnHeld || decide (8 ≤ core) || lineHigh s.dic core then s else { s with dic := { s.dic with idle := setBit s.dic.idle core } }

def execEmbSleep (_core : Nat) (level : Level) (word : Word) (s : State) : Host.Outcome State Fault Refusal :=
  finish (embSleep level word s)

/-- 100 µs without all cores in WFI (R435): TIMEOUT. -/
def execEntryTimeout (s : State) : Host.Outcome State Fault Refusal :=
  finish <| if s.emb.state = .entering ∧ s.emb.step = .taken then sleepRefuse 6 s else s

/-- All eight cores are in WFI (R435): the latch is looked at, DRAM goes to self-refresh, Kiln is clamped. -/
def execAllCoresWfi (s : State) : Host.Outcome State Fault Refusal :=
  finish <|
  if s.emb.state = .entering ∧ s.emb.step = .taken ∧ s.dic.idle = 0xFF then
    let c := s.emb.latch ||| wakePresent s
    if c ≠ 0 then sleepAbort c s else { s with emb := { s.emb with step := .inWfi, stepAt := s.now } }
  else s

/-- The power switches are open and PLL-C is off (R435): BANKED, event 0x0A00; a condition present ends it through WAKING. -/
def execBankedEntered (s : State) : Host.Outcome State Fault Refusal :=
  finish <|
  if s.emb.state = .entering ∧ s.emb.step = .inWfi then
    let c := wakePresent s
    if c ≠ 0 then (if pastOpen s then startWaking c s else sleepAbort c s)
    else
      let s := kilnOff { s with emb := { s.emb with
          state := .banked, step := .none, bankCount := satInc s.emb.bankCount, bankedAt := s.tim.time.toNat } }
      post 0x0A00 0x03 [] s
  else s

/-- Bit of a condition, and whether it is enabled and present (R434). -/
def wakeBit (s : State) : Wake → Nat × Bool
  | .rtc => (0, bit s.emb.wakeEn 0 && bit s.tim.rtcInt 0)
  | .flue => (1, bit s.emb.wakeEn 1 && s.emb.promote.isSome)
  | .folmonet => (2, bit s.emb.wakeEn 2 && s.fol.ports.any (fun p => p.up))
  | .lio => (3, bit s.emb.wakeEn 3 && s.emb.lioEdge != 0)
  | .watch k =>
    let w := s.emb.watch.getD k 0
    (4, bit s.emb.wakeEn 4 && bit w 31 && bit s.dic.pend (fld w 0 10))

/-- A wake condition (R434, R435, R437, R439): it aborts an entry, ends BANKED through WAKING, or is recorded during WAKING. -/
def execWakeCondition (w : Wake) (s : State) : Host.Outcome State Fault Refusal :=
  finish <|
  let (b, present) := wakeBit s w
  if !present || isolated s 0x03 then s
  else
    let c : BitVec 5 := BitVec.ofNat 5 (2 ^ b)
    match s.emb.state with
    | .run => s
    | .entering => if pastOpen s then startWaking (c ||| wakePresent s) s else sleepAbort (c ||| wakePresent s) s
    | .banked => startWaking (c ||| wakePresent s) s
    | .waking => recordCause c s

/-- The boot ROM compares the resident area's SHA-256 with EMB_RDIGEST (R437, R438). The spec places the area nowhere: its digest
is a free value (log 16). -/
def execResumeDigestCheck (s : State) : Host.Outcome State Fault Refusal :=
  finish <|
  if s.emb.state ≠ .waking ∨ s.emb.step = .resumed then s
  else
    let d := randomBytes s.freeCtr 32
    let s := { s with freeCtr := s.freeCtr + 1, emb := { s.emb with resumed := true } }
    if d = s.emb.rdigest.flatMap (fun w => le8 w.toNat) then
      { s with
        emb := { s.emb with step := .resumed }
        sup := { s.sup with kilnHeld := false, runtimeUp := true } }
    else
      let s := { s with sup := { s.sup with atStart := s.sup.atStart ++ evRecs 0x0A04 0x03 [] } }
      chipError 0x07 0x05 0 { s with emb := { s.emb with state := .run, step := .none } }

end Sys2Proof.Machine
end

