-- ==== Sys2Proof/Machine/Sup.lean ====
section
/-!
DEFINITION. Cells and their spares, block faults and fail-silent as commands (01 R11 to R28, 17 R523, R525).
-/

namespace Sys2Proof.Machine

/-- An answer to a client of the dictionary (R321). -/
def respond (c : Client) (op : Byte) (arg : Nat) (data : List Byte) (s : State) : State :=
  send (.reply c.path
    { op := op, tid := c.tid, index := BitVec.ofNat 16 c.index, sub := BitVec.ofNat 8 c.sub, sflags := 0
      session := BitVec.ofNat 16 c.session, arg := BitVec.ofNat 32 arg, data := data }) s

/-- The write bucket of the configuration area (R380): 600 writes, one every 12 s, in units of a twelve-thousand-millionth. -/
def cfgTokens (j : Jrn) (now : Nat) : Int := min 7200000000000 (j.cfgNano + ((now - j.cfgAt : Nat) : Int))

/-- A claim-record or retirement-map write draws on the bucket and is never refused (R380). -/
def cfgDraw (s : State) : State :=
  { s with jrn := { s.jrn with cfgNano := cfgTokens s.jrn s.now - 12000000000, cfgAt := s.now } }

/-- Spare resources of a cell kind (R14, R548): none where the kind has none, else how many remain. -/
def spares (p : Sup) (block : Byte) (cell : Nat) : Option Nat :=
  if block = 0x20 ∧ 0x100 ≤ cell then some (p.l2Ways.getD 0 0)
  else if block = 0x21 ∧ 0x100 ≤ cell then some (p.l2Ways.getD 1 0)
  else if block = 0x22 then some p.sysWays
  else if block = 0x41 then some (p.imgRows.getD cell 0)
  else if block = 0x4A ∧ cell < 2 then some (p.procRows.getD cell 0)
  else if block = 0x80 ∧ cell < 3 then some (p.procRows.getD (cell + 2) 0)
  else none

/-- One spare of the kind is used. -/
def useSpare (p : Sup) (block : Byte) (cell : Nat) : Sup :=
  let dec (l : List Nat) (i : Nat) : List Nat := modAt l i (fun n => n - 1)
  if block = 0x20 then { p with l2Ways := dec p.l2Ways 0 }
  else if block = 0x21 then { p with l2Ways := dec p.l2Ways 1 }
  else if block = 0x22 then { p with sysWays := p.sysWays - 1 }
  else if block = 0x41 then { p with imgRows := dec p.imgRows cell }
  else if block = 0x4A then { p with procRows := dec p.procRows cell }
  else { p with procRows := dec p.procRows (cell + 2) }

/-- A row, line or way is retired onto a spare (R15, R18): contents copied, the map in the MRAM written, counted. -/
def retireRow (block : Byte) (cell row : Nat) (s : State) : State :=
  cfgDraw { s with
    sup := { useSpare s.sup block cell with
      retireMap := { block := block, cell := cell, row := row } :: s.sup.retireMap
      retiredCount := satInc s.sup.retiredCount
      ceHist := s.sup.ceHist.filter (fun h => !(h.block == block && h.cell == cell && h.row == row)) } }

/-- A corrected error (R15): counted; the third of a row within 24 h of TIME retires it while a spare remains. -/
def corrected (block : Byte) (cell row : Nat) (s : State) : State :=
  let t := timeNs s
  let hist := { block := block, cell := cell, row := row, time := t } ::
    s.sup.ceHist.filter (fun h => decide (t - h.time ≤ 86400000000000))
  let n := (hist.filter (fun h => h.block == block && h.cell == cell && h.row == row)).length
  let s := { s with sup := { s.sup with ceCount := satInc s.sup.ceCount, ceHist := hist } }
  if 3 ≤ n ∧ 0 < (spares s.sup block cell).getD 0 then retireRow block cell row s else s

/-- An uncorrectable error (R16): the row is retired while a spare remains; the block contains it, or isolates the row and passes
the fault upward where a spare was due and none remained. -/
def uncorrectable (block : Byte) (cell row : Nat) (s : State) : State :=
  match spares s.sup block cell with
  | none => blockFault 0x01 block cell s
  | some 0 =>
    blockFails 0x02 block cell { s with
      sup := { s.sup with retireMap := { block := block, cell := cell, row := row } :: s.sup.retireMap } }
  | some (_ + 1) => blockFault 0x01 block cell (retireRow block cell row s)

/-- Rule parity, and tracking memory (R416): see the Gate. Here what a cell reports of itself. -/
def cellError (e : CellEvent) (s : State) : State :=
  match e with
  | .corrected b c r => corrected b c r s
  | .uncorrectable b c r => uncorrectable b c r s
  | _ => s

/-- The MRAM burst and a pending claim-record write are complete (R25): Bank is held in reset. -/
def bankReset (s : State) : State :=
  if s.sup.bankDraining && !s.pair.recBusy then
    { s with
      sup := { s.sup with bankHeld := true, bankDraining := false }
      evr := { s.evr with queue := [], supQueue := [] }
      jrn := { s.jrn with pending := [], buffer := [], coalescing := false, pass := none } }
  else s

/-- The write of SUP_FAIL_SILENT (R28). -/
def supFailSilent (core : Nat) (level : Level) (word : Word) (s : State) : State :=
  if level = .m ∧ fld word 0 16 = 0xD1E5 then chipError 0x07 0x05 core s else s

/-- A target within its bound has not answered (R523): the block fails with cause 0x05 and the request ends in an error. -/
def responseTimeout (block : Byte) (cell : Nat) (master : Master) (s : State) : State :=
  send (.bus { master := master, how := .blockError }) (blockFails 0x05 block cell s)

def execBankResetAfterBurst (s : State) : Host.Outcome State Fault Refusal := finish (bankReset s)

def execSupFailSilent (core : Nat) (level : Level) (word : Word) (s : State) : Host.Outcome State Fault Refusal :=
  finish (supFailSilent core level word s)

/-- A scrub of the DRAM meets the errors that it meets (R14 to R16): each belongs to the DRAM controller, which has no spare. -/
def execDramPatrolScrub (errors : List CellEvent) (s : State) : Host.Outcome State Fault Refusal :=
  finish <|
  if s.sup.bankHeld then s
  else errors.foldl (fun s e => match e with
    | .corrected _ c r => corrected 0x60 c r s
    | .uncorrectable _ c r => uncorrectable 0x60 c r s
    | _ => s) s

def execBlockResponseTimeout (block : Byte) (cell : Nat) (master : Master) (s : State) : Host.Outcome State Fault Refusal :=
  finish (responseTimeout block cell master s)

end Sys2Proof.Machine
end

