-- ==== Sys2Proof/Machine/GateOps.lean ====
section
/-!
DEFINITION. The Gate (12): the address map and its fixed rules, the configurable rules, fault records, commits, dirty tracking, rule
parity, and their commands.
-/

namespace Sys2Proof.Machine

-- the map and the fixed rules (R35, R36, R396, R411) --------------------------------------------------------------

/-- What a fixed rule of the map lets pass. -/
inductive FixedR where
  | config | bootRom | readOnly | readWrite | readExec | none | mOnly
deriving DecidableEq, Repr

/-- The address map (R35): first and last byte, and its fixed entry. -/
def addrMap : List (Nat × Nat × FixedR) :=
  [(0x00000000, 0x0003FFFF, .bootRom), (0x01000000, 0x011FFFFF, .config), (0x02000000, 0x020FFFFF, .readOnly),
   (0x03000000, 0x0300FFFF, .readWrite), (0x10000000, 0x10005FFF, .config), (0x11000000, 0x11001FFF, .config),
   (0x12000000, 0x1200FFFF, .config), (0x12100000, 0x1213FFFF, .config), (0x12200000, 0x1220FFFF, .config),
   (0x12300000, 0x1230FFFF, .config)] ++
  [(0x12400000, 0x1240FFFF, .config), (0x12500000, 0x1250FFFF, .config), (0x12600000, 0x1260FFFF, .config),
   (0x13000000, 0x1300FFFF, .config), (0x13100000, 0x1310FFFF, .config), (0x14000000, 0x1400FFFF, .none),
   (0x14010000, 0x1401FFFF, .none), (0x14020000, 0x1402FFFF, .none), (0x15000000, 0x1500FFFF, .mOnly),
   (0x20000000, 0x27FFFFFF, .readExec)] ++
  [(0x30000000, 0x3BFFFFFF, .readOnly), (0x3C000000, 0x3C3FFFFF, .readOnly), (0x3C400000, 0x3CBFFFFF, .none),
   (0x3CC00000, 0x3FFFFFFF, .config), (0x800000000, 0x9FFFFFFFF, .config)]

/-- The map's entry for an address (R36: none is a decode error). -/
def mapAt (a : Nat) : Option FixedR := (addrMap.find? (fun e => decide (e.1 ≤ a ∧ a ≤ e.2.1))).map (fun e => e.2.2)

def needs (op : BusOp) : List Nat :=
  match op with
  | .read => [0]
  | .write => [1]
  | .fetch => [2]
  | .atomic => [0, 1]

/-- The fixed rules (R35, R396, R411): types 0 read, 1 write, 2 fetch. -/
def fixedOk (r : FixedR) (level : Level) (op : BusOp) : Bool :=
  let within (l : List Nat) : Bool := (needs op).all (fun k => l.contains k)
  match r with
  | .config => true
  | .bootRom => level == .m && within [0, 2]
  | .readOnly => within [0]
  | .readWrite => within [0, 1]
  | .readExec => within [0, 2]
  | .none => false
  | .mOnly => level == .m && within [0, 1]

/-- The gate whose range holds an address (R395). -/
def gateNo (a : Nat) : Option Nat :=
  if 0x01000000 ≤ a ∧ a ≤ 0x011FFFFF then some 0
  else if 0x800000000 ≤ a ∧ a ≤ 0x9FFFFFFFF then some 1
  else if 0x10000000 ≤ a ∧ a ≤ 0x11001FFF then some 2
  else if 0x12000000 ≤ a ∧ a ≤ 0x1260FFFF then some 3
  else if 0x13000000 ≤ a ∧ a ≤ 0x1310FFFF then some 4
  else if 0x3CC00000 ≤ a ∧ a ≤ 0x3FFFFFFF then some 5
  else none

-- configurable rules (R399, R400) -------------------------------------------------------------------------------------

def levelNo : Level → Nat
  | .u => 0
  | .s => 1
  | .m => 2
  | .agent => 3

/-- Base and size of a rule. -/
def ruleBase (r : GateRule) : Nat := fld r.addr 12 24 * 4096
def ruleSize (r : GateRule) : Nat := fld r.addr 0 6

/-- An enabled rule covers an address (R399). -/
def ruleCovers (r : GateRule) (a : Nat) : Bool :=
  bit r.perm 31 && decide (ruleBase r ≤ a ∧ a < ruleBase r + 2 ^ ruleSize r)

/-- An enabled rule with a SIZE outside 12 to 33 or a misaligned base (R407). -/
def ruleBad (r : GateRule) : Bool :=
  bit r.perm 31 && (decide (ruleSize r < 12) || decide (33 < ruleSize r) || ruleBase r % 2 ^ ruleSize r != 0)

/-- The rule grants type `k` at a level, for a request with a tag. -/
def ruleGrants (r : GateRule) (level : Level) (tag k : Nat) : Bool :=
  bit r.perm (3 * levelNo level + k) && (level != .u || fld r.perm 20 4 == 0 || fld r.perm 20 4 == tag)

/-- The answer of a checker for one part. -/
inductive Check where
  | pass
  | fault (fixed parity : Bool) (gate : Nat)
deriving DecidableEq, Repr

/-- The active rules of a gate that cover an address, with their numbers. -/
def covering (g : Gate) (n a : Nat) : List Nat := (List.range 16).filter (fun r => ruleCovers (g.active.getD (16 * n + r) {}) a)

/-- The configurable rules at one address (R399, R400, R416). -/
def gateAllows (g : Gate) (n : Nat) (level : Level) (tag : Nat) (op : BusOp) (a : Nat) : Check :=
  let rs := covering g n a
  if rs.any (fun r => g.perr.contains (16 * n + r)) then .fault false true n
  else if level = .m ∧ g.mopen then .pass
  else if (needs op).all (fun k => rs.any (fun r => ruleGrants (g.active.getD (16 * n + r) {}) level tag k)) then .pass
  else .fault false false n

/-- The three stages of R396 for a part that lies within one page. -/
def checkPart (g : Gate) (level : Level) (tag : Nat) (op : BusOp) (a : Nat) : Check :=
  match mapAt a with
  | none => .fault true false 0xF
  | some f =>
    if !fixedOk f level op then .fault true false ((gateNo a).getD 0xF)
    else match gateNo a with
      | none => .pass
      | some n => gateAllows g n level tag op a

/-- The parts of a request, cut at 4 KiB boundaries (R402): address and length. -/
def partsOf (a len : Nat) : List (Nat × Nat) :=
  let first := min len (4096 - a % 4096)
  if first < len then [(a, first), (a + first, len - first)] else [(a, len)]

-- fault records (R406) -----------------------------------------------------------------------------------------------------

/-- GATE_INT_STATUS and source 77 (R419). -/
def gateInt (b : Nat) (s : State) : State :=
  let st := setBit s.gate.intStatus b
  ringIf (rings s.gate.intStatus st s.gate.intMask) 77 { s with gate := { s.gate with intStatus := st } }

/-- Master codes (R406); the Cord processor and the debug port have none. -/
def masterNo : Master → Nat
  | .core n => n % 8
  | .rick => 0x10
  | .cycle => 0x11
  | .port n => 0x12 + n % 4
  | .flue n => 0x16 + n % 2
  | .scale => 0x19
  | .journal => 0x1A
  | .recorder => 0x1B
  | .service => 0x1C
  | .cordCpu => 0xFF
  | .debug => 0xFF

def opNo : BusOp → Nat
  | .read => 0
  | .write => 1
  | .fetch => 2
  | .atomic => 3

/-- Tag of a request: its core's mgatetag; other masters carry 0 (R398). -/
def tagOf (g : Gate) : Master → Nat
  | .core n => g.tags.getD n 0
  | _ => 0

/-- A refused request is recorded (R406): queue, counts, interrupts, event 0x0900. -/
def gateFault (m : Master) (level : Level) (op : BusOp) (a : Nat) (split fixed parity : Bool) (gate : Nat) (s : State) : State :=
  let info : DWord := pack 64 [(63, 1), (62, b2n split), (61, b2n fixed), (60, b2n parity), (56, gate), (48, masterNo m), (46, levelNo level),
    (44, opNo op), (40, tagOf s.gate m), (0, s.gate.epoch.toNat)]
  let r : GateFault := { addr := BitVec.ofNat 64 (a % 2 ^ 36), info := info, time := s.tim.time }
  let s := { s with gate := { s.gate with faultCount := satInc s.gate.faultCount } }
  let s := post 0x0900 0x07 (le8 a ++ u8 gate ++ u8 (masterNo m) ++ u8 (levelNo level) ++ u8 (opNo op)) (gateInt 0 s)
  if 16 ≤ s.gate.faults.length then
    post 0x0901 0x07 [] (gateInt 1 { s with gate := { s.gate with faultLost := satInc s.gate.faultLost } })
  else { s with gate := { s.gate with faults := s.gate.faults ++ [r], lastFault := some r } }

-- commits (R407, R408) -------------------------------------------------------------------------------------------------------

/-- A write of GATE_EPOCH (R407): of the applied epoch plus 1 it commits the staged rules, if each of them is valid. -/
def gateCommit (level : Level) (epoch : Word) (s : State) : State :=
  let g := s.gate
  if level ≠ .m ∨ epoch ≠ g.epoch + 1 then s
  else match (List.range 96).find? (fun i => ruleBad (g.staged.getD i {})) with
    | some i =>
      let s := { s with gate := { g with badRule := true, badGate := i / 16, badRuleNo := i % 16 } }
      post 0x0903 0x07 (u8 (i / 16) ++ u8 (i % 16)) (gateInt 3 s)
    | none =>
      post 0x0904 0x07 (le4 epoch.toNat) { s with gate := { g with
        active := g.staged, epoch := epoch, perr := [], badRule := false
        mopen := g.mopenStaged && !g.mopenShut
        mopenShut := g.mopenShut || !g.mopenStaged
        mopenStaged := g.mopenStaged && !g.mopenShut
        oldPending := s.bus.retries.length } }

-- dirty tracking (R412 to R415) -----------------------------------------------------------------------------------------------

/-- An enabled window's base, size in bytes and first page; none where it is ignored or disabled (R412). -/
def windowOf (w : DWord) : Option (Nat × Nat × Nat) :=
  let sz := fld w 24 6
  let first := fld w 36 15 * 64
  if !bit w 63 || decide (sz < 12) || decide (32 < sz) then none
  else if 1572864 < first + 2 ^ (sz - 12) then none
  else some (fld w 0 24 * 4096 / 2 ^ sz * 2 ^ sz, 2 ^ sz, first)

/-- BADWIN: an enabled window that would end beyond the SRAM. -/
def badWin (g : Gate) : Bool :=
  g.windows.any (fun w => bit w 63 && decide (12 ≤ fld w 24 6) && decide (fld w 24 6 ≤ 32) && (windowOf w).isNone)

/-- Global pages of an address: one in every window that holds it (R412, R413). -/
def globalPages (g : Gate) (a : Nat) : List Nat :=
  g.windows.filterMap (fun w => match windowOf w with
    | some (b, sz, first) => if b ≤ a ∧ a < b + sz then some (first + (a - b) / 4096) else none
    | none => none)

/-- A page number put into the rising list. -/
def insertPage (p : Nat) : List Nat → List Nat
  | [] => [p]
  | q :: qs => if p < q then p :: q :: qs else if p = q then q :: qs else q :: insertPage p qs

/-- A write of `len` bytes at `a` has completed (R413). -/
def markDirty (a len : Nat) (g : Gate) : Gate :=
  if !g.trkEn || len == 0 then g
  else
    let pages := (List.range ((a + len - 1) / 4096 - a / 4096 + 1)).map (fun k => (a / 4096 + k) * 4096)
    { g with dirty := (pages.flatMap (globalPages g)).foldl (fun d p => insertPage p d) g.dirty }

def markRange (a len : Nat) (s : State) : State := { s with gate := markDirty a len s.gate }

/-- The 64 bits of a harvest word. -/
def trkWord (g : Gate) (i : Nat) : DWord :=
  g.dirty.foldl (fun w p => if p / 64 = i then setBit w (p % 64) else w) 0

/-- A 64-bit read of GATE_TRK_HARVEST (R414). -/
def trkHarvest (g : Gate) : Gate × DWord :=
  let i := min g.trkIndex 24575
  ({ g with dirty := g.dirty.filter (fun p => p / 64 != i), trkIndex := if i = 24575 then 0 else i + 1 }, trkWord g i)

/-- GATE_TRK_NEXT (R419). -/
def trkNext (g : Gate) : Word :=
  match g.dirty.find? (fun p => decide (min g.trkIndex 24575 ≤ p / 64)) with
  | some p => BitVec.ofNat 32 (p / 64)
  | none => 0xFFFFFFFF

/-- A write of GATE_TRK_CTRL (R413, R415): CLEAR is ignored while EN is 1. -/
def trkCtrl (word : Word) (s : State) : State :=
  let s := if bit word 1 ∧ !bit word 0 ∧ !s.gate.trkEn then { s with gate := { s.gate with dirty := [], trkBusy := true } } else s
  { s with gate := { s.gate with trkEn := bit word 0 } }

/-- An uncorrectable error of the tracking SRAM (R415): the 32 pages of the word are dirty, event 0x0905. -/
def trackError (word : Nat) (s : State) : State :=
  post 0x0905 0x07 [] { s with gate := { s.gate with
    dirty := ((List.range 32).map (fun k => 32 * word + k)).foldl (fun d p => insertPage p d) s.gate.dirty } }

-- rule parity (R416) -------------------------------------------------------------------------------------------------------------

/-- A rule's parity fails: its range is denied, the fault is recorded at level 1; the third within 24 h isolates the block. -/
def ruleParity (gate rule : Nat) (s : State) : State :=
  let i := 16 * gate + rule
  let t := timeNs s
  let hist := (i, t) :: s.gate.perrHist.filter (fun h => decide (t - h.2 ≤ 86400000000000))
  let n := (hist.filter (fun h => h.1 == i)).length
  let s := { s with gate := { s.gate with
    perr := if s.gate.perr.contains i then s.gate.perr else i :: s.gate.perr
    perrCount := satInc s.gate.perrCount, perrHist := hist } }
  let s := post 0x0902 0x07 (u8 gate ++ u8 rule) (gateInt 2 s)
  if 3 ≤ n then blockFails 0x04 0x07 i s else blockFault 0x04 0x07 i s

/-- What a cell, a rule or the tracking SRAM reports while a request is served (R15, R16, R415, R416). -/
def reportCell (e : CellEvent) (s : State) : State :=
  match e with
  | .none => s
  | .corrected b c r => corrected b c r s
  | .uncorrectable b c r => uncorrectable b c r s
  | .ruleParity g r => ruleParity (g % 6) (r % 16) s
  | .trackError w => trackError w s

-- commands -----------------------------------------------------------------------------------------------------------------------

def execGateCommit (level : Level) (epoch : Word) (s : State) : Host.Outcome State Fault Refusal := finish (gateCommit level epoch s)

/-- A write of 1 to GATE_FLT_POP removes the record shown (R406). -/
def gatePop (level : Level) (word : Word) (s : State) : State :=
  if level = .m ∧ bit word 0 then { s with gate := { s.gate with faults := s.gate.faults.tail } } else s

def execGateFltPop (level : Level) (word : Word) (s : State) : Host.Outcome State Fault Refusal := finish (gatePop level word s)

/-- A 64-bit read of GATE_TRK_HARVEST by core 0 in M mode (R414). -/
def execGateTrkHarvest (level : Level) (s : State) : Host.Outcome State Fault Refusal :=
  finish <|
  if level ≠ .m then s
  else
    let (g, w) := trkHarvest s.gate
    send (.bus { master := .core 0, how := .done (le8 w.toNat) false }) { s with gate := g }

def execGateTrkClear (level : Level) (word : Word) (s : State) : Host.Outcome State Fault Refusal :=
  finish (if level = .m then trkCtrl word s else s)

/-- The tracking SRAM is zero (R415). -/
def execGateTrkClearDone (s : State) : Host.Outcome State Fault Refusal :=
  finish (if s.gate.trkBusy then { s with gate := { s.gate with dirty := [], trkBusy := false } } else s)

/-- The M-mode CSR mgatetag: bits 3:0 (R398). -/
def execMgatetagWrite (core : Nat) (level : Level) (value : DWord) (s : State) : Host.Outcome State Fault Refusal :=
  finish <|
  if level = .m ∧ !s.sup.kilnHeld then { s with gate := { s.gate with tags := putAt s.gate.tags core (fld value 0 4) } } else s

end Sys2Proof.Machine
end

