-- ==== Sys2Proof/Machine/ObjTable.lean ====
section
/-!
DEFINITION. The object dictionary's entries: type, access, levels, change class, whether copied to the partner, range and default
(09 R310 to R340 and the entry tables of every chapter: R90, R132, R169, R193, R228, R229, R251, R265, R305, R313, R337, R339,
R362, R391, R417, R440, R460, R487, R516, R540, R41). Values stand as they are sent in frames: numbers most significant byte
first (R312).
-/

namespace Sys2Proof.Machine

/-- Type of an entry (R311): unsigned and signed numbers of n bytes, binary64, strings and raw bytes of at most n. -/
inductive Ty where
  | bool
  | u (n : Nat)
  | i (n : Nat)
  | f64
  | time64
  | seq48
  | str (n : Nat)
  | oct (n : Nat)
deriving DecidableEq, Repr

/-- Type codes of R311. -/
def Ty.code : Ty → Nat
  | .bool => 1
  | .u 1 => 2 | .u 2 => 3 | .u 4 => 4 | .u _ => 5
  | .i 1 => 6 | .i 2 => 7 | .i 4 => 8 | .i _ => 9
  | .f64 => 11
  | .str _ => 12
  | .oct _ => 13
  | .time64 => 14
  | .seq48 => 15

/-- Bytes of a scalar; none for strings and raw bytes. -/
def Ty.size : Ty → Option Nat
  | .bool => some 1
  | .u n => some n
  | .i n => some n
  | .f64 => some 8
  | .time64 => some 8
  | .seq48 => some 6
  | .str _ => none
  | .oct _ => none

/-- The number that a value of a type is (R311, R312). -/
def Ty.value (t : Ty) (v : List Byte) : Int :=
  match t with
  | .i n => signed (8 * n) (beNat v)
  | _ => (beNat v : Int)

/-- Change class of an entry (00, R326). -/
inductive Chg3 where
  | free | beat | halt
deriving DecidableEq, Repr

/-- One entry: its type; the level that reads it (none: write-only); the level that writes it (none: read-only); class;
copied to the partner; permitted over Folmonet; the values allowed; its default. -/
structure Meta where
  ty     : Ty
  rd     : Option Nat := some 0
  wr     : Option Nat := none
  chg    : Chg3 := .free
  copied : Bool := false
  fol    : Bool := true
  lo     : Int := 0
  hi     : Int := 2 ^ 64
  dflt   : List Byte := []
deriving DecidableEq, Repr

/-- A read-only entry. -/
def ro (ty : Ty) : Option Meta := some { ty := ty }

/-- A command entry: write-only at a level, with its range. -/
def wo (ty : Ty) (wr : Nat) (lo hi : Int) : Option Meta := some { ty := ty, rd := none, wr := some wr, lo := lo, hi := hi }

/-- A configuration entry that is copied to the partner. -/
def cfgE (ty : Ty) (chg : Chg3) (lo hi : Int) (dflt : List Byte) : Option Meta :=
  some { ty := ty, wr := some 2, chg := chg, copied := true, lo := lo, hi := hi, dflt := dflt }

/-- A local writable entry. -/
def locE (ty : Ty) (wr : Nat) (chg : Chg3) (lo hi : Int) (dflt : List Byte) : Option Meta :=
  some { ty := ty, wr := some wr, chg := chg, lo := lo, hi := hi, dflt := dflt }

/-- 0x1000 (R313). -/
def metaIdentity (sub : Nat) : Option Meta :=
  match sub with
  | 0x01 => ro (.str 8)
  | 0x02 => ro (.str 16)
  | 0x03 => ro (.u 1)
  | 0x04 => ro (.u 1)
  | 0x05 => ro (.u 4)
  | 0x06 => ro (.u 4)
  | 0x07 => ro (.u 4)
  | 0x08 => ro (.u 4)
  | 0x09 => ro (.u 2)
  | 0x0A => ro (.u 4)
  | 0x0B => ro (.u 4)
  | 0x0C => ro (.u 4)
  | 0x0D => ro (.u 4)
  | 0x0E => locE (.str 32) 2 .free 0 0 []
  | _ => none

/-- 0x1100 (R90, R132). -/
def metaPair (sub : Nat) : Option Meta :=
  match sub with
  | 0x01 => ro (.u 1)
  | 0x02 => ro (.u 1)
  | 0x03 => ro (.u 1)
  | 0x04 => ro (.u 4)
  | 0x05 => ro (.u 4)
  | 0x06 => cfgE (.u 2) .beat 100 10000 (be2 500)
  | 0x07 => cfgE (.u 1) .beat 0 1 (u8 0)
  | 0x08 => cfgE .bool .beat 0 1 (u8 1)
  | 0x09 => wo (.u 1) 2 1 1
  | 0x0A => wo (.u 1) 2 1 1
  | 0x0B => wo (.u 1) 2 1 1
  | 0x0C => ro (.u 4)
  | 0x0D => ro .time64
  | 0x10 => cfgE (.u 2) .beat 20 1000 (be2 100)
  | 0x11 => cfgE (.u 1) .beat 1 15 (u8 3)
  | 0x12 => cfgE (.u 1) .beat 1 15 (u8 3)
  | 0x13 => ro (.u 4)
  | 0x14 => ro (.u 4)
  | 0x15 => ro (.u 1)
  | _ => none

/-- 0x1200 and 0x1201 to 0x1204 (R228). Defaults marked "Belaux" come with the program's configuration; without one they
are zero (log 8). -/
def metaSegment (idx sub : Nat) : Option Meta :=
  if idx = 0x1200 then
    match sub with
    | 0x01 => ro (.u 4)
    | 0x02 => ro (.u 2)
    | 0x03 => ro (.u 2)
    | 0x04 => ro (.u 2)
    | _ => none
  else
    match sub with
    | 0x01 => ro (.u 1)
    | 0x02 => wo (.u 1) 2 1 3
    | 0x03 => cfgE (.u 4) .halt 0 16000 (be4 0)
    | 0x04 => cfgE (.u 4) .halt 0 16000 (be4 0)
    | 0x05 => cfgE (.u 1) .halt 0 7 (u8 7)
    | 0x06 => cfgE (.u 4) .halt 0 (2 ^ 32) (be4 0)
    | 0x07 => cfgE (.u 4) .halt 0 (2 ^ 32) (be4 0)
    | 0x08 => cfgE (.u 2) .halt 10 100 (be2 10)
    | 0x09 => cfgE (.u 4) .halt 0 (2 ^ 32) (be4 0)
    | 0x0A => ro (.u 1)
    | 0x0B => ro (.u 2)
    | 0x0C => ro (.u 2)
    | _ => none

/-- 0x1300 and the task entries 0x1310 to 0x135F (R169). -/
def metaTask (idx sub : Nat) : Option Meta :=
  if idx = 0x1300 then
    match sub with
    | 0x01 => ro (.u 1)
    | 0x02 => cfgE (.u 1) .beat 0 2 (u8 0)
    | 0x03 => wo (.u 1) 2 1 3
    | 0x04 => cfgE (.u 1) .beat 1 15 (u8 4)
    | 0x05 => ro (.u 8)
    | 0x06 => ro (.u 4)
    | _ => none
  else if idx ≥ 0x1320 ∧ sub ≥ 1 ∧ sub ≤ 3 then none
  else
    match sub with
    | 0x01 => cfgE (.u 4) .halt 1 40000 (be4 1)
    | 0x02 => cfgE (.u 4) .halt 0 39999 (be4 0)
    | 0x03 => cfgE (.u 4) .beat 0 (2 ^ 32) (be4 0)
    | 0x04 => cfgE (.u 4) .beat 0 (2 ^ 32) (be4 0)
    | 0x05 => cfgE (.u 1) .beat 0 2 (u8 0)
    | 0x06 => cfgE (.u 1) .halt 0 15 (u8 0)
    | 0x07 => cfgE (.u 1) .halt 0 254 (u8 0)
    | 0x08 => cfgE .bool .beat 0 1 (u8 0)
    | 0x09 => ro (.u 1)
    | 0x0A => ro (.u 8)
    | 0x0B => ro (.u 4)
    | 0x0C => ro (.u 4)
    | 0x0D => wo (.u 1) 2 1 1
    | _ => none

/-- 0x1360 and 0x1361 (R193). -/
def metaChange (idx sub : Nat) : Option Meta :=
  if idx = 0x1360 then
    match sub with
    | 0x01 => ro (.u 1)
    | 0x02 => wo (.oct 536870912) 2 0 0
    | 0x03 => wo (.u 1) 2 1 2
    | 0x04 => ro (.u 8)
    | 0x05 => ro (.u 4)
    | 0x06 => ro (.u 4)
    | 0x07 => ro (.u 1)
    | 0x08 => ro (.u 2)
    | 0x09 => ro (.u 4)
    | 0x0A => ro (.u 4)
    | _ => none
  else
    match sub with
    | 0x01 => wo (.oct 72) 2 0 0
    | 0x02 => wo (.u 4) 2 0 (2 ^ 32)
    | 0x03 => wo (.u 1) 2 1 1
    | 0x04 => ro (.u 2)
    | 0x05 => cfgE .bool .free 0 1 (u8 0)
    | 0x06 => ro (.oct 65536)
    | 0x07 => ro (.u 4)
    | _ => none

/-- Record mapping 0x1370 to 0x1377 (R296): TASK 0xFF and no mapped unit where no program gives a default. -/
def metaMapping (sub : Nat) : Option Meta :=
  if 1 ≤ sub ∧ sub ≤ 16 then cfgE (.oct 12) .halt 0 0 (zeros 8 ++ List.replicate 4 0xFF) else none

/-- 0x1400 (R362). -/
def metaTime (sub : Nat) : Option Meta :=
  match sub with
  | 0x01 => ro .time64
  | 0x02 => ro (.u 1)
  | 0x03 => cfgE .bool .free 0 1 (u8 0)
  | 0x04 => cfgE (.u 1) .free 0 127 (u8 0)
  | 0x05 => ro (.i 8)
  | 0x06 => ro (.u 8)
  | 0x07 => locE .time64 4 .free 0 (2 ^ 64) []
  | 0x08 => cfgE (.i 2) .free (-32768) 32767 (be2 37)
  | 0x09 => locE (.u 1) 2 .free 0 2 (u8 1)
  | 0x0A => locE (.u 1) 2 .free 0 3 (u8 0)
  | 0x0B => ro (.u 1)
  | 0x0C => locE (.u 1) 2 .free 0 3 (u8 3)
  | 0x0D => ro (.u 4)
  | 0x0E => ro (.u 4)
  | _ => none

/-- 0x1500 to 0x1502 (R391). -/
def metaStore (idx sub : Nat) : Option Meta :=
  if idx = 0x1500 then
    match sub with
    | 0x01 => ro (.u 1)
    | 0x02 => ro (.u 1)
    | 0x03 => ro (.u 4)
    | 0x04 => ro (.u 8)
    | 0x05 => ro (.u 4)
    | 0x06 => ro (.u 8)
    | 0x07 => ro (.u 2)
    | 0x08 => locE .bool 2 .free 0 1 (u8 0)
    | 0x09 => ro (.i 2)
    | 0x0A => ro .seq48
    | 0x0B => locE .bool 2 .free 0 1 (u8 1)
    | 0x0C => ro (.u 4)
    | _ => none
  else if idx = 0x1501 then
    match sub with
    | 0x01 => locE .seq48 0 .free 0 (2 ^ 48) (beBytes 6 1)
    | 0x02 => locE (.u 2) 0 .free 1 1024 (be2 64)
    | 0x03 => ro (.oct 32768)
    | _ => none
  else if sub = 1 then wo (.oct 4) 2 0 0 else none

/-- 0x1600 (R460). -/
def metaLio (sub : Nat) : Option Meta :=
  match sub with
  | 0x01 => cfgE (.u 1) .halt 0 3 (u8 0)
  | 0x02 => cfgE (.u 1) .beat 0 0x33 (u8 0x22)
  | 0x03 => cfgE (.u 1) .beat 0 3 (u8 0)
  | 0x04 => cfgE (.u 1) .beat 1 15 (u8 3)
  | 0x05 => wo (.u 1) 1 1 3
  | 0x06 => cfgE (.u 1) .halt 0 255 (u8 0)
  | 0x07 => ro (.oct 4)
  | 0x08 => ro (.u 1)
  | 0x09 => ro (.u 2)
  | 0x0A => ro (.u 4)
  | 0x0B => ro (.u 4)
  | _ => none

/-- 0x1710 to 0x1712 (R337). -/
def metaService (idx sub : Nat) : Option Meta :=
  if idx = 0x1710 then
    match sub with
    | 0x01 => ro (.u 1)
    | 0x02 => locE (.u 2) 4 .free 60 3600 (be2 600)
    | 0x03 => ro (.oct 64)
    | 0x04 => ro (.u 4)
    | 0x05 => locE .bool 4 .free 0 1 (u8 1)
    | _ => none
  else if idx = 0x1711 then
    match sub with
    | 0x01 => locE (.u 1) 4 .free 0 1 (u8 0)
    | 0x02 => locE (.u 4) 4 .free 0 (2 ^ 32) (be4 0xC0A80164)
    | 0x03 => locE (.u 4) 4 .free 0 (2 ^ 32) (be4 0xFFFFFF00)
    | 0x04 => locE (.u 4) 4 .free 0 (2 ^ 32) (be4 0)
    | 0x05 => locE (.u 2) 4 .free 1024 65535 (be2 9603)
    | 0x06 => ro (.u 1)
    | _ => none
  else
    match sub with
    | 0x01 => wo (.u 1) 4 1 3
    | 0x02 => ro .time64
    | 0x03 => ro (.u 4)
    | 0x04 => ro (.u 1)
    | _ => none

/-- An entry of update and security: refused over Folmonet (R516). -/
def noFol (m : Option Meta) : Option Meta := m.map (fun x => { x with fol := false })

/-- 0x1720, 0x1721, 0x1730, 0x1740 (R516). -/
def metaUpdate (idx sub : Nat) : Option Meta :=
  noFol <|
  if idx = 0x1720 then
    match sub with
    | 0x01 => wo (.oct 33554560) 4 0 0
    | 0x02 => wo (.u 1) 4 1 3
    | 0x03 => ro (.u 1)
    | 0x04 => ro (.oct 24)
    | 0x05 => ro (.u 2)
    | 0x06 => locE .bool 4 .free 0 1 (u8 1)
    | 0x07 => wo (.u 1) 4 1 4
    | _ => none
  else if idx = 0x1721 then
    if 1 ≤ sub ∧ sub ≤ 8 then ro (.u 1) else if sub = 9 ∨ sub = 10 then ro (.u 2) else none
  else if idx = 0x1730 then
    match sub with
    | 0x01 => ro (.oct 32)
    | 0x02 => wo (.oct 36) 4 0 0
    | 0x03 => wo (.u 1) 4 0 31
    | 0x04 => ro (.oct 512)
    | 0x05 => wo (.oct 36) 4 0 0
    | 0x06 => wo (.u 1) 4 0 3
    | 0x07 => wo (.oct 72) 4 0 0
    | 0x08 => ro (.oct 32768)
    | 0x09 => locE (.oct 2048) 4 .free 0 0 []
    | 0x0A => wo (.u 1) 4 1 1
    | 0x0B => wo (.oct 36) 3 0 0
    | 0x0C => wo (.u 1) 3 0 31
    | _ => none
  else
    match sub with
    | 0x01 => some { ty := .oct 32, rd := some 4 }
    | 0x02 => wo (.oct 68) 4 0 0
    | 0x03 => ro (.u 1)
    | _ => none

/-- 0x1750 to 0x1753 (R540). -/
def metaMaint (idx sub : Nat) : Option Meta :=
  if idx = 0x1750 then (if sub = 1 then ro (.oct 24) else if sub = 2 then ro (.u 4) else none)
  else if idx = 0x1751 then
    (if sub = 1 then some { ty := .bool, wr := some 4, chg := .beat, copied := true, lo := 0, hi := 1, dflt := u8 0 } else none)
  else if idx = 0x1752 then (if 1 ≤ sub ∧ sub ≤ 12 then locE (.oct 16) 2 .halt 0 0 (zeros 16) else none)
  else
    match sub with
    | 0x01 => wo (.u 1) 2 1 2
    | 0x02 => locE (.u 2) 2 .halt 1 3600 (be2 60)
    | 0x03 => locE (.u 4) 2 .halt 0 (2 ^ 32) (be4 1)
    | 0x04 => ro (.u 4)
    | 0x05 => ro (.oct 48)
    | _ => none

/-- 0x1780 to 0x1783 (R265). -/
def metaCord (idx sub : Nat) : Option Meta :=
  if idx = 0x1780 then
    match sub with
    | 0x01 => ro (.str 9)
    | 0x02 => ro (.oct 32)
    | 0x03 => ro (.u 4)
    | 0x04 => ro (.u 4)
    | 0x05 => ro (.u 4)
    | 0x06 => ro (.u 4)
    | 0x07 => ro (.u 1)
    | 0x08 => ro (.u 1)
    | 0x09 => ro (.oct 8)
    | 0x0A => ro (.oct 32)
    | 0x0B => ro (.str 9)
    | 0x0C => ro (.oct 8)
    | 0x0D => ro (.u 1)
    | _ => none
  else if idx = 0x1781 then
    match sub with
    | 0x01 => some { ty := .oct 32, rd := some 3 }
    | 0x02 => wo (.oct 68) 3 0 0
    | 0x03 => wo (.u 1) 3 1 1
    | 0x04 => wo (.u 1) 3 0 127
    | 0x05 => wo (.u 1) 3 0 127
    | _ => none
  else if idx = 0x1782 then
    match sub with
    | 0x01 => locE (.u 4) 0 .free 1 131072 (be4 1)
    | 0x02 => locE (.u 2) 0 .free 1 256 (be2 16)
    | 0x03 => ro (.oct 32768)
    | _ => none
  else if 1 ≤ sub ∧ sub ≤ 128 then ro (.u 1) else none

/-- Function modes 0x1800 (R41, R42). -/
def metaModes (sub : Nat) : Option Meta :=
  match sub with
  | 0x01 => ro (.u 1)
  | 0x02 => locE (.u 1) 2 .halt 0 1 (u8 0)
  | 0x03 => locE (.u 1) 2 .halt 0 1 (u8 0)
  | 0x04 => locE (.u 1) 2 .halt 0 1 (u8 0)
  | 0x05 => locE (.u 1) 2 .halt 0 1 (u8 0)
  | 0x06 => locE (.u 1) 2 .halt 0 1 (u8 0)
  | _ => none

/-- Station entries 0x2000 + 8 s (R229). -/
def metaStation (k sub : Nat) : Option Meta :=
  match k, sub with
  | 0, 0x01 => cfgE (.u 1) .halt 0 3 (u8 0)
  | 0, 0x02 => cfgE (.u 2) .halt 0 512 (be2 0)
  | 0, 0x03 => cfgE (.u 1) .halt 0 1 (u8 0)
  | 0, 0x04 => cfgE (.u 4) .halt 0 (2 ^ 32) (be4 0)
  | 0, 0x05 => cfgE (.u 4) .halt 0 (2 ^ 32) (be4 0)
  | 0, 0x06 => cfgE (.u 2) .halt 0 1464 (be2 0)
  | 0, 0x07 => cfgE (.u 4) .halt 0 (2 ^ 32) (be4 0)
  | 0, 0x08 => cfgE (.u 2) .halt 0 1464 (be2 0)
  | 0, 0x09 => cfgE (.u 4) .halt 0 (2 ^ 32) (be4 0)
  | 0, 0x0A => cfgE (.u 4) .halt 0 (2 ^ 32) (be4 0)
  | 1, 0x01 => cfgE (.u 1) .beat 1 15 (u8 3)
  | 1, 0x02 => ro (.u 4)
  | 1, 0x03 => ro (.u 4)
  | 1, 0x04 => ro (.u 4)
  | 2, 0x01 => ro (.u 1)
  | 2, 0x02 => ro (.u 1)
  | 2, 0x03 => ro (.u 2)
  | 2, 0x04 => ro (.u 4)
  | 2, 0x05 => ro (.u 4)
  | 2, 0x06 => ro (.u 4)
  | 2, 0x07 => ro (.u 1)
  | 3, 0x01 => ro (.u 4)
  | 3, 0x02 => ro (.u 4)
  | 3, 0x03 => ro (.u 4)
  | 3, 0x04 => ro (.u 4)
  | 3, 0x05 => ro (.u 4)
  | 4, 0x01 => cfgE (.oct 2928) .halt 0 0 []
  | 5, 0x01 => cfgE (.oct 8) .halt 0 0 (zeros 8)
  | 5, 0x02 => wo (.u 1) 4 1 1
  | _, _ => none

/-- Diagnostics 0x8000, 0x8010, 0x8020, 0x8030 (R339, R417, R440, R487). -/
def metaDiag (idx sub : Nat) : Option Meta :=
  match idx, sub with
  | 0x8000, 0x01 => ro (.u 8)
  | 0x8000, 0x02 => ro (.u 8)
  | 0x8000, 0x03 => ro (.u 4)
  | 0x8000, 0x04 => ro (.u 4)
  | 0x8000, 0x05 => ro (.u 4)
  | 0x8000, 0x06 => ro (.u 1)
  | 0x8000, 0x07 => ro (.u 4)
  | 0x8010, 0x01 => ro (.u 4)
  | 0x8010, 0x02 => ro (.u 4)
  | 0x8010, 0x03 => ro (.u 4)
  | 0x8010, 0x04 => ro (.oct 24)
  | 0x8010, 0x05 => ro (.u 4)
  | 0x8010, 0x06 => ro (.u 4)
  | 0x8020, 0x01 => ro (.u 4)
  | 0x8020, 0x02 => ro (.u 8)
  | 0x8020, 0x03 => ro (.u 1)
  | 0x8020, 0x04 => ro (.u 1)
  | 0x8020, 0x05 => ro (.u 4)
  | 0x8020, 0x06 => ro (.u 8)
  | 0x8030, 0x01 => ro (.u 2)
  | 0x8030, 0x02 => ro (.u 2)
  | 0x8030, 0x03 => ro (.u 2)
  | 0x8030, 0x04 => ro (.i 2)
  | 0x8030, 0x05 => ro (.i 2)
  | 0x8030, 0x06 => ro (.u 4)
  | 0x8030, 0x07 => ro (.u 4)
  | 0x8030, 0x08 => ro (.u 1)
  | 0x8030, 0x09 => ro .bool
  | _, _ => none

/-- A legal object of a channel, by offset and subindex (R305): written at Verifier level through Cord (R252). -/
def legalE (ty : Ty) (lo hi : Int) : Option Meta :=
  some { ty := ty, wr := some 3, chg := .halt, lo := lo, hi := hi }

/-- Largest value of an n-byte unsigned number. -/
def maxU (n : Nat) : Int := 2 ^ (8 * n) - 1

/-- Legal objects of a channel (R305). -/
def metaLegal (j sub : Nat) : Option Meta :=
  match j with
  | 0x00 => match sub with
    | 1 => legalE (.u 1) 0 5
    | 2 => legalE (.u 1) 2 4
    | 3 => legalE (.i 1) (-3) 6
    | 4 => legalE (.u 1) 0 1
    | 5 => legalE (.u 1) 1 8
    | 6 => legalE (.u 1) 0 3
    | 7 => legalE (.u 2) 1 4800
    | 8 => legalE (.u 8) 0 (maxU 8)
    | _ => none
  | 0x01 => if 1 ≤ sub ∧ sub ≤ 8 then legalE (.u 2) 0 (maxU 2) else if 9 ≤ sub ∧ sub ≤ 16 then legalE (.u 1) 0 7 else none
  | 0x02 => if 1 ≤ sub ∧ sub ≤ 8 then legalE (.u 4) 8388608 25165824 else none
  | 0x03 => if 1 ≤ sub ∧ sub ≤ 8 then legalE (.u 4) 0 (maxU 4) else if 9 ≤ sub ∧ sub ≤ 16 then legalE (.u 8) 0 (maxU 8) else none
  | 0x04 => match sub with
    | 1 => legalE (.u 1) 1 16
    | 2 => legalE (.u 4) 0 (maxU 4)
    | 3 => legalE (.u 1) 0 3
    | _ => none
  | 0x05 => if 1 ≤ sub ∧ sub ≤ 5 then legalE .f64 0 (2 ^ 64) else none
  | 0x06 => if 1 ≤ sub ∧ sub ≤ 5 then legalE .f64 0 (2 ^ 64) else none
  | 0x07 => if sub = 1 then legalE (.u 1) 2 5 else if 2 ≤ sub ∧ sub ≤ 6 then legalE .f64 0 (2 ^ 64) else none
  | 0x08 => if 1 ≤ sub ∧ sub ≤ 5 then legalE .f64 0 (2 ^ 64) else none
  | 0x09 => match sub with
    | 1 => legalE (.u 1) 0 2
    | 2 => legalE (.u 1) 1 3
    | _ => if 3 ≤ sub ∧ sub ≤ 9 then legalE (.u 4) 0 (maxU 4) else none
  | 0x0A => match sub with
    | 1 => legalE (.i 4) (-2147483648) 2147483647
    | 2 => legalE (.i 4) (-2147483648) 2147483647
    | 3 => legalE (.u 4) 0 (maxU 4)
    | 4 => legalE .bool 0 1
    | 5 => legalE (.u 2) 0 (maxU 2)
    | 6 => legalE (.u 2) 0 (maxU 2)
    | _ => none
  | 0x0B => if sub = 1 then legalE (.u 2) 0 (maxU 2) else if sub = 2 then legalE (.u 4) 0 (maxU 4) else none
  | 0x0C => if sub = 1 then legalE (.u 1) 0 3 else if sub = 2 then legalE (.u 4) 0 (maxU 4) else none
  | 0x0D => if sub = 1 then legalE (.u 2) 0 9 else if sub = 2 then legalE (.i 4) (-2147483648) 2147483647 else none
  | 0x0E => match sub with
    | 1 => legalE (.i 4) (-2147483648) 2147483647
    | 2 => legalE (.i 4) (-2147483648) 2147483647
    | 3 => legalE (.u 2) 0 (maxU 2)
    | _ => none
  | 0x0F => if sub = 1 then legalE (.u 1) 0 1 else none
  | 0x10 => match sub with
    | 1 => legalE (.u 1) 0 7
    | 2 => legalE .f64 0 (2 ^ 64)
    | 3 => legalE .f64 0 (2 ^ 64)
    | 4 => legalE (.u 4) 0 (maxU 4)
    | _ => none
  | 0x11 => if sub = 1 then legalE (.u 4) 0 (maxU 4) else if sub = 2 then legalE (.u 2) 0 (maxU 2) else none
  | _ => none

/-- Every entry but the exported program variables (R310). -/
def metaOf (idx sub : Nat) : Option Meta :=
  if idx = 0x1000 then metaIdentity sub
  else if idx = 0x1100 then metaPair sub
  else if 0x1200 ≤ idx ∧ idx ≤ 0x1204 then metaSegment idx sub
  else if idx = 0x1300 ∨ (0x1310 ≤ idx ∧ idx ≤ 0x135F) then metaTask idx sub
  else if idx = 0x1360 ∨ idx = 0x1361 then metaChange idx sub
  else if 0x1370 ≤ idx ∧ idx ≤ 0x1377 then metaMapping sub
  else if idx = 0x1400 then metaTime sub
  else if 0x1500 ≤ idx ∧ idx ≤ 0x1502 then metaStore idx sub
  else if idx = 0x1600 then metaLio sub
  else if 0x1710 ≤ idx ∧ idx ≤ 0x1712 then metaService idx sub
  else if idx = 0x1720 ∨ idx = 0x1721 ∨ idx = 0x1730 ∨ idx = 0x1740 then metaUpdate idx sub
  else if 0x1750 ≤ idx ∧ idx ≤ 0x1753 then metaMaint idx sub
  else if 0x1780 ≤ idx ∧ idx ≤ 0x1783 then metaCord idx sub
  else if idx = 0x1800 then metaModes sub
  else if 0x2000 ≤ idx ∧ idx ≤ 0x5FFF then metaStation (idx % 8) sub
  else if 0x7000 ≤ idx ∧ idx ≤ 0x7FFF then metaLegal (idx % 0x20) sub
  else metaDiag idx sub

/-- Largest subindex of an index that has entries; none where it has none (R310). -/
def topSub (idx : Nat) : Option Nat := ((List.range 256).filter (fun k => (metaOf idx k).isSome)).getLast?

/-- Type of a symbol by the code of R311 (R336). -/
def tyOfCode : Nat → Ty
  | 1 => .bool
  | 2 => .u 1 | 3 => .u 2 | 4 => .u 4 | 5 => .u 8
  | 6 => .i 1 | 7 => .i 2 | 8 => .i 4 | 9 => .i 8
  | 10 => .u 4
  | 11 => .f64
  | 14 => .time64
  | 15 => .seq48
  | _ => .oct 64

/-- Length and form of a value fit the type (R311, R312, step 7 of R325). -/
def fitsType (t : Ty) (v : List Byte) : Bool :=
  match t with
  | .str n => v.length ≤ n
  | .oct n => v.length ≤ n
  | t => t.size == some v.length

/-- A binary64 that is not a number (R311). -/
def isNan64 (w : Nat) : Bool := (w >>> 52) % 2048 == 2047 && w % 2 ^ 52 != 0

/-- The value lies in the entry's range (step 8 of R325). -/
def inRange (m : Meta) (v : List Byte) : Bool :=
  match m.ty with
  | .str _ => true
  | .oct _ => true
  | .f64 => !isNan64 (beNat v)
  | .bool => decide (beNat v ≤ 1)
  | t => decide (m.lo ≤ t.value v ∧ t.value v ≤ m.hi)

end Sys2Proof.Machine
end

