-- ==== Sys2Proof/Machine/CycOps.lean ====
section
/-!
DEFINITION. Operations of the cycle engine (04) and of forces (05) that its commands share: image pages, task descriptors, symbols and
values, digests, releases, stops, faults, triggers, IMAGE messages.
-/

namespace Sys2Proof.Machine

-- images and descriptors (R142 to R147) ---------------------------------------------------------------------------

def rxBase : Nat := 0x01000000
def pgBase : Nat := 0x01040000
def wkBase : Nat := 0x01080000
def emBase : Nat := 0x010C0000
def substBase : Nat := 0x01100000
def descBase : Nat := 0x01140000
def trigBase : Nat := 0x0114A000

/-- Pages of a bitmap in ascending order (R145). -/
def pagesOf (b : BitVec 1024) : List Nat := (List.range 1024).filter (bit b)

/-- One page of 256 bytes copied between images. -/
def copyPage (src dst : Nat) (m : Memory) (p : Nat) : Memory :=
  writeBytes m (dst + 256 * p) (readBytes m (src + 256 * p) 256)

def copyPages (src dst : Nat) (ps : List Nat) (m : Memory) : Memory := ps.foldl (copyPage src dst) m

/-- Bytes of the pages, in ascending address order. -/
def pageBytes (base : Nat) (ps : List Nat) (m : Memory) : List Byte := ps.flatMap (fun p => readBytes m (base + 256 * p) 256)

def taskOf (s : State) (t : Nat) : Task := s.run.tasks.getD t {}
def setTask (t : Nat) (f : Task → Task) (s : State) : State := { s with run := { s.run with tasks := modAt s.run.tasks t f } }

/-- A descriptor as its 512 bytes have it (R145). -/
def readDesc (m : Memory) (t : Nat) : Desc :=
  let a := descBase + 0x200 * t
  let w (o n : Nat) : Nat := readLe m (a + o) n
  { kind := w 0 1, prio := w 1 1, policy := w 2 1, cores := BitVec.ofNat 8 (w 4 1), trigger := w 6 2, period := w 8 4, offset := w 12 4
    latch := w 16 4, deadline := w 20 4, entry := w 24 8, data := w 32 8, segmask := BitVec.ofNat 8 (w 40 1)
    inPages := BitVec.ofNat 1024 (w 128 128), outPages := BitVec.ofNat 1024 (w 256 128) }

/-- The checks of R146; an unused descriptor needs none. -/
def descOk (t : Nat) (d : Desc) : Bool :=
  d.kind == 0xFF ||
    (d.cores != 0 && !bit d.cores 0 &&
      (decide (16 ≤ t) || (decide (d.latch < d.deadline) && decide (d.deadline ≤ 250 * d.period))))

/-- The Halt-class part of a descriptor, for comparison (R146). -/
def haltPart (d : Desc) : Desc := { d with policy := 0, latch := 0, deadline := 0 }

/-- Task `t` is enabled; is faulted (R172). -/
def enabled (s : State) (t : Nat) : Bool := if t < 16 then bit s.cyc.taskEn t else bit s.cyc.evtEn (t - 16)
def faultedTask (s : State) (t : Nat) : Bool := if t < 16 then bit s.cyc.taskFault t else bit s.cyc.evtFault (t - 16)

/-- Start boundaries of a cyclic task (R139, R140). -/
def startDue (d : Desc) (b : Nat) : Bool :=
  decide (0 < d.period) && (b + d.period - d.offset % d.period) % d.period == 0

/-- Least common multiple of the periods that count (R140). -/
def hyperOf (s : State) : Nat :=
  let ts := ((List.range 16).filter (fun t => bit s.cyc.taskEn t)).map (fun t => (taskOf s t).desc.period)
  let ss := ((List.range 4).filter (fun n => (s.fol.segs.getD n {}).st == .running)).map
    (fun n => 2 ^ (fld (s.run.segs.getD n 7) 0 3))
  (ts ++ ss).foldl (fun a p => if p = 0 then a else Nat.lcm a p) 1

-- the program's symbols (R174, R188) --------------------------------------------------------------------------------

/-- A stored object value as sent, or the entry's default (R333). -/
def cfgVal (s : State) (idx sub : Nat) : List Byte :=
  match s.od.vals.find? (fun v => v.index == idx && v.sub == sub) with
  | some v => v.val
  | none => ((metaOf idx sub).map (fun m => m.dflt)).getD []

def cfgNum (s : State) (idx sub : Nat) : Nat := beNat (cfgVal s idx sub)

/-- Size of one element of a type code (R311). -/
def typeSize (c : Nat) : Nat := ((tyOfCode c).size).getD 1

def symOf (s : State) (id : Word) : Option Sym := s.run.prog.bind (fun p => p.syms.find? (fun y => y.id == id))

/-- Bytes of a symbol's value. -/
def symLen (y : Sym) : Nat := typeSize y.typ * max 1 y.count

/-- Where a symbol's bytes lie: program copy, work copy, or static data. -/
def symAddr (p : Prog) (y : Sym) : Nat :=
  if bit y.flags 1 then pgBase + y.offset else if bit y.flags 2 then wkBase + y.offset else p.dataBase + y.offset

/-- A value as frames carry it, in memory order: each element's bytes reversed, raw bytes as they are (R312). -/
def toMem (typ : Nat) (v : List Byte) : List Byte :=
  match tyOfCode typ with
  | .str _ => v
  | .oct _ => v
  | t => match t.size with
    | none => v
    | some n => (List.range (v.length / max 1 n)).flatMap (fun k => (slice v (k * n) n).reverse)

/-- A value written over a variable; a retained variable that changes leaves a delta record (R331, R107). -/
def putVar (p : Prog) (y : Sym) (off : Nat) (v : List Byte) (md : Memory × List Delta) : Memory × List Delta :=
  let a := symAddr p y + off
  let m := writeBytes md.1 a v
  if bit y.flags 0 && !bit y.flags 1 && !bit y.flags 2 && readBytes md.1 a v.length != v then
    (m, md.2 ++ [{ offset := y.offset + off, data := v }])
  else (m, md.2)

/-- Forces of a task's variables that `p` selects are written over them (R189). -/
def applyForces (t : Nat) (sel : Sym → Bool) (s : State) : State :=
  match s.run.prog with
  | none => s
  | some p =>
    let (m, ds) := s.chg.forces.foldl
      (fun md f => match p.syms.find? (fun y => y.id == f.id) with
        | some y => if y.owner == t && sel y then putVar p y 0 f.val md else md
        | none => md)
      (s.mem, [])
    setTask t (fun k => { k with pds := k.pds ++ ds }) { s with mem := m }

def inInput (y : Sym) : Bool := bit y.flags 1
def inStatic (y : Sym) : Bool := !bit y.flags 1 && !bit y.flags 2
def notInput (y : Sym) : Bool := !bit y.flags 1

/-- The initial value of bytes `off` on of static data: the initial data lies over it from its start, the rest is zero (log 19). -/
def initBytes (p : Prog) (off len : Nat) : List Byte := fit len (slice p.init off len)

/-- The non-retained data of a task takes its initial values (R154, R155). -/
def reinitTask (t : Nat) (s : State) : State :=
  match s.run.prog with
  | none => s
  | some p =>
    let m := p.syms.foldl
      (fun m y => if y.owner = t ∧ inStatic y ∧ !bit y.flags 0 then writeBytes m (symAddr p y) (initBytes p y.offset (symLen y)) else m) s.mem
    setTask t (fun k => { k with reinit := false }) { s with mem := m }

-- digests (R107) ------------------------------------------------------------------------------------------------------

/-- The digest of an instance that commits. -/
def digestOf (inst : Nat) (out : List Byte) (ds : List Delta) : DWord := crc64 (le8 inst ++ out ++ deltaPayload ds)

def digestP (t outcome inst : Nat) (out : List Byte) (ds : List Delta) : DigestP :=
  { task := t, outcome := outcome, inst := BitVec.ofNat 64 inst, digest := digestOf inst out ds
    outBytes := BitVec.ofNat 32 out.length, retBytes := BitVec.ofNat 32 (ds.map deltaBytes).sum }

/-- Twin execution has begun for a task (FLU_SYNC). -/
def twinOn (s : State) (t : Nat) : Bool := if t < 16 then bit s.flu.syncTasks t else s.flu.syncEvts

/-- Execution happens here: on the active, and on a standby for the tasks in twin execution. -/
def executes (s : State) (t : Nat) : Bool := s.pair.role == .active || (s.pair.role == .standby && twinOn s t)

-- stops and faults (R154 to R156) ------------------------------------------------------------------------------------

/-- Entries with OP 2 for cores that still run threads of the task (R423). -/
def stopThreads (t : Nat) (cores : BitVec 8) (s : State) : State :=
  ((List.range 8).filter (bit cores)).foldl (fun s c => placeRel c 2 t s) s

/-- Causes of event 0x0302: 0 deadline, 1 trap, 2 limit. -/
def faultTask (t cause : Nat) (s : State) : State :=
  let s := { s with cyc :=
    if t < 16 then { s.cyc with taskFault := setBit s.cyc.taskFault t } else { s.cyc with evtFault := setBit s.cyc.evtFault (t - 16) } }
  post 0x0302 0x40 (u8 cause) (cycInt 3 (setTask t (fun k => { k with st := 5, reinit := true }) s))

/-- The instance in flight ends without a commit (outcome faulted, R107 item 1 only); its DIGEST leaves. -/
def endFaulted (t : Nat) (s : State) : State :=
  let k := taskOf s t
  let p := digestP t 3 k.cur.toNat [] []
  let s := setTask t (fun k => { k with
    inFlight := false, threads := 0, trapped := false, poison := false, outcome := 3, st := if k.st = 5 then 5 else 1
    lastExec := BitVec.ofNat 32 (s.now - k.relAt), maxExec := BitVec.ofNat 32 (max k.maxExec.toNat (s.now - k.relAt))
    pds := [], partner := none, handWait := false, extended := false, missed := false, skipRun := 0 }) s
  if twinOn s t then
    sendTwin (.digest p) { s with fluq := { s.fluq with own := s.fluq.own ++ [{ p := p, at_ := s.now }] } }
  else s

/-- A task is stopped at a limit (R155): threads stopped, nothing committed, the task faulted. -/
def stopAndFault (t cause : Nat) (s : State) : State :=
  let s := stopThreads t (taskOf s t).threads s
  endFaulted t (faultTask t cause s)

/-- RESUME (R155): the fault ends; the data is initialised again before the next release. -/
def resumeTask (t : Nat) (s : State) : State :=
  let s := { s with cyc :=
    if t < 16 then { s.cyc with taskFault := clrBit s.cyc.taskFault t } else { s.cyc with evtFault := clrBit s.cyc.evtFault (t - 16) } }
  setTask t (fun k => { k with st := if k.st = 5 then 1 else k.st }) s

/-- An instance is skipped (R155): counted, event 0x0301, its DIGEST says so. -/
def skipInstance (t : Nat) (s : State) : State :=
  let inst := (taskOf s t).inst.toNat + 1
  let p := digestP t 2 inst [] []
  let s := setTask t (fun k => { k with
    inst := BitVec.ofNat 64 inst, skips := satInc k.skips, skipRun := if k.inFlight then k.skipRun + 1 else k.skipRun
    outcome := if k.inFlight then k.outcome else 2 }) s
  let s := post 0x0301 0x40 [] (cycInt 2 { s with cyc := { s.cyc with cntSkip := satInc s.cyc.cntSkip } })
  if twinOn s t then
    sendTwin (.digest p) { s with fluq := { s.fluq with own := s.fluq.own ++ [{ p := p, at_ := s.now }] } }
  else s

-- release (R153) --------------------------------------------------------------------------------------------------------

/-- Deadline of an instance in ns from its origin. -/
def deadlineNs (d : Desc) : Nat := d.deadline * 1000

/-- The start boundary that a beat belongs to: the last one at or before it; an event task's is the beat itself. -/
def startBeat (d : Desc) (b : Nat) : Nat := if d.period = 0 then b else b - (b + d.period - d.offset % d.period) % d.period

/-- The instance `inst` is released on its cores: forces over static data, the release entries. -/
def release (t origin inst : Nat) (s : State) : State :=
  let s := if (taskOf s t).reinit then reinitTask t s else s
  let s := applyForces t inStatic s
  let d := (taskOf s t).desc
  let s := setTask t (fun k => { k with
    inFlight := true, inst := BitVec.ofNat 64 inst, cur := BitVec.ofNat 64 inst, startAt := origin, relAt := s.now
    dueAt := origin + deadlineNs d, extended := false, missed := false, skipRun := 0, threads := d.cores, trapped := false
    st := 3, latchDue := none, pol := d.policy, lastStart := some (startBeat d s.cyc.beat.toNat), dig := none, partner := none, handWait := false }) s
  ((List.range 8).filter (bit d.cores)).foldl (fun s c => placeRel c 1 t s) s

-- program-visible writes (R102, R331) ---------------------------------------------------------------------------------

/-- Bytes that a write takes in its section (R120). -/
def progWBytes (w : ProgW) : Nat := 6 + w.value.length

/-- The local I/O task (R446): the cyclic task that owns the local output area. -/
def lioTask (s : State) : Option Nat :=
  (List.range 16).find? (fun t => bit (taskOf s t).desc.outPages (fld s.lio.map 32 32 / 256) && (taskOf s t).desc.kind == 0)

/-- The write goes to an instance of task `t`: its variable's owner; force writes go with any instance (R190), REARM with the
local I/O task's (R460). -/
def progWFor (s : State) (t : Nat) (w : ProgW) : Bool :=
  let owned := ((symOf s w.sym).map (fun y => y.owner == t)).getD false
  match w.entry with
  | some e => if e.index = 0x1361 then true else if e.index = 0x1600 then lioTask s == some t else owned
  | none => owned

/-- The writes that this instance carries are marked, in the order received, within 8,192 bytes a beat (R102). -/
def carryWrites (t : Nat) (s : State) : State :=
  let step (acc : List ProgW × Nat × Bool) (w : ProgW) : List ProgW × Nat × Bool :=
    if w.carried || !progWFor s t w then (acc.1 ++ [w], acc.2)
    else if acc.2.2 || decide (8192 < acc.2.1 + progWBytes w) then (acc.1 ++ [w], acc.2.1, true)
    else (acc.1 ++ [{ w with carried := true }], acc.2.1 + progWBytes w, false)
  let r := s.od.progWs.foldl step ([], s.fluq.objBytes, false)
  { s with od := { s.od with progWs := r.1 }, fluq := { s.fluq with objBytes := r.2.1 } }

-- forces (R188 to R192) -----------------------------------------------------------------------------------------------

/-- The force table without an identity. -/
def dropForce (id : Word) (s : State) : State := { s with chg := { s.chg with forces := s.chg.forces.filter (fun f => f.id != id) } }

/-- A force write takes effect (R190): sub 1 set, 2 clear, 3 clear all; event 0x0327. -/
def forceWrite (sub : Nat) (v : List Byte) (s : State) : State :=
  match sub with
  | 1 =>
    let id := BitVec.ofNat 32 (leAt v 0 4)
    let f : Force := { id := id, typ := leAt v 4 1, val := slice v 8 (leAt v 6 2) }
    post 0x0327 0x40 (le4 id.toNat) (let s := dropForce id s
      { s with chg := { s.chg with forces := s.chg.forces ++ [f] } })
  | 2 => post 0x0327 0x40 (le4 (beNat v)) (dropForce (BitVec.ofNat 32 (beNat v)) s)
  | _ => post 0x0327 0x40 [] { s with chg := { s.chg with forces := [] } }

/-- A write's effect on the variable: element `elem`, value as sent. -/
def writeVar (t : Nat) (id : Word) (elem : Nat) (v : List Byte) (s : State) : State :=
  match s.run.prog, symOf s id with
  | some p, some y =>
    let (m, ds) := putVar p y (elem * typeSize y.typ) (toMem y.typ v) (s.mem, [])
    setTask t (fun k => { k with pds := k.pds ++ ds }) { s with mem := m }
  | _, _ => s

/-- The variable that an exported index and subindex name (R336), and its element: the symbol table's order gives the indexes, from
0x6000 on (log 20). -/
def exportSym (s : State) (idx : Nat) : Option Sym := if idx < 0x6000 then none else s.run.prog.bind (fun p => p.syms[idx - 0x6000]?)

/-- One carried write takes effect at its instance, and its client is answered when its last part has (R322, R331). -/
def takeWrite (t : Nat) (w : ProgW) (s : State) : State :=
  let s := match w.entry with
    | some e =>
      if e.index = 0x1361 then forceWrite e.sub.toNat w.value s
      else if e.index = 0x1600 then { s with lio := { s.lio with rearmReq := s.lio.rearmReq ||| beNat w.value } }
      else writeVar t w.sym w.elem w.value s
    | none => writeVar t w.sym w.elem w.value s
  let s := { s with od := { s.od with progWs := s.od.progWs.erase w } }
  let s := match w.forward with
    | some n => sendTwin (.objWrite { op := 5, txn := n, beat := 0, arg := 0, entries := [] }) s
    | none => s
  match w.client with
  | none => s
  | some c =>
    if s.od.progWs.any (fun x => x.client == some c) then s
    else respond c (if w.entry.isSome then 4 else 0x21) 0 [] s

/-- The carried writes take effect before the release (R98, R331). -/
def takeWrites (t : Nat) (s : State) : State := (s.od.progWs.filter (fun w => w.carried)).foldl (fun s w => takeWrite t w s) s

-- IMAGE messages (R98, R120) --------------------------------------------------------------------------------------------

def section_ (typ : Nat) (data : List Byte) : List Byte := u8 typ ++ zeros 3 ++ be4 data.length ++ data

/-- Runs of consecutive pages: each an INPUT section. -/
def runsOf : List Nat → List (Nat × Nat)
  | [] => []
  | p :: ps =>
    match runsOf ps with
    | (q, n) :: rs => if q = p + 1 then (p, n + 1) :: rs else (p, 1) :: (q, n) :: rs
    | [] => [(p, 1)]

/-- Standby state of the pair view (R98): 0 none, 1 RESYNC, 2 SYNCHRONISED. -/
def standbyState (s : State) : Nat :=
  match standbySlot s with
  | some x => subNo (peerOf s.pair x).sub
  | none => 0

/-- OBJWRITE and HOSTVAR sections of the writes carried. -/
def objSection (ws : List ProgW) : List Byte :=
  let d := ws.flatMap (fun w => match w.entry with
    | some e => be2 e.index.toNat ++ [e.sub, e.typ] ++ be2 w.value.length ++ w.value
    | none => [])
  if d.isEmpty then [] else section_ 4 d
def hostSection (ws : List ProgW) : List Byte :=
  let d := ws.flatMap (fun w => match w.entry with
    | some _ => []
    | none => be4 w.sym.toNat ++ be2 w.value.length ++ w.value)
  if d.isEmpty then [] else section_ 5 d

/-- The message body of an instance (R98, R121). -/
def imageBody (t : Nat) (fired : List Nat) (s : State) : List Byte :=
  let k := taskOf s t
  let ws := s.od.progWs.filter (fun w => w.carried)
  section_ 1 (be8 k.stamp.toNat) ++
    (runsOf (pagesOf k.desc.inPages)).flatMap (fun r => section_ 2 (be4 (256 * r.1) ++ readBytes s.mem (pgBase + 256 * r.1) (256 * r.2))) ++
    section_ 3 (u8 2 ++ u8 (standbyState s) ++ zeros 2 ++ be4 s.pair.epoch.toNat ++ be4 s.pair.takeCount.toNat ++ zeros 4) ++
    objSection ws ++ hostSection ws ++
    (if fired.isEmpty then [] else section_ 6 (u8 fired.length ++ fired.flatMap (fun n => u8 n))) ++ section_ 0xFF []

/-- The message is cut into parts of 1,464 body bytes and sent; all parts but the last carry MORE (R120). -/
def sendImage (t inst : Nat) (body : List Byte) (s : State) : State :=
  let n := (body.length + 1463) / 1464
  (List.range n).foldl
    (fun s k => sendFlueF (if k + 1 = n then 0 else 2) (twinSlot s)
      (.image { task := t, part := k, parts := n, inst := BitVec.ofNat 64 inst, offset := 1464 * k, body := slice body (1464 * k) 1464 }) s) s

/-- The sections of a body, each type and data. -/
def sectionsOf : Nat → List Byte → List (Nat × List Byte)
  | 0, _ => []
  | n + 1, b =>
    if b.length < 8 then []
    else (beAt b 0 1, slice b 8 (beAt b 4 4)) :: sectionsOf n (b.drop (8 + beAt b 4 4))

-- triggers (R160, R161) ----------------------------------------------------------------------------------------------------

/-- The four values that an entry's terms read in the program copy. -/
def trigVals (m : Memory) (e : Nat) : List Nat :=
  let a := trigBase + 0x40 * e
  (List.range 4).map (fun k =>
    let off := pgBase + readLe m (a + 12 + 12 * k) 4
    match readLe m (a + 8 + 12 * k) 1 with
    | 4 => readLe m off 2
    | 5 => readLe m off 2
    | 7 => readLe m off 4
    | _ => readLe m off 1)

/-- Term `k` fires on a change of its value from `x` to `y`. -/
def termFires (m : Memory) (e k x y : Nat) : Bool :=
  let a := trigBase + 0x40 * e + 12 * k
  let b := readLe m (a + 9) 1
  let v := readLe m (a + 16) 4
  match readLe m (a + 8) 1 with
  | 1 => !x.testBit b && y.testBit b
  | 2 => x.testBit b && !y.testBit b
  | 3 => x.testBit b != y.testBit b
  | 4 => decide (x ≤ v) && decide (v < y)
  | 5 => decide (v ≤ x) && decide (y < v)
  | 6 => x == 0 && y != 0
  | 7 => x != y
  | _ => false

/-- Entries that a cyclic task owns. -/
def trigOf (s : State) (t : Nat) : List Nat :=
  if s.run.prog.isNone then [] else (List.range 64).filter (fun e => readLe s.mem (trigBase + 0x40 * e) 1 == t)

/-- Entries of task `t` that fire at this update, and the values kept for the next (R160). -/
def evalTriggers (t : Nat) (s : State) : State × List Nat :=
  let es := trigOf s t
  let fires := es.filter (fun e =>
    match s.run.trigPrev.find? (fun p => p.entry == e) with
    | none => false
    | some p => (List.range 4).any (fun k => termFires s.mem e k (p.vals.getD k 0) ((trigVals s.mem e).getD k 0)))
  ({ s with run := { s.run with
      trigPrev := es.map (fun e => { entry := e, vals := trigVals s.mem e }) ++
        s.run.trigPrev.filter (fun p => !es.contains p.entry) } }, fires)

/-- The event task of a trigger entry: the one enabled whose descriptor names it. -/
def eventOf (s : State) (e : Nat) : Option Nat :=
  (List.range 64).find? (fun m => let k := taskOf s (16 + m)
    k.desc.kind == 1 && k.desc.trigger == e && enabled s (16 + m) && !faultedTask s (16 + m))

/-- A trigger meets an event task (R161): released now, held as pending, or lost. The list names those to be released. -/
def fireOne (acc : State × List Nat × List Nat) (e : Nat) : State × List Nat × List Nat :=
  let (s, now, listed) := acc
  match eventOf s e with
  | none => acc
  | some m =>
    if !(taskOf s (16 + m)).inFlight && !now.contains (16 + m) then (s, now ++ [16 + m], listed ++ [16 + m])
    else if bit s.cyc.evtPend m then
      (post 0x0303 0x40 [] (cycInt 4 { s with cyc := { s.cyc with cntLost := satInc s.cyc.cntLost } }), now, listed)
    else ({ s with cyc := { s.cyc with evtPend := setBit s.cyc.evtPend m } }, now, listed ++ [16 + m])

/-- The pages of the trigger entry copied to the event task's (R161). -/
def copyTrigger (e : Nat) (s : State) : State :=
  let a := trigBase + 0x40 * e
  let n := min 32 (readLe s.mem (a + 1) 1)
  let src := readLe s.mem (a + 2) 2
  let dst := readLe s.mem (a + 4) 2
  { s with mem := writeBytes s.mem (pgBase + 256 * dst) (readBytes s.mem (pgBase + 256 * src) (256 * n)) }

/-- Cyclic task that owns a trigger entry. -/
def trigOwner (s : State) (e : Nat) : Nat := readLe s.mem (trigBase + 0x40 * e) 1

/-- One exchange input of task `t` takes its writer's last commit (R159); it lies in the task's input pages (R144). -/
def copyExchange (t : Nat) (s : State) (x : Nat × Nat × Nat) : State :=
  if bit (taskOf s t).desc.inPages (x.2.1 / 256) && decide (x.2.1 % 256 + x.2.2 ≤ 256 ∧ x.1 + x.2.2 ≤ 0x40000) then
    markRange (pgBase + x.2.1) x.2.2 { s with mem := writeBytes s.mem (pgBase + x.2.1) (readBytes s.mem (emBase + x.1) x.2.2) }
  else s

/-- The exchange inputs of a task, as the active's latch copies them (R148, R159; log 54). -/
def copyExchanges (t : Nat) (s : State) : State := (Config.exchangeInputs (progId s) t).foldl (copyExchange t) s

/-- An event task is released on the active (R161), or skipped after an extension (R155): its pages, its IMAGE message with the owner's timestamp, its release. -/
def releaseEvent (t : Nat) (s : State) : State :=
  let k := taskOf s t
  if 0 < k.skipNext then skipInstance t (setTask t (fun k => { k with skipNext := k.skipNext - 1 }) s) else
  let e := k.desc.trigger
  let s := copyExchanges t (copyTrigger e s)
  let s := setTask t (fun k => { k with stamp := (taskOf s (trigOwner s e)).stamp }) s
  let s := carryWrites t s
  let inst := k.inst.toNat + 1
  let s := if twinOn s t then sendImage t inst (imageBody t [] s) s else s
  release t s.now inst (takeWrites t s)

/-- A pending trigger releases its event task when the instance has ended (R161). -/
def releasePending (t : Nat) (s : State) : State :=
  if 16 ≤ t ∧ bit s.cyc.evtPend (t - 16) ∧ !(taskOf s t).inFlight ∧ enabled s t ∧ !faultedTask s t ∧ s.cyc.releasing ∧
      s.pair.role = .active then
    releaseEvent t { s with cyc := { s.cyc with evtPend := clrBit s.cyc.evtPend (t - 16) } }
  else s

end Sys2Proof.Machine
end

