-- ==== Sys2Proof/Machine/LocalIo.lean ====
section
/-!
DEFINITION. Local inputs and outputs (14): groups and their supplies, the latch, the read and write marks, re-enables, and their
commands.
-/

namespace Sys2Proof.Machine

def lioGroup (l : Lio) (g : Nat) : LioGroup := if g = 0 then l.g0 else l.g1
def setGroup (l : Lio) (g : Nat) (x : LioGroup) : Lio := if g = 0 then { l with g0 := x } else { l with g1 := x }

def groupNo : GroupSt → Nat
  | .good => 0
  | .low => 1
  | .tripped => 2
  | .ready => 3

/-- Quality byte of a group (R447). -/
def groupQ (x : LioGroup) : Nat :=
  (if x.st = .low ∨ x.st = .tripped then 8 else 0) + (if x.missing then 2 else 0)

/-- Byte 6 of the input area (R447). -/
def groupStates (l : Lio) : Nat := groupNo l.g0.st + 4 * groupNo l.g1.st

/-- Output `k` conducts (R450): a tripped group's channels conduct until the sequence reaches them. -/
def conducts (s : State) (k : Nat) : Bool :=
  s.pair.outEn && bit s.lio.latch k && !bit s.lio.off k && !bit s.lio.thermal k && ((lioGroup s.lio (k / 4)).st != .ready)

def onByte (s : State) : Nat := (List.range 8).foldl (fun a k => a + (if conducts s k then 2 ^ k else 0)) 0

/-- Offsets of the local areas in the images (R462). -/
def lioIn (l : Lio) : Nat := fld l.map 0 32 / 8 * 8
def lioOut (l : Lio) : Nat := fld l.map 32 32 / 2 * 2

/-- The substitute byte (R448). -/
def substByte (s : State) : Byte := readByte s.mem (substBase + lioOut s.lio)

def lioFlag (b : Nat) (s : State) : State := { s with lio := { s.lio with flags := setBit s.lio.flags b } }

/-- Input bits of a group, held while its quality byte is not zero (R447). -/
def heldBits (x : LioGroup) (live : Nat) : Nat := if groupQ x = 0 then live else x.held

/-- Read mark (R446, R447): the input area goes into the receive copy. -/
def readMark (inputs : Half) (s : State) : State :=
  let s := { s with lio := { s.lio with inputs := inputs } }
  if fld s.lio.cycle 0 3 = 7 then s
  else
    let h0 := heldBits s.lio.g0 (fld inputs 0 8)
    let h1 := heldBits s.lio.g1 (fld inputs 8 8)
    let s := { s with lio := { s.lio with g0 := { s.lio.g0 with held := h0 }, g1 := { s.lio.g1 with held := h1 } } }
    let area := u8 h0 ++ u8 h1 ++ u8 (groupQ s.lio.g0) ++ u8 (groupQ s.lio.g1) ++ u8 (onByte s) ++
      u8 (s.lio.limit ||| s.lio.thermal).toNat ++ u8 (groupStates s.lio) ++ [0]
    { s with mem := writeBytes s.mem (rxBase + lioIn s.lio) area }

/-- A group whose re-enable is due becomes GOOD at the write mark (R453). -/
def markGroup (g : Nat) (s : State) : State :=
  let x := lioGroup s.lio g
  let on (x : LioGroup) (s : State) : State :=
    { s with lio := { setGroup s.lio g x with off := s.lio.off &&& ~~~(if g = 0 then 0x0F#8 else 0xF0#8) } }
  if x.st = .tripped ∧ x.recover then
    lioFlag 3 (post 0x0B03 0x48 [] (on { x with st := .good, recover := false, first := false } s))
  else if x.st = .ready ∧ x.reEnable then
    lioFlag 3 (post 0x0B04 0x48 [] (on { x with st := .good, reEnable := false } s))
  else s

/-- SUBST_COUNT: 0 acts as 1. -/
def substCount (l : Lio) : Nat := max 1 (fld l.policy 12 4)

/-- The latch at a write mark (R449). -/
def markLatch (s : State) : State :=
  let runs := s.cyc.pstate == .running || (s.cyc.pstate == .starting && s.lio.sinceRst)
  let subst (s : State) : State :=
    let s := postIf (!s.lio.subst) 0x0B07 0x48 [] s
    lioFlag 4 { s with lio := { s.lio with latch := substByte s, subst := true } }
  if fld s.lio.cycle 0 3 = 7 then { s with lio := { s.lio with latch := substByte s } }
  else if !runs then subst { s with lio := { s.lio with committed := false } }
  else if s.lio.committed then
    { s with lio := { s.lio with latch := readByte s.mem (emBase + lioOut s.lio), missed := 0, subst := false, committed := false } }
  else
    let s := { s with lio := { s.lio with missed := s.lio.missed + 1, missedCnt := satInc s.lio.missedCnt } }
    if substCount s.lio ≤ s.lio.missed then subst s else s

/-- Write mark (R449, R453, R455). -/
def writeMark (cool : Byte) (s : State) : State :=
  let s := markLatch s
  let s := { s with lio := { s.lio with
      thermal := s.lio.thermal &&& (s.lio.latch ||| ~~~cool)
      limit := s.lio.limit &&& s.lio.latch } }
  markGroup 1 (markGroup 0 s)

/-- A re-enable request acts on a group (R453): on READY it takes effect at the next write mark, else it is ignored, event 0x0B09. -/
def reEnable (g : Nat) (s : State) : State :=
  let x := lioGroup s.lio g
  if x.st = .ready then { s with lio := setGroup s.lio g { x with reEnable := true } } else post 0x0B09 0x48 [] s

def reEnables (mask : Nat) (s : State) : State :=
  let s := if mask.testBit 0 then reEnable 0 s else s
  if mask.testBit 1 then reEnable 1 s else s

/-- A commit of the local I/O task (R448, R449, R460): rising CTRL bits and the REARMs that the instance carried. -/
def lioCommit (t : Nat) (s : State) : State :=
  if lioTask s ≠ some t then s
  else
    let ctrl : Byte := readByte s.mem (emBase + lioOut s.lio + 1) &&& 3
    let mask := (ctrl &&& ~~~s.lio.ctrlPrev).toNat ||| s.lio.rearmReq
    reEnables mask { s with lio := { s.lio with committed := true, sinceRst := true, ctrlPrev := ctrl, rearmReq := 0 } }

/-- The group's policy is automatic, or it has not left TRIPPED since the start (R451). -/
def autoGroup (s : State) (g : Nat) : Bool := bit s.lio.policy (8 + g) || (lioGroup s.lio g).first

/-- A trip (R451, R452): the state, the events, and the sequence from channel 0; a channel that does not conduct stays off. -/
def trip (g : Nat) (mv : Half) (s : State) : State :=
  let x := lioGroup s.lio g
  let missing := decide (mv.toNat < 500)
  let s :=
    if x.st = .tripped then { s with lio := setGroup s.lio g { x with mv10 := mv, missing := x.missing || missing, recover := false } }
    else
      let grp : Byte := if g = 0 then 0x0F else 0xF0
      let on : Byte := BitVec.ofNat 8 (onByte s)
      let s := { s with lio := { setGroup s.lio g { x with
                    st := .tripped, mv10 := mv, missing := x.missing || missing, recover := false, reEnable := false, nextOff := 0 } with
                  off := s.lio.off ||| (grp &&& ~~~on), tripCount := satInc s.lio.tripCount } }
      lioFlag 1 (post 0x0B01 0x48 (le2 mv.toNat) s)
  if missing && !x.missing then lioFlag 2 (post 0x0B02 0x48 [] s) else s

-- commands -----------------------------------------------------------------------------------------------------------

def execLocalReadMark (inputs : Half) (s : State) : Host.Outcome State Fault Refusal :=
  finish (if rickFull s then readMark inputs s else s)

def execLocalWriteMark (cool : Byte) (s : State) : Host.Outcome State Fault Refusal :=
  finish (if rickFull s then writeMark cool s else s)

/-- Supply below 19.2 V while GOOD (R451); on a TRIPPED group that waits for the write mark it starts the 50 ms again. -/
def execSupplyLow (group : Nat) (mv10 : Half) (s : State) : Host.Outcome State Fault Refusal :=
  finish <|
  let x := lioGroup s.lio group
  if rickLive s ∧ group < 2 ∧ x.st = .good then
    lioFlag 0 (post 0x0B00 0x48 [] { s with lio := setGroup s.lio group { x with st := .low, mv10 := mv10 } })
  else if rickLive s ∧ group < 2 ∧ x.st = .tripped ∧ x.recover then
    { s with lio := setGroup s.lio group { x with recover := false, mv10 := mv10 } }
  else s

def execSupplyTrip (group : Nat) (mv10 : Half) (s : State) : Host.Outcome State Fault Refusal :=
  finish (if rickLive s ∧ group < 2 then trip group mv10 s else s)

/-- The switch-off of group channel j (R452), in ascending order. -/
def execTripSwitchOff (group channel : Nat) (s : State) : Host.Outcome State Fault Refusal :=
  finish <|
  let x := lioGroup s.lio group
  if rickLive s ∧ group < 2 ∧ channel < 4 ∧ x.nextOff = channel then
    { s with lio := { setGroup s.lio group { x with nextOff := channel + 1 } with off := setBit s.lio.off (4 * group + channel) } }
  else s

/-- 50 ms above 19.8 V from LOW (R451). -/
def execSupplyGood (group : Nat) (mv10 : Half) (s : State) : Host.Outcome State Fault Refusal :=
  finish <|
  let x := lioGroup s.lio group
  if rickLive s ∧ group < 2 ∧ x.st = .low then { s with lio := setGroup s.lio group { x with st := .good, mv10 := mv10 } } else s

/-- 50 ms above 19.8 V from TRIPPED, its sequence at its end (R451, R453, R456). -/
def execSupplyRecovered (group : Nat) (mv10 : Half) (s : State) : Host.Outcome State Fault Refusal :=
  finish <|
  let x := lioGroup s.lio group
  if rickLive s ∧ group < 2 ∧ x.st = .tripped ∧ x.nextOff = 4 then
    if autoGroup s group then
      { s with lio := setGroup s.lio group { x with recover := true, missing := false, mv10 := mv10 } }
    else
      post 0x0B03 0x48 [] { s with lio := setGroup s.lio group { x with st := .ready, missing := false, mv10 := mv10 } }
  else s

/-- A keyed write of LIO_CMD from M mode (R453, R462). -/
def lioRearm (level : Level) (word : Word) (s : State) : State :=
  if level = .m ∧ fld word 16 16 = 0x1A0E ∧ rickLive s then reEnables (fld word 0 2) s else s

def execLioRearm (level : Level) (word : Word) (s : State) : Host.Outcome State Fault Refusal := finish (lioRearm level word s)

/-- A current limit for more than 10 ms (R455). -/
def execCurrentLimitLong (output : Nat) (s : State) : Host.Outcome State Fault Refusal :=
  finish <|
  if rickLive s ∧ output < 8 ∧ conducts s output then
    lioFlag 5 (post 0x0B05 0x48 [] { s with lio := { s.lio with limit := setBit s.lio.limit output } })
  else s

/-- Thermal shutdown (R455): the channel is off and latched off. -/
def execThermalShutdown (output : Nat) (s : State) : Host.Outcome State Fault Refusal :=
  finish <|
  if rickLive s ∧ output < 8 then
    lioFlag 6 (post 0x0B06 0x48 [] { s with lio := { s.lio with
        thermal := setBit s.lio.thermal output, limit := clrBit s.lio.limit output } })
  else s

end Sys2Proof.Machine
end

