-- ==== Sys2Proof/Machine/Clocks.lean ====
section
/-!
DEFINITION. Clocks and time (10): judging, CLOCK-HOLD, the DVFS sequencer, FIRC trimming, TIME and its discipline, the calendar clock,
and their commands.
-/

namespace Sys2Proof.Machine

/-- HCK_INT_STATUS and source 74 (R365). -/
def hckInt (b : Nat) (s : State) : State :=
  let st := setBit s.clk.hckInt b
  ringIf (rings s.clk.hckInt st s.clk.hckMask) 74 { s with clk := { s.clk with hckInt := st } }

/-- RTC_INT_STATUS and source 76 (R368). -/
def rtcIntBit (b : Nat) (s : State) : State :=
  let st := setBit s.tim.rtcInt b
  ringIf (rings s.tim.rtcInt st s.tim.rtcMask) 76 { s with tim := { s.tim with rtcInt := st } }

/-- LASTFAIL codes (R365); 0 for the slow sources. -/
def sourceNo : Source → Nat
  | .xt1 => 1
  | .firc => 2
  | .pllc => 3
  | .pllf => 4
  | .plln => 5
  | .xt2 => 0
  | .sirc => 0

/-- CLOCK-HOLD entries and automatic restarts within 60 minutes of the RTC's oscillator (R353, R556). -/
def within60 (now : Nat) (l : List Nat) : List Nat := l.filter (fun t => decide (now - t < 3600000000000))

/-- Every region but Hearth is held in reset at once (R343, R351): what Bank had not written is lost. -/
def holdRegions (s : State) : State :=
  { s with
    sup := { s.sup with
      kilnHeld := true, rickHeld := true, bankHeld := true, cordHeld := true, bankDraining := false
      runtimeUp := false, rickUp := false, cordUp := false }
    evr := { s.evr with queue := [], supQueue := [] }
    jrn := { s.jrn with pending := [], buffer := [], coalescing := false, pass := none }
    out := [] }

/-- CLOCK-HOLD (R351): three output actions, Hearth on FIRC, regions held; the entry is counted, event 0x0700 waits for the next start. -/
def enterClockHold (code : Nat) (s : State) : State :=
  let holds := s.now :: within60 s.now s.clk.holds
  let s := setRole .clockHold .none { s with
    clk := { s.clk with
      phase := .xt1, lastFail := code, failAt := s.now, xt1 := {}, pllc := {}, pllf := {}, plln := {}
      firc := if code = 2 then {} else s.clk.firc
      holds := holds, holdCount := satInc s.clk.holdCount
      holdLimit := s.clk.holdLimit || decide (3 ≤ holds.length), op := 0, stepTo := none, target := 0 }
    emb := { s.emb with state := .run, step := .none, result := if s.emb.result = 1 then 0 else s.emb.result, latch := 0 } }
  let s := { s with
    pair := silence s.pair
    mnt := { s.mnt with running := false, held := [] } }
  holdRegions { s with sup := { s.sup with atStart := s.sup.atStart ++ evRecs 0x0700 0x00 (u8 code) } }

/-- A source of the table of R350 that leads to CLOCK-HOLD fails: before the start sequence it only restarts the count (R343);
several at one moment leave the lowest code (R351). -/
def sourceFails (src : Source) (s : State) : State :=
  let code := sourceNo src
  if s.clk.phase = .idle ∨ code = 0 then s
  else if s.pair.role = .clockHold then
    { s with clk := { s.clk with
        phase := .xt1, xt1 := {}, pllc := {}, pllf := {}, plln := {}
        lastFail := if s.clk.failAt = s.now then min s.clk.lastFail code else code, failAt := s.now } }
  else if s.clk.phase ≠ .run then
    { s with clk := { s.clk with phase := .xt1, xt1 := {}, pllc := {}, pllf := {}, plln := {} } }
  else if src = .pllc ∧ bankedNow s then s
  else enterClockHold code s

/-- A source is judged (R342); XT1 lets the loops be judged, and the loops let the start sequence begin (R343). -/
def sourceJudged (src : Source) (s : State) : State :=
  let c := s.clk
  match src with
  | .xt1 => if c.phase = .xt1 then { s with clk := { c with xt1 := { judged := true }, phase := .loops } } else s
  | .firc => { s with clk := { c with firc := { judged := true } } }
  | .sirc =>
    let back := c.phase == .run && !c.sirc
    let s := { s with clk := { c with sirc := true } }
    if back then hckInt 0 s else s
  | .xt2 =>
    let s := { s with clk := { c with xt2 := { judged := true } } }
    if s.tim.onSirc then
      hckInt 0 (post 0x0703 0x00 [] (rtcIntBit 1 { s with tim := { s.tim with onSirc := false } }))
    else s
  | src =>
    if !c.xt1.judged then s
    else
      let c := match src with
        | .pllc => { c with pllc := { judged := true } }
        | .pllf => { c with pllf := { judged := true } }
        | _ => { c with plln := { judged := true } }
      let all := c.pllc.judged && c.pllf.judged && c.plln.judged
      if c.phase = .loops ∧ all then
        let s := { s with clk := { c with phase := .ready } }
        if s.pair.role = .clockHold then
          { s with sup := { s.sup with
              atStart := s.sup.atStart ++ evRecs (if c.holdLimit then 0x0702 else 0x0701) 0x00 [] } }
        else s
      else { s with clk := c }

-- DVFS (R347) ------------------------------------------------------------------------------------------------------

/-- The sequencer begins the next step toward its target. -/
def dvfsNext (c : Clk) : Clk :=
  if c.dvfsTimeout || c.stepTo.isSome || c.op == c.target then c
  else { c with stepTo := some (if c.op < c.target then c.op + 1 else c.op - 1), supplyUp := false }

/-- A write of KDV_TARGET (R366). -/
def kdvTarget (level : Level) (word : Word) (s : State) : State :=
  if level ≠ .m ∨ fld word 16 16 ≠ 0xD5F0 ∨ s.sup.kilnHeld ∨ isolated s 0x23 then s
  else { s with clk := dvfsNext { s.clk with target := fld word 0 2 } }

/-- A step ends (R347). -/
def dvfsDone (s : State) : State :=
  match s.clk.stepTo with
  | none => s
  | some n =>
    if n ≤ s.clk.op || s.clk.supplyUp then
      { s with clk := dvfsNext { s.clk with op := n, stepTo := none, supplyUp := false, kdvSteps := satInc s.clk.kdvSteps } }
    else s

-- FIRC trimming (R349) -----------------------------------------------------------------------------------------------

/-- The trim source: 3 acts as 0. -/
def trimSrc (s : State) : Nat := if fld s.clk.trim 30 2 = 3 then 0 else fld s.clk.trim 30 2

/-- Beats of a segment's bus cycle; 0 for none. -/
def segBeats (w : Word) : Nat := if fld w 0 3 = 7 then 0 else 2 ^ fld w 0 3

/-- The expected count of a window. -/
def trimExpected (s : State) : Nat :=
  if trimSrc s = 1 then 48000 else if trimSrc s = 2 then 12000 * segBeats (s.run.segs.getD (fld s.clk.trim 28 2) 7) else 0

/-- A window has completed with `count` periods of FIRC. -/
def trimWindow (count : Nat) (s : State) : State :=
  let e := trimExpected s
  if e = 0 then s
  else
    let s := { s with clk := { s.clk with fircCnt := pack 32 [(31, 1), (0, count % 2 ^ 24)] } }
    let t := fld s.clk.trim 0 10
    let off := if count < e then e - count else count - e
    if s.clk.trimHost || decide (off * 10000 ≤ e) then s
    else if (count < e ∧ t = 0x3FF) ∨ (e < count ∧ t = 0) then hckInt 1 (post 0x0708 0x00 [] s)
    else { s with clk := { s.clk with trim := setFld s.clk.trim 0 10 (if count < e then t + 1 else t - 1) } }

-- TIME (R356 to R360, R546) ------------------------------------------------------------------------------------------

/-- The increment within R356's clamp, and within ±50 ppm of nominal (R358), in 2 to the minus 32 ns. -/
def clampIncr (v : Nat) : Nat := max 34291018892 (min 34428457844 v)
def clamp50 (v : Nat) : Nat := max 34358020382 (min 34361456354 v)

/-- The servo of an ACTIVE unit moves the increment (R358, R359): by how much is not stated, so it is a free value within 1 ppm per
second and ±50 ppm (log 21). -/
def servoStep (s : State) : State :=
  let room := 34360 * (s.now - s.tim.incrAt) / 1000000000
  let v := s.tim.incr.toNat + Config.freeNat s.freeCtr % (2 * room + 1) - room
  { s with
    freeCtr := s.freeCtr + 1
    tim := { s.tim with incr := BitVec.ofNat 64 (clamp50 v), incrAt := s.now } }

/-- A standby follows the active's BEATTIME (R358, R546): a free value within the clamp (log 21). -/
def followTime (s : State) : State :=
  { s with
    freeCtr := s.freeCtr + 1
    tim := { s.tim with incr := BitVec.ofNat 64 (clampIncr (Config.freeNat s.freeCtr)), source := 3 } }

/-- The master is lost or changes (R360): TIME free-runs, event 0x0706. -/
def masterLost (m : Option DWord) (s : State) : State :=
  post 0x0706 0x04 [] { s with tim := { s.tim with
      master := m, agreeing := 0, locked := false, source := if s.tim.locked then 2 else s.tim.source } }

/-- A 1588 message on the ACTIVE unit (R359, R360). -/
def ptpMessage (m : PtpMsg) (s : State) : State :=
  if s.pair.role ≠ .active ∨ cfgNum s 0x1400 3 = 0 ∨ !runtimeLive s then s
  else match m with
    | .announce id better =>
      match s.tim.master with
      | none => { s with tim := { s.tim with master := some id, agreeing := 0 } }
      | some old => if id ≠ old ∧ better then masterLost (some id) s else s
    | .sync id off =>
      if s.tim.master ≠ some id then s
      else
        let near := decide (off - s.tim.lastOffset ≤ 10000 ∧ s.tim.lastOffset - off ≤ 10000)
        let n := if near ∧ 0 < s.tim.agreeing then s.tim.agreeing + 1 else 1
        let s := { s with tim := { s.tim with lastOffset := off, agreeing := n } }
        let s := postIf (decide (1000000 < off ∨ off < -1000000)) 0x0709 0x04 [] s
        if s.tim.locked then servoStep s
        else if 8 ≤ n then servoStep (post 0x0705 0x04 [] { s with tim := { s.tim with locked := true, source := 1 } })
        else s

/-- The RTC is set (R361, R368): LOST ends. -/
def rtcSet (v : DWord) (s : State) : State :=
  if isolated s 0x02 then s else { s with tim := { s.tim with rtc := v, rtcFrac := 0, rtcLost := false } }

/-- TIM_SET (R357, R367): from M mode, while OFFLINE. -/
def timSet (level : Level) (v : DWord) (s : State) : State :=
  if level = .m ∧ s.pair.role = .offline then { s with tim := { s.tim with setPend := some v } } else s

/-- TIM_INCR (R356, R367): from M mode, the nearest limit outside the clamp. -/
def timIncr (level : Level) (v : DWord) (s : State) : State :=
  if level = .m then { s with tim := { s.tim with incr := BitVec.ofNat 64 (clampIncr v.toNat) } } else s

-- commands -------------------------------------------------------------------------------------------------------------

def execSourceJudged (src : Source) (s : State) : Host.Outcome State Fault Refusal := finish (sourceJudged src s)

/-- XT1 not judged 100 ms after power-up (R343): CLOCK-HOLD, judging goes on. -/
def execXt1StartTimeout (s : State) : Host.Outcome State Fault Refusal :=
  finish (if s.clk.phase = .xt1 ∧ s.pair.role ≠ .clockHold then enterClockHold 1 s else s)

def execClockSourceFailure (src : Source) (s : State) : Host.Outcome State Fault Refusal := finish (sourceFails src s)

/-- XT2 or SIRC fails (R354). -/
def execSlowSourceFailure (src : Source) (s : State) : Host.Outcome State Fault Refusal :=
  finish <|
  match src with
  | .xt2 => hckInt 0 (post 0x0703 0x00 [] (rtcIntBit 1 { s with clk := { s.clk with xt2 := {} }, tim := { s.tim with onSirc := true } }))
  | .sirc => hckInt 0 (post 0x0703 0x00 [] { s with clk := { s.clk with sirc := false } })
  | _ => s

def execKdvTarget (level : Level) (word : Word) (s : State) : Host.Outcome State Fault Refusal := finish (kdvTarget level word s)

/-- Power-good after a raised supply (R347): the divider follows. -/
def execDvfsPowerGood (s : State) : Host.Outcome State Fault Refusal :=
  finish (if s.clk.stepTo.isSome then { s with clk := { s.clk with supplyUp := true } } else s)

def execDvfsStepDone (s : State) : Host.Outcome State Fault Refusal := finish (dvfsDone s)

/-- 200 µs without power-good (R347): the sequencer stops, block 0x23 fails. -/
def execPowerGoodTimeout (s : State) : Host.Outcome State Fault Refusal :=
  finish <|
  if s.clk.stepTo.isSome && !s.clk.supplyUp then
    blockFails 0x05 0x23 0 (post 0x0707 0x23 [] { s with clk := { s.clk with dvfsTimeout := true, stepTo := none } })
  else s

def execFircTrimWindow (count : Nat) (s : State) : Host.Outcome State Fault Refusal := finish (trimWindow count s)

def execTimSet (level : Level) (value : DWord) (s : State) : Host.Outcome State Fault Refusal := finish (timSet level value s)

def execTimIncr (level : Level) (value : DWord) (s : State) : Host.Outcome State Fault Refusal := finish (timIncr level value s)

def execPtpMessage (m : PtpMsg) (s : State) : Host.Outcome State Fault Refusal := finish (ptpMessage m s)

/-- Three Announce intervals without an Announce of the selected master (R360). -/
def execAnnounceTimeout (s : State) : Host.Outcome State Fault Refusal :=
  finish (if s.pair.role = .active ∧ s.tim.master.isSome ∧ runtimeLive s then masterLost none s else s)

def execRtcSet (value : DWord) (s : State) : Host.Outcome State Fault Refusal := finish (rtcSet value s)

/-- RTC_TIME has reached RTC_ALARM; 0 disables it (R368). -/
def execRtcAlarm (s : State) : Host.Outcome State Fault Refusal :=
  finish (if s.tim.alarm = 0 ∨ isolated s 0x02 then s else rtcIntBit 0 s)

/-- Once an hour, while TIME_SOURCE is 1 or 3, the runtime writes TIME to RTC_SET (R361). -/
def execRtcHourlySet (s : State) : Host.Outcome State Fault Refusal :=
  finish (if runtimeLive s ∧ (s.tim.source = 1 ∨ s.tim.source = 3) then rtcSet s.tim.time s else s)

end Sys2Proof.Machine
end

