-- ==== Sys2Proof/Machine/Audit.lean ====
section
/-!
DEFINITION. The audit trail's append engine (07 R255 to R262, R269), legal objects and the legal configuration digest (R251), and the
read window's units (R237 to R239).
-/

namespace Sys2Proof.Machine

def audBase : Nat := 0x3C400000
def audMax : Nat := 131072
def audValid : Nat := 0x5A17E7A1

def entryAddr (n : Nat) : Nat := audBase + 64 * (n - 1)

/-- Slot `n` carries a valid mark. -/
def slotValid (m : Memory) (n : Nat) : Bool := readLe m (entryAddr n + 60) 4 == audValid

/-- Kinds that raise the seal counter, and kinds that need VMODE (R256). -/
def counts (kind : Nat) : Bool := decide (1 ≤ kind ∧ kind ≤ 3)
def needsVmode (kind : Nat) : Bool := decide (1 ≤ kind ∧ kind ≤ 3) || kind == 6 || kind == 7

/-- Audit state (R261), by code. -/
def audState (s : State) : Nat :=
  if isolated s 0x82 then 5
  else if s.aud.damaged then 4
  else if s.aud.used = audMax then 3
  else if 130816 ≤ s.aud.used then 2
  else if 124519 ≤ s.aud.used then 1 else 0

def audInt (b : Nat) (s : State) : State := { s with aud := { s.aud with intStatus := setBit s.aud.intStatus b } }
def cordPost (code : Nat) (data : List Byte) (s : State) : State := post code 0x80 data s

/-- Step 1 of R257, and R269 before AUD_INIT: the refusal's RESULT, 0 for none. -/
def audRefuse (kind : Nat) (s : State) : Nat :=
  if !s.aud.inited then 6
  else if isolated s 0x82 then 5
  else if kind = 0 ∨ 9 < kind then 4
  else if (needsVmode kind && !s.cord.vmode) || (kind == 4 && !s.cord.switchSet) then 1
  else if audMax ≤ s.aud.used ∨ (counts kind ∧ 130816 ≤ s.aud.used) then 2
  else if slotValid s.mem (s.aud.used + 1) then 3 else 0

/-- The 64 bytes of an entry (R255): the staged ones with the fields that the hardware fills. -/
def entryBytes (stage : List Byte) (n : Nat) (sl time prev : Nat) : List Byte :=
  let b := le4 n ++ slice stage 4 4 ++ le4 sl ++ slice stage 12 4 ++ le8 time ++ slice stage 24 24 ++ le4 prev ++ slice stage 52 4
  b ++ le4 (crc32c b).toNat ++ le4 audValid

/-- An append (R257): RESULT, and the entry in its slot where none refuses it. An MRAM error isolates block 0x82 (RESULT 5). -/
def audWrite (stage : List Byte) (mramOk : Bool) (s : State) : State × Nat :=
  let kind := leAt stage 4 1
  let done (r : Nat) (s : State) : State × Nat := (audInt 0 { s with aud := { s.aud with result := r } }, r)
  match audRefuse kind s with
  | 0 =>
    if !mramOk then done 5 (blockFails 0x02 0x82 0 s)
    else
      let n := s.aud.used + 1
      let sl := s.aud.sealNo.toNat + b2n (counts kind)
      let e := entryBytes stage n sl (timeNs s) s.aud.lastCrc.toNat
      done 0 { s with
        mem := writeBytes s.mem (entryAddr n) e
        aud := { s.aud with used := n, sealNo := BitVec.ofNat 32 sl, lastCrc := BitVec.ofNat 32 (leAt e 56 4) } }
  | r => done r s

/-- First four bytes of the legal identification, as entries carry them. -/
def legalId4 (s : State) : List Byte := fit 4 s.cord.legalId

/-- The staged bytes of an entry of Cord's firmware. -/
def stageOf (s : State) (kind ch index sub typ old new actor : Nat) : List Byte :=
  zeros 4 ++ u8 kind ++ u8 ch ++ u8 (roleNo s.pair.role) ++ u8 (b2n s.mnt.comm) ++ zeros 4 ++ le2 index ++ u8 sub ++ u8 typ ++
    zeros 8 ++ le8 old ++ le8 new ++ le4 actor ++ legalId4 s ++ zeros 16

/-- ACTOR of Cord itself. -/
def actorCord : Nat := 0xFF000000

/-- Levels that an append has reached (R261): entry kind 0x09 and events 0x0505 to 0x0507. -/
def audLevels (before : Nat) (s : State) : State :=
  let s :=
    if before < 124519 ∧ 124519 ≤ s.aud.used then
      cordPost 0x0505 [] (audWrite (stageOf s 9 0xFF 0 0 0 0 0 actorCord) true (audInt 2 s)).1
    else s
  let s := if before < 130816 ∧ 130816 ≤ s.aud.used then cordPost 0x0506 [] (audInt 1 s) else s
  if before < audMax ∧ s.aud.used = audMax then cordPost 0x0507 [] s else s

/-- An append by Cord's firmware: while a session is open the last free slot is held for its closing entry (R262). RESULT 0: done. -/
def cordAppend (kind ch index sub typ old new actor : Nat) (s : State) : State × Nat :=
  if s.cord.session ∧ kind ≠ 5 ∧ s.aud.used + 1 = audMax then (s, 2)
  else
    let before := s.aud.used
    let (s, r) := audWrite (stageOf s kind ch index sub typ old new actor) true s
    (audLevels before s, r)

-- legal objects (R251) ---------------------------------------------------------------------------------------------------------

/-- The defined legal objects of one channel, in ascending offset and subindex (R305). -/
def legalKeys : List (Nat × Nat) :=
  (List.range 0x12).flatMap (fun j => ((List.range 17).filter (fun k => (metaLegal j k).isSome)).map (fun k => (j, k)))

/-- Value of a legal object; its default is zero. -/
def legalVal (l : Legal) (index sub : Nat) : Nat :=
  match l.vals.find? (fun v => v.index == index && v.sub == sub) with
  | some v => v.val
  | none => 0

def putLegal (l : Legal) (index sub val : Nat) : Legal :=
  let vs := l.vals.filter (fun v => !(v.index == index && v.sub == sub))
  { l with vals := if val = 0 then vs else { index := index, sub := sub, val := val } :: vs }

/-- Legal configuration digest (R251). -/
def legalCfg (s : State) : List Byte :=
  sha256 ((List.range 128).flatMap
    (fun n => legalKeys.flatMap (fun k => le8 (legalVal s.legal (0x7000 + 0x20 * n + k.1) k.2))))

/-- IDCFG (R293). -/
def idCfg (s : State) : List Byte := (sha256 (fit 32 s.cord.legalId ++ legalCfg s)).take 3

/-- State of a channel toward the law. -/
def chanSt (s : State) (n : Nat) : ChSt := s.legal.chans.getD n .unconfigured
def chanStNo : ChSt → Nat
  | .unconfigured => 0
  | .test => 1
  | .inService => 2

-- the read window (R237 to R239) -----------------------------------------------------------------------------------------------------

def windowBase : Nat := 0x02000000
def chanArea (n : Nat) : Nat := 0x02001000 + 0x1000 * n

/-- A 64-byte unit is published: its count rises by one and wraps to 1 (R238). -/
def putUnit (a : Nat) (body : List Byte) (s : State) : State :=
  let c := readLe s.mem a 4
  let c := if c = 0xFFFFFFFF then 1 else c + 1
  { s with mem := writeBytes s.mem a (le4 c ++ fit 56 body ++ le4 c) }

def spareCount (s : State) : Nat := (s.scl.chans.filter (fun c => c.st == .spare)).length

/-- VFLAGS (R238). -/
def vflags (s : State) : Nat := b2n s.cord.switchSet + 2 * b2n s.cord.session + 4 * b2n s.cord.vmode

/-- Bytes 4 to 59 of the status units (R238). -/
def unit0 (s : State) : List Byte :=
  u8 (b2n s.cord.running) ++ u8 (vflags s) ++ u8 (audState s) ++ u8 (b2n s.mnt.comm) ++ fit 32 s.cord.legalId ++
    le4 s.cord.fwVer.toNat ++ le4 s.cord.ucVer.toNat ++ le4 s.aud.sealNo.toNat ++ le4 s.aud.used ++ zeros 4
def chanBits (s : State) (x : ChSt) : List Byte :=
  leBytes 16 ((List.range 128).foldl (fun a n => if chanSt s n = x then a + 2 ^ n else a) 0)
def unit1 (s : State) : List Byte :=
  chanBits s .inService ++ chanBits s .test ++ (legalCfg s).take 8 ++ u8 (spareCount s) ++ zeros 3 ++ le8 (timeNs s) ++ zeros 4

/-- A status unit is republished, and source 73 rung (R239). -/
def republish (n : Nat) (s : State) : State :=
  let s := putUnit (windowBase + 0x40 * n) (if n = 0 then unit0 s else unit1 s) s
  ring 73 { s with legal := { s.legal with
    pub0 := if n = 0 then BitVec.ofNat 32 (readLe s.mem windowBase 4) else s.legal.pub0
    pub1 := if n = 0 then s.legal.pub1 else BitVec.ofNat 32 (readLe s.mem (windowBase + 0x40) 4) } }

end Sys2Proof.Machine
end

