-- ==== Sys2Proof/Machine/Images.lean ====
section
/-!
DEFINITION. Firmware images and their checks (16 R490 to R493), counters and revocation bits (R497, R498), the key store's slots and
operations (R506 to R511, R515, R519, R520).
-/

namespace Sys2Proof.Machine

-- images ------------------------------------------------------------------------------------------------------------

/-- Where a component's image stands in the NOR (R490). -/
def norBase (comp : Nat) : Nat := [0x20080000, 0x22080000, 0x22100000, 0x22200000].getD (comp - 1) 0
/-- Greatest body (R493 step 1). -/
def bodyMax (comp : Nat) : Nat := [0x2000000, 0x20000, 0x40000, 0x40000].getD (comp - 1) 0

/-- Header fields (R492). -/
def hdrSlot (h : List Byte) : Nat := leAt h 5 1
def hdrSvn (h : List Byte) : Nat := leAt h 6 1
def hdrVersion (h : List Byte) : Word := BitVec.ofNat 32 (leAt h 8 4)
def hdrLen (h : List Byte) : Nat := leAt h 12 4
def hdrCompat (h : List Byte) : Half := BitVec.ofNat 16 (leAt h 24 2)

/-- Counter and revocation bits of a side: the NOR's OTP for components 1 and 2 (and for the runtime's own checks), the key store for
Cord's (R493, R497). -/
def arbOf (s : State) (comp : Nat) : Nat := s.upd.arb.getD (comp - 1) 0

/-- VERSION of the running runtime. -/
def runtimeVersion (s : State) : Nat := (s.upd.fw.getD 0 {}).version.toNat

/-- The checks of R493 on header and body; `cord`: made by Cord against its key store. 0: passed. -/
def imageCheck (s : State) (comp : Nat) (cord : Bool) (h body : List Byte) : Nat :=
  if h.length < 128 ∨ leAt h 0 4 ≠ 0x50465731 ∨ leAt h 4 1 ≠ comp ∨ !(bit (BitVec.ofNat 32 (leAt h 16 4)) 11) ∨
      bodyMax comp < hdrLen h ∨ body.length < hdrLen h then 0x2804
  else if 4 ≤ hdrSlot h ∨ bit (if cord then s.upd.revKs else s.upd.revNor) (hdrSlot h) then 0x2802
  else if hdrSvn h < arbOf s comp ∨ 64 < hdrSvn h then 0x2803
  else if comp ≠ 1 ∧ runtimeVersion s < leAt h 20 4 then 0x2806
  else if Config.ed25519Verify (Config.vendorKey (hdrSlot h)) (h.take 64 ++ body.take (hdrLen h)) (slice h 64 64) then 0 else 0x2802

/-- Header and body of a component as the NOR holds them. -/
def norHeader (s : State) (comp : Nat) : List Byte := readBytes s.mem (norBase comp) 128
def norBody (s : State) (comp : Nat) : List Byte :=
  readBytes s.mem (norBase comp + 128) (min (bodyMax comp) (hdrLen (norHeader s comp)))

/-- What runs, from a header that passed. -/
def fwOf (h : List Byte) : FwRun :=
  { valid := true, version := hdrVersion h, svn := hdrSvn h, keySlot := hdrSlot h, pairCompat := hdrCompat h }
def setFw (comp : Nat) (f : FwRun) (s : State) : State := { s with upd := { s.upd with fw := putAt s.upd.fw (comp - 1) f } }

/-- The bytes of an image that are loaded: header bytes 0 to 63 and the body, without the signature (R244, R492; log 30). -/
def loadedImage (h body : List Byte) : List Byte := h.take 64 ++ body

-- anti-rollback (R497, R498) ---------------------------------------------------------------------------------------------

/-- A counter advances to the SVN of the running image; vendor slots below its KEYSLOT are revoked on that side. -/
def advanceArb (comp : Nat) (s : State) : State :=
  let f := s.upd.fw.getD (comp - 1) {}
  if f.valid ∧ arbOf s comp < min 64 f.svn then
    let old := if comp ≤ 2 then s.upd.revNor else s.upd.revKs
    let new := (List.range f.keySlot).foldl (fun w k => setBit w k) old
    let s := { s with
      upd := { s.upd with
        arb := putAt s.upd.arb (comp - 1) (min 64 f.svn)
        revNor := if comp ≤ 2 then new else s.upd.revNor
        revKs := if comp ≤ 2 then s.upd.revKs else new } }
    postIf (new != old) 0x0D06 0x06 [] (post 0x0D05 0x06 (u8 comp ++ u8 f.svn) s)
  else s

/-- SVN_AUTO_COMMIT acts when the module first becomes ACTIVE or SYNCHRONISED with its images running (R498). -/
def svnAuto (s : State) : State :=
  if s.upd.autoDone ∨ cfgNum s 0x1720 6 = 0 then s
  else
    let s := { s with upd := { s.upd with autoDone := true } }
    advanceArb 4 (advanceArb 3 (advanceArb 2 (advanceArb 1 s)))

-- program slots (R495) -----------------------------------------------------------------------------------------------------

/-- Program slot k of the NOR and its size. -/
def slotMax : Nat := 0x2C00000
def slotBase (k : Nat) : Nat := 0x22300000 + k * slotMax

/-- The image of a program that was loaded, or that an online change has brought, goes into the slot that the boot parameters do not name,
and they name it then; an image that no slot takes leaves none named (R495). -/
def storeProgram (b : List Byte) (s : State) : State :=
  if isolated s 0x62 then s
  else if slotMax < b.length then { s with upd := { s.upd with slot := none } }
  else
    let k := if s.upd.slot = some 0 then 1 else 0
    { s with
      mem := writeBytes (clearRange s.mem (slotBase k) (slotBase k + slotMax)) (slotBase k) b
      upd := { s.upd with
        slot := some k
        slotLen0 := if k = 0 then b.length else s.upd.slotLen0
        slotLen1 := if k = 0 then s.upd.slotLen1 else b.length } }

/-- The image in the slot that the boot parameters name. -/
def storedProgram (s : State) : Option (List Byte) :=
  s.upd.slot.map (fun k => readBytes s.mem (slotBase k) (if k = 0 then s.upd.slotLen0 else s.upd.slotLen1))

-- key store slots (R506) ---------------------------------------------------------------------------------------------------

def credAt (k : Ks) (slot : Nat) : Option Cred := k.creds.find? (fun c => c.slot == slot)
def recAt (l : List KeyRec) (i : Nat) : Option KeyRec := l.find? (fun r => r.idx == i)
def dropRec (l : List KeyRec) (i : Nat) : List KeyRec := l.filter (fun r => r.idx != i)

/-- A Service credential is enrolled (R509). -/
def owned (k : Ks) : Bool := k.creds.any (fun c => c.level == 4)
/-- Some level-3 credential is enrolled (R510). -/
def hasVerifier (k : Ks) : Bool := k.creds.any (fun c => c.level == 3)

/-- Big-endian value of a key's fingerprint bytes as entries and events carry them. -/
def fpBytes (key : List Byte) : List Byte := (sha256 key).take 8

def ksPost (code : Nat) (data : List Byte) (s : State) : State := post code 0x83 data s

/-- Zeroisation (R511): device, exchange, record and pairing keys. -/
def zeroise (s : State) : State :=
  ksPost 0x0D09 [] { s with ks := { s.ks with dev := none, records := [], pairings := [], zeroised := true } }

/-- The device and exchange keys are generated where they are absent (R507): event 0x0D0B. -/
def generateKeys (s : State) : State :=
  match s.ks.dev with
  | some _ => s
  | none => ksPost 0x0D0B [] { s with ks := { s.ks with dev := some s.ks.gens, gens := s.ks.gens + 1, zeroised := false } }

/-- Signature under the device key. -/
def deviceSig (k : Ks) (msg : List Byte) : List Byte :=
  match k.dev with
  | some _ => fit 64 (Config.deviceSign (k.dev.getD 0) msg)
  | none => zeros 64

def deviceKey (k : Ks) : List Byte :=
  match k.dev with
  | some n => fit 32 (Config.devicePublic n)
  | none => zeros 32

/-- The audit entry of a level-3 credential (R510): ACTOR is the open session's. -/
def verifierEntry (s : State) (old new : List Byte) : State × Nat :=
  cordAppend 3 0xFF 0 0 0 (leNat old) (leNat new) ((s.cord.sess.map (fun v => v.actor.toNat)).getD actorCord) s

/-- Abort code of a refused append (R252). -/
def audAbort (r : Nat) : Nat := if r = 1 then 0x2501 else if r = 2 then 0x2502 else 0x2503

/-- Enrolment (KS_ENROL): SLOT, LEVEL, FLAGS, zero, KEY. LEVEL 0 enrols a program key, as 0x1730.05 lays it out. Returns the status. -/
def ksEnrol (d : List Byte) (s : State) : State × Nat :=
  let slot := leAt d 0 1
  let level := leAt d 1 1
  let key := slice d 4 32
  if d.length ≠ 36 ∨ leAt d 3 1 ≠ 0 then (s, 0x0609)
  else if level = 0 then
    if 4 ≤ slot then (s, 0x0609)
    else if (recAt s.ks.progs slot).isSome then (s, 0x280B)
    else (ksPost 0x0D07 (u8 2 ++ u8 slot) { s with ks := { s.ks with progs := { idx := slot, key := key, digid := 0 } :: s.ks.progs } }, 0)
  else if 32 ≤ slot ∨ 4 < level then (s, 0x0609)
  else if level = 3 ∧ !s.cord.vmode then (s, 0x2501)
  else if (credAt s.ks slot).isSome then (s, 0x280B)
  else
    let add (s : State) : State :=
      ksPost 0x0D07 (u8 1 ++ u8 slot) { s with ks := { s.ks with
        creds := { slot := slot, key := key, level := level, debug := leAt d 2 1 % 2 == 1 } :: s.ks.creds } }
    if level = 3 then
      match verifierEntry s (zeros 8) (fpBytes key) with
      | (s, 0) => (add s, 0)
      | (s, r) => (s, audAbort r)
    else (add s, 0)

/-- Sessions that a credential opened are marked: they close after their answers (R509, R514). -/
def revokeSessions (slot : Nat) (s : State) : State :=
  { s with od := { s.od with sessions := s.od.sessions.map (fun x => if x.cred = some slot then { x with revoked := true } else x) } }

/-- Revocation (KS_REVOKE): class and slot. -/
def ksRevoke (cls idx : Nat) (s : State) : State × Nat :=
  if cls = 2 then
    match recAt s.ks.progs idx with
    | none => (s, 0x280B)
    | some _ => (ksPost 0x0D07 (u8 2 ++ u8 idx) { s with ks := { s.ks with progs := dropRec s.ks.progs idx } }, 0)
  else if cls ≠ 1 then (s, 0x0609)
  else match credAt s.ks idx with
    | none => (s, 0x280B)
    | some c =>
      let last := c.level == 4 && (s.ks.creds.filter (fun x => x.level == 4)).length == 1
      let drop (s : State) : State :=
        ksPost 0x0D07 (u8 1 ++ u8 idx)
          (revokeSessions idx { s with ks := { s.ks with creds := s.ks.creds.filter (fun x => x.slot != idx) } })
      if last then (s, 0x280B)
      else if c.level = 3 then
        if !s.cord.vmode then (s, 0x2501)
        else match verifierEntry s (fpBytes c.key) (zeros 8) with
          | (s, 0) => (drop s, 0)
          | (s, r) => (s, audAbort r)
      else (drop s, 0)

/-- A wrapped key is loaded (R508). -/
def ksLoad (b : List Byte) (s : State) : State × Nat :=
  let cls := leAt b 0 1
  let idx := leAt b 2 2
  let ok := b.length == 72 && leAt b 4 4 == Config.serial.toNat &&
    ((cls == 3 && decide (idx < 128)) || (cls == 4 && decide (idx < 1024)))
  match s.ks.dev with
  | none => (s, 0x280C)
  | some n =>
    match (if ok then Config.unwrapBlob n b else none) with
    | none => (s, 0x280C)
    | some key =>
      let key := fit 16 key
      let r : KeyRec := { idx := idx, key := key, digid := if cls = 4 then BitVec.ofNat 32 (leAt b 8 4) else 0 }
      let s := { s with ks := if cls = 3 then { s.ks with records := r :: dropRec s.ks.records idx }
                              else { s.ks with pairings := r :: dropRec s.ks.pairings idx } }
      (ksPost 0x0D08 (le2 idx ++ fpBytes key) s, 0)

/-- KS_INFO's result; its layout is not stated (log 31): counters and revocation bits of the key store, then per filled slot class, index,
fingerprint and, for public classes, the key. -/
def ksInfo (s : State) : List Byte :=
  let row (cls idx : Nat) (fp pub : List Byte) : List Byte := u8 cls ++ u8 0 ++ le2 idx ++ fp ++ pub
  u8 (arbOf s 3) ++ u8 (arbOf s 4) ++ u8 s.upd.revKs.toNat ++ u8 0 ++
    (List.range 4).flatMap (fun k => row 0 k (fpBytes (Config.vendorKey k)) (fit 32 (Config.vendorKey k))) ++
    s.ks.creds.flatMap (fun c => row 1 c.slot (fpBytes c.key) (fit 32 c.key)) ++
    s.ks.progs.flatMap (fun r => row 2 r.idx (fpBytes r.key) (fit 32 r.key)) ++
    s.ks.records.flatMap (fun r => row 3 r.idx (fpBytes r.key) []) ++
    s.ks.pairings.flatMap (fun r => row 4 r.idx (fpBytes r.key) [])

/-- The content of an RFC 8446 CertificateVerify around a transcript hash (R507): 64 spaces, the context string, a zero byte, the hash. -/
def certVerify (hash : List Byte) : List Byte :=
  List.replicate 64 0x20 ++
    [0x54#8, 0x4C, 0x53, 0x20, 0x31, 0x2E, 0x33, 0x2C, 0x20, 0x73, 0x65, 0x72, 0x76, 0x65, 0x72, 0x20, 0x43, 0x65, 0x72, 0x74, 0x69, 0x66,
     0x69, 0x63, 0x61, 0x74, 0x65, 0x56, 0x65, 0x72, 0x69, 0x66, 0x79, 0x00] ++ hash

/-- A program signature verifies against an enrolled program key (R496). -/
def programSigned (k : Ks) (msg sig : List Byte) : Bool := k.progs.any (fun r => Config.ed25519Verify r.key msg sig)

-- key store registers (R519, R520) -----------------------------------------------------------------------------------------------

/-- Class and slot that CRD_KS_SEL selects: class 7 acts as 0, an index beyond the class as its last slot. -/
def selClass (k : Ks) : Nat := if fld k.sel 12 3 = 7 then 0 else fld k.sel 12 3
def selIndex (k : Ks) : Nat :=
  let n := [4, 32, 4, 128, 1024, 1, 1].getD (selClass k) 1
  min (n - 1) (fld k.sel 0 10)

/-- CRD_KS_DATA as bytes. -/
def ksData (k : Ks) : List Byte := k.data.flatMap (fun w => le4 w.toNat)
def putKsData (bs : List Byte) (k : Ks) : Ks :=
  { k with data := (List.range 32).map (fun i => BitVec.ofNat 32 (leAt (fit 128 bs) (4 * i) 4)) }

/-- Public key that VERIFY uses in the selected slot. -/
def selPublic (s : State) : Option (List Byte) :=
  let i := selIndex s.ks
  match selClass s.ks with
  | 0 => some (Config.vendorKey i)
  | 1 => (credAt s.ks i).map (fun c => c.key)
  | 2 => (recAt s.ks.progs i).map (fun r => r.key)
  | 5 => s.ks.dev.map (fun n => Config.devicePublic n)
  | _ => none

def ksDone (cmd result : Nat) (s : State) : State := { s with ks := { s.ks with resultCmd := cmd, result := result } }

/-- The selected slot holds nothing. -/
def slotEmpty (s : State) : Bool :=
  let i := selIndex s.ks
  match selClass s.ks with
  | 0 => false
  | 1 => (credAt s.ks i).isNone
  | 2 => (recAt s.ks.progs i).isNone
  | 3 => (recAt s.ks.records i).isNone
  | 4 => (recAt s.ks.pairings i).isNone
  | _ => s.ks.dev.isNone

/-- Status of a key operation as RESULT (R520): 0 done, 2 slot empty, 3 unwrap failed, 5 not permitted in this state (a level-3 slot outside
verification mode, R510), 1 refused otherwise. -/
def ksResult (empty : Bool) (status : Nat) : Nat :=
  if status = 0 then 0 else if empty then 2 else if status = 0x280C then 3 else if status = 0x2501 then 5 else 1

def ksLive (s : State) : Bool := cordLive s && !isolated s 0x83

def execKsCmdGenerate (s : State) : Host.Outcome State Fault Refusal :=
  finish (if ksLive s && s.ks.dev.isNone then ksDone 1 0 (generateKeys s) else s)

/-- SIGN with the selected slot's key over the data's first 32 bytes; the signature in the data registers. Only the device slot signs (R506). -/
def execKsCmdSign (s : State) : Host.Outcome State Fault Refusal :=
  finish <|
  if !ksLive s then s
  else if selClass s.ks ≠ 5 then ksDone 2 1 s
  else match s.ks.dev with
    | none => ksDone 2 2 s
    | some _ =>
      ksDone 2 0 { s with ks := putKsData (deviceSig s.ks (certVerify ((ksData s.ks).take 32))) s.ks }

/-- UNWRAP into the selected slot; a blob made for another slot is refused (its class and index are part of the wrapping's salt, R508). -/
def execKsCmdUnwrap (s : State) : Host.Outcome State Fault Refusal :=
  finish <|
  let b := (ksData s.ks).take 72
  if !ksLive s then s
  else if selClass s.ks ≠ leAt b 0 1 ∨ selIndex s.ks ≠ leAt b 2 2 then ksDone 3 1 s
  else
    let (t, r) := ksLoad b s
    ksDone 3 (ksResult false r) t

/-- ENROL into the selected slot: the data is that of 0x1730.02, its slot byte not used; class 2 takes no level. -/
def execKsCmdEnrol (s : State) : Host.Outcome State Fault Refusal :=
  finish <|
  let d := (ksData s.ks).take 36
  let level := leAt d 1 1
  if !ksLive s then s
  else if (selClass s.ks = 1 ∧ level ≠ 0) ∨ (selClass s.ks = 2 ∧ level = 0) then
    let (t, r) := ksEnrol (u8 (selIndex s.ks) ++ d.drop 1) s
    ksDone 4 (ksResult false r) t
  else ksDone 4 1 s

/-- REVOKE revokes a vendor slot and empties any other; the device and exchange keys fall by ZEROISE alone (R511). -/
def execKsCmdRevoke (s : State) : Host.Outcome State Fault Refusal :=
  finish <|
  let i := selIndex s.ks
  if !ksLive s then s
  else match selClass s.ks with
    | 0 => ksDone 5 0 (postIf (!bit s.upd.revKs i) 0x0D06 0x83 [] { s with upd := { s.upd with revKs := setBit s.upd.revKs i } })
    | 3 => if slotEmpty s then ksDone 5 2 s else ksDone 5 0 { s with ks := { s.ks with records := dropRec s.ks.records i } }
    | 4 => if slotEmpty s then ksDone 5 2 s else ksDone 5 0 { s with ks := { s.ks with pairings := dropRec s.ks.pairings i } }
    | c =>
      let (t, r) := ksRevoke c i s
      ksDone 5 (ksResult (slotEmpty s) r) t

/-- VERIFY with the selected public key: signature in bytes 0 to 63, message in bytes 64 to 127. -/
def execKsCmdVerify (s : State) : Host.Outcome State Fault Refusal :=
  finish <|
  if !ksLive s then s
  else match selPublic s with
    | none => ksDone 6 2 s
    | some key =>
      let d := ksData s.ks
      ksDone 6 (if Config.ed25519Verify key (d.drop 64) (d.take 64) then 0 else 3) s

def execKsCmdZeroise (s : State) : Host.Outcome State Fault Refusal :=
  finish (if ksLive s then ksDone 7 0 (zeroise s) else s)

/-- ARB_ADVANCE writes CRD_KS_DATA0 and blows only bits that raise the counter (R520): index 0 Cord firmware, 1 microcode. -/
def execKsCmdArbAdvance (s : State) : Host.Outcome State Fault Refusal :=
  finish <|
  if !ksLive s then s
  else
    let comp := if selIndex s.ks = 1 then 4 else 3
    let v := (s.ks.data.getD 0 0).toNat
    if 64 < v then ksDone 8 4 s
    else ksDone 8 0 { s with upd := { s.upd with arb := putAt s.upd.arb (comp - 1) (max (arbOf s comp) v) } }

/-- DEBUG_PERMIT is ignored unless ZEROISED is 1 and the role line reads OFFLINE (R520). -/
def execKsCmdDebugPermit (s : State) : Host.Outcome State Fault Refusal :=
  finish (if ksLive s && s.ks.zeroised && s.pair.role == .offline then ksDone 9 0 { s with ks := { s.ks with permit := true } } else s)

end Sys2Proof.Machine
end

