-- ==== Sys2Proof/Machine/Float64.lean ====
section
/-!
DEFINITION. IEEE 754 binary64 with round to nearest even, without fused operations (08 R281), on 64-bit patterns: every operation is
computed exactly on integers and rounded once. A NaN result is the quiet NaN 0x7FF8_0000_0000_0000.
-/

namespace Sys2Proof.Machine

/-- A finite number is (-1)^neg × m × 2^e. -/
inductive Fp where
  | nan
  | inf (neg : Bool)
  | fin (neg : Bool) (m : Nat) (e : Int)
deriving DecidableEq, Repr

def fNan : DWord := 0x7FF8000000000000

/-- What a pattern stands for. -/
def fDecode (w : DWord) : Fp :=
  let f := fld w 0 52
  match fld w 52 11 with
  | 2047 => if f = 0 then .inf (bit w 63) else .nan
  | 0 => .fin (bit w 63) f (-1074)
  | x => .fin (bit w 63) (2 ^ 52 + f) ((x : Int) - 1075)

def signBit (neg : Bool) : Nat := if neg then 2 ^ 63 else 0

/-- m / 2^k rounded to nearest, ties to even. -/
def shiftRound (m k : Nat) : Nat :=
  let q := m >>> k
  let r := m % 2 ^ k
  let h := 2 ^ k / 2
  if k = 0 then m else if r < h then q else if h < r then q + 1 else q + q % 2

/-- (-1)^neg × m × 2^e rounded to binary64. -/
def fRound (neg : Bool) (m : Nat) (e : Int) : DWord :=
  if m = 0 then BitVec.ofNat 64 (signBit neg)
  else
    let q : Int := max (e + (Nat.log2 m : Int) - 52) (-1074)
    let n := if e < q then shiftRound m (q - e).toNat else m * 2 ^ (e - q).toNat
    let b := if n < 2 ^ 52 then n else (q + 1074).toNat * 2 ^ 52 + n
    BitVec.ofNat 64 (signBit neg + min b (2047 * 2 ^ 52))

def fInf (neg : Bool) : DWord := BitVec.ofNat 64 (signBit neg + 2047 * 2 ^ 52)

/-- An integer, rounded. -/
def fOfInt (i : Int) : DWord := fRound (decide (i < 0)) i.natAbs 0

def fNeg (a : DWord) : DWord := a ^^^ 0x8000000000000000
def fAbs (a : DWord) : DWord := a &&& 0x7FFFFFFFFFFFFFFF

/-- The value of a finite number in units of 2^e, for e not above its own. -/
def scaled (neg : Bool) (m : Nat) (d : Nat) : Int := if neg then -((m * 2 ^ d : Nat) : Int) else ((m * 2 ^ d : Nat) : Int)

def fAdd (a b : DWord) : DWord :=
  match fDecode a, fDecode b with
  | .nan, _ => fNan
  | _, .nan => fNan
  | .inf x, .inf y => if x = y then fInf x else fNan
  | .inf x, _ => fInf x
  | _, .inf y => fInf y
  | .fin sx mx ex, .fin sy my ey =>
    let e := min ex ey
    let v := scaled sx mx (ex - e).toNat + scaled sy my (ey - e).toNat
    if v = 0 then BitVec.ofNat 64 (signBit (sx && sy)) else fRound (decide (v < 0)) v.natAbs e

def fSub (a b : DWord) : DWord := fAdd a (fNeg b)

def fMul (a b : DWord) : DWord :=
  match fDecode a, fDecode b with
  | .nan, _ => fNan
  | _, .nan => fNan
  | .inf x, .inf y => fInf (x ^^ y)
  | .inf x, .fin y m _ => if m = 0 then fNan else fInf (x ^^ y)
  | .fin x m _, .inf y => if m = 0 then fNan else fInf (x ^^ y)
  | .fin sx mx ex, .fin sy my ey => fRound (sx ^^ sy) (mx * my) (ex + ey)

/-- The quotient is formed with at least 67 bits and a sticky bit. -/
def fDiv (a b : DWord) : DWord :=
  match fDecode a, fDecode b with
  | .nan, _ => fNan
  | _, .nan => fNan
  | .inf _, .inf _ => fNan
  | .inf x, .fin y _ _ => fInf (x ^^ y)
  | .fin x _ _, .inf y => BitVec.ofNat 64 (signBit (x ^^ y))
  | .fin sx mx ex, .fin sy my ey =>
    if my = 0 then (if mx = 0 then fNan else fInf (sx ^^ sy))
    else
      let n := mx * 2 ^ 120
      fRound (sx ^^ sy) (n / my * 2 + (if n % my = 0 then 0 else 1)) (ex - ey - 121)

/-- Order of numbers that are not NaN: the sign and the magnitude's bits. -/
def fKey (a : DWord) : Int := if bit a 63 then -((fAbs a).toNat : Int) else ((fAbs a).toNat : Int)

def isNan (a : DWord) : Bool := fDecode a == .nan
def fLt (a b : DWord) : Bool := !isNan a && !isNan b && decide (fKey a < fKey b)
def fLe (a b : DWord) : Bool := !isNan a && !isNan b && decide (fKey a ≤ fKey b)
def fMin (a b : DWord) : DWord := if fLt b a then b else a
def fMax (a b : DWord) : DWord := if fLt a b then b else a

/-- The largest integer not above a finite number; none for the others. -/
def fFloor (a : DWord) : Option Int :=
  match fDecode a with
  | .fin s m e =>
    if 0 ≤ e then some (scaled s m e.toNat)
    else some ((scaled s m 0) / ((2 ^ (-e).toNat : Nat) : Int))
  | _ => none

/-- Rounding to an interval (08 R288): e × floor(x / e + 1/2), in units of the interval's own. -/
def roundTo (x : DWord) (e : Nat) : Option Int :=
  (fFloor (fAdd (fDiv x (fOfInt e)) 0x3FE0000000000000)).map (fun k => (e : Int) * k)

end Sys2Proof.Machine
end

