-- ==== Sys2Proof/Machine/ScaleChan.lean ====
section
/-!
DEFINITION. One channel of the scale engine (08): block checks, the measuring chain, zero, tare, stability, ranges, commands, instrument
types and records, as functions of the channel's state. Samples are anchored to the sample index of the channel's first
digitiser, so that both units of a pair publish at the same indices (R299; log 23).
-/

namespace Sys2Proof.Machine

/-- What the channel takes from outside itself: its number, whether it is in TEST, the COMMISSION line, the cycle timestamp, IDCFG,
its record key, the pairing key of a digitiser, whether its two datapaths disagree at an output (R301, log 22), a free value. -/
structure ScEnv where
  logical : Nat
  test    : Bool
  comm    : Bool
  time    : DWord
  idcfg   : List Byte
  rkey    : Option (List Byte)
  pair    : Word → Option (List Byte)
  differ  : Nat → Bool
  free    : Nat → Nat

/-- What a step of the channel gives: its state, records to publish, events, block counts (accepted, format, key, gaps), a failed
self-check. -/
structure ScOut where
  ch   : ScCh
  recs : List (List Byte) := []
  evs  : List (Nat × List Byte) := []
  fmt  : Nat := 0
  mac  : Nat := 0
  gap  : Nat := 0
  blk  : Nat := 0
  fail : Bool := false

/-- A legal object of the channel as SCL_PARAM holds it (R308). -/
def prm (c : ScCh) (j sub : Nat) : Nat :=
  match c.params.find? (fun p => p.j == j && p.sub == sub) with
  | some p => p.val.toNat
  | none => 0
def prmS (c : ScCh) (j sub : Nat) : Int := signed 32 (prm c j sub)
def prmF (c : ScCh) (j sub : Nat) : DWord := BitVec.ofNat 64 (prm c j sub)

def rateOf (n : Nat) : Nat := [4800, 2400, 1200, 600].getD n 0

def chD (c : ScCh) : Nat := prm c 4 1
def chRate (c : ScCh) : Nat := rateOf (prm c 0 6)
/-- L of R279. -/
def chL (c : ScCh) : Nat := prm c 4 2 * chRate c / (chD c * 1000000)
/-- The window of R276 and R283, 3D + LD samples. -/
def chW (c : ScCh) : Nat := 3 * chD c + chL c * chD c
def chInstr (c : ScCh) : Nat := prm c 0 1
def chCells (c : ScCh) : Nat := prm c 0 5
/-- The cells: station and cell index. -/
def cellsOf (c : ScCh) : List (Nat × Nat) := (List.range (chCells c)).map (fun i => (prm c 1 (i + 1), prm c 1 (i + 9)))
/-- The stations of a channel in the order of its cells, each once. -/
def stationsOf (c : ScCh) : List Nat := ((cellsOf c).map (fun x => x.1)).eraseDups
def chRanges (c : ScCh) : Nat := if prm c 9 1 = 0 then 1 else prm c 9 2
def chE (c : ScCh) (i : Nat) : Nat := prm c 9 (2 + i)
def chMax (c : ScCh) (i : Nat) : Nat := prm c 9 (5 + i)

/-- The objects can drive the chain: with others a channel in TEST issues no records (log 24). -/
def chainOk (c : ScCh) : Bool :=
  [1, 2, 4, 8, 16].contains (chD c) && decide (1 ≤ chCells c ∧ chCells c ≤ 8) && decide (0 < chRate c) && decide (0 < prm c 0 7) &&
    decide (1 ≤ chL c ∧ chL c ≤ 1024) && decide (2 ≤ prm c 7 1 ∧ prm c 7 1 ≤ 5) && decide (prm c 9 1 ≤ 2) &&
    decide (1 ≤ chRanges c ∧ chRanges c ≤ 3) && (List.range (chRanges c)).all (fun i => decide (0 < chE c (i + 1)))

-- starts (R276, R283, R285) -----------------------------------------------------------------------------------------------

/-- The filters restart: states zero, FILLING; the window between START and END falls (R304). -/
def filtersRestart (c : ScCh) : ScCh :=
  { c with
    filled := 0, sinceRep := none, sinceFlt := none, integ := List.replicate 3 0, comb := List.replicate 3 0
    bq1 := List.replicate 4 0, bq2 := List.replicate 4 0, ma := [], hist := [], stable := false, ovr := false, under := false
    due := [], ins := { c.ins with open_ := false, sum := 0, count := 0, gap := false, plateau := 0, above := 0 } }

/-- The channel starts (R285): filters, zero reference, tare and range begin anew; pending commands are discarded with 5. -/
def channelStart (c : ScCh) : ScCh :=
  let d := filtersRestart c
  { d with
    digs := [], m := 0, z := 0, z0 := 0, tare := 0, preset := false, range := 1, nozero := true, zeroTold := false, blocks := 0
    restart := false, copied := [], ins := { d.ins with travel := none } }

/-- Pending commands are discarded with CRESULT 5 (R291): each is reported and posts event 0x0519. -/
def discardCmds (c : ScCh) : ScCh :=
  match c.cmds.getLast? with
  | none => c
  | some k => { c with cmds := [], cseq := k.cseq, cmd := k.cmd, cresult := 5 }

-- rounding and ranges (R288) ------------------------------------------------------------------------------------------------

/-- Smallest range that holds a magnitude. -/
def rangeFor (c : ScCh) (x : DWord) : Nat :=
  ((List.range (chRanges c)).map (fun i => i + 1)).find? (fun i => fLe (fAbs x) (fOfInt (chMax c i))) |>.getD (chRanges c)

/-- Interval for GROSS, NET and TARE. -/
def eGross (c : ScCh) (g : DWord) : Nat :=
  match prm c 9 1 with
  | 0 => chE c 1
  | 1 => chE c (rangeFor c g)
  | _ => chE c c.range
def eNet (c : ScCh) (n : DWord) : Nat :=
  match prm c 9 1 with
  | 0 => chE c 1
  | 1 => chE c (rangeFor c n)
  | _ => chE c c.range
def eTare (c : ScCh) : Nat := if prm c 9 1 = 2 then chE c c.range else chE c 1
def rangeField (c : ScCh) (g : DWord) : Nat :=
  match prm c 9 1 with
  | 0 => 0
  | 1 => rangeFor c g
  | _ => c.range

def fInt (n : Nat) : DWord := fOfInt (n : Int)

/-- A rounded value in a field of `n` bits; a value that the field cannot hold is a free value (log 3). -/
def fieldOf (bits : Nat) (v : Option Int) (free : Nat) : Int :=
  match v with
  | some i => if -(2 ^ (bits - 1) : Int) ≤ i ∧ i < 2 ^ (bits - 1) then i else signed bits free
  | none => signed bits free

-- AUX and totals (R297) -------------------------------------------------------------------------------------------------------

/-- AUX by instrument. -/
def auxOf (env : ScEnv) (c : ScCh) : Int :=
  match chInstr c with
  | 2 => (c.ins.total % 2 ^ 32 + c.ins.zone * 2 ^ 32 : Nat)
  | 3 => c.ins.batchSum
  | 4 => fieldOf 64 (fFloor (fAdd (fDiv c.ins.belt (fInt (prm c 0x10 4))) 0x3FE0000000000000)) (env.free (8 * c.idx.toNat + 3))
  | 5 => (c.ins.axle % 256 + c.ins.total * 256 : Nat)
  | _ => 0

/-- AUX taken from a copy or from SCL_ADOPT_AUX. -/
def putAux (c : ScCh) (old v : Int) : ScCh :=
  match chInstr c with
  | 2 => { c with ins := { c.ins with total := fld (BitVec.ofInt 64 v) 0 32, zone := fld (BitVec.ofInt 64 v) 32 8 } }
  | 3 => { c with ins := { c.ins with batchSum := v } }
  | 4 => { c with ins := { c.ins with belt := fAdd c.ins.belt (fMul (fOfInt (v - old)) (fInt (prm c 0x10 4))) } }
  | 5 => { c with ins := { c.ins with axle := fld (BitVec.ofInt 64 v) 0 8, total := fld (BitVec.ofInt 64 v) 8 56 } }
  | _ => c

/-- ZERO field: Z − Y_0 in 0.01 value units, to nearest (R293). -/
def zeroField (env : ScEnv) (c : ScCh) : Int :=
  fieldOf 32 (fFloor (fAdd (fMul (fSub c.z (prmF c 8 1)) (fInt 100)) 0x3FE0000000000000)) (env.free (8 * c.idx.toNat + 2))

-- records (R293) --------------------------------------------------------------------------------------------------------------

def inWindow (c : ScCh) (k : Option Nat) : Bool :=
  match k with
  | some n => decide (n < chW c)
  | none => false
def filling (c : ScCh) : Bool := decide (c.filled < chW c)
def inGap (c : ScCh) : Bool := inWindow c c.sinceRep

/-- G, and G − T, at the last output. -/
def gOf (c : ScCh) : DWord := fSub c.m c.z
def netOf (c : ScCh) : DWord := fSub (gOf c) (fOfInt c.tare)

/-- |G| ≤ E1 / 4 (R288, R289). -/
def nearZero (c : ScCh) : Bool := fLe (fAbs (gOf c)) (fDiv (fInt (chE c 1)) (fInt 4))

/-- The 64 bytes of a record without its publication counts: bytes 4 to 59. -/
def recordBytes (env : ScEnv) (c : ScCh) (d : DueRec) : List Byte :=
  let g := gOf c
  let gross := if c.ovr then 0x7FFFFFFF else if c.under then -2147483648 else fieldOf 32 (roundTo g (eGross c g)) (env.free (8 * c.idx.toNat + 0))
  let net0 := match d.net with
    | some n => fieldOf 32 (some n) (env.free (8 * c.idx.toNat + 1))
    | none => fieldOf 32 (roundTo (netOf c) (eNet c (netOf c))) (env.free (8 * c.idx.toNat + 1))
  let net := if c.ovr then 0x7FFFFFFF else if c.under then -2147483648 else net0
  let status := pack 16 [(0, b2n c.stable), (1, b2n (nearZero c)), (2, b2n (c.tare != 0)), (3, b2n c.preset), (4, b2n c.ovr),
    (5, b2n c.under), (6, b2n env.test), (7, b2n env.comm), (8, b2n (filling c)), (9, b2n (inGap c || d.gap)), (10, b2n c.moved),
    (11, b2n (!c.ovr && !c.under && decide (gross < (prm c 9 9 : Int)))), (12, b2n (inWindow c c.sinceFlt)), (13, b2n c.nozero)]
  let body := le4 c.seq.toNat ++ le8 env.time.toNat ++ le4 (unsigned 32 gross) ++ le4 (unsigned 32 net) ++
    le4 (unsigned 32 c.tare) ++ le4 (unsigned 32 (zeroField env c)) ++ le2 status.toNat ++ u8 d.kind ++ u8 (rangeField c g) ++
    le8 (unsigned 64 (auxOf env c)) ++ le4 c.idx.toNat ++ u8 env.logical ++ fit 3 env.idcfg
  body ++ (match env.rkey with
    | some k => mac8 k body
    | none => zeros 8)

/-- A record output (R292): SEQ rises, the record waiting takes the place of the periodic one. Where no record key matches RKEYFP no
MAC can be formed: its field is zero (log 25). -/
def issueRecord64 (env : ScEnv) (c : ScCh) : ScOut :=
  let c := { c with seq := c.seq + 1 }
  let base : DueRec := { kind := if chInstr c = 4 then 4 else 0, net := none, gap := false }
  let d := c.due.headD base
  let r := recordBytes env c d
  let h : PubHist := { lastIdx := c.idx, seq := c.seq, zero := zeroField env c, tare := c.tare, aux := auxOf env c }
  { ch := { c with due := c.due.drop 1, moved := false, pubs := (h :: c.pubs).take 64 }, recs := [r] }

-- the chain (R277 to R280) ------------------------------------------------------------------------------------------------------

/-- CIC at one sample (R278): the channel, and the value of a decimated output. -/
def cicStep (c : ScCh) (u : DWord) : ScCh × Option DWord :=
  if chD c = 1 then (c, some u)
  else
    let i0 := c.integ.getD 0 0 + u
    let i1 := c.integ.getD 1 0 + i0
    let i2 := c.integ.getD 2 0 + i1
    let c := { c with integ := [i0, i1, i2] }
    if (c.idx.toNat + 1) % chD c ≠ 0 then (c, none)
    else
      let y1 := i2 - c.comb.getD 0 0
      let y2 := y1 - c.comb.getD 1 0
      let y3 := y2 - c.comb.getD 2 0
      ({ c with comb := [i2, y1, y2] }, some y3)

/-- One biquad (R279): coefficients in object `j`, its state, its input. -/
def biquad (c : ScCh) (j : Nat) (st : List DWord) (x : DWord) : List DWord × DWord :=
  let x1 := st.getD 0 0
  let x2 := st.getD 1 0
  let y1 := st.getD 2 0
  let y2 := st.getD 3 0
  let y := fSub (fSub (fAdd (fAdd (fMul (prmF c j 1) x) (fMul (prmF c j 2) x1)) (fMul (prmF c j 3) x2)) (fMul (prmF c j 4) y1))
    (fMul (prmF c j 5) y2)
  ([x, x1, y, y1], y)

/-- Linearisation (R280). -/
def linearise (c : ScCh) (w : DWord) : DWord :=
  let n := prm c 7 1
  let p := ((List.range (n - 2)).filter (fun k => fLe (prmF c 7 (k + 3)) w)).length
  let x := fun k => prmF c 7 (k + 2)
  let y := fun k => prmF c 8 (k + 1)
  fAdd (y p) (fDiv (fMul (fSub w (x p)) (fSub (y (p + 1)) (y p))) (fSub (x (p + 1)) (x p)))

/-- From the decimated value to the mass m (R278 to R280). -/
def chainStep (c : ScCh) (v : DWord) : ScCh :=
  let lg := Nat.log2 (chD c)
  let v := fMul (fOfInt v.toInt) (fDiv (fInt 1) (fInt (2 ^ (24 + 3 * lg))))
  let (b1, v) := if bit (prmF c 4 3) 0 then biquad c 5 c.bq1 v else (c.bq1, v)
  let (b2, v) := if bit (prmF c 4 3) 1 then biquad c 6 c.bq2 v else (c.bq2, v)
  let ma := (v :: c.ma).take (chL c)
  let sum := ma.reverse.foldl fAdd 0
  { c with bq1 := b1, bq2 := b2, ma := ma, m := linearise c (fDiv sum (fInt (chL c))) }

-- zero and stability (R284 to R286) ----------------------------------------------------------------------------------------------

/-- Number of outputs over which stability is judged: ceil(STAB_PERIOD × f_d / 1,000), at least 2. -/
def stabCount (c : ScCh) : Nat := max 2 ((prm c 0x0B 2 * chRate c + chD c * 1000 - 1) / (chD c * 1000))

/-- STABLE at this output (R284). -/
def judgeStable (c : ScCh) : ScCh :=
  let n := stabCount c
  let hist := (gOf c :: c.hist).take n
  let hi := hist.foldl fMax (hist.headD 0)
  let lo := hist.foldl fMin (hist.headD 0)
  let band := fDiv (fInt (2 * prm c 0x0B 1 * eGross c (gOf c))) (fInt 100)
  { c with hist := hist, stable := !filling c && !inGap c && decide (n ≤ hist.length) && fLe (fSub hi lo) band }

def inInit (c : ScCh) : Bool := fLe (fOfInt (prmS c 0x0A 1)) c.m && fLe c.m (fOfInt (prmS c 0x0A 2))
def zeroLo (c : ScCh) : DWord := fSub c.z0 (fInt (prm c 0x0A 3))
def zeroHi (c : ScCh) : DWord := fAdd c.z0 (fInt (prm c 0x0A 3))

/-- Automatic tracking at a stable output (R286). -/
def track (c : ScCh) : ScCh :=
  let e := eGross c (gOf c)
  if prm c 0x0A 4 = 1 ∧ c.tare = 0 ∧ fLe (fAbs (gOf c)) (fDiv (fInt (prm c 0x0A 5 * e)) (fInt 100)) then
    let fd := fDiv (fInt (chRate c)) (fInt (chD c))
    let step := fDiv (fInt (prm c 0x0A 6 * e)) (fMul (fInt 100) fd)
    let d := fMax (fNeg step) (fMin step (fSub c.m c.z))
    { c with z := fMax (zeroLo c) (fMin (zeroHi c) (fAdd c.z d)) }
  else c

/-- The initial zero, or tracking, at a stable output (R285, R286). -/
def zeroAt (c : ScCh) : ScCh :=
  if !c.stable then c
  else if c.nozero then (if inInit c then { c with z := c.m, z0 := c.m, nozero := false } else c)
  else track c

/-- The current range in multi-range (R288). -/
def rangeAt (c : ScCh) : ScCh :=
  if prm c 9 1 ≠ 2 then c
  else
    let fits (i : Nat) : Bool := decide (c.range ≤ i) && !fLt (fInt (chMax c i)) (gOf c)
    let up := { c with range := (((List.range (chRanges c)).map (fun i => i + 1)).find? fits).getD (chRanges c) }
    if up.stable && nearZero up then { up with range := 1 } else up

/-- OVER and UNDER (R289). -/
def limitsAt (c : ScCh) : ScCh :=
  let n := chRanges c
  { c with ovr := fLt (fAdd (fInt (chMax c n)) (fInt (prm c 0x0D 1 * chE c n))) (gOf c)
           under := fLt (gOf c) (fOfInt (prmS c 0x0D 2)) }

-- instruments (R297) ----------------------------------------------------------------------------------------------------------------

/-- Mean of a sum over a number of outputs. -/
def meanOf (sum : DWord) (n : Nat) : DWord := fDiv sum (fInt n)

/-- A rounded net value; where it has none the spec states no value (log 3). -/
def roundNet (env : ScEnv) (c : ScCh) (x : DWord) : Int := fieldOf 32 (roundTo x (eNet c x)) (env.free (8 * c.idx.toNat + 4))

/-- What an output adds to the instrument: `was` says that the output before was stable; `travel` is the pulse count. -/
def instrumentAt (env : ScEnv) (was : Bool) (travel : Option Nat) (c : ScCh) : ScCh :=
  match chInstr c with
  | 1 => if c.stable && !was then { c with due := c.due ++ [{ kind := 1, net := none, gap := false }] } else c
  | 2 =>
    if c.ins.open_ then
      { c with ins := { c.ins with sum := fAdd c.ins.sum (netOf c), count := c.ins.count + 1 } }
    else c
  | 4 =>
    let moved := match c.ins.travel, travel with
      | some a, some b => (b + 2 ^ 24 - a) % 2 ^ 24
      | _, _ => 0
    let dist := fDiv (fInt moved) (prmF c 0x10 2)
    let add := fMul (fDiv (gOf c) (prmF c 0x10 3)) dist
    { c with ins := { c.ins with travel := travel, belt := if moved = 0 then c.ins.belt else fAdd c.ins.belt add } }
  | 5 =>
    let thr := fInt (prm c 0x11 1)
    if fLt thr (gOf c) then { c with ins := { c.ins with plateau := fAdd c.ins.plateau (netOf c), above := c.ins.above + 1 } }
    else if fLt (gOf c) thr then
      if 0 < c.ins.above ∧ prm c 0x11 2 * chRate c ≤ c.ins.above * chD c * 1000 then
        let v := roundNet env c (meanOf c.ins.plateau c.ins.above)
        { c with
          ins := { c.ins with
            plateau := 0, above := 0, axle := c.ins.axle + 1
            vehicle := if c.ins.open_ then c.ins.vehicle + v else c.ins.vehicle }
          due := c.due ++ [{ kind := 5, net := some v, gap := false }] }
      else { c with ins := { c.ins with plateau := 0, above := 0 } }
    else c
  | _ => c

-- one output and one sample ------------------------------------------------------------------------------------------------------------

/-- Everything that a decimated output does (R278 to R297), up to its record (R292). -/
def outputStep (env : ScEnv) (v : DWord) (travel : Option Nat) (c : ScCh) : ScOut :=
  let was := c.stable
  let lim := c.ovr || c.under
  let c := limitsAt (rangeAt (zeroAt (judgeStable (chainStep c v))))
  let c := { c with ins := { c.ins with gap := c.ins.gap || (c.ins.open_ && inGap c) } }
  let c := instrumentAt env was travel c
  let evs := if (c.ovr || c.under) && !lim then [(0x0515, u8 env.logical)] else []
  if (c.idx.toNat + 1) / chD c % prm c 0 7 = 0 then
    let o := issueRecord64 env c
    if c.restart then { o with ch := channelStart o.ch, evs := evs } else { o with evs := evs }
  else { ch := c, evs := evs }

/-- One sample instant of all cells (R277): `xs` in the order of the cells. -/
def sampleStep (env : ScEnv) (idx : Nat) (xs : List Int) (rep flt : Bool) (c : ScCh) : ScOut :=
  let belt := chInstr c == 4
  let tc := prm c 0x10 1
  let u : Int := ((List.range (chCells c)).map
    (fun i => if belt && i == tc then 0 else (prm c 2 (i + 1) : Int) * xs.getD i 0)).sum
  let travel : Option Nat := if belt then some (unsigned 24 (xs.getD tc 0)) else none
  let inc (k : Option Nat) (hit : Bool) : Option Nat := if hit then some 0 else k.map (· + 1)
  let c := { c with
    idx := BitVec.ofNat 32 idx
    filled := if chW c ≤ c.filled then c.filled else if rep then 0 else c.filled + 1
    sinceRep := inc c.sinceRep rep, sinceFlt := inc c.sinceFlt flt }
  match cicStep c (BitVec.ofInt 64 u) with
  | (c, none) => { ch := c }
  | (c, some v) =>
    if env.differ idx then { ch := { c with st := .retired, selfchk := true }, fail := true } else outputStep env v travel c

/-- The samples that all stations of the channel have are taken, one instant at a time; `n` bounds their number. -/
def drainSamples (env : ScEnv) : Nat → ScOut → ScOut
  | 0, o => o
  | n + 1, o =>
    let c := o.ch
    let sts := stationsOf c
    let heads := sts.map (fun x => (c.digs.find? (fun d => d.station == x)).bind (fun d => d.queue.head?))
    if c.st != .running || heads.any (fun h => h.isNone) || sts.isEmpty then o
    else
      let get (x : Nat) : Samp :=
        ((c.digs.find? (fun d => d.station == x)).bind (fun d => d.queue.head?)).getD { idx := 0, xs := [], rep := true, flt := false }
      let all := sts.map get
      let xs := (cellsOf c).map (fun cell => (get cell.1).xs.getD cell.2 0)
      let c := { c with digs := c.digs.map (fun d => { d with queue := d.queue.drop 1 }) }
      let p := sampleStep env ((all.map (fun a => a.idx)).headD 0) xs (all.any (fun a => a.rep)) (all.any (fun a => a.flt)) c
      drainSamples env n
        { p with recs := o.recs ++ p.recs, evs := o.evs ++ p.evs, fmt := o.fmt, mac := o.mac, gap := o.gap, blk := o.blk, fail := o.fail || p.fail }

-- blocks (R272, R275, R276) --------------------------------------------------------------------------------------------------------------

/-- The samples of a block: instant j of N, cell i of C. -/
def blockSamps (b : List Byte) (c n sidx : Nat) (flt : Bool) : List Samp :=
  (List.range n).map (fun j =>
    { idx := (sidx + j) % 2 ^ 32, xs := (List.range c).map (fun i => signed 24 (leAt b (16 + 3 * c * j + 3 * i) 3)), rep := false, flt := flt })

/-- Why a block is refused. -/
inductive BlkBad where
  | fmt | key

/-- The checks of R275 on a block from `station` for this channel, in their order; duplicates are handled before. -/
def blockBad (env : ScEnv) (c : ScCh) (station : Nat) (b : List Byte) : Option BlkBad :=
  let digid := leAt b 0 4
  let cells := leAt b 12 1
  let n := leAt b 13 1
  let mine := (List.range (chCells c)).filter (fun i => prm c 1 (i + 1) == station)
  let len := 16 + 3 * cells * n
  if b.length < 16 ∨ mine.any (fun i => prm c 3 (i + 1) != digid) then some .fmt
  else if cells = 0 ∨ 8 < cells ∨ mine.any (fun i => decide (cells ≤ prm c 1 (i + 9))) ∨ leAt b 14 1 ≠ prm c 0 6 ∨ 60 < n ∨
      b.length < len + 8 then some .fmt
  else match env.pair (BitVec.ofNat 32 digid) with
    | none => some .key
    | some k =>
      if mine.any (fun i => prm c 3 (i + 9) != fingerprint k) then some .key
      else if mac8 k (b.take len) ≠ slice b len 8 then some .key else none

/-- A block of one station reaches the channel (R275, R276). -/
def takeBlock (env : ScEnv) (station : Nat) (b : List Byte) (o : ScOut) : ScOut :=
  let c := o.ch
  let digid := BitVec.ofNat 32 (leAt b 0 4)
  let bseq := BitVec.ofNat 32 (leAt b 4 4)
  let old := c.digs.find? (fun d => d.station == station)
  if old.any (fun d => d.digid == digid && d.bseq == bseq) then o
  else
    let info := le2 station ++ le4 digid.toNat
    match blockBad env c station b with
    | some .fmt => { o with ch := { c with refused := satInc c.refused }, fmt := o.fmt + 1, evs := o.evs ++ [(0x0512, info)] }
    | some .key => { o with ch := { c with refused := satInc c.refused }, mac := o.mac + 1, evs := o.evs ++ [(0x0510, info)] }
    | none =>
      let cells := leAt b 12 1
      let n := leAt b 13 1
      let sidx := leAt b 8 4
      let new := blockSamps b cells n sidx (leAt b 15 1 % 8 != 0)
      let miss := match old with
        | some d => (sidx + 2 ^ 32 - d.next) % 2 ^ 32
        | none => 0
      let last := (old.map (fun d => d.last)).getD []
      let ovr := decide (chRate c < miss)
      let fill := if ovr then []
        else (List.range miss).map (fun j => { idx := (sidx + 2 ^ 32 - miss + j) % 2 ^ 32, xs := last, rep := true, flt := false : Samp })
      let q := if ovr then [] else (old.map (fun d => d.queue)).getD []
      let d : DigSt :=
        { station := station, digid := digid, bseq := bseq, next := (sidx + n) % 2 ^ 32
          last := (new.getLast?.map (fun x => x.xs)).getD last, queue := q ++ fill ++ new }
      let c := if ovr then filtersRestart c else c
      let c := { c with
        blocks := satInc c.blocks, gaps := if miss = 0 then c.gaps else satInc c.gaps
        digs := d :: c.digs.filter (fun x => x.station != station) }
      { o with
        ch := c, blk := o.blk + 1, gap := if miss = 0 then o.gap else o.gap + 1
        evs := if miss = 0 then o.evs else o.evs ++ [(0x0511, u8 env.logical ++ le4 miss)] }

-- commands (R286, R287, R290, R291, R297) ---------------------------------------------------------------------------------------------------

/-- Commands that the instrument accepts (R297). -/
def instrTakes (instr cmd : Nat) : Bool :=
  match instr with
  | 1 => decide (1 ≤ cmd ∧ cmd ≤ 4)
  | 2 => [1, 5, 6, 7].contains cmd
  | 3 => decide (1 ≤ cmd ∧ cmd ≤ 7)
  | 4 => cmd == 1
  | 5 => [1, 5, 6].contains cmd
  | _ => false

/-- Zero (R286). -/
def cmdZero (c : ScCh) : ScCh × Nat :=
  if c.ovr || c.under then (c, 2)
  else if !c.stable then (c, 1)
  else if c.nozero then (if inInit c then ({ c with z := c.m, z0 := c.m, nozero := false }, 0) else (c, 2))
  else if fLe (zeroLo c) c.m && fLe c.m (zeroHi c) then ({ c with z := c.m }, 0) else (c, 2)

/-- A tare value T (R287): 0 < T ≤ TARE_MAX. -/
def setTare (preset : Bool) (t : Option Int) (c : ScCh) : ScCh × Nat :=
  match t with
  | some t => if 0 < t ∧ t ≤ (prm c 0x0C 2 : Int) then ({ c with tare := t, preset := preset }, 0) else (c, 2)
  | none => (c, 2)

/-- Semi-automatic tare, preset tare, clear tare (R287). Clear tare has no bit of its own in TARE_MODE: it applies where either
kind does (log 26). -/
def cmdTare (c : ScCh) : ScCh × Nat :=
  if !bit (prmF c 0x0C 1) 0 then (c, 3)
  else if c.ovr || c.under then (c, 2)
  else if !c.stable then (c, 1)
  else if !fLt 0 (gOf c) then (c, 2) else setTare false (roundTo (gOf c) (eTare c)) c
def cmdPreset (arg : Int) (c : ScCh) : ScCh × Nat :=
  if !bit (prmF c 0x0C 1) 1 then (c, 3)
  else if c.ovr || c.under then (c, 2)
  else setTare true (roundTo (fOfInt arg) (eTare c)) c
def cmdClear (c : ScCh) : ScCh × Nat := if prm c 0x0C 1 = 0 then (c, 3) else ({ c with tare := 0, preset := false }, 0)

/-- START (R297): out of order it is refused with 3; a batch weigher needs a stable gross. -/
def cmdStart (env : ScEnv) (c : ScCh) : ScCh × Nat :=
  if c.ins.open_ then (c, 3)
  else if chInstr c = 3 ∧ !c.stable then (c, 1)
  else
    ({ c with ins := { c.ins with
        open_ := true, sum := 0, count := 0, gap := false
        startG := fieldOf 32 (roundTo (gOf c) (eGross c (gOf c))) (env.free (8 * c.idx.toNat + 5))
        axle := if chInstr c = 5 then 0 else c.ins.axle, vehicle := 0 } }, 0)

/-- END (R297): the record of the instrument waits for the next record output. -/
def cmdEnd (env : ScEnv) (c : ScCh) : ScCh × Nat :=
  if !c.ins.open_ then (c, 3)
  else match chInstr c with
    | 2 =>
      let v := roundNet env c (meanOf c.ins.sum c.ins.count)
      let zone := if v < prmS c 0x0E 1 then 0 else if prmS c 0x0E 2 < v then 2 else 1
      ({ c with ins := { c.ins with open_ := false, total := c.ins.total + 1, zone := zone }
                due := c.due ++ [{ kind := 2, net := some v, gap := c.ins.gap }] }, 0)
    | 3 =>
      if !c.stable then (c, 1)
      else
        let g := fieldOf 32 (roundTo (gOf c) (eGross c (gOf c))) (env.free (8 * c.idx.toNat + 5))
        let v := if prm c 0x0F 1 = 0 then g - c.ins.startG else c.ins.startG - g
        ({ c with ins := { c.ins with open_ := false, batchSum := c.ins.batchSum + v }
                  due := c.due ++ [{ kind := 3, net := some v, gap := c.ins.gap }] }, 0)
    | _ =>
      ({ c with ins := { c.ins with open_ := false, total := c.ins.total + 1 }
                due := c.due ++ [{ kind := 6, net := some c.ins.vehicle, gap := c.ins.gap }] }, 0)

/-- RESET TOTALS (R297): counts and sums since reset. -/
def cmdReset (c : ScCh) : ScCh × Nat :=
  ({ c with ins := { c.ins with total := 0, zone := 0, batchSum := 0 } }, 0)

/-- The effect and the result of a command. -/
def cmdEffect (env : ScEnv) (k : ScaleCmd) (c : ScCh) : ScCh × Nat :=
  if k.cmd = 0 ∨ 7 < k.cmd then (c, 6)
  else if !instrTakes (chInstr c) k.cmd then (c, 3)
  else match k.cmd with
    | 1 => cmdZero c
    | 2 => cmdTare c
    | 3 => cmdPreset k.arg c
    | 4 => cmdClear c
    | 5 => cmdStart env c
    | 6 => cmdEnd env c
    | _ => cmdReset c

/-- A command is applied or refused, and reported (R291). -/
def applyCmd (env : ScEnv) (k : ScaleCmd) (c : ScCh) : ScCh :=
  let (c, r) := cmdEffect env k c
  { c with cseq := k.cseq, cmd := k.cmd, cresult := r, cmds := c.cmds.erase k }

/-- Commands tagged `tag` or earlier are applied before the first valid block (R290). -/
def applyDue (env : ScEnv) (tag : Nat) (c : ScCh) : ScCh :=
  (c.cmds.filter (fun k => decide (k.tag ≤ tag))).foldl (fun c k => applyCmd env k c) c

/-- The blocks of one hand-off (R274): each is checked; before the first valid one the commands that are due apply; then the samples. -/
def ingest (env : ScEnv) (tag : Nat) (blocks : List (Nat × List Byte)) (c : ScCh) : ScOut :=
  let o := blocks.foldl
    (fun o x =>
      let p := takeBlock env x.1 x.2 o
      if p.blk ≠ o.blk ∧ o.blk = 0 then { p with ch := applyDue env tag p.ch } else p)
    { ch := c }
  drainSamples env ((o.ch.digs.map (fun d => d.queue.length)).sum) o

-- following (R298) -----------------------------------------------------------------------------------------------------------------------------

/-- ZERO, TARE, AUX and SEQ are taken as a copy has them, plus the channel's own change since the record `h` of its own (R298; SEQ with
the number of records it has published since: log 27). The kept records move with them. -/
def adoptFrom (env : ScEnv) (seq : Word) (zero tare aux : Int) (h : PubHist) (c : ScCh) : ScCh :=
  let dz := zero - h.zero
  let dt := tare - h.tare
  let da := aux - h.aux
  let ds := seq - h.seq
  let own := auxOf env c
  let z := fAdd (fDiv (fOfInt (zeroField env c + dz)) (fInt 100)) (prmF c 8 1)
  let c := putAux { c with z := if dz = 0 then c.z else z, tare := c.tare + dt, seq := c.seq + ds } own (own + da)
  { c with pubs := c.pubs.map (fun p => { p with seq := p.seq + ds, zero := p.zero + dz, tare := p.tare + dt, aux := p.aux + da }) }

/-- A record copy of the active (R298): none where its MAC or IDCFG fails (event 0x0517), else the channel, following or not. -/
def followCopy (env : ScEnv) (u : List Byte) (c : ScCh) : Option ScCh :=
  let body := slice u 4 48
  let ok := match env.rkey with
    | some k => mac8 k body == slice u 52 8
    | none => false
  if !ok || slice u 49 3 != fit 3 env.idcfg then none
  else
    let status := BitVec.ofNat 16 (leAt u 32 2)
    match c.pubs.find? (fun h => h.lastIdx.toNat == leAt u 44 4) with
    | none => some { c with following := false }
    | some h =>
      if bit status 6 != env.test then some { c with following := false }
      else
        let c := adoptFrom env (BitVec.ofNat 32 (leAt u 4 4)) (signed 32 (leAt u 28 4)) (signed 32 (leAt u 24 4)) (signed 64 (leAt u 36 8)) h c
        some { c with
          following := true, copied := u, preset := bit status 3
          nozero := bit status 13, z0 := if c.nozero && !bit status 13 then c.z else c.z0
          range := if prm c 9 1 = 2 then max 1 (leAt u 35 1) else c.range }

end Sys2Proof.Machine
end

