-- ==== Sys2Proof/Machine/Scale.lean ====
section
/-!
DEFINITION. The scale engine in the module (08): hand-off of blocks and commands by the cycle engine, publication, mapping into the
image, following, self-check and spares, and its commands.
-/

namespace Sys2Proof.Machine

def sclInt (b : Nat) (s : State) : State := { s with scl := { s.scl with intStatus := setBit s.scl.intStatus b } }

/-- Physical channel of a logical one (SCL_MAPn), where it is mapped. -/
def physOf (s : State) (n : Nat) : Option Nat :=
  let w := s.scl.map.getD n 0
  if bit w 31 then some (fld w 0 8) else none

def scCh (s : State) (p : Nat) : ScCh := s.scl.chans.getD p {}
def putCh (p : Nat) (c : ScCh) (s : State) : State := { s with scl := { s.scl with chans := putAt s.scl.chans p c } }

/-- Keys that the key store holds for the engine (R275, R294). -/
def pairingKey (k : Ks) (digid : Word) : Option (List Byte) := (k.pairings.find? (fun r => r.digid == digid)).map (fun r => r.key)
def recordKey (s : State) (n : Nat) (fp : Nat) : Option (List Byte) :=
  ((s.ks.records.find? (fun r => r.idx == n)).map (fun r => r.key)).bind (fun k => if fingerprint k = fp then some k else none)

/-- What channel `n` on physical `p` takes from outside, with the cycle timestamp `time`. -/
def scEnv (s : State) (n p : Nat) (time : DWord) : ScEnv :=
  { logical := n, test := chanSt s n == .test, comm := s.mnt.comm, time := time, idcfg := idCfg s
    rkey := recordKey s n (prm (scCh s p) 0 8), pair := pairingKey s.ks
    differ := fun i => Config.datapathsDiffer s.freeCtr i, free := fun k => Config.freeAt s.freeCtr k }

/-- The engine takes what the cycle engine hands over (R274, SCL_CTRL). -/
def sclLive (s : State) : Bool := cordLive s && s.scl.run && s.scl.ingress && !isolated s 0x81

-- mapping (R296) ------------------------------------------------------------------------------------------------------------

/-- Mapping of channel `n`: IMGOFF, UNITS, TASK, CMDOFF; none where the entry is empty. -/
structure RecMap where
  imgOff : Nat
  units  : Nat
  task   : Nat
  cmdOff : Nat
deriving DecidableEq, Repr

def recMapOf (v : List Byte) : RecMap := { imgOff := leAt v 0 4, units := leAt v 4 1, task := leAt v 5 1, cmdOff := leAt v 8 4 }
def recMap (s : State) (n : Nat) : Option RecMap :=
  let v := cfgVal s (0x1370 + n / 16) (n % 16 + 1)
  if v.length = 12 then some (recMapOf v) else none

/-- Channels mapped with task `t`. -/
def mappedTo (s : State) (t : Nat) : List (Nat × RecMap) :=
  (List.range 128).filterMap (fun n => (recMap s n).bind (fun m => if m.task = t then some (n, m) else none))

/-- Units of a mapping, in the order mapped. -/
def unitsOf (m : RecMap) : List Nat :=
  (if m.units % 2 = 1 then [0] else []) ++ (if m.units / 2 % 2 = 1 then [1] else []) ++
    (if m.units / 4 % 2 = 1 then (List.range 62).map (· + 2) else [])

/-- Phase 2 on the active: mapped units into the program copy, each with one aligned read (R296, R238). -/
def mapRecords (t : Nat) (s : State) : State :=
  (mappedTo s t).foldl
    (fun s nm => (unitsOf nm.2).zipIdx.foldl
      (fun s ui => { s with
        mem := writeBytes s.mem (pgBase + nm.2.imgOff + 64 * ui.2) (readBytes s.mem (chanArea nm.1 + 64 * ui.1) 64) }) s) s

-- publication (R292, R295) -----------------------------------------------------------------------------------------------------

/-- The status unit of channel `n` (R295). -/
def statusUnit (s : State) (n p : Nat) : List Byte :=
  let c := scCh s p
  let env := scEnv s n p 0
  u8 (chanStNo (chanSt s n)) ++
    u8 (b2n (filling c) + 2 * b2n (inGap c) + 4 * b2n c.following + 8 * b2n (prm c 0 4 == 1) + 16 * b2n (decide (128 ≤ p))) ++
    u8 p ++ u8 (rangeField c (gOf c)) ++ le2 c.cseq ++ u8 c.cresult ++ u8 c.cmd ++ le4 c.blocks.toNat ++ le4 c.refused.toNat ++
    le4 c.gaps.toNat ++ le4 c.idx.toNat ++ le4 c.seq.toNat ++ le8 (timeNs s) ++ le4 (unsigned 32 (zeroField env c)) ++
    le4 (unsigned 32 c.tare) ++ zeros 12

/-- Nothing of a channel area is published before the start scan is complete (R239). -/
def putStatus (n p : Nat) (s : State) : State :=
  if s.cord.running then putUnit (chanArea n) (statusUnit s n p) s else s

/-- A record goes first to its ring unit, then to unit 1 (R295). -/
def putRecord (n : Nat) (r : List Byte) (s : State) : State :=
  if s.cord.running then
    putUnit (chanArea n + 0x40) r (putUnit (chanArea n + 0x40 * (2 + leAt r 0 4 % 62)) r s)
  else s

-- spares (R301 to R303) ----------------------------------------------------------------------------------------------------------

/-- The lowest spare. -/
def lowestSpare (s : State) : Option Nat := (List.range 132).find? (fun p => (scCh s p).st == .spare)

/-- Logical channel `n` leaves the physical channel `p`, which is RETIRED (R302): onto the lowest spare, with its objects, ZERO, TARE,
AUX and SEQ, its pending commands and waiting blocks. Its initial zero, PRESET, NOZERO and range go with it (log 28). -/
def spareMove (n p : Nat) (s : State) : State :=
  if audState s = 3 then s
  else match lowestSpare s with
    | none => blockFails 0x08 0x81 p (cordPost 0x0514 (u8 n ++ u8 p) s)
    | some k =>
      let (s, r) := cordAppend 8 n 0 0 0 p k actorCord s
      if r ≠ 0 then s
      else
        let old := scCh s p
        let new := { filtersRestart old with st := .running, selfchk := false, moved := true }
        let s := putCh k new (putCh p { old with logical := none, cmds := [] } s)
        let s := { s with
          scl := { s.scl with map := putAt s.scl.map n (pack 32 [(31, 1), (0, k)]) }
          sup := { s.sup with
            retireMap := { block := 0x81, cell := p, row := 0 } :: s.sup.retireMap
            retiredCount := satInc s.sup.retiredCount } }
        putStatus n k (cordPost 0x0513 (u8 n ++ u8 p ++ u8 k) (cfgDraw s))

/-- A failed self-check (R301): counted, the interrupt, and the move. -/
def selfCheckFailed (n p : Nat) (s : State) : State :=
  spareMove n p (sclInt 4 { s with scl := { s.scl with cntSelf := satInc s.scl.cntSelf } })

-- hand-off (R274, R290) -------------------------------------------------------------------------------------------------------------

/-- The sample block of a station as it stands in the program copy. -/
def stationBlock (s : State) (x : Nat) : List Byte :=
  match s.fol.stations.find? (fun st => st.no == x) with
  | some st => readBytes s.mem (pgBase + st.cfg.inOff) st.cfg.inLen
  | none => []

/-- What a channel's chain gave stands in the state: counters, events, records where the channel is legal, the status, the self-check. -/
def takeOut (n p : Nat) (soft keyed : Bool) (o : ScOut) (s : State) : State :=
  let cmdDone := o.ch.cmds.length != (scCh s p).cmds.length
  let s := { putCh p o.ch s with freeCtr := s.freeCtr + 1 }
  let s := { s with scl := { s.scl with
    cntBlocks := satAdd s.scl.cntBlocks o.blk, cntFmt := satAdd s.scl.cntFmt o.fmt
    cntMac := satAdd s.scl.cntMac o.mac, cntGap := satAdd s.scl.cntGap o.gap } }
  let s := if 0 < o.fmt then sclInt 3 s else s
  let s := if 0 < o.mac then sclInt 1 s else s
  let s := if 0 < o.gap then sclInt 2 s else s
  let s := if soft && s.scl.swq && decide (0 < o.blk) then sclInt 0 s else s
  let s := o.evs.foldl (fun s e => cordPost e.1 e.2 s) s
  let legal := chanSt s n == .test || (keyed && !s.cord.idBad)
  let s := if legal then o.recs.foldl (fun s r => putRecord n r s) s else s
  let s := if !o.recs.isEmpty || cmdDone then putStatus n p s else s
  if o.fail then selfCheckFailed n p s else s

/-- A hand-off reaches channel `n`: checks, commands that are due, the chain, records, a failed self-check. A software-mode channel
takes its validated blocks only with SCL_CTRL.SWQ set. A channel IN SERVICE publishes nothing without its record key (R511) or while
Cord's identification differs from the recorded one (R505). -/
def handChannel (tag : Nat) (time : DWord) (n : Nat) (s : State) : State :=
  match physOf s n with
  | none => s
  | some p =>
    let c := scCh s p
    if c.st != .running || chanSt s n == .unconfigured || !chainOk c then s
    else
      let blocks := (stationsOf c).filterMap (fun x => let b := stationBlock s x; if b.isEmpty then none else some (x, b))
      let env := scEnv s n p time
      let soft := prm c 0 4 == 1
      let o := ingest env tag blocks c
      let o := if soft && !s.scl.swq then { o with ch := { c with digs := o.ch.digs.map (fun d => { d with queue := [] }), refused := o.ch.refused }, recs := [], fail := false } else o
      takeOut n p soft env.rkey.isSome o s

/-- The latest-record copies of the IMAGE pages are followed on a STANDBY (R298). -/
def followRecords (t : Nat) (s : State) : State :=
  if s.pair.role ≠ .standby then s
  else (mappedTo s t).foldl
    (fun s nm =>
      match physOf s nm.1 with
      | none => s
      | some p =>
        if nm.2.units / 2 % 2 = 0 ∨ chanSt s nm.1 = .unconfigured then s
        else
          let u := readBytes s.mem (pgBase + nm.2.imgOff + 64 * (nm.2.units % 2)) 64
          if leAt u 0 4 = 0 ∨ leAt u 0 4 ≠ leAt u 60 4 ∨ (scCh s p).copied = u then s
          else match followCopy (scEnv s nm.1 p 0) u (scCh s p) with
            | some c => putCh p c s
            | none => cordPost 0x0517 (u8 nm.1) (putCh p { scCh s p with following := false, copied := u } s)) s

/-- Phase 2 of an instance of task `t` (R274, R298): start beat `tag`, cycle timestamp of the update. -/
def scaleHandOff (t tag : Nat) (s : State) : State :=
  if !sclLive s then s
  else
    let s := followRecords t s
    (mappedTo s t).foldl (fun s nm => handChannel tag (taskOf s t).stamp nm.1 s) s

/-- CSEQ last handed for a channel: 0 before the first (log 29). -/
def handedOf (s : State) (n : Nat) : Nat := ((s.scl.handed.find? (fun h => h.1 == n)).map (fun h => h.2)).getD 0

/-- A command slot reaches the engine (R290, R291). -/
def takeSlot (n : Nat) (k : ScaleCmd) (s : State) : State :=
  if !sclLive s then s
  else match physOf s n with
    | none => s
    | some p =>
      let c := scCh s p
      if chanSt s n = .unconfigured then
        putStatus n p (putCh p { c with cseq := k.cseq, cmd := k.cmd, cresult := 4 } s)
      else putCh p { c with cmds := c.cmds ++ [k] } s

/-- Phase 5 hands over the slots of task `t` whose CSEQ has changed, tagged `tag` (R290). -/
def handSlots (t tag : Nat) (s : State) : State :=
  (mappedTo s t).foldl
    (fun s nm =>
      if nm.2.cmdOff = 0xFFFFFFFF then s
      else
        let b := readBytes s.mem (wkBase + nm.2.cmdOff) 16
        let cseq := leAt b 0 2
        if cseq = handedOf s nm.1 then s
        else
          takeSlot nm.1 { tag := tag, cseq := cseq, cmd := leAt b 2 1, arg := signed 32 (leAt b 4 4) }
            { s with scl := { s.scl with handed := (nm.1, cseq) :: s.scl.handed.filter (fun h => h.1 != nm.1) } }) s

-- starts and stops of logical channels (R253, R285, R291) --------------------------------------------------------------------------

/-- Legal objects of channel `n` as SCL_PARAM takes them (R302, R308). -/
def paramsOf (s : State) (n : Nat) : List ParamVal :=
  legalKeys.filterMap (fun k =>
    let v := legalVal s.legal (0x7000 + 0x20 * n + k.1) k.2
    if v = 0 then none else some { j := k.1, sub := k.2, val := BitVec.ofNat 64 v })

/-- Pending commands of a channel are discarded with 5 and event 0x0519 (R291). -/
def discardPending (n p : Nat) (s : State) : State :=
  let c := scCh s p
  if c.cmds.isEmpty then s
  else c.cmds.foldl (fun s _ => cordPost 0x0519 (u8 n) s) (putCh p (discardCmds c) s)

/-- Channel `n` starts with its present objects (R285). -/
def startLogical (n : Nat) (s : State) : State :=
  match physOf s n with
  | none => s
  | some p =>
    let s := discardPending n p s
    let c := scCh s p
    if c.st = .retired then s
    else putStatus n p (putCh p { channelStart { c with params := paramsOf s n } with st := .running, logical := some n } s)

-- commands ---------------------------------------------------------------------------------------------------------------------------

/-- The front pending command of one CMD of a channel is applied or refused (R286, R287, R291, R297). -/
def applyFront (cmd channel : Nat) (s : State) : State :=
  match physOf s channel with
  | none => s
  | some p =>
    let c := scCh s p
    match c.cmds.find? (fun k => k.cmd == cmd) with
    | none => s
    | some k =>
      if !sclLive s then s
      else putStatus channel p { putCh p (applyCmd (scEnv s channel p 0) k c) s with freeCtr := s.freeCtr + 1 }

def execZero (channel : Nat) (s : State) : Host.Outcome State Fault Refusal := finish (applyFront 1 channel s)
def execSemiAutomaticTare (channel : Nat) (s : State) : Host.Outcome State Fault Refusal := finish (applyFront 2 channel s)
def execPresetTare (channel : Nat) (s : State) : Host.Outcome State Fault Refusal := finish (applyFront 3 channel s)
def execClearTare (channel : Nat) (s : State) : Host.Outcome State Fault Refusal := finish (applyFront 4 channel s)
def execWeighingStart (channel : Nat) (s : State) : Host.Outcome State Fault Refusal := finish (applyFront 5 channel s)
def execWeighingEnd (channel : Nat) (s : State) : Host.Outcome State Fault Refusal := finish (applyFront 6 channel s)
def execResetTotals (channel : Nat) (s : State) : Host.Outcome State Fault Refusal := finish (applyFront 7 channel s)

/-- The initial zero has not been set 10 s after FILLING (R285): event 0x0516 once. -/
def execInitialZeroTimeout (channel : Nat) (s : State) : Host.Outcome State Fault Refusal :=
  finish <|
  match physOf s channel with
  | none => s
  | some p =>
    let c := scCh s p
    if cordLive s && c.st == .running && c.nozero && !c.zeroTold && !filling c then
      cordPost 0x0516 (u8 channel) (putCh p { c with zeroTold := true } s)
    else s

/-- SCL_CHSEL.PHYS: values above 131 act as 131. -/
def selPhys (s : State) : Nat := min 131 s.scl.chsel

/-- START (R308): the selected channel runs with its SCL_PARAM; a RETIRED channel does not start. -/
def sclStart (s : State) : State :=
  let p := selPhys s
  let c := scCh s p
  if !s.scl.run || c.st == .running || c.st == .retired then s
  else putCh p { filtersRestart c with st := .running } s

/-- STOP (R308): an idle channel; its pending commands are discarded (R291). -/
def sclStop (s : State) : State :=
  let p := selPhys s
  let c := scCh s p
  if c.st != .running then s
  else
    let s := discardPending (c.logical.getD 0xFF) p s
    putCh p { scCh s p with st := .idle } s

/-- ADOPT (R298, R308): the ADOPT registers' values, plus the channel's own change since the record of ADOPT_IDX where it has one. -/
def sclAdopt (s : State) : State :=
  let p := selPhys s
  let c := scCh s p
  let env := scEnv s (c.logical.getD 0xFF) p 0
  let here : PubHist := { lastIdx := s.scl.adoptIdx, seq := c.seq, zero := zeroField env c, tare := c.tare, aux := auxOf env c }
  let h := (c.pubs.find? (fun h => h.lastIdx == s.scl.adoptIdx)).getD here
  putCh p (adoptFrom env s.scl.adoptSeq s.scl.adoptZero.toInt s.scl.adoptTare.toInt s.scl.adoptAux.toInt h c) s

/-- RETIRE (R308). -/
def sclRetire (s : State) : State :=
  let p := selPhys s
  putCh p { scCh s p with st := .retired } s

/-- The Cord processor reaches the registers. -/
def viaCord (f : State → State) (s : State) : State := if cordLive s && !isolated s 0x81 then f s else s

def execSclStart (s : State) : Host.Outcome State Fault Refusal := finish (viaCord sclStart s)
def execSclStop (s : State) : Host.Outcome State Fault Refusal := finish (viaCord sclStop s)
def execSclAdopt (s : State) : Host.Outcome State Fault Refusal := finish (viaCord sclAdopt s)
def execSclRetire (s : State) : Host.Outcome State Fault Refusal := finish (viaCord sclRetire s)

end Sys2Proof.Machine
end

