-- ==== Sys2Proof/Machine/Cord.lean ====
section
/-!
DEFINITION. Cord (07): the mailbox and its operations, loading, verification mode and sessions, legal objects and channel states, the
start scan, the CRD_ and AUD_ commands.
-/

namespace Sys2Proof.Machine

def mbxBase : Nat := 0x03000000

/-- CRD_INT_STATUS: an interrupt to the Cord processor only. -/
def crdInt (b : Nat) (s : State) : State := { s with cord := { s.cord with intStatus := setBit s.cord.intStatus b } }

/-- Answer of a mailbox operation (R242): STATUS, RES0, RES1 and data. -/
structure MbxRes where
  status : Nat
  res0   : Nat := 0
  res1   : Nat := 0
  data   : List Byte := []

def fails (code : Nat) (s : State) : State × MbxRes := (s, { status := code })
def okay (s : State) : State × MbxRes := (s, { status := 0 })

-- the mailbox (R240 to R242) ------------------------------------------------------------------------------------------------

/-- A write to REQ_DOOR (R241). -/
def reqDoor (master : Master) (level : Level) (seq : Word) (s : State) : State :=
  let core : Bool := match master with | .core _ => true | _ => false
  if core ∧ level = .m ∧ s.cord.busy = false ∧ seq = s.cord.rspDoor + 1 then
    crdInt 0 { s with cord := { s.cord with reqDoor := seq, busy := true, mbxReq := seq } }
  else { s with cord := { s.cord with mbxErr := satInc s.cord.mbxErr } }

/-- A write to CRD_MBX_RSP (R242, R268): of the number of the request taken it completes it. -/
def mbxRsp (seq : Word) (s : State) : State :=
  if s.cord.busy ∧ seq = s.cord.mbxReq then
    ring 72 { s with cord := { s.cord with rspDoor := seq, busy := false, rspUnread := true } }
  else s

/-- An operation is run and answered: response header and data, then the door (R242). Where no request has been taken yet the runtime's
door write is part of the step. -/
def mbxRun (op : Nat) (f : MbxRq → State → State × MbxRes) (m : MbxRq) (s : State) : State × MbxRes :=
  let s := if s.cord.busy then s
    else { s with cord := { s.cord with reqDoor := s.cord.rspDoor + 1, busy := true, mbxReq := s.cord.rspDoor + 1 } }
  let (s, r) := f m s
  let hdr := le4 s.cord.mbxReq.toNat ++ le2 op ++ le2 r.status ++ le4 r.data.length ++ zeros 4 ++ le8 r.res0 ++ le8 r.res1
  (mbxRsp s.cord.mbxReq { s with mem := writeBytes s.mem (mbxBase + 0x8000) (hdr ++ r.data) }, r)

/-- The command's form: nothing answers while the Cord region does not run. -/
def mbxExec (op : Nat) (f : MbxRq → State → State × MbxRes) (m : MbxRq) (s : State) : State :=
  if cordLive s then (mbxRun op f m s).1 else s

/-- Operations other than LOAD while the boot ROM runs are answered with 0x250B (R243). -/
def booted (f : MbxRq → State → State × MbxRes) (m : MbxRq) (s : State) : State × MbxRes :=
  if s.cord.ilock then f m s else fails 0x250B s

-- loading (R235, R243, R244) -----------------------------------------------------------------------------------------------------

/-- The legal identification (R244): SHA-256 of the Cord image. -/
def computeLegalId (s : State) : List Byte := sha256 (s.cord.firmware ++ s.cord.microcode)

/-- A component fails its checks at a start (R31): FAULT red, and an event that names it, whose code the spec does not give (log 32). -/
def componentFailed (comp : Nat) (s : State) : State :=
  let s := post (Config.freeNat s.freeCtr % 65536) 0x05 (u8 comp) { s with freeCtr := s.freeCtr + 1 }
  { s with sup := { s.sup with faultLed := true } }

/-- The Cord firmware starts (R235): the instruction SRAM is locked. -/
def startFirmware (h body : List Byte) (s : State) : State :=
  let s := setFw 3 (fwOf h) s
  { s with
    cord := { s.cord with ilock := true, firmware := loadedImage h body, fwVer := hdrVersion h, load := none }
    sup := { s.sup with cordUp := true } }

/-- The microcode store is loaded and locked; the engine runs and takes its streams (R308). -/
def startMicrocode (h body : List Byte) (s : State) : State :=
  let s := setFw 4 (fwOf h) s
  { s with
    cord := { s.cord with uclock := true, microcode := loadedImage h body, ucVer := hdrVersion h, load := none }
    scl := { s.scl with run := true, ingress := true, swq := true } }

/-- LOAD_BEGIN (R243). -/
def opLoadBegin (m : MbxRq) (s : State) : State × MbxRes :=
  let what := m.arg0.toNat
  if what ≠ 1 ∧ what ≠ 2 then fails 0x0609 s
  else if (what = 1 ∧ s.cord.ilock) ∨ (what = 2 ∧ (!s.cord.ilock || s.cord.uclock || s.cord.load.isSome)) then fails 0x250B s
  else okay { s with cord := { s.cord with load := some { what := what, len := m.arg1.toNat, data := [] } } }

/-- Bytes laid over `old` from `off` on. -/
def overlay (old : List Byte) (off : Nat) (new : List Byte) : List Byte :=
  fit off old ++ new ++ old.drop (off + new.length)

/-- LOAD_DATA: by the party that took LOAD_BEGIN. -/
def opLoadData (m : MbxRq) (s : State) : State × MbxRes :=
  match s.cord.load with
  | none => fails 0x250B s
  | some j =>
    if j.len < m.arg0.toNat + m.data.length then fails 0x0609 s
    else okay { s with cord := { s.cord with load := some { j with data := overlay j.data m.arg0.toNat m.data } } }

/-- LOAD_END (R30, R31, R493): the checks against the key store; the party starts what passes. -/
def opLoadEnd (m : MbxRq) (s : State) : State × MbxRes :=
  match s.cord.load with
  | none => fails 0x250B s
  | some j =>
    let comp := j.what + 2
    let h := fit 64 j.data ++ fit 64 m.data
    let body := j.data.drop 64
    let r := if j.data.length ≠ j.len then 0x2804 else imageCheck s comp true h body
    if r ≠ 0 then fails r (componentFailed comp { s with cord := { s.cord with load := none } })
    else okay (if j.what = 1 then startFirmware h body s else startMicrocode h body s)

-- legal objects (R251, R252) --------------------------------------------------------------------------------------------------------

/-- Channel, offset and subindex of a defined legal object. -/
def legalAt (index sub : Nat) : Option (Nat × Nat × Meta) :=
  if 0x7000 ≤ index ∧ index ≤ 0x7FFF then (metaLegal (index % 0x20) sub).map (fun m => ((index - 0x7000) / 0x20, index % 0x20, m)) else none

/-- Type and range of a value given in 8 bytes (R251, R305); CIC_D takes only powers of two, UNDER lies not above zero. -/
def legalFits (j sub : Nat) (m : Meta) (v : Nat) : Bool :=
  let n := (m.ty.size).getD 8
  decide (v < 2 ^ (8 * n)) && inRange m (beBytes n v) &&
    (j != 4 || sub != 1 || [1, 2, 4, 8, 16].contains v) && (j != 0x0D || sub != 2 || decide (signed 32 v ≤ 0))

/-- The session that Cord has opened is one of a Service credential (R510): it takes only VERIFIER_ENROL and CLOSE. -/
def serviceOnly (s : State) : Bool :=
  match s.cord.sess with
  | some v => ((credAt s.ks v.slot).map (fun c => c.level == 4)).getD false
  | none => false

/-- Handle, verification mode and R510, in this order; 0: passed. -/
def gateVerifier (m : MbxRq) (s : State) : Nat :=
  if (s.cord.sess.map (fun v => v.handle)) ≠ some m.session then 0x2505
  else if serviceOnly s then 0x0603
  else if !s.cord.vmode then 0x2501 else 0

def actorOf (s : State) : Nat := (s.cord.sess.map (fun v => v.actor.toNat)).getD actorCord

/-- The audit trail takes a counted entry; else the abort code. -/
def trailTakes (s : State) : Nat :=
  if 4 ≤ audState s ∨ !s.aud.inited then 0x2503 else if 2 ≤ audState s then 0x2502 else 0

def opObjRead (m : MbxRq) (s : State) : State × MbxRes :=
  let index := m.arg0.toNat / 256
  let sub := m.arg0.toNat % 256
  match legalAt index sub with
  | none => fails 0x2507 s
  | some _ => (s, { status := 0, data := le8 (legalVal s.legal index sub) })

/-- A legal change in TEST restarts the channel with its new objects (R309; log 33). -/
def afterLegal (n : Nat) (s : State) : State := if chanSt s n = .test then startLogical n s else s

def opObjWrite (m : MbxRq) (s : State) : State × MbxRes :=
  let index := m.arg0.toNat / 256
  let sub := m.arg0.toNat % 256
  let v := leAt m.data 0 8
  if gateVerifier m s ≠ 0 then fails (gateVerifier m s) s
  else match legalAt index sub with
    | none => fails 0x2507 s
    | some (n, j, mt) =>
      if chanSt s n = .inService then fails 0x2107 (cordPost 0x0504 (le2 index ++ u8 sub) s)
      else if m.data.length ≠ 8 ∨ !legalFits j sub mt v then fails 0x0609 s
      else if trailTakes s ≠ 0 then fails (trailTakes s) s
      else
        let old := legalVal s.legal index sub
        if old = v then (s, { status := 0, res0 := 1 })
        else match cordAppend 1 n index sub mt.ty.code old v (actorOf s) s with
          | (s, 0) => okay (afterLegal n (cordPost 0x0503 (le2 index ++ u8 sub) { s with legal := putLegal s.legal index sub v }))
          | (s, r) => fails (audAbort r) s

-- verification mode and sessions (R248 to R250, R262) ------------------------------------------------------------------------------------

/-- The hardware clears VMODE when SET falls or SESSION is cleared (R248). -/
def clearVmode (s : State) : State :=
  if s.cord.vmode then crdInt 1 { s with cord := { s.cord with vmode := false } } else s

/-- The Verifier session closes (R250): entry kind 0x05 with the reason, event 0x0502, the token given back. -/
def closeVerifier (reason : Nat) (s : State) : State :=
  match s.cord.sess with
  | none => s
  | some v =>
    let s := (cordAppend 5 0xFF 0 0 0 0 reason v.actor.toNat s).1
    let s := clearVmode { s with cord := { s.cord with sess := none, session := false } }
    releaseToken (fun h => h.code == 6 && h.slot == mySlot s) (cordPost 0x0502 (u8 reason) s)

def opChallenge (_ : MbxRq) (s : State) : State × MbxRes :=
  if !s.cord.switchSet then fails 0x2508 s
  else
    let c := randomBytes s.freeCtr 32
    ({ s with freeCtr := s.freeCtr + 1, cord := { s.cord with challenge := some (c, s.now) } }, { status := 0, data := c })

/-- ACTOR of a credential (R255). -/
def actorWord (slot : Nat) (key : List Byte) : Word :=
  BitVec.ofNat 32 (slot * 2 ^ 24 + beNat ((sha256 key).take 3))

/-- A failed proof (R249): event 0x050A; after five within 10 minutes every proof is refused for the next 10. -/
def proofFails (s : State) : State × MbxRes :=
  let l := s.now :: s.cord.failures.filter (fun t => decide (s.now - t < 600000000000))
  let lock := decide (5 ≤ l.length)
  fails 0x2504 (cordPost 0x050A [] { s with cord := { s.cord with
    failures := if lock then [] else l, lockUntil := if lock then s.now + 600000000000 else s.cord.lockUntil, challenge := none } })

/-- Free slots of the trail. -/
def freeSlots (s : State) : Nat := audMax - s.aud.used

/-- V_PROVE (R249, R250, R262). A Service credential proves only while no level-3 credential is enrolled (R510). -/
def opProve (m : MbxRq) (s : State) : State × MbxRes :=
  let slot := leAt m.data 0 1
  let sig := slice m.data 4 64
  if !s.cord.switchSet then fails 0x2508 s
  else if s.now < s.cord.lockUntil then fails 0x2504 s
  else if s.cord.sess.isSome then fails 0x2506 s
  else match s.cord.challenge, credAt s.ks slot with
    | some (c, t), some k =>
      let level := k.level == 3 || (k.level == 4 && !hasVerifier s.ks)
      if 60000000000 < s.now - t ∨ !level ∨ m.data.length ≠ 68 ∨
          !Config.ed25519Verify k.key (c ++ le4 Config.serial.toNat) sig then proofFails s
      else
        let s := { s with cord := { s.cord with challenge := none } }
        if 4 ≤ audState s ∨ !s.aud.inited then fails 0x2503 s
        else if freeSlots s < 2 then fails 0x2502 s
        else
          let actor := actorWord slot k.key
          match cordAppend 4 0xFF 0 0 0 0 0 actor.toNat s with
          | (s, 0) =>
            let h := BitVec.ofNat 32 (s.cord.handles + 1)
            (cordPost 0x0501 (u8 slot) { s with cord := { s.cord with
              handles := s.cord.handles + 1, session := true, vmode := true
              sess := some { handle := h, slot := slot, actor := actor } } }, { status := 0, res0 := h.toNat })
          | (s, r) => fails (audAbort r) s
    | _, _ => proofFails s

def opClose (m : MbxRq) (s : State) : State × MbxRes :=
  if (s.cord.sess.map (fun v => v.handle)) ≠ some m.session then fails 0x2505 s else okay (closeVerifier 1 s)

/-- A channel changes its state (R253): the entry, event 0x0509. -/
def moveChannel (kind n : Nat) (next : ChSt) (s : State) : State × MbxRes :=
  match cordAppend kind n 0 0 0 (chanStNo (chanSt s n)) (chanStNo next) (actorOf s) s with
  | (s, 0) => okay (cordPost 0x0509 (u8 n ++ u8 (chanStNo next)) { s with legal := { s.legal with chans := putAt s.legal.chans n next } })
  | (s, r) => fails (audAbort r) s

/-- CHANNEL_TEST (R253): from UNCONFIGURED the channel starts at once; from IN SERVICE at its next record boundary. Pending commands
are discarded (R304). -/
def opChannelTest (m : MbxRq) (s : State) : State × MbxRes :=
  let n := m.arg0.toNat
  if gateVerifier m s ≠ 0 then fails (gateVerifier m s) s
  else if 128 ≤ n then fails 0x0609 s
  else if chanSt s n = .test then okay s
  else
    let was := chanSt s n
    match moveChannel 6 n .test s with
    | (s, r) =>
      if r.status ≠ 0 then (s, r)
      else match physOf s n with
        | none => (s, r)
        | some p =>
          if was = .inService ∧ (scCh s p).st = .running then
            (putCh p { scCh (discardPending n p s) p with restart := true } (discardPending n p s), r)
          else (startLogical n s, r)

-- consistency checks (08 R306) -----------------------------------------------------------------------------------------------------------

/-- A divided by tens: 1, 2 or 5 × 10^k. -/
def is125 : Nat → Nat → Bool
  | 0, _ => false
  | f + 1, e => if e = 1 ∨ e = 2 ∨ e = 5 then true else if 0 < e ∧ e % 10 = 0 then is125 f (e / 10) else false

/-- Cell inputs of a channel: station and index. -/
def cellInputs (s : State) (n : Nat) : List (Nat × Nat) := cellsOf { params := paramsOf s n }

def fltStrict (l : List DWord) : Bool := (l.zip (l.drop 1)).all (fun p => fLt p.1 p.2)
def natStrict (l : List Nat) : Bool := (l.zip (l.drop 1)).all (fun p => decide (p.1 < p.2))

/-- Instrument, ranges, zero, stability and tare. -/
def rangesOk (c : ScCh) : Bool :=
  let k := chRanges c
  let es := (List.range k).map (fun i => chE c (i + 1))
  let ms := (List.range k).map (fun i => chMax c (i + 1))
  let e := chE c k
  let top := chMax c k
  let lim := match prm c 0 2 with | 2 => (5000, 100000) | 3 => (500, 10000) | _ => (100, 1000)
  decide (2 ≤ prm c 0 2 ∧ prm c 0 2 ≤ 4) && es.all (is125 12) && decide (lim.1 * e ≤ top ∧ top ≤ lim.2 * e) && natStrict es && natStrict ms &&
    decide (5 * (prmS c 0x0A 2 - prmS c 0x0A 1) ≤ (top : Int)) && decide (50 * prm c 0x0A 3 ≤ top) &&
    decide (prm c 0x0A 5 ≤ 50 ∧ prm c 0x0A 6 ≤ 50 ∧ prm c 0x0B 1 ≤ 50) && decide (prm c 0x0C 2 ≤ top)

/-- The objects of the instrument's type are set (R306). -/
def typeSet (c : ScCh) : Bool :=
  match chInstr c with
  | 1 => true
  | 2 => decide (prmS c 0x0E 1 ≤ prmS c 0x0E 2) && (prm c 0x0E 1 != 0 || prm c 0x0E 2 != 0)
  | 3 => true
  | 4 => decide (prm c 0x10 1 < chCells c) && prm c 0x10 2 != 0 && prm c 0x10 3 != 0 && prm c 0x10 4 != 0
  | 5 => prm c 0x11 1 != 0
  | _ => false

/-- Points, filters and rates. -/
def chainChecks (c : ScCh) : Bool :=
  let n := prm c 7 1
  let xs := (List.range n).map (fun k => prmF c 7 (k + 2))
  let ys := (List.range n).map (fun k => prmF c 8 (k + 1))
  let bq (j : Nat) : Bool := fLt (fAbs (prmF c j 5)) (fInt 1) && fLt (fAbs (prmF c j 4)) (fAdd (fInt 1) (prmF c j 5))
  fltStrict xs && fltStrict ys && fAbs (prmF c 8 1) == 0 && (!bit (prmF c 4 3) 0 || bq 5) && (!bit (prmF c 4 3) 1 || bq 6) &&
    decide (chRate c ≤ 1000 * chD c * prm c 0 7)

/-- Bus cycle of a station's segment in ns. -/
def stationCycle (s : State) (x : Nat) : Nat := (stationSeg s x).elim 0 (fun g => segBeats' (s.run.segs.getD g 7) * 250000)
where segBeats' (w : Word) : Nat := if fld w 0 3 = 7 then 0 else 2 ^ fld w 0 3

/-- Cells of the block that a digitiser sends: the input area holds 24 + 3 C N bytes at its rate (R273). -/
def blockFits (s : State) (c : ScCh) (x : Nat) : Bool :=
  let top := ((cellsOf c).filter (fun k => k.1 == x)).foldl (fun a k => max a (k.2 + 1)) 0
  decide (24 + 3 * top * (chRate c * stationCycle s x / 1000000000 + 1) ≤ 1464)

/-- Cells, keys and mapping. -/
def cellsOk (s : State) (n : Nat) (c : ScCh) : Bool :=
  let mine := cellsOf c
  let other := ((List.range 128).filter (fun k => k != n && chanSt s k != .unconfigured)).flatMap (cellInputs s)
  let task (x : Nat) : Option Nat := (s.fol.stations.find? (fun st => st.no == x)).map (fun st => st.cfg.ioTask)
  let keyOk (i : Nat) : Bool := match pairingKey s.ks (BitVec.ofNat 32 (prm c 3 (i + 1))) with
    | some k => fingerprint k == prm c 3 (i + 9)
    | none => false
  decide (mine.eraseDups.length = mine.length) && mine.all (fun k => !other.contains k) && (List.range (chCells c)).all keyOk &&
    (stationsOf c).all (fun x => (task x).isSome && blockFits s c x) &&
    (recordKey s n (prm c 0 8)).isSome &&
    (match recMap s n with
     | some m => m.units / 2 % 2 == 1 && (stationsOf c).all (fun x => task x == some m.task)
     | none => false)

/-- Software-mode load over all channels (R282). -/
def softLoad (s : State) (n : Nat) : Nat :=
  ((List.range 128).map (fun k =>
    let c : ScCh := { params := paramsOf s k }
    if (k = n ∨ chanSt s k ≠ .unconfigured) ∧ prm c 0 4 = 1 then chCells c * chRate c else 0)).sum

def serviceOk (s : State) (n : Nat) : Bool :=
  let c : ScCh := { params := paramsOf s n }
  chainOk c && typeSet c && rangesOk c && chainChecks c && cellsOk s n c && decide (softLoad s n ≤ 38400)

/-- CHANNEL_SERVICE (R253, R306): from TEST. -/
def opChannelService (m : MbxRq) (s : State) : State × MbxRes :=
  let n := m.arg0.toNat
  if gateVerifier m s ≠ 0 then fails (gateVerifier m s) s
  else if 128 ≤ n then fails 0x0609 s
  else if chanSt s n ≠ .test ∨ !serviceOk s n then fails 0x250A s
  else match moveChannel 7 n .inService s with
    | (s, r) => if r.status ≠ 0 then (s, r) else (startLogical n s, r)

-- reading (R243, R260) ---------------------------------------------------------------------------------------------------------------------

def opIdent (_ : MbxRq) (s : State) : State × MbxRes :=
  (s, { status := 0, data := readBytes s.mem windowBase 128 ++ le4 Config.serial.toNat ++ deviceKey s.ks })

/-- Entries as stored, then the signature over serial, first entry, count and the entry bytes (R260). -/
def auditBlock (first count : Nat) (s : State) : Nat × List Byte :=
  let n := min count (s.aud.used + 1 - first)
  let es := readBytes s.mem (entryAddr first) (64 * n)
  (n, es ++ deviceSig s.ks (le4 Config.serial.toNat ++ le4 first ++ le4 n ++ es))

def opAuditRead (m : MbxRq) (s : State) : State × MbxRes :=
  let first := m.arg0.toNat
  let count := m.arg1.toNat
  if first = 0 ∨ count = 0 ∨ 256 < count then fails 0x0609 s
  else
    let (n, d) := auditBlock first count s
    (s, { status := 0, res0 := n, data := d })

-- update and keys (16 R504, R508 to R515) -----------------------------------------------------------------------------------------------------

def updRole (s : State) : Bool := s.pair.role == .standby || s.pair.role == .reserve || s.pair.role == .offline

/-- The identification that an image of a component would give (R244, R500). -/
def idWith (s : State) (comp : Nat) (h body : List Byte) : List Byte :=
  if comp = 3 then sha256 (loadedImage h body ++ s.cord.microcode) else sha256 (s.cord.firmware ++ loadedImage h body)

def opUpdBegin (m : MbxRq) (s : State) : State × MbxRes :=
  let comp := m.arg0.toNat
  if !s.cord.vmode then fails 0x2501 s
  else if serviceOnly s then fails 0x0603 s
  else if !updRole s then fails 0x2805 s
  else if (comp ≠ 3 ∧ comp ≠ 4) ∨ bodyMax comp < m.arg1.toNat then fails 0x0609 s
  else okay { s with legal := { s.legal with upd := some { comp := comp, len := m.arg1.toNat, data := [] } } }

def opUpdData (m : MbxRq) (s : State) : State × MbxRes :=
  match s.legal.upd with
  | none => fails 0x250B s
  | some u =>
    if u.len < m.arg0.toNat + m.data.length then fails 0x0609 s
    else okay { s with legal := { s.legal with upd := some { u with data := overlay u.data m.arg0.toNat m.data } } }

/-- Newest entry of kind 0x02: the first four bytes of its NEW; else the factory identification (R505). -/
def recordedId (s : State) : List Byte :=
  match ((List.range s.aud.used).reverse).find? (fun k => readLe s.mem (entryAddr (k + 1) + 4) 1 == 2) with
  | some k => readBytes s.mem (entryAddr (k + 1) + 32) 4
  | none => fit 4 Config.factoryId

/-- The mismatch of R505: event 0x0D0C when it begins. -/
def judgeId (s : State) : State :=
  let bad := legalId4 s != recordedId s
  postIf (bad && !s.cord.idBad) 0x0D0C 0x80 [] { s with cord := { s.cord with idBad := bad } }

def opUpdEnd (m : MbxRq) (s : State) : State × MbxRes :=
  match s.legal.upd with
  | none => fails 0x250B s
  | some u =>
    let h := fit 128 m.data
    if !s.cord.vmode then fails 0x2501 s
    else if !updRole s then fails 0x2805 s
    else if m.data.length ≠ 128 ∨ hdrLen h ≠ u.len ∨ u.data.length ≠ u.len then fails 0x2804 s
    else if imageCheck s u.comp true h u.data ≠ 0 then fails (imageCheck s u.comp true h u.data) s
    else
      let id := idWith s u.comp h u.data
      match cordAppend 2 0xFF 0 0 0 (leNat (legalId4 s)) (leNat (id.take 4)) (actorOf s) s with
      | (s, 0) =>
        (judgeId (cordPost 0x050C (id.take 4) { s with legal := { s.legal with upd := none } }), { status := 0, res0 := leNat (id.take 8) })
      | (s, r) => fails (audAbort r) s

def ofStatus (r : State × Nat) : State × MbxRes := (r.1, { status := r.2 })

/-- A level-3 enrolment or revocation needs the handle of a session that may make it (R510); the others none. -/
def opKsEnrol (m : MbxRq) (s : State) : State × MbxRes :=
  if serviceOnly s ∧ leAt m.data 1 1 ≠ 3 ∧ s.cord.sess.any (fun v => v.handle == m.session) then fails 0x0603 s
  else ofStatus (ksEnrol m.data s)
def opKsRevoke (m : MbxRq) (s : State) : State × MbxRes :=
  if serviceOnly s ∧ s.cord.sess.any (fun v => v.handle == m.session) then fails 0x0603 s
  else ofStatus (ksRevoke m.arg0.toNat m.arg1.toNat s)
def opKsLoad (m : MbxRq) (s : State) : State × MbxRes := ofStatus (ksLoad m.data s)
def opKsInfo (_ : MbxRq) (s : State) : State × MbxRes := (s, { status := 0, data := ksInfo s })
def opKsSign (m : MbxRq) (s : State) : State × MbxRes :=
  match s.ks.dev with
  | none => fails 0x280B s
  | some _ => if m.data.length ≠ 32 then fails 0x0609 s else (s, { status := 0, data := deviceSig s.ks (certVerify m.data) })
def opArbAdvance (m : MbxRq) (s : State) : State × MbxRes :=
  if m.arg0 ≠ 3 ∧ m.arg0 ≠ 4 then fails 0x0609 s else okay (advanceArb m.arg0.toNat s)
def opZeroise (_ : MbxRq) (s : State) : State × MbxRes := if s.pair.role ≠ .offline then fails 0x2805 s else okay (zeroise s)
def opDebugChallenge (_ : MbxRq) (s : State) : State × MbxRes :=
  let c := randomBytes s.freeCtr 32
  ({ s with freeCtr := s.freeCtr + 1, upd := { s.upd with debugChal := some (c, s.now) } }, { status := 0, data := c })

/-- The debug port opens while the permit stands, the role is OFFLINE and the keyswitch reads SERVICE (R512). -/
def debugPort (s : State) : State :=
  { s with upd := { s.upd with debugOpen := s.ks.permit && s.pair.role == .offline && s.hw.key == .service } }

/-- DEBUG_UNLOCK (R512): the signature of a DEBUG credential over challenge and serial; zeroised first. -/
def opDebugUnlock (m : MbxRq) (s : State) : State × MbxRes :=
  let slot := leAt m.data 0 1
  if s.pair.role ≠ .offline then fails 0x2805 s
  else if s.hw.key ≠ .service ∨ s.cord.sess.isSome then fails 0x280D s
  else match s.upd.debugChal, credAt s.ks slot with
    | some (c, t), some k =>
      let s := { s with upd := { s.upd with debugChal := none } }
      if 60000000000 < s.now - t ∨ !k.debug ∨ m.data.length ≠ 68 ∨
          !Config.ed25519Verify k.key (c ++ le4 Config.serial.toNat) (slice m.data 4 64) then fails 0x280D s
      else
        let s := zeroise s
        okay (ksPost 0x0D0A [] (debugPort { s with ks := { s.ks with permit := true } }))
    | _, _ => fails 0x280D s

-- start scan (R259) ----------------------------------------------------------------------------------------------------------------------------

/-- What the scan finds: entries checked, seal, last CRC, the first bad entry. -/
structure Scan where
  used : Nat := 0
  sl   : Nat := 0
  crc  : Nat := 0
  bad  : Option Nat := none

/-- Entry `n` is valid: CRC, number, link. -/
def entryOk (m : Memory) (n prev : Nat) : Bool :=
  let a := entryAddr n
  (crc32c (readBytes m a 56)).toNat == readLe m (a + 56) 4 && readLe m a 4 == n && readLe m (a + 48) 4 == prev

/-- Entries from `n` on while slots carry a valid mark. -/
def scanTrail (m : Memory) : Nat → Scan → Scan
  | 0, x => x
  | f + 1, x =>
    let n := x.used + 1
    if !slotValid m n then x
    else if !entryOk m n x.crc then { x with bad := some n }
    else scanTrail m f { used := n, sl := readLe m (entryAddr n + 8) 4, crc := readLe m (entryAddr n + 56) 4 }

/-- Slots with a valid mark, from the first on: the entries of a damaged trail, which stays readable (R259). -/
def countMarks (m : Memory) : Nat → Nat → Nat
  | 0, n => n
  | f + 1, n => if slotValid m (n + 1) then countMarks m f (n + 1) else n

/-- Bytes of the trail in the memory: the scan need look no further than the last of them. -/
def trailLimit (m : Memory) : Nat :=
  (m.filter (fun c => decide (audBase ≤ c.1 ∧ c.1 < audBase + 64 * audMax))).length + 1

/-- Replay of one entry (R259): kinds 0x01, 0x06, 0x07 and 0x08; kind 0x03 stands in the key store already. -/
def replayEntry (m : Memory) (l : Legal) (n : Nat) : Legal :=
  let a := entryAddr n
  let ch := readLe m (a + 5) 1
  match readLe m (a + 4) 1 with
  | 1 => putLegal l (readLe m (a + 12) 2) (readLe m (a + 14) 1) (readLe m (a + 32) 8)
  | 6 => { l with chans := putAt l.chans ch .test }
  | 7 => { l with chans := putAt l.chans ch .inService }
  | _ => l

/-- Moves onto spares (kind 0x08): the map of logical onto physical channels. -/
def replayMove (m : Memory) (map : List Word) (n : Nat) : List Word :=
  let a := entryAddr n
  if readLe m (a + 4) 1 = 8 then putAt map (readLe m (a + 5) 1) (pack 32 [(31, 1), (0, readLe m (a + 32) 8)]) else map

/-- Logical n on physical n, physical 128 to 131 spares, at the first start (R270). -/
def firstMap : List Word := (List.range 128).map (fun n => pack 32 [(31, 1), (0, n)])

/-- Physical channels after the scan: those left by a move are RETIRED, the unused of 128 to 131 are spares. -/
def physAfter (m : Memory) (used : Nat) (map : List Word) : List ScCh :=
  (List.range 132).map (fun p =>
    let gone := (List.range used).any (fun k => readLe m (entryAddr (k + 1) + 4) 1 == 8 && readLe m (entryAddr (k + 1) + 24) 8 == p)
    let n := map.findIdx? (fun w => fld w 0 8 == p)
    { st := if gone then .retired else if 128 ≤ p ∧ n.isNone then .spare else .idle, logical := n })

/-- A session was open at the reset: the last kind 0x04 entry has no kind 0x05 entry after it (R250). -/
def openAtReset (m : Memory) (used : Nat) : Bool :=
  match ((List.range used).reverse).find? (fun k => let x := readLe m (entryAddr (k + 1) + 4) 1; x == 4 || x == 5) with
  | some k => readLe m (entryAddr (k + 1) + 4) 1 == 4
  | none => false

/-- AUD_INIT (R269): accepted once after each module reset. -/
def audInit (v : DWord) (s : State) : State :=
  if s.aud.inited then s
  else
    let used := fld v 0 32
    { s with aud := { s.aud with
      inited := true, used := used, sealNo := BitVec.ofNat 32 (fld v 32 32)
      lastCrc := if used = 0 then 0 else BitVec.ofNat 32 (readLe s.mem (entryAddr used + 56) 4) } }

/-- AUD_ERASE (R269): slot USED + 1 becomes zero if it has no valid mark. -/
def audErase (s : State) : State :=
  let a := entryAddr (s.aud.used + 1)
  if s.aud.used < audMax ∧ !slotValid s.mem (s.aud.used + 1) then { s with mem := clearRange s.mem a (a + 64) } else s

/-- Legal records are issued: the identification is the recorded one (R505). -/
def startChannels (s : State) : State :=
  ((List.range 128).filter (fun n => chanSt s n != .unconfigured)).foldl (fun s n => startLogical n s) s

/-- The start scan (R259): the trail, the legal store, channel states and seal; then CSTATE is RUNNING (event 0x0500). -/
def startScan (s : State) : State :=
  let x := scanTrail s.mem (min audMax (trailLimit s.mem)) {}
  match x.bad with
  | some n =>
    let s := cordPost 0x0508 (le4 n) { s with
      aud := { s.aud with damaged := true, used := countMarks s.mem (min audMax (trailLimit s.mem)) 0, sealNo := BitVec.ofNat 32 x.sl }
      legal := { s.legal with chans := List.replicate 128 .unconfigured }
      cord := { s.cord with running := true } }
    judgeId (cordPost 0x0500 (legalId4 s ++ le4 x.sl) s)
  | none =>
    let s := { s with aud := { s.aud with used := x.used } }
    let s := audErase s
    let legal := (List.range x.used).foldl (fun l k => replayEntry s.mem l (k + 1))
      { s.legal with vals := [], chans := List.replicate 128 .unconfigured }
    let map := (List.range x.used).foldl (fun w k => replayMove s.mem w (k + 1)) firstMap
    let s := { s with
      aud := { s.aud with inited := false, damaged := false }
      legal := legal
      scl := { s.scl with map := map, chans := physAfter s.mem x.used map, handed := [] } }
    let s := audInit (pack 64 [(0, x.used), (32, x.sl)]) s
    let s := if openAtReset s.mem x.used then cordPost 0x0502 (u8 4) (cordAppend 5 0xFF 0 0 0 0 4 actorCord s).1 else s
    let s := { s with cord := { s.cord with running := true, session := false, sess := none, vmode := false } }
    startChannels (judgeId (cordPost 0x0500 (legalId4 s ++ le4 x.sl) s))

-- commands --------------------------------------------------------------------------------------------------------------------------------------

def execReqDoor (master : Master) (level : Level) (seq : Word) (s : State) : Host.Outcome State Fault Refusal :=
  finish (if cordLive s then reqDoor master level seq s else s)
def execCrdMbxRsp (seq : Word) (s : State) : Host.Outcome State Fault Refusal := finish (if cordLive s then mbxRsp seq s else s)
def execLoadBegin (m : MbxRq) (s : State) : Host.Outcome State Fault Refusal := finish (mbxExec 0x0001 opLoadBegin m s)
def execLoadData (m : MbxRq) (s : State) : Host.Outcome State Fault Refusal := finish (mbxExec 0x0002 opLoadData m s)
def execLoadEnd (m : MbxRq) (s : State) : Host.Outcome State Fault Refusal := finish (mbxExec 0x0003 opLoadEnd m s)
def execIdent (m : MbxRq) (s : State) : Host.Outcome State Fault Refusal := finish (mbxExec 0x0010 (booted opIdent) m s)
def execObjRead (m : MbxRq) (s : State) : Host.Outcome State Fault Refusal := finish (mbxExec 0x0011 (booted opObjRead) m s)
def execObjWrite (m : MbxRq) (s : State) : Host.Outcome State Fault Refusal := finish (mbxExec 0x0012 (booted opObjWrite) m s)
def execVChallenge (m : MbxRq) (s : State) : Host.Outcome State Fault Refusal := finish (mbxExec 0x0020 (booted opChallenge) m s)

/-- A proof with the maintenance token of the module's own table (R528, R529): it is checked last. -/
def proveWithToken (m : MbxRq) (s : State) : State × MbxRes :=
  match opProve m s with
  | (t, r) =>
    if r.status ≠ 0 then (t, r)
    else
      let h := ownHolder s 6 0 r.res0
      if tokenFree s h then (takeToken h t, r)
      else fails 0x2901 (tokenBusy h { s with cord := { s.cord with challenge := none } })

def execVProve (m : MbxRq) (s : State) : Host.Outcome State Fault Refusal := finish (mbxExec 0x0021 (booted proveWithToken) m s)
def execVClose (m : MbxRq) (s : State) : Host.Outcome State Fault Refusal := finish (mbxExec 0x0022 (booted opClose) m s)
def execChannelTest (m : MbxRq) (s : State) : Host.Outcome State Fault Refusal := finish (mbxExec 0x0023 (booted opChannelTest) m s)
def execChannelService (m : MbxRq) (s : State) : Host.Outcome State Fault Refusal := finish (mbxExec 0x0024 (booted opChannelService) m s)
def execAuditRead (m : MbxRq) (s : State) : Host.Outcome State Fault Refusal := finish (mbxExec 0x0030 (booted opAuditRead) m s)
def execUpdBegin (m : MbxRq) (s : State) : Host.Outcome State Fault Refusal := finish (mbxExec 0x0040 (booted opUpdBegin) m s)
def execUpdData (m : MbxRq) (s : State) : Host.Outcome State Fault Refusal := finish (mbxExec 0x0041 (booted opUpdData) m s)
def execUpdEnd (m : MbxRq) (s : State) : Host.Outcome State Fault Refusal := finish (mbxExec 0x0042 (booted opUpdEnd) m s)
def execKsEnrol (m : MbxRq) (s : State) : Host.Outcome State Fault Refusal := finish (mbxExec 0x0043 (booted opKsEnrol) m s)
def execKsRevoke (m : MbxRq) (s : State) : Host.Outcome State Fault Refusal := finish (mbxExec 0x0044 (booted opKsRevoke) m s)
def execKsLoad (m : MbxRq) (s : State) : Host.Outcome State Fault Refusal := finish (mbxExec 0x0045 (booted opKsLoad) m s)
def execKsInfo (m : MbxRq) (s : State) : Host.Outcome State Fault Refusal := finish (mbxExec 0x0046 (booted opKsInfo) m s)
def execKsSign (m : MbxRq) (s : State) : Host.Outcome State Fault Refusal := finish (mbxExec 0x0047 (booted opKsSign) m s)
def execArbAdvance (m : MbxRq) (s : State) : Host.Outcome State Fault Refusal := finish (mbxExec 0x0048 (booted opArbAdvance) m s)

/-- The identification computed again over the locked stores (R245). -/
def execLegalIdRecheck (computed : List Byte) (s : State) : Host.Outcome State Fault Refusal :=
  finish <|
  if cordLive s ∧ s.cord.ilock ∧ computed ≠ s.cord.legalId then blockFails 0x03 0x80 0 (cordPost 0x050B [] s) else s

def execStatusRepublish (unit : Nat) (s : State) : Host.Outcome State Fault Refusal :=
  finish (if cordLive s ∧ s.cord.ilock ∧ unit < 2 then republish unit s else s)

/-- The debounced verification switch changes (R248, R250). -/
def execVerificationSwitchChange (set : Bool) (s : State) : Host.Outcome State Fault Refusal :=
  finish <|
  if !cordLive s ∨ set = s.cord.switchSet then s
  else
    let s := crdInt 2 { s with cord := { s.cord with switchRaw := set, switchSet := set, changes := min 65535 (s.cord.changes + 1) } }
    if set then s else closeVerifier 2 (clearVmode s)

def execVerifierSessionTimeout (s : State) : Host.Outcome State Fault Refusal :=
  finish (if cordLive s then closeVerifier 3 s else s)

/-- A write of CRD_MODE (R248, R268). -/
def execCrdMode (word : Word) (s : State) : Host.Outcome State Fault Refusal :=
  finish <|
  if !cordLive s ∨ fld word 16 16 ≠ 0x7E51 then s
  else
    let session := bit word 1
    let s := { s with cord := { s.cord with session := session } }
    if session then { s with cord := { s.cord with vmode := bit word 0 && s.cord.switchSet } } else clearVmode s

/-- AUD_APPEND (R257, R269) of the staged entry. -/
def execAudAppend (word : Word) (mramOk : Bool) (s : State) : Host.Outcome State Fault Refusal :=
  finish <|
  if !cordLive s ∨ fld word 16 16 ≠ 0xA0D1 then s
  else
    let before := s.aud.used
    audLevels before (audWrite (s.aud.stage.flatMap (fun w => le4 w.toNat)) mramOk s).1

def execAudInit (word : DWord) (s : State) : Host.Outcome State Fault Refusal := finish (if cordLive s then audInit word s else s)
def execAudErase (word : Word) (s : State) : Host.Outcome State Fault Refusal :=
  finish (if cordLive s ∧ bit word 0 then audErase s else s)

def execCordStartScan (s : State) : Host.Outcome State Fault Refusal :=
  finish (if cordLive s ∧ s.cord.ilock ∧ !s.cord.running then startScan s else s)

/-- CRD_WDOG (R268). -/
def execCrdWdog (word : Word) (s : State) : Host.Outcome State Fault Refusal :=
  finish (if cordLive s ∧ fld word 0 16 = 0xC0D1 then { s with cord := { s.cord with wdArmed := true } } else s)

def execCordWatchdogExpiry (s : State) : Host.Outcome State Fault Refusal :=
  finish (if cordLive s ∧ s.cord.wdArmed then blockFails 0x05 0x80 0 s else s)

def execCrdNotify (word : Word) (s : State) : Host.Outcome State Fault Refusal :=
  finish (ringIf (cordLive s && bit word 0) 73 s)

end Sys2Proof.Machine
end

