-- ==== Sys2Proof/Machine/Change.lean ====
section
/-!
DEFINITION. Online change and forces (05): Kindle images, the checks of a change, migration, the swap, and its commands.
-/

namespace Sys2Proof.Machine

/-- User code and user data in the DRAM; the spec gives their sizes, not their places. A Kindle image stands whole in user code (log 34). -/
def codeRegion : Nat := 0x810000000
def codeSize : Nat := 0x10000000
def dataRegion : Nat := 0x900000000
def dataSize : Nat := 0x100000000

-- Kindle images (R174) -----------------------------------------------------------------------------------------------

def symAt (b : List Byte) (o : Nat) : Sym :=
  { id := BitVec.ofNat 32 (leAt b o 4), typ := leAt b (o + 4) 1, flags := BitVec.ofNat 8 (leAt b (o + 5) 1), count := leAt b (o + 6) 2
    offset := leAt b (o + 8) 4, owner := leAt b (o + 12) 1 }

def migAt (b : List Byte) (o : Nat) : Mig :=
  { id := BitVec.ofNat 32 (leAt b o 4), op := leAt b (o + 4) 1, oldType := leAt b (o + 5) 1, newType := leAt b (o + 6) 1
    flags := BitVec.ofNat 8 (leAt b (o + 7) 1), oldOff := leAt b (o + 8) 4, newOff := leAt b (o + 12) 4, len := leAt b (o + 16) 4
    initOff := leAt b (o + 20) 4 }

def descBytes : Nat := 80 * 512
def trigBytes : Nat := 64 * 64

/-- Length of the image that a header announces. -/
def kindleLen (b : List Byte) : Nat :=
  64 + leAt b 16 4 + descBytes + trigBytes + 16 * leAt b 28 4 + 24 * leAt b 32 4 + leAt b 36 4 + 64

def kindleOk (b : List Byte) : Bool :=
  decide (128 ≤ b.length) && leAt b 0 4 == 0x4B444C31 && leAt b 4 2 == 1 && b.length == kindleLen b

/-- The program that an image holds; its places are given when it is loaded. -/
def kindleProg (b : List Byte) : Prog :=
  let code := leAt b 16 4
  let d := 64 + code
  let t := d + descBytes
  let y := t + trigBytes
  let ns := leAt b 28 4
  let nm := leAt b 32 4
  let g := y + 16 * ns
  { id := BitVec.ofNat 32 (leAt b 8 4), codeLen := code, dataLen := leAt b 20 4, retLen := leAt b 24 4
    syms := (List.range ns).map (fun k => symAt b (y + 16 * k)), migs := (List.range nm).map (fun k => migAt b (g + 24 * k))
    init := slice b (g + 24 * nm) (leAt b 36 4), descs := slice b d descBytes, triggers := slice b t trigBytes
    codeBase := codeRegion, dataBase := dataRegion, imgLen := b.length }

def kindleBase (b : List Byte) : Nat := leAt b 12 4
def kindleSigned (s : State) (b : List Byte) : Bool := programSigned s.ks (b.take (b.length - 64)) (b.drop (b.length - 64))

/-- A place beside the old one: at the region's end where the old stands at its start, else at its start. -/
def beside (region size old len : Nat) : Nat := if old = region then region + size - (len + 4095) / 4096 * 4096 else region

-- descriptors (R140, R143, R146) -----------------------------------------------------------------------------------------

/-- Descriptor `t` of 80 × 512 bytes. -/
def descOf (b : List Byte) (t : Nat) : Desc :=
  let w (o n : Nat) : Nat := leAt b (512 * t + o) n
  { kind := w 0 1, prio := w 1 1, policy := w 2 1, cores := BitVec.ofNat 8 (w 4 1), trigger := w 6 2, period := w 8 4, offset := w 12 4
    latch := w 16 4, deadline := w 20 4, entry := w 24 8, data := w 32 8, segmask := BitVec.ofNat 8 (w 40 1)
    inPages := BitVec.ofNat 1024 (w 128 128), outPages := BitVec.ofNat 1024 (w 256 128) }

/-- Bitmaps of which no two share a page. -/
def disjointPages : List (BitVec 1024) → BitVec 1024 → Bool
  | [], _ => true
  | b :: bs, seen => (b &&& seen == 0) && disjointPages bs (seen ||| b)

/-- New descriptors and page ownership (R140, R143, R146). -/
def descsOk (b : List Byte) : Bool :=
  let ds := (List.range 80).map (descOf b)
  let used := ds.filter (fun d => d.kind != 0xFF)
  let one := used.filter (fun d => d.kind == 0 && d.period == 1)
  (ds.zipIdx.all (fun x => descOk x.2 x.1)) &&
    used.all (fun d => d.kind != 0 || decide (1 ≤ d.period ∧ d.period ≤ 40000 ∧ d.offset < d.period)) &&
    decide ((used.filter (fun d => d.kind == 0)).foldl (fun a d => Nat.lcm a d.period) 1 ≤ 40000) &&
    disjointPages (used.map (fun d => d.inPages)) 0 && disjointPages (used.map (fun d => d.outPages)) 0 &&
    decide ((one.map (fun d => popcount d.inPages)).sum ≤ 128) && decide ((one.map (fun d => popcount d.outPages)).sum ≤ 128)

-- migration (R175, R178, R179) ----------------------------------------------------------------------------------------------

def unsignedTy (t : Nat) : Bool := decide (2 ≤ t ∧ t ≤ 5)
def signedTy (t : Nat) : Bool := decide (6 ≤ t ∧ t ≤ 9)

/-- Pairs that CONVERT accepts (R175). -/
def convertOk (a b : Nat) : Bool :=
  (decide (2 ≤ a ∧ a ≤ 4) && (unsignedTy b || signedTy b) && decide (typeSize a < typeSize b)) ||
  (decide (6 ≤ a ∧ a ≤ 8) && signedTy b && decide (typeSize a < typeSize b)) ||
  ((decide (2 ≤ a ∧ a ≤ 4) || decide (6 ≤ a ∧ a ≤ 8)) && b == 11) || (a == 10 && b == 11)

/-- An F32 pattern as binary64, exactly. -/
def widenF32 (w : Nat) : DWord :=
  let neg := w.testBit 31
  let e : Nat := w / 2 ^ 23 % 256
  let f : Nat := w % 2 ^ 23
  if e = 255 then (if f = 0 then fInf neg else fNan)
  else if e = 0 then fRound neg f (-149) else fRound neg (2 ^ 23 + f) (Int.subNatNat e 150)

/-- One element converted, from and to memory order. -/
def convertElem (a b : Nat) (v : List Byte) : List Byte :=
  let n := leNat v
  let i : Int := if signedTy a then signed (8 * typeSize a) n else (n : Int)
  if b = 11 then le8 (if a = 10 then widenF32 n else fOfInt i).toNat else leBytes (typeSize b) (unsigned (8 * typeSize b) i)

/-- Bytes of the old layout that an entry reads. -/
def migOldLen (e : Mig) : Nat := if e.op = 1 then e.len / typeSize e.newType * typeSize e.oldType else e.len

/-- What an entry puts into the new layout. -/
def migBytes (m : Memory) (old new : Prog) (e : Mig) : List Byte :=
  let src := readBytes m (old.dataBase + e.oldOff) (migOldLen e)
  match e.op with
  | 0 => src
  | 1 =>
    let k := typeSize e.oldType
    (List.range (e.len / typeSize e.newType)).flatMap (fun i => convertElem e.oldType e.newType (slice src (k * i) k))
  | _ => fit e.len (slice new.init e.initOff e.len)

def migrate (old new : Prog) (e : Mig) (m : Memory) : Memory :=
  if 3 ≤ e.op then m else writeBytes m (new.dataBase + e.newOff) (migBytes m old new e)

/-- The entries that the check of R175 accepts. -/
def migOk (old new : Prog) (e : Mig) : Bool :=
  match e.op with
  | 0 => e.oldType == e.newType && decide (e.oldOff + e.len ≤ old.dataLen) && decide (e.newOff + e.len ≤ new.dataLen)
  | 1 => convertOk e.oldType e.newType && e.len % typeSize e.newType == 0 && decide (e.oldOff + migOldLen e ≤ old.dataLen) &&
      decide (e.newOff + e.len ≤ new.dataLen)
  | 2 => decide (e.newOff + e.len ≤ new.dataLen) && decide (e.initOff + e.len ≤ new.init.length)
  | 3 => decide (e.oldOff ≤ old.dataLen)
  | _ => false

/-- Two entries overlap in the new layout. -/
def migOverlap (a b : Mig) : Bool :=
  decide (a.op < 3) && decide (b.op < 3) && decide (a.newOff < b.newOff + b.len) && decide (b.newOff < a.newOff + a.len)
def noOverlap : List Mig → Bool
  | [] => true
  | e :: es => es.all (fun f => !migOverlap e f) && noOverlap es

/-- A force on a variable whose type changes, or which is dropped and kept in the symbol table (R177). -/
def forceBlocks (old new : Prog) (f : Force) : Bool :=
  let ty (p : Prog) : Option Nat := (p.syms.find? (fun y => y.id == f.id)).map (fun y => y.typ)
  let es := new.migs.filter (fun e => e.id == f.id)
  es.any (fun e => e.op == 1 || (e.op != 3 && e.oldType != e.newType) || (e.op == 3 && (ty new).isSome)) ||
    ((ty new).isSome && ty old != ty new)

/-- Pages of the new layout that dirty pages of the old one reach, and whether a CONVERT destination lies on them. -/
def newPages (old new : Prog) (dirty : List Nat) : List (Nat × Bool) :=
  new.migs.flatMap (fun e =>
    if 2 ≤ e.op then []
    else dirty.flatMap (fun p =>
      let a := max (old.dataBase + e.oldOff) (4096 * p)
      let b := min (old.dataBase + e.oldOff + migOldLen e) (4096 * p + 4096)
      if b ≤ a then []
      else
        let num := e.len
        let den := max 1 (migOldLen e)
        let lo := new.dataBase + e.newOff + (a - old.dataBase - e.oldOff) * num / den
        let hi := new.dataBase + e.newOff + ((b - old.dataBase - e.oldOff) * num + den - 1) / den
        (List.range ((hi - 1) / 4096 - lo / 4096 + 1)).map (fun k => (lo / 4096 + k, e.op == 1))))

/-- Weight in KiB: 4 a page, 8 with a CONVERT destination (R178). -/
def weightOf (ps : List (Nat × Bool)) : Nat :=
  ((ps.map (fun p => p.1)).eraseDups.map (fun p => if ps.any (fun q => q.1 == p && q.2) then 8 else 4)).sum

/-- Address / 4096 of a tracked page, in the windows that the runtime sets: image SRAM, user code, user data. -/
def pageNo (g : Nat) : Nat :=
  if g < 512 then 0x01000000 / 4096 + g else if g < 66048 then codeRegion / 4096 + (g - 512) else dataRegion / 4096 + (g - 66048)
def trackWindow (base lg first : Nat) : DWord := pack 64 [(63, 1), (0, base / 4096), (24, lg), (36, first / 64)]
def trackWindows : List DWord :=
  [trackWindow 0x01000000 21 0, trackWindow codeRegion 28 512, trackWindow dataRegion 32 66048] ++ List.replicate 5 0

/-- The runtime starts, and stops, tracking through the Gate. -/
def trackOn (s : State) : State := { s with gate := { s.gate with trkEn := true, dirty := [], windows := trackWindows } }
def trackOff (s : State) : State := { s with gate := { s.gate with trkEn := false } }

/-- Dirty pages as addresses / 4096, and the set cleared. -/
def dirtyPages (s : State) : List Nat := s.gate.dirty.map pageNo
def takeDirty (s : State) : State := { s with gate := { s.gate with dirty := [] } }

-- the state of a change (R176) ------------------------------------------------------------------------------------------------

def changeIdle (s : State) : Bool := s.chg.st == .idle || s.chg.st == .done || s.chg.st == .refused || s.chg.st == .abandoned

/-- Between pre-copy start and the reopen boundary (R85, R164, R186). -/
def changeBusy (s : State) : Bool := s.chg.st == .precopy || s.chg.st == .ready || s.chg.st == .swap

def chgPost (code : Nat) (data : List Byte) (s : State) : State := post code 0x40 data s

/-- The change ends without a swap: refused or abandoned; event 0x0325, the token given back. -/
def endChange (st : ChgSt) (code : Nat) (s : State) : State :=
  let s := trackOff { s with chg := { s.chg with
    st := st, lastAbort := BitVec.ofNat 16 code, image := [], new := none, loadedOwn := none, loadedPeer := none, goSent := false
    goAcked := false, closed := false, quiesced := false, copied := false, doneR := none, reopen := none, passed := false } }
  releaseToken (fun h => h.code == 3) (chgPost 0x0325 (le2 code) s)

def sendKindle (op flags : Nat) (arg aux : Nat) (data : List Byte) (s : State) : State :=
  sendTwin (.kindle { op := op, flags := BitVec.ofNat 8 flags, imgid := BitVec.ofNat 32 (leAt s.chg.image 8 4)
                      arg := BitVec.ofNat 64 arg, aux := BitVec.ofNat 32 aux, data := data }) s

/-- The standby takes part: it is SYNCHRONISED. -/
def standbySync (s : State) : Bool := standbyState s == 2

/-- Body of a task's IMAGE message without object sections (R98, R120). -/
def imageLen (d : Desc) : Nat := 48 + ((runsOf (pagesOf d.inPages)).map (fun r => 12 + 256 * r.2)).sum

/-- The new descriptors on this module: the hyperperiod with the running segments (R140), IMAGE messages within LAGMAX less 20 µs (R125; log 55),
and the budgeted payload of every beat (R124; log 41). -/
def newFits (p : Prog) (s : State) : Bool :=
  let ds := ((List.range 80).map (descOf p.descs)).filter (fun d => d.kind != 0xFF)
  let segs := ((List.range 4).filter (fun n => (s.fol.segs.getD n {}).st == .running)).map (fun n => 2 ^ (fld (s.run.segs.getD n 7) 0 3))
  let hyper : Nat := (((ds.filter (fun d => d.kind == 0)).map (fun d => d.period)) ++ segs).foldl Nat.lcm 1
  let lag := max 20 (min 1000 (fld s.flu.cfg 12 10))
  decide (hyper ≤ 40000) &&
    ds.all (fun d => decide ((imageLen d + 74 * ((imageLen d + 1463) / 1464)) * 4 / 5 + 20000 ≤ lag * 1000)) &&
    (List.range hyper).all (fun b => decide (Config.beatBudget p.id.toNat b ≤ 196608))

/-- What a unit checks of an image in LOADING (R177); 0: passed. -/
def loadCheck (b : List Byte) (s : State) : Nat :=
  match s.run.prog with
  | none => 0x2301
  | some old =>
    if !kindleOk b ∨ !kindleSigned s b ∨ kindleBase b ≠ old.id.toNat then 0x2303
    else
      let p := kindleProg b
      if codeSize < p.codeLen + old.codeLen ∨ dataSize < p.dataLen + old.dataLen then 0x2304
      else if !p.migs.all (migOk old p) ∨ !noOverlap p.migs then 0x2305
      else if s.chg.forces.any (forceBlocks old p) then 0x2306
      else if !descsOk p.descs ∨ !newFits p s then 0x2308
      else if freeSegs s.jrn < (p.retLen + 0xFFFFF) / 0x100000 + 4 then 0x2309 else 0

/-- The new program beside the old. -/
def placeNew (b : List Byte) (s : State) : State :=
  match s.run.prog with
  | none => s
  | some old =>
    let p := kindleProg b
    let p := { p with codeBase := beside codeRegion codeSize old.codeBase p.codeLen, dataBase := beside dataRegion dataSize old.dataBase p.dataLen }
    { s with
      mem := writeBytes s.mem p.codeBase b
      chg := { s.chg with new := some p } }

/-- Both units hold the image (R176): MEASURING, event 0x0321. -/
def beginMeasuring (s : State) : State :=
  trackOn (chgPost 0x0321 [] { s with chg := { s.chg with st := .measuring, recent := [], measured := 0, estimate := 0 } })

/-- LOADING ends when this unit, and the standby where it takes part, have checked the image. -/
def loadingDone (s : State) : State :=
  if s.chg.st ≠ .loading ∨ s.pair.role ≠ .active then s
  else match s.chg.loadedOwn, s.chg.loadedPeer with
    | some 0, some 0 => beginMeasuring s
    | some 0, none => if s.chg.pair then s else beginMeasuring s
    | some 0, some c => endChange .refused c s
    | some c, _ => endChange .refused c (if s.chg.pair then sendKindle 8 0 c 0 [] s else s)
    | none, _ => s

/-- The image in DATA frames of 1,456 bytes (R187). -/
def sendKindleImage (b : List Byte) (s : State) : State :=
  (List.range ((b.length + 1455) / 1456)).foldl (fun s k => sendKindle 1 0 (1456 * k) 0 (slice b (1456 * k) 1456) s) s

/-- CHANGE_CMD start (R177), with the maintenance token checked last (R529). -/
def changeStart (session : Nat) (s : State) : State × Nat :=
  let ph := s.flu.resync.phase
  if s.pair.role ≠ .active then (s, 0x2203)
  else if !changeIdle s ∨ s.pair.switch.isSome ∨ s.run.restart.isSome ∨ s.run.stopReq ∨ s.mnt.holders.any (fun h => h.code == 2) then (s, 0x2204)
  else if s.run.prog.isNone then (s, 0x2301)
  else if 2 ≤ ph ∧ ph ≤ 4 then (s, 0x2302)
  else
    let h := ownHolder s 3 0 session
    if !tokenFree s h then (tokenBusy h s, 0x2901)
    else
      let b := s.chg.image
      let s := takeToken h s
      let r := loadCheck b s
      let s := { s with chg := { s.chg with
        st := .loading, new := none, loadedOwn := some r, loadedPeer := none, postponed := 0, lastAbort := 0, pair := standbySync s
        goSent := false, goAcked := false, closed := false, quiesced := false, copied := false, extended := false, doneR := none
        reopen := none, passed := false } }
      if r ≠ 0 then (loadingDone s, 0)
      else
        let s := placeNew b s
        let s := if s.chg.pair then sendKindleImage b s else s
        (loadingDone s, 0)

/-- CHANGE_CMD abandon (R186): refused once GO has been sent. -/
def changeAbandon (s : State) : State × Nat :=
  if s.pair.role ≠ .active then (s, 0x2203)
  else if changeIdle s then (s, 0)
  else if s.chg.goSent ∨ s.chg.st = .swap then (s, 0x230B)
  else (endChange .abandoned 0 (if s.chg.pair then sendKindle 8 0 0 0 [] s else s), 0)

-- swap boundaries (R181) -----------------------------------------------------------------------------------------------------------

/-- Enabled cyclic tasks. -/
def cyclicOn (s : State) : List Nat := (List.range 16).filter (fun t => bit s.cyc.taskEn t && (taskOf s t).desc.kind == 0)

/-- Last start boundary of a task before beat `b`. -/
def lastStartBefore (d : Desc) (b : Nat) : Option Nat :=
  let p := max 1 d.period
  let k := (b + p - 1 - d.offset % p) % p
  if k < b then some (b - 1 - k) else none

/-- Boundary `b` is clear: every instance that started before it has its deadline at or before it. -/
def clearAt (s : State) (b : Nat) : Bool :=
  (cyclicOn s).all (fun t => match lastStartBefore (taskOf s t).desc b with
    | some a => decide (250 * a + (taskOf s t).desc.deadline ≤ 250 * b)
    | none => true)
def startFree (s : State) (b : Nat) : Bool := (cyclicOn s).all (fun t => !startDue (taskOf s t).desc b)

/-- The swap boundary chosen at the present beat. -/
def chooseSwap (s : State) : Option Nat :=
  let bs := (List.range (max 1 s.cyc.hyper)).map (fun k => s.cyc.beat.toNat + 4 + k)
  match bs.find? (fun b => clearAt s b && startFree s b) with
  | some b => some b
  | none => bs.find? (clearAt s)

/-- No boundary free of starts exists, and a station whose I/O task would start has SUBST_COUNT 1 (R177). -/
def swapHurts (s : State) : Bool :=
  match chooseSwap s with
  | none => false
  | some b =>
    !startFree s b &&
      ((cyclicOn s).filter (fun t => startDue (taskOf s t).desc b)).any (fun t => s.fol.stations.any (fun x => x.cfg.ioTask == t && x.cfg.subCnt == 1))

/-- GO naming S (R181); a standby that takes no part is not asked. -/
def announceSwap (s : State) : State :=
  match chooseSwap s with
  | none => s
  | some b =>
    let ask := s.chg.pair && standbySync s
    let s := { s with chg := { s.chg with swapBeat := BitVec.ofNat 64 b, goSent := true, goAcked := !ask, pair := ask } }
    if ask then sendKindle 4 0 b 0 [] s else s

-- the swap (R182 to R185) -------------------------------------------------------------------------------------------------------------

def anyInFlight (s : State) : Bool := s.run.tasks.any (fun k => k.inFlight || k.st == 4)

def closeTasks (s : State) : State :=
  { s with
    chg := { s.chg with closed := true, oldTaskEn := s.cyc.taskEn, oldEvtEn := s.cyc.evtEn }
    cyc := { s.cyc with taskEnNext := some 0, evtEnNext := some 0 } }
def restoreMasks (s : State) : State :=
  { s with
    chg := { s.chg with closed := false, goSent := false, goAcked := false, quiesced := false, copied := false, st := .ready }
    cyc := { s.cyc with taskEnNext := some s.chg.oldTaskEn, evtEnNext := some s.chg.oldEvtEn } }

/-- Weighted delta that the dirty pages leave, in KiB. -/
def deltaNow (s : State) : Nat :=
  match s.run.prog, s.chg.new with
  | some old, some new => weightOf (newPages old new (dirtyPages s))
  | _, _ => 0

/-- The active postpones the swap (R183); after 8 the change is abandoned. -/
def postpone (s : State) : State :=
  let s := { s with chg := { s.chg with postponed := s.chg.postponed + 1 } }
  let s := if s.chg.pair then sendKindle 7 1 (max s.chg.swapBeat.toNat s.cyc.beat.toNat + 1) s.chg.lastDelta.toNat [] s else s
  let s := trackOn (restoreMasks s)
  let s := chgPost 0x0323 (le4 s.chg.lastDelta.toNat) s
  if 8 ≤ s.chg.postponed then endChange .abandoned 0x2307 (if s.chg.pair then sendKindle 8 0 0x2307 0 [] s else s) else announceSwap s

/-- No instance is in flight in the swap beat (R182): tracking stops and the final delta is measured. An instance that overran past the beat is told. -/
def tryQuiesce (s : State) : State :=
  if s.chg.st ≠ .swap ∨ !s.chg.closed ∨ s.chg.quiesced ∨ anyInFlight s then s
  else
    let w := deltaNow s
    let late := s.chg.extended && decide (s.chg.swapBeat.toNat < s.cyc.beat.toNat)
    let s := trackOff { s with chg := { s.chg with lastDelta := BitVec.ofNat 32 w } }
    let s := postIf late 0x0329 0x40 [] { s with chg := { s.chg with extended := s.chg.extended && !late } }
    if s.pair.role = .active ∧ 1024 < w then postpone s else { s with chg := { s.chg with quiesced := true } }

/-- Enable masks under the new descriptors: tasks that the old program had keep theirs, new ones are enabled (log 35). -/
def newTaskEn (s : State) : BitVec 16 :=
  (List.range 16).foldl (fun w t =>
    let d := (s.chg.new.map (fun p => descOf p.descs t)).getD {}
    let on := d.kind == 0 && (bit s.chg.oldTaskEn t || (taskOf s t).desc.kind == 0xFF)
    if on then setBit w t else w) 0
def newEvtEn (s : State) : BitVec 64 :=
  (List.range 64).foldl (fun w m =>
    let d := (s.chg.new.map (fun p => descOf p.descs (16 + m))).getD {}
    let on := d.kind == 1 && (bit s.chg.oldEvtEn m || (taskOf s (16 + m)).desc.kind == 0xFF)
    if on then setBit w m else w) 0

/-- Forces are bound to the new layout; those without an entry in the new symbol table are dropped (R188). -/
def rebindForces (new : Prog) (s : State) : State :=
  let gone := s.chg.forces.filter (fun f => !new.syms.any (fun y => y.id == f.id))
  gone.foldl (fun s f => chgPost 0x0326 (le4 f.id.toNat) s)
    { s with chg := { s.chg with
      forces := s.chg.forces.filter (fun f => new.syms.any (fun y => y.id == f.id))
      dropped := satAdd s.chg.dropped gone.length } }

/-- Enable masks written in this beat, in force from the next boundary on (R172). -/
def nextMasks (en : BitVec 16) (ev : BitVec 64) (s : State) : State :=
  { s with cyc := { s.cyc with taskEnNext := some en, evtEnNext := some ev } }

/-- The first boundary that the copy leaves time for (R182). -/
def reopenAt (s : State) : Nat :=
  let b := s.cyc.beat.toNat
  let into := s.now - s.cyc.beatAt
  if into ≤ 230000 then b + 1 else b + 2

/-- The masks of the reopen boundary, written where it is the next one. -/
def reopenNext (r : Option Nat) (s : State) : State :=
  let s := { s with chg := { s.chg with reopen := r } }
  if r = some (s.cyc.beat.toNat + 1) then nextMasks s.chg.oldTaskEn s.chg.oldEvtEn s else s

/-- The copy: the last migration, descriptors and trigger table into image SRAM, forces rebound (R182, R188). -/
def swapMem (old new : Prog) (s : State) : State :=
  let m := new.migs.foldl (fun m e => migrate old new e m) s.mem
  let m := writeBytes (writeBytes m descBase new.descs) trigBase new.triggers
  rebindForces new (takeDirty { s with mem := m })

/-- The new layout's snapshot and the swap's commit record (R376). What the coalescing buffer holds of the old layout is written before (R390), under
a number at or below the snapshot's base: a replay of the new layout leaves it out. -/
def swapJournal (old new : Prog) (s : State) : State :=
  let s := flushBuffer s
  let base := s.jrn.given
  let j := snapRecs base new.id.toNat s.jrn none (snapshotOf s.mem new.dataBase new.retLen base)
  jrnSwap new.id.toNat old.id.toNat base { s with jrn := j }

/-- The new descriptors keep the trigger entry, and the event task with its entry, unchanged (R185). -/
def keepsEntry (new : Prog) (s : State) (e : Nat) : Bool := readBytes s.mem (trigBase + 0x40 * e) 64 == slice new.triggers (64 * e) 64
def keepsEvent (new : Prog) (s : State) (m : Nat) : Bool :=
  let d := descOf new.descs (16 + m)
  d == (taskOf s (16 + m)).desc && keepsEntry new s d.trigger

/-- Trigger history is carried over for the entries kept, and pending triggers for the event tasks kept (R185). -/
def carryTriggers (new : Prog) (s : State) : State :=
  { s with
    run := { s.run with trigPrev := s.run.trigPrev.filter (fun p => keepsEntry new s p.entry) }
    chg := { s.chg with altered := ((List.range 64).filter (fun m => !keepsEvent new s m)).foldl (fun w m => setBit w m) 0 } }

/-- The new program is the program; its descriptors take the masks of R. -/
def swapNames (new : Prog) (en : BitVec 16) (ev : BitVec 64) (s : State) : State :=
  let c := { s.chg with copied := true, new := some { new with migs := [] } }
  let r := { s.run with prog := some new }
  { s with chg := { c with oldTaskEn := en, oldEvtEn := ev }, run := r }

/-- The copy is complete (R182); the active names R. -/
def swapCopyDone (s : State) : State :=
  match s.run.prog, s.chg.new with
  | some old, some new =>
    if s.chg.st ≠ .swap ∨ !s.chg.quiesced ∨ s.chg.copied then s
    else
      let en := newTaskEn s
      let ev := newEvtEn s
      let s := swapJournal old new (swapNames new en ev (swapMem old new (carryTriggers new s)))
      if s.pair.role = .active then
        let r := reopenAt s
        reopenNext (some r) (if s.chg.pair then sendKindle 7 0 r s.chg.lastDelta.toNat [] s else s)
      else reopenNext s.chg.doneR s
  | _, _ => s

/-- A standby misses the swap (R184). -/
def swapMissed (s : State) : State := enterResync false (chgPost 0x032A [] (trackOff { s with chg := { s.chg with st := .done } }))

/-- At R the change is DONE (R182, R185): pending triggers of altered event tasks are dropped and counted. -/
def reopenSwap (s : State) : State :=
  let image := s.chg.image
  let keep := s.cyc.evtEn &&& ~~~s.chg.altered
  let lost := (List.range 64).filter (fun m => bit s.cyc.evtPend m && !bit keep m)
  let s := postIf (s.chg.extended && decide (s.chg.swapBeat.toNat + 1 < s.cyc.beat.toNat)) 0x0329 0x40 [] s
  let s := { s with
    cyc := { s.cyc with
      evtPend := s.cyc.evtPend &&& keep
      cntLost := satAdd s.cyc.cntLost lost.length }
    chg := { s.chg with
      st := .done, count := satInc s.chg.count, image := [], goSent := false, goAcked := false, closed := false, quiesced := false, copied := false
      doneR := none, reopen := none, passed := false } }
  let s := if image.isEmpty then s else storeProgram image s
  releaseToken (fun h => h.code == 3) (chgPost 0x0324 (le4 ((s.chg.new.map (fun p => p.id.toNat)).getD 0) ++ le8 s.chg.swapBeat.toNat) s)

/-- A standby that is no longer SYNCHRONISED leaves the change to the active (R186): its own part ends (log 36). -/
def leaveChange (s : State) : State :=
  trackOff { s with chg := { s.chg with
    st := .idle, image := [], new := none, loadedOwn := none, goSent := false, goAcked := false, closed := false
    quiesced := false, doneR := none, reopen := none, passed := false } }

/-- What a boundary does for a change, after the masks have been applied (R178, R181 to R184). -/
def changeBeat (s : State) : State :=
  let b := s.cyc.beat.toNat
  let go := s.chg.goSent && s.chg.goAcked
  if s.pair.role = .standby ∧ s.pair.sub ≠ .synchronised ∧ !changeIdle s ∧ !s.chg.copied then leaveChange s
  else match s.chg.st with
  | .loading =>
    if s.pair.role = .active ∧ s.chg.pair ∧ !standbySync s then loadingDone { s with chg := { s.chg with pair := false } } else s
  | .measuring =>
    let win := (dirtyPages s :: s.chg.recent).take 4
    let w := match s.run.prog, s.chg.new with
      | some old, some new => weightOf (newPages old new win.flatten.eraseDups)
      | _, _ => 0
    takeDirty { s with chg := { s.chg with recent := win, measured := max s.chg.measured w } }
  | .ready =>
    if go ∧ b + 1 = s.chg.swapBeat.toNat then closeTasks s
    else if go ∧ b = s.chg.swapBeat.toNat ∧ s.chg.closed then
      let s := { s with chg := { s.chg with st := .swap, extended := anyInFlight s } }
      if s.pair.role = .standby ∧ (s.cyc.taskEn ≠ 0 ∨ s.cyc.evtEn ≠ 0) then swapMissed s else tryQuiesce s
    else s
  | .swap =>
    let s := tryQuiesce s
    let named := match s.chg.reopen with
      | some r => r
      | none => b + 1
    if s.pair.role = .standby ∧ b < named ∧ (s.cyc.taskEn ≠ 0 ∨ s.cyc.evtEn ≠ 0) then swapMissed s
    else match s.chg.reopen with
    | some r =>
      if b + 1 = r then { s with cyc := { s.cyc with taskEnNext := some s.chg.oldTaskEn, evtEnNext := some s.chg.oldEvtEn } }
      else if r ≤ b then
        if s.pair.role = .standby ∧ (s.cyc.taskEn ≠ s.chg.oldTaskEn ∨ s.cyc.evtEn ≠ s.chg.oldEvtEn) then swapMissed s else reopenSwap s
      else s
    | none =>
      match s.chg.doneR with
      | some r => if s.pair.role = .standby ∧ r ≤ b then swapMissed s else s
      | none => s
  | _ => s

/-- A takeover (R186): before S the change is abandoned; from S on the new active completes it on its own unit. -/
def changeTakeover (s : State) : State :=
  if changeIdle s then s
  else if s.chg.st = .swap then
    if s.chg.copied then
      let s := { s with chg := { s.chg with reopen := some (s.cyc.beat.toNat + 2), pair := false } }
      s
    else { s with chg := { s.chg with pair := false } }
  else
    let s := if s.chg.closed then restoreMasks s else s
    endChange .abandoned (Config.freeNat s.freeCtr % 65536) { s with freeCtr := s.freeCtr + 1 }

-- forces (R188 to R192) -------------------------------------------------------------------------------------------------------------------

/-- A FORCE_SET value's checks (R180, R191); 0: passed. -/
def forceCheck (v : List Byte) (s : State) : Nat :=
  let id := BitVec.ofNat 32 (leAt v 0 4)
  let len := leAt v 6 2
  if v.length < 8 then 0x0609
  else match symOf s id with
    | none => 0x230E
    | some y =>
      if bit y.flags 3 then 0x230C
      else if leAt v 4 1 ≠ y.typ ∨ len ≠ symLen y ∨ 64 < len ∨ v.length < 8 + len then 0x0609
      else if changeBusy s ∧ (s.chg.new.bind (fun p => p.syms.find? (fun x => x.id == id))).any (fun x => x.typ != y.typ) then 0x2306
      else if 1024 ≤ s.chg.forces.length ∧ !s.chg.forces.any (fun f => f.id == id) then 0x230D else 0

/-- Clearing by a restart (R192). -/
def clearForces (s : State) : State :=
  if s.chg.forces.isEmpty then s else chgPost 0x0328 [] { s with chg := { s.chg with forces := [] } }

-- commands -----------------------------------------------------------------------------------------------------------------------------------

/-- 100 ms or one hyperperiod of MEASURING are over (R177, R178). -/
def measuringEnd (s : State) : State :=
  if s.chg.st ≠ .measuring ∨ s.pair.role ≠ .active then s
  else
    let e := s.chg.measured
    let s := { s with chg := { s.chg with estimate := BitVec.ofNat 32 e } }
    let refuse (c : Nat) : State := endChange .refused c (if s.chg.pair then sendKindle 8 0 c 0 [] s else s)
    if 1024 < e then refuse 0x2307
    else if swapHurts s then refuse 0x230A
    else
      let s := trackOn (chgPost 0x0320 (le4 e) { s with chg := { s.chg with st := .precopy, passed := false } })
      if s.chg.pair then sendKindle 3 0 0 0 [] s else s

/-- A round of pre-copy ends (R179, R180): what was dirty is migrated; on the active READY follows when what is dirty again is small. -/
def precopyRound (s : State) : State :=
  match s.run.prog, s.chg.new with
  | some old, some new =>
    if s.chg.st ≠ .precopy ∧ s.chg.st ≠ .ready ∧ ¬ (s.chg.st = .swap ∧ !s.chg.quiesced) then s
    else
      let ps := dirtyPages s
      let touched (e : Mig) : Bool := !s.chg.passed || !(newPages old { new with migs := [e] } ps).isEmpty
      let m := (new.migs.filter touched).foldl (fun m e => migrate old new e m)
        (if s.chg.passed then s.mem else writeBytes s.mem new.dataBase (fit new.dataLen new.init))
      let w := deltaNow s
      let s := takeDirty { s with mem := m, chg := { s.chg with passed := true, remain := BitVec.ofNat 32 w } }
      if s.pair.role = .active ∧ s.chg.st = .precopy ∧ w ≤ s.chg.estimate.toNat then
        announceSwap (chgPost 0x0322 [] { s with chg := { s.chg with st := .ready } })
      else if s.pair.role = .active ∧ s.chg.st = .ready ∧ !s.chg.goSent then announceSwap s
      else s
  | _, _ => s

-- KINDLE frames (R187) ------------------------------------------------------------------------------------------------------------------------

/-- DATA at the standby: the image grows; complete, it is checked, loaded and reported. -/
def onKindleData (p : KindleP) (s : State) : State :=
  if s.pair.role ≠ .standby then s
  else
    let old := if p.arg = 0 then [] else s.chg.image
    let s := { s with chg := { s.chg with
      st := .loading, image := overlay old p.arg.toNat p.data, new := none, loadedOwn := none, goSent := false, goAcked := false
      closed := false, quiesced := false, copied := false, doneR := none, reopen := none, passed := false } }
    if s.chg.image.length < 64 ∨ s.chg.image.length ≠ kindleLen s.chg.image then s
    else
      let r := loadCheck s.chg.image s
      let s := if r = 0 then placeNew s.chg.image s else s
      let s := sendKindle 2 0 r 0 [] { s with chg := { s.chg with loadedOwn := some r } }
      if r = 0 then s else endChange .refused r s

/-- LOADED at the active. -/
def onKindleLoaded (p : KindleP) (s : State) : State :=
  if s.pair.role = .active ∧ s.chg.pair then loadingDone { s with chg := { s.chg with loadedPeer := some p.arg.toNat } } else s

/-- START at the standby: PRECOPY. -/
def onKindleStart (_ : KindleP) (s : State) : State :=
  if s.pair.role = .standby ∧ s.chg.st = .loading ∧ s.chg.loadedOwn = some 0 then
    trackOn { s with chg := { s.chg with st := .precopy, passed := false } }
  else s

/-- GO at the standby (R181): answered once it holds the image and is in PRECOPY or READY. -/
def onKindleGo (p : KindleP) (s : State) : State :=
  if s.pair.role = .standby ∧ s.chg.new.isSome ∧ (s.chg.st = .precopy ∨ s.chg.st = .ready) then
    sendKindle 5 0 p.arg.toNat 0 [] { s with chg := { s.chg with st := .ready, swapBeat := p.arg, goSent := true, goAcked := true } }
  else s

/-- GO-ACK at the active. -/
def onKindleGoAck (p : KindleP) (s : State) : State :=
  if s.pair.role = .active ∧ s.chg.st = .ready ∧ s.chg.goSent ∧ p.arg = s.chg.swapBeat then { s with chg := { s.chg with goAcked := true } } else s

/-- NOGO at the standby: it keeps its enables. -/
def onKindleNogo (_ : KindleP) (s : State) : State :=
  if s.pair.role = .standby ∧ s.chg.st = .ready then { s with chg := { s.chg with goSent := false, goAcked := false } } else s

/-- DONE at the standby (R182, R183): POSTPONED restores the masks, else R is named. Masks that it can no longer restore for that boundary, or a
swap that it has completed, take it into RESYNC (R184). -/
def onKindleDone (p : KindleP) (s : State) : State :=
  if s.pair.role ≠ .standby ∨ (s.chg.st ≠ .swap ∧ s.chg.st ≠ .ready) then s
  else if bit p.flags 0 then
    if s.chg.copied ∨ p.arg.toNat ≤ s.cyc.beat.toNat then swapMissed s else trackOn (if s.chg.closed then restoreMasks s else s)
  else
    let s := { s with chg := { s.chg with doneR := some p.arg.toNat } }
    if s.chg.copied then reopenNext (some p.arg.toNat) s else s

/-- ABANDON at the standby. -/
def onKindleAbandon (p : KindleP) (s : State) : State :=
  if s.pair.role = .standby ∧ !changeIdle s then endChange .abandoned p.arg.toNat s else s

/-- A KINDLE frame by its OP. -/
def onKindle (p : KindleP) (s : State) : State :=
  match p.op with
  | 1 => onKindleData p s
  | 2 => onKindleLoaded p s
  | 3 => onKindleStart p s
  | 4 => onKindleGo p s
  | 5 => onKindleGoAck p s
  | 6 => onKindleNogo p s
  | 7 => onKindleDone p s
  | 8 => onKindleAbandon p s
  | _ => s

/-- KINDLE_DATA (R194). -/
def kindleData (v : List Byte) (s : State) : State × Nat :=
  if changeIdle s then ({ s with chg := { s.chg with image := v } }, 0) else (s, 0x2204)

/-- FORCE_PERSIST of 0x1361.05. -/
def forcePersist (s : State) : Bool := cfgNum s 0x1361 5 != 0

def execMeasuringEnd (s : State) : Host.Outcome State Fault Refusal := finish (if runtimeLive s then measuringEnd s else s)
def execPrecopyRoundEnd (s : State) : Host.Outcome State Fault Refusal := finish (if runtimeLive s then precopyRound s else s)

/-- The answer has not arrived by boundary S − 2 (R181): NOGO, and a later S. -/
def execGoAckTimeout (s : State) : Host.Outcome State Fault Refusal :=
  finish <|
  if runtimeLive s ∧ s.pair.role = .active ∧ s.chg.st = .ready ∧ s.chg.goSent ∧ !s.chg.goAcked then
    announceSwap (sendKindle 6 0 s.chg.swapBeat.toNat 0 [] { s with chg := { s.chg with goSent := false } })
  else s

def execSwapCopyDone (s : State) : Host.Outcome State Fault Refusal := finish (if runtimeLive s then swapCopyDone s else s)

end Sys2Proof.Machine
end

