-- ==== Sys2Proof/Machine/FolOps.lean ====
section
/-!
DEFINITION. Operations of Folmonet that its commands share (06): ends of a segment, frames that leave them, the station table, the
acceptance of an INPUT, epochs heard at a port, probes and configuration writes, segment states, emission of OUTPUT frames.
-/

namespace Sys2Proof.Machine

-- ports and ends (R196, R199) --------------------------------------------------------------------------------------------

def portOf (s : State) (n : Nat) : Port := s.fol.ports.getD n {}
def setPort (n : Nat) (f : Port → Port) (s : State) : State := { s with fol := { s.fol with ports := modAt s.fol.ports n f } }
def setCnt (n : Nat) (f : PortCnt → PortCnt) (s : State) : State := { s with fol := { s.fol with cnts := modAt s.fol.cnts n f } }
def segOf (s : State) (n : Nat) : Seg := s.fol.segs.getD n {}
def setSeg (n : Nat) (f : Seg → Seg) (s : State) : State := { s with fol := { s.fol with segs := modAt s.fol.segs n f } }

/-- Interrupt bit of port `n` and its source 68 + n (R231). -/
def fptInt (n b : Nat) (s : State) : State :=
  let p := portOf s n
  let st := setBit p.intStatus b
  ringIf (rings p.intStatus st p.intMask) (68 + n) (setPort n (fun p => { p with intStatus := st }) s)

/-- The block of port `n`. -/
def fptBlock (n : Nat) : Byte := BitVec.ofNat 8 (0x42 + n)
def fptPost (n code : Nat) (data : List Byte) (s : State) : State := post code (fptBlock n) data s

/-- The end of each segment that this module terminates (R47, R196). -/
def myEnd (s : State) : Option Nat :=
  match mySlot s with
  | .a => some 0
  | .b => some 1
  | .c => none

/-- Port `n` may be used (R197, R13). -/
def portUp (s : State) (n : Nat) : Bool := (portOf s n).up && !isolated s (fptBlock n) && (myEnd s).isSome

/-- The transmitter of the field ports is not gated (R25, R48, R351, R433, R466). -/
def maySendFol (s : State) : Bool :=
  rickFull s && !s.sup.failSilent && s.pair.role != .clockHold && s.pair.role != .reserve && !slotErr s && !s.hw.powerDown

/-- The partner's end is in use (R199): the partner of slots A and B is STANDBY and can be reached. No frame tells whether its port is
up: it is taken as up (log 37). -/
def farUsed (s : State) : Bool :=
  s.pair.role == .active && (myEnd s).isSome && seenIn s .standby (partnerSlot (mySlot s)) && !(lanesFor s (some (partnerSlot (mySlot s)))).isEmpty

/-- Ends of segment `n` in use on the active, its own first. -/
def endsInUse (s : State) (n : Nat) : List Nat :=
  match myEnd s with
  | none => []
  | some e => (if portUp s n then [e] else []) ++ (if farUsed s then [1 - e] else [])

-- bus cycle (R139, R205) ---------------------------------------------------------------------------------------------------

def segReg (s : State) (n : Nat) : Word := s.run.segs.getD n 7
/-- Bus cycle of segment `n` in ns; 0 where it has none. -/
def cycleNs (s : State) (n : Nat) : Nat := segBeats (segReg s n) * 250000
/-- Boundary `b` starts a bus cycle of segment `n` (R139, CYC_SEGn). -/
def segStartDue (s : State) (n b : Nat) : Bool :=
  let p := segBeats (segReg s n)
  decide (0 < p) && (b + p - fld (segReg s n) 8 8 % max 1 p) % max 1 p == 0
/-- Time since the start of the bus cycle in progress. -/
def cycleT (s : State) (n : Nat) : Nat :=
  match (segOf s n).start with
  | some b => (s.cyc.beat.toNat - b) * 250000 + (s.now - s.cyc.beatAt)
  | none => s.now - s.cyc.beatAt
def writeMarkNs (s : State) (n : Nat) : Nat := fld (portOf s n).marks 32 32
def readMarkNs (s : State) (n : Nat) : Nat := fld (portOf s n).marks 0 32
def windowOpen (s : State) (n : Nat) : Nat := writeMarkNs s n + fld (portOf s n).svc 0 16 * 1000
def windowEnd (s : State) (n : Nat) : Nat := cycleNs s n - fld (portOf s n).svc 16 16 * 1000
/-- RELAY_LEAD in ns (R213, FPT_CFG). -/
def relayLead (s : State) (n : Nat) : Nat := max 10 (min 100 (fld (portOf s n).cfg 16 16)) * 1000
/-- Stamp of the bus cycle in progress; before the first one, of the present beat. -/
def stampOf (s : State) (n : Nat) : Word := BitVec.ofNat 32 ((segOf s n).start.getD s.cyc.beat.toNat)

-- frames that leave (R202, R48) ----------------------------------------------------------------------------------------------

def folFrame (s : State) (n end_ : Nat) (stamp : Word) (flags station : Nat) (body : FolBody) : FolFrame :=
  { hdr := { typ := BitVec.ofNat 8 (folType body), seg := n, flags := BitVec.ofNat 8 (flags + end_ % 2 + 2 * b2n s.mnt.comm), stamp := stamp
             epoch := s.pair.epoch, station := station, hops := 0 }
    body := body }

/-- A frame on its way out of the module's own port, through the port's rule (R535). -/
def portSend (n : Nat) (f : FolFrame) (s : State) : State :=
  if !maySendFol s || !portUp s n || (portOf s n).txdis then s
  else
    let (m, fs) := fijFolTx s.mnt s.now n f
    setPort n (fun p => { p with out := p.out ++ fs }) { s with mnt := m }

/-- RELAY entries in Flue payloads of at most 1,480 bytes, whole entries only (R121). -/
def relayChunks : List RelayE → List RelayE → Nat → List (List RelayE)
  | [], [], _ => []
  | [], acc, _ => [acc]
  | e :: es, acc, n =>
    let k := 8 + e.frame.length
    if 1480 < n + k ∧ !acc.isEmpty then acc :: relayChunks es [e] k else relayChunks es (acc ++ [e]) (n + k)

def sendRelays (es : List RelayE) (s : State) : State :=
  (relayChunks es [] 0).foldl (fun s c => sendFlue (some (partnerSlot (mySlot s))) (.relayOut c) s) s

/-- A RELAY-OUT entry: `toff` in ns after the boundary that the frame's stamp names. -/
def relayEntry (s : State) (n toff : Nat) (isCs : Bool) (f : FolFrame) : RelayE :=
  { port := n, flags := BitVec.ofNat 8 (b2n isCs), toff := BitVec.ofNat 32 toff, frame := folBytes (slotNo (partnerSlot (mySlot s))) f }

/-- A frame that the active sends from an end of the segment: its own port, or a RELAY-OUT entry `RELAY_LEAD` ahead (R213). -/
def endSend (n end_ : Nat) (f : FolFrame) (s : State) : State :=
  if myEnd s = some end_ then portSend n f s else sendRelays [relayEntry s n (cycleT s n + relayLead s n) false f] s

/-- SERVICE, TIME and WAKE frames: in a RUNNING segment only inside the service window (R205). -/
def windowSend (n end_ : Nat) (f : FolFrame) (s : State) : State :=
  if (segOf s n).st ≠ .running then endSend n end_ f s
  else if myEnd s = some end_ then setPort n (fun p => { p with waiting := p.waiting ++ [f] }) s
  else
    let t := cycleT s n + relayLead s n
    let f' := if t ≤ windowEnd s n then f else { f with hdr := { f.hdr with stamp := f.hdr.stamp + BitVec.ofNat 32 (segBeats (segReg s n)) } }
    sendRelays [relayEntry s n (if t ≤ windowEnd s n then max t (windowOpen s n) else windowOpen s n) false f'] s

/-- A SERVICE frame of the active toward a station, with a transaction number of its own. -/
def svcToStation (n end_ station : Nat) (op : Byte) (index sub : Nat) (data : List Byte) (s : State) : State :=
  let m : SvcMsg := { op := op, tid := s.fol.tid, index := BitVec.ofNat 16 index, sub := BitVec.ofNat 8 sub, sflags := 0, session := 0, arg := 0, data := data }
  windowSend n end_ (folFrame s n end_ (stampOf s n) 0 station (.service m)) { s with fol := { s.fol with tid := s.fol.tid + 1 } }

/-- The CYCLE-START frame of segment `n` for boundary `b`, whose TIME is `t` (R202). -/
def cycleStart (s : State) (n end_ b : Nat) (t : DWord) : FolFrame :=
  folFrame s n end_ (BitVec.ofNat 32 b) 0 0xFFFF (.cycleStart
    { read := BitVec.ofNat 32 (readMarkNs s n), write := BitVec.ofNat 32 (writeMarkNs s n), beatTime := t
      period := BitVec.ofNat 8 (fld (segReg s n) 0 3)
      csflags := BitVec.ofNat 8 (b2n (s.cyc.pstate != .running) + 2 * b2n ((segOf s n).csEpoch != s.pair.epoch))
      svcOpen := BitVec.ofNat 16 (windowOpen s n / 1000), svcClose := BitVec.ofNat 16 (windowEnd s n / 1000), cfgid := (portOf s n).cfgid })

/-- The far end's CYCLE-START frames of the next boundary leave as RELAY-OUT entries ahead of it (R122, R204). -/
def relayCycleStarts (s : State) : State :=
  if !farUsed s then s
  else
    let b := s.cyc.beat.toNat + 1
    let e := 1 - (myEnd s).getD 0
    sendRelays (((List.range 4).filter (fun n => (segOf s n).st == .running && segStartDue s n b)).map
      (fun n => relayEntry s n 0 true (cycleStart s n e b (s.cyc.beatTime + 250000)))) s

-- station table (R217, R219, R226, R227) ---------------------------------------------------------------------------------------

def stationAddr (x : Nat) : Nat := 0x01150000 + 0x20 * x
def statusAddr (x : Nat) : Nat := 0x01160000 + 0x10 * x

/-- A station table entry as its 32 bytes have it. -/
def readStation (m : Memory) (x : Nat) : StCfg :=
  let w (o n : Nat) : Nat := readLe m (stationAddr x + o) n
  { flags := BitVec.ofNat 8 (w 0 1), seg := w 1 1, pos := w 2 2, inOff := w 4 4, inLen := w 8 2, outLen := w 10 2, outOff := w 12 4
    qOff := w 16 4, inSlot := w 20 4, subCnt := w 24 1, ioTask := w 25 1, outTask := w 26 1, typeId := BitVec.ofNat 32 (w 28 4) }

/-- Enabled stations of segment `n` in the table. -/
def tableOf (m : Memory) (n : Nat) : List (Nat × StCfg) :=
  (List.range 2048).filterMap (fun x =>
    let c := readStation m x
    if bit c.flags 0 && c.seg == n then some (x, c) else none)

/-- The working copy taken at START (R219). -/
def loadStations (n : Nat) (s : State) : State :=
  { s with fol := { s.fol with
      stations := s.fol.stations.filter (fun x => x.cfg.seg != n) ++ (tableOf s.mem n).map (fun e => { no := e.1, cfg := e.2 }) } }

def stationOf (s : State) (x : Nat) : Option Station := s.fol.stations.find? (fun y => y.no == x)
def stationsOn (s : State) (n : Nat) : List Station := s.fol.stations.filter (fun x => x.cfg.seg == n)

def stNo : StSt → Nat
  | .absent => 0
  | .configuring => 1
  | .present => 2
  | .mismatch => 3

/-- The status table entry of a station (R227). -/
def statusEntry (x : Station) : List Byte :=
  le4 x.lastStamp.toNat ++ le4 x.filter.toNat ++ le4 x.gate.toNat ++ le2 x.status.toNat ++ u8 (stNo x.st) ++ u8 x.endNow

/-- A station changes: the working copy and the status table in image SRAM. -/
def putStation (x : Station) (s : State) : State :=
  { s with
    fol := { s.fol with stations := s.fol.stations.map (fun y => if y.no = x.no then x else y) }
    mem := writeBytes s.mem (statusAddr x.no) (statusEntry x) }

/-- Quality byte (R212). -/
def qualityByte (epoch : Word) (x : Station) : Byte :=
  pack 8 [(0, b2n (!x.got)), (1, b2n (decide (max 1 x.cfg.subCnt ≤ x.noData) || bit x.status 3)), (2, b2n (bit x.status 1)),
    (3, b2n (bit x.status 2)), (4, b2n (bit x.status 4 || decide (epoch.toNat < x.gate.toNat))),
    (5, b2n (x.st == .configuring || x.st == .mismatch))]

/-- The quality byte written into the receive copy. -/
def putQuality (x : Station) (s : State) : State :=
  let q := qualityByte s.pair.epoch x
  let s := putStation { x with quality := q } s
  { s with mem := writeByte s.mem (rxBase + x.cfg.qOff) q }

/-- The end that serves a station (R226). -/
def servingEnd (x : Station) : Nat := b2n (bit x.cfg.flags 3)

/-- An end to reach a station: where its INPUT came in this cycle, else its serving end while that is in use, else the other (R213). -/
def endFor (s : State) (x : Station) : Option Nat :=
  let es := endsInUse s x.cfg.seg
  if x.got && es.contains x.endNow then some x.endNow
  else if es.contains (servingEnd x) then some (servingEnd x)
  else es.head?

/-- Object index of station `x` (R229). -/
def stationIdx (x off : Nat) : Nat := 0x2000 + 8 * x + off

/-- A SERVICE write to a station for which its answer is awaited. -/
def stationWrite (x : Nat) (index sub : Nat) (data : List Byte) (s : State) : State :=
  match stationOf s x with
  | none => s
  | some y => match endFor s y with
    | none => s
    | some e =>
      let t := s.fol.tid
      svcToStation y.cfg.seg e x 2 index sub data (putStation { y with unacked := y.unacked ++ [t], windows := 3 } s)

/-- CONFIGURING (R217): SUBST_COUNT, substitute values, gated mask and CFGID are written to the station. -/
def configure (x : Station) (s : State) : State :=
  let n := x.cfg.seg
  let s := putQuality { x with st := .configuring, unacked := [] } s
  let s := stationWrite x.no (stationIdx x.no 1) 1 (u8 x.cfg.subCnt) s
  let s := stationWrite x.no (stationIdx x.no 4) 1 (cfgVal s (stationIdx x.no 4) 1) s
  let s := stationWrite x.no (stationIdx x.no 5) 1 (cfgVal s (stationIdx x.no 5) 1) s
  stationWrite x.no (0x1201 + n) 9 (be4 (portOf s n).cfgid.toNat) s

/-- A station becomes PRESENT, or ABSENT, or MISMATCH, with its event and interrupt. -/
def becomePresent (x : Station) (s : State) : State := fptPost x.cfg.seg 0x0403 [] (fptInt x.cfg.seg 2 (putStation { x with st := .present } s))
def becomeAbsent (x : Station) (s : State) : State :=
  putQuality { x with st := .absent, cDrop := if x.st = .present then satInc x.cDrop else x.cDrop, unacked := [] } s
def becomeMismatch (x : Station) (s : State) : State :=
  fptPost x.cfg.seg 0x0409 [] (fptInt x.cfg.seg 6 (putQuality { x with st := .mismatch } s))

-- epochs heard at a port (R50, R51, R54, R63, R64) ---------------------------------------------------------------------------------

/-- A start window in which a station's epoch lies above the module's (R63): a new epoch, event 0x0105, a claim message with reason 4. -/
def raiseEpoch (reason : Nat) (s : State) : State :=
  if epochExhausted s then post 0x010A 0x4B [] s
  else
    let s := post 0x0105 0x4B [] (takeEpoch (nextEpoch s) reason (goodStanding s) s)
    { s with fol := { s.fol with segs := s.fol.segs.map (fun g =>
        { g with window := g.window.map (fun w => { w with raise := s.cyc.beat.toNat, raised := true }) }) } }

/-- A higher epoch that is not a claim's (R54, R64): it fences ACTIVE and STANDBY; OFFLINE, RESERVE, UPDATE and CLOCK-HOLD adopt it. -/
def higherEpoch (e : Word) (path : Nat) (sender : List Byte) (s : State) : State :=
  if e.toNat ≤ s.pair.epoch.toNat then s
  else match s.pair.role with
    | .active => fence e path sender s
    | .standby => fence e path sender s
    | .fenced => s
    | _ => adoptEpoch e s

/-- A frame or report with the epoch 0xFFFF_FFFF (R50). -/
def topEpoch (n : Nat) (s : State) : State := post 0x010A 0x4B [] (setCnt n (fun c => { c with crcErr := satInc c.crcErr }) s)

/-- Epochs of a station frame that came in on segment `n`: recorded, raised in a start window, else acted on (R51, R63, R64). Whether the
frame is used: not one with the top epoch. -/
def stationEpochs (n station : Nat) (e gate : Word) (path : Nat) (s : State) : State × Bool :=
  if e = 0xFFFFFFFF ∨ gate = 0xFFFFFFFF then (topEpoch n s, false)
  else
    let s := noteStationEpoch gate (noteStationEpoch e s)
    let win := s.pair.role == .active && (segOf s n).window.isSome
    if win then
      (if s.pair.epoch.toNat < (maxW e gate).toNat then raiseEpoch 4 s else s, true)
    else (higherEpoch e path (le2 station) s, true)

-- acceptance of an INPUT (R211, R212, R217) ---------------------------------------------------------------------------------------

/-- The I/O task's latch of the present bus cycle has passed. -/
def pastLatch (s : State) (x : Station) : Bool :=
  let d := (taskOf s x.cfg.ioTask).desc
  x.cfg.ioTask < 16 && d.kind == 0 && startDue d ((segOf s x.cfg.seg).start.getD 0) && decide (d.latch * 1000 < cycleT s x.cfg.seg)

/-- Reports of an accepted INPUT (R230). -/
def inputReports (old new : Station) (s : State) : State :=
  let n := new.cfg.seg
  let s := if bit new.status 3 && !bit old.status 3 then fptPost n 0x0404 [] s else s
  let s := if bit new.status 4 then fptPost n 0x040A [] (fptInt n 5 s) else s
  if s.pair.epoch.toNat < new.gate.toNat ∧ new.gate ≠ old.gate ∧ (segOf s n).window.isNone then fptPost n 0x040C [] (fptInt n 5 s) else s

/-- Data and quality byte in the receive copy. -/
def putInput (x : Station) (p : InputP) (s : State) : State :=
  putQuality x { s with mem := writeBytes s.mem (rxBase + x.cfg.inOff) (fit x.cfg.inLen p.data) }

/-- An INPUT of station frame `h` that came in at `end_` of segment `n`. `lead`: the active, which keeps the stations' states; a standby
only captures (R74). -/
def acceptInput (n end_ : Nat) (lead : Bool) (h : FolHdr) (p : InputP) (s : State) : State :=
  match stationOf s h.station with
  | none => s
  | some x =>
    if x.cfg.seg ≠ n then s
    else if (segOf s n).start.isNone ∨ h.stamp ≠ stampOf s n ∨ pastLatch s x then setCnt n (fun c => { c with stampDisc := satInc c.stampDisc }) s
    else if x.got then s
    else
      let y := { x with
        got := true, noData := 0, lastStamp := h.stamp, filter := h.epoch, gate := p.gateEpoch, status := p.status, refusals := p.refusals
        cRefuse := satAdd x.cRefuse (p.refusals - x.refusals).toNat, endNow := end_
        cEnd := if x.endNow = end_ then x.cEnd else satInc x.cEnd }
      let mism := bit p.status 5
      if !lead then (if mism then putQuality y s else putInput { y with st := .present } p s)
      else
        let s := match x.st with
          | .present =>
            if mism then configure y (fptPost n 0x0409 [] (fptInt n 6 s)) else putInput y p s
          | .absent => if mism then putQuality y s else putInput { y with st := .present } p (becomePresent y s)
          | _ => putQuality y s
        inputReports x y s

/-- A frame's INPUT on the module: the active takes it, the standby captures it and passes it on (R74, R215). -/
def rxInput (n : Nat) (end_ path : Nat) (own : Bool) (h : FolHdr) (p : InputP) (s : State) : State :=
  let (s, ok) := stationEpochs n h.station h.epoch p.gateEpoch path s
  if !ok then s
  else match s.pair.role with
    | .active => acceptInput n end_ true h p s
    | .standby => if own then acceptInput n end_ false h p s else s
    | _ => s

-- RELAY-IN (R122, R215) ----------------------------------------------------------------------------------------------------------

/-- An INPUT or SERVICE frame received by a standby goes to the active: TOFF is the receive time after the latest boundary. -/
def relayIn (n : Nat) (f : FolFrame) (s : State) : State :=
  if s.pair.role ≠ .standby then s
  else
    let late := decide (writeMarkNs s n < cycleT s n)
    sendTwin (.relayIn [{ port := n, flags := BitVec.ofNat 8 (2 * b2n late), toff := BitVec.ofNat 32 (s.now - s.cyc.beatAt)
                          frame := folBytes (slotNo (mySlot s)) f }]) s

-- probes (R217) ---------------------------------------------------------------------------------------------------------------------

def probe (x : Station) (e : Nat) (s : State) : State := svcToStation x.cfg.seg e x.no 6 0 0 [] s

/-- A PROBE-RESP at the active (R217): the delay of the end that was probed, and the station's state. -/
def probeAnswer (n station end_ : Nat) (epoch : Word) (roundTrip turnaround : Nat) (typeid : Word) (path : Nat) (s : State) : State :=
  let (s, ok) := stationEpochs n station epoch 0 path s
  if !ok || s.pair.role != .active then s
  else match stationOf s station with
    | none => s
    | some x =>
      if x.cfg.seg ≠ n then s
      else
        let d : Word := BitVec.ofNat 32 ((roundTrip - turnaround) / 2)
        let old := if end_ = 0 then x.delayA else x.delayB
        let y := { x with filter := epoch, delayA := if end_ = 0 then d else x.delayA, delayB := if end_ = 1 then d else x.delayB }
        let s := putStation y s
        let s := match x.st with
          | .absent => if typeid = x.cfg.typeId then configure y s else becomeMismatch y s
          | .mismatch => if typeid = x.cfg.typeId then configure y s else s
          | _ => s
        if d = old then s else stationWrite station (stationIdx station 1) (2 + end_) (be4 d.toNat) s

/-- A station's WRITE-RESP (R217, R220): configuration writes acknowledged, or a GATE_RESET answered, which gives its activity back. -/
def writeAnswer (n station : Nat) (epoch : Word) (tid : Byte) (code path : Nat) (s : State) : State :=
  let (s, ok) := stationEpochs n station epoch 0 path s
  if !ok || s.pair.role != .active then s
  else
    let s := match s.fol.gateRsts.find? (fun g => g.station == station && g.tid == tid) with
      | none => s
      | some g =>
        let s := { s with fol := { s.fol with gateRsts := s.fol.gateRsts.erase g } }
        let s := if code = 0 then fptPost n 0x040E [] s else s
        let s := match g.client with
          | none => s
          | some c => if code = 0 then respond c 4 0 [] s else respond c 5 code [] s
        let s := match g.forward with
          | none => s
          | some w => sendTwin (.objWrite { op := 5, txn := w, beat := 0, arg := BitVec.ofNat 32 code, entries := [] }) s
        releaseToken (fun h => h.code == 10 && h.arg == station) s
    match stationOf s station with
    | none => s
    | some x =>
      if code ≠ 0 ∨ !x.unacked.contains tid then s
      else
        let y := { x with unacked := x.unacked.erase tid }
        if y.unacked.isEmpty ∧ y.st = .configuring then becomePresent y s else putStation y s

-- segment states (R218) ----------------------------------------------------------------------------------------------------------------

/-- The checks of Belaux's limits on the station table (R203, R205, R224, R62, R143); R225 is Belaux's own reckoning (log 38). -/
def segmentChecks (s : State) (n : Nat) : Bool :=
  let xs := tableOf s.mem n
  let gated := ((List.range 2048).map (fun x =>
    if bit (readStation s.mem x).flags 1 && bit (readStation s.mem x).flags 0 then popcount (BitVec.ofNat 64 (leNat (cfgVal s (stationIdx x 5) 1))) else 0)).sum
  decide (xs.length ≤ 512) && decide (0 < cycleNs s n) &&
    decide (readMarkNs s n + 10000 ≤ writeMarkNs s n) && decide (writeMarkNs s n + 10000 ≤ cycleNs s n) && decide (gated ≤ 256) &&
    xs.all (fun e => decide (1 ≤ e.2.pos ∧ e.2.pos ≤ 512 ∧ e.2.inLen ≤ 1464 ∧ e.2.outLen ≤ 1464 ∧ 1 ≤ e.2.subCnt ∧ e.2.subCnt ≤ 15) &&
      decide (e.2.inOff + e.2.inLen ≤ 0x40000 ∧ e.2.outOff + e.2.outLen ≤ 0x40000 ∧ e.2.qOff < 0x40000))

/-- The hyperperiod as the engine reports it (R140). -/
def noteHyper (s : State) : State := { s with cyc := { s.cyc with hyper := hyperOf s } }

/-- WAKE to all stations from each end in use (R218). -/
def wakeAll (n : Nat) (s : State) : State :=
  if !bit (portOf s n).cfg 2 then s
  else (endsInUse s n).foldl (fun s e => endSend n e (folFrame s n e (stampOf s n) 0 0xFFFF (.wake 0xFFFF 1)) s) s

/-- SEG_CMD (R218, R228): 1 START, 2 STOP, 3 REPROBE; 0 or the abort code. -/
def segCommand (n cmd session : Nat) (s : State) : State × Nat :=
  let g := segOf s n
  let h := ownHolder s 4 n session
  if s.pair.role ≠ .active then (s, 0x2203)
  else match cmd with
    | 1 =>
      if g.st ≠ .stopped then (s, 0x2405)
      else if !segmentChecks s n then (s, 0x2404)
      else if !tokenFree s h then (tokenBusy h s, 0x2901)
      else
        let s := loadStations n (takeToken h s)
        (wakeAll n (fptPost n 0x0400 [] (setSeg n (fun g => { g with st := .probing, since := s.now, start := none, window := none }) s)), 0)
    | 2 =>
      if g.st = .stopped then (s, 0x2405)
      else if !tokenFree s h then (tokenBusy h s, 0x2901)
      else
        let s := takeToken h s
        let s := (stationsOn s n).foldl (fun s x => becomeAbsent { x with st := .absent } s) s
        let s := setSeg n (fun g => { g with st := .stopped, start := none, window := none }) s
        let s := setPort n (fun p => { p with waiting := [] }) s
        (releaseToken (fun x => x.code == 4 && x.arg == n) (noteHyper (fptPost n 0x0401 [] (fptInt n 0 s))), 0)
    | 3 => ((stationsOn s n).foldl (fun s x => (endsInUse s n).foldl (fun s e => probe x e s) s) s, 0)
    | _ => (s, 0x0609)

/-- PROBING ends (R218): RUNNING, the command is finished and gives the token back. -/
def segRunning (n : Nat) (s : State) : State :=
  if (segOf s n).st ≠ .probing ∨ s.pair.role ≠ .active then s
  else
    let s := noteHyper (setSeg n (fun g => { g with st := .running }) s)
    relayCycleStarts (releaseToken (fun x => x.code == 4 && x.arg == n) (fptInt n 0 s))

-- a segment's start boundary (R204, R212, R214) ---------------------------------------------------------------------------------------

/-- A station at a start boundary: the cycle that ended without an accepted INPUT counts, NODATA is set (R212). -/
def stationBoundary (had : Bool) (s : State) (x : Station) : State :=
  let miss := had && !x.got
  let s := if miss then setCnt x.cfg.seg (fun c => { c with noInput := satInc c.noInput }) s else s
  putQuality { x with
    noData := if miss then x.noData + 1 else x.noData, cNoInput := if miss then satInc x.cNoInput else x.cNoInput, got := false, sent := false
    windows := x.windows - 1 } s

/-- The start boundary of segment `n` at the present beat, without its frame. -/
def segBoundary (n : Nat) (s : State) : State :=
  let had := (segOf s n).start.isSome
  let flipped := ((stationsOn s n).filter (fun x => x.got && x.endNow != servingEnd x)).length
  let s := setPort n (fun p => { p with through := p.through <<< 1, flipped := flipped }) s
  let s := (stationsOn s n).foldl (stationBoundary had) s
  setSeg n (fun g => { g with
    start := some s.cyc.beat.toNat
    window := g.window.map (fun w => { w with firstCs := some (w.firstCs.getD s.cyc.beat.toNat), raised := false }) }) s

/-- The CYCLE-START of the module's own end (R204); with the far end alone in use its relayed copy is the cycle's (NEWEPOCH, R202). -/
def emitCycleStart (n : Nat) (s : State) : State :=
  match myEnd s with
  | none => s
  | some e =>
    if s.pair.role ≠ .active then s
    else if !portUp s n then (if farUsed s then setSeg n (fun g => { g with csEpoch := s.pair.epoch }) s else s)
    else
      let s := portSend n (cycleStart s n e s.cyc.beat.toNat s.cyc.beatTime) s
      setPort n (fun p => { p with cstx := s.tim.time }) (setSeg n (fun g => { g with csEpoch := s.pair.epoch }) s)

-- emission of OUTPUT frames (R158, R213, R73) -----------------------------------------------------------------------------------------

/-- A station's OUTPUT frame: data from the emit copy or from the substitute image. -/
def outputFrame (s : State) (x : Station) (end_ flags oflags : Nat) : FolFrame :=
  let src := (if oflags % 2 = 1 then substBase else emBase) + x.cfg.outOff
  folFrame s x.cfg.seg end_ (stampOf s x.cfg.seg) flags x.no (.output
    { task := x.cfg.outTask, oflags := BitVec.ofNat 8 oflags, inst := ((taskOf s x.cfg.outTask).comInst).setWidth 32
      data := readBytes s.mem src x.cfg.outLen })

/-- Falling distance from an end (R213). -/
def byDistance (end_ : Nat) (xs : List Station) : List Station :=
  xs.mergeSort (fun a b => if end_ = 0 then b.cfg.pos ≤ a.cfg.pos else a.cfg.pos ≤ b.cfg.pos)

/-- The stations' OUTPUT frames leave segment `n`, at each end in falling distance; far-end ones as RELAY-OUT entries. -/
def emitStations (n flags oflags : Nat) (xs : List Station) (s : State) : State :=
  let at_ (e : Nat) : List Station := byDistance e (xs.filter (fun x => endFor s x == some e && decide (0 < x.cfg.outLen)))
  match myEnd s with
  | none => s
  | some e =>
    let s := (at_ e).foldl (fun s x => portSend n (outputFrame s x e flags oflags) s) s
    let s := if (at_ (1 - e)).isEmpty then s
      else sendRelays ((at_ (1 - e)).map (fun x => relayEntry s n (cycleT s n + relayLead s n) false (outputFrame s x (1 - e) flags oflags))) s
    (at_ e ++ at_ (1 - e)).foldl
      (fun s x => putStation { x with sent := true, sentCom := some (taskOf s x.cfg.outTask).comInst } s) s

/-- Stations that take part: PRESENT, on a RUNNING segment whose start window is closed (R63, R217). -/
def takePart (s : State) (n : Nat) : List Station :=
  if (segOf s n).st = .running ∧ (segOf s n).window.isNone ∧ (segOf s n).start.isSome then (stationsOn s n).filter (fun x => x.st == .present) else []

/-- Phase 6 of a task that committed by its deadline (R158): the stations whose I/O task it is and whose outputs it owns. -/
def emitCommit (t : Nat) (s : State) : State :=
  if s.pair.role ≠ .active ∨ (s.cyc.pstate ≠ .running ∧ s.cyc.pstate ≠ .starting) then s
  else (List.range 4).foldl
    (fun s n => emitStations n 0 0 ((takePart s n).filter (fun x => x.cfg.ioTask == t && !bit x.cfg.flags 2 && !x.sent)) s) s

/-- EMITOFF of segment `n` (R158, R163, R165). -/
def emitOff (n : Nat) (s : State) : State :=
  if s.pair.role ≠ .active then s
  else
    let xs := takePart s n
    match s.cyc.pstate with
    | .none => s
    | .stopped => emitStations n 0 3 xs s
    | _ =>
      let first (x : Station) : Bool := (taskOf s x.cfg.outTask).first
      let later (x : Station) : Bool := bit x.cfg.flags 2 ||
        (!x.sent && (taskOf s x.cfg.outTask).comBeat.isSome && some (taskOf s x.cfg.outTask).comInst != x.sentCom)
      let s := if s.cyc.pstate = .starting then emitStations n 0 3 (xs.filter (fun x => !first x)) s else s
      emitStations n 0 2 (xs.filter (fun x => (first x || s.cyc.pstate == .running) && later x)) s

/-- OUTPUT frames of the bus cycle in flight at a takeover (R73): the stations not relayed to, whose task has committed in this cycle, while
the write mark has not passed; RETX set. -/
def resend (s : State) : State :=
  (List.range 4).foldl
    (fun s n =>
      let done (x : Station) : Bool :=
        match (taskOf s x.cfg.outTask).comBeat, (segOf s n).start with
        | some b, some c => decide (c ≤ b)
        | _, _ => false
      if writeMarkNs s n ≤ cycleT s n then s else emitStations n 4 0 ((takePart s n).filter (fun x => !x.sent && done x)) s) s

end Sys2Proof.Machine
end

