-- ==== Sys2Proof/Machine/Folmonet.lean ====
section
/-!
DEFINITION. The commands of the field ports and stations (06) that reach the block from its ports and timers. The segment commands and
GATE_RESET, which are object writes too, stand with the object dictionary.
-/

namespace Sys2Proof.Machine

/-- What a receive rule of the injector makes of a frame (R535, R537): the frame goes on, is lost, is held, or is damaged and meets the
check that the damage fails: none of a byte before the EtherType or of HOPS, EtherType, else the CRC-32C. -/
inductive RxFate where
  | passes | lost | held | wrongType | badCrc
deriving DecidableEq, Repr

def flipFate (b : Nat) (fol : Bool) : RxFate :=
  if b < 12 then .passes else if b < 14 then .wrongType
  else if fol && decide (30 ≤ b ∧ b < 34) then .passes else .badCrc

/-- A frame at field port `n`'s receive point (R535): the fate of this frame, and the frame that was held and now follows it. -/
def folRxRule (n : Nat) (f : FolFrame) (s : State) : State × RxFate × Option FolFrame :=
  let k := 2 * n + 1
  match heldBy s.mnt k with
  | some (.folRx _ g) => ({ s with mnt := dropHeld s.mnt k }, .passes, some g)
  | _ =>
    match fijRule s.mnt k (folType f.body) (some f.hdr.station) (38 + (folPayload f.body).length) with
    | (m, .pass) => ({ s with mnt := m }, .passes, none)
    | (m, .drop) => ({ s with mnt := m }, .lost, none)
    | (m, .flip x) => ({ s with mnt := m }, flipFate x.byte true, none)
    | (m, .hold) => ({ s with mnt := { m with held := (k, .folRx n f, s.now) :: m.held } }, .held, none)

/-- Received frames and discards of a port (R198, R202, R231). -/
def countRx (n : Nat) (s : State) : State := setCnt n (fun c => { c with rx := satInc c.rx }) s
def countCrc (n station : Nat) (s : State) : State :=
  let s := setCnt n (fun c => { c with crcErr := satInc c.crcErr }) s
  match stationOf s station with
  | some x => if x.cfg.seg = n then putStation { x with cCrc := satInc x.cCrc } s else s
  | none => s
def countOther (n : Nat) (s : State) : State := setCnt n (fun c => { c with otherDisc := satInc c.otherDisc }) s

/-- A CYCLE-START or OUTPUT frame of the other end's module (R214, R215, R222): discarded for a low epoch, a higher one acted on; a
CYCLE-START keeps the segment continuous. -/
def moduleFrame (n : Nat) (f : FolFrame) (s : State) : State :=
  if f.hdr.epoch = 0xFFFFFFFF then topEpoch n s
  else if f.hdr.epoch.toNat < s.pair.epoch.toNat then setCnt n (fun c => { c with epochDisc := satInc c.epochDisc }) s
  else
    let s := noteEpoch f.hdr.epoch s
    let s := match f.body with
      | .cycleStart _ => setPort n (fun p => { p with through := setBit p.through 0, csrx := s.tim.time }) s
      | _ => s
    let from_ : Nat := fld f.hdr.flags 0 1
    higherEpoch f.hdr.epoch (0x10 + n) (u8 from_) s

/-- A PROBE-RESP's data (R202), and back. -/
def probeData (r : ProbeResp) : List Byte := be4 r.turnaround ++ be4 r.typeid.toNat ++ be4 r.cfgid.toNat ++ be4 r.serial.toNat

/-- The frame that carries a station's SERVICE answer. -/
def stationFrame (s : State) (n end_ station : Nat) (epoch : Word) (m : SvcMsg) : FolFrame :=
  { hdr := { typ := 4, seg := n, flags := BitVec.ofNat 8 end_, stamp := stampOf s n, epoch := epoch, station := station, hops := 0 }, body := .service m }

/-- Segment of a station's frames: its working entry's, else the table's. -/
def segOfStation (s : State) (x : Nat) : Nat := (stationSeg s x).getD ((readStation s.mem x).seg % 4)

/-- Operations of a SERVICE frame that ask the dictionary (R202, R315). -/
def dictOp (op : Byte) : Bool := [1#8, 2#8, 0x10#8, 0x11#8, 0x12#8, 0x13#8, 0x20#8].contains op

/-- A frame that has passed port `n`'s receive rule. -/
def folRxBody (n : Nat) (f : FolFrame) (s : State) : State :=
  let s := countRx n s
  match f.body with
  | .input p => relayIn n f (rxInput n ((myEnd s).getD 0) (0x10 + n) true f.hdr p s)
  | .cycleStart _ => moduleFrame n f s
  | .output _ => moduleFrame n f s
  | .service m =>
    let s := relayIn n f s
    if m.op = 4 ∨ m.op = 5 then writeAnswer n f.hdr.station f.hdr.epoch m.tid (if m.op = 4 then 0 else m.arg.toNat) (0x10 + n) s
    else if s.pair.role = .active ∧ dictOp m.op then { s with fol := { s.fol with requests := s.fol.requests ++ [(n, f)] } }
    else s
  | _ => s

/-- A frame at port `n`, through its receive rule, the frame held before it following (R535, R537). -/
def folRx (n : Nat) (f : FolFrame) (s : State) : State :=
  if !rickFull s || !portUp s n then s
  else
    let (s, fate, after) := folRxRule n f s
    let s := match fate with
      | .passes => folRxBody n f s
      | .badCrc => countCrc n f.hdr.station s
      | .wrongType => countOther n s
      | _ => s
    match after with
    | some g => folRxBody n g s
    | none => s

-- commands ----------------------------------------------------------------------------------------------------------------

/-- PCS synchronisation has held for 10 ms (R197). -/
def execPortUp (port : Nat) (s : State) : Host.Outcome State Fault Refusal :=
  finish <|
  if !rickFull s || decide (4 ≤ port) || (portOf s port).up || isolated s (fptBlock port) then s
  else fptPost port 0x0408 [] (fptInt port 3 (setPort port (fun p => { p with up := true }) s))

/-- Synchronisation, or the SFP, is lost. -/
def execPortDown (port : Nat) (s : State) : Host.Outcome State Fault Refusal :=
  finish <|
  if !rickFull s || !(portOf s port).up then s
  else
    let s := setPort port (fun p => { p with up := false, through := 0 }) s
    fptPost port 0x0407 [] (fptInt port 3 (setCnt port (fun c => { c with linkDown := satInc c.linkDown }) s))

/-- The SFP's identity and diagnostics (R197, R478, R231). -/
def execSfpPoll (port : Nat) (r : SfpRead) (s : State) : Host.Outcome State Fault Refusal :=
  finish <|
  if !rickFull s || decide (4 ≤ port) then s
  else
    let p := portOf s port
    let v : Byte := pack 8 [(7, b2n r.fitted), (6, b2n (r.fitted && r.los)), (5, b2n (r.fitted && r.txfault)), (4, b2n (r.fitted && r.warn)),
      (3, b2n (r.fitted && r.alarm))]
    let bad := (bit v 5 && !bit p.sfp 5) || (bit v 3 && !bit p.sfp 3)
    let tell := r.fitted && !r.qualified && !p.sfpTold
    let s := setPort port (fun p => { p with sfp := v, sfpTold := r.fitted && (p.sfpTold || tell) }) s
    let s := if bad then fptPost port 0x040D [] (fptInt port 7 s) else s
    if tell then post 0x0C05 0x05 [] s else s

/-- A frame that a port discards (R50, R198, R202, R211, R215). -/
def execFolmonetFrameDiscard (port : Nat) (why : FolBad) (station : Nat) (s : State) : Host.Outcome State Fault Refusal :=
  finish <|
  if !rickFull s || !portUp s port then s
  else match why with
    | .fcs => setCnt port (fun c => { c with fcsErr := satInc c.fcsErr }) s
    | .crc => countCrc port station (countRx port s)
    | .other => countOther port s
    | .lowEpoch => setCnt port (fun c => { c with epochDisc := satInc c.epochDisc }) (countRx port s)
    | .stamp => setCnt port (fun c => { c with stampDisc := satInc c.stampDisc }) (countRx port s)
    | .epochMax => topEpoch port (countRx port s)

/-- An INPUT frame at a field port (R211, R215). -/
def execStationInput (port : Nat) (h : FolHdr) (p : InputP) (s : State) : Host.Outcome State Fault Refusal :=
  finish (folRx port { hdr := h, body := .input p } s)

/-- A PROBE-RESP at a field port, with the round trip that the port measured (R217). -/
def execProbeResp (port : Nat) (r : ProbeResp) (s : State) : Host.Outcome State Fault Refusal :=
  finish <|
  if !rickFull s || !portUp s port then s
  else
    let m : SvcMsg := { op := 7, tid := 0, index := 0, sub := 0, sflags := 0, session := 0, arg := 0, data := probeData r }
    let s := relayIn port (stationFrame s port r.fromEnd r.station r.epoch m) (countRx port s)
    probeAnswer port r.station r.fromEnd r.epoch r.roundTrip r.turnaround r.typeid (0x10 + port) s

/-- Through CYCLE-START frames have stopped while both ends are in use (R214): a cut, with CUT_AFTER. -/
def execContinuityLost (seg : Nat) (s : State) : Host.Outcome State Fault Refusal :=
  finish <|
  let p := portOf s seg
  if !rickFull s || p.cut || s.pair.role != .active || decide ((endsInUse s seg).length < 2) || (bit p.through 1 && bit p.through 2) then s
  else
    let after := (((stationsOn s seg).filter (fun x => x.endNow == 0 && (x.got || x.noData == 0) && x.st == .present)).map (fun x => x.cfg.pos)).foldl max 0
    fptPost seg 0x0405 (le2 after) (fptInt seg 4 (setPort seg (fun p => { p with cut := true, cutAfter := after }) s))

/-- Continuity has returned (R214). -/
def execContinuityRestored (seg : Nat) (s : State) : Host.Outcome State Fault Refusal :=
  finish <|
  let p := portOf s seg
  if !rickFull s || !p.cut || !(bit p.through 1 && bit p.through 2) then s
  else fptPost seg 0x0406 [] (fptInt seg 4 (setPort seg (fun p => { p with cut := false, cutAfter := 0xFFFF }) s))

/-- A PRESENT station has had NODATA in SUBST_COUNT consecutive cycles (R217). -/
def execStationAbsent (station : Nat) (s : State) : Host.Outcome State Fault Refusal :=
  finish <|
  match stationOf s station with
  | none => s
  | some x =>
    if !rickFull s || s.pair.role != .active || x.st != .present || decide (x.noData < max 1 x.cfg.subCnt) then s
    else fptPost x.cfg.seg 0x0402 [] (fptInt x.cfg.seg 1 (becomeAbsent x s))

/-- A CONFIGURING station has not acknowledged within 3 service windows (R217). -/
def execConfiguringTimeout (station : Nat) (s : State) : Host.Outcome State Fault Refusal :=
  finish <|
  match stationOf s station with
  | none => s
  | some x => if !rickFull s || s.pair.role != .active || x.st != .configuring then s else becomeAbsent x s

/-- The probe timer of a station (R217): from each end in use while it is ABSENT or MISMATCH, from the ends in turn while it is PRESENT. -/
def execStationProbeTimer (station : Nat) (s : State) : Host.Outcome State Fault Refusal :=
  finish <|
  match stationOf s station with
  | none => s
  | some x =>
    let es := endsInUse s x.cfg.seg
    if !rickFull s || s.pair.role != .active || (segOf s x.cfg.seg).st == .stopped then s
    else match x.st with
      | .absent => es.foldl (fun s e => probe x e s) s
      | .mismatch => es.foldl (fun s e => probe x e s) s
      | .present =>
        if (segOf s x.cfg.seg).st ≠ .running then s
        else match es.find? (fun e => e == x.probeEnd) with
          | some e => probe x e (putStation { x with probeEnd := 1 - e } s)
          | none => match es.head? with
            | some e => probe x e (putStation { x with probeEnd := 1 - e } s)
            | none => s
      | .configuring => s

/-- All stations are PRESENT or MISMATCH, or 2 s have passed (R218). -/
def execProbingEnd (seg : Nat) (s : State) : Host.Outcome State Fault Refusal := finish (if rickFull s then segRunning seg s else s)

/-- A new second of TIME (R231, R202): a TIME frame in the next service window. -/
def execTimeFrameSend (port : Nat) (s : State) : Host.Outcome State Fault Refusal :=
  finish <|
  let sec := timeNs s / 1000000000
  if !rickFull s || s.pair.role != .active || !bit (portOf s port).cfg 3 || (segOf s port).st != .running || sec == (portOf s port).timeSec then s
  else
    let start : DWord := s.tim.time - BitVec.ofNat 64 (cycleT s port)
    let body : FolBody := .time { time := start, utcoff := BitVec.ofNat 16 (cfgNum s 0x1400 8)
                                  tflags := BitVec.ofNat 8 (b2n (s.tim.source == 1) + 2 * b2n (s.tim.source != 1)) }
    (endsInUse s port).foldl (fun s e => windowSend port e (folFrame s port e (stampOf s port) 0 0xFFFF body) s)
      (setPort port (fun p => { p with timeSec := sec }) s)

/-- FPT_CLEAR (R231, R232). -/
def fptClear (port : Nat) (level : Level) (word : Word) (s : State) : State :=
  if level = .m ∧ bit word 0 then setCnt port (fun _ => {}) s else s

def execFptClear (port : Nat) (level : Level) (word : Word) (s : State) : Host.Outcome State Fault Refusal :=
  finish (if rickFull s then fptClear port level word s else s)

/-- A station's WRITE-RESP or ABORT at the module's own port (R217, R220). -/
def execStationWriteResp (station : Nat) (epoch : Word) (tid : Byte) (abort : Half) (s : State) : Host.Outcome State Fault Refusal :=
  finish <|
  let n := segOfStation s station
  let m : SvcMsg := { op := if abort = 0 then 4 else 5, tid := tid, index := 0, sub := 0, sflags := 0, session := 0, arg := abort.setWidth 32, data := [] }
  folRx n (stationFrame s n ((myEnd s).getD 0) station epoch m) s

/-- A CYCLE-START of the opposite end (R214, R215). -/
def execThroughCycleStart (port : Nat) (h : FolHdr) (s : State) : Host.Outcome State Fault Refusal :=
  finish (folRx port { hdr := h, body := .cycleStart { read := 0, write := 0, beatTime := 0, period := 0, csflags := 0, svcOpen := 0, svcClose := 0, cfgid := 0 } } s)

/-- The start window of a segment closes (R555). -/
def execStartWindowClose (seg : Nat) (s : State) : Host.Outcome State Fault Refusal :=
  finish <|
  match (segOf s seg).window with
  | none => s
  | some w =>
    let all_ := (stationsOn s seg).all (fun x => x.got) && w.firstCs.isSome && !w.raised
    let later := match w.firstCs with
      | some c => decide (max c w.raise + 2 * segBeats (segReg s seg) ≤ s.cyc.beat.toNat)
      | none => false
    if all_ || later then setSeg seg (fun g => { g with window := none }) s else s

end Sys2Proof.Machine
end

