-- ==== Sys2Proof/Machine/Twin.lean ====
section
/-!
DEFINITION. Twin execution (03): digests and their comparison, divergence and self-tests, outcomes told by the active, the resync
procedure on both units, and the commands of its timers.
-/

namespace Sys2Proof.Machine

-- limits of FLU_CFG (R135) -----------------------------------------------------------------------------------------------------

def lagMaxNs (s : State) : Nat := max 20 (min 1000 (fld s.flu.cfg 12 10)) * 1000
def missMax (s : State) : Nat := max 1 (fld s.flu.cfg 8 4)
def divMax (s : State) : Nat := max 1 (fld s.flu.cfg 4 4)

-- divergence (R110 to R113) --------------------------------------------------------------------------------------------------------

/-- Divergences of the last 24 h of TIME. -/
def recentDivs (s : State) : List Nat := s.flu.divTimes.filter (fun t => decide (timeNs s - t < 86400000000000))

/-- What both units record of a divergence (R110), with the self-test that it starts (R111). -/
def noteDivergence (own peer : DigestP) (s : State) : State :=
  let s := { s with
    flu := { s.flu with divTask := own.task, divInst := own.inst, digLocal := own.digest, digPeer := peer.digest }
    fluq := { s.fluq with testSince := some s.now } }
  post 0x0201 0x46 (u8 own.task ++ le8 own.inst.toNat ++ le8 own.digest.toNat ++ le8 peer.digest.toNat) (fluInt 2 s)

/-- The standby's limit (R113): OFFLINE with the divergence hold. -/
def divergenceLimit (s : State) : State :=
  if (recentDivs s).length < divMax s then s
  else post 0x0207 0x46 [] (setRole .offline .none (clearTwin { s with flu := { s.flu with divHold := true, resync := {} } }))

/-- A digest mismatch (R110). -/
def diverge (own peer : DigestP) (s : State) : State :=
  let s := noteDivergence own peer s
  if s.pair.role = .active then
    { clearTwin s with flu := { (clearTwin s).flu with resync := { phase := 1, since := s.now, byDiv := true } } }
  else
    let s := { s with flu := { s.flu with divTimes := s.tim.time.toNat :: recentDivs s, divLife := satInc s.flu.divLife } }
    divergenceLimit (enterResync true s)

/-- The hold and the count are cleared (R92, R113). -/
def clearDivergence (s : State) : State := { s with flu := { s.flu with divHold := false, divTimes := [] } }

-- agreement (R108, R128) -----------------------------------------------------------------------------------------------------------

/-- Every enabled cyclic task has begun twin execution. -/
def allTwin (s : State) : Bool :=
  (List.range 16).all (fun t => !(bit s.cyc.taskEn t && (taskOf s t).desc.kind == 0) || bit s.flu.syncTasks t)

/-- The first match after every cyclic task has begun twin execution (R128): SYNCHRONISED, event 0x0200, the Damper armed. -/
def becomeSynchronised (s : State) : State :=
  if s.pair.role = .standby ∧ s.pair.sub = .resync ∧ s.flu.resync.phase = 5 ∧ allTwin s then
    let s := { s with
      pair := { s.pair with sub := .synchronised, armed := true }
      flu := { s.flu with resync := {} } }
    svnAuto (post 0x0200 0x46 [] (fluInt 1 s))
  else s

/-- A digest agrees. -/
def agree (s : State) : State := becomeSynchronised { s with fluq := { s.fluq with missed := 0 } }

def sameDig (t : Nat) (i : DWord) (d : DigestRec) : Bool := d.p.task == t && d.p.inst == i
def committed (o : Nat) : Bool := o == 0 || o == 1

/-- The two digests of one instance meet (R108, R551). -/
def compareDigests (own peer : DigestP) (s : State) : State :=
  if s.pair.role = .standby ∧ peer.outcome = 3 ∧ committed own.outcome then
    post 0x020B 0x46 [] (enterResync false s)
  else if s.pair.role = .active ∧ own.outcome = 3 ∧ committed peer.outcome then s
  else if own.digest = peer.digest then agree s
  else diverge own peer s

/-- A digest of this unit is formed: it meets the partner's where that has come. -/
def ownDigest (p : DigestP) (s : State) : State :=
  match s.fluq.peer.find? (sameDig p.task p.inst) with
  | some q => compareDigests p q.p { s with fluq := { s.fluq with peer := s.fluq.peer.erase q } }
  | none => { s with fluq := { s.fluq with own := s.fluq.own ++ [{ p := p, at_ := s.now }] } }

/-- The digests that wait are looked through for one that has its fellow: an ended instance leaves its own by the operations of the
cycle engine. -/
def settleDigests (s : State) : State :=
  s.fluq.own.foldl
    (fun s d => match s.fluq.peer.find? (sameDig d.p.task d.p.inst) with
      | some q =>
        if s.fluq.own.contains d then
          compareDigests d.p q.p { s with fluq := { s.fluq with peer := s.fluq.peer.erase q, own := s.fluq.own.erase d } }
        else s
      | none => s) s

/-- A digest that has not come within 2 beats (R109). -/
def digestMissed (t : Nat) (s : State) : State :=
  match s.fluq.own.find? (fun d => d.p.task == t) with
  | none => s
  | some d =>
    let s := { s with fluq := { s.fluq with own := s.fluq.own.erase d, missed := s.fluq.missed + 1 } }
    if s.pair.role = .standby ∧ missMax s ≤ s.fluq.missed then post 0x0202 0x46 [] (enterResync false (fluInt 3 s)) else s

/-- IMAGE or instance late (R103, R106): RESYNC, event 0x0203. -/
def lagged (s : State) : State := post 0x0203 0x46 [] (enterResync false (fluInt 4 s))

-- outcomes told by the active (R106, R551) ---------------------------------------------------------------------------------------------

/-- Start boundaries that an instance passed (x of R290). -/
def passedStarts (k : Task) : Nat := if k.outcome = 1 then 1 else if k.pol = 0 then k.skipRun else 0

/-- The slots of a commit go to Cord, tagged with their apply beat (R290). -/
def handCommit (t : Nat) (s : State) : State :=
  let k := taskOf s t
  handSlots t ((k.lastStart.getD 0) + k.desc.period * (1 + passedStarts k)) (setTask t (fun k => { k with handWait := false }) s)

/-- An instance that still runs here when the active tells its end as faulted was stopped there by its policy, and its task is faulted (R155), where
its limit has passed; before that it has trapped (R154), which faults the task under FAULT alone. -/
def stoppedAtLimit (k : Task) (now : Nat) : Bool :=
  match k.pol with
  | 0 => decide (8 ≤ k.skipRun) || decide (k.relAt + 10000000000 ≤ now)
  | 1 => decide (k.dueAt + (if k.desc.period = 0 then deadlineNs k.desc else k.desc.period * 250000) ≤ now)
  | _ => true

/-- The active's outcome of an instance reaches the standby. -/
def partnerOutcome (p : DigestP) (s : State) : State :=
  let t := p.task
  let k := taskOf s t
  if p.outcome = 2 then
    if p.inst.toNat = k.inst.toNat + 1 then skipInstance t { s with run := { s.run with fired := s.run.fired.erase t } } else s
  else if k.inFlight ∧ p.inst = k.cur then
    let s := setTask t (fun k => { k with partner := some p.outcome, extended := p.outcome == 1 }) s
    if p.outcome = 3 then (if stoppedAtLimit k s.now then stopAndFault t (if 2 ≤ k.pol then 0 else 2) s else endFaulted t (stopThreads t k.threads s)) else s
  else if p.inst = k.cur ∧ committed k.outcome then
    let s := if p.outcome = 1 then setTask t (fun k => { k with outcome := 1 }) s else s
    if k.handWait ∧ p.outcome ≠ 3 then handCommit t s else s
  else s

/-- A DIGEST frame (R108). -/
def onDigest (p : DigestP) (s : State) : State :=
  if !runsTasks s.pair.role || !twinOn s p.task then s
  else
    let s := if s.pair.role = .standby then partnerOutcome p s else s
    match s.fluq.own.find? (sameDig p.task p.inst) with
    | some d => compareDigests d.p p { s with fluq := { s.fluq with own := s.fluq.own.erase d } }
    | none => { s with fluq := { s.fluq with peer := s.fluq.peer ++ [{ p := p, at_ := s.now }] } }

-- the resync procedure (R127, R554) ------------------------------------------------------------------------------------------------------

/-- The runtime's own tables that a resync copies beside code, data and image SRAM, in one block of DRAM (log 42). -/
def rtBase : Nat := 0x800000000

def pstateNo : PState → Nat
  | .none => 0
  | .stopped => 1
  | .starting => 2
  | .running => 3
def pstateOf : Nat → PState
  | 0 => .none
  | 1 => .stopped
  | 2 => .starting
  | _ => .running

def runtimeBlock (s : State) : List Byte :=
  let p := s.run.prog
  le8 ((p.map (fun p => p.codeBase)).getD 0) ++ le8 ((p.map (fun p => p.dataBase)).getD 0) ++ le4 ((p.map (fun p => p.imgLen)).getD 0) ++
    le2 (pstateNo s.cyc.pstate) ++ le2 s.cyc.taskEn.toNat ++ le8 s.cyc.evtEn.toNat ++ le2 s.cyc.taskFault.toNat ++ zeros 2 ++
    le8 s.cyc.evtFault.toNat ++ le8 s.cyc.evtPend.toNat ++ le2 s.chg.forces.length ++ zeros 2 ++
    s.chg.forces.flatMap (fun f => le4 f.id.toNat ++ u8 f.typ ++ u8 f.val.length ++ zeros 2 ++ fit 64 f.val)

/-- The block read back on the standby. -/
def takeRuntimeBlock (s : State) : State :=
  let w (o n : Nat) : Nat := readLe s.mem (rtBase + o) n
  let img := readBytes s.mem (w 0 8) (w 16 4)
  let force (k : Nat) : Force :=
    let a := 56 + 72 * k
    { id := BitVec.ofNat 32 (w a 4), typ := w (a + 4) 1, val := readBytes s.mem (rtBase + a + 8) (w (a + 5) 1) }
  { s with
    run := { s.run with prog := if w 16 4 = 0 then none else some { kindleProg img with codeBase := w 0 8, dataBase := w 8 8 } }
    cyc := { s.cyc with
      pstate := pstateOf (w 20 2), releasing := pstateOf (w 20 2) == .running, taskEn := BitVec.ofNat 16 (w 22 2), evtEn := BitVec.ofNat 64 (w 24 8), taskFault := BitVec.ofNat 16 (w 32 2)
      evtFault := BitVec.ofNat 64 (w 36 8), evtPend := BitVec.ofNat 64 (w 44 8) }
    chg := { s.chg with forces := (List.range (w 52 2)).map force } }

/-- Pages (address / 4096) of a range. -/
def pagesIn (base len : Nat) : List Nat := (List.range ((len + 4095) / 4096)).map (fun k => base / 4096 + k)

/-- Every page of phase 2: image SRAM, program code and data with the retained area. -/
def bulkPages (s : State) : List Nat :=
  pagesIn 0x01000000 0x200000 ++ (match s.run.prog with
    | some p => pagesIn p.codeBase p.imgLen ++ pagesIn p.dataBase p.dataLen
    | none => [])

/-- A page leaves in RESYNC-DATA frames of at most 1,472 bytes (R122). -/
def sendPage (s : State) (p : Nat) : State :=
  [(0, 1472), (1472, 1472), (2944, 1152)].foldl
    (fun s c => sendTwin (.resyncData { addr := 4096 * p + c.1, data := readBytes s.mem (4096 * p + c.1) c.2 }) s) s
def sendPages (ps : List Nat) (s : State) : State := ps.foldl sendPage s

def setResync (f : Resync → Resync) (s : State) : State := { s with flu := { s.flu with resync := f s.flu.resync } }

/-- Bulk capacity of the next beat in pages (R126). -/
def bulkRoom (s : State) : Nat := (290000 - Config.beatBudget (progId s) ((s.cyc.pos + 1) % max 1 s.cyc.hyper)) / 4120

/-- SEQ of the last frame sent toward the twin. -/
def lastSeq (s : State) : Word :=
  match twinSlot s with
  | some x => seqTo s.fluq.seqs (some x) - 1
  | none => 0

def sendCtrl (phase task : Nat) (arg : Word) (s : State) : State :=
  sendTwin (.resyncCtrl { phase := phase, task := task, arg := arg, beat := s.cyc.beat }) s

/-- Phase 2 begins on the active: tracking, and every page to be sent. -/
def beginBulk (s : State) : State :=
  let ps := bulkPages s
  setResync (fun r => { r with phase := 2, since := s.now, pages := ps, total := ps.length }) (trackOn s)

/-- A set has been sent: its answer is awaited (R554). -/
def markSet (task : Nat) (s : State) : State :=
  let q := lastSeq s
  sendCtrl 4 task q (setResync (fun r => { r with awaiting := r.awaiting ++ [(task, q)], trailing := r.trailing.filter (fun t => t != task) }) s)

/-- The closing beat (R127): the dirty set as it stands, and the tasks in flight that trail. -/
def closing (s : State) : State :=
  let s := { s with mem := writeBytes s.mem rtBase (runtimeBlock s) }
  let ps := dirtyPages s ++ pagesIn rtBase (runtimeBlock s).length
  let trail := (List.range 80).filter (fun t => (taskOf s t).inFlight || (taskOf s t).st == 4)
  markSet 0xFF (sendPages ps (takeDirty (setResync (fun r => { r with phase := 4, since := s.now, pages := [], trailing := trail }) s)))

/-- An instance in flight at the closing boundary has ended: its task's pages go again (R127). -/
def trailTask (t : Nat) (s : State) : State :=
  if s.pair.role = .active ∧ s.flu.resync.phase = 4 ∧ s.flu.resync.trailing.contains t then
    let ps := dirtyPages s
    markSet t (sendPages ps (takeDirty s))
  else s

/-- A task's pages have arrived at the standby (R554). -/
def pagesArrived (s : State) (t : Nat) : Bool :=
  let r := s.flu.resync
  r.phase == 5 || (r.phase == 4 && r.arrived.contains 0xFF && !r.trailing.contains t && !r.awaiting.any (fun a => a.1 == t))

/-- The active's latch of a task whose pages have arrived begins its twin execution (R127, phase 5). -/
def beginTwin (t : Nat) (s : State) : State :=
  if s.pair.role = .active ∧ !twinOn s t ∧ pagesArrived s t then
    { s with flu := if t < 16 then { s.flu with syncTasks := setBit s.flu.syncTasks t } else { s.flu with syncEvts := true } }
  else s

/-- Phase 1 may end (R127, R129, R164, R186): the pair is settled. -/
def settled (s : State) : Bool :=
  changeIdle s && (!s.flu.resync.byDiv || (s.fluq.testSince.isNone && s.fluq.testPass)) && s.pair.switch.isNone && s.run.restart.isNone &&
    !s.run.stopReq && s.cyc.pstate != .starting

/-- PAIRCOMPAT of the running runtime (R503). -/
def ownCompat (s : State) : Half := (s.upd.fw.getD 0 {}).pairCompat

/-- What a beat boundary does for the resync on the active (R127); a partner of another PAIRCOMPAT is held in phase 1 (R503). -/
def resyncBeat (s : State) : State :=
  if s.pair.role ≠ .active then s
  else match standbySlot s with
    | none => if s.flu.resync.phase = 0 then s else { clearTwin s with flu := { (clearTwin s).flu with resync := {} } }
    | some x =>
      let r := s.flu.resync
      if (peerOf s.pair x).sub = .synchronised then
        if r.phase = 5 then setResync (fun _ => {}) (if changeIdle s then trackOff s else s) else s
      else match r.phase with
        | 0 => setResync (fun _ => { phase := 1, since := s.now }) s
        | 1 => if settled s && (peerOf s.pair x).compat == ownCompat s then beginBulk s else s
        | 2 =>
          let n := bulkRoom s
          sendPages (r.pages.take n) (setResync (fun r => { r with pages := r.pages.drop n }) s)
        | 3 =>
          let d := dirtyPages s
          let n := bulkRoom s
          if d.length ≤ n then closing s
          else sendPages (d.take n) { s with gate := { s.gate with dirty := s.gate.dirty.drop n } }
        | _ => s

/-- The standby answers a set once it has written every page of it (R554); the closing set brings the runtime's tables and the journal's new
snapshot (R376). -/
def answerSet (m : Nat × Word) (s : State) : State :=
  let s := setResync (fun r => { r with marked := r.marked.erase m }) s
  let s := if m.1 = 0xFF then
      let s := takeRuntimeBlock s
      snapshotDone s.jrn.given (fun g => g.kind != .free) s
    else s
  sendCtrl 4 m.1 m.2 s

/-- Frames from a sender in the sequence of this slot. -/
def rxOf (q : FluQ) : Slot → RxSeq
  | .a => q.rxA
  | .b => q.rxB
  | .c => q.rxC
def setRx (x : Slot) (r : RxSeq) (q : FluQ) : FluQ :=
  match x with
  | .a => { q with rxA := r }
  | .b => { q with rxB := r }
  | .c => { q with rxC := r }

/-- No gap up to `arg` remains in the active's sequence. -/
def noGap (s : State) (arg : Word) : Bool :=
  match activeSlot s with
  | none => false
  | some x => (rxOf s.fluq x).gaps.all (fun g => decide (arg.toNat < g.1))

def answerSets (s : State) : State :=
  (s.flu.resync.marked.filter (fun m => noGap s m.2)).foldl (fun s m => answerSet m s) s

/-- RESYNC-DATA at the standby: the first one begins phase 2, in which the Damper is disarmed (R112, R127). -/
def onResyncData (p : ResyncDataP) (s : State) : State :=
  if s.pair.role ≠ .standby ∨ s.pair.sub ≠ .resync then s
  else
    let s := if s.flu.resync.phase ≤ 1 then
        setResync (fun r => { r with phase := 2, since := s.now }) { s with pair := { s.pair with armed := false } }
      else s
    answerSets { s with mem := writeBytes s.mem p.addr p.data }

/-- The closing set comes before any task's twin execution (R554). -/
def closingBegins (task : Nat) (s : State) : State :=
  if task = 0xFF then { s with flu := { s.flu with syncTasks := 0, syncEvts := false } } else s

/-- RESYNC-CTRL (R164, R554). -/
def onResyncCtrl (p : ResyncCtrlP) (s : State) : State :=
  if s.pair.role = .standby then
    if p.phase = 1 ∧ p.arg = 0 then post 0x0605 0x06 [] (enterResync false s)
    else if p.phase = 1 then post 0x020A 0x46 (le4 p.arg.toNat) (setResync (fun r => { r with byCmd := true }) (enterResync false s))
    else if p.phase = 4 ∧ s.pair.sub = .resync then
      answerSets (setResync (fun r => { r with phase := 4, marked := r.marked ++ [(p.task, p.arg)] }) (closingBegins p.task s))
    else s
  else if s.pair.role = .active ∧ p.phase = 4 ∧ s.flu.resync.phase = 4 then
    setResync (fun r =>
      let r := { r with awaiting := r.awaiting.filter (fun a => a.1 != p.task), arrived := r.arrived ++ [p.task] }
      if r.awaiting.isEmpty && r.trailing.isEmpty then { r with phase := 5 } else r) s
  else s

/-- A takeover, a switchover request or the loss of the path ends the procedure (R129): both units show phase 1, the standby executes nothing. -/
def endResync (s : State) : State :=
  if s.pair.role = .active ∧ 2 ≤ s.flu.resync.phase then
    { clearTwin s with flu := { (clearTwin s).flu with resync := { phase := 1, since := s.now } } }
  else if s.pair.role = .standby ∧ s.pair.sub = .resync ∧ 2 ≤ s.flu.resync.phase then
    { clearTwin s with flu := { (clearTwin s).flu with resync := { phase := 1, since := s.now } }, run := stopTasks s.run }
  else s

-- self-tests (R111) ------------------------------------------------------------------------------------------------------------------------

/-- Every record that waits is written to the ring. -/
def drainEvents (s : State) : State :=
  let rs := s.evr.supQueue ++ s.evr.queue
  rs.foldl (fun s r => writeEvent r s) { s with evr := { s.evr with supQueue := [], queue := [] } }

/-- The self-test set has run: event 0x0206; a unit that fails waits until the event is written and requests fail-silent (R28). -/
def selfTestDone (passed : Bool) (s : State) : State :=
  if s.fluq.testSince.isNone then s
  else
    let s := post 0x0206 0x46 (u8 (b2n passed)) { s with fluq := { s.fluq with testSince := none, testPass := passed } }
    if passed then s else chipError 0x07 0x05 0 (if s.sup.bankHeld || isolated s 0x63 then s else drainEvents s)

-- commands ---------------------------------------------------------------------------------------------------------------------------------

/-- The END section of an IMAGE message has not come within LAGMAX (R103). -/
def execImageLagTimeout (task : Nat) (s : State) : Host.Outcome State Fault Refusal :=
  finish (if rickFull s && s.pair.role == .standby && twinOn s task then lagged s else s)

/-- The active has completed an instance that still runs here LAGMAX later (R106). -/
def execInstanceLagTimeout (task : Nat) (s : State) : Host.Outcome State Fault Refusal :=
  finish (if rickFull s && s.pair.role == .standby && (taskOf s task).inFlight && (taskOf s task).partner == some 0 then lagged s else s)

def execDigestMissed (task : Nat) (s : State) : Host.Outcome State Fault Refusal := finish (if rickFull s then digestMissed task s else s)

def execSelfTestDone (passed : Bool) (s : State) : Host.Outcome State Fault Refusal := finish (if runtimeLive s then selfTestDone passed s else s)

/-- The alignment error has exceeded 5 µs for 4 beats (R115). -/
def execAlignmentLost (s : State) : Host.Outcome State Fault Refusal :=
  finish (if rickFull s && s.pair.role == .standby && s.pair.sub == .synchronised then post 0x0209 0x46 [] (enterResync false (fluInt 7 s)) else s)

/-- Every page of phase 2 has been sent once (R127). -/
def execResyncBulkDone (s : State) : Host.Outcome State Fault Refusal :=
  finish <|
  if s.pair.role = .active ∧ s.flu.resync.phase = 2 ∧ s.flu.resync.pages.isEmpty then
    setResync (fun r => { r with phase := 3, since := s.now }) s
  else s

/-- Phase 3 has not ended in 30 s (R129): event 0x0205, once. -/
def execResyncNotConverging (s : State) : Host.Outcome State Fault Refusal :=
  finish <|
  if s.pair.role = .active ∧ s.flu.resync.phase = 3 ∧ !s.flu.resync.told then
    post 0x0205 0x46 [] (fluInt 6 (setResync (fun r => { r with told := true }) s))
  else s

/-- FLU_CLEAR (R135). -/
def clearLane (l : Lane) : Lane := { l with tx := 0, rx := 0, crcErr := 0, naks := 0, retx := 0, linkDown := 0 }
def fluClear (word : Word) (s : State) : State :=
  let f := s.flu
  let f := if bit word 1 then { f with lane0 := clearLane f.lane0, lane1 := clearLane f.lane1 } else f
  { s with flu := if bit word 0 then { f with txPeak := 0, rxPeak := 0 } else f }

/-- FLU_CLEAR.LANES, and .PEAKS: no level is named for the register (R135). -/
def execFluClearLanes (_level : Level) (s : State) : Host.Outcome State Fault Refusal := finish (if rickLive s then fluClear 2 s else s)
def execFluClearPeaks (_level : Level) (s : State) : Host.Outcome State Fault Refusal := finish (if rickLive s then fluClear 1 s else s)

end Sys2Proof.Machine
end

