-- ==== Sys2Proof/Machine/Cycle.lean ====
section
/-!
DEFINITION. The cycle engine (04): start boundaries, latches, ends of threads, commits, deadlines, images taken by the standby, program
states and restarts, and their commands. Program, task and segment commands that are object writes too stand with the object dictionary.
-/

namespace Sys2Proof.Machine

def cycPost (code : Nat) (data : List Byte) (s : State) : State := post code 0x40 data s

/-- Task `t` may run here as the active runs it. -/
def leads (s : State) (t : Nat) : Bool :=
  s.pair.role == .active && s.cyc.releasing && enabled s t && !faultedTask s t

/-- The start boundary of the present beat's instance, in ns. -/
def originOf (s : State) (t : Nat) : Nat :=
  s.cyc.beatAt - (s.cyc.beat.toNat - startBeat (taskOf s t).desc s.cyc.beat.toNat) * 250000

-- start boundaries (R141, R148, R155) -----------------------------------------------------------------------------------------

/-- A cyclic task at a start boundary of its own: skipped while an instance runs or one is to be skipped, else its latch is due. -/
def startTask (s : State) (t : Nat) : State :=
  let k := taskOf s t
  if !leads s t || k.desc.kind != 0 || !startDue k.desc s.cyc.beat.toNat then s
  else if 0 < k.skipNext then skipInstance t (setTask t (fun k => { k with skipNext := k.skipNext - 1 }) s)
  else if k.inFlight then skipInstance t s
  else setTask t (fun k => { k with latchDue := some (s.cyc.beatAt + k.desc.latch * 1000), st := 2 }) s

-- phases 1 to 3 (R148 to R152) ----------------------------------------------------------------------------------------------------

/-- Phase 1: the owned input pages from the receive copy to the program copy. -/
def latchPages (t : Nat) (s : State) : State :=
  let ps := pagesOf (taskOf s t).desc.inPages
  ps.foldl (fun s p => markRange (pgBase + 256 * p) 256 s) { s with mem := copyPages rxBase pgBase ps s.mem }

/-- The latch of task `t` is due here and no commit is in progress (R150). -/
def latchReady (t : Nat) (s : State) : Bool :=
  rickFull s && leads s t && (taskOf s t).latchDue.isSome && !(taskOf s t).inFlight && s.run.tasks.all (fun k => k.st != 4)

/-- Phases 1 and 2 up to the IMAGE message: exchange inputs, the timestamp, legal records, forces, triggers, writes carried. -/
def updateImage (t : Nat) (s : State) : State × List Nat × List Nat :=
  let s := mapRecords t (copyExchanges t (latchPages t (beginTwin t s)))
  let s := applyForces t inInput (setTask t (fun k => { k with stamp := s.tim.time }) s)
  let s := scaleHandOff t (startBeat (taskOf s t).desc s.cyc.beat.toNat) s
  let (s, fires) := evalTriggers t s
  let (s, now, listed) := fires.foldl fireOne (s, [], [])
  (carryWrites t s, now, listed)

/-- Phases 1 to 3 on the active. -/
def inputLatch (t : Nat) (s : State) : State :=
  if !latchReady t s then s
  else
    let origin := (taskOf s t).latchDue.getD 0 - (taskOf s t).desc.latch * 1000
    let (s, now, listed) := updateImage t s
    let inst := (taskOf s t).inst.toNat + 1
    let s := if twinOn s t then sendImage t inst (imageBody t (listed.map (fun e => e - 16)) s) s else s
    let s := now.foldl (fun s e => releaseEvent e s) s
    release t origin inst (takeWrites t s)

/-- A write that an OBJWRITE section carries (R120, R336). -/
def carriedObj (s : State) (e : ObjE) : ProgW :=
  { sym := ((exportSym s e.index.toNat).map (fun y => y.id)).getD 0, elem := e.sub.toNat - 1, value := e.value, entry := some e, client := none, carried := true }

/-- Entries of an OBJWRITE section and of a HOSTVAR section. -/
def objEntries : Nat → List Byte → List ObjE
  | 0, _ => []
  | n + 1, b =>
    if b.length < 6 then []
    else { index := BitVec.ofNat 16 (beAt b 0 2), sub := BitVec.ofNat 8 (beAt b 2 1), typ := BitVec.ofNat 8 (beAt b 3 1), value := slice b 6 (beAt b 4 2) } ::
      objEntries n (b.drop (6 + beAt b 4 2))
def hostEntries : Nat → List Byte → List HostE
  | 0, _ => []
  | n + 1, b =>
    if b.length < 6 then []
    else { symid := BitVec.ofNat 32 (beAt b 0 4), value := slice b 6 (beAt b 4 2) } :: hostEntries n (b.drop (6 + beAt b 4 2))

/-- One section of an IMAGE message takes effect on the standby (R99, R120). -/
def takeSection (t : Nat) (s : State) (x : Nat × List Byte) : State :=
  match x.1 with
  | 1 => setTask t (fun k => { k with stamp := BitVec.ofNat 64 (beAt x.2 0 8) }) s
  | 2 => { s with mem := writeBytes s.mem (pgBase + beAt x.2 0 4) (x.2.drop 4) }
  | 3 => { s with run := { s.run with view := x.2 } }
  | 4 => (objEntries x.2.length x.2).foldl (fun s e => takeWrite t (carriedObj s e) s) s
  | 5 => (hostEntries x.2.length x.2).foldl
      (fun s e => takeWrite t { sym := e.symid, elem := 0, value := e.value, entry := none, client := none, carried := true } s) s
  | 6 => { s with run := { s.run with fired := s.run.fired ++ (x.2.drop 1).map (fun b => b.toNat + 16) } }
  | _ => s

/-- The standby's first IMAGE message of a task begins its twin execution here (R127). -/
def followTwin (t : Nat) (s : State) : State :=
  let f := s.flu
  let f := if t < 16 then { f with syncTasks := setBit f.syncTasks t } else { f with syncEvts := true }
  { s with flu := if f.resync.phase = 4 then { f with resync := { f.resync with phase := 5, since := s.now } } else f }

/-- The active's DIGEST of the instance may have come before its release here. -/
def earlyOutcome (t : Nat) (s : State) : State :=
  match s.fluq.peer.find? (sameDig t (taskOf s t).cur) with
  | some d => partnerOutcome d.p s
  | none => s

/-- Phases 1 to 3 on the standby (R99, R103, R152): all that the message brings, then the release. The values that trigger terms read are kept
for a takeover, but only the TRIGGER section releases event tasks. -/
def imageRelease (a : Assembly) (s : State) : State :=
  let t := a.task
  let body := (a.got.mergeSort (fun x y => x.part ≤ y.part)).flatMap (fun p => p.body)
  let s := (sectionsOf body.length body).foldl (takeSection t) (followTwin t s)
  let s := if t < 16 then scaleHandOff t (startBeat (taskOf s t).desc s.cyc.beat.toNat) (evalTriggers t s).1
    else { s with run := { s.run with fired := s.run.fired.erase t } }
  let origin := if t < 16 then originOf s t else s.now
  earlyOutcome t (release t origin a.inst.toNat s)

/-- An assembly whose message is complete and whose task is free; an event task must have been listed by its owner (R99). -/
def releasable (s : State) (a : Assembly) : Bool :=
  a.got.length == a.parts && !(taskOf s a.task).inFlight && (decide (a.task < 16) || s.run.fired.contains a.task)

/-- The complete messages that can be released are, one after another. -/
def releaseImages : Nat → State → State
  | 0, s => s
  | n + 1, s =>
    match s.fluq.images.find? (releasable s) with
    | some a => releaseImages n (imageRelease a { s with fluq := { s.fluq with images := s.fluq.images.erase a } })
    | none => s

/-- A part of an IMAGE message reaches the standby (R103, R554); in RESYNC before phase 4 nothing is executed. -/
def onImage (p : ImageP) (s : State) : State :=
  if s.pair.role ≠ .standby ∨ (s.pair.sub = .resync ∧ s.flu.resync.phase < 4) then s
  else
    let a : Assembly := (s.fluq.images.find? (fun a => a.task == p.task && a.inst == p.inst)).getD
      { task := p.task, inst := p.inst, parts := p.parts, got := [] }
    let b := if a.got.any (fun q => q.part == p.part) then a else { a with got := a.got ++ [p] }
    let s := { s with fluq := { s.fluq with images := s.fluq.images.filter (fun x => !(x.task == p.task && x.inst == p.inst)) ++ [b] } }
    releaseImages (s.fluq.images.length + 1) s

-- ends of instances (R154, R156, R157) ------------------------------------------------------------------------------------------------

/-- STARTING becomes RUNNING when every enabled cyclic task has committed once (R163, R165). -/
def checkRunning (s : State) : State :=
  if s.cyc.pstate ≠ .starting ∨ s.run.restart.isSome ∨ !(cyclicOn s).all (fun t => (taskOf s t).first) then s
  else
    let s := cycInt 5 (cycPost 0x0306 [] { s with cyc := { s.cyc with pstate := .running } })
    let s := if s.cyc.cmdState = 1 then cycInt 0 { s with cyc := { s.cyc with cmdState := 2 } } else s
    releaseToken (fun h => h.code == 2) s

/-- What follows the end of an instance: a pending trigger, a trailing set, waiting messages, the swap, digests that have met. -/
def afterEnd (t : Nat) (s : State) : State :=
  let s := trailTask t (settleDigests s)
  let s := releasePending t s
  let s := if s.pair.role = .standby then releaseImages (s.fluq.images.length + 1) s else s
  tryQuiesce s

/-- A trapped instance has stopped on every core (R154, R156): it ends faulted, and its task is faulted under FAULT. -/
def trapEnd (t : Nat) (s : State) : State :=
  let k := taskOf s t
  let s := setTask t (fun k => { k with reinit := k.reinit || decide (1 < popcount k.desc.cores) }) s
  let s := if 2 ≤ k.pol then faultTask t 1 s else s
  afterEnd t (endFaulted t s)

/-- A thread ends by trap (R154): the instance's other threads are stopped through their queues. -/
def threadTrap (core t : Nat) (s : State) : State :=
  let k := taskOf s t
  if !rickFull s || !k.inFlight || !bit k.threads core || k.st == 4 then s
  else
    let rest := clrBit k.threads core
    let s := setTask t (fun k => { k with threads := rest, trapped := true }) s
    let s := if k.trapped then s else stopThreads t rest s
    if rest = 0 then trapEnd t s else s

/-- The pages of phase 5 copied to the emit copy. -/
def commitPages (t : Nat) (s : State) : State :=
  let ps := pagesOf (taskOf s t).desc.outPages
  ps.foldl (fun s p => markRange (emBase + 256 * p) 256 s) { s with mem := copyPages wkBase emBase ps s.mem }

/-- Phase 5 begins (R157): forces over the outputs, the digest, the emit copy, the journal; data that the engine received poisoned
suppresses it (R17). -/
def beginCommit (t : Nat) (s : State) : State :=
  if (taskOf s t).poison then afterEnd t (endFaulted t s)
  else
    let s := applyForces t notInput s
    let k := taskOf s t
    let p := digestP t (b2n k.extended) k.cur.toNat (pageBytes wkBase (pagesOf k.desc.outPages) s.mem) k.pds
    let s := setTask t (fun k => { k with st := 4, dig := some p }) (commitPages t s)
    lioCommit t (jrnCommit t k.cur.toNat k.pds s)

/-- A thread ends (R154); its retained deltas follow those before it (R107). The last one starts the commit. -/
def threadDone (core t : Nat) (ds : List Delta) (s : State) : State :=
  let k := taskOf s t
  if !rickFull s || !k.inFlight || !bit k.threads core || k.st == 4 then s
  else
    let rest := clrBit k.threads core
    let s := setTask t (fun k => { k with threads := rest, pds := k.pds ++ ds }) s
    if rest ≠ 0 then s else if k.trapped then trapEnd t s else beginCommit t s

/-- The task's account of an instance that has committed (R147). -/
def committedTask (now beat : Nat) (k : Task) : Task :=
  { k with
    inFlight := false, threads := 0, st := 1, outcome := b2n k.extended, first := true, comInst := k.cur, comBeat := some beat
    lastExec := BitVec.ofNat 32 (now - k.relAt), maxExec := BitVec.ofNat 32 (max k.maxExec.toNat (now - k.relAt))
    commitAt := BitVec.ofNat 32 (now - k.startAt), pds := [], dig := none }

/-- The command slots go to Cord at once on the active; on a standby once the active's DIGEST has told the outcome (R551). -/
def handOver (t : Nat) (s : State) : State :=
  if s.pair.role = .active ∨ (taskOf s t).partner.isSome then handCommit t s
  else match s.fluq.peer.find? (sameDig t (taskOf s t).cur) with
    | some d => handCommit t (if d.p.outcome = 1 then setTask t (fun k => { k with outcome := 1 }) s else s)
    | none => setTask t (fun k => { k with handWait := true }) s

/-- The commit ends (R157): the DIGEST leaves, phase 6 begins (R158). -/
def commitComplete (t : Nat) (s : State) : State :=
  let k := taskOf s t
  match k.dig with
  | none => s
  | some p =>
    if !rickFull s || k.st != 4 then s
    else
      let s := handOver t (setTask t (committedTask s.now s.cyc.beat.toNat) s)
      let s := if twinOn s t then ownDigest p (sendTwin (.digest p) s) else s
      let s := if k.extended || k.missed then s else emitCommit t s
      afterEnd t (checkRunning s)

-- deadlines (R155) -----------------------------------------------------------------------------------------------------------------------

/-- A miss is recorded (R147, R155, R172). -/
def noteMiss (t : Nat) (s : State) : State :=
  let k := taskOf s t
  let s := setTask t (fun k => { k with overruns := satInc k.overruns }) s
  let s := { s with cyc := { s.cyc with
    cntOvr := satInc s.cyc.cntOvr
    lastOvr := pack 64 [(56, t), (48, k.pol), (0, k.cur.toNat % 2 ^ 48)] } }
  cycPost 0x0300 (u8 t ++ le8 k.cur.toNat ++ u8 k.pol) (cycInt 1 s)

/-- An instance has not ended by its deadline (R155); a standby applies no deadline watch (R106). -/
def deadlineMiss (t : Nat) (s : State) : State :=
  let k := taskOf s t
  if !rickFull s || s.pair.role != .active || !k.inFlight || k.st == 4 then s
  else
    let s := noteMiss t s
    match k.pol with
    | 0 => setTask t (fun k => { k with missed := true }) s
    | 1 =>
      if k.extended then afterEnd t (stopAndFault t 2 s)
      else
        let by_ := if k.desc.period = 0 then deadlineNs k.desc else k.desc.period * 250000
        setTask t (fun k => { k with extended := true, dueAt := k.dueAt + by_, skipNext := 1 }) s
    | _ => afterEnd t (stopAndFault t 0 s)

/-- The 8th skipped instance's deadline, or 10 s after the release (R155). -/
def skipLimit (t : Nat) (s : State) : State :=
  let k := taskOf s t
  if !rickFull s || s.pair.role != .active || !k.inFlight || k.st == 4 || k.pol != 0 || !k.missed then s
  else afterEnd t (stopAndFault t 2 s)

-- program commands (R164, R170) ------------------------------------------------------------------------------------------------------------

/-- CMD_STATUS of a refused command. -/
def cmdRefused (cmd code : Nat) (s : State) : State × Nat :=
  ({ s with cyc := { s.cyc with cmdState := 3, cmdAbort := BitVec.ofNat 16 code, cmdLast := BitVec.ofNat 8 cmd } }, code)

/-- A program command is taken: it acts at the next boundary, and the standby is told (R164). -/
def cmdTaken (cmd : Nat) (s : State) : State :=
  let s := { s with cyc := { s.cyc with cmdState := 1, cmdAbort := 0, cmdLast := BitVec.ofNat 8 cmd } }
  let s := sendCtrl 1 0xFF (BitVec.ofNat 32 cmd) s
  let s := clearTwin s
  let s := { s with flu := { s.flu with resync := { phase := if (standbySlot s).isSome then 1 else 0, since := s.now } } }
  if cmd = 3 then { s with run := { s.run with stopReq := true } }
  else { s with run := { s.run with restart := some { cold := cmd == 2, begun := false, snap := false, inited := false, b0 := none } } }

/-- PROGRAM_CMD and CYC_CMD: 1 warm restart, 2 cold restart, 3 stop; 0 or the abort code. -/
def programCommand (cmd session : Nat) (s : State) : State × Nat :=
  let h := ownHolder s 2 cmd session
  if s.pair.role ≠ .active then cmdRefused cmd 0x2203 s
  else if changeBusy s then cmdRefused cmd 0x2204 s
  else if s.run.prog.isNone then cmdRefused cmd 0x2301 s
  else if !tokenFree s h then cmdRefused cmd 0x2901 (tokenBusy h s)
  else (cmdTaken cmd (takeToken h s), 0)

-- restarts (R165 to R168) ---------------------------------------------------------------------------------------------------------------------

/-- Every instance in flight is stopped, on the cores too; it ends faulted and commits nothing. -/
def stopAll (s : State) : State :=
  let s := (List.range 80).foldl (fun s t => if (taskOf s t).inFlight then stopThreads t (taskOf s t).threads s else s) s
  { s with run := stopTasks s.run, cyc := { s.cyc with releasing := false } }

/-- The program ends in STOPPED (R163, R167): the command is finished. -/
def programStopped (s : State) : State :=
  let s := { s with
    run := { s.run with restart := none, stopReq := false }
    cyc := { s.cyc with pstate := if s.cyc.pstate = .none then .none else .stopped } }
  let s := if s.cyc.cmdState = 1 then cycInt 0 { s with cyc := { s.cyc with cmdState := 2 } } else s
  releaseToken (fun h => h.code == 2) s

/-- The stop at a boundary (R163). -/
def stopBeat (s : State) : State :=
  let run := s.cyc.pstate == .starting || s.cyc.pstate == .running
  let s := programStopped (stopAll s)
  if run then cycPost 0x030A [] s else s

/-- Pages of the tasks that the program uses. -/
def ownedPages (s : State) : List Nat :=
  pagesOf (s.run.tasks.foldl (fun b k => if k.desc.kind = 0xFF then b else b ||| k.desc.outPages) 0)

/-- Work and emit copies take substitute values, the program copy is zero (R165, R166). -/
def restartImages (s : State) : State :=
  let ps := ownedPages s
  { s with mem := copyPages substBase emBase ps (copyPages substBase wkBase ps (clearRange s.mem pgBase (pgBase + 0x40000))) }

/-- Instance counts, status parts, faults, pending triggers and trigger history are zero (R166). -/
def restartTasks (s : State) : State :=
  { s with
    run := { s.run with tasks := s.run.tasks.map (fun k => { desc := k.desc }), trigPrev := [], fired := [] }
    cyc := { s.cyc with taskFault := 0, evtFault := 0, evtPend := 0 }
    lio := { s.lio with sinceRst := false, committed := false }
    fol := { s.fol with stations := s.fol.stations.map (fun x => { x with sentCom := none }) } }

/-- Steps 1 and 2 at a boundary (R165, R192). -/
def restartBegin (r : Restart) (s : State) : State :=
  let s := stopAll s
  let s := { s with
    cyc := { s.cyc with pstate := .starting, lastRst := if r.cold then 2 else 1 }
    run := { s.run with restart := some { r with begun := true }, freshLoad := false } }
  let s := cycPost (if r.cold then 0x0305 else 0x0304) [] s
  let s := restartTasks (restartImages s)
  if r.cold || !forcePersist s then clearForces s else s

/-- Static data at its initial values, from offset `off` on (R166). -/
def initData (p : Prog) (off : Nat) (m : Memory) : Memory :=
  writeBytes (clearRange m (p.dataBase + off) (p.dataBase + p.dataLen)) (p.dataBase + off) ((p.init.take p.dataLen).drop off)

/-- B0 (R165): the first boundary at least 2 beats after the moment. -/
def nameB0 (s : State) : State :=
  match s.run.restart with
  | some r =>
    if r.inited && (r.snap || !r.cold) then
      { s with run := { s.run with restart := some { r with b0 := some (s.cyc.beat.toNat + (if s.now = s.cyc.beatAt then 2 else 3)) } } }
    else s
  | none => s

/-- Step 3 is complete but for a cold restart's snapshot (R165, R167, R375). -/
def restartInit (s : State) : State :=
  match s.run.restart, s.run.prog with
  | some r, some p =>
    if !r.begun || r.inited then s
    else
      let done (s : State) : State := nameB0 { s with run := { s.run with restart := some { r with inited := true } } }
      if r.cold then done { s with mem := initData p 0 s.mem }
      else
        let (s, ok) := replay { s with mem := initData p p.retLen s.mem }
        if ok then done s else cycInt 5 (cycPost 0x0307 [] (programStopped s))
  | _, _ => s

/-- The snapshot of a cold restart is durable (R376). -/
def restartSnap (s : State) : State :=
  match s.run.restart with
  | some r =>
    if r.cold && r.inited && !r.snap then nameB0 { coldSnapshot s with run := { (coldSnapshot s).run with restart := some { r with snap := true } } } else s
  | none => s

/-- What a boundary does for program commands: a stop, the beginning of a restart, B0. -/
def restartBeat (s : State) : State :=
  if s.run.stopReq then stopBeat s
  else match s.run.restart with
    | none => s
    | some r =>
      if !r.begun then restartBegin { r with cold := r.cold || s.run.freshLoad } s
      else if r.b0 = some s.cyc.beat.toNat then
        checkRunning { s with cyc := { s.cyc with releasing := true }, run := { s.run with restart := none } }
      else s

/-- The program's start on a module that assumes ACTIVE from OFFLINE (R168): 0 warm, 1 cold, else STOPPED. -/
def startProgram (mode : Nat) (s : State) : State :=
  match s.run.prog with
  | none => s
  | some _ =>
    if 2 ≤ mode then { s with cyc := { s.cyc with pstate := .stopped } }
    else { s with run := { s.run with restart := some { cold := mode == 1, begun := false, snap := false, inited := false, b0 := none } } }

-- loading a program, and task entries (R163, R169) ------------------------------------------------------------------------------------------------

/-- A descriptor field of the configuration part, by the subindex of its entry (R145, R169): its offset and length. -/
def descField : Nat → Option (Nat × Nat)
  | 1 => some (8, 4)
  | 2 => some (12, 4)
  | 3 => some (16, 4)
  | 4 => some (20, 4)
  | 5 => some (2, 1)
  | 6 => some (1, 1)
  | 7 => some (4, 1)
  | _ => none

/-- Task number of an index of the 0x1300 range. -/
def taskIdx (idx : Nat) : Nat := idx - 0x1310

/-- The enable of a task, in force from the next boundary on (R141, R172). -/
def setEnable (t : Nat) (on : Bool) (s : State) : State :=
  if t < 16 then { s with cyc := { s.cyc with taskEnNext := some (putBit (s.cyc.taskEnNext.getD s.cyc.taskEn) t on) } }
  else { s with cyc := { s.cyc with evtEnNext := some (putBit (s.cyc.evtEnNext.getD s.cyc.evtEn) (t - 16) on) } }

/-- A task entry takes a value: the descriptor's bytes in image SRAM, or the enable. -/
def taskEntry (t sub v : Nat) (s : State) : State :=
  if sub = 8 then setEnable t (v != 0) s
  else match descField sub with
    | some (o, n) => { s with mem := writeLe s.mem (descBase + 0x200 * t + o) n v }
    | none => s

/-- Enable masks of a program's descriptors: every used one (log 35). -/
def usedTasks (b : List Byte) : BitVec 16 := (List.range 16).foldl (fun w t => if (descOf b t).kind = 0 then setBit w t else w) 0
def usedEvents (b : List Byte) : BitVec 64 := (List.range 64).foldl (fun w m => if (descOf b (16 + m)).kind = 1 then setBit w m else w) 0

/-- The program stands in memory and in the descriptors; stored task entries lie over the program's own (R169). -/
def placeProgram (b : List Byte) (s : State) : State :=
  let p := kindleProg b
  let m := writeBytes (writeBytes (writeBytes s.mem codeRegion b) descBase p.descs) trigBase p.triggers
  let s := { s with
    mem := m
    run := { s.run with prog := some p, tasks := (List.range 80).map (fun _ => {}), trigPrev := [], fired := [] }
    cyc := { s.cyc with taskEnNext := some (usedTasks p.descs), evtEnNext := some (usedEvents p.descs), taskFault := 0, evtFault := 0, evtPend := 0 } }
  let s := (s.od.vals.filter (fun v => decide (0x1310 ≤ v.index ∧ v.index < 0x1360))).foldl
    (fun s v => taskEntry (taskIdx v.index) v.sub (beNat v.val) s) s
  { s with run := { s.run with tasks := (List.range 80).map (fun t => { desc := readDesc s.mem t }) } }

/-- A Kindle image is loaded (R163, R174): NONE or STOPPED to STOPPED, event 0x030A. -/
def programLoad (b : List Byte) (s : State) : State :=
  if (s.cyc.pstate ≠ .none ∧ s.cyc.pstate ≠ .stopped) ∨ s.run.restart.isSome ∨ !kindleOk b ∨ !kindleSigned s b ∨ !descsOk (kindleProg b).descs then s
  else
    let s := placeProgram b { s with cyc := { s.cyc with pstate := .stopped } }
    cycPost 0x030A [] (storeProgram b { s with run := { s.run with freshLoad := true } })

-- commands ---------------------------------------------------------------------------------------------------------------------------------------------

/-- A boundary more than 2 µs late (R138). -/
def execBeatBoundaryLate (s : State) : Host.Outcome State Fault Refusal := finish (if rickFull s then blockFails 0x05 0x40 0 s else s)

def execInputLatch (task : Nat) (s : State) : Host.Outcome State Fault Refusal := finish (inputLatch task s)

/-- CYC_DONE (R154, R173): from M mode; TRAP makes it a trap's end. -/
def cycDone (core : Nat) (level : Level) (word : Word) (ds : List Delta) (s : State) : State :=
  if level ≠ .m then s else if bit word 0 then threadTrap core (fld word 8 8) s else threadDone core (fld word 8 8) ds s

def execCycDone (core : Nat) (level : Level) (word : Word) (deltas : List Delta) (s : State) : Host.Outcome State Fault Refusal :=
  finish (cycDone core level word deltas s)

def execTaskTrap (core : Nat) (level : Level) (task : Nat) (s : State) : Host.Outcome State Fault Refusal :=
  finish (if level = .m then threadTrap core task s else s)

/-- The last of the threads stopped after a trap has stopped (R154). -/
def execTrapStopComplete (task : Nat) (s : State) : Host.Outcome State Fault Refusal :=
  finish (if rickFull s && (taskOf s task).inFlight && (taskOf s task).trapped then trapEnd task s else s)

def execCommitComplete (task : Nat) (s : State) : Host.Outcome State Fault Refusal := finish (commitComplete task s)
def execEmitoffEmission (seg : Nat) (s : State) : Host.Outcome State Fault Refusal := finish (if rickFull s then emitOff seg s else s)
def execDeadlineMiss (task : Nat) (s : State) : Host.Outcome State Fault Refusal := finish (deadlineMiss task s)
def execSkipLimit (task : Nat) (s : State) : Host.Outcome State Fault Refusal := finish (skipLimit task s)

/-- CYC_TASK_FAULT and CYC_EVT_FAULT (R172, R173): 1 resumes the task. -/
def faultClear (level : Level) (tasks : BitVec 16) (events : DWord) (s : State) : State :=
  if level ≠ .m ∨ !rickFull s then s
  else (List.range 80).foldl
    (fun s t => if faultedTask s t && (if t < 16 then bit tasks t else bit events (t - 16)) then resumeTask t s else s) s

def execCycFaultClear (level : Level) (tasks : BitVec 16) (events : DWord) (s : State) : Host.Outcome State Fault Refusal :=
  finish (faultClear level tasks events s)

/-- CYC_WDOG (R162, R173): core 0 in M mode. -/
def cycWdog (core : Nat) (level : Level) (word : Word) (s : State) : State :=
  if level = .m ∧ core = 0 ∧ fld word 0 16 = 0x3D7E ∧ rickFull s then
    { s with cyc := { s.cyc with wdArmed := true, wdBeat := s.cyc.beat.toNat } }
  else s

def execCycWdog (core : Nat) (level : Level) (word : Word) (s : State) : Host.Outcome State Fault Refusal := finish (cycWdog core level word s)

/-- The runtime watchdog has not been serviced for WDBEATS beats (R162). -/
def execRuntimeWatchdogExpiry (s : State) : Host.Outcome State Fault Refusal :=
  finish <|
  if rickFull s && s.cyc.wdArmed && decide (s.cyc.wdBeat + max 1 (fld s.cyc.cfg 4 4) ≤ s.cyc.beat.toNat) then
    let s := if runsTasks s.pair.role || s.sup.bankHeld || isolated s 0x63 then s
      else writeEvent { code := 0x0308, block := 0x05, cont := false, data := zeros 14 } s
    chipError 0x05 0x20 0 s
  else s

/-- The Rick firmware has not serviced its watchdog for 1 ms, in the hardware mode (R162). -/
def execRickWatchdogExpiry (s : State) : Host.Outcome State Fault Refusal :=
  finish (if rickFull s && s.sup.rickUp && !s.run.stationHost then blockFails 0x05 0x4A 0 s else s)

def execRestartInitDone (s : State) : Host.Outcome State Fault Refusal := finish (if runtimeLive s then restartInit s else s)

def execColdSnapshotDurable (s : State) : Host.Outcome State Fault Refusal := finish (if bankLive s then restartSnap s else s)

def execProgramLoad (image : List Byte) (s : State) : Host.Outcome State Fault Refusal := finish (if runtimeLive s then programLoad image s else s)

end Sys2Proof.Machine
end

