-- ==== Sys2Proof/Machine/Pair.lean ====
section
/-!
DEFINITION. Pair, reserve and claims (02): Dampers and outputs, starts and joins, takeover, dead partners and the reserve, switchover,
and their commands. The pair commands that are object writes too stand with the object dictionary.
-/

namespace Sys2Proof.Machine

def pairPost (code : Nat) (data : List Byte) (s : State) : State := post code 0x4B data s

-- outputs (R55, R56, R58, R93) ------------------------------------------------------------------------------------------------

/-- The outputs as R56 allows them; the Damper toggles as read back. -/
def gateOutputs (s : State) : State :=
  { s with pair := { s.pair with
      outEn := s.pair.role == .active && s.pair.driving && (others s).all (fun x => !(peerOf s.pair x).toggling) } }

/-- Event 0x0100 once the outputs have opened (R93): the time from the loss declaration. An opening at once takes the 220 to 300 ns of
R71, which lie below the model's grain: a free value (log 3). -/
def tellTakeover (s : State) : State :=
  match s.pair.takeover with
  | none => s
  | some (old, new, at_) =>
    if !s.pair.outEn then s
    else
      let t := if s.now ≤ at_ + 300 then 220 + Config.freeNat s.freeCtr % 81 else s.now - at_
      pairPost 0x0100 (le4 old.toNat ++ le4 new.toNat ++ le4 t)
        { s with freeCtr := s.freeCtr + 1, pair := { s.pair with takeover := none } }

/-- 10 ms after the role change the outputs have not opened (R93). -/
def takeoverLate (s : State) : State :=
  match s.pair.takeover with
  | none => s
  | some (old, new, at_) =>
    if s.now < at_ + 10000000 then s
    else pairPost 0x0100 (le4 old.toNat ++ le4 new.toNat ++ le4 0xFFFFFFFF) { s with pair := { s.pair with takeover := none } }

-- what the runtimes tell each other at a join (R254, R503) ------------------------------------------------------------------------

def hexDigit (n : Nat) : Byte := BitVec.ofNat 8 (if n < 10 then 48 + n else 55 + n)
def hexByte (b : Byte) : List Byte := [hexDigit (b.toNat / 16), hexDigit (b.toNat % 16)]

/-- The legal identification as shown (R244), and the legal configuration digest's first 8 bytes. -/
def legalIdText (s : State) : List Byte :=
  let b := fit 4 s.cord.legalId
  (b.take 2).flatMap hexByte ++ [45] ++ (b.drop 2).flatMap hexByte
def legalCfg8 (s : State) : List Byte := (legalCfg s).take 8

/-- The partner of the dictionary's comparisons: the module in the other of the roles ACTIVE and STANDBY. -/
def partnerSeen (s : State) : Option Slot :=
  if s.pair.role = .active then standbySlot s else activeSlot s

/-- LEGAL_AGREE (R254): 0 differ, 1 agree, 2 no partner. -/
def legalAgree (s : State) : Nat :=
  match partnerSeen s with
  | none => 2
  | some x =>
    let p := peerOf s.pair x
    if p.legalId.isEmpty then 2 else b2n (p.legalId == legalIdText s && p.legalCfg == legalCfg8 s)

/-- What the partner has told of itself: its PAIRCOMPAT and Cord identification; disagreement is told (R254, R503). -/
def notePeerId (x : Slot) (compat : Half) (lid lcfg : List Byte) (s : State) : State :=
  let p := peerOf s.pair x
  let s := { s with pair := setPeer s.pair x { p with compat := compat, legalId := lid, legalCfg := lcfg } }
  let s := postIf (lid != legalIdText s || lcfg != legalCfg8 s) 0x050D 0x80 [] s
  postIf (s.pair.role == .standby && compat != ownCompat s) 0x0D0D 0x05 [] s

/-- This module's own, to the partner, as an OBJWRITE frame with transaction number 0 (R254, R503; log 43). -/
def sendOwnId (x : Slot) (s : State) : State :=
  let e (i b : Nat) (v : List Byte) : ObjE := { index := BitVec.ofNat 16 i, sub := BitVec.ofNat 8 b, typ := 0, value := v }
  sendFlue (some x) (.objWrite { op := 1, txn := 0, beat := 0, arg := 0, entries :=
    [e 0x1721 0x0A (be2 (ownCompat s).toNat), e 0x1780 0x0B (legalIdText s), e 0x1780 0x0C (legalCfg8 s)] }) s

-- joins (R67, R68) --------------------------------------------------------------------------------------------------------------------

/-- A join request to the ACTIVE module that is seen. -/
def sendJoin (s : State) : State :=
  match activeSlot s with
  | none => s
  | some x =>
    sendFlue (some x) (.join { slot := mySlot s, epoch := s.pair.epoch, progid := BitVec.ofNat 32 (progId s), pairCompat := ownCompat s
                               legalId := legalIdText s, legalCfg := legalCfg8 s
                               holders := s.mnt.holders.map (fun h => (h.code, h.slot, h.arg)) })
      { s with pair := { s.pair with joinAt := some s.now } }

/-- Joined: STANDBY in RESYNC (R68). -/
def enterStandby (s : State) : State :=
  let s := setRole .standby .resync { s with pair := { s.pair with joinAt := none }, flu := { s.flu with alignErr := none, alignOk := false } }
  enterResync false s

/-- RESERVE (R64, R80, R434): the runtime sets the alarm for the self-test, enables its wake conditions and asks for BANKED. -/
def bank (s : State) : State :=
  embSleep .m 0xE3B00001 { s with
    tim := { s.tim with alarm := s.tim.rtc + 86400000000000 }
    emb := { s.emb with wakeEn := s.emb.wakeEn ||| 0x1B, watch := putAt s.emb.watch 0 0x8000003C } }
def enterReserve (s : State) : State :=
  let s := setRole .reserve .none (clearTwin { s with pair := { s.pair with joinAt := none, returnC := false, selfTest := none } })
  bank { s with flu := { s.flu with resync := {} } }

/-- An OFFLINE module with its key in RUN that sees an ACTIVE one joins, or stands in reserve (R64, R88, R113). -/
def tryJoin (s : State) : State :=
  if s.pair.role ≠ .offline ∨ s.hw.key ≠ .run ∨ s.hw.ejectOpen ∨ s.flu.divHold ∨ slotErr s ∨ s.ks.permit ∨ s.pair.joinAt.isSome ∨ (activeSlot s).isNone ∨ !runtimeLive s then s
  else if mySlot s = .c ∧ (standbySlot s).isSome then enterReserve s
  else sendJoin s

-- assuming ACTIVE (R50, R63, R67) ---------------------------------------------------------------------------------------------------------

/-- The conditions for starting alone but for the 2 s (R67): the START flag of STATUS. -/
def mayStart (s : State) : Bool :=
  s.pair.role == .offline && s.hw.key == .run && !s.hw.ejectOpen && s.run.prog.isSome && s.sup.cordUp && !s.flu.divHold && !slotErr s && !s.ks.permit && runtimeLive s

/-- This module wins among those whose START it has heard in the last 100 ms (R67). -/
def winsStart (s : State) : Bool :=
  let rivals := (others s).filter (fun x => match (peerOf s.pair x).startAt with
    | some t => decide (s.now - t ≤ 100000000)
    | none => false)
  rivals.all (fun x =>
    match mySlot s, x with
    | .c, _ => false
    | _, .c => true
    | me, _ => decide ((peerOf s.pair x).epoch.toNat < s.pair.epoch.toNat) || ((peerOf s.pair x).epoch == s.pair.epoch && me == .a))

/-- A PROBE to every enabled station of a segment from the module's own end, outside any window (R63). -/
def probeAll (n : Nat) (s : State) : State :=
  match myEnd s with
  | none => s
  | some e => (stationsOn s n).foldl
      (fun s x => portSend n (folFrame s n e (stampOf s n) 0 x.no
        (.service { op := 6, tid := s.fol.tid, index := 0, sub := 0, sflags := 0, session := 0, arg := 0, data := [] }))
        { s with fol := { s.fol with tid := s.fol.tid + 1 } }) s

/-- Start windows on the segments that are not STOPPED (R63). -/
def openWindows (s : State) : State :=
  (List.range 4).foldl
    (fun s n => if (segOf s n).st = .stopped then s
      else probeAll n (setSeg n (fun g => { g with start := none, window := some { firstCs := none, raise := s.cyc.beat.toNat, raised := false } }) s)) s

/-- STARTMODE of CYC_CFG: 3 acts as 2 (R173). -/
def startMode (s : State) : Nat := min 2 (fld s.cyc.cfg 2 2)

/-- An OFFLINE module assumes ACTIVE on its own (R63, R67, R168). -/
def startAlone (s : State) : State :=
  if !mayStart s || anySeen s .active || anySeen s .standby || anySeen s .update || !winsStart s then s
  else if epochExhausted s then pairPost 0x010A [] s
  else
    let s := setRole .active .none s
    let s := takeEpoch (nextEpoch s) 5 (goodStanding s) { s with pair := { s.pair with armed := true, joinAt := none } }
    svnAuto (startProgram (startMode s) (openWindows (openOutputs s)))

-- takeover (R70 to R76) -----------------------------------------------------------------------------------------------------------------------

/-- A STANDBY that may take over (R70, R113). -/
def candidate (s : State) : Bool :=
  s.pair.role == .standby && s.pair.armed && !s.flu.divHold && (s.pair.sub == .synchronised || fld s.pair.cfg 6 2 == 0)

/-- Writes that a takeover meets (R332): what the standby has taken is applied at B; forwarded and program-visible writes are lost. -/
def takeoverWrites (s : State) : State :=
  { s with od := { s.od with forwards := [], progWs := [], rxParts := [] } }

/-- The token's table is rebuilt from the module's own blocks (R532). -/
def rebuildToken (byCmd : Bool) (s : State) : State :=
  let keep (h : Holder) : Bool := h.slot == mySlot s && [4, 6, 9, 10].contains h.code
  let s := releaseToken (fun h => !keep h) s
  let more := (if changeIdle s then [] else [ownHolder s 3 0 0]) ++ (if byCmd then [ownHolder s 2 1 0] else [])
  { s with mnt := { s.mnt with holders := s.mnt.holders ++ more } }

/-- Instances of the present boundary whose image had not come are latched by the new active itself (R74). -/
def catchUp (s : State) : State :=
  (List.range 16).foldl
    (fun s t =>
      let k := taskOf s t
      if !leads s t || k.desc.kind != 0 || k.inFlight || k.lastStart == some (startBeat k.desc s.cyc.beat.toNat) then s
      else setTask t (fun k => { k with latchDue := some (originOf s t + k.desc.latch * 1000), st := 2 }) s) s

/-- Command slots that waited for the old active's DIGEST are handed over. -/
def handWaiting (s : State) : State :=
  (List.range 80).foldl (fun s t => if (taskOf s t).handWait then handCommit t s else s) s

/-- The warm restart of a takeover from RESYNC (R75): outputs stay at substitute values from now on. -/
def warmTakeover (s : State) : State :=
  let s := pairPost 0x0109 [] s
  if s.run.prog.isNone then s else restartBegin { cold := false, begun := false, snap := false, inited := false, b0 := none } s

/-- What both kinds of takeover do once the role and the epoch have changed. -/
def takeoverCommon (s : State) : State :=
  let s := takeoverWrites (endFolSessions s)
  { s with
    run := { s.run with fired := [] }
    cyc := { s.cyc with
      releasing := s.cyc.pstate == .running
      evtPend := s.run.fired.foldl (fun w t => setBit w (t - 16)) s.cyc.evtPend } }

/-- Event tasks whose trigger had been forwarded, and whose image had not come, are released by the new active (R74, R161). -/
def releaseHeard (s : State) : State := (List.range 80).foldl (fun s t => releasePending t s) s

/-- A takeover (R50, R71): the lost slot stands outside the claim's members. -/
def takeOver (lost : Slot) (at_ : Nat) (s : State) : State :=
  if epochExhausted s then pairPost 0x010A [] s
  else
    let warm := s.pair.sub == .resync
    let byCmd := warm && s.flu.resync.byCmd
    let old := s.pair.epoch
    let s := setRole .active .none s
    let s := takeEpoch (nextEpoch s) 1 (goodStanding s &&& ~~~(memberBit lost)) s
    let s := openOutputs (pairInt 3 s)
    let s := { s with pair := { s.pair with
      takeTime := s.tim.time, takeCount := satInc s.pair.takeCount, takeover := some (old, s.pair.epoch, at_), tookAt := some at_, lossAt := none } }
    let s := takeoverCommon (tellTakeover s)
    let s := clearTwin (changeTakeover s)
    let s := rebuildToken byCmd { s with flu := { s.flu with resync := {} } }
    let s := if warm then warmTakeover s else resend (catchUp (releaseHeard (handWaiting s)))
    svnAuto s

/-- The announced switch point has come (R86, R552): exactly the announced epoch; the old active stays a member, is the
standby, and relays its ends: their CYCLE-START frames of S leave at once. -/
def switchOver (old : Slot) (epoch : Word) (s : State) : State :=
  let s := setRole .active .none s
  let s := takeEpoch epoch 2 (goodStanding s ||| memberBit old) s
  let q := peerOf s.pair old
  let s := openOutputs { s with pair := { setPeer s.pair old { q with role := some .standby, sub := .resync } with tookAt := none } }
  let s := takeoverCommon s
  let s := { s with
    fluq := { s.fluq with images := [], relays := [] }
    flu := { s.flu with resync := { phase := 5, since := s.now } } }
  svnAuto (relayCycleStarts (resend (catchUp (releaseHeard (handWaiting (pairPost 0x0101 [] (pairInt 4 s)))))))

/-- The moment of a boundary ahead. -/
def boundaryAt (s : State) (b : Nat) : Nat := s.cyc.beatAt + (b - s.cyc.beat.toNat) * 250000

/-- A loss at the announced switch point: from 20 µs before S on, less the alignment of ±1 µs (R86, R114). -/
def atSwitch (s : State) : Option Word :=
  match s.pair.switchSeen with
  | some w => if w.acked && decide (boundaryAt s w.beat ≤ s.now + 21000) then some w.epoch else none
  | none => none

/-- The standby declares the loss of the active's toggle (R70, R71, R76, R86). -/
def standbyLoss (x : Slot) (s : State) : State :=
  if !candidate s then s
  else match atSwitch s with
    | some e => switchOver x e s
    | none =>
      if mySlot s = .c then { s with pair := { s.pair with lossAt := some s.now } } else takeOver x s.now s

-- Dampers (R57 to R59, R549) -----------------------------------------------------------------------------------------------------------------

def damperLive (s : State) (x : Slot) : Bool := rickLive s && !s.sup.failSilent && x != mySlot s

/-- Another slot's line is recognised as toggling. -/
def damperToggling (x : Slot) (s : State) : State :=
  let p := peerOf s.pair x
  if !damperLive s x || p.toggling then s
  else
    let s := pairInt 1 { s with pair := setPeer s.pair x { p with toggling := true, togAt := s.now, misTold := false, busyAt := some s.now } }
    gateOutputs { s with pair := { s.pair with lossAt := none } }

/-- Loss of toggle on another slot's line. -/
def damperLost (x : Slot) (s : State) : State :=
  let p := peerOf s.pair x
  if !damperLive s x || !p.toggling then s
  else
    let act := activeSlot s == some x
    let s := { s with pair := { setPeer s.pair x { p with toggling := false, edges := 0, misTold := false } with lossCount := satInc s.pair.lossCount } }
    if s.pair.role = .active then tellTakeover (gateOutputs s) else if act then standbyLoss x s else s

/-- A level change that is held `ns` (R57): a valid edge counts toward recognition, a shorter one is a glitch. -/
def damperEdge (x : Slot) (ns : Nat) (s : State) : State :=
  if !damperLive s x then s
  else if ns < 100 then { s with pair := { s.pair with glitchCount := satInc s.pair.glitchCount } }
  else
    let p := peerOf s.pair x
    let n := if p.edges ≠ 0 ∧ s.now - p.lastEdge ≤ 400 then p.edges + 1 else 1
    let s := { s with pair := setPeer s.pair x { p with edges := min n 4, lastEdge := s.now } }
    if 4 ≤ n then damperToggling x s else s

/-- No claim message from the slot since its line began to toggle. -/
def noClaimSince (p : Peer) : Bool :=
  match p.claimAt with
  | some t => decide (t < p.togAt)
  | none => true

/-- R59: ACTIVE, another line toggling, no claim message heard from any slot. -/
def foreignFence (s : State) : State :=
  match (others s).find? (fun x => (peerOf s.pair x).toggling) with
  | some x =>
    let t := (peerOf s.pair x).togAt
    let quiet := (others s).all (fun y => match (peerOf s.pair y).claimAt with
      | some c => decide (c < t)
      | none => true)
    if rickLive s && s.pair.role == .active && quiet then fence s.pair.epochSeen 0x20 (u8 (slotNo x)) s else s
  | none => s

/-- R549: the two cases of event 0x0107. -/
def roleMismatch (x : Slot) (s : State) : State :=
  let p := peerOf s.pair x
  if damperLive s x && p.toggling && !p.misTold && p.role != some .active && (noClaimSince p || p.notActAt.isSome) then
    pairPost 0x0107 [] { s with pair := setPeer s.pair x { p with misTold := true } }
  else s

-- the claim record (R52) ------------------------------------------------------------------------------------------------------------------------

/-- The two copies lie in the configuration area (log 44). -/
def claimAddr (second : Bool) : Nat := if second then 0x3CC10800 else 0x3CC10000

/-- The epoch that the record takes: an announced one while the switch message stands (R86). -/
def recordEpoch (s : State) : Word :=
  match s.pair.switchSeen with
  | some w => maxW s.pair.epoch w.epoch
  | none => s.pair.epoch

def claimRecord (s : State) : List Byte :=
  let b := le4 0x434C4D01 ++ le4 (recordEpoch s).toNat ++ le4 (s.pair.recSeq.toNat + 1) ++ u8 (slotNo (mySlot s)) ++ u8 (b2n s.pair.fenceMark) ++
    zeros 2 ++ le8 s.tim.time.toNat ++ zeros 4
  b ++ le4 (crc32c b).toNat

/-- The standby acknowledges the switch message (R86, R552): not with its key in SERVICE or its lever open, nor having heard the epoch. -/
def ackSwitch (s : State) : State :=
  match s.pair.switchSeen, activeSlot s with
  | some w, some x =>
    if w.acked ∨ s.hw.key = .service ∨ s.hw.ejectOpen ∨ w.epoch.toNat ≤ (heardEpoch s).toNat ∨ w.epoch = 0xFFFFFFFF then s
    else sendFlue (some x) (.switchAck { beat := BitVec.ofNat 64 w.beat, epoch := w.epoch })
      { s with pair := { s.pair with switchSeen := some { w with acked := true } } }
  | _, _ => s

/-- The write completes or fails (R52). -/
def recordDone (ok : Bool) (s : State) : State :=
  if !s.pair.recBusy || s.sup.bankHeld then s
  else if ok then
    let s := { s with mem := writeBytes s.mem (claimAddr s.pair.recSecond) (claimRecord s) }
    ackSwitch (cfgDraw { s with pair := { s.pair with
      recSeq := s.pair.recSeq + 1, recSecond := !s.pair.recSecond, recBusy := false, recFailed := false } })
  else
    let s := postIf (!s.pair.recFailed) 0x0106 0x4B [] s
    { s with pair := { s.pair with recFailed := true, recBusy := false } }

-- dead partners and the reserve (R77 to R81) ------------------------------------------------------------------------------------------------------

/-- PROMOTE to slot C (R79, R122). -/
def sendPromote (action : Nat) (s : State) : State :=
  sendFlue (some .c) (.promote { target := .c, action := action, epoch := s.pair.epoch }) s

/-- A module in RESERVE stands in slot C. -/
def reserveSeen (s : State) : Bool := mySlot s != .c && seenIn s .reserve .c

/-- R78: a new epoch unless one was taken after the module was last heard (event 0x0105, the role stays); in either case a claim message whose
members leave the dead module out. -/
def deadEpoch (x : Slot) (s : State) : State :=
  let late : Bool := match (peerOf s.pair x).heardAt with
    | some t => decide (t < s.pair.epochAt)
    | none => true
  let members := goodStanding s &&& ~~~(memberBit x)
  let claim (s : State) : State :=
    sendFlue none (.claim { epoch := s.pair.epoch, slot := mySlot s, reason := 3, members := members, rept := 0, time := s.tim.time }) s
  if late ∧ !s.pair.claimed.isEmpty then claim s
  else if epochExhausted s then claim (pairPost 0x010A [] s)
  else pairPost 0x0105 [] (takeEpoch (nextEpoch s) 3 members s)

/-- The ACTIVE module declares another dead (R77 to R79). -/
def partnerDead (x : Slot) (s : State) : State :=
  let p := peerOf s.pair x
  if !rickFull s || s.pair.role != .active || x == mySlot s || p.dead || !(p.role == some .active || p.role == some .standby) then s
  else
    let s := { s with pair := setPeer s.pair x { p with dead := true } }
    let s := pairPost 0x0102 [] (pairInt 6 (deadEpoch x s))
    let s := releaseToken (fun h => h.slot == x) s
    let s := if (standbySlot s).isNone then { clearTwin s with flu := { (clearTwin s).flu with resync := {} } } else s
    if (standbySlot s).isNone && reserveSeen s && bit s.pair.cfg 5 then sendPromote 0 s else s

/-- PROMOTE_RESERVE (R91). -/
def promoteReserve (s : State) : State × Nat :=
  if s.pair.role ≠ .active then (s, 0x2203)
  else if !reserveSeen s then (s, 0x2206)
  else (sendPromote 0 s, 0)

/-- The daily self-test ends (R80). -/
def selfTestEnd (s : State) : State :=
  if s.pair.role ≠ .reserve ∨ s.pair.selfTest.isNone then s else bank { s with pair := { s.pair with selfTest := none } }

-- switchover (R85, R86, R552, R553) ----------------------------------------------------------------------------------------------------------------

/-- The checks of R85 on the active; 0: passed. -/
def switchCheck (s : State) : Nat :=
  match standbySlot s with
  | none => 0x2202
  | some x =>
    let p := peerOf s.pair x
    if p.sub ≠ .synchronised ∨ !bit p.flags 0 then 0x2201
    else if changeBusy s then 0x2204
    else if s.pair.switch.isSome then 0x2205
    else 0

/-- S (R86): the first boundary at least 4 beats ahead that is not a swap beat. -/
def switchBeat (s : State) : Nat :=
  let b := s.cyc.beat.toNat + (if s.now = s.cyc.beatAt then 4 else 5)
  if s.chg.goSent && s.chg.swapBeat.toNat == b then b + 1 else b

/-- An accepted switchover on the active. -/
def beginSwitch (service : Bool) (s : State) : State :=
  let b := switchBeat s
  let e := nextEpoch s
  let s := { s with pair := { s.pair with switch := some { beat := b, epoch := e, acked := false, service := service } } }
  match standbySlot s with
  | some x => sendFlue (some x) (.switch { beat := BitVec.ofNat 64 b, epoch := e }) s
  | none => s

/-- The switchover requested on the active (R85, R529); 0 or the abort code. A commanded request ends a resync in its phases 2 to 5
(R129); the repeated ones of R553 do not (log 47). -/
def requestSwitch (session : Nat) (service : Bool) (s : State) : State × Nat :=
  let s := if service then s else endResync s
  let c := switchCheck s
  let h := ownHolder s 1 0 session
  if c ≠ 0 then (s, c)
  else if !tokenFree s h then (tokenBusy h s, 0x2901)
  else (beginSwitch service (takeToken h s), 0)

/-- A cancelled switchover (R86): CANCELLED, event 0x0108. -/
def cancelSwitch (s : State) : State :=
  let s := { s with pair := { s.pair with switch := none, cmdState := if s.pair.cmdState = 1 then 4 else s.pair.cmdState } }
  releaseToken (fun h => h.code == 1) (pairPost 0x0108 [] (pairInt 0 (pairInt 4 s)))

/-- The acknowledgement is missing 30 µs before S. -/
def switchNoAck (s : State) : State :=
  match s.pair.switch with
  | some w => if s.pair.role = .active ∧ !w.acked then cancelSwitch s else s
  | none => s

/-- Enabled tasks all run in twin execution: a former active executes every task already (R130). -/
def twinAll (s : State) : State :=
  { s with flu := { s.flu with
      syncTasks := (cyclicOn s).foldl (fun w t => setBit w t) 0, syncEvts := true, resync := { phase := 5, since := s.now }
      alignErr := none, alignOk := false } }

/-- 20 µs before S (R86): STANDBY in RESYNC phase 5, Damper and outputs off. Sessions on Folmonet and writes not yet carried end (R318,
R332). -/
def switchPoint (s : State) : State :=
  match s.pair.switch with
  | none => s
  | some w =>
    if s.pair.role ≠ .active ∨ !w.acked then s
    else
      let inFlight := s.run.tasks
      let s := setRole .standby .resync s
      let s := twinAll (endFolSessions { s with
        run := { s.run with tasks := inFlight.map (fun k => { k with latchDue := none }) }
        pair := { s.pair with leaveAfter := w.service || s.hw.ejectOpen || s.hw.key == .service, leaving := true }
        od := { s.od with
          progWs := [], taken := s.od.taken ++ s.od.txns.map (fun t => { no := t.no, beat := t.beat, entries := t.entries }), txns := [] }
        fluq := { s.fluq with images := [], own := [], peer := [], missed := 0 } })
      fluInt 0 s

/-- The module leaves the executing roles for OFFLINE: what it took part in ends. -/
def leaveRoles (s : State) : State :=
  let s := if changeIdle s then s else if s.pair.role = .active then endChange .abandoned 0 s else leaveChange s
  let s := setRole .offline .none (clearTwin s)
  { s with
    pair := { s.pair with joinAt := none, leaveAfter := false, leaving := false, returnC := false, serviceTold := false }
    flu := { s.flu with resync := {} }
    run := { s.run with restart := none, stopReq := false } }

/-- The old active has heard the new one's claim (R86): the switchover is complete; SERVICE or the lever takes it OFFLINE (R553). -/
def switchDone (s : State) : State :=
  if !s.pair.leaving then s
  else
    let after := s.pair.leaveAfter
    let s := { s with pair := { s.pair with leaving := false, cmdState := if s.pair.cmdState = 1 then 2 else s.pair.cmdState } }
    let s := releaseToken (fun h => h.code == 1) (pairPost 0x0101 [] (pairInt 0 (pairInt 4 s)))
    if after then leaveRoles s else s

/-- MAKE_OFFLINE (R92, R113). -/
def makeOffline (s : State) : State × Nat :=
  if s.pair.role = .active ∧ (standbySlot s).isSome then (s, 0x2203)
  else
    let mark := s.pair.fenceMark
    let s := clearDivergence (leaveRoles s)
    ({ s with pair := { s.pair with fenceMark := false, recBusy := s.pair.recBusy || mark } }, 0)

/-- A slot A or B module that carries A–B frames through slot C says so (R474). -/
def viaSeen (s : State) : Bool := [Slot.a, .b].any (fun x => x != mySlot s && heard s x && bit (peerOf s.pair x).flags 4)

/-- The request of SERVICE or of an open lever stands (R88, R474). -/
def serviceAsked (s : State) : Bool := s.hw.key == .service || s.hw.ejectOpen

/-- The lever's request is told once (R474). -/
def tellEject (s : State) : State :=
  if s.hw.ejectOpen && !s.hw.ejectTold then
    post 0x0C0A 0x01 (u8 (if s.pair.role = .active then 0 else 1)) { s with hw := { s.hw with ejectTold := true } }
  else s

/-- A boundary while SERVICE or the lever asks (R88, R474, R553). -/
def serviceBeat (s : State) : State :=
  if !serviceAsked s then s
  else match s.pair.role with
    | .active =>
      if s.pair.switch.isSome then { s with pair := { s.pair with switch := s.pair.switch.map (fun w => { w with service := true }) } }
      else
        let (s, c) := requestSwitch 0 true s
        if c = 0 then s
        else
          let s := if s.hw.ejectOpen ∧ c ≠ 0x2204 ∧ c ≠ 0x2901 then tellEject s else s
          if s.pair.serviceTold then s else pairPost 0x0108 [] { s with pair := { s.pair with serviceTold := true } }
    | .standby =>
      if (s.pair.switchSeen.map (fun w => w.acked)).getD false ∨ s.pair.leaving then s
      else if mySlot s = .c ∧ viaSeen s ∧ s.hw.key ≠ .service then tellEject s else leaveRoles s
    | .reserve => if viaSeen s ∧ s.hw.key ≠ .service then tellEject s else leaveRoles s
    | _ => s

-- PAIR_CMD (R94, R95) --------------------------------------------------------------------------------------------------------------------------------

/-- The outcome of a command in PAIR_CMD_STATUS: pending, done, refused. A refused SWITCHOVER is told by event 0x0108 (R93). -/
def cmdStatus (cmd : Nat) (r : State × Nat) : State × Nat :=
  let (s, c) := r
  let s := if cmd = 1 ∧ c ≠ 0 then pairPost 0x0108 [] s else s
  let st := if c ≠ 0 then 3 else if cmd = 1 then 1 else 2
  let s := { s with pair := { s.pair with cmdLast := BitVec.ofNat 8 cmd, cmdState := st, cmdAbort := BitVec.ofNat 16 c } }
  (if st = 1 then s else pairInt 0 s, c)

-- commands --------------------------------------------------------------------------------------------------------------------------------------------------

def execDamperToggleRecognised (slot : Slot) (s : State) : Host.Outcome State Fault Refusal := finish (damperToggling slot s)
def execLossOfToggle (slot : Slot) (s : State) : Host.Outcome State Fault Refusal := finish (damperLost slot s)

/-- 1.5 µs after a slot C candidate's loss declaration no other line has begun to toggle (R70). -/
def execReserveTakeoverWaitEnd (s : State) : Host.Outcome State Fault Refusal :=
  finish <|
  match s.pair.lossAt with
  | some t =>
    let s := { s with pair := { s.pair with lossAt := none } }
    if rickLive s && candidate s then takeOver ((activeSlot s).getD .a) t s else s
  | none => s

/-- A driven edge has not been read back within 160 ns (R58). -/
def execDamperReadbackLost (s : State) : Host.Outcome State Fault Refusal :=
  finish (if rickLive s && s.pair.driving then { s with pair := { s.pair with driving := false, outEn := false } } else s)

def execForeignToggleFence (s : State) : Host.Outcome State Fault Refusal := finish (foreignFence s)
def execDamperRoleMismatch (slot : Slot) (s : State) : Host.Outcome State Fault Refusal := finish (roleMismatch slot s)
def execClaimRecordWriteDone (ok : Bool) (s : State) : Host.Outcome State Fault Refusal := finish (recordDone ok s)
def execStartAlone (s : State) : Host.Outcome State Fault Refusal := finish (startAlone s)

/-- A refused or unanswered join is repeated every 100 ms (R68). -/
def execJoinRepeat (s : State) : Host.Outcome State Fault Refusal :=
  finish (if rickFull s && s.pair.joinAt.isSome && (s.pair.role == .offline || s.pair.role == .reserve) then sendJoin s else s)

def execPartnerDead (slot : Slot) (s : State) : Host.Outcome State Fault Refusal := finish (partnerDead slot s)
def execReserveSelfTestEnd (s : State) : Host.Outcome State Fault Refusal := finish (if runtimeLive s then selfTestEnd s else s)
def execSwitchAckTimeout (s : State) : Host.Outcome State Fault Refusal := finish (if rickLive s then switchNoAck s else s)
def execSwitchPoint (s : State) : Host.Outcome State Fault Refusal := finish (if rickLive s then switchPoint s else s)

/-- DMP_ARM (R55, R97). -/
def dmpArm (level : Level) (word : Word) (s : State) : State :=
  if level ≠ .m ∨ fld word 16 16 ≠ 0xA5C3 ∨ !rickLive s then s
  else if bit word 0 then
    if runsTasks s.pair.role then
      let s := { s with pair := { s.pair with armed := true } }
      if s.pair.role = .active then tellTakeover (openOutputs s) else s
    else s
  else { s with pair := { s.pair with armed := false, driving := false, outEn := false } }

def execDmpArm (level : Level) (word : Word) (s : State) : Host.Outcome State Fault Refusal := finish (dmpArm level word s)
def execDamperEdge (slot : Slot) (heldNs : Nat) (s : State) : Host.Outcome State Fault Refusal := finish (damperEdge slot heldNs s)

/-- Another slot's presence line (R66, R464). -/
def execPresenceLineChange (slot : Slot) (asserted : Bool) (s : State) : Host.Outcome State Fault Refusal :=
  finish (if damperLive s slot then { s with pair := setPeer s.pair slot { peerOf s.pair slot with present := asserted } } else s)

end Sys2Proof.Machine
end

