-- ==== Sys2Proof/Machine/Restart.lean ====
section
/-!
DEFINITION. What a restart of the module resets and what outlives it (01 R25 to R27, R38 to R40; 10 R351, R352; 11 R369; 15 R465, R472,
R476): the devices (NOR, MRAM), the retirement map, the persistent counters and the configuration store remain, Hearth's
always-on registers remain until power-on reset, every other register returns to its reset value.
-/

namespace Sys2Proof.Machine

/-- The supervisor at a restart (R27, R39, SUP_ contents survive it): regions held, no block isolated. -/
def supRestarted (p : Sup) : Sup :=
  { p with
    isolated := [], failSilent := false, kilnHeld := true, rickHeld := true, bankHeld := true, cordHeld := true
    bankDraining := false, runtimeUp := false, rickUp := false, cordUp := false
    faultLed := false, heldSilent := false
    fsPrev := false, clkHoldPrev := false }

/-- The supervisor at power-on reset: reset values, but for what the MRAM keeps (R18) and the latches in Hearth that outlive it (R26, R40). -/
def supPowered (p : Sup) : Sup :=
  { retireMap := p.retireMap, imgRows := p.imgRows, procRows := p.procRows, l2Ways := p.l2Ways, sysWays := p.sysWays
    retiredCount := p.retiredCount, atStart := p.atStart, simultaneous := p.simultaneous, fsCause := p.fsCause }

/-- Presence lines are read live (R66); nothing else is known of a slot. -/
def peerReset (p : Peer) : Peer := { present := p.present }

/-- The journal's devices, its lifetime count and the bucket of the configuration area (R369, R380, R393); the engine's registers
return to their reset values. -/
def jrnReset (j : Jrn) (now : Nat) : Jrn :=
  { segs := j.segs, gen := j.gen, lastSeg := j.lastSeg, dirCopy := j.dirCopy, wear := j.wear, cfgNano := j.cfgNano, cfgAt := j.cfgAt
    tokAt := now }

/-- The key store's non-volatile memory and its permit line, which falls at power-on reset only (R506, R512). -/
def ksReset (k : Ks) : Ks := { k with sel := 0, resultCmd := 0, result := 0, data := List.replicate 32 0 }

/-- The processors' regions at a restart: every register of Kiln, Rick, Bank and Cord is reset. Hearth's blocks keep theirs. -/
def regionsReset (s : State) : State :=
  { s with
    tim := { s.tim with setPend := none, source := 0, master := none, agreeing := 0, locked := false }
    clk := { s.clk with op := 0, target := 0, stepTo := none, supplyUp := false, dvfsTimeout := false, kdvSteps := 0 }
    pair := { peerA := peerReset s.pair.peerA, peerB := peerReset s.pair.peerB, peerC := peerReset s.pair.peerC }
    flu := { divTimes := s.flu.divTimes, divHold := s.flu.divHold, divLife := s.flu.divLife }
    fluq := {}
    cyc := {}
    run := {}
    chg := { count := s.chg.count, forces := if forcePersist s then s.chg.forces else [] }
    fol := { ports := s.fol.ports.map (fun p => { sfp := p.sfp, sfpTold := p.sfpTold }) }
    cord := { switchRaw := s.cord.switchRaw }
    legal := {}
    aud := {}
    scl := {} }

/-- The object dictionary keeps its store, its lifetime count and the jack's link; sessions and transfers are gone. -/
def odReset (o : Od) : Od :=
  { vals := o.vals, savedAt := o.savedAt, storeOk := o.storeOk, failCount := o.failCount, linkUp := o.linkUp, handles := o.handles }

/-- Ember's registers are reset only at power-on (R443); a pending request is lost (R439), and RESUMED is cleared by a start. -/
def embRestarted (e : Emb) : Emb :=
  { e with state := .run, resumed := false, result := if e.result = 1 then 0 else e.result, latch := 0, step := .none, promote := none }

def restReset (s : State) : State :=
  { s with
    od := odReset s.od
    upd := { s.upd with fw := List.replicate 4 {}, debugChal := none, autoDone := false }
    ks := ksReset s.ks
    jrn := jrnReset s.jrn s.now
    evr := { gAt := s.now }
    gate := {}
    dic := { queueAt := s.now }
    emb := embRestarted s.emb
    lio := { tripCount := s.lio.tripCount, inputs := s.lio.inputs }
    mnt := {}
    bus := {}
    out := [] }

/-- The module restarts with a cause (HPW_RESET_CAUSE): its start sequence comes next. -/
def restart (cause : Nat) (s : State) : State :=
  let s := restReset (regionsReset s)
  { s with
    sup := supRestarted s.sup
    hw := { s.hw with resetCause := cause, ejectTold := false }
    clk := { s.clk with phase := .ready } }

/-- What power keeps: the NOR and the MRAM (R35); every SRAM and DRAM byte is lost. -/
def poweredOff (m : Memory) : Memory := m.filter (fun c => decide (0x20000000 ≤ c.1 ∧ c.1 < 0x40000000))

/-- The rails have fallen (R40, R472, R502): what only power holds is gone. -/
def railsFall (s : State) : State :=
  { s with
    mem := poweredOff s.mem
    sup := { s.sup with fsCause := 0, simultaneous := none }
    hw := { s.hw with powerDown := true, porReleased := false }
    upd := { s.upd with staged := [] } }

/-- Power-on reset is released (R343, R465): Hearth begins on FIRC with the factory trim, every other region held. -/
def powerOn (s : State) : State :=
  let holds := s.clk.holdCount
  let s := restReset (regionsReset s)
  { s with
    sup := supPowered s.sup
    hw := { s.hw with
      porReleased := true, resetCause := 0, flags := 0, powerPeak := 0, holdup := true, ejectTold := false, lampUntil := s.now + 400000000 }
    clk := { phase := .xt1, holdCount := holds, trim := Config.factoryTrim }
    upd := { s.upd with debugOpen := false }
    ks := { s.ks with permit := false }
    emb := {} }

end Sys2Proof.Machine
end

