-- ==== Sys2Proof/Machine/Update.lean ====
section
/-!
DEFINITION. Firmware update and recovery (16 R494, R498 to R502), key and debug entries as the runtime passes them to Cord (R507 to R512).
Effects answer with an abort code, 0 for none.
-/

namespace Sys2Proof.Machine

/-- A mailbox request that the runtime makes for a client (R264): BUSY leads to 0x2506, else Cord's status is the code. -/
def viaMbx (op : Nat) (f : MbxRq → State → State × MbxRes) (m : MbxRq) (s : State) : State × Nat × MbxRes :=
  if !cordLive s || s.cord.busy then (s, 0x2506, { status := 0x2506 })
  else
    let (s, r) := mbxRun op (booted f) m s
    ({ s with cord := { s.cord with rspUnread := false } }, r.status, r)

/-- The handle of the open Verifier session, which the runtime puts into SESSION (R242). -/
def cordHandle (s : State) : Word := (s.cord.sess.map (fun v => v.handle)).getD 0

def mbxOf (s : State) (arg0 arg1 : Nat) (data : List Byte) : MbxRq :=
  { session := cordHandle s, arg0 := BitVec.ofNat 64 arg0, arg1 := BitVec.ofNat 64 arg1, data := data }

def mbxCode (op : Nat) (f : MbxRq → State → State × MbxRes) (arg0 arg1 : Nat) (data : List Byte) (s : State) : State × Nat :=
  let (s, c, _) := viaMbx op f (mbxOf s arg0 arg1 data) s
  (s, c)

-- staging and checks (R499, R500) -------------------------------------------------------------------------------------------

/-- The staged image: its header, its body, its component. -/
def stagedHdr (s : State) : List Byte := s.upd.staged.take 128
def stagedBody (s : State) : List Byte := s.upd.staged.drop 128
def stagedComp (s : State) : Nat := leAt (stagedHdr s) 4 1

/-- A whole image has been transferred; it replaces a staged one (R499). -/
def updateData (v : List Byte) (s : State) : State × Nat :=
  if s.upd.st = .writing then (s, 0x2801)
  else ({ s with upd := { s.upd with staged := v, st := .staged } }, 0)

/-- The newest audit entry of kind 0x02 records the identification that the staged image would give (R500). -/
def cordRecorded (s : State) (comp : Nat) : Bool :=
  (List.range s.aud.used).any (fun k => readLe s.mem (entryAddr (k + 1) + 4) 1 == 2) &&
    recordedId s == (idWith s comp (stagedHdr s) (stagedBody s)).take 4

/-- The checks of R493 and R500 on the staged image. -/
def updateChecks (s : State) : Nat :=
  let comp := stagedComp s
  if comp = 0 ∨ 4 < comp then 0x2804
  else
    let c := imageCheck s comp false (stagedHdr s) (stagedBody s)
    if c ≠ 0 then c
    else if comp = 1 then
      match partnerSeen s with
      | some x => if hdrCompat (stagedHdr s) = (peerOf s.pair x).compat then 0 else 0x2807
      | none => 0
    else if comp = 2 ∨ cordRecorded s comp then 0 else 0x280A

/-- UPDATE_CMD check (R500): CHECKED with event 0x0D00, or FAILED with the code. -/
def updateCheck (s : State) : State × Nat :=
  if s.upd.st ≠ .staged ∧ s.upd.st ≠ .checked then (s, 0x2801)
  else
    let c := updateChecks s
    if c ≠ 0 then ({ s with upd := { s.upd with st := .failed, lastResult := BitVec.ofNat 16 c } }, c)
    else
      let h := stagedHdr s
      (post 0x0D00 0x06 (u8 (stagedComp s) ++ le4 (hdrVersion h).toNat ++ u8 (hdrSvn h)) { s with upd := { s.upd with st := .checked } }, 0)

/-- The module stands in the resident loader, in UPDATE: Kiln core 0, Rick's blocks and Bank run, no firmware does (R494, R501). -/
def inLoader (s : State) : State :=
  { s with
    pair := { silence s.pair with role := .update }
    sup := { s.sup with kilnHeld := false, rickHeld := false, bankHeld := false }
    clk := { s.clk with phase := .run } }

/-- The module enters UPDATE (R64, R501): event 0x0D01 is written, and it restarts into the resident loader with cause 3. The update record
stands open from here on (R502). -/
def enterUpdate (s : State) : State :=
  let s := if s.pair.role = .standby then leaveChange s else s
  let s := setRole .update .none (clearTwin s)
  let s := drainEvents (post 0x0D01 0x06 [] { s with upd := { s.upd with
      st := .writing, record := some { comp := stagedComp s, sha := sha256 s.upd.staged, begun := false } } })
  inLoader (restart 3 s)

/-- The refusals of UPDATE_CMD start (R500), before the token. -/
def updateRefused (s : State) : Nat :=
  if s.upd.st ≠ .checked then 0x2801
  else if s.pair.role ≠ .standby ∧ s.pair.role ≠ .reserve ∧ s.pair.role ≠ .offline then 0x2805
  else if changeBusy s then 0x2204
  else if isolated s 0x62 then 0x2808
  else 0

/-- UPDATE_CMD start where this module keeps the token (R500, R531). -/
def updateStart (session : Nat) (s : State) : State × Nat :=
  let c := updateRefused s
  let h := ownHolder s 5 0 session
  if c ≠ 0 then (s, c)
  else if !tokenFree s h then (tokenBusy h s, 0x2901)
  else (enterUpdate (takeToken h s), 0)

/-- UPDATE_CMD discard: IDLE from any state except WRITING (R499). -/
def updateDiscard (s : State) : State × Nat :=
  if s.upd.st = .writing then (s, 0x2801) else ({ s with upd := { s.upd with st := .idle, staged := [] } }, 0)

-- the loader (R494, R501, R502) --------------------------------------------------------------------------------------------------

/-- An image written over its component's region; the part beyond it is left erased (R493). -/
def programRegion (comp : Nat) (h body : List Byte) (s : State) : State :=
  let b := norBase comp
  let e := [0x22080000, 0x22100000, 0x22200000, 0x22300000].getD (comp - 1) b
  { s with mem := writeBytes (clearRange s.mem b e) b (h ++ body.take (hdrLen h)) }

/-- The update ends with a result: the record is closed, nothing is staged, and the next start posts event 0x0D02 with both versions, or
0x0D03 with the cause. -/
def closeUpdate (result : Nat) (newVer : Word) (s : State) : State :=
  let ev := if result = 0 then evRecs 0x0D02 0x06 (le4 s.upd.oldVersion.toNat ++ le4 newVer.toNat) else evRecs 0x0D03 0x06 (le2 result)
  { s with
    upd := { s.upd with record := none, st := .idle, staged := [], lastResult := BitVec.ofNat 16 result }
    sup := { s.sup with atStart := s.sup.atStart ++ ev } }

/-- Steps 1 to 6 of R501. MINRT is compared with the runtime in the NOR. -/
def loaderUpdate (readbackOk : Bool) (s : State) : State :=
  if s.pair.role ≠ .update ∨ s.upd.st ≠ .writing ∨ s.sup.kilnHeld then s
  else
    let comp := stagedComp s
    let h := stagedHdr s
    let old := norHeader s comp
    if s.upd.staged.isEmpty || s.upd.record.any (fun r => r.sha != sha256 s.upd.staged) then restart 3 (closeUpdate 0x2808 0 s) else
    let c := imageCheck (setFw 1 (fwOf (norHeader s 1)) s) comp false h (stagedBody s)
    let s := { s with upd := { s.upd with oldVersion := hdrVersion old } }
    if c ≠ 0 then restart 3 (closeUpdate c 0 s)
    else
      let s := { s with upd := { s.upd with record := some { comp := comp, sha := sha256 s.upd.staged, begun := true } } }
      let s := programRegion comp h (stagedBody s) s
      restart 3 (closeUpdate (if readbackOk then 0 else 0x2808) (hdrVersion h) s)

/-- A runtime image in recovery (R494): checked, written, and the module restarts; another image changes nothing. -/
def recoveryImage (image : List Byte) (s : State) : State :=
  if !s.upd.recovery ∨ s.pair.role ≠ .update ∨ s.sup.kilnHeld ∨ !s.od.linkUp then s
  else
    let h := image.take 128
    let body := image.drop 128
    if imageCheck s 1 false h body ≠ 0 then s
    else restart 3 (programRegion 1 h body { s with upd := { s.upd with recovery := false } })

-- counters and keys (R498, R506 to R512) -------------------------------------------------------------------------------------------

/-- SVN_COMMIT of a component: the NOR's counters by the runtime, Cord's by ARB_ADVANCE (R497, R498). -/
def svnCommit (comp : Nat) (s : State) : State × Nat :=
  if comp ≤ 2 then (advanceArb comp s, 0) else mbxCode 0x0048 opArbAdvance comp 0 [] s

/-- CREDENTIAL_ENROL (R509, R516): levels 1, 2 and 4. -/
def credEnrol (v : List Byte) (s : State) : State × Nat :=
  let level := leAt v 1 1
  if v.length ≠ 36 then (s, 0x0605)
  else if level = 3 then (s, 0x0603)
  else if level = 0 then (s, 0x0609)
  else mbxCode 0x0043 opKsEnrol 0 0 v s

/-- CREDENTIAL_REVOKE (R509): a level-3 slot is revoked by a Verifier session only (R510). -/
def credRevoke (slot : Nat) (s : State) : State × Nat :=
  if (credAt s.ks slot).any (fun c => c.level == 3) then (s, 0x0603) else mbxCode 0x0044 opKsRevoke 1 slot [] s

/-- PROGKEY_ENROL: SLOT, three zero bytes, KEY. -/
def progEnrol (v : List Byte) (s : State) : State × Nat :=
  if v.length ≠ 36 then (s, 0x0605) else if leAt v 1 3 ≠ 0 then (s, 0x0609) else mbxCode 0x0043 opKsEnrol 0 0 v s
def progRevoke (slot : Nat) (s : State) : State × Nat := mbxCode 0x0044 opKsRevoke 2 slot [] s

def keyLoad (v : List Byte) (s : State) : State × Nat :=
  if v.length ≠ 72 then (s, 0x0605) else mbxCode 0x0045 opKsLoad 0 0 v s

/-- VERIFIER_ENROL and VERIFIER_REVOKE (R510): level 3 in verification mode. -/
def verEnrol (v : List Byte) (s : State) : State × Nat :=
  if v.length ≠ 36 then (s, 0x0605) else if leAt v 1 1 ≠ 3 then (s, 0x0609) else mbxCode 0x0043 opKsEnrol 0 0 v s
def verRevoke (slot : Nat) (s : State) : State × Nat :=
  if (credAt s.ks slot).any (fun c => c.level != 3) then (s, 0x0603) else mbxCode 0x0044 opKsRevoke 1 slot [] s

/-- ZEROISE (R511): the module OFFLINE. -/
def zeroiseObj (s : State) : State × Nat := mbxCode 0x0049 opZeroise 0 0 [] s

/-- DEBUG_UNLOCK: credential slot, three zero bytes, signature. A client outside OFFLINE is refused with 0x280D (R512), a mailbox request with
0x2805 (R515). -/
def debugUnlock (v : List Byte) (s : State) : State × Nat :=
  if v.length ≠ 68 then (s, 0x0605) else if s.pair.role ≠ .offline then (s, 0x280D) else mbxCode 0x004B opDebugUnlock 0 0 v s

/-- DEBUG_CHALLENGE, read: the challenge. -/
def debugChallenge (s : State) : State × Nat × List Byte :=
  let (s, c, r) := viaMbx 0x004A opDebugChallenge (mbxOf s 0 0 []) s
  (s, c, r.data)

-- commands ------------------------------------------------------------------------------------------------------------------------------

def execLoaderUpdate (readbackOk : Bool) (s : State) : Host.Outcome State Fault Refusal := finish (loaderUpdate readbackOk s)
def execRecoveryImage (image : List Byte) (s : State) : Host.Outcome State Fault Refusal := finish (recoveryImage image s)

end Sys2Proof.Machine
end

