-- ==== Sys2Proof/Machine/Maint.lean ====
section
/-!
DEFINITION. COMMISSION and the fault injector's run (17 R533 to R538, R543).
-/

namespace Sys2Proof.Machine

def fijPost (code : Nat) (data : List Byte) (s : State) : State := post code 0x4C data s

/-- The injector answers: Rick runs, its block is not isolated. -/
def fijLive (s : State) : Bool := rickFull s && !isolated s 0x4C

/-- FIJ_COMM.COMMISSION changes (R533, R543): events 0x0E03 and 0x0E04; clearing it stops a run and returns PATHSEL to 0. -/
def setCommission (on : Bool) (s : State) : State :=
  if s.mnt.comm = on then s
  else
    let s := { s with mnt := { s.mnt with comm := on }, cord := crdLine 4 true s }
    if on then post 0x0E03 0x05 [] s
    else
      let s := fijStopRun 3 s
      post 0x0E04 0x05 [] { s with flu := { s.flu with
        cfg := setFld s.flu.cfg 2 2 0, cfgNext := s.flu.cfgNext.map (fun w => setFld w 2 2 0) } }

def fijComm (level : Level) (word : Word) (s : State) : State :=
  if level ≠ .m ∨ fld word 16 16 ≠ 0xC0C0 ∨ !fijLive s then s else setCommission (bit word 0) s

/-- Enabled rules, one bit each. -/
def fijEnabled (s : State) : Nat :=
  ((List.range 12).map (fun r => if bit (s.mnt.rules.getD r {}).cfg 31 then 2 ^ r else 0)).sum

/-- The first three conditions of R538. -/
def fijRefused (s : State) : Nat :=
  if !s.mnt.comm then 0x2902
  else if !fijRole s.pair.role then 0x2904
  else if s.mnt.running ∨ fijEnabled s = 0 ∨ !fijLive s then 0x2903
  else 0

/-- Run length in s: 0 acts as 1, more than 3,600 as 3,600. -/
def fijSeconds (s : State) : Nat := max 1 (min 3600 (fld s.mnt.duration 0 16))

/-- The run begins (R536, R538): each rule's account and LFSR start, event 0x0E10. -/
def fijRun (s : State) : State :=
  let seed : Word := if s.mnt.seed = 0 then 1 else s.mnt.seed
  let rules := s.mnt.rules.map (fun r => { r with seen := 0, acted := 0, lfsr := seed })
  let m := { s.mnt with running := true, stopCause := 0, startedAt := s.now, elapsed := 0, rules := rules }
  fijPost 0x0E10 (le2 (fijEnabled s) ++ le4 s.mnt.seed.toNat ++ le2 (fijSeconds s)) { s with mnt := m }

/-- START where this module keeps the token (R538). -/
def fijStart (session : Nat) (s : State) : State × Nat :=
  let c := fijRefused s
  let h := ownHolder s 9 0 session
  if c ≠ 0 then (s, c)
  else if !tokenFree s h then (tokenBusy h s, 0x2901)
  else (fijRun (takeToken h s), 0)

/-- FIJ_CMD (R543): M mode and its key. -/
def fijCmd (level : Level) (word : Word) (s : State) : State :=
  if level ≠ .m ∨ fld word 16 16 ≠ 0xF1A5 ∨ !fijLive s then s
  else match fld word 0 8 with
    | 1 => (fijStart 0 s).1
    | 2 => fijStopRun 1 s
    | _ => s

/-- FIJ_CLEAR (R543): ignored while a run is in progress. -/
def fijClear (level : Level) (word : Word) (s : State) : State :=
  if level ≠ .m ∨ !bit word 0 ∨ s.mnt.running ∨ !fijLive s then s
  else { s with mnt := { s.mnt with haltWr := false, rules := s.mnt.rules.map (fun r => { r with hits := 0, miss := 0 }) } }

/-- A rule's miss is counted (R537). -/
def fijMiss (k : Nat) (s : State) : State :=
  { s with mnt := { s.mnt with rules := modAt s.mnt.rules k (fun r => { r with miss := satInc r.miss }) } }

-- commands ----------------------------------------------------------------------------------------------------------

def execFijComm (level : Level) (word : Word) (s : State) : Host.Outcome State Fault Refusal := finish (fijComm level word s)

/-- FIJ_DURATION has expired (R538). -/
def execFijRunExpiry (s : State) : Host.Outcome State Fault Refusal := finish (if fijLive s then fijStopRun 2 s else s)
def execFijClear (level : Level) (word : Word) (s : State) : Host.Outcome State Fault Refusal := finish (fijClear level word s)

end Sys2Proof.Machine
end

