-- ==== Sys2Proof/Machine/ObjApply.lean ====
section
/-!
DEFINITION. The configuration store (09 R333, R334) and what a stored value sets when it takes effect (R326): the registers and tables that each
chapter's entries name. A Beat field goes into its double buffer and is taken at the boundary.
-/

namespace Sys2Proof.Machine

-- the store -----------------------------------------------------------------------------------------------------------

/-- Values in ascending order of index and subindex. -/
def valBefore (a b : CfgVal) : Bool := decide (a.index < b.index) || (a.index == b.index && decide (a.sub < b.sub))
def insertVal (x : CfgVal) : List CfgVal → List CfgVal
  | [] => [x]
  | y :: ys =>
    if valBefore x y then x :: y :: ys
    else if valBefore y x then y :: insertVal x ys
    else x :: ys

/-- A value goes into the store. -/
def storeVal (idx sub : Nat) (v : List Byte) (s : State) : State :=
  { s with od := { s.od with vals := insertVal { index := idx, sub := sub, val := v } s.od.vals, savedAt := s.tim.time, storeOk := true } }

/-- The entry is copied to the partner. -/
def copiedEntry (idx sub : Nat) : Bool := (metaOf idx sub).any (fun m => m.copied)

/-- Type code of an entry. -/
def entryType (idx sub : Nat) : Nat := ((metaOf idx sub).map (fun m => m.ty.code)).getD 13

/-- The bytes that CONFIG_ID hashes for an entry (R334). -/
def hashEntry (x : CfgVal) : List Byte := be2 x.index ++ u8 x.sub ++ u8 (entryType x.index x.sub) ++ be4 x.val.length ++ x.val

/-- Copied entries of the dictionary, in ascending order. -/
def copiedKeys : List (Nat × Nat) :=
  ([0x1100] ++ (List.range 4).map (· + 0x1201) ++ [0x1300] ++ (List.range 80).map (· + 0x1310) ++ [0x1361] ++ (List.range 8).map (· + 0x1370) ++
    [0x1400, 0x1600, 0x1751] ++ (List.range 0x4000).map (· + 0x2000)).flatMap
    (fun i => ((List.range 20).filter (copiedEntry i)).map (fun k => (i, k)))

/-- A copied value as it stands, stored or default. -/
def copiedVal (vals : List CfgVal) (k : Nat × Nat) : CfgVal :=
  match vals.find? (fun v => v.index == k.1 && v.sub == k.2) with
  | some v => v
  | none => { index := k.1, sub := k.2, val := ((metaOf k.1 k.2).map (fun m => m.dflt)).getD [] }

/-- CONFIG_ID of a store (R334). -/
def configIdOf (vals : List CfgVal) : Word :=
  BitVec.ofNat 32 (beNat ((sha256 (copiedKeys.flatMap (fun k => hashEntry (copiedVal vals k)))).take 4))
def configId (s : State) : Word := configIdOf s.od.vals

-- effects -------------------------------------------------------------------------------------------------------------

def pairField (lo len v : Nat) (s : State) : State :=
  { s with pair := { s.pair with cfgNext := some (setFld (s.pair.cfgNext.getD s.pair.cfg) lo len v) } }
def fluField (lo len v : Nat) (s : State) : State :=
  { s with flu := { s.flu with cfgNext := some (setFld (s.flu.cfgNext.getD s.flu.cfg) lo len v) } }
def cycField (lo len v : Nat) (s : State) : State :=
  { s with cyc := { s.cyc with cfgNext := some (setFld (s.cyc.cfgNext.getD s.cyc.cfg) lo len v) } }
def lioField (lo len v : Nat) (s : State) : State :=
  { s with lio := { s.lio with policyNext := some (setFld (s.lio.policyNext.getD s.lio.policy) lo len v) } }

/-- 0x1100 (R90, R132): PAIR_CFG and FLU_CFG. -/
def applyPair (sub v : Nat) (s : State) : State :=
  match sub with
  | 0x06 => pairField 16 16 v s
  | 0x07 => pairField 6 2 v s
  | 0x08 => pairField 5 1 v s
  | 0x10 => fluField 12 10 v s
  | 0x11 => fluField 8 4 v s
  | 0x12 => fluField 4 4 v s
  | _ => s

def segField (n lo len v : Nat) (s : State) : State :=
  { s with run := { s.run with segs := modAt s.run.segs n (fun w => setFld w lo len v) } }

/-- 0x1201 + n (R228): FPT_MARKS, FPT_CFG, FPT_CFGID and CYC_SEGn. -/
def applySegment (n sub v : Nat) (s : State) : State :=
  match sub with
  | 0x03 => setPort n (fun p => { p with marks := setFld p.marks 0 32 (v * 1000) }) s
  | 0x04 => setPort n (fun p => { p with marks := setFld p.marks 32 32 (v * 1000) }) s
  | 0x05 => segField n 0 3 v s
  | 0x06 => segField n 8 8 (v % 64) s
  | 0x07 => segField n 16 16 (min v 0xFFFF) s
  | 0x08 => setPort n (fun p => { p with cfg := setFld p.cfg 16 16 v }) s
  | 0x09 => setPort n (fun p => { p with cfgid := BitVec.ofNat 32 v }) s
  | _ => s

/-- 0x1300 (R169): CYC_CFG. -/
def applyProgram (sub v : Nat) (s : State) : State :=
  match sub with
  | 0x02 => cycField 2 2 v s
  | 0x04 => cycField 4 4 v s
  | _ => s

/-- 0x1400 (R362, R363): the 1588 servo switched off (R546: no discipline maintains the increment any more), the FIRC trim's source and port, and
the operating point's floor. -/
def applyTime (sub v : Nat) (s : State) : State :=
  match sub with
  | 0x03 =>
    if v = 0 then { s with tim := { s.tim with
      master := none, agreeing := 0, locked := false, source := if s.tim.locked then 2 else s.tim.source } }
    else s
  | 0x09 => { s with clk := { s.clk with trim := setFld s.clk.trim 30 2 v, fircCnt := clrBit s.clk.fircCnt 31 } }
  | 0x0A => { s with clk := { s.clk with trim := setFld s.clk.trim 28 2 v } }
  | 0x0C => if s.clk.op < v then kdvTarget .m (pack 32 [(16, 0xD5F0), (0, v)]) s else s
  | _ => s

/-- 0x1500 (R391). -/
def applyStore (sub v : Nat) (s : State) : State :=
  match sub with
  | 0x08 => seasonPauseTo (v != 0) s
  | 0x0B => { s with evr := { s.evr with rlen := v != 0 } }
  | _ => s

/-- 0x1600 (R460): LIO_CFG, LIO_POLICY, and the substitute byte in the substitute output image. -/
def applyLio (sub v : Nat) (s : State) : State :=
  match sub with
  | 0x01 => { s with lio := { s.lio with cfg := BitVec.ofNat 32 (v % 4) } }
  | 0x02 => lioField 0 2 (v % 4) (lioField 4 2 (v / 16) s)
  | 0x03 => lioField 8 2 v s
  | 0x04 => lioField 12 4 v s
  | 0x06 => { s with mem := writeByte s.mem (substBase + lioOut s.lio) (BitVec.ofNat 8 v) }
  | _ => s

/-- 0x1752 and 0x1753 (R540): the injector's rule registers, duration and seed. -/
def applyFij (idx sub : Nat) (v : List Byte) (s : State) : State :=
  let w (k : Nat) : Word := BitVec.ofNat 32 (leAt v (4 * k) 4)
  if idx = 0x1752 then
    { s with mnt := { s.mnt with rules := modAt s.mnt.rules (sub - 1) (fun r => { r with cfg := w 0, match_ := w 1, sel := w 2, arg := w 3 }) } }
  else if sub = 2 then { s with mnt := { s.mnt with duration := BitVec.ofNat 32 (beNat v) } }
  else { s with mnt := { s.mnt with seed := BitVec.ofNat 32 (beNat v) } }

/-- 0x1800 (R41, R44): the mode of a function, which is stopped while its entry is written. -/
def applyMode (sub v : Nat) (s : State) : State :=
  let on := v != 0
  match sub with
  | 0x02 => { s with run := { s.run with digestHost := on } }
  | 0x03 => { s with jrn := { s.jrn with host := on } }
  | 0x04 => { s with evr := { s.evr with hostrl := on } }
  | 0x05 => { s with run := { s.run with stationHost := on } }
  | 0x06 => { s with clk := { s.clk with trimHost := on } }
  | _ => s

/-- Place of a station entry's value in its table entry (R226, R229). -/
def stationPlace : Nat → Option (Nat × Nat)
  | 1 => some (1, 1)
  | 2 => some (2, 2)
  | 4 => some (28, 4)
  | 5 => some (4, 4)
  | 6 => some (8, 2)
  | 7 => some (12, 4)
  | 8 => some (10, 2)
  | 9 => some (16, 4)
  | 10 => some (20, 4)
  | _ => none

/-- 0x2000 + 8 x (R229): the station table; SUBST_COUNT also goes to the station in the next service window. -/
def applyStation (x k sub : Nat) (v : List Byte) (s : State) : State :=
  if k = 0 then
    if sub = 3 then
      let f := readByte s.mem (stationAddr x)
      { s with mem := writeByte s.mem (stationAddr x) (putBit f 3 (beNat v != 0)) }
    else match stationPlace sub with
      | some (o, n) => { s with mem := writeLe s.mem (stationAddr x + o) n (beNat v) }
      | none => s
  else if k = 1 ∧ sub = 1 then
    let s := { s with mem := writeLe s.mem (stationAddr x + 24) 1 (beNat v) }
    match stationOf s x with
    | some y =>
      let s := putStation { y with cfg := { y.cfg with subCnt := beNat v } } s
      if s.pair.role = .active ∧ y.st ≠ .absent then stationWrite x (stationIdx x 1) 1 v s else s
    | none => s
  else s

/-- A stored value takes effect. -/
def applyVal (idx sub : Nat) (v : List Byte) (s : State) : State :=
  let n := beNat v
  if idx = 0x1100 then applyPair sub n s
  else if 0x1201 ≤ idx ∧ idx ≤ 0x1204 then applySegment (idx - 0x1201) sub n s
  else if idx = 0x1300 then applyProgram sub n s
  else if 0x1310 ≤ idx ∧ idx ≤ 0x135F then taskEntry (taskIdx idx) sub n s
  else if idx = 0x1400 then applyTime sub n s
  else if idx = 0x1500 then applyStore sub n s
  else if idx = 0x1600 then applyLio sub n s
  else if idx = 0x1751 then setCommission (n != 0) s
  else if idx = 0x1752 ∨ idx = 0x1753 then applyFij idx sub v s
  else if idx = 0x1800 then applyMode sub n s
  else if 0x2000 ≤ idx ∧ idx ≤ 0x5FFF then applyStation ((idx - 0x2000) / 8) (idx % 8) sub v s
  else s

/-- Beat fields in their double buffers are taken (R141, step 2). -/
def takeNext (s : State) : State :=
  { s with
    pair := { s.pair with cfg := s.pair.cfgNext.getD s.pair.cfg, cfgNext := none }
    flu := { s.flu with cfg := s.flu.cfgNext.getD s.flu.cfg, cfgNext := none }
    cyc := { s.cyc with cfg := s.cyc.cfgNext.getD s.cyc.cfg, cfgNext := none }
    lio := { s.lio with policy := s.lio.policyNext.getD s.lio.policy, policyNext := none }
    fol := { s.fol with ports := s.fol.ports.map (fun p => { p with svc := p.svcNext.getD p.svc, svcNext := none }) } }

/-- The store is applied at a start, before the blocks that it configures start (R333); COMMISSION without its events (R543). Task entries are
laid over the descriptors when the program is placed. -/
def applyStoreAtStart (s : State) : State :=
  let s := s.od.vals.foldl
    (fun s x =>
      if x.index = 0x1751 then { s with mnt := { s.mnt with comm := beNat x.val != 0 } }
      else if 0x1310 ≤ x.index ∧ x.index ≤ 0x135F then s
      else applyVal x.index x.sub x.val s) s
  takeNext s

end Sys2Proof.Machine
end

