-- ==== Sys2Proof/Machine/Start.lean ====
section
/-!
DEFINITION. Starts and restarts (01 R26, R27, R30 to R33, R556; 02 R53, R64; 10 R352, R357; 15 R465, R473; 16 R493 to R495, R502; 13 R437):
power-on reset, the start sequence, the automatic restart, the return from BANKED.
-/

namespace Sys2Proof.Machine

-- what the start reads ----------------------------------------------------------------------------------------------------

/-- A copy of the claim record with its MAGIC and CRC (R52, R53): epoch, SEQ, FENCEMARK. -/
def claimCopy (s : State) (second : Bool) : Option (Word × Word × Bool) :=
  let b := readBytes s.mem (claimAddr second) 32
  if leAt b 0 4 = 0x434C4D01 ∧ leAt b 28 4 = (crc32c (b.take 28)).toNat then
    some (BitVec.ofNat 32 (leAt b 4 4), BitVec.ofNat 32 (leAt b 8 4), bit (BitVec.ofNat 8 (leAt b 13 1)) 0)
  else none

/-- The valid copy of the higher SEQ; the next write goes to the other one. -/
def claimStored (s : State) : Option (Word × Word × Bool × Bool) :=
  match claimCopy s false, claimCopy s true with
  | some (e, q, f), some (e', q', f') => if q.toNat < q'.toNat then some (e', q', f', false) else some (e, q, f, true)
  | some (e, q, f), none => some (e, q, f, true)
  | none, some (e, q, f) => some (e, q, f, false)
  | none, none => none

/-- The claim record is read (R53): neither copy valid leaves epoch 0 and event 0x0106. -/
def readClaim (s : State) : State :=
  match claimStored s with
  | none => pairPost 0x0106 [] s
  | some (e, q, f, second) =>
    { s with pair := { s.pair with epoch := e, recSeq := q, fenceMark := f, recSecond := second } }

/-- TIME from the RTC; a lost RTC starts it at 0, event 0x0704 (R357). -/
def startTime (s : State) : State :=
  if s.tim.rtcLost then post 0x0704 0x00 [] { s with tim := { s.tim with time := 0, frac := 0 } }
  else { s with tim := { s.tim with time := s.tim.rtc, frac := 0 } }

/-- Automatic restarts of the last 60 minutes (R556). -/
def restartsNow (s : State) : Nat := min 3 (within60 s.now s.sup.autoRestarts).length

/-- The supervisor's events of a start (R26, R547): 0x0003 after fail-silent, then 0x0004. -/
def startFaults (s : State) : State :=
  let s := if s.sup.fsPrev then
      supPost 0x0003 (le4 (s.sup.fsCause >>> 32).toNat ++ u8 s.hw.resetCause ++ u8 (restartsNow s)) s
    else s
  match s.sup.simultaneous with
  | some w => supPost 0x0004 (le4 w.toNat) { s with sup := { s.sup with simultaneous := none } }
  | none => s

/-- Events that waited for a start. -/
def startEvents (s : State) : State :=
  let rs := s.sup.atStart
  rs.foldl (fun s r => postRecs r.code.toNat [r] s) { s with sup := { s.sup with atStart := [] } }

/-- The configuration store (R333): a bad one leaves the defaults and event 0x0604. -/
def startStore (s : State) : State :=
  let s := if s.od.storeOk then s else post 0x0604 0x06 [] { s with od := { s.od with vals := [] } }
  applyStoreAtStart s

/-- The role of R64 at the end of the start sequence: OFFLINE, or FENCED where the mark stands, with event 0x0104. -/
def startRole (s : State) : State :=
  let s := { s with pair := { silence s.pair with role := .offline, sub := .none } }
  let s := if slotErr s then post 0x0C04 0x01 [] s else s
  if s.pair.fenceMark then
    pairPost 0x0104 (le4 s.pair.epoch.toNat ++ u8 0x20 ++ u8 (slotNo (mySlot s))) (pairInt 7 { s with pair := { silence s.pair with role := .fenced } })
  else s

-- the Gate's rules (R400, R410) ---------------------------------------------------------------------------------------------

/-- The rules of R410 by number (16 for each gate): base and size, grants. The blocks of tags (1.4 to 1.15) lie where Belaux places them: none
of its places is stated, so they come as writes and commits of the runtime (log 53). -/
def runtimeRules : List (Nat × GateRule) :=
  let r (base size : Nat) (perm : List Nat) : GateRule :=
    { addr := BitVec.ofNat 64 (base + size), perm := setBit (perm.foldl (fun w b => setBit w b) 0) 31 }
  [(0, r 0x01000000 21 [6, 7, 9, 10]), (1, r 0x01040000 18 [0]), (2, r 0x01080000 18 [0, 1]),
   (16, r 0x800000000 30 [6, 7, 8]), (17, r 0x83F000000 24 [9, 10]), (18, r 0x840000000 28 [0, 2, 6, 7, 9, 10]),
   (19, r 0x900000000 32 [6, 7, 9, 10]), (32, r 0x10000000 25 [6, 7, 9]), (48, r 0x12000000 24 [6, 7, 9, 10]),
   (64, r 0x13000000 24 [6, 7, 9, 10]), (80, r 0x3C000000 26 [6, 7])]

/-- The 96 rules with those of R410, the others disabled. -/
def rulesAtStart : List GateRule := runtimeRules.foldl (fun l x => putAt l x.1 x.2) (List.replicate 96 {})

/-- The runtime commits the rules of R410 with MOPEN cleared before it releases the Rick processor (R400). -/
def startGate (s : State) : State :=
  gateCommit .m (s.gate.epoch + 1) { s with gate := { s.gate with staged := rulesAtStart, mopenStaged := false } }

-- loading (R30) ---------------------------------------------------------------------------------------------------------------

/-- The program of the named slot is loaded again where its signature holds (R495, R496). -/
def startProgramImage (s : State) : State :=
  match storedProgram s with
  | none => s
  | some b =>
    if kindleOk b && kindleSigned s b && descsOk (kindleProg b).descs then
      placeProgram b { s with cyc := { s.cyc with pstate := .stopped } }
    else s

/-- Steps 4 and 5 of R30: the microcode, checked by the runtime and by the Cord firmware, then the legal identification. -/
def loadMicrocode (s : State) : State :=
  let h := norHeader s 4
  let b := norBody s 4
  if imageCheck s 4 false h b ≠ 0 ∨ imageCheck s 4 true h b ≠ 0 then componentFailed 4 s
  else
    let s := startMicrocode h b s
    let s := { s with cord := { s.cord with legalId := computeLegalId s } }
    startProgramImage (republish 1 (republish 0 s))

/-- Step 3: the Cord firmware, checked by the runtime and by the Cord boot ROM; absent device keys are generated (R507). -/
def loadCord (s : State) : State :=
  let h := norHeader s 3
  let b := norBody s 3
  if imageCheck s 3 false h b ≠ 0 ∨ imageCheck s 3 true h b ≠ 0 then componentFailed 3 s
  else loadMicrocode (generateKeys (startFirmware h b s))

/-- Step 2: the Rick firmware. -/
def loadRick (s : State) : State :=
  let h := norHeader s 2
  if imageCheck s 2 false h (norBody s 2) ≠ 0 then componentFailed 2 s
  else
    let s := setFw 2 (fwOf h) s
    loadCord { s with sup := { s.sup with rickUp := true } }

/-- The runtime runs: what it and the blocks read at a start, the role, the Gate's rules, then the other processors; at the end it arms its
watchdog (R557; its services are the writes of CYC_WDOG). -/
def startRuntime (s : State) : State :=
  let s := setFw 1 (fwOf (norHeader s 1)) s
  let s := { s with
    sup := { s.sup with runtimeUp := true }
    upd := { s.upd with recovery := false, st := if s.upd.st = .writing then .idle else s.upd.st } }
  let s := anchor (startTime (readClaim (startStore (ringScan s))))
  let s := loadRick (startGate (startRole (startEvents (startFaults s))))
  { s with cyc := { s.cyc with wdArmed := true, wdBeat := s.cyc.beat.toNat } }

/-- The loader enters recovery (R494): UPDATE, FAULT red, event 0x0D04 at the next start that reaches the runtime. -/
def enterRecovery (s : State) : State :=
  inLoader { s with
    sup := { s.sup with faultLed := true, atStart := s.sup.atStart ++ evRecs 0x0D04 0x06 [] }
    upd := { s.upd with recovery := true } }

/-- An update record that a start finds open (R502): the loader resumes while the image is in DRAM, else it closes the record. -/
def openRecord (s : State) : State :=
  if s.upd.record.isSome ∧ s.upd.staged.isEmpty then closeUpdate 0x2808 0 s else s

/-- Step 1: boot ROM, resident loader, runtime. -/
def loadFirst (s : State) : State :=
  if !Config.loaderValid then { s with sup := { s.sup with kilnHeld := true, faultLed := true } }
  else
    let s := openRecord s
    if s.upd.record.isSome then inLoader { s with upd := { s.upd with st := .writing } }
    else if imageCheck s 1 false (norHeader s 1) (norBody s 1) ≠ 0 then enterRecovery s
    else startRuntime s

/-- START_SEQUENCE (R30, R343, R352): the domains run on their loops. Out of CLOCK-HOLD every region starts from reset. -/
def startSequence (s : State) : State :=
  let hold := s.pair.role == .clockHold
  if !s.hw.porReleased ∨ s.hw.powerDown ∨ s.clk.phase ≠ .ready ∨ s.sup.failSilent ∨ (hold && s.clk.holdLimit) then s
  else
    let s := if hold then
        let s := restart 4 s
        { s with sup := { s.sup with clkHoldPrev := true, fsPrev := false } }
      else s
    loadFirst { s with
      clk := { s.clk with phase := .run }
      sup := { s.sup with kilnHeld := false, rickHeld := false, bankHeld := false, cordHeld := false } }

/-- AUTO_RESTART (R27, R556): at most three in 60 minutes, not while the NOR interface is isolated, and once the sources are judged. -/
def autoRestart (s : State) : State :=
  let hold := s.pair.role == .clockHold
  let recent := within60 s.now s.sup.autoRestarts
  if !s.sup.failSilent ∨ s.sup.heldSilent ∨ isolated s 0x62 ∨ (s.clk.phase ≠ .run ∧ s.clk.phase ≠ .ready) ∨ (hold && s.clk.holdLimit) then s
  else if 3 ≤ recent.length then { s with sup := { s.sup with heldSilent := true, faultLed := true } }
  else
    let s := restart 1 s
    { s with sup := { s.sup with autoRestarts := s.now :: recent, fsPrev := true, clkHoldPrev := hold } }

/-- The restart by keyswitch (R27, R353, R481): cause 2. -/
def manualRestart (s : State) : State :=
  let fs := s.sup.failSilent
  let hold := s.pair.role == .clockHold
  let ph := s.clk.phase
  let s := restart 2 s
  { s with
    sup := { s.sup with fsPrev := fs, clkHoldPrev := hold }
    clk := { s.clk with phase := if ph = .run then .ready else ph, holdLimit := false } }

/-- SEATED_N has read seated for 100 ms (R465, R473): power-on reset is released; an insertion is counted, event 0x0C02. -/
def seated (s : State) : State :=
  if s.hw.porReleased ∨ s.hw.powerDown then s
  else
    let new := s.hw.seatChanged
    let s := powerOn s
    { s with
      hw := { s.hw with seated := true, seatChanged := false, cntInsert := if new then satInc s.hw.cntInsert else s.hw.cntInsert }
      sup := { s.sup with atStart := if new then s.sup.atStart ++ evRecs 0x0C02 0x01 [] else s.sup.atStart } }

/-- The Rick processor is reset and loaded again, in OFFLINE or UPDATE (R33). -/
def rickReload (s : State) : State × Nat :=
  if s.pair.role ≠ .offline ∧ s.pair.role ≠ .update then (s, 0x2107)
  else
    let h := norHeader s 2
    let s := { s with sup := { s.sup with rickUp := false } }
    if imageCheck s 2 false h (norBody s 2) ≠ 0 then (componentFailed 2 s, 0)
    else
      let s := setFw 2 (fwOf h) s
      ({ s with sup := { s.sup with rickUp := true } }, 0)

/-- The runtime has restored its state (R437): RUN with the cores released, CORE at OP3; a Flue wake joins (R68, R79), an RTC wake begins
the reserve's self-test (R80). -/
def wakeComplete (s : State) : State :=
  if s.emb.state ≠ .waking ∨ s.emb.step ≠ .resumed then s
  else
    let cause := s.emb.cause
    let s := embInt 0 { s with
      emb := { s.emb with state := .run, step := .none, result := 2, lastCause := cause.toNat, latch := 0, promote := none }
      dic := { s.dic with idle := 0 }
      clk := { s.clk with op := 3, target := 3, stepTo := none } }
    let s := post 0x0A01 0x03 (u8 cause.toNat ++ le8 (s.emb.stepAt / 1000000)) s
    if s.pair.role ≠ .reserve then s
    else if bit cause 1 then sendJoin s
    else if bit cause 0 then { s with pair := { s.pair with selfTest := some s.now } }
    else s

-- commands --------------------------------------------------------------------------------------------------------------------------

def execStartSequence (s : State) : Host.Outcome State Fault Refusal := finish (startSequence s)
def execAutoRestart (s : State) : Host.Outcome State Fault Refusal := finish (autoRestart s)

/-- The request is answered with its transaction number: done, or 0x2107. -/
def execRickResetReload (tid : Byte) (s : State) : Host.Outcome State Fault Refusal :=
  finish <|
  if !runtimeLive s then s
  else
    let (s, c) := rickReload s
    respond { path := .service 0, session := 0, tid := tid, index := 0, sub := 0 } (if c = 0 then 4 else 5) c [] s

def execSeatedRead (s : State) : Host.Outcome State Fault Refusal := finish (seated s)
def execWakeComplete (s : State) : Host.Outcome State Fault Refusal := finish (wakeComplete s)

end Sys2Proof.Machine
end

