-- ==== Sys2Proof/Machine/Hardware.lean ====
section
/-!
DEFINITION. Module hardware and hot swap (15 R469 to R489) and the keyswitch (02 R88): feeds, power fail, withdrawal, ejector lever,
temperature, the indicators' inputs, and HPW_CLEAR.
-/

namespace Sys2Proof.Machine

def hwPost (code : Nat) (data : List Byte) (s : State) : State := post code 0x01 data s

/-- A bit of HPW_FLAGS. -/
def hwFlag (b : Nat) (s : State) : State := { s with hw := { s.hw with flags := setBit s.hw.flags b } }

/-- Hearth works: power-on reset is released and the rails stand. -/
def hearthOn (s : State) : Bool := s.hw.porReleased && !s.hw.powerDown

def feedNo : Feed → Nat
  | .lost => 0
  | .low => 1
  | .good => 2

/-- Code of a feed state in HPW_STATUS. -/
def feedOf (s : State) (b : Bool) : FeedSt := if b then s.hw.feedB else s.hw.feedA

/-- Safe to remove (R475). -/
def safe (s : State) : Bool :=
  s.hw.ejectOpen && (s.pair.role == .offline || s.pair.role == .fenced || s.pair.role == .clockHold || s.sup.failSilent)

/-- A feed changes state (R470): event 0x0C00 with feed and both states, its flag, and a count when it becomes LOST. With both LOST the hold-up
time begins (R472); a feed that returns after a power fail powers the module again. -/
def feedChange (feedB : Bool) (st : Feed) (mv : Half) (s : State) : State :=
  let old := feedOf s feedB
  let new : FeedSt := { st := st, mv10 := mv }
  let h := if feedB then { s.hw with feedB := new } else { s.hw with feedA := new }
  let lost := h.feedA.st == .lost && h.feedB.st == .lost
  let h := { h with
    bothLost := if lost then (if h.bothLost.isSome then h.bothLost else some s.now) else none
    powerDown := h.powerDown && lost }
  let s := { s with hw := h }
  if old.st = st ∨ !hearthOn s then s
  else
    let s := if st = .lost then { s with hw := { s.hw with cntFeedLoss := satInc s.hw.cntFeedLoss } } else s
    hwPost 0x0C00 (u8 (b2n feedB) ++ u8 (feedNo s.hw.feedA.st) ++ u8 (feedNo s.hw.feedB.st)) (hwFlag (b2n feedB) s)

/-- A record that the supervisor has written ahead of the queue (R389). -/
def writeAhead (code : Nat) (block : Byte) (data : List Byte) (s : State) : State :=
  if s.sup.bankHeld then s
  else if isolated s 0x63 then { s with sup := { s.sup with ceCount := satInc s.sup.ceCount } }
  else (evRecs code block data).foldl (fun s r => writeEvent r s) s

/-- The regions lose what they had not written (R375, R389). -/
def regionsLost (s : State) : State := { holdRegions s with bus := {} }

/-- A claim record that waits is completed before power goes or Bank is held (R25, R472). -/
def finishClaim (s : State) : State := if s.pair.recBusy && !s.sup.bankHeld then recordDone true s else s

/-- Power fail (R472): silent within 100 ns, the claim record and event 0x0C01 written, then the rails fall. FENCEMARK stands. -/
def powerFail (s : State) : State :=
  if !hearthOn s then s
  else
    let s := { s with pair := silence s.pair, hw := { s.hw with holdup := false } }
    railsFall (regionsLost (writeAhead 0x0C01 0x01 [] (finishClaim s)))

/-- SEATED_N ceases to read seated (R476). -/
def unseated (s : State) : State :=
  if !s.hw.seated then s
  else
    let told := safe s
    let s := { s with hw := { s.hw with seated := false, seatChanged := true } }
    if !hearthOn s then { s with hw := { s.hw with porReleased := false } }
    else
      let s := { s with pair := silence s.pair }
      let s := if told then s else writeAhead 0x0C09 0x01 [] s
      let s := if s.pair.role = .fenced then finishClaim { s with pair := { s.pair with fenceMark := false, recBusy := true } }
        else finishClaim s
      let s := regionsLost (clearDivergence s)
      { s with hw := { s.hw with porReleased := false }, mnt := { s.mnt with running := false, held := [] } }

/-- The junction stands at 115 °C (R485). -/
def tempWarning (junction : Half) (s : State) : State :=
  if !hearthOn s then s
  else hwPost 0x0C07 [] (hwFlag 4 { s with hw := { s.hw with junction := junction } })

/-- The junction has stood above 125 °C for 1 ms (R485): fail-silent, cause 0x09, block 0x01; event 0x0C08 at the next start. -/
def overTemperature (junction : Half) (s : State) : State :=
  if !hearthOn s then s
  else
    let s := { s with
      hw := { s.hw with junction := junction }
      sup := { s.sup with faultLed := true, atStart := s.sup.atStart ++ evRecs 0x0C08 0x01 [] } }
    chipError 0x09 0x01 0 s

/-- The request of SERVICE or of the lever as it begins acts at once in the roles that it takes OFFLINE (R88, R474, R552); an active one asks at
the boundaries (R553). -/
def serviceBegins (s : State) : State :=
  if s.pair.role = .standby ∨ s.pair.role = .reserve then serviceBeat s else s

/-- The key leaves SERVICE or the lever closes: the requests end (R553, R474). -/
def serviceEnds (s : State) : State :=
  if serviceAsked s then s
  else
    let sw := s.pair.switch.map (fun w => { w with service := false })
    tryJoin { s with
      pair := { s.pair with serviceTold := false, switch := sw, leaveAfter := s.pair.leaveAfter && s.pair.leaving }
      hw := { s.hw with ejectTold := false } }

/-- The manual restart acts (R27, R353): the module was held, and the key has been in SERVICE since. -/
def keyRestarts (s : State) (pos : KeyPos) : Bool :=
  s.hw.key == .service && pos == .run && (s.sup.heldSilent || (s.pair.role == .clockHold && s.clk.holdLimit))

/-- The keyswitch has a new position (R88, R481): event 0x0C06, flag KEY, the debug port's gate. -/
def keyChange (pos : KeyPos) (s : State) : State :=
  if s.hw.key = pos ∨ !hearthOn s then { s with hw := { s.hw with key := pos } }
  else
    let again := keyRestarts s pos
    let s := hwPost 0x0C06 (u8 (keyNo pos)) (hwFlag 3 { s with hw := { s.hw with key := pos } })
    if again then manualRestart s
    else
      let s := debugPort s
      if pos = .service then serviceBegins s else serviceEnds s

/-- The ejector lever, debounced (R474): event 0x0C03 at each opening and closing. -/
def eject (opened : Bool) (s : State) : State :=
  if s.hw.ejectOpen = opened ∨ !hearthOn s then { s with hw := { s.hw with ejectOpen := opened } }
  else
    let s := hwPost 0x0C03 (u8 (b2n opened)) (hwFlag 2 { s with hw := { s.hw with ejectOpen := opened } })
    if opened then
      let s := if s.pair.role = .active ∧ !(standbySync s) then tellEject s else s
      serviceBegins s
    else serviceEnds s

-- indicators (R89, R483) ------------------------------------------------------------------------------------------------------

/-- Colours of an indicator, and what it shows: a steady colour, a flash of so many mHz, a flash whose rate the spec does not give. -/
inductive Colour where
  | green | amber | red
deriving DecidableEq, Repr
inductive Led where
  | off
  | on (c : Colour)
  | flash (c : Colour) (mHz : Nat)
  | blink (c : Colour)
deriving DecidableEq, Repr

/-- The lamp test (R483): red for 200 ms, then green for 200 ms. -/
def lampTest (s : State) (l : Led) : Led :=
  if s.now < s.hw.lampUntil then (if s.now + 200000000 < s.hw.lampUntil then .on .red else .on .green) else l

/-- Fewest spare rows of any image SRAM bank (SUP_SPARES.IMGROWS). -/
def leastRows (s : State) : Nat := s.sup.imgRows.foldl min 8

/-- PWR: the first row of R483 that applies. -/
def ledPwr (s : State) : Led :=
  if s.hw.ejectOpen && safe s then .flash .amber 2000
  else if s.hw.ejectOpen then .on .amber
  else if s.hw.feedA.st != .good || s.hw.feedB.st != .good then .flash .green 1000
  else .on .green

/-- FAULT: the first row of R483 that applies. -/
def ledFault (s : State) : Led :=
  if s.sup.failSilent || s.sup.faultLed then .on .red
  else if s.pair.role == .active && serviceAsked s && (s.pair.serviceTold || s.hw.ejectTold) then .flash .red 2000
  else if !s.sup.isolated.isEmpty || slotErr s then .on .amber
  else if decide (leastRows s ≤ 1) || decide (spareCount s ≤ 1) || bit s.hw.flags 4 then .flash .amber 1000
  else .off

/-- The LED of port `n`. -/
def ledPort (s : State) (n : Nat) : Led :=
  let p := portOf s n
  if bit p.sfp 7 && (bit p.sfp 5 || bit p.sfp 6) then .on .red
  else if portUp s n && !p.txdis then (if (endsInUse s n).contains ((myEnd s).getD 2) then .on .green else .on .amber)
  else .off

/-- ROLE and SYNC (R89). -/
def ledRole (s : State) : Led :=
  match s.pair.role with
  | .active => .on .green
  | .standby => .on .amber
  | .reserve => .flash .amber 500
  | .offline => .off
  | .fenced => .on .red
  | .update => .flash .amber 4000
  | .clockHold => .flash .red 1000
def ledSync (s : State) : Led :=
  match s.pair.role with
  | .active => if standbySync s then .on .green else if (standbySlot s).isSome then .blink .green else .off
  | .standby => if s.pair.sub = .synchronised then .on .green else .blink .green
  | _ => .off

/-- LEGAL (R263): the first row that applies; the COMMISSION line overrides CRD_LED; a mismatch of R505 lights it red. -/
def ledLegal (s : State) : Led :=
  if s.mnt.comm then .flash .red 1000
  else if !s.cord.ilock || s.cord.idBad || audState s == 4 || audState s == 5 then .on .red
  else if s.cord.vmode then .flash .amber 2000
  else if audState s != 0 then .on .amber
  else if legalAgree s == 0 then .flash .green 1000
  else if s.legal.chans.contains .inService then .on .green
  else .off

-- commands ----------------------------------------------------------------------------------------------------------------------------

def execKeyswitchChange (pos : KeyPos) (s : State) : Host.Outcome State Fault Refusal := finish (keyChange pos s)
def execUnseated (s : State) : Host.Outcome State Fault Refusal := finish (unseated s)
def execFeedStateChange (feedB : Bool) (st : Feed) (mv10 : Half) (s : State) : Host.Outcome State Fault Refusal :=
  finish (feedChange feedB st mv10 s)
def execPowerFail (s : State) : Host.Outcome State Fault Refusal := finish (powerFail s)
def execEject (opened : Bool) (s : State) : Host.Outcome State Fault Refusal := finish (eject opened s)
def execTempWarning (junction : Half) (s : State) : Host.Outcome State Fault Refusal := finish (tempWarning junction s)
def execOverTemperature (junction : Half) (s : State) : Host.Outcome State Fault Refusal := finish (overTemperature junction s)

/-- HPW_CLEAR (R489): bit 0 clears PEAK. -/
def execHpwClear (_level : Level) (word : Word) (s : State) : Host.Outcome State Fault Refusal :=
  finish (if hearthOn s && bit word 0 then { s with hw := { s.hw with powerPeak := s.hw.powerNow } } else s)

end Sys2Proof.Machine
end

