-- ==== Sys2Proof/Machine/RegRead.lean ====
section
/-!
DEFINITION. What the registers of every block read as: the register tables of the chapters (R38, R94, R135, R172, R231, R268, R269, R308,
R365 to R368, R393, R394, R419, R442, R443, R462, R489, R519, R543). A register is named by its block and its offset;
reserved offsets and write-only registers read as zero (R6, R36).
-/

namespace Sys2Proof.Machine

/-- The register blocks of the address map (R35); PAIR_ and DMP_ share one. -/
inductive Blk where
  | hck | hpw | rtc | emb | tim | sup | kdv | kcl | cyc | fpt (n : Nat) | flu | lio | dic | pair | fij | jrn | evr | scl | crd | aud | gate
deriving DecidableEq, Repr

/-- Base addresses (R35), with the size of each block. -/
def blkMap : List (Nat × Nat × Blk) :=
  [(0x10000000, 0x1000, .hck), (0x10001000, 0x1000, .hpw), (0x10002000, 0x1000, .rtc), (0x10003000, 0x1000, .emb),
   (0x10004000, 0x1000, .tim), (0x10005000, 0x1000, .sup), (0x11000000, 0x1000, .kdv), (0x11001000, 0x1000, .kcl),
   (0x12000000, 0x10000, .cyc), (0x12100000, 0x10000, .fpt 0), (0x12110000, 0x10000, .fpt 1), (0x12120000, 0x10000, .fpt 2)] ++
  [(0x12130000, 0x10000, .fpt 3), (0x12200000, 0x10000, .flu), (0x12300000, 0x10000, .lio), (0x12400000, 0x10000, .dic),
   (0x12500000, 0x10000, .pair), (0x12600000, 0x10000, .fij), (0x13000000, 0x10000, .jrn), (0x13100000, 0x10000, .evr),
   (0x14000000, 0x10000, .scl), (0x14010000, 0x10000, .crd), (0x14020000, 0x10000, .aud), (0x15000000, 0x10000, .gate)]

/-- Block and offset of a register address. -/
def blkAt (a : Nat) : Option (Blk × Nat) :=
  (blkMap.find? (fun e => decide (e.1 ≤ a ∧ a < e.1 + e.2.1))).map (fun e => (e.2.2, a - e.1))

/-- Block identifier of a register block (R12). -/
def blkId : Blk → Byte
  | .hck => 0x00 | .hpw => 0x01 | .rtc => 0x02 | .emb => 0x03 | .tim => 0x04 | .sup => 0x05 | .kdv => 0x23 | .kcl => 0x20
  | .cyc => 0x40 | .fpt n => BitVec.ofNat 8 (0x42 + n) | .flu => 0x46 | .lio => 0x48 | .dic => 0x49 | .pair => 0x4B | .fij => 0x4C
  | .jrn => 0x61 | .evr => 0x63 | .scl => 0x81 | .crd => 0x80 | .aud => 0x82 | .gate => 0x07

/-- Every block's VERSION register: stepping B, block revision 0 (R38, R41). -/
def versionReg : Nat := 0x0B00

-- Hearth ---------------------------------------------------------------------------------------------------------

/-- Blocks of region `r` that are isolated, one bit an index (R39). -/
def isoMask (s : State) (r : Nat) : Nat :=
  ((List.range 32).map (fun i => if isolated s (BitVec.ofNat 8 (32 * r + i)) then 2 ^ i else 0)).sum

def supReg (o : Nat) (s : State) : Nat :=
  match o with
  | 0x000 => versionReg
  | 0x008 => restartsNow s * 64 + b2n s.sup.fsPrev * 32 + b2n s.sup.clkHoldPrev * 16
  | 0x010 => s.sup.regionFault.toNat
  | 0x020 => isoMask s 0
  | 0x024 => isoMask s 1
  | 0x028 => isoMask s 2
  | 0x02C => isoMask s 3
  | 0x030 => isoMask s 4
  | 0x040 => s.sup.lastFault.toNat
  | 0x048 => s.sup.fsCause.toNat
  | 0x050 => s.sup.ceCount.toNat
  | 0x054 => s.sup.retiredCount.toNat
  | 0x058 => min 4 (spareCount s) * 2 ^ 16 + s.sup.sysWays * 2 ^ 12 + s.sup.l2Ways.getD 1 0 * 2 ^ 8 + s.sup.l2Ways.getD 0 0 * 2 ^ 4 + leastRows s
  | _ => 0

def hckStatus (s : State) : Nat :=
  let c := s.clk
  (pack 32 [(14, min 3 (within60 s.now c.holds).length), (10, b2n c.plln.judged), (9, b2n c.pllf.judged), (8, b2n c.pllc.judged),
    (7, b2n c.xt2.judged), (6, b2n c.xt1.judged), (5, b2n c.firc.judged), (4, b2n c.sirc), (0, c.lastFail)]).toNat

def hckReg (o : Nat) (s : State) : Nat :=
  match o with
  | 0x000 => versionReg
  | 0x008 => hckStatus s
  | 0x010 => s.clk.divf.toNat
  | 0x018 => s.clk.trim.toNat
  | 0x01C => s.clk.fircCnt.toNat
  | 0x020 => s.clk.holdCount.toNat
  | 0x060 => s.clk.hckInt.toNat
  | 0x064 => s.clk.hckMask.toNat
  | _ => 0

def timReg (o : Nat) (s : State) : Nat :=
  match o with
  | 0x000 => versionReg
  | 0x008 => s.tim.time.toNat
  | 0x010 => s.tim.incr.toNat
  | _ => 0

def rtcReg (o : Nat) (s : State) : Nat :=
  match o with
  | 0x000 => versionReg
  | 0x008 => b2n s.tim.rtcLost * 4 + b2n s.tim.onSirc * 2 + b2n s.tim.backupLow
  | 0x010 => s.tim.rtc.toNat
  | 0x020 => s.tim.alarm.toNat
  | 0x060 => s.tim.rtcInt.toNat
  | 0x064 => s.tim.rtcMask.toNat
  | _ => 0

def powerNo : Power → Nat
  | .run => 0
  | .entering => 1
  | .banked => 2
  | .waking => 3

def embReg (o : Nat) (s : State) : Nat :=
  let e := s.emb
  match o with
  | 0x000 => versionReg
  | 0x008 => b2n e.resumed * 256 + powerNo e.state
  | 0x014 => e.result
  | 0x018 => e.wakeEn.toNat
  | 0x01C => e.watchIdx * 256 + e.cause.toNat
  | 0x020 => e.lioEdge.toNat
  | 0x028 => e.resume.toNat
  | 0x030 => e.bankCount.toNat
  | 0x038 => e.bankNs / 1000000
  | 0x060 => e.intStatus.toNat
  | 0x064 => e.intMask.toNat
  | o =>
    if 0x040 ≤ o ∧ o < 0x060 then (e.rdigest.getD ((o - 0x040) / 8) 0).toNat
    else if 0x100 ≤ o ∧ o < 0x180 then (e.watch.getD ((o - 0x100) / 4) 0).toNat
    else 0

def hpwStatus (s : State) : Nat :=
  let h := s.hw
  (pack 32 [(15, b2n (safe s)), (14, b2n h.ejectOpen), (13, b2n h.seated), (12, b2n (slotErr s)),
    (10, if slotErr s then 3 else slotNo (mySlot s)), (9, b2n h.holdup), (6, feedNo h.feedB.st), (4, feedNo h.feedA.st)]).toNat

def hpwReg (o : Nat) (s : State) : Nat :=
  let h := s.hw
  match o with
  | 0x000 => versionReg
  | 0x008 => hpwStatus s
  | 0x010 => h.feedB.mv10.toNat * 65536 + h.feedA.mv10.toNat
  | 0x018 => h.powerPeak.toNat * 65536 + h.powerNow.toNat
  | 0x020 => h.junction.toNat * 65536 + h.board.toNat
  | 0x028 => h.resetCause
  | 0x040 => h.cntInsert.toNat
  | 0x044 => h.cntFeedLoss.toNat
  | 0x060 => h.flags.toNat
  | _ => 0

def kdvReg (o : Nat) (s : State) : Nat :=
  let c := s.clk
  match o with
  | 0x000 => versionReg
  | 0x008 => b2n c.stepTo.isSome * 2 ^ 15 + b2n c.dvfsTimeout * 2 ^ 14 + c.target * 256 + c.op
  | 0x010 => c.target
  | 0x018 => c.kdvSteps.toNat
  | _ => 0

-- Rick -------------------------------------------------------------------------------------------------------------

/-- PAIR_PEER_x (R94): of another slot what has been heard; the own slot's describes the module itself (log 45). -/
def peerReg (s : State) (x : Slot) : Nat :=
  if x = mySlot s then
    (pack 64 [(32, s.pair.epoch.toNat), (28, roleNo s.pair.role), (27, b2n s.hw.seated), (26, b2n (maySendFlue s)), (25, b2n s.pair.driving)]).toNat
  else
    let p := peerOf s.pair x
    (pack 64 [(32, p.epoch.toNat), (28, (p.role.map roleNo).getD 0xF), (27, b2n p.present), (26, b2n (heard s x)),
      (25, b2n p.toggling), (24, b2n p.dead)]).toNat

def togBit (s : State) (x : Slot) : Nat := b2n (if x = mySlot s then s.pair.driving else (peerOf s.pair x).toggling)

def pairReg (o : Nat) (s : State) : Nat :=
  let p := s.pair
  match o with
  | 0x000 => versionReg
  | 0x008 => keyNo s.hw.key * 2 ^ 18 + slotNo (mySlot s) * 2 ^ 16 + subNo p.sub * 256 + roleNo p.role
  | 0x010 => p.epoch.toNat
  | 0x014 => p.epochSeen.toNat
  | 0x018 => p.stationEpoch.toNat
  | 0x024 => p.cmdAbort.toNat * 65536 + p.cmdState * 4096 + p.cmdLast.toNat
  | 0x030 => p.cfg.toNat
  | 0x040 => peerReg s .a
  | 0x048 => peerReg s .b
  | 0x050 => peerReg s .c
  | 0x060 => p.takeTime.toNat
  | 0x068 => p.takeCount.toNat
  | 0x070 => p.intStatus.toNat
  | 0x074 => p.intMask.toNat
  | 0x804 => (pack 32 [(15, b2n p.armed), (14, b2n p.driving), (13, b2n p.outEn), (10, togBit s .c), (9, togBit s .b), (8, togBit s .a)]).toNat
  | 0x808 => p.lossCount.toNat
  | 0x80C => p.glitchCount.toNat
  | _ => 0

/-- Slot C forwards frames between its lanes in these roles (R46). -/
def forwards (s : State) : Bool :=
  mySlot s == .c && !slotErr s && rickLive s && !s.sup.failSilent &&
    (s.pair.role == .active || s.pair.role == .standby || s.pair.role == .reserve)

def laneReg (l : Lane) (o : Nat) : Nat :=
  match o with
  | 0x00 => l.tx.toNat
  | 0x08 => l.rx.toNat
  | 0x10 => l.crcErr.toNat
  | 0x14 => l.naks.toNat
  | 0x18 => l.retx.toNat
  | 0x1C => l.linkDown.toNat
  | _ => 0

def fluReg (o : Nat) (s : State) : Nat :=
  let f := s.flu
  let stby := s.pair.role == .standby
  match o with
  | 0x000 => versionReg
  | 0x008 => (pack 32 [(16, b2n (stby && f.alignOk)), (10, f.path), (9, b2n f.lane1.up), (8, b2n f.lane0.up), (0, b2n (forwards s))]).toNat
  | 0x010 => f.cfg.toNat
  | 0x018 => b2n f.syncEvts * 65536 + f.syncTasks.toNat
  | 0x020 => (pack 32 [(28, f.resync.phase), (0, 4 * f.resync.pages.length)]).toNat
  | 0x024 => match f.alignErr with
    | some e => if stby then (pack 32 [(31, 1), (0, unsigned 16 e)]).toNat else 0
    | none => 0
  | 0x028 => (pack 32 [(24, f.divTask), (16, (recentDivs s).length % 256), (15, b2n f.divHold)]).toNat
  | 0x030 => f.divInst.toNat
  | 0x038 => f.digLocal.toNat
  | 0x040 => f.digPeer.toNat
  | 0x048 => f.txPeak.toNat * 2 ^ 32 + f.txLast.toNat
  | 0x050 => f.rxPeak.toNat * 2 ^ 32 + f.rxLast.toNat
  | 0x060 => f.intStatus.toNat
  | 0x064 => f.intMask.toNat
  | o => if 0x100 ≤ o ∧ o < 0x180 then laneReg (laneOf f ((o - 0x100) / 0x40)) (o % 0x40) else 0

/-- Tasks of the cyclic ones that `p` holds of, one bit each. -/
def cyclicBits (s : State) (p : Task → Bool) : Nat :=
  ((List.range 16).map (fun t => if p (taskOf s t) then 2 ^ t else 0)).sum

def cycReg (o : Nat) (s : State) : Nat :=
  let c := s.cyc
  match o with
  | 0x000 => versionReg
  | 0x008 => (pack 32 [(28, pstateNo c.pstate), (26, c.lastRst), (25, b2n c.wdArmed), (24, b2n c.releasing)]).toNat
  | 0x014 => c.cmdAbort.toNat * 65536 + c.cmdState * 4096 + c.cmdLast.toNat
  | 0x018 => c.cfg.toNat
  | 0x020 => c.beat.toNat
  | 0x028 => c.beatTime.toNat
  | 0x030 => c.pos * 65536 + c.hyper % 65536
  | 0x040 => c.taskEn.toNat
  | 0x044 => cyclicBits s (fun k => k.inFlight)
  | 0x048 => c.taskFault.toNat
  | 0x04C => cyclicBits s (fun k => k.first)
  | 0x050 => c.evtEn.toNat
  | 0x058 => c.evtPend.toNat
  | 0x060 => c.evtFault.toNat
  | 0x068 => c.stale.toNat
  | 0x070 => c.staleEvt.toNat
  | 0x078 => c.cntOvr.toNat
  | 0x07C => c.cntSkip.toNat
  | 0x080 => c.cntLost.toNat
  | 0x088 => c.lastOvr.toNat
  | 0x0A0 => c.intStatus.toNat
  | 0x0A4 => c.intMask.toNat
  | o => if 0x100 ≤ o ∧ o < 0x120 ∧ o % 8 = 0 then (segReg s ((o - 0x100) / 8)).toNat else 0

def segStNo : SegSt → Nat
  | .stopped => 0
  | .probing => 1
  | .running => 2

/-- FPT_STATUS (R231). -/
def fptStatus (n : Nat) (s : State) : Nat :=
  let p := portOf s n
  let pres := if s.pair.role = .active then ((stationsOn s n).filter (fun x => x.st == .present)).length else 0
  let used := (myEnd s).any (fun e => if s.pair.role = .active then (endsInUse s n).contains e else s.pair.role == .standby && portUp s n)
  (pack 32 [(28, segStNo (segOf s n).st), (18, b2n (portUp s n)), (17, b2n used), (16, b2n (bit p.through 1 && bit p.through 2)),
    (0, pres % 1024)]).toNat

def fptReg (n o : Nat) (s : State) : Nat :=
  let p := portOf s n
  let c := s.fol.cnts.getD n {}
  match o with
  | 0x000 => versionReg
  | 0x008 => fptStatus n s
  | 0x018 => p.cfg.toNat
  | 0x020 => p.marks.toNat
  | 0x028 => p.svc.toNat
  | 0x030 => p.cfgid.toNat
  | 0x038 => p.flipped * 65536 + p.cutAfter % 65536
  | 0x040 => p.cstx.toNat
  | 0x048 => p.csrx.toNat
  | 0x050 => p.sfp.toNat + b2n p.txdis
  | 0x060 => c.tx.toNat
  | 0x068 => c.rx.toNat
  | 0x070 => c.crcErr.toNat
  | 0x074 => c.fcsErr.toNat
  | 0x078 => c.epochDisc.toNat
  | 0x07C => c.stampDisc.toNat
  | 0x080 => c.relayLate.toNat
  | 0x084 => c.noInput.toNat
  | 0x088 => c.linkDown.toNat
  | 0x08C => c.otherDisc.toNat
  | 0x0A0 => p.intStatus.toNat
  | 0x0A4 => p.intMask.toNat
  | _ => 0

def lioStatus (s : State) : Nat :=
  (pack 32 [(11, b2n s.lio.g1.missing), (8, groupNo s.lio.g1.st), (3, b2n s.lio.g0.missing), (0, groupNo s.lio.g0.st)]).toNat

def lioReg (o : Nat) (s : State) : Nat :=
  let l := s.lio
  match o with
  | 0x000 => versionReg
  | 0x008 => lioStatus s
  | 0x010 => l.cfg.toNat
  | 0x014 => l.policy.toNat
  | 0x018 => l.cycle.toNat
  | 0x020 => l.map.toNat
  | 0x028 => l.inputs.toNat
  | 0x02C => l.thermal.toNat * 2 ^ 24 + l.limit.toNat * 2 ^ 16 + onByte s * 256 + l.latch.toNat
  | 0x030 => l.g1.mv10.toNat * 65536 + l.g0.mv10.toNat
  | 0x040 => l.tripCount.toNat
  | 0x044 => l.missedCnt.toNat
  | 0x060 => l.flags.toNat
  | _ => 0

/-- DIC registers; DIC_RELc, whose read removes an entry, is read by the bus (Bus.lean). -/
def dicReg (o : Nat) (s : State) : Nat :=
  let d := s.dic
  let q := dicQueue d s.now
  match o with
  | 0x000 => versionReg
  | 0x008 => b2n (decide (32 ≤ q)) * 256 + min 32 q
  | 0x018 => d.ringCount.toNat
  | 0x020 => d.stalls.toNat
  | o =>
    if 0x100 ≤ o ∧ o < 0x180 then fld d.pend (8 * (o - 0x100)) 32
    else if 0x200 ≤ o ∧ o < 0x280 then fld d.mask (8 * (o - 0x200)) 32
    else if 0x300 ≤ o ∧ o < 0x390 then
      if o % 16 = 0 then d.thresh.getD ((o - 0x300) / 16) 15
      else if o % 16 = 4 then (claimOf d ((o - 0x304) / 16)).toNat
      else 0
    else if 0x1000 ≤ o ∧ o < 0x2000 then (routeOf d ((o - 0x1000) / 4)).toNat
    else 0

def fijReg (o : Nat) (s : State) : Nat :=
  let m := s.mnt
  match o with
  | 0x000 => versionReg
  | 0x008 => (pack 32 [(31, b2n m.running), (30, b2n m.comm), (29, b2n m.haltWr), (24, m.stopCause), (0, fijEnabled s)]).toNat
  | 0x010 => b2n m.comm
  | 0x020 => m.duration.toNat
  | 0x024 => m.seed.toNat
  | 0x028 => if m.running then (s.now - m.startedAt) / 1000000000 else m.elapsed
  | o =>
    if 0x100 ≤ o ∧ o < 0x280 then
      let r := m.rules.getD ((o - 0x100) / 0x20) {}
      match o % 0x20 with
      | 0x00 => r.cfg.toNat
      | 0x04 => r.match_.toNat
      | 0x08 => r.sel.toNat
      | 0x0C => r.arg.toNat
      | 0x10 => r.hits.toNat
      | 0x14 => r.miss.toNat
      | _ => 0
    else 0

-- Bank -------------------------------------------------------------------------------------------------------------

def jrnReg (o : Nat) (s : State) : Nat :=
  let j := s.jrn
  match o with
  | 0x000 => versionReg
  | 0x008 => (pack 32 [(24, freeSegs j), (4, b2n j.cmdErr), (3, b2n j.host), (2, b2n j.coalescing), (1, b2n (j.pass.isSome && !j.paused)),
      (0, b2n j.paused)]).toNat
  | 0x010 => b2n j.host * 2 + b2n j.paused
  | 0x020 => j.durable
  | 0x028 => j.snapBase
  | 0x030 => jrnTokens j s.now / 1000000000
  | 0x034 => jrnLag j s.now
  | 0x038 => j.wear.toNat
  | 0x040 => j.passes.toNat
  | 0x044 => j.wrErr.toNat
  | 0x060 => j.intStatus.toNat
  | 0x064 => j.intMask.toNat
  | _ => 0

def evrReg (o : Nat) (s : State) : Nat :=
  let e := s.evr
  match o with
  | 0x000 => versionReg
  | 0x008 => b2n e.hostrl * 128 + min 64 e.queue.length
  | 0x010 => b2n e.hostrl * 2 + b2n e.rlen
  | 0x018 => e.head
  | 0x020 => e.lost.toNat
  | 0x024 => e.suppressed.toNat
  | 0x028 => globalNano e s.now / 1000000000
  | 0x060 => e.intStatus.toNat
  | 0x064 => e.intMask.toNat
  | o => if 0x4000 ≤ o ∧ o < 0x8000 then (bucketOf e ((o - 0x4000) / 4)).cfg.toNat else 0

-- Cord -------------------------------------------------------------------------------------------------------------

def physNo : PhysSt → Nat
  | .idle => 0
  | .running => 1
  | .retired => 2
  | .spare => 3

/-- SCL_PSTATp (R308); before the microcode runs it stands at its reset value. -/
def pstatReg (s : State) (p : Nat) : Nat :=
  if !s.scl.run then 0
  else
    let c := scCh s p
    let on := c.st == .running
    (pack 32 [(30, physNo c.st), (16, c.logical.getD 0xFF), (2, b2n c.selfchk), (1, b2n (on && inGap c)), (0, b2n (on && filling c))]).toNat

def sclReg (o : Nat) (s : State) : Nat :=
  let x := s.scl
  match o with
  | 0x000 => versionReg
  | 0x008 => (pack 32 [(17, b2n x.ingress), (16, b2n x.run), (12, min 4 (spareCount s)), (0, (x.chans.filter (fun c => c.st == .running)).length)]).toNat
  | 0x010 => b2n x.swq * 4 + b2n x.ingress * 2 + b2n x.run
  | 0x018 => x.chsel
  | 0x020 => x.adoptZero.toNat
  | 0x024 => x.adoptTare.toNat
  | 0x028 => x.adoptAux.toNat
  | 0x030 => x.adoptSeq.toNat
  | 0x034 => x.adoptIdx.toNat
  | 0x040 => x.cntBlocks.toNat
  | 0x048 => x.cntMac.toNat
  | 0x04C => x.cntGap.toNat
  | 0x050 => x.cntFmt.toNat
  | 0x054 => x.cntSelf.toNat
  | 0x060 => x.intStatus.toNat
  | 0x064 => x.intMask.toNat
  | o =>
    if 0x400 ≤ o ∧ o < 0x600 then (x.map.getD ((o - 0x400) / 4) 0).toNat
    else if 0x1000 ≤ o ∧ o < 0x1900 then prm (scCh s (selPhys s)) ((o - 0x1000) / 0x80) ((o % 0x80) / 8 + 1)
    else if 0x2000 ≤ o ∧ o < 0x2000 + 132 * 0x10 then
      let p := (o - 0x2000) / 0x10
      match o % 0x10 with
      | 0 => pstatReg s p
      | 4 => (scCh s p).seq.toNat
      | 8 => (scCh s p).idx.toNat
      | _ => 0
    else 0

/-- CRD_KS_FP: fingerprint of the key in the selected slot, zero for an empty one (R519). -/
def ksFp (s : State) : Nat :=
  let i := selIndex s.ks
  let key : Option (List Byte) := match selClass s.ks with
    | 3 => (recAt s.ks.records i).map KeyRec.key
    | 4 => (recAt s.ks.pairings i).map KeyRec.key
    | _ => selPublic s
  (key.map fingerprint).getD 0

def ksReg (o : Nat) (s : State) : Nat :=
  let k := s.ks
  match o with
  | 0x100 => (pack 32 [(14, b2n k.zeroised), (13, b2n k.dev.isSome), (12, b2n (owned k))]).toNat
  | 0x10C => k.resultCmd * 256 + k.result
  | 0x110 => k.sel.toNat
  | 0x118 => ksFp s
  | 0x120 => s.upd.arb.getD 3 0 * 256 + s.upd.arb.getD 2 0
  | 0x124 => 0xF0 + s.upd.revKs.toNat
  | 0x128 => b2n k.permit * 2 + 1
  | o => if 0x140 ≤ o ∧ o < 0x1C0 then (k.data.getD ((o - 0x140) / 4) 0).toNat else 0

def crdReg (o : Nat) (s : State) : Nat :=
  let c := s.cord
  match o with
  | 0x000 => versionReg
  | 0x008 => (pack 32 [(15, b2n c.ilock), (14, b2n c.uclock), (13, b2n s.mnt.comm), (10, roleNo s.pair.role), (8, b2n c.busy)]).toNat
  | 0x010 => c.changes * 65536 + b2n c.switchRaw * 2 + b2n c.switchSet
  | 0x018 => b2n c.session * 2 + b2n c.vmode
  | 0x020 => c.mbxReq.toNat
  | 0x024 => c.rspDoor.toNat
  | 0x028 => c.mbxErr.toNat
  | 0x030 => c.led.toNat
  | 0x060 => c.intStatus.toNat
  | 0x064 => c.intMask.toNat
  | o => if 0x100 ≤ o then ksReg o s else 0

def audReg (o : Nat) (s : State) : Nat :=
  let a := s.aud
  match o with
  | 0x000 => versionReg
  | 0x008 => (pack 32 [(7, b2n a.inited), (5, b2n (decide (131072 ≤ a.used))), (4, b2n (decide (130816 ≤ a.used))),
      (3, b2n (decide (124519 ≤ a.used))), (0, a.result)]).toNat
  | 0x010 => a.used
  | 0x014 => a.sealNo.toNat
  | 0x018 => a.lastCrc.toNat
  | 0x0A0 => a.intStatus.toNat
  | 0x0A4 => a.intMask.toNat
  | o => if 0x040 ≤ o ∧ o < 0x080 then (a.stage.getD ((o - 0x040) / 4) 0).toNat else 0

-- Gate -------------------------------------------------------------------------------------------------------------

def gateStatus (s : State) : Nat :=
  let g := s.gate
  (pack 32 [(30, b2n (g.oldPending != 0)), (29, b2n g.mopen), (28, b2n g.badRule), (24, g.badGate), (20, g.badRuleNo),
    (19, b2n (badWin g)), (8, g.faults.length)]).toNat

/-- GATE_ registers; the 64-bit read of GATE_TRK_HARVEST is the bus's (Bus.lean). -/
def gateReg (o : Nat) (s : State) : Nat :=
  let g := s.gate
  match o with
  | 0x000 => versionReg
  | 0x008 => gateStatus s
  | 0x010 => b2n g.mopenStaged
  | 0x018 => g.epoch.toNat
  | 0x020 => g.faultCount.toNat
  | 0x024 => g.faultLost.toNat
  | 0x028 => g.perrCount.toNat
  | 0x030 => (g.faults.head?.map (fun f => f.addr.toNat)).getD 0
  | 0x038 => (g.faults.head?.map (fun f => f.info.toNat)).getD 0
  | 0x040 => (g.faults.head?.map (fun f => f.time.toNat)).getD 0
  | 0x060 => g.intStatus.toNat
  | 0x064 => g.intMask.toNat
  | 0x100 => b2n g.trkBusy * 4 + b2n g.trkEn
  | 0x104 => g.dirty.length
  | 0x108 => g.trkIndex
  | 0x10C => (trkNext g).toNat
  | o =>
    if 0x140 ≤ o ∧ o < 0x180 then (g.windows.getD ((o - 0x140) / 8) 0).toNat
    else if 0x1000 ≤ o ∧ o < 0x1C00 then
      let k := (o - 0x1000) / 0x200
      let q := (o - 0x1000) % 0x200
      if q < 0x100 then
        let r := g.staged.getD (16 * k + q / 0x10) {}
        if q % 0x10 = 0 then r.addr.toNat else if q % 0x10 = 8 then r.perm.toNat else 0
      else if q = 0x100 then ((List.range 16).map (fun r => if g.perr.contains (16 * k + r) then 2 ^ r else 0)).sum
      else 0
    else 0

-- all -------------------------------------------------------------------------------------------------------------------

/-- The value of the register at offset `o` of a block. The KCL_ registers are reserved (R440). -/
def regRead (b : Blk) (o : Nat) (s : State) : Nat :=
  match b with
  | .hck => hckReg o s
  | .hpw => hpwReg o s
  | .rtc => rtcReg o s
  | .emb => embReg o s
  | .tim => timReg o s
  | .sup => supReg o s
  | .kdv => kdvReg o s
  | .kcl => 0
  | .cyc => cycReg o s
  | .fpt n => fptReg n o s
  | .flu => fluReg o s
  | .lio => lioReg o s
  | .dic => dicReg o s
  | .pair => pairReg o s
  | .fij => fijReg o s
  | .jrn => jrnReg o s
  | .evr => evrReg o s
  | .scl => sclReg o s
  | .crd => crdReg o s
  | .aud => audReg o s
  | .gate => gateReg o s

/-- The register at offset `o`, a multiple of 8, has 64 bits. -/
def regWide (b : Blk) (o : Nat) : Bool :=
  match b with
  | .sup => [0x040, 0x048].contains o
  | .tim => [0x008, 0x010, 0x018].contains o
  | .rtc => [0x010, 0x018, 0x020].contains o
  | .emb => [0x028, 0x038, 0x040, 0x048, 0x050, 0x058].contains o
  | .pair => [0x040, 0x048, 0x050, 0x060].contains o
  | .flu => [0x030, 0x038, 0x040, 0x048, 0x050, 0x100, 0x108, 0x140, 0x148].contains o
  | .cyc => [0x020, 0x028, 0x050, 0x058, 0x060, 0x070, 0x088].contains o
  | .fpt _ => [0x020, 0x040, 0x048, 0x060, 0x068].contains o
  | .lio => [0x018, 0x020].contains o
  | .dic => o == 0x018
  | .jrn => [0x020, 0x028, 0x038].contains o
  | .evr => o == 0x018
  | .scl => [0x028, 0x040].contains o || decide (0x1000 ≤ o ∧ o < 0x1900)
  | .crd => o == 0x118
  | .aud => o == 0x020
  | .gate => [0x030, 0x038, 0x040, 0x110].contains o || decide (0x140 ≤ o ∧ o < 0x180) ||
      (decide (0x1000 ≤ o ∧ o < 0x1C00) && decide ((o - 0x1000) % 0x200 < 0x100) && o % 0x10 == 0)
  | _ => false

/-- The 64-bit registers that are read through their snapshot (R96, R135, R172, R231, R355, R367, R368, R393, R394, R419, R442, R443). -/
def regSnap (b : Blk) (o : Nat) : Bool :=
  match b with
  | .tim => o == 0x008
  | .rtc => o == 0x010
  | .emb => o == 0x038
  | .pair => o == 0x060
  | .flu => [0x030, 0x038, 0x040].contains o
  | .cyc => [0x020, 0x028, 0x088].contains o
  | .fpt _ => [0x040, 0x048].contains o
  | .dic => o == 0x018
  | .jrn => [0x020, 0x028, 0x038].contains o
  | .evr => o == 0x018
  | .gate => o == 0x040
  | _ => false

end Sys2Proof.Machine
end

