-- ==== Sys2Proof/Machine/ObjRead.lean ====
section
/-!
DEFINITION. What the entries of the object dictionary read as (the entry tables of every chapter; R313, R336, R337, R339, R545): registers are
mirrored through `regRead`, configuration entries read as stored or as their default. Values are given as frames carry them, most
significant byte first (R312).
-/

namespace Sys2Proof.Machine

/-- An ASCII string's bytes. -/
def ascii (x : String) : List Byte := x.toList.map (fun c => BitVec.ofNat 8 c.toNat)

/-- A register as a value of n bytes. -/
def mirror (n : Nat) (b : Blk) (o : Nat) (s : State) : List Byte := beBytes n (regRead b o s)

/-- Version of a running component, 1 to 4. -/
def fwVersion (s : State) (comp : Nat) : Nat := (s.upd.fw.getD (comp - 1) {}).version.toNat

/-- 0x1000 (R313). -/
def readIdentity (sub : Nat) (s : State) : List Byte :=
  match sub with
  | 0x01 => ascii "EXGEKAR"
  | 0x02 => ascii (if Config.variantC then "PDC-9600-C" else "PDC-9600-A")
  | 0x03 => u8 (b2n Config.variantC)
  | 0x04 => u8 0x0B
  | 0x05 => be4 Config.serial.toNat
  | 0x06 => be4 0x00030002
  | 0x07 => be4 s.cord.fwVer.toNat
  | 0x08 => be4 (fwVersion s 2)
  | 0x09 => be2 Config.hwRevision.toNat
  | 0x0A => be4 Config.manufactured.toNat
  | 0x0B => be4 (s.hw.onNs / 3600000000000)
  | 0x0C => be4 (progId s)
  | 0x0D => be4 (configId s).toNat
  | _ => cfgVal s 0x1000 sub

/-- RESYNC_PROGRESS: percent of phase 2; 100 from phase 3 on. -/
def resyncPercent (s : State) : Nat :=
  let r := s.flu.resync
  if r.phase < 2 then 0
  else if 2 < r.phase ∨ r.total = 0 then 100
  else (r.total - r.pages.length) * 100 / r.total

/-- 0x1100 (R90, R132). -/
def readPair (sub : Nat) (s : State) : List Byte :=
  match sub with
  | 0x01 => u8 (roleNo s.pair.role)
  | 0x02 => u8 (if s.pair.role = .standby then subNo s.pair.sub else standbyState s)
  | 0x03 => u8 (slotNo (mySlot s))
  | 0x04 => be4 s.pair.epoch.toNat
  | 0x05 => be4 s.pair.epochSeen.toNat
  | 0x0C => be4 s.pair.takeCount.toNat
  | 0x0D => be8 s.pair.takeTime.toNat
  | 0x13 => be4 s.flu.divLife.toNat
  | 0x14 => be4 s.flu.txPeak.toNat
  | 0x15 => u8 (resyncPercent s)
  | _ => cfgVal s 0x1100 sub

/-- Channels that GATED_MASK entries name (0x1200.04). -/
def gatedChannels (s : State) : Nat :=
  ((s.od.vals.filter (fun v => 0x2000 ≤ v.index && v.index ≤ 0x5FFF && v.index % 8 == 5 && v.sub == 1)).map
    (fun v => (v.val.map (fun b => popcount b)).sum)).sum

/-- CONTINUITY of a segment: 0 intact, 1 cut, 2 one end only. -/
def continuity (n : Nat) (s : State) : Nat :=
  if (portOf s n).cut then 1 else if (endsInUse s n).length < 2 then 2 else 0

/-- 0x1200 to 0x1204 (R228). -/
def readSegment (idx sub : Nat) (s : State) : List Byte :=
  if idx = 0x1200 then
    match sub with
    | 0x01 => be4 (Config.signalCount (progId s))
    | 0x02 => be2 ((List.range 4).map (fun n => (tableOf s.mem n).length)).sum
    | 0x03 => be2 (s.fol.stations.filter (fun x => x.st == .absent)).length
    | _ => be2 (gatedChannels s)
  else
    let n := idx - 0x1201
    match sub with
    | 0x01 => u8 (segStNo (segOf s n).st)
    | 0x0A => u8 (continuity n s)
    | 0x0B => be2 (portOf s n).cutAfter
    | 0x0C => be2 ((stationsOn s n).filter (fun x => x.st == .present)).length
    | _ => cfgVal s idx sub

/-- 0x1300 and the tasks (R169): configuration entries read from the descriptor, which the program has given its defaults. -/
def readTask (idx sub : Nat) (s : State) : List Byte :=
  if idx = 0x1300 then
    match sub with
    | 0x01 => u8 (pstateNo s.cyc.pstate)
    | 0x05 => be8 s.cyc.beat.toNat
    | 0x06 => be4 s.cyc.hyper
    | _ => cfgVal s idx sub
  else
    let t := taskIdx idx
    let k := taskOf s t
    match sub with
    | 0x08 => u8 (b2n (enabled s t))
    | 0x09 => u8 k.st
    | 0x0A => be8 k.inst.toNat
    | 0x0B => be4 k.maxExec.toNat
    | 0x0C => be4 k.overruns.toNat
    | _ => match descField sub with
      | some (o, n) => beBytes (if sub ≤ 4 then 4 else 1) (readLe s.mem (descBase + 0x200 * t + o) n)
      | none => cfgVal s idx sub

def chgNo : ChgSt → Nat
  | .idle => 0
  | .loading => 1
  | .measuring => 2
  | .precopy => 3
  | .ready => 4
  | .swap => 5
  | .done => 6
  | .refused => 7
  | .abandoned => 8

/-- 0x1360 and 0x1361 (R193). -/
def readChange (idx sub : Nat) (s : State) : List Byte :=
  let c := s.chg
  if idx = 0x1360 then
    match sub with
    | 0x01 => u8 (chgNo c.st)
    | 0x04 => be8 c.swapBeat.toNat
    | 0x05 => be4 c.estimate.toNat
    | 0x06 => be4 c.lastDelta.toNat
    | 0x07 => u8 c.postponed
    | 0x08 => be2 c.lastAbort.toNat
    | 0x09 => be4 c.remain.toNat
    | _ => be4 c.count.toNat
  else
    match sub with
    | 0x04 => be2 c.forces.length
    | 0x06 => c.forces.flatMap (fun f => le4 f.id.toNat)
    | 0x07 => be4 c.dropped.toNat
    | _ => cfgVal s idx sub

/-- 0x1400 (R362). -/
def readTime (sub : Nat) (s : State) : List Byte :=
  match sub with
  | 0x01 => be8 s.tim.time.toNat
  | 0x02 => u8 s.tim.source
  | 0x05 => be8 (unsigned 64 s.tim.lastOffset)
  | 0x06 => be8 s.tim.incr.toNat
  | 0x07 => be8 s.tim.rtc.toNat
  | 0x0B => u8 s.clk.op
  | 0x0D => be4 s.clk.holdCount.toNat
  | 0x0E => mirror 4 .hck 0x008 s
  | _ => cfgVal s 0x1400 sub

/-- EVENT_BLOCK (R545): the ring's slots as stored, from that of EVENT_FROM on. -/
def eventBlock (s : State) : List Byte :=
  let from_ := cfgNum s 0x1501 1
  (List.range (cfgNum s 0x1501 2)).flatMap (fun k => readBytes s.mem (slotAddr (from_ + k)) 32)

/-- 0x1500 and 0x1501 (R391). -/
def readStore (idx sub : Nat) (s : State) : List Byte :=
  if idx = 0x1501 then (if sub = 3 then eventBlock s else cfgVal s idx sub)
  else
    match sub with
    | 0x01 => u8 (if s.jrn.paused then 2 else b2n s.jrn.coalescing)
    | 0x02 => u8 (freeSegs s.jrn)
    | 0x03 => be4 (retLen s)
    | 0x04 => be8 s.jrn.durable
    | 0x05 => be4 (jrnLag s.jrn s.now)
    | 0x06 => be8 s.jrn.wear.toNat
    | 0x07 => be2 (wearFraction s.jrn)
    | 0x09 => be2 (unsigned 16 (cfgTokens s.jrn s.now / 12000000000))
    | 0x0A => beBytes 6 s.evr.head
    | 0x0C => be4 s.evr.lost.toNat
    | _ => cfgVal s idx sub

/-- 0x1600 (R460). -/
def readLio (sub : Nat) (s : State) : List Byte :=
  match sub with
  | 0x07 => le2 s.lio.g0.mv10.toNat ++ le2 s.lio.g1.mv10.toNat
  | 0x08 => u8 (groupStates s.lio)
  | 0x09 => be2 s.lio.inputs.toNat
  | 0x0A => mirror 4 .lio 0x02C s
  | 0x0B => be4 s.lio.tripCount.toNat
  | _ => cfgVal s 0x1600 sub

/-- One record of SESSION_LIST. -/
def sessionRec (x : Session) : List Byte :=
  let (p, st) : Nat × Nat := match x.path with
    | .service _ => (0, 0)
    | .folmonet _ n _ => (1, n)
  le2 x.handle ++ u8 x.level ++ u8 p ++ le2 st ++ zeros 2

/-- 0x1710 to 0x1712 (R337). -/
def readService (idx sub : Nat) (s : State) : List Byte :=
  match idx, sub with
  | 0x1710, 0x01 => u8 s.od.sessions.length
  | 0x1710, 0x03 => fit 64 (s.od.sessions.flatMap sessionRec)
  | 0x1710, 0x04 => be4 s.od.failCount.toNat
  | 0x1711, 0x06 => u8 (b2n s.od.linkUp)
  | 0x1712, 0x02 => be8 s.od.savedAt.toNat
  | 0x1712, 0x03 => be4 s.od.peerCfgId.toNat
  | 0x1712, 0x04 => u8 (if (partnerSeen s).isNone then 2 else s.od.agree)
  | _, _ => cfgVal s idx sub

def updNo : UpdSt → Nat
  | .idle => 0
  | .staged => 1
  | .checked => 2
  | .writing => 3
  | .failed => 4

/-- STAGED_INFO (R516). -/
def stagedInfo (s : State) : List Byte :=
  if s.upd.staged.isEmpty then zeros 24
  else
    let h := stagedHdr s
    u8 (stagedComp s) ++ u8 (hdrSvn h) ++ le2 (hdrCompat h).toNat ++ le4 (hdrVersion h).toNat ++ le4 (hdrLen h) ++ (sha256 s.upd.staged).take 8 ++ zeros 4

/-- CREDENTIAL_LIST (R516): 32 slots. -/
def credList (s : State) : List Byte :=
  (List.range 32).flatMap (fun i => match credAt s.ks i with
    | some c => u8 i ++ u8 c.level ++ u8 (b2n c.debug) ++ zeros 1 ++ fpBytes c.key ++ zeros 4
    | none => u8 i ++ zeros 15)

/-- KEY_LIST (R516): class, index and fingerprint of every filled secret slot; each record 12 bytes. -/
def keyList (s : State) : List Byte :=
  let row (cls : Nat) (r : KeyRec) : List Byte := u8 cls ++ zeros 1 ++ le2 r.idx ++ fpBytes r.key
  s.ks.records.flatMap (row 3) ++ s.ks.pairings.flatMap (row 4)

/-- PAIRCOMPAT that the partner has told (R503). -/
def peerCompat (s : State) : Nat := ((partnerSeen s).map (fun x => (peerOf s.pair x).compat.toNat)).getD 0

/-- 0x1720 to 0x1740 (R516). -/
def readUpdate (idx sub : Nat) (s : State) : List Byte :=
  match idx, sub with
  | 0x1720, 0x03 => u8 (updNo s.upd.st)
  | 0x1720, 0x04 => stagedInfo s
  | 0x1720, 0x05 => be2 s.upd.lastResult.toNat
  | 0x1721, 0x09 => be2 (ownCompat s).toNat
  | 0x1721, 0x0A => be2 (peerCompat s)
  | 0x1730, 0x01 => (s.ks.dev.map (fun n => fit 32 (Config.exchangePublic n))).getD (zeros 32)
  | 0x1730, 0x04 => credList s
  | 0x1730, 0x08 => keyList s
  | 0x1730, 0x09 => if (cfgVal s 0x1730 9).isEmpty then Config.selfSigned else cfgVal s 0x1730 9
  | 0x1740, 0x03 => u8 (b2n s.upd.debugOpen)
  | 0x1721, k => if k ≤ 4 then u8 (s.upd.arb.getD (k - 1) 0) else u8 (s.upd.fw.getD (k - 5) {}).svn
  | _, _ => cfgVal s idx sub

def holderRec (h : Holder) : List Byte := u8 h.code ++ u8 (slotNo h.slot) ++ le2 h.arg ++ le2 h.session ++ zeros 2

/-- 0x1750 to 0x1753 (R540). -/
def readMaint (idx sub : Nat) (s : State) : List Byte :=
  match idx, sub with
  | 0x1750, 0x01 => fit 24 (s.mnt.holders.flatMap holderRec)
  | 0x1750, 0x02 => be4 s.mnt.busyCount.toNat
  | 0x1753, 0x04 => mirror 4 .fij 0x008 s
  | 0x1753, 0x05 => s.mnt.rules.flatMap (fun r => le4 r.hits.toNat)
  | 0x1752, k =>
    let r := s.mnt.rules.getD (k - 1) {}
    le4 r.cfg.toNat ++ le4 r.match_.toNat ++ le4 r.sel.toNat ++ le4 r.arg.toNat
  | _, _ => cfgVal s idx sub

/-- 0x1780 and 0x1783 (R265). -/
def readCord (idx sub : Nat) (s : State) : List Byte :=
  let peer := (partnerSeen s).map (fun x => peerOf s.pair x)
  match idx, sub with
  | 0x1780, 0x01 => legalIdText s
  | 0x1780, 0x02 => fit 32 s.cord.legalId
  | 0x1780, 0x03 => be4 s.cord.fwVer.toNat
  | 0x1780, 0x04 => be4 s.cord.ucVer.toNat
  | 0x1780, 0x05 => be4 s.aud.sealNo.toNat
  | 0x1780, 0x06 => be4 s.aud.used
  | 0x1780, 0x07 => u8 (audState s)
  | 0x1780, 0x08 => u8 (vflags s)
  | 0x1780, 0x09 => legalCfg8 s
  | 0x1780, 0x0A => deviceKey s.ks
  | 0x1780, 0x0B => (peer.map Peer.legalId).getD []
  | 0x1780, 0x0C => (peer.map Peer.legalCfg).getD []
  | 0x1780, 0x0D => u8 (legalAgree s)
  | 0x1783, k => u8 (chanStNo (chanSt s (k - 1)))
  | _, _ => cfgVal s idx sub

/-- SCALE_FILTERING (R42): 0 hardware, 1 Cord processor, 2 mixed, over the channels that are configured. -/
def filterModes (s : State) : Nat :=
  let ns := (List.range 128).filter (fun n => chanSt s n != .unconfigured)
  let soft := ns.filter (fun n => legalVal s.legal (0x7000 + 0x20 * n) 4 == 1)
  if soft.isEmpty then 0 else if soft.length = ns.length then 1 else 2

/-- Stations (R229): configuration from the station table, status from the working entry. -/
def readStationObj (x k sub : Nat) (s : State) : List Byte :=
  let y : Station := (stationOf s x).getD { no := x, cfg := readStation s.mem x }
  match k, sub with
  | 0, 3 => u8 (b2n (bit (readByte s.mem (stationAddr x)) 3))
  | 0, j => match stationPlace j with
    | some (o, n) => beBytes n (readLe s.mem (stationAddr x + o) n)
    | none => []
  | 1, 2 => be4 y.delayA.toNat
  | 1, 3 => be4 y.delayB.toNat
  | 1, 4 => be4 (Config.latchDelay x).toNat
  | 2, 1 => u8 (stNo y.st)
  | 2, 2 => [y.quality]
  | 2, 3 => be2 y.status.toNat
  | 2, 4 => be4 y.lastStamp.toNat
  | 2, 5 => be4 y.filter.toNat
  | 2, 6 => be4 y.gate.toNat
  | 2, 7 => u8 y.endNow
  | 3, 1 => be4 y.cNoInput.toNat
  | 3, 2 => be4 y.cCrc.toNat
  | 3, 3 => be4 y.cRefuse.toNat
  | 3, 4 => be4 y.cDrop.toNat
  | 3, 5 => be4 y.cEnd.toNat
  | _, _ => cfgVal s (0x2000 + 8 * x + k) sub

/-- Diagnostics (R339, R417, R440, R487). -/
def readDiag (idx sub : Nat) (s : State) : List Byte :=
  match idx, sub with
  | 0x8000, 0x01 => mirror 8 .sup 0x040 s
  | 0x8000, 0x02 => mirror 8 .sup 0x048 s
  | 0x8000, 0x03 => mirror 4 .sup 0x050 s
  | 0x8000, 0x04 => mirror 4 .sup 0x054 s
  | 0x8000, 0x05 => mirror 4 .sup 0x058 s
  | 0x8000, 0x06 => mirror 1 .sup 0x010 s
  | 0x8000, 0x07 => mirror 4 .sup 0x008 s
  | 0x8010, 0x01 => mirror 4 .gate 0x018 s
  | 0x8010, 0x02 => mirror 4 .gate 0x020 s
  | 0x8010, 0x03 => mirror 4 .gate 0x024 s
  | 0x8010, 0x04 => (s.gate.lastFault.map (fun f => le8 f.addr.toNat ++ le8 f.info.toNat ++ le8 f.time.toNat)).getD (zeros 24)
  | 0x8010, 0x05 => mirror 4 .gate 0x028 s
  | 0x8010, 0x06 => mirror 4 .gate 0x104 s
  | 0x8020, 0x01 => mirror 4 .emb 0x030 s
  | 0x8020, 0x02 => mirror 8 .emb 0x038 s
  | 0x8020, 0x03 => u8 s.emb.lastCause
  | 0x8020, 0x04 => mirror 1 .emb 0x014 s
  | 0x8020, 0x05 => mirror 4 .dic 0x020 s
  | 0x8020, 0x06 => mirror 8 .dic 0x018 s
  | 0x8030, 0x01 => be2 s.hw.feedA.mv10.toNat
  | 0x8030, 0x02 => be2 s.hw.feedB.mv10.toNat
  | 0x8030, 0x03 => be2 s.hw.powerNow.toNat
  | 0x8030, 0x04 => be2 s.hw.board.toNat
  | 0x8030, 0x05 => be2 s.hw.junction.toNat
  | 0x8030, 0x06 => mirror 4 .hpw 0x040 s
  | 0x8030, 0x07 => mirror 4 .hpw 0x044 s
  | 0x8030, 0x08 => u8 s.hw.resetCause
  | 0x8030, 0x09 => u8 (b2n (safe s))
  | _, _ => []

-- exported variables (R336) --------------------------------------------------------------------------------------------

/-- Level that writes an exported variable; none where it is read-only or a legal weight record (R331). -/
def exportWr (s : State) (y : Sym) : Option Nat :=
  let l := Config.exportWrite (progId s) y.id.toNat % 6
  if l = 5 ∨ bit y.flags 3 then none else some l

/-- Entry of an exported variable (R336). -/
def exportMeta (idx sub : Nat) (s : State) : Option Meta :=
  match exportSym s idx with
  | none => none
  | some y =>
    if 1 ≤ sub ∧ sub ≤ max 1 y.count then
      some { ty := tyOfCode y.typ, rd := some (Config.exportRead (progId s) y.id.toNat % 5), wr := exportWr s y,
             lo := -(2 ^ 63), hi := 2 ^ 64 }
    else none

/-- The value as committed (R336): input variables in the program copy, output variables in the emit copy, others in static data; a forced
variable reads as its forced value. -/
def readExport (idx sub : Nat) (s : State) : List Byte :=
  match s.run.prog, exportSym s idx with
  | some p, some y =>
    let n := typeSize y.typ
    let off := (sub - 1) * n
    let a := if bit y.flags 1 then pgBase + y.offset else if bit y.flags 2 then emBase + y.offset else p.dataBase + y.offset
    match s.chg.forces.find? (fun f => f.id == y.id) with
    | some f => toMem y.typ (slice f.val off n)
    | none => toMem y.typ (readBytes s.mem (a + off) n)
  | _, _ => []

/-- 0x6FFF.01 (R336): one 12-byte record for each exported variable. -/
def exportList (s : State) : List Byte :=
  match s.run.prog with
  | none => []
  | some p => (p.syms.take 0xFFF).mapIdx (fun k y =>
      le2 (0x6000 + k) ++ zeros 2 ++ le4 y.id.toNat ++ u8 y.typ ++ u8 (max 1 y.count) ++ u8 ((exportWr s y).getD 0xFF) ++ zeros 1) |>.flatten

-- all ----------------------------------------------------------------------------------------------------------------------

/-- Highest subindex of an index that has entries (R310); none: the index does not exist. -/
def indexTop (idx : Nat) (s : State) : Option Nat :=
  if idx = 0x6FFF then some 1
  else if 0x6000 ≤ idx ∧ idx < 0x6FFF then (exportSym s idx).map (fun y => max 1 y.count)
  else topSub idx

/-- The entry at an index and subindex: subindex 0 is a U8 (R310). -/
def entryOf (idx sub : Nat) (s : State) : Option Meta :=
  if sub = 0 then ro (.u 1)
  else if idx = 0x6FFF then (if sub = 1 then ro (.oct 49152) else none)
  else if 0x6000 ≤ idx ∧ idx < 0x6FFF then exportMeta idx sub s
  else metaOf idx sub

/-- An entry's value without the entries that Cord answers. -/
def readVal (idx sub : Nat) (s : State) : List Byte :=
  if sub = 0 then u8 ((indexTop idx s).getD 0)
  else if idx = 0x1000 then readIdentity sub s
  else if idx = 0x1100 then readPair sub s
  else if 0x1200 ≤ idx ∧ idx ≤ 0x1204 then readSegment idx sub s
  else if 0x1300 ≤ idx ∧ idx ≤ 0x135F then readTask idx sub s
  else if idx = 0x1360 ∨ idx = 0x1361 then readChange idx sub s
  else if idx = 0x1400 then readTime sub s
  else if idx = 0x1500 ∨ idx = 0x1501 then readStore idx sub s
  else if idx = 0x1600 then readLio sub s
  else if 0x1710 ≤ idx ∧ idx ≤ 0x1712 then readService idx sub s
  else if 0x1720 ≤ idx ∧ idx ≤ 0x1740 then readUpdate idx sub s
  else if 0x1750 ≤ idx ∧ idx ≤ 0x1753 then readMaint idx sub s
  else if 0x1780 ≤ idx ∧ idx ≤ 0x1783 then readCord idx sub s
  else if idx = 0x1800 ∧ sub = 1 then u8 (filterModes s)
  else if 0x2000 ≤ idx ∧ idx ≤ 0x5FFF then readStationObj ((idx - 0x2000) / 8) (idx % 8) sub s
  else if idx = 0x6FFF then exportList s
  else if 0x6000 ≤ idx ∧ idx < 0x6FFF then readExport idx sub s
  else if 0x8000 ≤ idx then readDiag idx sub s
  else cfgVal s idx sub

/-- READ of an entry: the value, or the abort code of what Cord answers (R242, R252, R260, R512). -/
def readObj (idx sub : Nat) (s : State) : State × Nat × List Byte :=
  if idx = 0x1781 ∧ sub = 1 then
    let (s, c, r) := viaMbx 0x0020 opChallenge (mbxOf s 0 0 []) s
    (s, c, r.data)
  else if idx = 0x1782 ∧ sub = 3 then
    let (s, c, r) := viaMbx 0x0030 opAuditRead (mbxOf s (cfgNum s 0x1782 1) (cfgNum s 0x1782 2) []) s
    (s, c, r.data)
  else if idx = 0x1740 ∧ sub = 1 then debugChallenge s
  else if 0x7000 ≤ idx ∧ idx ≤ 0x7FFF ∧ sub ≠ 0 then
    let (s, c, r) := viaMbx 0x0011 opObjRead (mbxOf s (idx * 256 + sub) 0 []) s
    let n := ((metaOf idx sub).bind (fun m => m.ty.size)).getD 8
    (s, c, (r.data.take n).reverse)
  else (s, 0, readVal idx sub s)

end Sys2Proof.Machine
end

