-- ==== Sys2Proof/Machine/Sessions.lean ====
section
/-!
DEFINITION. Sessions of the object dictionary and the paths that carry its requests (09 R314 to R322).
-/

namespace Sys2Proof.Machine

-- paths (R318 to R321) ----------------------------------------------------------------------------------------------------------

/-- A request comes from the sender that the session is bound to (R318, R320). -/
def samePath : Path → Path → Bool
  | .service a, .service b => a == b
  | .folmonet g x _, .folmonet h y _ => g == h && x == y
  | _, _ => false

def isFol : Path → Bool
  | .folmonet _ _ _ => true
  | .service _ => false

/-- Data bytes of one segment (R319, R321). -/
def segSize (p : Path) : Nat := if isFol p then 1024 else 32768

def clientOf (p : Path) (m : SvcMsg) : Client :=
  { path := p, session := m.session.toNat, tid := m.tid, index := m.index.toNat, sub := m.sub.toNat }

/-- ABORT with its code (R202, R325). -/
def abort (c : Client) (code : Nat) (s : State) : State := respond c 5 code [] s

/-- A segment of a value: ARG is its offset, SFLAGS bit 0 says that more follow (R323). -/
def respondSeg (c : Client) (off : Nat) (more : Bool) (data : List Byte) (s : State) : State :=
  send (.reply c.path
    { op := 3, tid := c.tid, index := BitVec.ofNat 16 c.index, sub := BitVec.ofNat 8 c.sub, sflags := BitVec.ofNat 8 (b2n more)
      session := BitVec.ofNat 16 c.session, arg := BitVec.ofNat 32 off, data := data }) s

/-- The open session of that handle on that path. -/
def sessionOn (s : State) (h : Nat) (p : Path) : Option Session := s.od.sessions.find? (fun x => x.handle == h && samePath x.path p)

def putSession (x : Session) (s : State) : State :=
  { s with od := { s.od with sessions := s.od.sessions.map (fun y => if y.handle = x.handle then x else y) } }

def modSession (h : Nat) (f : Session → Session) (s : State) : State :=
  { s with od := { s.od with sessions := s.od.sessions.map (fun y => if y.handle = h then f y else y) } }

-- opening and closing (R315 to R318) ------------------------------------------------------------------------------------------------

/-- Event 0x0600 (R340): handle, level, path (0 service port, 1 Folmonet), credential slot (0xFF for none). -/
def tellOpened (x : Session) (s : State) : State :=
  post 0x0600 0x06 (le2 x.handle ++ u8 x.level ++ u8 (b2n (isFol x.path)) ++ u8 (x.cred.getD 0xFF)) s

/-- The Cord session that this one's PROOF opened is closed with reason 1 (R317). -/
def vClose (x : Session) (s : State) : State :=
  match x.cord with
  | some h => (viaMbx 0x0022 opClose { session := h, arg0 := 0, arg1 := 0, data := [] } s).1
  | none => s

/-- A session closes (R317, R340): cause 0 close, 1 transport, 2 idle, 3 takeover. -/
def closeSession (h cause : Nat) (s : State) : State :=
  match s.od.sessions.find? (fun x => x.handle == h) with
  | none => s
  | some x =>
    let s := { s with od := { s.od with sessions := s.od.sessions.filter (fun y => y.handle != h) } }
    vClose x (post 0x0601 0x06 (le2 h ++ u8 cause) s)

def closeWhere (p : Session → Bool) (cause : Nat) (s : State) : State :=
  (s.od.sessions.filter p).foldl (fun s x => closeSession x.handle cause s) s

/-- A handle that no open session has: they are counted on, without 0. -/
def newHandle (s : State) : Nat :=
  let cand (k : Nat) : Nat := (s.od.handles + k) % 65535 + 1
  ((List.range 9).map cand).find? (fun h => !s.od.sessions.any (fun x => x.handle == h)) |>.getD 1

/-- FOLMONET_SESSIONS (R338). -/
def folSessions (s : State) : Bool := cfgNum s 0x1710 5 != 0

/-- Refusals of an OPEN (R315, R317, R318, R320). -/
def openRefused (p : Path) (level : Nat) (s : State) : Nat :=
  if 4 < level then 0x0609
  else if isFol p ∧ (1 < level ∨ !folSessions s) then 0x060A
  else if 4 ≤ (s.od.sessions.filter (fun x => isFol x.path == isFol p)).length then 0x060B
  else if !isFol p ∧ s.od.sessions.any (fun x => samePath x.path p) then 0x060B
  else 0

/-- OPEN (R315): above Observer level a challenge of 32 bytes, valid for 60 s. -/
def sessionOpen (p : Path) (tid : Byte) (level : Nat) (s : State) : State :=
  let c : Client := { path := p, session := 0, tid := tid, index := 0, sub := 0 }
  let r := openRefused p level s
  if r ≠ 0 then abort c r s
  else
    let h := newHandle s
    let ch := if level = 0 then [] else randomBytes s.freeCtr 32
    let x : Session :=
      { handle := h, level := level, proven := level == 0, challenge := ch, openedAt := s.now, cred := none, path := p, xfer := none }
    let s := { s with freeCtr := if level = 0 then s.freeCtr else s.freeCtr + 1, od := { s.od with handles := h, sessions := s.od.sessions ++ [x] } }
    let s := if level = 0 then tellOpened x s else s
    respond { c with session := h } 0x14 0 ch s

/-- Failed proofs of the last 10 minutes. -/
def recentFails (s : State) : List Nat := s.od.proofFails.filter (fun t => decide (s.now - t < 600000000000))

/-- A failed PROVE (R316): 0x060C, event 0x0602; the fifth within 10 minutes locks for 10 minutes. -/
def proveFails (c : Client) (s : State) : State :=
  let l := s.now :: recentFails s
  let lock := decide (5 ≤ l.length)
  let s := { s with od := { s.od with
      failCount := satInc s.od.failCount, proofFails := if lock then [] else l
      lockUntil := if lock then s.now + 600000000000 else s.od.lockUntil } }
  abort c 0x060C (post 0x0602 0x06 [] s)

/-- The signature holds: challenge and SERIAL (R316), by a credential enrolled for the level or a higher one (R315). -/
def proveHolds (x : Session) (slot : Nat) (sig : List Byte) (s : State) : Bool :=
  match credAt s.ks slot with
  | some k => decide (x.level ≤ k.level) && decide (s.now - x.openedAt ≤ 60000000000) &&
      Config.ed25519Verify k.key (x.challenge ++ le4 Config.serial.toNat) sig
  | none => false

/-- PROVE (R316). While proofs are locked out, a PROVE is refused and not counted. -/
def sessionProve (p : Path) (tid : Byte) (h slot : Nat) (sig : List Byte) (s : State) : State :=
  let c : Client := { path := p, session := h, tid := tid, index := 0, sub := 0 }
  match sessionOn s h p with
  | none => abort c 0x0608 s
  | some x =>
    if x.proven then respond c 0x15 0 [] s
    else if s.now < s.od.lockUntil then abort c 0x060C s
    else if !proveHolds x slot sig s then proveFails c s
    else
      let x := { x with proven := true, cred := some slot, challenge := [] }
      respond c 0x15 0 [] (tellOpened x (putSession x s))

/-- CLOSE (R317): the answer, then the close. -/
def sessionClose (p : Path) (tid : Byte) (h : Nat) (s : State) : State :=
  let c : Client := { path := p, session := h, tid := tid, index := 0, sub := 0 }
  match sessionOn s h p with
  | none => abort c 0x0608 s
  | some _ => respond c 0x16 0 [] (closeSession h 0 s)

/-- KEEPALIVE (R317). -/
def sessionKeep (p : Path) (tid : Byte) (h : Nat) (s : State) : State :=
  let c : Client := { path := p, session := h, tid := tid, index := 0, sub := 0 }
  match sessionOn s h p with
  | none => abort c 0x0608 s
  | some _ => respond c 0x17 0 [] s

/-- Revocation closes a session after its answer (R514, R509). -/
def closeRevoked (s : State) : State := closeWhere (fun x => x.revoked) 0 s

-- entering by a path (R319 to R321) --------------------------------------------------------------------------------------------------

/-- The SERVICE frame that a station sent (R202), as a standby's port passes it on. -/
def svcFrame (s : State) (seg station end_ : Nat) (m : SvcMsg) : FolFrame :=
  { hdr := { typ := 4, seg := seg, flags := BitVec.ofNat 8 (end_ % 2), stamp := stampOf s seg
             epoch := ((stationOf s station).map (fun x => x.filter)).getD s.pair.epoch, station := station, hops := 0 }
    body := .service m }

/-- A request reaches the dictionary by its path (R319 to R321): on the service port by an open connection; on Folmonet only the ACTIVE unit
answers, and a standby's port passes the frame on (R215). -/
def enter (p : Path) (m : SvcMsg) (f : State → State) (s : State) : State :=
  if !runtimeLive s then s
  else match p with
  | .service n =>
    if isolated s 0x06 ∨ !s.od.conns.contains n then s
    else if 32768 < m.data.length then
      let s := closeWhere (fun x => samePath x.path p) 1 s
      send (.closed n) { s with od := { s.od with conns := s.od.conns.erase n } }
    else closeRevoked (f s)
  | .folmonet g x e =>
    let here (s : State) : State :=
      if s.pair.role = .active then
        (if 1024 < m.data.length then abort (clientOf p m) 0x0606 s else closeRevoked (f s))
      else if s.pair.role = .standby ∧ myEnd s = some e then relayIn g (svcFrame s g x e m) s
      else s
    if myEnd s ≠ some e then here s
    else if !portUp s g then s
    else
      let (s, fate, after) := folRxRule g (svcFrame s g x e m) s
      let s := match fate with
        | .passes => here (countRx g s)
        | .badCrc => countCrc g x s
        | .wrongType => countOther g s
        | _ => s
      match after with
      | some k => folRxBody g k s
      | none => s

/-- A session operation as its frame (R315). -/
def sesMsg (op : Byte) (tid : Byte) (h : Nat) (data : List Byte) : SvcMsg :=
  { op := op, tid := tid, index := 0, sub := 0, sflags := 0, session := BitVec.ofNat 16 h, arg := 0, data := data }

-- commands ---------------------------------------------------------------------------------------------------------------------------------

/-- A TLS connection on the service port (R320): at most four. -/
def execServiceConnection (conn : Nat) (s : State) : Host.Outcome State Fault Refusal :=
  finish <|
  if !runtimeLive s ∨ isolated s 0x06 ∨ s.od.conns.contains conn then s
  else if 4 ≤ s.od.conns.length then send (.closed conn) s
  else { s with od := { s.od with conns := s.od.conns ++ [conn], linkUp := true } }

/-- The connection ends: its session closes (R317). -/
def execServiceConnectionEnd (conn : Nat) (s : State) : Host.Outcome State Fault Refusal :=
  finish <|
  if !s.od.conns.contains conn then s
  else closeWhere (fun x => samePath x.path (.service conn)) 1 { s with od := { s.od with conns := s.od.conns.erase conn } }

def execSessionOpen (path : Path) (tid level : Byte) (s : State) : Host.Outcome State Fault Refusal :=
  finish (enter path (sesMsg 0x10 tid 0 (level :: zeros 3)) (sessionOpen path tid level.toNat) s)
def execSessionProve (path : Path) (tid : Byte) (session : Nat) (credSlot : Byte) (signature : List Byte) (s : State) :
    Host.Outcome State Fault Refusal :=
  finish (enter path (sesMsg 0x11 tid session (credSlot :: zeros 3 ++ signature)) (sessionProve path tid session credSlot.toNat signature) s)
def execSessionClose (path : Path) (tid : Byte) (session : Nat) (s : State) : Host.Outcome State Fault Refusal :=
  finish (enter path (sesMsg 0x12 tid session []) (sessionClose path tid session) s)
def execSessionKeepalive (path : Path) (tid : Byte) (session : Nat) (s : State) : Host.Outcome State Fault Refusal :=
  finish (enter path (sesMsg 0x13 tid session []) (sessionKeep path tid session) s)

/-- 60 s without a successful PROVE (R316). -/
def execProveTimeout (session : Nat) (s : State) : Host.Outcome State Fault Refusal :=
  finish (if runtimeLive s then closeWhere (fun x => x.handle == session && !x.proven) 2 s else s)

/-- SESSION_IDLE has passed (R317). -/
def execSessionIdleTimeout (session : Nat) (s : State) : Host.Outcome State Fault Refusal :=
  finish (if runtimeLive s then closeWhere (fun x => x.handle == session) 2 s else s)

/-- More than 5 s between segments (R324): the data is discarded, the next segment is told. -/
def execSegmentTransferTimeout (session : Nat) (s : State) : Host.Outcome State Fault Refusal :=
  finish (if runtimeLive s then modSession session (fun x => { x with xfer := x.xfer.map (fun t => { t with late := true, data := [] }) }) s else s)

end Sys2Proof.Machine
end

