-- ==== Sys2Proof/Machine/Dict.lean ====
section
/-!
DEFINITION. Requests of the object dictionary (09): the order of checks (R325), change classes (R326), the store (R333), copied, local and
program-visible writes (R327 to R332), commands of every chapter's entries, the activities of the maintenance token (17 R528 to R531).
-/

namespace Sys2Proof.Machine

-- steps 1 to 8 (R325) --------------------------------------------------------------------------------------------------------------

/-- The unowned module's exception (R509): one Service credential by an Observer session on the service port. -/
def unownedEnrol (x : Session) (idx sub : Nat) (data : List Byte) (s : State) : Bool :=
  idx == 0x1730 && sub == 2 && !isFol x.path && !owned s.ks && s.pair.role == .offline && s.hw.key == .service && leAt data 1 1 == 4

/-- The session's level suffices (R314, R315): an unproven session holds no rights; an entry of write level Verifier needs a session opened
at that level. -/
def levelOk (x : Session) (write : Bool) (m : Meta) : Bool :=
  x.proven && (match (if write then m.wr else m.rd) with
    | none => true
    | some n => if write && n == 3 then x.level == 3 else decide (n ≤ x.level))

/-- Steps 1 to 6: 0, or the abort code of the first failure. -/
def checkAccess (c : Client) (write : Bool) (data : List Byte) (s : State) : Nat :=
  if (indexTop c.index s).isNone then 0x0601
  else match entryOf c.index c.sub s with
    | none => 0x0602
    | some m =>
      let missing := if write then m.wr.isNone else m.rd.isNone
      let at6 := if missing then 0x0604 else 0
      if c.session = 0 ∧ !write ∧ m.rd = some 0 then (if isFol c.path ∧ !m.fol then 0x060A else 0)
      else match sessionOn s c.session c.path with
        | none => 0x0608
        | some x =>
          if isFol c.path ∧ !m.fol then 0x060A
          else if !levelOk x write m ∧ !(write && unownedEnrol x c.index c.sub data s) then 0x0603
          else at6

/-- Entries whose raw bytes have one length only (R296, R391, R540, R229). -/
def exactLen (idx sub : Nat) : Option Nat :=
  if idx = 0x1752 then some 16
  else if idx = 0x1502 then some 4
  else if 0x1370 ≤ idx ∧ idx ≤ 0x1377 then some 12
  else if 0x2000 ≤ idx ∧ idx ≤ 0x5FFF ∧ idx % 8 = 5 ∧ sub = 1 then some 8
  else none

/-- Step 7. -/
def typeFits (idx sub : Nat) (m : Meta) (v : List Byte) : Bool :=
  fitsType m.ty v && (match exactLen idx sub with | some n => v.length == n | none => true)

/-- A task entry as accepted: stored, else as the descriptor has it (R169). -/
def taskNum (t sub : Nat) (s : State) : Nat :=
  match s.od.vals.find? (fun v => v.index == 0x1310 + t && v.sub == sub), descField sub with
  | some v, _ => beNat v.val
  | none, some (o, n) => readLe s.mem (descBase + 0x200 * t + o) n
  | none, none => 0

/-- A task entry's value against the others (R146, R169). -/
def taskRange (t sub n : Nat) (s : State) : Bool :=
  match sub with
  | 1 => true
  | 2 => decide (n < taskNum t 1 s)
  | 3 => decide (n < taskNum t 4 s)
  | 4 => if t < 16 then decide (taskNum t 3 s < n ∧ n ≤ 250 * taskNum t 1 s) else decide (0 < n)
  | 7 => decide (0 < n) && n % 2 == 0
  | _ => true

/-- Bus cycle of a segment in µs as accepted; none where it has none. -/
def cycleUs (seg : Nat) (s : State) : Option Nat :=
  let p := cfgNum s (0x1201 + seg) 5
  if p < 7 then some (2 ^ p * 250) else none

/-- The marks of a segment (R205). -/
def marksOk (seg rd wr : Nat) (s : State) : Bool :=
  decide (rd + 10 ≤ wr) && (match cycleUs seg s with | some c => decide (wr + 10 ≤ c) | none => true)

/-- Record mapping (R296): IMGOFF and its units in TASK's input pages, CMDOFF in its output pages, the latest record for a channel in use. -/
def mappingOk (ch : Nat) (v : List Byte) (s : State) : Bool :=
  let off := leAt v 0 4
  let units := leAt v 4 1
  let t := leAt v 5 1
  let cmd := leAt v 8 4
  let bytes := 64 * ((if units.testBit 0 then 1 else 0) + (if units.testBit 1 then 1 else 0) + (if units.testBit 2 then 62 else 0))
  let d := (taskOf s t).desc
  let pages (b : BitVec 1024) (a n : Nat) : Bool := n == 0 || (List.range ((a + n - 1) / 256 - a / 256 + 1)).all (fun k => bit b (a / 256 + k))
  leAt v 6 2 == 0 && decide (units < 8) && off % 64 == 0 && (units.testBit 1 || chanSt s ch == .unconfigured) &&
    (units == 0 || (decide (t < 80) && decide (off + bytes ≤ 0x40000) && pages d.inPages off bytes)) &&
    (cmd == 0xFFFFFFFF || (cmd % 16 == 0 && decide (t < 80) && decide (cmd + 16 ≤ 0x40000) && pages d.outPages cmd 16))

/-- A contiguous run of ones from the top (R337). -/
def maskOk (n : Nat) : Bool := (0xFFFFFFFF - n) &&& (0x100000000 - n) == 0

/-- The IMAGE message of every task of the loaded program, sent alone at 10 Gbit/s, takes at most LAGMAX less 20 µs (R125, R133): its body without
object sections, and 74 bytes more for each part of 1,464 (log 55). -/
def lagFits (lag : Nat) (s : State) : Bool :=
  let s := { s with od := { s.od with progWs := [] } }
  s.run.prog.isNone || (List.range 80).all (fun t =>
    let b := (imageBody t [] s).length
    let wire := b + 74 * ((b + 1463) / 1464)
    (taskOf s t).desc.inPages == 0 || decide (wire * 4 / 5 + 20000 ≤ lag * 1000))

/-- Step 8 beyond the stated range: conditions on a value that its chapter answers with 0x0609. -/
def rangeExtra (idx sub : Nat) (v : List Byte) (s : State) : Bool :=
  let n := beNat v
  if idx = 0x1711 ∧ sub = 3 then maskOk n
  else if idx = 0x1100 ∧ sub = 0x10 then lagFits n s
  else if 0x1201 ≤ idx ∧ idx ≤ 0x1204 ∧ sub = 3 then marksOk (idx - 0x1201) n (cfgNum s idx 4) s
  else if 0x1201 ≤ idx ∧ idx ≤ 0x1204 ∧ sub = 4 then marksOk (idx - 0x1201) (cfgNum s idx 3) n s
  else if 0x1310 ≤ idx ∧ idx ≤ 0x135F then taskRange (taskIdx idx) sub n s
  else if 0x1370 ≤ idx ∧ idx ≤ 0x1377 then mappingOk (16 * (idx - 0x1370) + sub - 1) v s
  else if idx = 0x1600 ∧ sub = 2 then n &&& 0xCC == 0
  else if idx = 0x1502 then decide (leAt v 0 2 < 0x1000)
  else true

/-- A value of an exported variable (R311): a binary32 that is no number is refused as well. -/
def exportRange (idx : Nat) (v : List Byte) (s : State) : Bool :=
  match exportSym s idx with
  | some y => !(y.typ == 10 && (beNat v >>> 23) % 256 == 255 && beNat v % 2 ^ 23 != 0)
  | none => true

/-- Steps 7 and 8. -/
def checkValue (idx sub : Nat) (m : Meta) (v : List Byte) (s : State) : Nat :=
  if !typeFits idx sub m v then 0x0605
  else if !inRange m v ∨ !rangeExtra idx sub v s ∨ (0x6000 ≤ idx ∧ idx < 0x6FFF ∧ !exportRange idx v s) then 0x0609
  else 0

-- step 9 (R326, and the owning blocks of R41, R169, R228, R229, R296, R460, R538) ---------------------------------------------------------

/-- Stopped conditions of the function modes (R41): the block that runs, if it does. -/
def modeBusy (sub : Nat) (s : State) : Option Byte :=
  match sub with
  | 2 => if s.pair.role = .offline ∨ s.pair.role = .reserve ∨ s.pair.role = .update then none else some 0x40
  | 3 => if s.jrn.paused then none else some 0x61
  | 4 => if s.evr.rlen then some 0x63 else none
  | 5 => if s.fol.segs.all (fun g => g.st == .stopped) then none else some 0x4A
  | 6 => if trimSrc s = 0 then none else some 0x00
  | _ => none

def taskBusy (t : Nat) (s : State) : Bool := enabled s t || (taskOf s t).inFlight

/-- The owning block of a Halt entry runs: its identifier. -/
def haltBusy (idx sub : Nat) (v : List Byte) (s : State) : Option Byte :=
  let seg (n : Nat) : Option Byte := if (segOf s n).st = .stopped then none else some (fptBlock n)
  let task (t : Nat) : Option Byte := if t < 80 && taskBusy t s then some 0x40 else none
  if 0x1201 ≤ idx ∧ idx ≤ 0x1204 then seg (idx - 0x1201)
  else if 0x1310 ≤ idx ∧ idx ≤ 0x135F then task (taskIdx idx)
  else if 0x1370 ≤ idx ∧ idx ≤ 0x1377 then
    let on (t : Nat) : Bool := decide (t < 80) && enabled s t
    if on (leAt v 5 1) || on (leAt (cfgVal s idx sub) 5 1) then some 0x40 else none
  else if idx = 0x1600 then (if s.cyc.pstate = .starting ∨ s.cyc.pstate = .running then some 0x48 else none)
  else if idx = 0x1752 ∨ idx = 0x1753 then (if s.mnt.running then some 0x4C else none)
  else if idx = 0x1800 then modeBusy sub s
  else if 0x2000 ≤ idx ∧ idx ≤ 0x5FFF then seg (segOfStation s ((idx - 0x2000) / 8))
  else none

/-- Step 9: 0x2107 with event 0x0603 where the owning block runs. -/
def checkHalt (idx sub : Nat) (m : Meta) (v : List Byte) (s : State) : State × Nat :=
  if m.chg ≠ .halt then (s, 0)
  else match haltBusy idx sub v s with
    | some b => (post 0x0603 0x06 (le2 idx ++ u8 sub ++ [b]) s, 0x2107)
    | none => (s, 0)

-- step 11 (R333, R380) -----------------------------------------------------------------------------------------------------------------------

/-- A write into the configuration area: it fails, the bucket is empty, or one write is drawn. -/
def areaWrite (s : State) : State × Nat :=
  if isolated s 0x61 ∨ s.sup.bankHeld then (post 0x0606 0x06 [] s, 0x060D)
  else if cfgTokens s.jrn s.now < 12000000000 then (post 0x0807 0x61 [] s, 0x2701)
  else (cfgDraw s, 0)

-- who asks ---------------------------------------------------------------------------------------------------------------------------------------

/-- Who asks for a write: a client here, or the module that forwarded it under its number (R329, R531). -/
structure Asker where
  client  : Option Client
  forward : Option Word
  slot    : Slot
  session : Nat
deriving DecidableEq, Repr

def askOf (s : State) (c : Client) : Asker := { client := some c, forward := none, slot := mySlot s, session := c.session }

/-- The outcome goes to the client, or as RESULT to the module that forwarded (R325, R329). -/
def tellAsker (a : Asker) (code : Nat) (s : State) : State :=
  let s := match a.client with
    | some c => if code = 0 then respond c 4 0 [] s else abort c code s
    | none => s
  match a.forward with
  | some n => sendFlue (some a.slot) (.objWrite { op := 5, txn := n, beat := 0, arg := BitVec.ofNat 32 code, entries := [] }) s
  | none => s

def tellR (a : Asker) (r : State × Nat) : State := tellAsker a r.2 r.1

-- OBJWRITE frames (R332) ------------------------------------------------------------------------------------------------------------------------------

/-- An entry's value in pieces that fit a frame; the receiver joins consecutive pieces of one entry. -/
def splitEntry (e : ObjE) : List ObjE :=
  if e.value.isEmpty then [e]
  else (List.range ((e.value.length + 1399) / 1400)).map (fun k => { e with value := slice e.value (1400 * k) 1400 })

/-- Entries in payloads of at most 1,480 bytes. -/
def objChunks : List ObjE → List ObjE → Nat → List (List ObjE)
  | [], acc, _ => [acc]
  | e :: es, acc, n =>
    let k := 8 + pad4 e.value.length
    if 1480 < n + k ∧ !acc.isEmpty then acc :: objChunks es [e] (24 + k) else objChunks es (acc ++ [e]) (n + k)

def joinEntries (es : List ObjE) : List ObjE :=
  (es.foldl (fun acc e => match acc with
    | x :: xs => if x.index = e.index ∧ x.sub = e.sub then { x with value := x.value ++ e.value } :: xs else e :: acc
    | [] => [e]) []).reverse

/-- A transaction leaves in frames, all but the last with MORE. -/
def sendEntries (dst : Slot) (op : Nat) (txn : Word) (beat : DWord) (es : List ObjE) (s : State) : State :=
  let cs := objChunks (es.flatMap splitEntry) [] 24
  cs.zipIdx.foldl (fun s c => sendFlueF (if c.2 + 1 < cs.length then 2 else 0) (some dst)
    (.objWrite { op := op, txn := txn, beat := beat, arg := 0, entries := c.1 }) s) s

def entryE (idx sub : Nat) (v : List Byte) : ObjE :=
  { index := BitVec.ofNat 16 idx, sub := BitVec.ofNat 8 sub, typ := BitVec.ofNat 8 (entryType idx sub), value := v }

-- forwarding (R329, R531) ----------------------------------------------------------------------------------------------------------------------------

/-- A module that shows ACTIVE with its FLUE bit set and a lane toward it. -/
def reachActive (s : State) : Option Slot :=
  (others s).find? (fun x => heard s x && (peerOf s.pair x).role == some .active && !(lanesFor s (some x)).isEmpty && maySendFlue s)

/-- The write is forwarded, or refused at once. -/
def forwardWrite (c : Option Client) (idx sub : Nat) (v : List Byte) (s : State) : State :=
  match reachActive s with
  | none => (match c with | some c => abort c 0x060E s | none => (cmdStatus 1 (s, 0x060E)).1)
  | some x =>
    let n := s.od.fwdNo + 1
    sendEntries x 4 n 0 [entryE idx sub v]
      { s with od := { s.od with fwdNo := n, forwards := s.od.forwards ++ [{ no := n, client := c, value := v, at_ := s.now }] } }

-- copied writes (R327) ---------------------------------------------------------------------------------------------------------------------------------

/-- The first boundary at least 500 µs ahead. -/
def applyBeat (s : State) : Nat := s.cyc.beat.toNat + (s.now + 500000 - s.cyc.beatAt + 249999) / 250000

/-- The standby that APPLY goes to (R330): SYNCHRONISED, or in RESYNC from phase 2 on. -/
def applyTo (s : State) : Option Slot :=
  if s.pair.role ≠ .active then none
  else match standbySlot s with
    | some x => if (peerOf s.pair x).sub = .synchronised ∨ 2 ≤ s.flu.resync.phase then some x else none
    | none => none

/-- RESUME of a task (R155): a command carried as a copied write, not stored. -/
def isResume (idx sub : Nat) : Bool := decide (0x1310 ≤ idx ∧ idx ≤ 0x135F) && sub == 0x0D

/-- Step 10 of a copied entry, the token of a change of COMMISSION last (R155, R170, R534). -/
def copiedState (a : Asker) (idx sub : Nat) (s : State) : State × Nat :=
  if isResume idx sub then
    if s.pair.role ≠ .active then (s, 0x2203) else if !faultedTask s (taskIdx idx) then (s, 0x0609) else (s, 0)
  else if idx = 0x1751 then
    let h : Holder := { code := 8, slot := a.slot, arg := 0, session := a.session }
    if tokenFree s h then (s, 0) else (tokenBusy h s, 0x2901)
  else (s, 0)

/-- The write is accepted: stored, given its apply boundary, sent; its client is answered at B. -/
def copiedAccept (a : Asker) (idx sub : Nat) (v : List Byte) (s : State) : State :=
  let e := entryE idx sub v
  let n := s.od.txnNo + 1
  let b := applyBeat s
  let s := if isResume idx sub then s else storeVal idx sub v s
  let s := if idx = 0x1751 then takeToken { code := 8, slot := a.slot, arg := 0, session := a.session } s else s
  let s := { s with od := { s.od with
      txnNo := n
      txns := s.od.txns ++ [{ no := n, beat := b, entries := [e], client := a.client, forward := a.forward, acked := false, cfgId := configId s }] } }
  match applyTo s with
  | some x => sendEntries x 1 n (BitVec.ofNat 64 b) [e] s
  | none => s

/-- Steps 9 to 11 of a copied write. -/
def copiedWrite (a : Asker) (idx sub : Nat) (m : Meta) (v : List Byte) (s : State) : State :=
  match checkHalt idx sub m v s with
  | (s, 0) => (match copiedState a idx sub s with
    | (s, 0) =>
      if isResume idx sub then copiedAccept a idx sub v s
      else (match areaWrite s with
        | (s, 0) => copiedAccept a idx sub v s
        | r => tellR a r)
    | r => tellR a r)
  | r => tellR a r

/-- A copied entry takes effect at its boundary. -/
def applyEntry (s : State) (e : ObjE) : State :=
  if isResume e.index.toNat e.sub.toNat then resumeTask (taskIdx e.index.toNat) s
  else applyVal e.index.toNat e.sub.toNat e.value s

-- program-visible writes (R331, R190, R460) ----------------------------------------------------------------------------------------------------------------

def visible (idx sub : Nat) : Bool :=
  decide (0x6000 ≤ idx ∧ idx < 0x6FFF) || (idx == 0x1361 && decide (1 ≤ sub ∧ sub ≤ 3)) || (idx == 0x1600 && sub == 5)

/-- A group that the write names is not READY. -/
def rearmBad (n : Nat) (s : State) : Bool :=
  (n.testBit 0 && s.lio.g0.st != .ready) || (n.testBit 1 && s.lio.g1.st != .ready)

/-- Steps 10 and 11: force writes draw on the configuration area's bucket (R380). -/
def visibleState (idx sub : Nat) (v : List Byte) (s : State) : State × Nat :=
  if idx = 0x1600 then (s, if rearmBad (beNat v) s then 0x2A01 else 0)
  else if idx = 0x1361 then
    let c := if sub = 1 then forceCheck v s else if sub = 2 ∧ (symOf s (BitVec.ofNat 32 (beNat v))).isNone then 0x230E else 0
    if c ≠ 0 then (s, c) else areaWrite s
  else (s, 0)

/-- A program-visible write on the active is queued for its instance, which answers its client. -/
def visibleWrite (a : Asker) (idx sub : Nat) (v : List Byte) (s : State) : State :=
  if s.pair.role ≠ .active then tellAsker a 0x2203 s
  else match visibleState idx sub v s with
    | (s, 0) =>
      let w : ProgW :=
        { sym := ((exportSym s idx).map (fun y => y.id)).getD 0, elem := sub - 1, value := v, entry := some (entryE idx sub v), client := a.client
          forward := a.forward, carried := false }
      { s with od := { s.od with progWs := s.od.progWs ++ [w] } }
    | r => tellR a r

-- commands (R85, R91, R164, R218, R335, R499, R509 to R512, R538) -----------------------------------------------------------------------------------------------

/-- The value restored by a scope (R335). -/
def inScope (v : Nat) (x : CfgVal) : Bool :=
  let svc := x.index == 0x1710 || x.index == 0x1711
  let app := copiedEntry x.index x.sub
  let more := (x.index == 0x1000 && x.sub == 0x0E) || x.index == 0x1400 || x.index == 0x1500 || x.index == 0x1600 || x.index == 0x1800
  match v with
  | 1 => svc
  | 2 => app
  | _ => svc || app || more

/-- RESTORE is performed: the defaults stand in both copies, the restart begins 100 ms after the answer. -/
def doRestore (v : Nat) (s : State) : State × Nat :=
  match areaWrite s with
  | (s, 0) => (post 0x0604 0x06 [] { s with od := { s.od with
      vals := s.od.vals.filter (fun x => !inScope v x), savedAt := s.tim.time, storeOk := true, restartAt := some (s.now + 100000000) } }, 0)
  | r => r

/-- The activity that a command entry starts (R528), where a request for it on a module that is not ACTIVE is decided by the active (R531). -/
def activityOf (idx sub : Nat) (v : List Byte) : Option Nat :=
  let n := beNat v
  if idx = 0x1100 ∧ sub = 9 then some 1
  else if idx = 0x1720 ∧ sub = 2 ∧ n = 2 then some 5
  else if idx = 0x1781 ∧ sub = 2 then some 6
  else if idx = 0x1712 ∧ sub = 1 then some 7
  else if idx = 0x1753 ∧ sub = 1 ∧ n = 1 then some 9
  else if 0x2000 ≤ idx ∧ idx ≤ 0x5FFF ∧ idx % 8 = 5 ∧ sub = 2 then some 10
  else none

def stationOfIdx (idx : Nat) : Nat := (idx - 0x2000) / 8

/-- The activity's own chapter's checks (R529): 0, or the refusal. PROOF is tried on a state that is then left. -/
def activityCheck (k idx : Nat) (v : List Byte) (s : State) : Nat :=
  match k with
  | 1 => if s.pair.role = .active then switchCheck s else if s.pair.role = .standby then 0 else 0x2203
  | 5 => updateRefused s
  | 6 => (viaMbx 0x0021 opProve (mbxOf s 0 0 v) s).2.1
  | 7 => if s.pair.role = .offline then 0 else 0x2203
  | 9 => fijRefused s
  | _ => if !s.mnt.comm then 0x2401 else if ((stationOf s (stationOfIdx idx)).map (fun x => x.st != .absent)).getD false then 0 else 0x2402

/-- GATE_RESET on the active (R220): the write goes to the station; its answer answers the client. -/
def gateResetGo (a : Asker) (idx : Nat) (s : State) : State :=
  match stationOf s (stationOfIdx idx) with
  | none => tellAsker a 0x2402 s
  | some y => match endFor s y with
    | none => tellAsker a 0x2402 s
    | some e =>
      let g : GateRst := { station := y.no, tid := s.fol.tid, client := a.client, forward := a.forward }
      svcToStation y.cfg.seg e y.no 2 idx 2 (u8 1) { s with fol := { s.fol with gateRsts := s.fol.gateRsts ++ [g] } }

/-- PROOF (R249): Cord opens the session, which this dictionary session then holds. -/
def doProof (session : Nat) (v : List Byte) (s : State) : State × Nat :=
  let (s, c, r) := viaMbx 0x0021 opProve (mbxOf s 0 0 v) s
  (if c = 0 then modSession session (fun x => { x with cord := some (BitVec.ofNat 32 r.res0) }) s else s, c)

/-- The activity starts on this module, which holds its token. -/
def activityStart (k : Nat) (a : Asker) (idx : Nat) (v : List Byte) (s : State) : State :=
  match k with
  | 5 => tellAsker a 0 (enterUpdate s)
  | 6 => tellR a (doProof a.session v s)
  | 7 => tellR a (doRestore (beNat v) s)
  | 9 => tellAsker a 0 (fijRun s)
  | _ => gateResetGo a idx s

/-- ARG of an activity's holder (R540). -/
def activityArg (k idx : Nat) : Nat := if k = 10 then stationOfIdx idx else 0

/-- A request to start an activity (R529, R531). -/
def activity (k : Nat) (a : Asker) (idx sub : Nat) (v : List Byte) (s : State) : State :=
  let c := activityCheck k idx v s
  let h : Holder := { code := k, slot := a.slot, arg := activityArg k idx, session := a.session }
  if c ≠ 0 then
    let s := if k = 6 then (viaMbx 0x0021 opProve (mbxOf s 0 0 v) s).1 else s
    if k = 1 then tellR a (cmdStatus 1 (s, c)) else tellAsker a c s
  else if s.pair.role ≠ .active ∧ (s.pair.role = .standby ∨ (reachActive s).isSome) then
    let s := if k = 1 then { s with pair := { s.pair with cmdLast := 1, cmdState := 1, cmdAbort := 0 } } else s
    forwardWrite a.client idx sub v s
  else if k = 1 then tellR a (cmdStatus 1 (requestSwitch a.session false s))
  else if !tokenFree s h then tellAsker a 0x2901 (tokenBusy h s)
  else activityStart k a idx v (takeToken h s)

/-- 0x1781.03 to .05 (R250, R253): through Cord with the session's handle. -/
def verifierCmd (sub n session : Nat) (s : State) : State × Nat :=
  let h : Word := ((s.od.sessions.find? (fun x => x.handle == session)).bind (fun x => x.cord)).getD 0
  let m : MbxRq := { session := h, arg0 := BitVec.ofNat 64 n, arg1 := 0, data := [] }
  match sub with
  | 3 =>
    let (s, c, _) := viaMbx 0x0022 opClose { m with arg0 := 0 } s
    (if c = 0 then modSession session (fun x => { x with cord := none }) s else s, c)
  | 4 => let (s, c, _) := viaMbx 0x0023 opChannelTest m s; (s, c)
  | _ => let (s, c, _) := viaMbx 0x0024 opChannelService m s; (s, c)

/-- Update and keys (R499, R509 to R512, R516). -/
def secCmd (idx sub : Nat) (v : List Byte) (s : State) : State × Nat :=
  let n := beNat v
  match idx, sub with
  | 0x1720, 0x01 => updateData v s
  | 0x1720, 0x02 => if n = 1 then updateCheck s else updateDiscard s
  | 0x1720, 0x07 => svnCommit n s
  | 0x1730, 0x02 => credEnrol v s
  | 0x1730, 0x03 => credRevoke n s
  | 0x1730, 0x05 => progEnrol v s
  | 0x1730, 0x06 => progRevoke n s
  | 0x1730, 0x07 => keyLoad v s
  | 0x1730, 0x0A => zeroiseObj s
  | 0x1730, 0x0B => verEnrol v s
  | 0x1730, 0x0C => verRevoke n s
  | _, _ => debugUnlock v s

/-- A command entry that is no activity of R531, its outcome at once. -/
def plainCmd (session idx sub : Nat) (v : List Byte) (s : State) : State × Nat :=
  let n := beNat v
  match idx, sub with
  | 0x1100, 0x0A => cmdStatus 2 (makeOffline s)
  | 0x1100, 0x0B => cmdStatus 3 (promoteReserve s)
  | 0x1300, _ => programCommand n session s
  | 0x1360, 0x02 => kindleData v s
  | 0x1360, _ => if n = 1 then changeStart session s else changeAbandon s
  | 0x1502, _ => (bucketObj v s, 0)
  | 0x1753, _ => (fijStopRun 1 s, 0)
  | 0x1781, _ => verifierCmd sub n session s
  | 0x1720, _ => secCmd idx sub v s
  | 0x1730, _ => secCmd idx sub v s
  | 0x1740, _ => secCmd idx sub v s
  | _, _ => segCommand (idx - 0x1201) n session s

/-- The apply boundary of the last accepted Halt write that a starting command waits behind (R326): the segment's and its stations' entries for
START; task and local I/O entries for a restart. -/
def waitsFor (idx sub : Nat) (v : List Byte) (s : State) : Option Nat :=
  let n := beNat v
  let seg (e : ObjE) : Bool :=
    e.index.toNat == idx || (decide (0x2000 ≤ e.index.toNat ∧ e.index.toNat ≤ 0x5FFF) && segOfStation s (stationOfIdx e.index.toNat) == idx - 0x1201)
  let prog (e : ObjE) : Bool := decide (0x1310 ≤ e.index.toNat ∧ e.index.toNat ≤ 0x1377) || e.index.toNat == 0x1600
  let halt (e : ObjE) : Bool := ((metaOf e.index.toNat e.sub.toNat).map (fun m => m.chg == .halt)).getD false
  let last (p : ObjE → Bool) : Option Nat :=
    ((s.od.txns.filter (fun t => t.entries.any (fun e => p e && halt e))).map (fun t => t.beat)).getLast?
  if 0x1201 ≤ idx ∧ idx ≤ 0x1204 ∧ sub = 2 ∧ n = 1 then last seg
  else if idx = 0x1300 ∧ sub = 3 ∧ n ≤ 2 then last prog
  else none

/-- A command entry (write-only) from step 9 on. -/
def command (a : Asker) (idx sub : Nat) (v : List Byte) (s : State) : State :=
  match activityOf idx sub v with
  | some k => activity k a idx sub v s
  | none => match waitsFor idx sub v s, a.client with
    | some b, some c => { s with od := { s.od with waits := s.od.waits ++ [{ beat := b, index := idx, sub := sub, value := v, client := c }] } }
    | _, _ => tellR a (plainCmd a.session idx sub v s)

-- local writes (R327, R337, R338) ---------------------------------------------------------------------------------------------------------------------------------

/-- What follows the answer (R338). -/
def afterLocal (idx sub n : Nat) (s : State) : State :=
  if idx = 0x1711 then
    let s := closeWhere (fun x => !isFol x.path) 1 s
    let cs := s.od.conns
    cs.foldl (fun s c => send (.closed c) s) { s with od := { s.od with conns := [] } }
  else if idx = 0x1710 ∧ sub = 5 ∧ n = 0 then closeWhere (fun x => isFol x.path) 0 s
  else s

/-- A local entry: stored and in effect at once; RTC_TIME is no stored value (R363). -/
def localWrite (a : Asker) (idx sub : Nat) (m : Meta) (v : List Byte) (s : State) : State :=
  let n := beNat v
  match checkHalt idx sub m v s with
  | (s, 0) =>
    if idx = 0x1400 ∧ sub = 7 then
      let s := rtcSet (BitVec.ofNat 64 n) s
      tellAsker a 0 (if s.pair.role = .offline then timSet .m (BitVec.ofNat 64 n) s else s)
    else if idx = 0x1500 ∧ sub = 8 ∧ n ≠ 0 ∧ freeSegs s.jrn < 8 then tellAsker a 0x2702 s
    else (match areaWrite s with
      | (s, 0) => afterLocal idx sub n (tellAsker a 0 (applyVal idx sub v (storeVal idx sub v s)))
      | r => tellR a r)
  | r => tellR a r

/-- A legal object is written by Cord (R252, R254): 8 little-endian bytes. -/
def legalWrite (a : Asker) (idx sub : Nat) (v : List Byte) (s : State) : State :=
  let h : Word := ((s.od.sessions.find? (fun x => x.handle == a.session)).bind (fun x => x.cord)).getD 0
  let m : MbxRq := { session := h, arg0 := BitVec.ofNat 64 (idx * 256 + sub), arg1 := 0, data := fit 8 v.reverse }
  let (s, c, _) := viaMbx 0x0012 opObjWrite m s
  tellAsker a c (postIf (c == 0x2107) 0x0603 0x06 (le2 idx ++ u8 sub ++ [0x81]) s)

-- a write from step 9 on ----------------------------------------------------------------------------------------------------------------------------------------------

/-- A write that has passed steps 1 to 8, on the unit that decides it. -/
def decided (a : Asker) (idx sub : Nat) (m : Meta) (v : List Byte) (s : State) : State :=
  if 0x7000 ≤ idx ∧ idx ≤ 0x7FFF then legalWrite a idx sub v s
  else if visible idx sub then visibleWrite a idx sub v s
  else if m.copied ∨ isResume idx sub then copiedWrite a idx sub m v s
  else if m.rd.isNone then command a idx sub v s
  else localWrite a idx sub m v s

/-- A write that has passed steps 1 to 8 here: a standby forwards what is copied or program-visible (R329), but not REARM (R460). -/
def routed (c : Client) (m : Meta) (v : List Byte) (s : State) : State :=
  let up := m.copied || isResume c.index c.sub || (visible c.index c.sub && c.index != 0x1600)
  if s.pair.role = .standby ∧ up then forwardWrite (some c) c.index c.sub v s
  else decided (askOf s c) c.index c.sub m v s

/-- A complete value (steps 7 and 8, then the rest). -/
def wholeWrite (c : Client) (v : List Byte) (s : State) : State :=
  match entryOf c.index c.sub s with
  | none => abort c 0x0602 s
  | some m =>
    let r := checkValue c.index c.sub m v s
    if r ≠ 0 then abort c r s else routed c m v s

-- segmented transfers (R323, R324) ---------------------------------------------------------------------------------------------------------------------------------------

def dropXfer (h : Nat) (s : State) : State := modSession h (fun x => { x with xfer := none }) s
def putXfer (h : Nat) (t : Xfer) (s : State) : State := modSession h (fun x => { x with xfer := some t }) s

/-- The most bytes that an entry takes. -/
def entryMax (m : Meta) : Nat :=
  match m.ty with
  | .str n => n
  | .oct n => n
  | t => (t.size).getD 0

/-- The transfer of the session that this segment continues. -/
def xferOf (c : Client) (write : Bool) (s : State) : Option Xfer :=
  (sessionOn s c.session c.path).bind (fun x => x.xfer.bind (fun t =>
    if t.index = c.index ∧ t.sub = c.sub ∧ t.write = write then some t else none))

/-- A further segment of a write, or the first with MORE. -/
def writeSeg (c : Client) (m : SvcMsg) (limit : Nat) (s : State) : State :=
  let more := bit m.sflags 0
  let t0 : Option Xfer := if m.arg = 0 then some { index := c.index, sub := c.sub, write := true, data := [], at_ := s.now } else xferOf c true s
  let s := dropXfer c.session s
  match t0 with
  | none => abort c 0x0606 s
  | some t =>
    if t.late then abort c 0x0607 s
    else if m.arg.toNat ≠ t.data.length ∨ limit < t.data.length + m.data.length then abort c 0x0606 s
    else
      let d := t.data ++ m.data
      if more then respond c 4 m.arg.toNat [] (putXfer c.session { t with data := d, at_ := s.now } s) else wholeWrite c d s

/-- WRITE (R323, R325). -/
def svcWrite (p : Path) (m : SvcMsg) (s : State) : State :=
  let c := clientOf p m
  let r := checkAccess c true m.data s
  if r ≠ 0 then abort c r (dropXfer c.session s)
  else match entryOf c.index c.sub s with
    | none => abort c 0x0602 s
    | some e => writeSeg c m (if bit m.sflags 0 ∨ m.arg ≠ 0 then entryMax e else m.data.length) s

/-- A further segment of a read, from its snapshot. -/
def readSeg (c : Client) (m : SvcMsg) (s : State) : State :=
  let t0 := xferOf c false s
  let s := dropXfer c.session s
  match t0 with
  | none => abort c 0x0606 s
  | some t =>
    if t.late then abort c 0x0607 s
    else if m.arg.toNat ≠ t.off then abort c 0x0606 s
    else
      let n := segSize c.path
      let more := decide (t.off + n < t.data.length)
      let s := if more then putXfer c.session { t with off := t.off + n, at_ := s.now } s else s
      respondSeg c t.off more (slice t.data t.off n) s

/-- READ (R323, R325). -/
def svcRead (p : Path) (m : SvcMsg) (s : State) : State :=
  let c := clientOf p m
  let r := checkAccess c false [] s
  if r ≠ 0 then abort c r (dropXfer c.session s)
  else if m.arg ≠ 0 then readSeg c m s
  else
    let (s, code, v) := readObj c.index c.sub (dropXfer c.session s)
    if code ≠ 0 then abort c code s
    else
      let n := segSize p
      let more := decide (n < v.length)
      let s := if more then putXfer c.session { index := c.index, sub := c.sub, write := false, data := v, at_ := s.now, off := n } s else s
      respondSeg c 0 more (v.take n) s

-- HOSTWRITE (R322) -------------------------------------------------------------------------------------------------------------------------------------------------------------

/-- Refusal of one entry: unknown, not a host variable or read-only, its length. -/
def hostRefused (s : State) (e : HostE) : Nat :=
  match symOf s e.symid with
  | none => 0x230E
  | some y =>
    if !Config.hostVariable (progId s) y.id.toNat ∨ bit y.flags 3 ∨ Config.exportWrite (progId s) y.id.toNat % 6 = 5 then 0x0604
    else if e.value.length ≠ symLen y then 0x0605
    else if 8186 < e.value.length ∨ !inRange { ty := tyOfCode y.typ, lo := -(2 ^ 63) } e.value then 0x0609 else 0

def hostWrite (p : Path) (tid : Byte) (session : Nat) (es : List HostE) (s : State) : State :=
  let c : Client := { path := p, session := session, tid := tid, index := 0, sub := 0 }
  let say (code : Nat) (s : State) : State := respond c 0x21 code [] s
  match sessionOn s session p with
  | none => say 0x0608 s
  | some x =>
    let s := dropXfer session s
    if isFol p then say 0x060A s
    else if !x.proven ∨ x.level < 1 then say 0x0603 s
    else if s.pair.role ≠ .active then say 0x2203 s
    else match (es.map (hostRefused s)).find? (fun r => r != 0) with
      | some r => say r s
      | none =>
        if es.isEmpty then say 0 s
        else { s with od := { s.od with
            progWs := s.od.progWs ++ es.map (fun e => { sym := e.symid, elem := 0, value := e.value, entry := none, client := some c, carried := false }) } }

-- a request by its operation (R202, R315, R322) ---------------------------------------------------------------------------------------------------------------------------------

/-- Entries of HOSTWRITE's data. -/
def hostEntriesOf (d : List Byte) : List HostE := hostEntries d.length d

/-- A request that has reached the unit that answers it. -/
def svcBody (p : Path) (m : SvcMsg) (s : State) : State :=
  let h := m.session.toNat
  match m.op.toNat with
  | 0x01 => svcRead p m s
  | 0x02 => svcWrite p m s
  | 0x10 => sessionOpen p m.tid (leAt m.data 0 1) s
  | 0x11 => sessionProve p m.tid h (leAt m.data 0 1) (slice m.data 4 64) s
  | 0x12 => sessionClose p m.tid h s
  | 0x13 => sessionKeep p m.tid h s
  | 0x20 => hostWrite p m.tid h (hostEntriesOf m.data) s
  | _ => s

/-- A station's request that the active has: its path names the end at which it arrived. -/
def folRequest (seg end_ : Nat) (f : FolFrame) (m : SvcMsg) (s : State) : State :=
  let p : Path := .folmonet seg f.hdr.station end_
  if !runtimeLive s ∨ s.pair.role ≠ .active then s
  else if 1024 < m.data.length then abort (clientOf p m) 0x0606 s
  else closeRevoked (svcBody p m s)

/-- Requests that a reorder rule had held. -/
def serveRequests (s : State) : State :=
  s.fol.requests.foldl
    (fun s r => match r.2.body with
      | .service m => folRequest r.1 ((myEnd s).getD 0) r.2 m s
      | _ => s)
    { s with fol := { s.fol with requests := [] } }

/-- A write of an object entry, as a SERVICE message with its whole value. -/
def objMsg (idx sub : Nat) (rq : Rq) : SvcMsg :=
  { op := 2, tid := rq.tid, index := BitVec.ofNat 16 idx, sub := BitVec.ofNat 8 sub, sflags := 0, session := BitVec.ofNat 16 rq.session, arg := 0, data := rq.value }

def objCmd (idx sub : Nat) (rq : Rq) (s : State) : State :=
  let m := objMsg idx sub rq
  enter rq.path m (svcWrite rq.path m) s

end Sys2Proof.Machine
end

