-- ==== Sys2Proof/Machine/DictCmd.lean ====
section
/-!
DEFINITION. OBJWRITE frames (09 R327 to R332), writes at their apply boundary, forwarded requests and activities (17 R531), and the commands
that reach the module as requests of the object dictionary or as writes of the command registers behind them.
-/

namespace Sys2Proof.Machine

-- the apply boundary (R327, R328) ----------------------------------------------------------------------------------------------------

/-- RESULT to the standby under its forward number. -/
def sendResult (n : Word) (code : Nat) (s : State) : State :=
  sendTwin (.objWrite { op := 5, txn := n, beat := 0, arg := BitVec.ofNat 32 code, entries := [] }) s

/-- One accepted write is applied and its client answered; a change of COMMISSION gives the token back. -/
def applyTxn (s : State) (t : Txn) : State :=
  let s := t.entries.foldl applyEntry s
  let s := if t.entries.any (fun e => e.index == 0x1751) then releaseToken (fun h => h.code == 8) s else s
  let s := match t.client with
    | some c => respond c 4 0 [] s
    | none => s
  match t.forward with
  | some n => sendResult n 0 s
  | none => s

/-- A command that has waited runs (R326). -/
def runWait (s : State) (w : Wait) : State := tellR (askOf s w.client) (plainCmd w.client.session w.index w.sub w.value s)

/-- The writes whose boundary is `b` or earlier, in the order accepted; then the commands that waited behind them. -/
def applyTxns (b : Nat) (s : State) : State :=
  let due := s.od.txns.filter (fun t => decide (t.beat ≤ b))
  let taken := s.od.taken.filter (fun t => decide (t.beat ≤ b))
  let waits := s.od.waits.filter (fun w => decide (w.beat ≤ b))
  let s := { s with od := { s.od with
      txns := s.od.txns.filter (fun t => decide (b < t.beat)), taken := s.od.taken.filter (fun t => decide (b < t.beat))
      waits := s.od.waits.filter (fun w => decide (b < w.beat)) } }
  let s := taken.foldl (fun s t => t.entries.foldl applyEntry s) s
  waits.foldl runWait (due.foldl applyTxn s)

-- APPLY on the standby (R328, R330) --------------------------------------------------------------------------------------------------------

/-- The standby's own checks of one entry. -/
def entryCheck (s : State) (e : ObjE) : Nat :=
  let i := e.index.toNat
  let k := e.sub.toNat
  if isResume i k then 0
  else match metaOf i k with
    | none => 0x0602
    | some m => if !m.copied then 0x0604 else checkValue i k m e.value s

/-- Entries stored. -/
def storeEntries (es : List ObjE) (s : State) : State :=
  es.foldl (fun s e => if isResume e.index.toNat e.sub.toNat then s else storeVal e.index.toNat e.sub.toNat e.value s) s

/-- The whole set replaces the standby's copied entries: those that it does not name return to their defaults. -/
def wholeSet (es : List ObjE) (s : State) : State × List ObjE :=
  let named (x : CfgVal) : Bool := es.any (fun e => e.index.toNat == x.index && e.sub.toNat == x.sub)
  let gone := s.od.vals.filter (fun x => copiedEntry x.index x.sub && !named x)
  let dfl := gone.map (fun x => entryE x.index x.sub (copiedVal [] (x.index, x.sub)).val)
  ({ s with od := { s.od with vals := s.od.vals.filter (fun x => !copiedEntry x.index x.sub || named x) } }, dfl ++ es)

/-- A copied write that this standby does not take: NACK, event 0x0605, RESYNC. -/
def nackApply (p : ObjWriteP) (code : Nat) (s : State) : State :=
  let s := sendTwin (.objWrite { op := 3, txn := p.txn, beat := p.beat, arg := BitVec.ofNat 32 code, entries := [] }) s
  post 0x0605 0x06 [] (enterResync false s)

/-- A complete APPLY. The first one of a RESYNC is the whole set (R330). One whose boundary has passed is stored and leads to RESYNC. -/
def takeApply (p : ObjWriteP) (es : List ObjE) (s : State) : State :=
  let whole := s.pair.sub == .resync && !s.flu.resync.whole && decide (s.flu.resync.phase ≤ 2)
  let c := ((es.map (entryCheck s)).find? (fun r => r != 0)).getD 0
  if c ≠ 0 then nackApply p c s
  else match areaWrite s with
    | (s, 0) =>
      let (s, all) := if whole then wholeSet es s else (s, es)
      let s := storeEntries es s
      let id := configId s
      let s := { s with
        od := { s.od with taken := s.od.taken ++ [{ no := p.txn, beat := p.beat.toNat, entries := all }], peerCfgId := id, agree := 1 }
        flu := { s.flu with resync := { s.flu.resync with whole := s.flu.resync.whole || whole } } }
      let s := sendTwin (.objWrite { op := 2, txn := p.txn, beat := p.beat, arg := id, entries := [] }) s
      if p.beat.toNat ≤ s.cyc.beat.toNat ∧ !whole then post 0x0605 0x06 [] (enterResync false s) else s
    | (s, code) => nackApply p code s

/-- What the partner tells of itself under transaction 0 (R254, R503; log 43). -/
def takePeerId (src : Slot) (es : List ObjE) (s : State) : State :=
  let v (i k : Nat) : List Byte := ((es.find? (fun e => e.index.toNat == i && e.sub.toNat == k)).map (fun e => e.value)).getD []
  notePeerId src (BitVec.ofNat 16 (beNat (v 0x1721 0x0A))) (v 0x1780 0x0B) (v 0x1780 0x0C) s

-- the active's side ------------------------------------------------------------------------------------------------------------------------------

/-- ACK (R328, R334): the standby's CONFIG_ID against that of the write; a difference sends it into RESYNC. -/
def onAck (p : ObjWriteP) (s : State) : State :=
  if s.pair.role ≠ .active then s
  else
    let want := ((s.od.txns.find? (fun t => t.no == p.txn)).map (fun t => t.cfgId)).getD (configId s)
    let s := { s with od := { s.od with
        txns := s.od.txns.map (fun t => if t.no = p.txn then { t with acked := true } else t), peerCfgId := p.arg, agree := b2n (want == p.arg) } }
    if want = p.arg then s else post 0x0605 0x06 [] (sendCtrl 1 0xFF 0 s)

/-- NACK (R328): the write is applied at B all the same. -/
def onNack (p : ObjWriteP) (s : State) : State :=
  if s.pair.role ≠ .active then s
  else { s with od := { s.od with txns := s.od.txns.map (fun t => if t.no = p.txn then { t with acked := true } else t), agree := 0 } }

/-- The token for an activity that another module has asked for (R529, R531): an earlier hold of that module for the same activity has ended
there. -/
def grantToken (k : Nat) (a : Asker) (idx : Nat) (s : State) : State :=
  let h : Holder := { code := k, slot := a.slot, arg := activityArg k idx, session := 0 }
  let s := releaseToken (fun x => x.code == k && x.slot == a.slot) s
  if tokenFree s h then tellAsker a 0 (takeToken h s) else tellAsker a 0x2901 (tokenBusy h s)

/-- FORWARD (R329, R531): the active treats the write as its own from step 9 on; an activity of the other module is granted or refused. -/
def onForward (src : Slot) (p : ObjWriteP) (es : List ObjE) (s : State) : State :=
  match es with
  | [e] =>
    let i := e.index.toNat
    let k := e.sub.toNat
    let a : Asker := { client := none, forward := some p.txn, slot := src, session := 0 }
    (match activityOf i k e.value with
    | some 1 => tellR a (cmdStatus 1 (requestSwitch 0 false s))
    | some 10 => activity 10 a i k e.value s
    | some c => grantToken c a i s
    | none => (match entryOf i k s with
      | some m => decided a i k m e.value s
      | none => tellAsker a 0x0602 s))
  | _ => s

-- RESULT (R329, R531) -----------------------------------------------------------------------------------------------------------------------------

/-- The active has granted the activity: this module starts it and holds it in its own table for a takeover (R532). -/
def granted (c : Client) (k : Nat) (v : List Byte) (s : State) : State :=
  let a := askOf s c
  if k = 1 ∨ k = 10 then tellAsker a 0 (if k = 1 then { s with pair := { s.pair with cmdState := 2 } } else s)
  else
    let h : Holder := { code := k, slot := mySlot s, arg := 0, session := c.session }
    activityStart k a c.index v { s with mnt := { s.mnt with holders := s.mnt.holders ++ [h] } }

/-- RESULT at the module that forwarded. -/
def onResult (p : ObjWriteP) (s : State) : State :=
  match s.od.forwards.find? (fun f => f.no == p.txn) with
  | none => s
  | some f =>
    let code := p.arg.toNat
    let s := { s with od := { s.od with forwards := s.od.forwards.erase f } }
    match f.client with
    | none => { s with pair := { s.pair with cmdState := if code = 0 then 2 else 3, cmdAbort := BitVec.ofNat 16 code } }
    | some c =>
      let k := activityOf c.index c.sub f.value
      if code ≠ 0 then
        abort c code (if k = some 1 then { s with pair := { s.pair with cmdState := 3, cmdAbort := BitVec.ofNat 16 code } } else s)
      else match k with
        | some k => granted c k f.value s
        | none => respond c 4 0 [] s

/-- 600 ms without RESULT while still not the active (R329). -/
def forwardTimeout (n : Word) (s : State) : State :=
  match s.od.forwards.find? (fun f => f.no == n) with
  | none => s
  | some f =>
    let s := { s with od := { s.od with forwards := s.od.forwards.erase f } }
    if s.pair.role = .active then s
    else match f.client with
      | some c => abort c 0x060E s
      | none => { s with pair := { s.pair with cmdState := 3, cmdAbort := 0x060E } }

-- frames ------------------------------------------------------------------------------------------------------------------------------------------------

/-- The entries of a transaction so far, its last frame or not (R332). -/
def gather (p : ObjWriteP) (more : Bool) (s : State) : State × Option (List ObjE) :=
  let ap := p.op == 1
  let old := ((s.od.rxParts.find? (fun x => x.1 == p.txn && x.2.1 == ap)).map (fun x => x.2.2)).getD []
  let rest := s.od.rxParts.filter (fun x => !(x.1 == p.txn && x.2.1 == ap))
  let es := old ++ p.entries
  if more then ({ s with od := { s.od with rxParts := (p.txn, ap, es) :: rest } }, none)
  else ({ s with od := { s.od with rxParts := rest } }, some (joinEntries es))

/-- An OBJWRITE frame, by its OP. -/
def onObjWrite (src : Slot) (more : Bool) (p : ObjWriteP) (s : State) : State :=
  if !runtimeLive s then s
  else match p.op with
  | 1 =>
    if p.txn = 0 then takePeerId src p.entries s
    else if s.pair.role ≠ .standby then s
    else (match gather p more s with
      | (s, some es) => takeApply p es s
      | (s, none) => s)
  | 2 => onAck p s
  | 3 => onNack p s
  | 4 =>
    if s.pair.role ≠ .active then s
    else (match gather p more s with
      | (s, some es) => onForward src p es s
      | (s, none) => s)
  | 5 => onResult p s
  | _ => s

/-- The whole set of copied entries leaves as one transaction at the start of phase 2 (R330): the stored ones, the others stand at their defaults. -/
def sendWholeSet (s : State) : State :=
  if s.pair.role ≠ .active ∨ s.flu.resync.phase ≠ 2 ∨ s.flu.resync.whole then s
  else match standbySlot s with
    | none => s
    | some x =>
      let es := (s.od.vals.filter (fun v => copiedEntry v.index v.sub)).map (fun v => entryE v.index v.sub v.val)
      let n := s.od.txnNo + 1
      let s := setResync (fun r => { r with whole := true }) { s with od := { s.od with txnNo := n } }
      sendEntries x 1 n (BitVec.ofNat 64 (applyBeat s)) es s

-- command registers (R95, R164, R218, R543) ---------------------------------------------------------------------------------------------------------------

/-- PAIR_CMD. -/
def pairCmd (level : Level) (word : Word) (s : State) : State :=
  if level ≠ .m ∨ fld word 16 16 ≠ 0xC1A1 ∨ !runtimeLive s ∨ !rickLive s then s
  else match fld word 0 8 with
    | 1 =>
      if s.pair.role = .standby then
        forwardWrite none 0x1100 9 (u8 1) { s with pair := { s.pair with cmdLast := 1, cmdState := 1, cmdAbort := 0 } }
      else (cmdStatus 1 (if s.pair.role = .active then requestSwitch 0 false s else (s, 0x2203))).1
    | 2 => (cmdStatus 2 (makeOffline s)).1
    | 3 => (cmdStatus 3 (promoteReserve s)).1
    | _ => s

/-- CYC_CMD. -/
def cycCmd (level : Level) (word : Word) (s : State) : State :=
  let c := fld word 0 8
  if level ≠ .m ∨ fld word 16 16 ≠ 0xC7C1 ∨ !runtimeLive s ∨ !rickFull s ∨ c = 0 ∨ 3 < c then s
  else (programCommand c 0 s).1

/-- FPT_CMD of port `n`. -/
def fptCmd (n : Nat) (level : Level) (word : Word) (s : State) : State :=
  let c := fld word 0 8
  if level ≠ .m ∨ fld word 16 16 ≠ 0xF057 ∨ !rickFull s ∨ isolated s (fptBlock n) ∨ c = 0 ∨ 3 < c then s
  else (segCommand n c 0 s).1

-- commands: requests -----------------------------------------------------------------------------------------------------------------------------------------

def execServiceRead (m : SvcMsg) (path : Path) (s : State) : Host.Outcome State Fault Refusal := finish (enter path m (svcRead path m) s)
def execServiceWrite (m : SvcMsg) (path : Path) (s : State) : Host.Outcome State Fault Refusal := finish (enter path m (svcWrite path m) s)

/-- HOSTWRITE (R322), with its frame's data. -/
def execHostwrite (tid : Byte) (path : Path) (session : Nat) (entries : List HostE) (s : State) : Host.Outcome State Fault Refusal :=
  let data := entries.flatMap (fun e => be4 e.symid.toNat ++ be2 e.value.length ++ e.value)
  finish (enter path (sesMsg 0x20 tid session data) (hostWrite path tid session entries) s)

def execForwardTimeout (number : Word) (s : State) : Host.Outcome State Fault Refusal := finish (if runtimeLive s then forwardTimeout number s else s)

/-- A segment of KINDLE_DATA and of UPDATE_DATA: the message, by the request's path and session. -/
def dataMsg (idx sub : Nat) (m : SvcMsg) (rq : Rq) : SvcMsg :=
  { m with op := 2, tid := rq.tid, session := BitVec.ofNat 16 rq.session, index := BitVec.ofNat 16 idx, sub := BitVec.ofNat 8 sub }
def dataCmd (idx sub : Nat) (m : SvcMsg) (rq : Rq) (s : State) : State :=
  let m := dataMsg idx sub m rq
  enter rq.path m (svcWrite rq.path m) s

-- commands: entries of the pair, the program, online change and forces ------------------------------------------------------------------------------------------

def viaPair (sub : Nat) (via : Via) (s : State) : State :=
  match via with
  | .reg _ level word => pairCmd level word s
  | .obj rq => objCmd 0x1100 sub rq s
def execSwitchover (via : Via) (s : State) : Host.Outcome State Fault Refusal := finish (viaPair 0x09 via s)
def execMakeOffline (via : Via) (s : State) : Host.Outcome State Fault Refusal := finish (viaPair 0x0A via s)
def execPromoteReserve (via : Via) (s : State) : Host.Outcome State Fault Refusal := finish (viaPair 0x0B via s)

def viaProgram (via : Via) (s : State) : State :=
  match via with
  | .reg _ level word => cycCmd level word s
  | .obj rq => objCmd 0x1300 0x03 rq s
def execWarmRestart (via : Via) (s : State) : Host.Outcome State Fault Refusal := finish (viaProgram via s)
def execColdRestart (via : Via) (s : State) : Host.Outcome State Fault Refusal := finish (viaProgram via s)
def execProgramStop (via : Via) (s : State) : Host.Outcome State Fault Refusal := finish (viaProgram via s)

def execResume (task : Nat) (rq : Rq) (s : State) : Host.Outcome State Fault Refusal := finish (objCmd (0x1310 + task) 0x0D rq s)
def execTaskEnable (task : Nat) (rq : Rq) (s : State) : Host.Outcome State Fault Refusal := finish (objCmd (0x1310 + task) 0x08 rq s)

def execKindleData (m : SvcMsg) (rq : Rq) (s : State) : Host.Outcome State Fault Refusal := finish (dataCmd 0x1360 0x02 m rq s)
def execChangeStart (rq : Rq) (s : State) : Host.Outcome State Fault Refusal := finish (objCmd 0x1360 0x03 rq s)
def execChangeAbandon (rq : Rq) (s : State) : Host.Outcome State Fault Refusal := finish (objCmd 0x1360 0x03 rq s)
def execForceSet (rq : Rq) (s : State) : Host.Outcome State Fault Refusal := finish (objCmd 0x1361 0x01 rq s)
def execForceClear (rq : Rq) (s : State) : Host.Outcome State Fault Refusal := finish (objCmd 0x1361 0x02 rq s)
def execForceClearAll (rq : Rq) (s : State) : Host.Outcome State Fault Refusal := finish (objCmd 0x1361 0x03 rq s)

-- commands: segments, stations, storage, local I/O -------------------------------------------------------------------------------------------------------------------

def viaSegment (seg : Nat) (via : Via) (s : State) : State :=
  match via with
  | .reg _ level word => fptCmd seg level word s
  | .obj rq => objCmd (0x1201 + seg) 0x02 rq s
def execSegmentStart (seg : Nat) (via : Via) (s : State) : Host.Outcome State Fault Refusal := finish (viaSegment seg via s)
def execSegmentStop (seg : Nat) (via : Via) (s : State) : Host.Outcome State Fault Refusal := finish (viaSegment seg via s)
def execSegmentReprobe (seg : Nat) (via : Via) (s : State) : Host.Outcome State Fault Refusal := finish (viaSegment seg via s)

def execGateReset (station : Nat) (rq : Rq) (s : State) : Host.Outcome State Fault Refusal := finish (objCmd (stationIdx station 5) 0x02 rq s)
def execSeasonPause (rq : Rq) (s : State) : Host.Outcome State Fault Refusal := finish (objCmd 0x1500 0x08 rq s)
def execBucketSet (rq : Rq) (s : State) : Host.Outcome State Fault Refusal := finish (objCmd 0x1502 0x01 rq s)
def execRearm (rq : Rq) (s : State) : Host.Outcome State Fault Refusal := finish (objCmd 0x1600 0x05 rq s)
def execRestore (rq : Rq) (s : State) : Host.Outcome State Fault Refusal := finish (objCmd 0x1712 0x01 rq s)

-- commands: update, keys, debug, maintenance -----------------------------------------------------------------------------------------------------------------------------

def execUpdateData (m : SvcMsg) (rq : Rq) (s : State) : Host.Outcome State Fault Refusal := finish (dataCmd 0x1720 0x01 m rq s)
def execUpdateCheck (rq : Rq) (s : State) : Host.Outcome State Fault Refusal := finish (objCmd 0x1720 0x02 rq s)
def execUpdateStart (rq : Rq) (s : State) : Host.Outcome State Fault Refusal := finish (objCmd 0x1720 0x02 rq s)
def execUpdateDiscard (rq : Rq) (s : State) : Host.Outcome State Fault Refusal := finish (objCmd 0x1720 0x02 rq s)
def execSvnCommit (rq : Rq) (s : State) : Host.Outcome State Fault Refusal := finish (objCmd 0x1720 0x07 rq s)
def execCredentialEnrol (rq : Rq) (s : State) : Host.Outcome State Fault Refusal := finish (objCmd 0x1730 0x02 rq s)
def execCredentialRevoke (rq : Rq) (s : State) : Host.Outcome State Fault Refusal := finish (objCmd 0x1730 0x03 rq s)
def execProgkeyEnrol (rq : Rq) (s : State) : Host.Outcome State Fault Refusal := finish (objCmd 0x1730 0x05 rq s)
def execProgkeyRevoke (rq : Rq) (s : State) : Host.Outcome State Fault Refusal := finish (objCmd 0x1730 0x06 rq s)
def execKeyLoad (rq : Rq) (s : State) : Host.Outcome State Fault Refusal := finish (objCmd 0x1730 0x07 rq s)
def execVerifierEnrol (rq : Rq) (s : State) : Host.Outcome State Fault Refusal := finish (objCmd 0x1730 0x0B rq s)
def execVerifierRevoke (rq : Rq) (s : State) : Host.Outcome State Fault Refusal := finish (objCmd 0x1730 0x0C rq s)

/-- ZEROISE: the object entry, or its mailbox operation 0x0049 (R511, R519). -/
def execZeroise (via : Via) (s : State) : Host.Outcome State Fault Refusal :=
  finish <|
  match via with
  | .reg _ _ _ => mbxExec 0x0049 (booted opZeroise) (mbxOf s 0 0 []) s
  | .obj rq => objCmd 0x1730 0x0A rq s

/-- DEBUG_CHALLENGE is read (R512). -/
def execDebugChallenge (rq : Rq) (s : State) : Host.Outcome State Fault Refusal :=
  let m : SvcMsg := { objMsg 0x1740 0x01 rq with op := 1, data := [] }
  finish (enter rq.path m (svcRead rq.path m) s)
def execDebugUnlock (rq : Rq) (s : State) : Host.Outcome State Fault Refusal := finish (objCmd 0x1740 0x02 rq s)

def execCommission (rq : Rq) (s : State) : Host.Outcome State Fault Refusal := finish (objCmd 0x1751 0x01 rq s)

def viaInjector (via : Via) (s : State) : State :=
  match via with
  | .reg _ level word => fijCmd level word s
  | .obj rq => objCmd 0x1753 0x01 rq s
def execFijStart (via : Via) (s : State) : Host.Outcome State Fault Refusal := finish (viaInjector via s)
def execFijStop (via : Via) (s : State) : Host.Outcome State Fault Refusal := finish (viaInjector via s)

end Sys2Proof.Machine
end

