-- ==== Sys2Proof/Machine/FlueRx.lean ====
section
/-!
DEFINITION. Frames that arrive on the Flue (03): lanes and the A–B path, sequences and NAKs, epochs heard, each type's effect on the module
(02, 03), relayed Folmonet frames, slot C's forwarding, and the end of a reorder rule's hold (17 R537).
-/

namespace Sys2Proof.Machine

-- lanes and the path (R116) ------------------------------------------------------------------------------------------------------------

/-- The lane hears: its block serves, it holds block lock, nothing gates the Flue. -/
def laneHears (s : State) (n : Nat) : Bool := rickLive s && decide (n < 2) && laneOpen s n && !s.sup.failSilent && !s.hw.powerDown

/-- PATHSEL of FLU_CFG: 3 acts as 0 (R135). -/
def pathSel (s : State) : Nat := if fld s.flu.cfg 2 2 = 3 then 0 else fld s.flu.cfg 2 2

/-- The path through slot C can be used: the reserve link is up, and slot C says that it forwards (R46, R116). -/
def viaC (s : State) : Bool := s.flu.lane1.up && heard s .c && bit (peerOf s.pair .c).flags 2

/-- The A–B path that R116 gives now. A unit on slot C's path leaves it for the pair link only when that path fails, or by the return after 1 s. -/
def pathNow (s : State) : Nat :=
  if mySlot s = .c then 0
  else match pathSel s with
    | 1 => b2n s.flu.lane0.up
    | 2 => if viaC s then 2 else 0
    | _ =>
      if s.flu.path = 2 ∧ viaC s then 2
      else if s.flu.lane0.up then 1
      else if viaC s then 2 else 0

/-- The path changes: event 0x0204 with the old and the new one; the loss of the path ends a resync (R129). -/
def setPath (p : Nat) (s : State) : State :=
  if p = s.flu.path then s
  else
    let old := s.flu.path
    let s := post 0x0204 0x46 (u8 old ++ u8 p) (fluInt 5 { s with flu := { s.flu with path := p } })
    if p = 0 then endResync s else s

def choosePath (s : State) : State := setPath (pathNow s) s

/-- A frame has arrived on the lane (R116): it is up. -/
def laneArrival (n : Nat) (s : State) : State :=
  let l := laneOf s.flu n
  choosePath { s with flu := setLane s.flu n { l with
    rx := satInc l.rx, up := true, upSince := if l.up then l.upSince else s.now } }

/-- The lane goes down. -/
def laneDown (n : Nat) (s : State) : State :=
  let l := laneOf s.flu n
  if !l.up then s else choosePath { s with flu := setLane s.flu n { l with up := false, linkDown := satInc l.linkDown } }

/-- A frame counted as a CRC error of its lane. -/
def laneCrc (n : Nat) (s : State) : State :=
  let l := laneOf s.flu n
  { s with flu := setLane s.flu n { l with crcErr := satInc l.crcErr } }

-- sequences (R117, R550) ------------------------------------------------------------------------------------------------------------------

/-- Steps from one SEQ to a later one: 0 lies in a sequence at its start only. -/
def seqSteps (last seq : Word) : Nat := (seq - last).toNat - b2n (decide (seq.toNat < last.toNat))

/-- A missing SEQ has come: its gap splits. -/
def fillGap (q : Nat) (gaps : List (Nat × Nat)) : List (Nat × Nat) :=
  (gaps.flatMap (fun g =>
    if g.1 ≤ q ∧ q < g.1 + g.2 then [(g.1, q - g.1), (q + 1, g.1 + g.2 - q - 1)] else [g])).filter (fun g => g.2 != 0)

/-- What a sequence makes of a SEQ. -/
inductive SeqFate where
  | dup
  /-- Accepted: the highest SEQ, the gaps, and the gap found now. -/
  | takes (last : Word) (gaps : List (Nat × Nat)) (miss : Option (Nat × Nat))
deriving DecidableEq, Repr

def seqFate (last : Option Word) (gaps : List (Nat × Nat)) (seq : Word) (fresh : Bool) : SeqFate :=
  match last with
  | none => .takes seq [] none
  | some l =>
    if fresh ∨ (seq = 0 ∧ l ≠ 0) then .takes seq [] none
    else
      let d := seqSteps l seq
      if 0 < d ∧ d < 2147483648 then
        if d = 1 then .takes seq gaps none
        else .takes seq (gaps ++ [((seqNext l).toNat, d - 1)]) (some ((seqNext l).toNat, d - 1))
      else if gaps.any (fun g => decide (g.1 ≤ seq.toNat ∧ seq.toNat < g.1 + g.2)) then .takes l (fillGap seq.toNat gaps) none
      else .dup

/-- A frame meets its sender's record; none: it was accepted before. A gap in this slot's own sequence is answered with a NAK. -/
def takeSeq (h : FlueHdr) (fresh : Bool) (s : State) : Option State :=
  let r := rxOf s.fluq h.src
  if h.dst.isNone then
    match seqFate r.all [] h.seq fresh with
    | .dup => none
    | .takes l _ _ => some { s with fluq := setRx h.src { r with all := some l } s.fluq }
  else
    match seqFate r.own r.gaps h.seq fresh with
    | .dup => none
    | .takes l g m =>
      let s := { s with fluq := setRx h.src { r with own := some l, gaps := g } s.fluq }
      some (match m with
        | none => s
        | some (a, n) => sendFlue (some h.src) (.nak { first := BitVec.ofNat 32 a, count := BitVec.ofNat 16 (min n 65535) }) s)

/-- NAK at the sender (R122): the frames still held go again with RETX set, under the module's present epoch (R51). -/
def onNak (lane : Nat) (src : Slot) (p : NakP) (s : State) : State :=
  let l := laneOf s.flu lane
  let s := { s with flu := setLane s.flu lane { l with naks := satInc l.naks } }
  let mine (x : HeldTx) : Bool :=
    x.f.hdr.dst == some src && decide (p.first.toNat ≤ x.f.hdr.seq.toNat ∧ x.f.hdr.seq.toNat < p.first.toNat + p.count.toNat)
  (s.fluq.held.filter mine).foldl
    (fun s x => match lanesFor s (some src) with
      | n :: _ =>
        if !maySendFlue s then s
        else
          let g := { x.f with hdr := { x.f.hdr with epoch := s.pair.epoch, flags := setBit x.f.hdr.flags 2 } }
          let s := laneSend n g s
          let l := laneOf s.flu n
          { s with flu := { setLane s.flu n { l with retx := satInc l.retx } with txNow := s.flu.txNow + bodyLen g.body } }
      | [] => s) s

-- STATUS (R66, R67, R81, R114, R115) -----------------------------------------------------------------------------------------------------------

/-- What a STATUS frame tells of its sender. -/
def peerStatus (q : Peer) (now : Nat) (epoch : Word) (p : StatusP) : Peer :=
  let busy := p.role == .active || p.role == .standby || p.role == .update
  { q with
    role := some p.role, sub := p.sub, key := p.key, flags := p.flags, epoch := epoch, progid := p.progid
    startAt := if bit p.flags 3 then some now else q.startAt
    notActAt := if p.role = .active then none else some (q.notActAt.getD now)
    busyAt := if busy then some now else q.busyAt }

/-- Slot C returns to RESERVE once a standby in A or B is SYNCHRONISED; its STATUS frames end the request (R81). -/
def returnRequest (x : Slot) (p : StatusP) (s : State) : State :=
  if s.pair.role ≠ .active then s
  else if x = .c then (if p.role = .reserve then { s with pair := { s.pair with returnC := false } } else s)
  else if p.role = .standby ∧ p.sub = .synchronised ∧ mySlot s ≠ .c ∧ seenIn s .standby .c then { s with pair := { s.pair with returnC := true } }
  else s

/-- A module that reports OFFLINE after UPDATE or after its restart has given back what it held for that (R528). -/
def updateEnded (old : Option Role) (x : Slot) (seq : Word) (p : StatusP) (s : State) : State :=
  if s.pair.role = .active ∧ p.role = .offline ∧ (old ≠ some .offline ∨ seq = 0) then
    releaseToken (fun h => h.slot == x && (h.code == 5 || h.code == 7)) s
  else s

/-- A standby takes the active's beat before its bulk copy begins, and measures its alignment from then on (R114, R115); TIME follows the
active's (R358). -/
def alignTo (p : StatusP) (s : State) : State :=
  if s.pair.sub = .resync ∧ s.flu.resync.phase ≤ 1 ∧ s.flu.alignErr.isNone then
    let d := s.tim.time.toNat - p.beatTime.toNat
    { s with
      cyc := { s.cyc with beat := p.beat, beatTime := p.beatTime, beatAt := s.now - (if d ≤ 250000 then d else 0) }
      flu := { s.flu with alignErr := some 0, alignOk := true } }
  else
    let e : Int := ((s.cyc.beatTime.toNat : Int) - p.beatTime.toNat) - ((s.cyc.beat.toNat : Int) - p.beat.toNat) * 250000
    followTime { s with flu := { s.flu with alignErr := some e, alignOk := decide (-1000 ≤ e ∧ e ≤ 1000) } }

def onStatus (h : FlueHdr) (p : StatusP) (s : State) : State :=
  let q := peerOf s.pair h.src
  let s := { s with pair := setPeer s.pair h.src (peerStatus q s.now h.epoch p) }
  let s := updateEnded q.role h.src h.seq p (returnRequest h.src p s)
  let s := if s.pair.role = .standby ∧ p.role = .active ∧ activeSlot s = some h.src then alignTo p s else s
  tryJoin (choosePath s)

-- CLAIM, JOIN, PROMOTE, SWITCH (R54, R64, R68, R79, R81, R86) ------------------------------------------------------------------------------------------

/-- A claim message (R54, R64). -/
def onClaim (lane : Nat) (x : Slot) (p : ClaimP) (s : State) : State :=
  let s := { s with pair := setPeer s.pair x { peerOf s.pair x with claimAt := some s.now } }
  let mine := (p.members &&& memberBit (mySlot s)) != 0
  match s.pair.role with
  | .fenced => s
  | .active | .standby =>
    if slotNo p.slot < slotNo (mySlot s) ∧ s.pair.claimed.contains p.epoch then fence p.epoch lane (u8 (slotNo x)) s
    else if p.epoch.toNat ≤ s.pair.epoch.toNat then s
    else if mine then
      let s := adoptEpoch p.epoch s
      if p.reason = 2 then switchDone s else s
    else fence p.epoch lane (u8 (slotNo x)) s
  | r =>
    let s := if s.pair.epoch.toNat < p.epoch.toNat then adoptEpoch p.epoch s else s
    if (r = .offline ∨ r = .reserve) ∧ mine ∧ s.pair.joinAt.isSome ∧ !s.flu.divHold ∧ runtimeLive s then enterStandby s else s

/-- The active refuses joins (R68): a switchover is pending, or a change lies between its GO and R. -/
def refusesJoin (s : State) : Bool := s.pair.switch.isSome || (s.chg.goSent && changeBusy s)

/-- The answer to a join (R68): a claim message, after a raise where the joiner's epoch is higher. -/
def answerJoin (x : Slot) (e : Word) (s : State) : State :=
  let m := goodStanding s ||| memberBit x
  if s.pair.epoch.toNat < e.toNat then post 0x0105 0x4B [] (takeEpoch (e + 1) 4 m s)
  else sendFlue none (.claim { epoch := s.pair.epoch, slot := mySlot s, reason := 4, members := m, rept := 0, time := s.tim.time }) s

/-- A join request at the active (R68, R79, R254, R503, R532). -/
def onJoin (x : Slot) (p : JoinP) (s : State) : State :=
  if s.pair.role ≠ .active ∨ !runtimeLive s ∨ refusesJoin s then s
  else if 0xFFFFFFFE ≤ p.epoch.toNat ∧ s.pair.epoch.toNat < p.epoch.toNat then pairPost 0x010A [] s
  else
    let q := peerOf s.pair x
    let fromReserve := x == .c && q.role == some .reserve
    let s := { s with pair := setPeer s.pair x { q with dead := false, epoch := p.epoch, progid := p.progid } }
    let s := releaseToken (fun h => h.slot == x && !p.holders.any (fun g => g.1 == h.code)) s
    let more := (p.holders.filter (fun g => !s.mnt.holders.any (fun h => h.slot == x && h.code == g.1))).map
      (fun g => ({ code := g.1, slot := x, arg := g.2.2, session := 0 } : Holder))
    let s := { s with mnt := { s.mnt with holders := s.mnt.holders ++ more } }
    let s := sendOwnId x (notePeerId x p.pairCompat p.legalId p.legalCfg (answerJoin x p.epoch s))
    if fromReserve then pairPost 0x0103 [] (pairInt 5 s) else s

/-- A PROMOTE frame that names this slot (R79 to R81, R434): the reserve joins, woken first where it is banked; the standby in slot C goes back. -/
def onPromote (p : PromoteP) (s : State) : State :=
  if p.target ≠ mySlot s then s
  else if p.action = 1 then
    if s.pair.role = .standby ∧ mySlot s = .c ∧ !s.flu.divHold then enterReserve s else s
  else if s.pair.role ≠ .reserve ∨ s.flu.divHold then s
  else if s.emb.state = .run then sendJoin { s with pair := { s.pair with selfTest := none } }
  else { s with emb := { s.emb with promote := some p } }

/-- The switch message at the standby (R86, R552): its record takes E+1, and is acknowledged when written. -/
def onSwitch (x : Slot) (p : SwitchP) (s : State) : State :=
  if s.pair.role ≠ .standby ∨ activeSlot s ≠ some x then s
  else
    let s := { s with pair := { s.pair with switchSeen := some { beat := p.beat.toNat, epoch := p.epoch, acked := false } } }
    if serviceAsked s ∨ p.epoch.toNat ≤ (heardEpoch s).toNat ∨ p.epoch = 0xFFFFFFFF then s else issueRecord s

/-- The acknowledgement at the active. -/
def onSwitchAck (p : SwitchP) (s : State) : State :=
  match s.pair.switch with
  | some w =>
    if s.pair.role = .active ∧ w.beat = p.beat.toNat ∧ w.epoch = p.epoch then
      { s with pair := { s.pair with switch := some { w with acked := true } } }
    else s
  | none => s

-- relayed Folmonet frames (R122, R152, R215) --------------------------------------------------------------------------------------------------------------

/-- Moment of a RELAY-OUT entry: TOFF after the boundary that its frame's stamp names. -/
def relayTime (s : State) (stamp : Word) (toff : Nat) : Nat :=
  let b := stamp.toNat
  let now := s.cyc.beat.toNat % 2 ^ 32
  (if now ≤ b then s.cyc.beatAt + (b - now) * 250000 else s.cyc.beatAt - (now - b) * 250000) + toff

/-- An entry that comes after its transmit time is discarded (R122): counted, event 0x040B. -/
def relayLate (n : Nat) (s : State) : State :=
  fptPost n 0x040B [] (setCnt n (fun c => { c with relayLate := satInc c.relayLate }) s)

/-- A CYCLE-START for the far end tells the standby that the segment runs (log 39). -/
def mirrorSegment (n : Nat) (s : State) : State :=
  let s := if (segOf s n).st = .running then s else noteHyper (setSeg n (fun g => { g with st := .running, start := none }) (loadStations n s))
  setSeg n (fun g => { g with since := s.now }) s

/-- One RELAY-OUT entry at the standby: kept for its transmit time, or discarded as late. -/
def takeRelay (s : State) (e : RelayE) : State :=
  match folOf e.frame with
  | none => setCnt e.port (fun c => { c with otherDisc := satInc c.otherDisc }) s
  | some f =>
    let t := relayTime s f.hdr.stamp e.toff.toNat
    let s := if bit e.flags 0 then mirrorSegment e.port s else s
    if t < s.now then relayLate e.port s
    else { s with fluq := { s.fluq with relays := s.fluq.relays ++ [{ e := e, at_ := t }] } }

def onRelayOut (es : List RelayE) (s : State) : State := if s.pair.role = .standby then es.foldl takeRelay s else s

/-- The frame of an entry has left the port: the station is served in this cycle (R73), a CYCLE-START is dated. -/
def relaySent (n : Nat) (f : FolFrame) (s : State) : State :=
  match f.body with
  | .cycleStart _ => setPort n (fun p => { p with cstx := s.tim.time }) s
  | .output _ =>
    match stationOf s f.hdr.station with
    | some x => putStation { x with sent := true, sentCom := some (taskOf s x.cfg.outTask).comInst } s
    | none => s
  | _ => s

/-- The transmit time of the port's next entry. -/
def relayTransmit (n : Nat) (late : Bool) (s : State) : State :=
  match s.fluq.relays.find? (fun r => r.e.port == n) with
  | none => s
  | some r =>
    let s := { s with fluq := { s.fluq with relays := s.fluq.relays.erase r } }
    if late then relayLate n s
    else match folOf r.e.frame with
      | some f => relaySent n f (portSend n f s)
      | none => s

/-- A SERVICE frame that the standby has passed on. The round trip of a PROBE-RESP stands in no field of the entry: a free value (log 3). -/
def relayService (lane n end_ : Nat) (f : FolFrame) (m : SvcMsg) (s : State) : State :=
  let st := f.hdr.station
  if m.op = 4 ∨ m.op = 5 then writeAnswer n st f.hdr.epoch m.tid (if m.op = 4 then 0 else m.arg.toNat) lane s
  else if m.op = 7 then
    let turn := beAt m.data 0 4
    probeAnswer n st end_ f.hdr.epoch (turn + Config.freeNat s.freeCtr % 2 ^ 32) turn (BitVec.ofNat 32 (beAt m.data 4 4)) lane
      { s with freeCtr := s.freeCtr + 1 }
  else
    let (s, ok) := stationEpochs n st f.hdr.epoch 0 lane s
    if ok && dictOp m.op then folRequest n end_ f m s else s

/-- One RELAY-IN entry at the active: as if received at its own port. -/
def takeRelayIn (lane : Nat) (s : State) (e : RelayE) : State :=
  let n := e.port
  let end_ := 1 - (myEnd s).getD 0
  if s.pair.role ≠ .active ∨ 4 ≤ n then s
  else match folOf e.frame with
    | none => setCnt n (fun c => { c with otherDisc := satInc c.otherDisc }) s
    | some f =>
      match f.body with
      | .input p => rxInput n end_ lane false f.hdr p s
      | .service m => relayService lane n end_ f m s
      | _ => s

def onRelayIn (lane : Nat) (es : List RelayE) (s : State) : State := es.foldl (takeRelayIn lane) s

-- a frame's way through the module (R119, R120) -----------------------------------------------------------------------------------------------------------------

/-- The effect of an accepted frame, by its type. The Flue block itself serves STATUS, PROMOTE and NAK; the other types need the engine or the
runtime. -/
def flueBody (lane : Nat) (f : FlueFrame) (s : State) : State :=
  let x := f.hdr.src
  match f.body with
  | .status p => onStatus f.hdr p s
  | .claim p => onClaim lane x p s
  | .promote p => onPromote p s
  | .nak p => onNak lane x p s
  | .join p => onJoin x p s
  | .switch p => onSwitch x p s
  | .switchAck p => onSwitchAck p s
  | .objWrite p => onObjWrite x (bit f.hdr.flags 1) p s
  | .image p => if rickFull s then onImage p s else s
  | .digest p => if rickFull s then onDigest p s else s
  | .relayOut es => if rickFull s then onRelayOut es s else s
  | .relayIn es => if rickFull s then onRelayIn lane es s else s
  | .resyncData p => if rickFull s then onResyncData p s else s
  | .resyncCtrl p => if rickFull s then onResyncCtrl p s else s
  | .kindle p => if runtimeLive s then onKindle p s else s

/-- STATUS and JOIN frames pass below the module's own epoch, and above it are only recorded by ACTIVE and STANDBY (R120). -/
def anyEpoch : FlueBody → Bool
  | .status _ => true
  | .join _ => true
  | _ => false
def isClaim : FlueBody → Bool
  | .claim _ => true
  | _ => false

/-- An epoch above the module's own in a frame that is no claim message (R54, R64, R120). -/
def frameEpoch (lane : Nat) (f : FlueFrame) (s : State) : State :=
  let s := noteEpoch f.hdr.epoch s
  if isClaim f.body || (anyEpoch f.body && runsTasks s.pair.role) then s
  else higherEpoch f.hdr.epoch lane (u8 (slotNo f.hdr.src)) s

/-- The frame's epoch is acted on, then its effect follows unless it fenced. -/
def flueEffect (lane : Nat) (f : FlueFrame) (s : State) : State :=
  let was := s.pair.role
  let s := frameEpoch lane f s
  if s.pair.role = .fenced ∧ was ≠ .fenced then s else flueBody lane f s

/-- The payload of a budgeted type is counted (R126). -/
def countPayload (f : FlueFrame) (s : State) : State :=
  if bulk f.body then s else { s with flu := { s.flu with rxNow := s.flu.rxNow + bodyLen f.body } }

/-- The frame meets its sender's record. -/
def flueInOrder (lane : Nat) (f : FlueFrame) (fresh : Bool) (s : State) : State :=
  match takeSeq f.hdr fresh s with
  | none => s
  | some s => flueEffect lane f (countPayload f s)

/-- The sender has not been heard for 100 ms: its sequence begins anew (R550). -/
def freshSender (s : State) (x : Slot) : Bool :=
  match (peerOf s.pair x).heardAt with
  | some t => decide (100000000 ≤ s.now - t)
  | none => true

/-- A frame to this slot: its sender is heard; below the module's epoch only some types go on. -/
def flueToHere (lane : Nat) (f : FlueFrame) (s : State) : State :=
  let fresh := freshSender s f.hdr.src
  let s := { s with pair := setPeer s.pair f.hdr.src { peerOf s.pair f.hdr.src with heardAt := some s.now } }
  if f.hdr.epoch.toNat < s.pair.epoch.toNat ∧ !anyEpoch f.body then s else flueInOrder lane f fresh s

/-- A frame past the lane's rule: counted, checked, its sender heard, in sequence, its epoch acted on, then its effect unless it fenced. -/
def flueArrive (lane : Nat) (f : FlueFrame) (s : State) : State :=
  let s := laneArrival lane s
  if f.hdr.ver ≠ 1 then laneCrc lane s
  else if f.hdr.epoch = 0xFFFFFFFF then pairPost 0x010A [] (laneCrc lane s)
  else if f.hdr.src = mySlot s ∨ !(f.hdr.dst == none || f.hdr.dst == some (mySlot s)) then s
  else flueToHere lane f s

/-- A frame at a lane's receive rule (R535, R537): its fate, and the frame held before it that follows. -/
def flueRxRule (lane : Nat) (f : FlueFrame) (s : State) : State × RxFate × Option FlueFrame :=
  let k := 9 + 2 * lane
  match heldBy s.mnt k with
  | some (.flueRx _ g) => ({ s with mnt := dropHeld s.mnt k }, .passes, some g)
  | _ =>
    match fijRule s.mnt k (bodyType f.body) none (flueBytes f) with
    | (m, .pass) => ({ s with mnt := m }, .passes, none)
    | (m, .drop) => ({ s with mnt := m }, .lost, none)
    | (m, .flip x) => ({ s with mnt := m }, flipFate x.byte false, none)
    | (m, .hold) => ({ s with mnt := { m with held := (k, .flueRx lane f, s.now) :: m.held } }, .held, none)

/-- A frame on a lane. -/
def flueRx (lane : Nat) (f : FlueFrame) (s : State) : State :=
  if !laneHears s lane then s
  else
    let (s, fate, after) := flueRxRule lane f s
    let s := match fate with
      | .passes => flueArrive lane f s
      | .badCrc => laneCrc lane s
      | _ => s
    match after with
    | some g => flueArrive lane g s
    | none => s

/-- A frame that fails the first checks (R50, R119, R120). -/
def flueDiscard (lane : Nat) (why : FlueBad) (src : Slot) (s : State) : State :=
  if !laneHears s lane then s
  else match why with
    | .epochMax => pairPost 0x010A [] (laneCrc lane (laneArrival lane s))
    | .lowEpoch =>
      let s := laneArrival lane s
      { s with pair := setPeer s.pair src { peerOf s.pair src with heardAt := some s.now } }
    | .version => laneCrc lane (laneArrival lane s)
    | .badType => laneCrc lane (laneArrival lane s)
    | _ => laneCrc lane s

/-- Slot C passes a frame from one lane to the other (R46, R550): those to all slots and those to the other slot, with RELAYED set. -/
def slotCForward (lane : Nat) (f : FlueFrame) (s : State) : State :=
  let other : Slot := if lane = 0 then .b else .a
  if mySlot s ≠ .c ∨ !laneHears s lane ∨ !forwards s ∨ f.hdr.src = .c ∨ f.hdr.src = other then s
  else
    let s := if f.hdr.dst.isNone then s else laneArrival lane s
    if (f.hdr.dst.isNone || f.hdr.dst == some other) && laneOpen s (1 - lane) then
      laneSend (1 - lane) { f with hdr := { f.hdr with flags := setBit f.hdr.flags 0 } } s
    else s

/-- Block lock is gained or lost (R116). -/
def blockLock (lane : Nat) (locked : Bool) (s : State) : State :=
  if !rickLive s || decide (2 ≤ lane) || isolated s (if lane = 0 then 0x46 else 0x47) then s
  else
    let s := { s with flu := setLane s.flu lane { laneOf s.flu lane with locked := locked } }
    if locked then s else laneDown lane { s with flu := setLane s.flu lane { laneOf s.flu lane with out := [] } }

/-- The pair link has been up for 1 s (R116): the return from slot C's path. -/
def pairReturn (s : State) : State :=
  if rickLive s && mySlot s != .c && s.flu.path == 2 && pathSel s != 2 && s.flu.lane0.up && decide (s.flu.lane0.upSince + 1000000000 ≤ s.now) then
    setPath 1 s
  else s

/-- No frame follows a held one within HOLD (R537): it passes unchanged and counts a miss, but not after the end of its run (R538, log 10). -/
def holdExpiry (k : Nat) (s : State) : State :=
  match heldBy s.mnt k with
  | none => s
  | some x =>
    let r := s.mnt.rules.getD k {}
    let m := dropHeld s.mnt k
    let s := { s with mnt := if s.mnt.running then { m with rules := putAt m.rules k { r with miss := satInc r.miss } } else m }
    match x with
    | .flueTx n f => { s with flu := setLane s.flu n { laneOf s.flu n with out := (laneOf s.flu n).out ++ [{ f := f }] } }
    | .folTx n f => setPort n (fun p => { p with out := p.out ++ [{ f := f }] }) s
    | .flueRx n f => if laneHears s n then flueArrive n f s else s
    | .folRx n f => if rickFull s && portUp s n then folRxBody n f s else s

-- commands ------------------------------------------------------------------------------------------------------------------------------------------------------------

def execStatusFrame (lane : Nat) (h : FlueHdr) (p : StatusP) (s : State) : Host.Outcome State Fault Refusal :=
  finish (flueRx lane { hdr := h, body := .status p } s)
def execImageFrame (lane : Nat) (h : FlueHdr) (p : ImageP) (s : State) : Host.Outcome State Fault Refusal :=
  finish (flueRx lane { hdr := h, body := .image p } s)
def execDigestFrame (lane : Nat) (h : FlueHdr) (p : DigestP) (s : State) : Host.Outcome State Fault Refusal :=
  finish (flueRx lane { hdr := h, body := .digest p } s)
def execRelayOutFrame (lane : Nat) (h : FlueHdr) (es : List RelayE) (s : State) : Host.Outcome State Fault Refusal :=
  finish (flueRx lane { hdr := h, body := .relayOut es } s)
def execRelayOutTransmit (port : Nat) (late : Bool) (s : State) : Host.Outcome State Fault Refusal :=
  finish (if rickFull s then relayTransmit port late s else s)
def execRelayInFrame (lane : Nat) (h : FlueHdr) (es : List RelayE) (s : State) : Host.Outcome State Fault Refusal :=
  finish (flueRx lane { hdr := h, body := .relayIn es } s)
def execClaimFrame (lane : Nat) (h : FlueHdr) (p : ClaimP) (s : State) : Host.Outcome State Fault Refusal :=
  finish (flueRx lane { hdr := h, body := .claim p } s)
def execJoinFrame (lane : Nat) (h : FlueHdr) (p : JoinP) (s : State) : Host.Outcome State Fault Refusal :=
  finish (flueRx lane { hdr := h, body := .join p } s)
/-- PROMOTE with ACTION 0, and with ACTION 1. -/
def execPromoteToStandby (lane : Nat) (h : FlueHdr) (p : PromoteP) (s : State) : Host.Outcome State Fault Refusal :=
  finish (flueRx lane { hdr := h, body := .promote { p with action := 0 } } s)
def execReturnToReserve (lane : Nat) (h : FlueHdr) (p : PromoteP) (s : State) : Host.Outcome State Fault Refusal :=
  finish (flueRx lane { hdr := h, body := .promote { p with action := 1 } } s)
def execSwitchFrame (lane : Nat) (h : FlueHdr) (p : SwitchP) (s : State) : Host.Outcome State Fault Refusal :=
  finish (flueRx lane { hdr := h, body := .switch p } s)
def execSwitchAckFrame (lane : Nat) (h : FlueHdr) (p : SwitchP) (s : State) : Host.Outcome State Fault Refusal :=
  finish (flueRx lane { hdr := h, body := .switchAck p } s)
def execNakFrame (lane : Nat) (h : FlueHdr) (p : NakP) (s : State) : Host.Outcome State Fault Refusal :=
  finish (flueRx lane { hdr := h, body := .nak p } s)
def execResyncDataFrame (lane : Nat) (h : FlueHdr) (p : ResyncDataP) (s : State) : Host.Outcome State Fault Refusal :=
  finish (flueRx lane { hdr := h, body := .resyncData p } s)
def execResyncCtrlFrame (lane : Nat) (h : FlueHdr) (p : ResyncCtrlP) (s : State) : Host.Outcome State Fault Refusal :=
  finish (flueRx lane { hdr := h, body := .resyncCtrl p } s)
def execFlueFrameDiscard (lane : Nat) (why : FlueBad) (src : Slot) (s : State) : Host.Outcome State Fault Refusal :=
  finish (flueDiscard lane why src s)
def execSlotCForward (lane : Nat) (f : FlueFrame) (s : State) : Host.Outcome State Fault Refusal := finish (slotCForward lane f s)
def execLaneBlockLock (lane : Nat) (locked : Bool) (s : State) : Host.Outcome State Fault Refusal := finish (blockLock lane locked s)

/-- No frame has come on the lane for 4 beats (R116). -/
def execLaneDown (lane : Nat) (s : State) : Host.Outcome State Fault Refusal := finish (if rickLive s && decide (lane < 2) then laneDown lane s else s)
def execPairLinkReturn (s : State) : Host.Outcome State Fault Refusal := finish (pairReturn s)

/-- KINDLE frames by OP (R187). -/
def kindleFrame (op lane : Nat) (h : FlueHdr) (p : KindleP) (s : State) : State := flueRx lane { hdr := h, body := .kindle { p with op := op } } s
def execKindleDataFrame (lane : Nat) (h : FlueHdr) (p : KindleP) (s : State) : Host.Outcome State Fault Refusal := finish (kindleFrame 1 lane h p s)
def execKindleLoaded (lane : Nat) (h : FlueHdr) (p : KindleP) (s : State) : Host.Outcome State Fault Refusal := finish (kindleFrame 2 lane h p s)
def execKindleStart (lane : Nat) (h : FlueHdr) (p : KindleP) (s : State) : Host.Outcome State Fault Refusal := finish (kindleFrame 3 lane h p s)
def execKindleGo (lane : Nat) (h : FlueHdr) (p : KindleP) (s : State) : Host.Outcome State Fault Refusal := finish (kindleFrame 4 lane h p s)
def execKindleGoAck (lane : Nat) (h : FlueHdr) (p : KindleP) (s : State) : Host.Outcome State Fault Refusal := finish (kindleFrame 5 lane h p s)
def execKindleNogo (lane : Nat) (h : FlueHdr) (p : KindleP) (s : State) : Host.Outcome State Fault Refusal := finish (kindleFrame 6 lane h p s)
def execKindleDone (lane : Nat) (h : FlueHdr) (p : KindleP) (s : State) : Host.Outcome State Fault Refusal := finish (kindleFrame 7 lane h p s)
def execKindleAbandon (lane : Nat) (h : FlueHdr) (p : KindleP) (s : State) : Host.Outcome State Fault Refusal := finish (kindleFrame 8 lane h p s)

/-- OBJWRITE frames by OP (R332). -/
def objFrame (op lane : Nat) (h : FlueHdr) (p : ObjWriteP) (s : State) : State := flueRx lane { hdr := h, body := .objWrite { p with op := op } } s
def execObjwriteApply (lane : Nat) (h : FlueHdr) (p : ObjWriteP) (s : State) : Host.Outcome State Fault Refusal := finish (objFrame 1 lane h p s)
def execObjwriteAck (lane : Nat) (h : FlueHdr) (p : ObjWriteP) (s : State) : Host.Outcome State Fault Refusal := finish (objFrame 2 lane h p s)
def execObjwriteNack (lane : Nat) (h : FlueHdr) (p : ObjWriteP) (s : State) : Host.Outcome State Fault Refusal := finish (objFrame 3 lane h p s)
def execObjwriteForward (lane : Nat) (h : FlueHdr) (p : ObjWriteP) (s : State) : Host.Outcome State Fault Refusal := finish (objFrame 4 lane h p s)
def execObjwriteResult (lane : Nat) (h : FlueHdr) (p : ObjWriteP) (s : State) : Host.Outcome State Fault Refusal := finish (objFrame 5 lane h p s)

def execReorderHoldExpiry (rule : Nat) (s : State) : Host.Outcome State Fault Refusal := finish (holdExpiry rule s)

end Sys2Proof.Machine
end

