-- ==== Sys2Proof/Machine/Beat.lean ====
section
/-!
DEFINITION. The beat boundary (04 R138 to R141, R146): the beat, Beat-class fields and descriptors, CYCLE-START frames and start boundaries of
tasks, and what the other blocks and the runtime do at every boundary (02 R52, R54, R81, R553, 03 R118, R127, R137, 05 R182, 09 R327).
-/

namespace Sys2Proof.Machine

-- STATUS (R114, R118) -------------------------------------------------------------------------------------------------------------

def statusFlags (s : State) : Byte :=
  let c := mySlot s == .c
  pack 8 [(0, b2n s.pair.armed), (1, b2n (!c && s.flu.lane0.up)), (2, b2n (forwards s)), (3, b2n (mayStart s)), (4, b2n (s.flu.path == 2))]

def statusP (s : State) : StatusP :=
  { role := s.pair.role, sub := s.pair.sub, key := s.hw.key, flags := statusFlags s, beat := s.cyc.beat, beatTime := s.cyc.beatTime
    progid := BitVec.ofNat 32 (progId s) }

/-- One STATUS frame on every lane with block lock. -/
def sendStatus (s : State) : State := sendFlue none (.status (statusP s)) s

-- step 1, and the accounts of the beat that ends (R126, R137, R141) -------------------------------------------------------------------

/-- The beat number rises and the boundary's TIME is captured; POS of CYC_HYPER. -/
def countBeat (s : State) : State :=
  let b := s.cyc.beat + 1
  { s with cyc := { s.cyc with beat := b, beatTime := s.tim.time, beatAt := s.now, pos := b.toNat % max 1 s.cyc.hyper } }

/-- FLU_USE_TX and FLU_USE_RX take the beat's figures; frames held for retransmission are kept for 2 beats (R122). -/
def closeBudget (s : State) : State :=
  let tx := s.flu.txNow
  let rx := s.flu.rxNow
  let ovr := decide (196608 < tx) || decide (196608 < rx)
  let s := { s with
    flu := { s.flu with
      txLast := BitVec.ofNat 32 tx, txPeak := BitVec.ofNat 32 (max s.flu.txPeak.toNat tx), txNow := 0
      rxLast := BitVec.ofNat 32 rx, rxPeak := BitVec.ofNat 32 (max s.flu.rxPeak.toNat rx), rxNow := 0 }
    fluq := { s.fluq with objBytes := 0, held := s.fluq.held.filter (fun h => decide (s.cyc.beat.toNat ≤ h.beat + 2)) } }
  if ovr then post 0x0208 0x46 [] (fluInt 8 s) else s

-- step 2: descriptors, masks (R141, R146) -----------------------------------------------------------------------------------------------

/-- A task's bit in CYC_DESC_STALE or CYC_DESC_STALE_EVT; a bit newly set raises event 0x0309. -/
def setStale (t : Nat) (on : Bool) (s : State) : State :=
  let old := if t < 16 then bit s.cyc.stale t else bit s.cyc.staleEvt (t - 16)
  let s := { s with cyc :=
    if t < 16 then { s.cyc with stale := putBit s.cyc.stale t on } else { s.cyc with staleEvt := putBit s.cyc.staleEvt (t - 16) on } }
  if on && !old then post 0x0309 0x40 [] (cycInt 6 s) else s

/-- One working copy at a boundary. -/
def descBeat (s : State) (t : Nat) : State :=
  let d := readDesc s.mem t
  let k := taskOf s t
  if !descOk t d then setStale t true s
  else if !enabled s t && !k.inFlight then setStale t false (setTask t (fun k => { k with desc := d }) s)
  else
    let s := setTask t (fun k => { k with desc := { k.desc with policy := d.policy, latch := d.latch, deadline := d.deadline } }) s
    setStale t (haltPart d != haltPart k.desc) s

/-- The working copies of a loaded program's descriptors (log 48). -/
def descsBeat (s : State) : State := if s.run.prog.isNone then s else (List.range 80).foldl descBeat s

/-- The enable masks written in the beat that ended (R172). -/
def takeMasks (s : State) : State :=
  { s with cyc := { s.cyc with
      taskEn := s.cyc.taskEnNext.getD s.cyc.taskEn, taskEnNext := none, evtEn := s.cyc.evtEnNext.getD s.cyc.evtEn, evtEnNext := none } }

/-- Beat-class changes: writes of the dictionary at their boundary, register fields, descriptors, masks; then what hangs on them. -/
def applyBeatClass (s : State) : State :=
  let s := choosePath (takeNext (applyTxns s.cyc.beat.toNat s))
  noteHyper (takeMasks (descsBeat s))

-- step 3: bus cycles (R72, R139, R204, R214) -----------------------------------------------------------------------------------------------

/-- A loss declared less than 20 µs before the boundary keeps this boundary's CYCLE-START frames back (R72). -/
def tooLate (s : State) : Bool :=
  match s.pair.tookAt with
  | some t => decide (s.now < t + 20000)
  | none => false

/-- A segment at the boundary: the active's own end sends its CYCLE-START, the standby follows the cycle for its capture (R74). A standby that
has seen none of its CYCLE-START entries for two cycles takes the segment as stopped (log 39). -/
def segBeat (s : State) (n : Nat) : State :=
  if (segOf s n).st ≠ .running ∨ !segStartDue s n s.cyc.beat.toNat then s
  else match s.pair.role with
    | .active => let s := segBoundary n s; if tooLate s then s else emitCycleStart n s
    | .standby =>
      if (segOf s n).since + 2 * cycleNs s n + 250000 < s.now then setSeg n (fun g => { g with st := .stopped, start := none }) s else segBoundary n s
    | _ => s

def segsBeat (s : State) : State :=
  let s := relayCycleStarts ((List.range 4).foldl segBeat s)
  { s with pair := { s.pair with tookAt := none } }

-- the pair at a boundary (R52, R54, R81, R86) -------------------------------------------------------------------------------------------------

/-- A failed claim-record write is tried again. -/
def retryRecord (s : State) : State := if s.pair.recFailed && !s.pair.recBusy then issueRecord s else s

/-- The claim message is repeated at the 8 boundaries after a new epoch. -/
def repeatClaim (s : State) : State :=
  if s.pair.claimLeft = 0 then s
  else sendFlue none (claimBody s (9 - s.pair.claimLeft)) { s with pair := { s.pair with claimLeft := s.pair.claimLeft - 1 } }

/-- A switch message whose point has passed is forgotten. -/
def dropSwitchSeen (s : State) : State :=
  match s.pair.switchSeen with
  | some w => if w.beat < s.cyc.beat.toNat then { s with pair := { s.pair with switchSeen := none } } else s
  | none => s

def pairBeat (s : State) : State :=
  let s := repeatClaim (retryRecord (dropSwitchSeen s))
  let s := if s.pair.role = .active ∧ s.pair.returnC then sendPromote 1 s else s
  serviceBeat (takeoverLate s)

-- the boundary -----------------------------------------------------------------------------------------------------------------------------------

/-- A boundary of a module that runs. -/
def beat (s : State) : State :=
  let s := applyBeatClass (closeBudget (countBeat s))
  let s := restartBeat (changeBeat s)
  let s := (List.range 16).foldl startTask (segsBeat s)
  let s := sendWholeSet (resyncBeat (pairBeat s))
  ring 67 (sendStatus (if runtimeLive s then serveRequests s else s))

/-- In BANKED and WAKING the Flue block alone acts (R118, R433). -/
def execBeatBoundary (s : State) : Host.Outcome State Fault Refusal :=
  finish (if !rickLive s then s else if bankedNow s then sendStatus s else beat s)

end Sys2Proof.Machine
end

