-- ==== Sys2Proof/Machine/RegWrite.lean ====
section
/-!
DEFINITION. What a write of each register does (the register tables of the chapters: R38, R94, R135, R172, R231, R268, R269, R308, R365 to
R368, R393, R394, R419, R442, R443, R462, R489, R519, R543): whole 32-bit and 64-bit values. Registers that the tables give as RO,
and reserved offsets, ignore writes (R6). `level` is the level at which the request was checked.
-/

namespace Sys2Proof.Machine

-- shared forms ------------------------------------------------------------------------------------------------------------

/-- The lowest `n` bits of a word. -/
def lowBits (n : Nat) (w : Word) : Word := w &&& BitVec.ofNat 32 (2 ^ n - 1)

/-- W1C over the lowest `n` bits: a bit written as 1 is cleared. -/
def w1c (n : Nat) (old w : Word) : Word := old &&& ~~~(lowBits n w)

/-- The state after what a command's meaning gives (every meaning gives a next state). -/
def after (o : Host.Outcome State Fault Refusal) (s : State) : State :=
  match o with
  | .next t => t
  | _ => s

/-- An interrupt mask takes a value: a status bit that it newly enables rings the source (R422). -/
def newMask (status old new : Word) (src : Nat) (s : State) : State := ringIf ((status &&& new &&& ~~~old) != 0) src s

/-- The core that makes a request, for the commands that name it. -/
def coreOf : Master → Nat
  | .core n => n
  | _ => 0

-- Hearth -------------------------------------------------------------------------------------------------------------------

def supWrite (o core : Nat) (level : Level) (w : Word) (s : State) : State :=
  match o with
  | 0x010 => { s with sup := { s.sup with regionFault := s.sup.regionFault &&& ~~~(w.setWidth 5) } }
  | 0x060 => supFailSilent core level w s
  | _ => s

/-- HCK_FIRCTRIM (R349, R365): TRIM is the hardware's while SRC is not 0; a write of SRC begins its windows anew. -/
def trimWrite (w : Word) (s : State) : State :=
  let held := !s.clk.trimHost && trimSrc s != 0
  let t := setFld (setFld s.clk.trim 30 2 (fld w 30 2)) 28 2 (fld w 28 2)
  { s with clk := { s.clk with trim := if held then t else setFld t 0 10 (fld w 0 10), fircCnt := clrBit s.clk.fircCnt 31 } }

def hckWrite (o : Nat) (w : Word) (s : State) : State :=
  match o with
  | 0x010 =>
    if s.pair.role = .offline then { s with clk := { s.clk with divf := w } } else hckInt 2 (post 0x070A 0x00 [] s)
  | 0x018 => trimWrite w s
  | 0x060 => { s with clk := { s.clk with hckInt := w1c 3 s.clk.hckInt w } }
  | 0x064 =>
    newMask s.clk.hckInt s.clk.hckMask (lowBits 3 w) 74 { s with clk := { s.clk with hckMask := lowBits 3 w } }
  | _ => s

def rtcWrite (o : Nat) (w : Word) (s : State) : State :=
  match o with
  | 0x060 => { s with tim := { s.tim with rtcInt := w1c 2 s.tim.rtcInt w } }
  | 0x064 => newMask s.tim.rtcInt s.tim.rtcMask (lowBits 2 w) 76 { s with tim := { s.tim with rtcMask := lowBits 2 w } }
  | _ => s

/-- Kiln's outputs are clamped, 3 µs after all cores were in WFI (R435), until STATE is RUN again: EMB_RDIGEST and EMB_RESUME are locked. -/
def embLocked (s : State) : Bool :=
  match s.emb.state with
  | .run => false
  | .entering => s.emb.step == .inWfi && decide (3000 ≤ s.now - s.emb.stepAt)
  | _ => true

/-- EMB_ accepts writes only from M mode (R443). -/
def embWrite (o : Nat) (level : Level) (w : Word) (s : State) : State :=
  if level ≠ .m then s
  else match o with
    | 0x010 => embSleep level w s
    | 0x018 => { s with emb := { s.emb with wakeEn := lowBits 5 w } }
    | 0x01C => { s with emb := { s.emb with cause := s.emb.cause &&& ~~~(w.setWidth 5) } }
    | 0x020 => { s with emb := { s.emb with lioEdge := w } }
    | 0x060 => { s with emb := { s.emb with intStatus := w1c 3 s.emb.intStatus w } }
    | 0x064 => newMask s.emb.intStatus s.emb.intMask (lowBits 3 w) 79 { s with emb := { s.emb with intMask := lowBits 3 w } }
    | _ =>
      if 0x100 ≤ o ∧ o < 0x180 then { s with emb := { s.emb with watch := putAt s.emb.watch ((o - 0x100) / 4) (w &&& 0x800003FF) } } else s

def embWrite64 (o : Nat) (level : Level) (v : DWord) (s : State) : State :=
  if level ≠ .m || embLocked s then s
  else if o = 0x028 then { s with emb := { s.emb with resume := v } }
  else if 0x040 ≤ o ∧ o < 0x060 then { s with emb := { s.emb with rdigest := putAt s.emb.rdigest ((o - 0x040) / 8) v } }
  else s

def hpwWrite (o : Nat) (w : Word) (s : State) : State :=
  match o with
  | 0x050 => after (execHpwClear .m w s) s
  | 0x060 => { s with hw := { s.hw with flags := w1c 5 s.hw.flags w } }
  | _ => s

-- Rick ----------------------------------------------------------------------------------------------------------------------

def pairWrite (o : Nat) (level : Level) (w : Word) (s : State) : State :=
  match o with
  | 0x020 => pairCmd level w s
  | 0x030 => { s with pair := { s.pair with cfgNext := some (w &&& 0xFFFF00E0) } }
  | 0x070 => { s with pair := { s.pair with intStatus := w1c 8 s.pair.intStatus w } }
  | 0x074 => newMask s.pair.intStatus s.pair.intMask (lowBits 8 w) 64 { s with pair := { s.pair with intMask := lowBits 8 w } }
  | 0x800 => dmpArm level w s
  | _ => s

/-- FLU_CFG (R136): PATHSEL 1 and 2 are taken only in COMMISSION. -/
def fluCfg (w : Word) (s : State) : State :=
  let v : Word := w &&& 0x003FFFFC
  let test := fld v 2 2 == 1 || fld v 2 2 == 2
  { s with flu := { s.flu with cfgNext := some (if test && !s.mnt.comm then setFld v 2 2 0 else v) } }

def fluWrite (o : Nat) (w : Word) (s : State) : State :=
  match o with
  | 0x010 => fluCfg w s
  | 0x058 => fluClear w s
  | 0x060 => { s with flu := { s.flu with intStatus := w1c 9 s.flu.intStatus w } }
  | 0x064 => newMask s.flu.intStatus s.flu.intMask (lowBits 9 w) 65 { s with flu := { s.flu with intMask := lowBits 9 w } }
  | _ => s

/-- CYC_SEGn (R173): unchanged while segment n is started. -/
def segWrite (n : Nat) (w : Word) (s : State) : State :=
  if (segOf s n).st ≠ .stopped then post 0x030B 0x40 [] (cycInt 7 s)
  else { s with run := { s.run with segs := putAt s.run.segs n (w &&& 0xFFFFFF07) } }

/-- CYC_ (R172, R173): CYC_CMD, CYC_WDOG, CYC_DONE and the W1C registers from M mode only. -/
def cycWrite (o core : Nat) (level : Level) (w : Word) (s : State) : State :=
  match o with
  | 0x010 => cycCmd level w s
  | 0x018 => { s with cyc := { s.cyc with cfgNext := some (w &&& 0x000000FC) } }
  | 0x038 => cycWdog core level w s
  | 0x040 => { s with cyc := { s.cyc with taskEnNext := some (w.setWidth 16) } }
  | 0x048 => faultClear level (w.setWidth 16) 0 s
  | 0x090 => cycDone core level w [] s
  | 0x0A0 => if level = .m then { s with cyc := { s.cyc with intStatus := w1c 8 s.cyc.intStatus w } } else s
  | 0x0A4 => newMask s.cyc.intStatus s.cyc.intMask (lowBits 8 w) 66 { s with cyc := { s.cyc with intMask := lowBits 8 w } }
  | _ => if 0x100 ≤ o ∧ o < 0x120 ∧ o % 8 = 0 then segWrite ((o - 0x100) / 8) w s else s

def cycWrite64 (o : Nat) (level : Level) (v : DWord) (s : State) : State :=
  match o with
  | 0x050 => { s with cyc := { s.cyc with evtEnNext := some v } }
  | 0x060 => faultClear level 0 v s
  | _ => s

/-- A Halt-class field of port `n` (R232): unchanged while its segment is not STOPPED. -/
def fptHalt (n : Nat) (f : Port → Port) (s : State) : State :=
  if (segOf s n).st ≠ .stopped then fptPost n 0x040F [] (fptInt n 8 s) else setPort n f s

/-- FPT_ (R231, R232): FPT_CMD, FPT_CLEAR and FPT_INT_STATUS from M mode only. -/
def fptWrite (n o : Nat) (level : Level) (w : Word) (s : State) : State :=
  match o with
  | 0x010 => fptCmd n level w s
  | 0x018 => fptHalt n (fun p => { p with cfg := w &&& 0xFFFF000C }) s
  | 0x028 => setPort n (fun p => { p with svcNext := some w }) s
  | 0x030 => fptHalt n (fun p => { p with cfgid := w }) s
  | 0x050 => setPort n (fun p => { p with txdis := bit w 0 }) s
  | 0x090 => fptClear n level w s
  | 0x0A0 => if level = .m then setPort n (fun p => { p with intStatus := w1c 9 p.intStatus w }) s else s
  | 0x0A4 =>
    let p := portOf s n
    newMask p.intStatus p.intMask (lowBits 9 w) (68 + n) (setPort n (fun p => { p with intMask := lowBits 9 w }) s)
  | _ => s

/-- A Halt-class field of the local I/O block (R462): unchanged while the program is STARTING or RUNNING. -/
def lioHalt (f : Lio → Lio) (s : State) : State :=
  if s.cyc.pstate = .starting ∨ s.cyc.pstate = .running then lioFlag 7 (post 0x0B08 0x48 [] s) else { s with lio := f s.lio }

def lioWrite (o : Nat) (level : Level) (w : Word) (s : State) : State :=
  match o with
  | 0x010 => lioHalt (fun l => { l with cfg := lowBits 2 w }) s
  | 0x014 => { s with lio := { s.lio with policyNext := some (w &&& 0x0000F333) } }
  | 0x038 => lioRearm level w s
  | 0x060 => { s with lio := { s.lio with flags := w1c 8 s.lio.flags w } }
  | _ => s

def lioWrite64 (o : Nat) (v : DWord) (s : State) : State :=
  match o with
  | 0x018 => lioHalt (fun l => { l with cycle := v &&& 0xFFFFFFFF0000FF07 }) s
  | 0x020 => lioHalt (fun l => { l with map := v }) s
  | _ => s

/-- Word `i` of a register of 1,024 bits, written whole. -/
def putWord (r : BitVec 1024) (i : Nat) (w : Word) : BitVec 1024 := setFld r (32 * i) 32 w.toNat

/-- DIC_ROUTEs; a source whose value is the reset value is not listed. -/
def setRoute (d : Dic) (src : Nat) (w : Word) : Dic :=
  let rest := d.routes.filter (fun r => r.1 != src)
  { d with routes := if w = 0 then rest else (src, w) :: rest }

/-- A write of the DIC's own tables; what has become deliverable raises its line (R424, R425, R432). -/
def dicTable (o : Nat) (w : Word) (d : Dic) : Dic :=
  if 0x100 ≤ o ∧ o < 0x180 then { d with pend := putWord d.pend ((o - 0x100) / 4) w }
  else if 0x200 ≤ o ∧ o < 0x280 then { d with mask := putWord d.mask ((o - 0x200) / 4) w }
  else if 0x300 ≤ o ∧ o < 0x390 ∧ o % 16 = 0 then { d with thresh := putAt d.thresh ((o - 0x300) / 16) (fld w 0 4) }
  else if 0x1000 ≤ o ∧ o < 0x2000 then setRoute d ((o - 0x1000) / 4) (w &&& 0x00000F0F)
  else d

def dicWrite (o : Nat) (w : Word) (s : State) : State :=
  if o = 0x010 then doorbell (fld w 0 10) s else { s with dic := leaveIdle (dicTable o w s.dic) }

/-- A Halt-class field of the injector (R543): unchanged during a run. -/
def fijHalt (f : Mnt → Mnt) (s : State) : State :=
  if s.mnt.running then post 0x0E12 0x4C [] { s with mnt := { s.mnt with haltWr := true } } else { s with mnt := f s.mnt }

def fijRuleWrite (o : Nat) (w : Word) (r : FijRule) : FijRule :=
  match o with
  | 0x00 => { r with cfg := w &&& 0x8F00FF00 }
  | 0x04 => { r with match_ := lowBits 16 w }
  | 0x08 => { r with sel := w }
  | 0x0C => { r with arg := w }
  | _ => r

def fijWrite (o : Nat) (level : Level) (w : Word) (s : State) : State :=
  match o with
  | 0x010 => fijComm level w s
  | 0x018 => fijCmd level w s
  | 0x020 => fijHalt (fun m => { m with duration := lowBits 16 w }) s
  | 0x024 => fijHalt (fun m => { m with seed := w }) s
  | 0x030 => fijClear level w s
  | _ =>
    if 0x100 ≤ o ∧ o < 0x280 ∧ o % 0x20 < 0x10 then
      fijHalt (fun m => { m with rules := modAt m.rules ((o - 0x100) / 0x20) (fijRuleWrite (o % 0x20) w) }) s
    else s

-- Bank ------------------------------------------------------------------------------------------------------------------------

/-- JRN_CFG (R378, R393): HOST is taken only while PAUSED is 1. -/
def jrnCfg (w : Word) (s : State) : State :=
  let s := if s.jrn.paused then { s with jrn := { s.jrn with host := bit w 1 } } else s
  if bit w 0 = s.jrn.paused then s else seasonPauseTo (bit w 0) s

def jrnWrite (o : Nat) (w : Word) (s : State) : State :=
  match o with
  | 0x010 => jrnCfg w s
  | 0x018 => after (execJrnCmdStartPass w s) s
  | 0x060 => { s with jrn := { s.jrn with intStatus := w1c 4 s.jrn.intStatus w } }
  | 0x064 => newMask s.jrn.intStatus s.jrn.intMask (lowBits 4 w) 75 { s with jrn := { s.jrn with intMask := lowBits 4 w } }
  | _ => s

/-- EVR_CFG (R388, R394): HOSTRL is taken only while RLEN is 0. -/
def evrCfg (w : Word) (s : State) : State :=
  { s with evr := { s.evr with rlen := bit w 0, hostrl := if s.evr.rlen then s.evr.hostrl else bit w 1 } }

/-- A data word of a posting window (R386, R394). -/
def windowData (win k : Nat) (level : Level) (w : Word) (s : State) : State :=
  if win = 0 ∧ level ≠ .m then s
  else { s with evr := { s.evr with windows := modAt s.evr.windows win (fun x => { x with data := putAt x.data k w }) } }

def evrWindow (o : Nat) (level : Level) (w : Word) (s : State) : State :=
  let win := (o - 0x100) / 0x20
  if o % 0x20 < 0x10 then windowData win (o % 0x20 / 4) level w s
  else if o % 0x20 = 0x10 then after (execEventPosting win level w s) s
  else s

def evrWrite (o : Nat) (level : Level) (w : Word) (s : State) : State :=
  match o with
  | 0x010 => evrCfg w s
  | 0x060 => { s with evr := { s.evr with intStatus := w1c 3 s.evr.intStatus w } }
  | 0x064 => newMask s.evr.intStatus s.evr.intMask (lowBits 3 w) 78 { s with evr := { s.evr with intMask := lowBits 3 w } }
  | _ =>
    if 0x100 ≤ o ∧ o < 0x160 then evrWindow o level w s
    else if 0x4000 ≤ o ∧ o < 0x8000 then setBucket ((o - 0x4000) / 4) w s
    else s

-- Cord ------------------------------------------------------------------------------------------------------------------------

/-- CRD_KS_CMD (R519): its key and the operation on the selected slot. -/
def ksCmd (w : Word) (s : State) : State :=
  if fld w 16 16 ≠ 0x6B53 then s
  else match fld w 0 8 with
    | 1 => after (execKsCmdGenerate s) s
    | 2 => after (execKsCmdSign s) s
    | 3 => after (execKsCmdUnwrap s) s
    | 4 => after (execKsCmdEnrol s) s
    | 5 => after (execKsCmdRevoke s) s
    | 6 => after (execKsCmdVerify s) s
    | 7 => after (execKsCmdZeroise s) s
    | 8 => after (execKsCmdArbAdvance s) s
    | 9 => after (execKsCmdDebugPermit s) s
    | _ => s

def ksWrite (o : Nat) (w : Word) (s : State) : State :=
  match o with
  | 0x108 => ksCmd w s
  | 0x110 => { s with ks := { s.ks with sel := w &&& 0x000073FF } }
  | _ => if 0x140 ≤ o ∧ o < 0x1C0 then { s with ks := { s.ks with data := putAt s.ks.data ((o - 0x140) / 4) w } } else s

def crdWrite (o : Nat) (w : Word) (s : State) : State :=
  match o with
  | 0x018 => after (execCrdMode w s) s
  | 0x024 => mbxRsp w s
  | 0x030 => { s with cord := { s.cord with led := lowBits 4 w } }
  | 0x038 => after (execCrdWdog w s) s
  | 0x050 => after (execCrdNotify w s) s
  | 0x060 => { s with cord := { s.cord with intStatus := w1c 5 s.cord.intStatus w } }
  | 0x064 => { s with cord := { s.cord with intMask := lowBits 5 w } }
  | _ => if 0x100 ≤ o then ksWrite o w s else s

def audRegWrite (o : Nat) (w : Word) (s : State) : State :=
  match o with
  | 0x028 => after (execAudErase w s) s
  | 0x080 => after (execAudAppend w true s) s
  | 0x0A0 => { s with aud := { s.aud with intStatus := w1c 3 s.aud.intStatus w } }
  | 0x0A4 => { s with aud := { s.aud with intMask := lowBits 3 w } }
  | _ => if 0x040 ≤ o ∧ o < 0x080 then { s with aud := { s.aud with stage := putAt s.aud.stage ((o - 0x040) / 4) w } } else s

/-- SCL_CTRL (R308): RUN is ignored until the microcode store is locked. -/
def sclCtrl (w : Word) (s : State) : State :=
  { s with scl := { s.scl with
      swq := bit w 2, ingress := bit w 1, run := if s.cord.uclock then bit w 0 else s.scl.run } }

/-- SCL_CHCMD (R308): its key and the selected channel's command. -/
def sclChCmd (w : Word) (s : State) : State :=
  if fld w 16 16 ≠ 0x5C1E then s
  else match fld w 0 8 with
    | 1 => sclStart s
    | 2 => sclStop s
    | 3 => sclAdopt s
    | 4 => sclRetire s
    | _ => s

def chRuns (s : State) (p : Nat) : Bool := (scCh s p).st == .running

/-- A Halt-class SCL_ write while its owning channel runs (R309). -/
def sclHaltWr (s : State) : State := cordPost 0x0518 [] (sclInt 5 s)

/-- SCL_MAPn: its owners are the channel that it maps to and the one that it is to map to. -/
def sclMap (n : Nat) (w : Word) (s : State) : State :=
  let old := s.scl.map.getD n 0
  if (bit old 31 && chRuns s (fld old 0 8)) || (bit w 31 && chRuns s (fld w 0 8)) then sclHaltWr s
  else { s with scl := { s.scl with map := putAt s.scl.map n (w &&& 0x800000FF) } }

/-- SCL_PARAM of the selected channel (R308): an object's value is cut to its size; an offset without an object is reserved. -/
def sclParam (j sub : Nat) (v : DWord) (s : State) : State :=
  match metaLegal j sub with
  | none => s
  | some m =>
    let p := selPhys s
    let c := scCh s p
    let x : DWord := BitVec.ofNat 64 (v.toNat % 2 ^ (8 * (m.ty.size).getD 8))
    let rest := c.params.filter (fun q => !(q.j == j && q.sub == sub))
    if chRuns s p then sclHaltWr s
    else putCh p { c with params := if x = 0 then rest else { j := j, sub := sub, val := x } :: rest } s

def sclWrite (o : Nat) (w : Word) (s : State) : State :=
  match o with
  | 0x010 => sclCtrl w s
  | 0x018 => { s with scl := { s.scl with chsel := fld w 0 8 } }
  | 0x01C => sclChCmd w s
  | 0x020 => { s with scl := { s.scl with adoptZero := w } }
  | 0x024 => { s with scl := { s.scl with adoptTare := w } }
  | 0x030 => { s with scl := { s.scl with adoptSeq := w } }
  | 0x034 => { s with scl := { s.scl with adoptIdx := w } }
  | 0x060 => { s with scl := { s.scl with intStatus := w1c 6 s.scl.intStatus w } }
  | 0x064 => { s with scl := { s.scl with intMask := lowBits 6 w } }
  | _ => if 0x400 ≤ o ∧ o < 0x600 then sclMap ((o - 0x400) / 4) w s else s

def sclWrite64 (o : Nat) (v : DWord) (s : State) : State :=
  if o = 0x028 then { s with scl := { s.scl with adoptAux := v } }
  else if 0x1000 ≤ o ∧ o < 0x1900 then sclParam ((o - 0x1000) / 0x80) (o % 0x80 / 8 + 1) v s
  else s

-- Gate ------------------------------------------------------------------------------------------------------------------------

def gateWrite (o : Nat) (level : Level) (w : Word) (s : State) : State :=
  let g := s.gate
  match o with
  | 0x010 => { s with gate := { g with mopenStaged := if bit w 0 then g.mopenStaged || !g.mopenShut else false } }
  | 0x018 => gateCommit level w s
  | 0x048 => gatePop level w s
  | 0x060 => { s with gate := { g with intStatus := w1c 5 g.intStatus w } }
  | 0x064 => newMask g.intStatus g.intMask (lowBits 5 w) 77 { s with gate := { g with intMask := lowBits 5 w } }
  | 0x100 => trkCtrl w s
  | 0x108 => { s with gate := { g with trkIndex := fld w 0 15 } }
  | _ =>
    if 0x1000 ≤ o ∧ o < 0x1C00 ∧ (o - 0x1000) % 0x200 < 0x100 ∧ o % 0x10 = 8 then
      let i := (o - 0x1000) / 0x200 * 16 + (o - 0x1000) % 0x200 / 0x10
      { s with gate := { g with staged := modAt g.staged i (fun r => { r with perm := w &&& 0x80F00FFF }) } }
    else s

def gateWrite64 (o : Nat) (v : DWord) (s : State) : State :=
  let g := s.gate
  if 0x140 ≤ o ∧ o < 0x180 then
    if g.trkEn then post 0x0906 0x07 [] (gateInt 4 s)
    else { s with gate := { g with windows := putAt g.windows ((o - 0x140) / 8) (v &&& 0x8007FFFFFFFFFFFF) } }
  else if 0x1000 ≤ o ∧ o < 0x1C00 ∧ (o - 0x1000) % 0x200 < 0x100 ∧ o % 0x10 = 0 then
    let i := (o - 0x1000) / 0x200 * 16 + (o - 0x1000) % 0x200 / 0x10
    { s with gate := { g with staged := modAt g.staged i (fun r => { r with addr := v &&& 0x0000000FFFFFF03F }) } }
  else s

-- all -------------------------------------------------------------------------------------------------------------------------------

/-- A 32-bit register takes a value. -/
def regWrite (b : Blk) (o core : Nat) (level : Level) (w : Word) (s : State) : State :=
  match b with
  | .hck => hckWrite o w s
  | .hpw => hpwWrite o w s
  | .rtc => rtcWrite o w s
  | .emb => embWrite o level w s
  | .tim => s
  | .sup => supWrite o core level w s
  | .kdv => if o = 0x010 then kdvTarget level w s else s
  | .kcl => s
  | .cyc => cycWrite o core level w s
  | .fpt n => fptWrite n o level w s
  | .flu => fluWrite o w s
  | .lio => lioWrite o level w s
  | .dic => dicWrite o w s
  | .pair => pairWrite o level w s
  | .fij => fijWrite o level w s
  | .jrn => jrnWrite o w s
  | .evr => evrWrite o level w s
  | .scl => sclWrite o w s
  | .crd => crdWrite o w s
  | .aud => audRegWrite o w s
  | .gate => gateWrite o level w s

/-- A 64-bit register takes a value, from a 64-bit write or from its two halves (R10). -/
def regWrite64 (b : Blk) (o : Nat) (level : Level) (v : DWord) (s : State) : State :=
  match b with
  | .tim => if o = 0x010 then timIncr level v s else if o = 0x018 then timSet level v s else s
  | .rtc => if o = 0x018 then rtcSet v s else if o = 0x020 then { s with tim := { s.tim with alarm := v } } else s
  | .emb => embWrite64 o level v s
  | .cyc => cycWrite64 o level v s
  | .fpt n => if o = 0x020 then fptHalt n (fun p => { p with marks := v }) s else s
  | .lio => lioWrite64 o v s
  | .scl => sclWrite64 o v s
  | .aud => if o = 0x020 then audInit v s else s
  | .gate => gateWrite64 o v s
  | _ => s

/-- A 64-bit register's halves at offsets `o` and `o + 4`: the register that holds offset `o`. -/
def wideAt (b : Blk) (o : Nat) : Bool := regWide b (o / 8 * 8)

/-- The master's write latch, and the latches without it. -/
def latchOf (b : Bus) (m : Master) : Option Latch := b.latches.find? (fun l => l.master == m)
def dropLatch (m : Master) (s : State) : State := { s with bus := { s.bus with latches := s.bus.latches.filter (fun l => l.master != m) } }

/-- A 32-bit write to offset `o` of a block at `base` (R10): the low half of a 64-bit register is held, the high half completes it, any
other write discards what the master holds. -/
def write32 (m : Master) (level : Level) (b : Blk) (base o : Nat) (w : Word) (s : State) : State :=
  let held := latchOf s.bus m
  let s := dropLatch m s
  if !wideAt b o then regWrite b o (coreOf m) level w s
  else if o % 8 = 0 then { s with bus := { s.bus with latches := { master := m, addr := base + o, half := w } :: s.bus.latches } }
  else match held with
    | some l => if l.addr + 4 = base + o then regWrite64 b (o - 4) level (w ++ l.half) s else s
    | none => s

/-- A register access of 4 or 8 bytes that is aligned (R9). A 64-bit access to two 32-bit registers writes both. -/
def writeReg (m : Master) (level : Level) (b : Blk) (base o len v : Nat) (s : State) : State :=
  if len = 4 then write32 m level b base o (BitVec.ofNat 32 v) s
  else if regWide b o then regWrite64 b o level (BitVec.ofNat 64 v) (dropLatch m s)
  else write32 m level b base (o + 4) (BitVec.ofNat 32 (v / 2 ^ 32)) (write32 m level b base o (BitVec.ofNat 32 v) s)

end Sys2Proof.Machine
end

