-- ==== Sys2Proof/Machine/Bus.lean ====
section
/-!
DEFINITION. Bus requests (00 R9, R10, 01 R16 to R24, R36, R37, 07 R233, R240, R241, 10 R355, 12 R396 to R403, 17 R525): the checks, the
target, what a read returns and a write does, and the ends of a request. A request is served within its command; one that was answered
RETRY waits in State (log 49).
-/

namespace Sys2Proof.Machine

-- masters -----------------------------------------------------------------------------------------------------------------

/-- The level at which a request is checked (R398): a core's mode, M for the debug port (R512), else Agent. -/
def levelAt (m : Master) (level : Level) : Level :=
  match m with
  | .core _ => level
  | .debug => .m
  | _ => .agent

/-- The master's region runs; the debug port is open (R512). -/
def masterLive (s : State) (m : Master) : Bool :=
  match m with
  | .core _ => !s.sup.kilnHeld
  | .rick | .cycle | .port _ => rickFull s
  | .flue _ => rickLive s
  | .cordCpu | .scale => cordLive s
  | .journal | .recorder => bankLive s
  | .service => hearthOn s
  | .debug => s.upd.debugOpen && hearthOn s

/-- Requests of one kind that a master may have outstanding (R24). -/
def masterLimit : Master → Nat
  | .core _ => 16
  | .rick => 4
  | .cycle => 8
  | .port _ => 8
  | .flue _ => 16
  | .cordCpu => 4
  | .scale => 8
  | .journal => 8
  | .recorder => 2
  | .service => 4
  | .debug => 1

/-- Region of a master, by number (R12). -/
def masterRegion : Master → Nat
  | .core _ => 1
  | .rick | .cycle | .port _ | .flue _ => 2
  | .journal | .recorder => 3
  | .cordCpu | .scale => 4
  | .service | .debug => 0

-- targets ------------------------------------------------------------------------------------------------------------------

/-- The block that serves an address (R12, R35); none for the module's boot ROM. -/
def targetBlock (a : Nat) : Option Byte :=
  match blkAt a with
  | some (.crd, o) => some (if 0x100 ≤ o then 0x83 else 0x80)
  | some (b, _) => some (blkId b)
  | none =>
    if 0x01000000 ≤ a ∧ a < 0x01200000 then some 0x41
    else if 0x02000000 ≤ a ∧ a < 0x03010000 then some 0x80
    else if 0x20000000 ≤ a ∧ a < 0x28000000 then some 0x62
    else if 0x3C400000 ≤ a ∧ a < 0x3CC00000 then some 0x82
    else if 0x30000000 ≤ a ∧ a < 0x40000000 then some 0x61
    else if 0x800000000 ≤ a then some 0x60
    else none

/-- Blocks whose clocks stop in BANKED and WAKING (R433), beside Cord. -/
def clockGated (b : Byte) : Bool := b == 0x40 || b == 0x41 || (decide (0x42 ≤ b.toNat ∧ b.toNat ≤ 0x45)) || b == 0x4A || b == 0x4C

/-- The block answers: not isolated (R22), its region out of reset and clocked (log 50). -/
def targetLive (s : State) (a : Nat) : Bool :=
  match targetBlock a with
  | none => hearthOn s
  | some b =>
    !isolated s b && hearthOn s && match blockRegion b with
      | 1 => !s.sup.kilnHeld
      | 2 => if clockGated b then rickFull s else rickLive s
      | 3 => bankLive s
      | 4 => cordLive s
      | _ => true

/-- Region of a target. -/
def targetRegion (a : Nat) : Nat := ((targetBlock a).map blockRegion).getD 0

/-- Credits of a source region toward a target region (R21). -/
def creditsFor (src dst : Nat) : Nat := if src = 1 ∧ dst = 3 then 32 else 16

def isWrite : BusOp → Bool
  | .write => true
  | _ => false

/-- The request may not be issued yet: the master's limit, or the boundary's credits, are used up (R21, R24). -/
def mustWait (s : State) (r : BusReq) : Bool :=
  let own := s.bus.retries.filter (fun x => x.req.master == r.master && isWrite x.req.op == isWrite r.op)
  let src := masterRegion r.master
  let dst := targetRegion r.addr
  let across := s.bus.retries.filter (fun x => masterRegion x.req.master == src && targetRegion x.req.addr == dst)
  decide (masterLimit r.master ≤ own.length) || (src != dst && decide (creditsFor src dst ≤ across.length))

-- memory as it reads -----------------------------------------------------------------------------------------------------------

/-- Status part of a descriptor, bytes 64 to 95 (R147); a disabled task with no instance in flight shows STATE 0. -/
def descStatus (s : State) (t : Nat) : List Byte :=
  let k := taskOf s t
  let st := if !enabled s t && !k.inFlight && k.st != 5 then 0 else k.st
  le8 k.inst.toNat ++ u8 st ++ u8 k.outcome ++ u8 (b2n k.first) ++ u8 0 ++ le4 k.lastExec.toNat ++ le4 k.maxExec.toNat ++
    le4 k.overruns.toNat ++ le4 k.skips.toNat ++ le4 k.commitAt.toNat

/-- Task and byte of an address inside a status part. -/
def statusAt (a : Nat) : Option (Nat × Nat) :=
  if descBase ≤ a ∧ a < trigBase ∧ 64 ≤ (a - descBase) % 512 ∧ (a - descBase) % 512 < 128 then
    some ((a - descBase) / 512, (a - descBase) % 512 - 64)
  else none

/-- The three words of the mailbox that the hardware keeps (R240). -/
def mailboxHead (s : State) : List Byte := le4 s.cord.reqDoor.toNat ++ le4 s.cord.rspDoor.toNat ++ le4 (b2n s.cord.busy)

/-- One byte of memory as a master reads it. -/
def memByte (s : State) (a : Nat) : Byte :=
  if a < 0x40000 then Config.romByte a
  else if mbxBase ≤ a ∧ a < mbxBase + 12 then (mailboxHead s).getD (a - mbxBase) 0
  else if 0x30000000 ≤ a ∧ a < 0x3C000000 then (segImage s.jrn ((a - 0x30000000) / 0x100000)).getD (a % 0x100000) 0
  else match statusAt a with
    | some (t, k) => (descStatus s t).getD k 0
    | none => readByte s.mem a

def memBytes (s : State) (a len : Nat) : List Byte := (List.range len).map (fun k => memByte s (a + k))

/-- A Kiln read of RSP_DOOR acknowledges the response (R422). -/
def doorRead (m : Master) (a len : Nat) (s : State) : State :=
  let kiln : Bool := match m with | .core _ => true | _ => false
  if kiln && decide (a < mbxBase + 8 ∧ mbxBase + 4 < a + len) then { s with cord := { s.cord with rspUnread := false } } else s

/-- A write to plain memory; a descriptor's status part is the engine's (R147). -/
def memPut (a : Nat) (bs : List Byte) (s : State) : State :=
  let m := (bs.zip (List.range bs.length)).foldl
    (fun m x => if (statusAt (a + x.2)).isSome then m else writeByte m (a + x.2) x.1) s.mem
  markRange a bs.length { s with mem := m }

/-- A mailbox write that has no effect is counted (R241). -/
def countMbx (c : Bool) (s : State) : State := if c then { s with cord := { s.cord with mbxErr := satInc s.cord.mbxErr } } else s

/-- A write from outside Cord to the mailbox (R240, R241): the door by its rule, bytes that are Cord's discarded and counted. -/
def mailboxWrite (m : Master) (level : Level) (a : Nat) (bs : List Byte) (s : State) : State :=
  let o := a - mbxBase
  let s := if o = 0 ∧ 4 ≤ bs.length then reqDoor m level (BitVec.ofNat 32 (leAt bs 0 4)) s
    else countMbx (decide (o < 4)) s
  let theirs (k : Nat) : Bool := decide (4 ≤ k ∧ k < 0x100) || decide (0x8000 ≤ k)
  let xs := bs.zip ((List.range bs.length).map (o + ·))
  let s := countMbx (xs.any (fun x => theirs x.2)) s
  { s with mem := xs.foldl (fun mm x => if x.2 < 4 || theirs x.2 then mm else writeByte mm (mbxBase + x.2) x.1) s.mem }

-- registers as they read ---------------------------------------------------------------------------------------------------------

/-- DIC_RELc (R423): the core whose register is at offset `o`. -/
def relAt (b : Blk) (o : Nat) : Option Nat :=
  if b = .dic ∧ 0x308 ≤ o ∧ o < 0x388 ∧ o % 16 = 8 then some ((o - 0x308) / 16) else none

/-- A 32-bit read (R10, R355): halves of 64-bit registers, captures, and the registers whose read acts. -/
def read32 (m : Master) (b : Blk) (base o : Nat) (s : State) : State × Word :=
  match relAt b o with
  | some c =>
    let (d, w) := relRead s.dic c
    ({ s with dic := d }, w)
  | none =>
    if !wideAt b o then (s, BitVec.ofNat 32 (regRead b o s))
    else if b = .gate ∧ o / 8 * 8 = 0x110 then (s, 0)
    else if o % 8 = 0 then
      let v := regRead b o s
      if regSnap b o then
        let rest := s.bus.snaps.filter (fun l => !(l.master == m && l.addr == base + o))
        ({ s with bus := { s.bus with snaps := { master := m, addr := base + o, half := BitVec.ofNat 32 (v / 2 ^ 32) } :: rest } }, BitVec.ofNat 32 v)
      else (s, BitVec.ofNat 32 v)
    else if regSnap b (o - 4) then
      match s.bus.snaps.find? (fun l => l.master == m && l.addr + 4 == base + o) with
      | some l => (s, l.half)
      | none => ({ s with freeCtr := s.freeCtr + 1 }, BitVec.ofNat 32 (Config.freeNat s.freeCtr))
    else (s, BitVec.ofNat 32 (regRead b (o - 4) s / 2 ^ 32))

/-- A register read of 4 or 8 bytes; the 64-bit read of GATE_TRK_HARVEST harvests (R414). -/
def readReg (m : Master) (b : Blk) (base o len : Nat) (s : State) : State × List Byte :=
  if len = 4 then
    let (s, w) := read32 m b base o s
    (s, le4 w.toNat)
  else if b = .gate ∧ o = 0x110 then
    let (g, w) := trkHarvest s.gate
    ({ s with gate := g }, le8 w.toNat)
  else if regWide b o then (s, le8 (regRead b o s))
  else
    let (s, lo) := read32 m b base o s
    let (s, hi) := read32 m b base (o + 4) s
    (s, le4 lo.toNat ++ le4 hi.toNat)

-- service at the target ---------------------------------------------------------------------------------------------------------------

/-- R9: the accesses that a register block takes. -/
def regAligned (a len : Nat) : Bool := (len == 4 || len == 8) && a % len == 0

/-- A register access. -/
def serveReg (r : BusReq) (level : Level) (b : Blk) (o : Nat) (s : State) : State × BusEnd :=
  let base := r.addr - o
  if !regAligned r.addr r.len then (s, .accessFault)
  else
    let wr (s : State) : State := writeReg r.master level b base o r.len (leNat (fit r.len r.data)) s
    match r.op with
    | .write => (wr s, .done [] false)
    | .atomic => let (t, v) := readReg r.master b base o r.len s; (wr t, .done v false)
    | _ => let (t, v) := readReg r.master b base o r.len s; (t, .done v false)

/-- One part of a memory access. -/
def servePart (r : BusReq) (level : Level) (s : State) (p : Nat × Nat) : State × List Byte :=
  let bs := fit p.2 (r.data.drop (p.1 - r.addr))
  let put (s : State) : State :=
    if mbxBase ≤ p.1 ∧ p.1 < mbxBase + 0x10000 then mailboxWrite r.master level p.1 bs s else memPut p.1 bs s
  match r.op with
  | .write => (put s, [])
  | .atomic => (put s, memBytes s p.1 p.2)
  | _ => (doorRead r.master p.1 p.2 s, memBytes s p.1 p.2)

def serveParts (r : BusReq) (level : Level) (ps : List (Nat × Nat)) (s : State) : State × List Byte :=
  ps.foldl (fun acc p => let (t, d) := servePart r level acc.1 p; (t, acc.2 ++ d)) (s, [])

/-- The request's data is poisoned (R16). -/
def poisoned : CellEvent → Bool
  | .uncorrectable _ _ _ => true
  | _ => false

/-- The target serves the request, or the parts of it that passed. -/
def serve (r : BusReq) (level : Level) (ps : List (Nat × Nat)) (s : State) : State × BusEnd :=
  if !targetLive s r.addr then (s, .blockError)
  else
    let s := reportCell r.cell s
    match blkAt r.addr with
    | some (b, o) => serveReg r level b o s
    | none =>
      let (s, d) := serveParts r level ps s
      (s, .done d (poisoned r.cell && !isWrite r.op))

-- how it ends at its master (R17, R403) --------------------------------------------------------------------------------------------------

/-- The task whose copy the cycle engine is making: one in its commit, else one that waits for its latch (log 51). -/
def engineTask (s : State) : Option Nat :=
  let ts := (List.range 80).filter (fun t => (taskOf s t).inFlight)
  match ts.find? (fun t => (taskOf s t).dig.isSome) with
  | some t => some t
  | none => ts.find? (fun t => (taskOf s t).latchDue.isSome)

/-- Refused or poisoned: the cycle engine's task commits nothing, a port drops its frame. -/
def masterEnd (m : Master) (e : BusEnd) (s : State) : State :=
  let bad : Bool := match e with | .gateFault => true | .done _ p => p | _ => false
  if !bad then s
  else match m with
    | .cycle => match engineTask s with
      | some t => setTask t (fun k => { k with poison := true }) s
      | none => s
    | .port n => if e = .gateFault then setCnt (n % 4) (fun c => { c with otherDisc := satInc c.otherDisc }) s else s
    | _ => s

/-- The response. -/
def answer (m : Master) (e : BusEnd) (s : State) : State := send (.bus { master := m, how := e }) (masterEnd m e s)

-- requests --------------------------------------------------------------------------------------------------------------------------------

/-- What a part's check gives. -/
def partCheck (s : State) (r : BusReq) (level : Level) (p : Nat × Nat) : Check := checkPart s.gate level (tagOf s.gate r.master) r.op p.1

/-- A refusal (R36, R37, R402, R406): the record names the first forbidden byte; parts that passed have completed. -/
def refuse (r : BusReq) (level : Level) (a : Nat) (split fixed parity : Bool) (gate : Nat) (s : State) : State :=
  let s := gateFault r.master level r.op a split fixed parity gate s
  answer r.master (if (mapAt a).isNone then .decodeError else .gateFault) s

/-- Every part has passed: the target serves it, or answers RETRY (R525). -/
def offer (r : BusReq) (level : Level) (s : State) : State :=
  if r.busy && targetLive s r.addr then
    answer r.master (.retry 16) { s with bus := { s.bus with retries := s.bus.retries ++ [{ req := { r with level := level }, retries := 1 }] } }
  else
    let (s, e) := serve r level (partsOf r.addr r.len) s
    answer r.master e s

/-- A checked request (R396, R402). -/
def checked (r : BusReq) (level : Level) (s : State) : State :=
  let ps := partsOf r.addr r.len
  match ps.findSome? (fun p => match partCheck s r level p with | .pass => none | .fault f pr g => some (p.1, f, pr, g)) with
  | none => offer r level s
  | some (a, f, pr, g) =>
    let ok := ps.filter (fun p => partCheck s r level p == .pass)
    let s := if ok.isEmpty then s else (serve r level ok s).1
    refuse r level a (!ok.isEmpty) f pr g s

-- the Cord processor (R233, R235, R397) ---------------------------------------------------------------------------------------------------------

/-- The fixed outbound checker's windows, for a read or fetch and for a write. -/
def cordWindow (s : State) (op : BusOp) (a : Nat) : Bool :=
  let wr := match op with | .write | .atomic => true | _ => false
  let inside (lo n : Nat) : Bool := decide (lo ≤ a ∧ a < lo + n)
  let fetch : Bool := op == .fetch
  (inside 0 0x8000 && !wr) || (inside 0x100000 0x40000 && (!wr || !s.cord.ilock)) || (inside 0x200000 0x20000 && !fetch) ||
    (inside 0x02000000 0x100000 && !fetch) ||
    (inside mbxBase 0x10000 && !fetch && (!wr || inside (mbxBase + 4) 0xFC || inside (mbxBase + 0x8000) 0x8000)) ||
    (inside 0x13100000 0x10000 && op == .write) || (inside 0x14000000 0x30000 && !fetch) || (inside 0x3C400000 0x800000 && !wr)

/-- Cord's own memories: its boot ROM, instruction SRAM (the loaded image) and data SRAM, which stands in `mem` from 2^40 on. -/
def cordByte (s : State) (a : Nat) : Byte :=
  if a < 0x8000 then Config.romByte (2 ^ 40 + a)
  else if a < 0x200000 then s.cord.firmware.getD (a - 0x100000) 0
  else if a < 0x220000 then readByte s.mem (2 ^ 40 + a)
  else memByte s a

def cordPut (a : Nat) (bs : List Byte) (s : State) : State :=
  if 0x100000 ≤ a ∧ a < 0x140000 then { s with cord := { s.cord with firmware := overlay s.cord.firmware (a - 0x100000) bs } }
  else if 0x200000 ≤ a ∧ a < 0x220000 then { s with mem := writeBytes s.mem (2 ^ 40 + a) bs }
  else if a = mbxBase + 4 ∧ 4 ≤ bs.length then mbxRsp (BitVec.ofNat 32 (leAt bs 0 4)) s
  else if mbxBase ≤ a ∧ a < mbxBase + 0x100 then s
  else { s with mem := writeBytes s.mem a bs }

/-- A request of the Cord processor: no Gate checks it (R397). -/
def cordRequest (r : BusReq) (s : State) : State :=
  let last := r.addr + (r.len - 1)
  if !(cordWindow s r.op r.addr && cordWindow s r.op last) then answer r.master .decodeError s
  else
    let s := reportCell r.cell s
    match blkAt r.addr with
    | some (b, o) => let (s, e) := serveReg r .agent b o s; answer r.master e s
    | none =>
      let old := (List.range r.len).map (fun k => cordByte s (r.addr + k))
      let bad := poisoned r.cell && !isWrite r.op
      match r.op with
      | .write => answer r.master (.done [] false) (cordPut r.addr (fit r.len r.data) s)
      | .atomic => answer r.master (.done old bad) (cordPut r.addr (fit r.len r.data) s)
      | _ => answer r.master (.done old bad) s

/-- Accesses that stay inside Cord (R397): the scale engine's own. -/
def insideCord (r : BusReq) : Bool :=
  r.master == .scale && decide (targetRegion r.addr = 4) && (targetBlock r.addr).isSome

/-- Internal ports of the MRAM interface (R397): the journal engine and the event recorder write without a check. -/
def mramPort (r : BusReq) : Bool :=
  (r.master == .journal || r.master == .recorder) && isWrite r.op && decide (0x30000000 ≤ r.addr ∧ r.addr + r.len ≤ 0x40000000)

/-- A rule whose parity fails is found as the checker reads it (R416); other cells report as they serve. -/
def parityFirst (r : BusReq) (s : State) : State × BusReq :=
  match r.cell with
  | .ruleParity _ _ => (reportCell r.cell s, { r with cell := .none })
  | _ => (s, r)

/-- BUS_REQUEST. A request of no bytes is none. -/
def busRequest (r : BusReq) (s : State) : State :=
  if !masterLive s r.master || r.len == 0 then s
  else if mustWait s r then answer r.master .waits s
  else if r.master = .cordCpu then cordRequest r s
  else
    let level := levelAt r.master r.level
    if insideCord r || mramPort r then offer r level s
    else
      let (s, r) := parityFirst r s
      checked r level s

-- RETRY (R525) -------------------------------------------------------------------------------------------------------------------------------------

/-- Hold-off after the n-th RETRY: 16 FABRIC cycles, doubled to at most 512. -/
def holdOff (n : Nat) : Nat := min 512 (16 * 2 ^ (n - 1))

/-- The master's oldest waiting request leaves the list; one accepted under an earlier epoch no longer counts (R408). -/
def takeRetry (m : Master) (s : State) : Option (Retry × State) :=
  match s.bus.retries.find? (fun x => x.req.master == m) with
  | none => none
  | some x => some (x, { s with
      bus := { s.bus with retries := s.bus.retries.erase x }
      gate := { s.gate with oldPending := s.gate.oldPending - 1 } })

/-- Another RETRY: the ninth is a protocol violation of the target (block fault 0x06). -/
def retryAgain (x : Retry) (s : State) : State :=
  if x.retries < 8 then
    let n := x.retries + 1
    answer x.req.master (.retry (holdOff n)) { s with bus := { s.bus with
      retries := modAt s.bus.retries (s.bus.retries.idxOf x) (fun y => { y with retries := n }) } }
  else
    let s := { s with bus := { s.bus with retries := s.bus.retries.erase x } }
    answer x.req.master .blockError (blockFails 0x06 ((targetBlock x.req.addr).getD 0x05) 0 s)

/-- RETRY_REISSUE. -/
def retryReissue (m : Master) (busy : Bool) (s : State) : State :=
  match takeRetry m s with
  | none => s
  | some (x, t) =>
    if !masterLive s m then t
    else if busy && targetLive s x.req.addr then retryAgain x s
    else
      let (t, e) := serve x.req x.req.level (partsOf x.req.addr x.req.len) t
      answer m e t

-- REGISTER_WRITE -------------------------------------------------------------------------------------------------------------------------------------

/-- REGISTER_WRITE (R9): a write request of 4 or 8 bytes to a register. -/
def registerWrite (m : Master) (level : Level) (a : Nat) (wide : Bool) (v : DWord) (s : State) : State :=
  let len := if wide then 8 else 4
  busRequest { master := m, level := level, op := .write, addr := a, len := len, data := leBytes len v.toNat, cell := .none, busy := false } s

def execBusRequest (r : BusReq) (s : State) : Host.Outcome State Fault Refusal := finish (busRequest r s)
def execRetryReissue (master : Master) (busy : Bool) (s : State) : Host.Outcome State Fault Refusal := finish (retryReissue master busy s)
def execRegisterWrite (master : Master) (level : Level) (addr : Nat) (wide : Bool) (value : DWord) (s : State) : Host.Outcome State Fault Refusal :=
  finish (registerWrite master level addr wide value s)

end Sys2Proof.Machine
end

