-- ==== Sys2Proof/Machine/Dispatch.lean ====
section
/-! DEFINITION. The meaning of every command: one arm per constructor of `Instr`, in the table's order. -/

namespace Sys2Proof.Machine

/-- The effect of a command on everything but the queue. -/
def exec (i : Instr) (s : State) : Host.Outcome State Fault Refusal :=
  match i with
  | .busRequest r => Sys2Proof.Machine.execBusRequest r s
  | .supFailSilent core level word => Sys2Proof.Machine.execSupFailSilent core level word s
  | .dramPatrolScrub errors => Sys2Proof.Machine.execDramPatrolScrub errors s
  | .blockResponseTimeout block cell master => Sys2Proof.Machine.execBlockResponseTimeout block cell master s
  | .retryReissue master busy => Sys2Proof.Machine.execRetryReissue master busy s
  | .rickResetReload tid => Sys2Proof.Machine.execRickResetReload tid s
  | .damperToggleRecognised slot => Sys2Proof.Machine.execDamperToggleRecognised slot s
  | .lossOfToggle slot => Sys2Proof.Machine.execLossOfToggle slot s
  | .damperRoleMismatch slot => Sys2Proof.Machine.execDamperRoleMismatch slot s
  | .claimRecordWriteDone ok => Sys2Proof.Machine.execClaimRecordWriteDone ok s
  | .startWindowClose seg => Sys2Proof.Machine.execStartWindowClose seg s
  | .partnerDead slot => Sys2Proof.Machine.execPartnerDead slot s
  | .switchover via => Sys2Proof.Machine.execSwitchover via s
  | .makeOffline via => Sys2Proof.Machine.execMakeOffline via s
  | .promoteReserve via => Sys2Proof.Machine.execPromoteReserve via s
  | .dmpArm level word => Sys2Proof.Machine.execDmpArm level word s
  | .keyswitchChange pos => Sys2Proof.Machine.execKeyswitchChange pos s
  | .statusFrame lane h p => Sys2Proof.Machine.execStatusFrame lane h p s
  | .imageFrame lane h p => Sys2Proof.Machine.execImageFrame lane h p s
  | .digestFrame lane h p => Sys2Proof.Machine.execDigestFrame lane h p s
  | .relayOutFrame lane h es => Sys2Proof.Machine.execRelayOutFrame lane h es s
  | .relayOutTransmit port late => Sys2Proof.Machine.execRelayOutTransmit port late s
  | .relayInFrame lane h es => Sys2Proof.Machine.execRelayInFrame lane h es s
  | .claimFrame lane h p => Sys2Proof.Machine.execClaimFrame lane h p s
  | .joinFrame lane h p => Sys2Proof.Machine.execJoinFrame lane h p s
  | .promoteToStandby lane h p => Sys2Proof.Machine.execPromoteToStandby lane h p s
  | .returnToReserve lane h p => Sys2Proof.Machine.execReturnToReserve lane h p s
  | .switchFrame lane h p => Sys2Proof.Machine.execSwitchFrame lane h p s
  | .switchAckFrame lane h p => Sys2Proof.Machine.execSwitchAckFrame lane h p s
  | .nakFrame lane h p => Sys2Proof.Machine.execNakFrame lane h p s
  | .resyncDataFrame lane h p => Sys2Proof.Machine.execResyncDataFrame lane h p s
  | .resyncCtrlFrame lane h p => Sys2Proof.Machine.execResyncCtrlFrame lane h p s
  | .flueFrameDiscard lane why src => Sys2Proof.Machine.execFlueFrameDiscard lane why src s
  | .slotCForward lane f => Sys2Proof.Machine.execSlotCForward lane f s
  | .imageLagTimeout task => Sys2Proof.Machine.execImageLagTimeout task s
  | .instanceLagTimeout task => Sys2Proof.Machine.execInstanceLagTimeout task s
  | .digestMissed task => Sys2Proof.Machine.execDigestMissed task s
  | .selfTestDone passed => Sys2Proof.Machine.execSelfTestDone passed s
  | .laneBlockLock lane locked => Sys2Proof.Machine.execLaneBlockLock lane locked s
  | .laneDown lane => Sys2Proof.Machine.execLaneDown lane s
  | .fluClearLanes level => Sys2Proof.Machine.execFluClearLanes level s
  | .fluClearPeaks level => Sys2Proof.Machine.execFluClearPeaks level s
  | .inputLatch task => Sys2Proof.Machine.execInputLatch task s
  | .cycDone core level word deltas => Sys2Proof.Machine.execCycDone core level word deltas s
  | .taskTrap core level task => Sys2Proof.Machine.execTaskTrap core level task s
  | .trapStopComplete task => Sys2Proof.Machine.execTrapStopComplete task s
  | .commitComplete task => Sys2Proof.Machine.execCommitComplete task s
  | .emitoffEmission seg => Sys2Proof.Machine.execEmitoffEmission seg s
  | .deadlineMiss task => Sys2Proof.Machine.execDeadlineMiss task s
  | .skipLimit task => Sys2Proof.Machine.execSkipLimit task s
  | .resume task rq => Sys2Proof.Machine.execResume task rq s
  | .cycFaultClear level tasks events => Sys2Proof.Machine.execCycFaultClear level tasks events s
  | .taskEnable task rq => Sys2Proof.Machine.execTaskEnable task rq s
  | .cycWdog core level word => Sys2Proof.Machine.execCycWdog core level word s
  | .warmRestart via => Sys2Proof.Machine.execWarmRestart via s
  | .coldRestart via => Sys2Proof.Machine.execColdRestart via s
  | .programStop via => Sys2Proof.Machine.execProgramStop via s
  | .programLoad image => Sys2Proof.Machine.execProgramLoad image s
  | .kindleData m rq => Sys2Proof.Machine.execKindleData m rq s
  | .changeStart rq => Sys2Proof.Machine.execChangeStart rq s
  | .changeAbandon rq => Sys2Proof.Machine.execChangeAbandon rq s
  | .kindleDataFrame lane h p => Sys2Proof.Machine.execKindleDataFrame lane h p s
  | .kindleLoaded lane h p => Sys2Proof.Machine.execKindleLoaded lane h p s
  | .kindleStart lane h p => Sys2Proof.Machine.execKindleStart lane h p s
  | .kindleGo lane h p => Sys2Proof.Machine.execKindleGo lane h p s
  | .kindleGoAck lane h p => Sys2Proof.Machine.execKindleGoAck lane h p s
  | .kindleNogo lane h p => Sys2Proof.Machine.execKindleNogo lane h p s
  | .kindleDone lane h p => Sys2Proof.Machine.execKindleDone lane h p s
  | .kindleAbandon lane h p => Sys2Proof.Machine.execKindleAbandon lane h p s
  | .forceSet rq => Sys2Proof.Machine.execForceSet rq s
  | .forceClear rq => Sys2Proof.Machine.execForceClear rq s
  | .forceClearAll rq => Sys2Proof.Machine.execForceClearAll rq s
  | .portUp port => Sys2Proof.Machine.execPortUp port s
  | .portDown port => Sys2Proof.Machine.execPortDown port s
  | .sfpPoll port r => Sys2Proof.Machine.execSfpPoll port r s
  | .folmonetFrameDiscard port why station => Sys2Proof.Machine.execFolmonetFrameDiscard port why station s
  | .stationInput port h p => Sys2Proof.Machine.execStationInput port h p s
  | .probeResp port r => Sys2Proof.Machine.execProbeResp port r s
  | .continuityLost seg => Sys2Proof.Machine.execContinuityLost seg s
  | .continuityRestored seg => Sys2Proof.Machine.execContinuityRestored seg s
  | .stationAbsent station => Sys2Proof.Machine.execStationAbsent station s
  | .configuringTimeout station => Sys2Proof.Machine.execConfiguringTimeout station s
  | .stationProbeTimer station => Sys2Proof.Machine.execStationProbeTimer station s
  | .segmentStart seg via => Sys2Proof.Machine.execSegmentStart seg via s
  | .segmentStop seg via => Sys2Proof.Machine.execSegmentStop seg via s
  | .segmentReprobe seg via => Sys2Proof.Machine.execSegmentReprobe seg via s
  | .probingEnd seg => Sys2Proof.Machine.execProbingEnd seg s
  | .gateReset station rq => Sys2Proof.Machine.execGateReset station rq s
  | .timeFrameSend port => Sys2Proof.Machine.execTimeFrameSend port s
  | .fptClear port level word => Sys2Proof.Machine.execFptClear port level word s
  | .reqDoor master level seq => Sys2Proof.Machine.execReqDoor master level seq s
  | .crdMbxRsp seq => Sys2Proof.Machine.execCrdMbxRsp seq s
  | .loadBegin m => Sys2Proof.Machine.execLoadBegin m s
  | .loadData m => Sys2Proof.Machine.execLoadData m s
  | .loadEnd m => Sys2Proof.Machine.execLoadEnd m s
  | .ident m => Sys2Proof.Machine.execIdent m s
  | .objRead m => Sys2Proof.Machine.execObjRead m s
  | .objWrite m => Sys2Proof.Machine.execObjWrite m s
  | .vChallenge m => Sys2Proof.Machine.execVChallenge m s
  | .vProve m => Sys2Proof.Machine.execVProve m s
  | .vClose m => Sys2Proof.Machine.execVClose m s
  | .channelTest m => Sys2Proof.Machine.execChannelTest m s
  | .channelService m => Sys2Proof.Machine.execChannelService m s
  | .auditRead m => Sys2Proof.Machine.execAuditRead m s
  | .legalIdRecheck computed => Sys2Proof.Machine.execLegalIdRecheck computed s
  | .statusRepublish unit => Sys2Proof.Machine.execStatusRepublish unit s
  | .verificationSwitchChange set => Sys2Proof.Machine.execVerificationSwitchChange set s
  | .crdMode word => Sys2Proof.Machine.execCrdMode word s
  | .audAppend word mramOk => Sys2Proof.Machine.execAudAppend word mramOk s
  | .audInit word => Sys2Proof.Machine.execAudInit word s
  | .audErase word => Sys2Proof.Machine.execAudErase word s
  | .crdWdog word => Sys2Proof.Machine.execCrdWdog word s
  | .crdNotify word => Sys2Proof.Machine.execCrdNotify word s
  | .zero channel => Sys2Proof.Machine.execZero channel s
  | .semiAutomaticTare channel => Sys2Proof.Machine.execSemiAutomaticTare channel s
  | .presetTare channel => Sys2Proof.Machine.execPresetTare channel s
  | .clearTare channel => Sys2Proof.Machine.execClearTare channel s
  | .weighingStart channel => Sys2Proof.Machine.execWeighingStart channel s
  | .weighingEnd channel => Sys2Proof.Machine.execWeighingEnd channel s
  | .resetTotals channel => Sys2Proof.Machine.execResetTotals channel s
  | .initialZeroTimeout channel => Sys2Proof.Machine.execInitialZeroTimeout channel s
  | .serviceConnection conn => Sys2Proof.Machine.execServiceConnection conn s
  | .sessionOpen path tid level => Sys2Proof.Machine.execSessionOpen path tid level s
  | .sessionProve path tid session credSlot signature => Sys2Proof.Machine.execSessionProve path tid session credSlot signature s
  | .sessionClose path tid session => Sys2Proof.Machine.execSessionClose path tid session s
  | .sessionKeepalive path tid session => Sys2Proof.Machine.execSessionKeepalive path tid session s
  | .proveTimeout session => Sys2Proof.Machine.execProveTimeout session s
  | .sessionIdleTimeout session => Sys2Proof.Machine.execSessionIdleTimeout session s
  | .serviceRead m path => Sys2Proof.Machine.execServiceRead m path s
  | .serviceWrite m path => Sys2Proof.Machine.execServiceWrite m path s
  | .segmentTransferTimeout session => Sys2Proof.Machine.execSegmentTransferTimeout session s
  | .hostwrite tid path session entries => Sys2Proof.Machine.execHostwrite tid path session entries s
  | .objwriteApply lane h p => Sys2Proof.Machine.execObjwriteApply lane h p s
  | .objwriteAck lane h p => Sys2Proof.Machine.execObjwriteAck lane h p s
  | .objwriteNack lane h p => Sys2Proof.Machine.execObjwriteNack lane h p s
  | .objwriteForward lane h p => Sys2Proof.Machine.execObjwriteForward lane h p s
  | .objwriteResult lane h p => Sys2Proof.Machine.execObjwriteResult lane h p s
  | .forwardTimeout number => Sys2Proof.Machine.execForwardTimeout number s
  | .restore rq => Sys2Proof.Machine.execRestore rq s
  | .sourceJudged src => Sys2Proof.Machine.execSourceJudged src s
  | .clockSourceFailure src => Sys2Proof.Machine.execClockSourceFailure src s
  | .slowSourceFailure src => Sys2Proof.Machine.execSlowSourceFailure src s
  | .kdvTarget level word => Sys2Proof.Machine.execKdvTarget level word s
  | .fircTrimWindow count => Sys2Proof.Machine.execFircTrimWindow count s
  | .timSet level value => Sys2Proof.Machine.execTimSet level value s
  | .timIncr level value => Sys2Proof.Machine.execTimIncr level value s
  | .ptpMessage m => Sys2Proof.Machine.execPtpMessage m s
  | .rtcSet value => Sys2Proof.Machine.execRtcSet value s
  | .seasonPause rq => Sys2Proof.Machine.execSeasonPause rq s
  | .jrnCmdStartPass word => Sys2Proof.Machine.execJrnCmdStartPass word s
  | .mramWriteError block failed => Sys2Proof.Machine.execMramWriteError block failed s
  | .eventPosting window level word => Sys2Proof.Machine.execEventPosting window level word s
  | .bucketSet rq => Sys2Proof.Machine.execBucketSet rq s
  | .gateCommit level epoch => Sys2Proof.Machine.execGateCommit level epoch s
  | .gateFltPop level word => Sys2Proof.Machine.execGateFltPop level word s
  | .gateTrkHarvest level => Sys2Proof.Machine.execGateTrkHarvest level s
  | .gateTrkClear level word => Sys2Proof.Machine.execGateTrkClear level word s
  | .mgatetagWrite core level value => Sys2Proof.Machine.execMgatetagWrite core level value s
  | .dicDoorbell source => Sys2Proof.Machine.execDicDoorbell source s
  | .dicRelRead core => Sys2Proof.Machine.execDicRelRead core s
  | .deviceReRing source => Sys2Proof.Machine.execDeviceReRing source s
  | .wfi core => Sys2Proof.Machine.execWfi core s
  | .embSleep core level word => Sys2Proof.Machine.execEmbSleep core level word s
  | .wakeCondition w => Sys2Proof.Machine.execWakeCondition w s
  | .localReadMark inputs => Sys2Proof.Machine.execLocalReadMark inputs s
  | .localWriteMark cool => Sys2Proof.Machine.execLocalWriteMark cool s
  | .supplyLow group mv10 => Sys2Proof.Machine.execSupplyLow group mv10 s
  | .supplyTrip group mv10 => Sys2Proof.Machine.execSupplyTrip group mv10 s
  | .tripSwitchOff group channel => Sys2Proof.Machine.execTripSwitchOff group channel s
  | .supplyGood group mv10 => Sys2Proof.Machine.execSupplyGood group mv10 s
  | .supplyRecovered group mv10 => Sys2Proof.Machine.execSupplyRecovered group mv10 s
  | .rearm rq => Sys2Proof.Machine.execRearm rq s
  | .lioRearm level word => Sys2Proof.Machine.execLioRearm level word s
  | .currentLimitLong output => Sys2Proof.Machine.execCurrentLimitLong output s
  | .thermalShutdown output => Sys2Proof.Machine.execThermalShutdown output s
  | .feedStateChange feedB st mv10 => Sys2Proof.Machine.execFeedStateChange feedB st mv10 s
  | .eject opened => Sys2Proof.Machine.execEject opened s
  | .tempWarning junction => Sys2Proof.Machine.execTempWarning junction s
  | .overTemperature junction => Sys2Proof.Machine.execOverTemperature junction s
  | .hpwClear level word => Sys2Proof.Machine.execHpwClear level word s
  | .updateData m rq => Sys2Proof.Machine.execUpdateData m rq s
  | .updateCheck rq => Sys2Proof.Machine.execUpdateCheck rq s
  | .updateStart rq => Sys2Proof.Machine.execUpdateStart rq s
  | .updateDiscard rq => Sys2Proof.Machine.execUpdateDiscard rq s
  | .loaderUpdate readbackOk => Sys2Proof.Machine.execLoaderUpdate readbackOk s
  | .recoveryImage image => Sys2Proof.Machine.execRecoveryImage image s
  | .svnCommit rq => Sys2Proof.Machine.execSvnCommit rq s
  | .updBegin m => Sys2Proof.Machine.execUpdBegin m s
  | .updData m => Sys2Proof.Machine.execUpdData m s
  | .updEnd m => Sys2Proof.Machine.execUpdEnd m s
  | .ksEnrol m => Sys2Proof.Machine.execKsEnrol m s
  | .ksRevoke m => Sys2Proof.Machine.execKsRevoke m s
  | .ksLoad m => Sys2Proof.Machine.execKsLoad m s
  | .ksInfo m => Sys2Proof.Machine.execKsInfo m s
  | .ksSign m => Sys2Proof.Machine.execKsSign m s
  | .arbAdvance m => Sys2Proof.Machine.execArbAdvance m s
  | .credentialEnrol rq => Sys2Proof.Machine.execCredentialEnrol rq s
  | .credentialRevoke rq => Sys2Proof.Machine.execCredentialRevoke rq s
  | .progkeyEnrol rq => Sys2Proof.Machine.execProgkeyEnrol rq s
  | .progkeyRevoke rq => Sys2Proof.Machine.execProgkeyRevoke rq s
  | .keyLoad rq => Sys2Proof.Machine.execKeyLoad rq s
  | .verifierEnrol rq => Sys2Proof.Machine.execVerifierEnrol rq s
  | .verifierRevoke rq => Sys2Proof.Machine.execVerifierRevoke rq s
  | .zeroise via => Sys2Proof.Machine.execZeroise via s
  | .debugChallenge rq => Sys2Proof.Machine.execDebugChallenge rq s
  | .debugUnlock rq => Sys2Proof.Machine.execDebugUnlock rq s
  | .commission rq => Sys2Proof.Machine.execCommission rq s
  | .fijComm level word => Sys2Proof.Machine.execFijComm level word s
  | .fijStart via => Sys2Proof.Machine.execFijStart via s
  | .fijStop via => Sys2Proof.Machine.execFijStop via s
  | .fijClear level word => Sys2Proof.Machine.execFijClear level word s
  | .reorderHoldExpiry rule => Sys2Proof.Machine.execReorderHoldExpiry rule s
  | .registerWrite master level addr wide value => Sys2Proof.Machine.execRegisterWrite master level addr wide value s
  | .presenceLineChange slot asserted => Sys2Proof.Machine.execPresenceLineChange slot asserted s
  | .damperEdge slot heldNs => Sys2Proof.Machine.execDamperEdge slot heldNs s
  | .stationWriteResp station epoch tid abort => Sys2Proof.Machine.execStationWriteResp station epoch tid abort s
  | .throughCycleStart port h => Sys2Proof.Machine.execThroughCycleStart port h s
  | .serviceConnectionEnd conn => Sys2Proof.Machine.execServiceConnectionEnd conn s
  | .bankResetAfterBurst => Sys2Proof.Machine.execBankResetAfterBurst s
  | .autoRestart => Sys2Proof.Machine.execAutoRestart s
  | .startSequence => Sys2Proof.Machine.execStartSequence s
  | .reserveTakeoverWaitEnd => Sys2Proof.Machine.execReserveTakeoverWaitEnd s
  | .damperReadbackLost => Sys2Proof.Machine.execDamperReadbackLost s
  | .foreignToggleFence => Sys2Proof.Machine.execForeignToggleFence s
  | .startAlone => Sys2Proof.Machine.execStartAlone s
  | .joinRepeat => Sys2Proof.Machine.execJoinRepeat s
  | .reserveSelfTestEnd => Sys2Proof.Machine.execReserveSelfTestEnd s
  | .switchAckTimeout => Sys2Proof.Machine.execSwitchAckTimeout s
  | .switchPoint => Sys2Proof.Machine.execSwitchPoint s
  | .alignmentLost => Sys2Proof.Machine.execAlignmentLost s
  | .pairLinkReturn => Sys2Proof.Machine.execPairLinkReturn s
  | .resyncBulkDone => Sys2Proof.Machine.execResyncBulkDone s
  | .resyncNotConverging => Sys2Proof.Machine.execResyncNotConverging s
  | .beatBoundary => Sys2Proof.Machine.execBeatBoundary s
  | .beatBoundaryLate => Sys2Proof.Machine.execBeatBoundaryLate s
  | .runtimeWatchdogExpiry => Sys2Proof.Machine.execRuntimeWatchdogExpiry s
  | .rickWatchdogExpiry => Sys2Proof.Machine.execRickWatchdogExpiry s
  | .restartInitDone => Sys2Proof.Machine.execRestartInitDone s
  | .measuringEnd => Sys2Proof.Machine.execMeasuringEnd s
  | .precopyRoundEnd => Sys2Proof.Machine.execPrecopyRoundEnd s
  | .goAckTimeout => Sys2Proof.Machine.execGoAckTimeout s
  | .swapCopyDone => Sys2Proof.Machine.execSwapCopyDone s
  | .verifierSessionTimeout => Sys2Proof.Machine.execVerifierSessionTimeout s
  | .cordStartScan => Sys2Proof.Machine.execCordStartScan s
  | .cordWatchdogExpiry => Sys2Proof.Machine.execCordWatchdogExpiry s
  | .sclStart => Sys2Proof.Machine.execSclStart s
  | .sclStop => Sys2Proof.Machine.execSclStop s
  | .sclAdopt => Sys2Proof.Machine.execSclAdopt s
  | .sclRetire => Sys2Proof.Machine.execSclRetire s
  | .seatedRead => Sys2Proof.Machine.execSeatedRead s
  | .xt1StartTimeout => Sys2Proof.Machine.execXt1StartTimeout s
  | .dvfsPowerGood => Sys2Proof.Machine.execDvfsPowerGood s
  | .dvfsStepDone => Sys2Proof.Machine.execDvfsStepDone s
  | .powerGoodTimeout => Sys2Proof.Machine.execPowerGoodTimeout s
  | .announceTimeout => Sys2Proof.Machine.execAnnounceTimeout s
  | .rtcAlarm => Sys2Proof.Machine.execRtcAlarm s
  | .rtcHourlySet => Sys2Proof.Machine.execRtcHourlySet s
  | .deltasComplete => Sys2Proof.Machine.execDeltasComplete s
  | .commitDurable => Sys2Proof.Machine.execCommitDurable s
  | .seasoningPassDone => Sys2Proof.Machine.execSeasoningPassDone s
  | .coldSnapshotDurable => Sys2Proof.Machine.execColdSnapshotDurable s
  | .coalesceFlush => Sys2Proof.Machine.execCoalesceFlush s
  | .coalescingLeave => Sys2Proof.Machine.execCoalescingLeave s
  | .eventRecordWritten => Sys2Proof.Machine.execEventRecordWritten s
  | .timeAnchor => Sys2Proof.Machine.execTimeAnchor s
  | .gateTrkClearDone => Sys2Proof.Machine.execGateTrkClearDone s
  | .entryTimeout => Sys2Proof.Machine.execEntryTimeout s
  | .allCoresWfi => Sys2Proof.Machine.execAllCoresWfi s
  | .bankedEntered => Sys2Proof.Machine.execBankedEntered s
  | .resumeDigestCheck => Sys2Proof.Machine.execResumeDigestCheck s
  | .wakeComplete => Sys2Proof.Machine.execWakeComplete s
  | .unseated => Sys2Proof.Machine.execUnseated s
  | .powerFail => Sys2Proof.Machine.execPowerFail s
  | .ksCmdGenerate => Sys2Proof.Machine.execKsCmdGenerate s
  | .ksCmdSign => Sys2Proof.Machine.execKsCmdSign s
  | .ksCmdUnwrap => Sys2Proof.Machine.execKsCmdUnwrap s
  | .ksCmdEnrol => Sys2Proof.Machine.execKsCmdEnrol s
  | .ksCmdRevoke => Sys2Proof.Machine.execKsCmdRevoke s
  | .ksCmdVerify => Sys2Proof.Machine.execKsCmdVerify s
  | .ksCmdZeroise => Sys2Proof.Machine.execKsCmdZeroise s
  | .ksCmdArbAdvance => Sys2Proof.Machine.execKsCmdArbAdvance s
  | .ksCmdDebugPermit => Sys2Proof.Machine.execKsCmdDebugPermit s
  | .fijRunExpiry => Sys2Proof.Machine.execFijRunExpiry s

end Sys2Proof.Machine
end

