-- ==== Sys2Proof/Machine/Tick.lean ====
section
/-!
DEFINITION. What happens with time: the step on an empty queue stands for one 125 MHz tick (DESIGN CHOICE, log 1). TIME and the calendar
clock count (10 R356, R357, R361), frames leave the lanes and the ports (03 R123, 06 R205), answers leave, and what waits for its moment
goes on. Every other happening that time brings has a row of its own in the command table, and its command says that it has come.
-/

namespace Sys2Proof.Machine

-- clocks ---------------------------------------------------------------------------------------------------------------

/-- TIME on its tick (R356): the increment with its fraction; a value of TIM_SET is loaded while the module is OFFLINE (R357). TIME runs on
PLL-N. -/
def timeTick (t : Tim) (offline : Bool) : Tim :=
  match t.setPend with
  | some v => if offline then { t with time := v, frac := 0, setPend := none } else { t with setPend := none }
  | none =>
    let x := t.time.toNat * 2 ^ 32 + t.frac.toNat + t.incr.toNat
    { t with time := BitVec.ofNat 64 (x / 2 ^ 32), frac := BitVec.ofNat 32 x }

/-- The RTC adds 30,517.578125 ns each period of XT2 (R361): the phase counts millionths of a nanosecond. -/
def rtcTick (t : Tim) : Tim :=
  let p := t.rtcPhase + 8000000
  if p < 30517578125 then { t with rtcPhase := p }
  else
    let f := t.rtcFrac + 9699328
    { t with rtcPhase := p - 30517578125, rtcFrac := f % 2 ^ 24, rtc := t.rtc + BitVec.ofNat 64 (30517 + f / 2 ^ 24) }

def clockTick (s : State) : State :=
  let on := hearthOn s
  let t := if isolated s 0x02 then s.tim else rtcTick s.tim
  let t := if on && s.clk.plln.judged then timeTick t (s.pair.role == .offline) else t
  { s with
    now := s.now + 8
    tim := t
    hw := if on then { s.hw with onNs := s.hw.onNs + 8 } else s.hw }

/-- Each whole millisecond the supervisor reads the input power and the board sensor, and the RTC its supercapacitor (R368, R489): what it reads
is the plant's, so each reading is a free value (log 52). -/
def measure (s : State) : State :=
  if !hearthOn s || s.now % 1000000 != 0 then s
  else
    let p : Half := BitVec.ofNat 16 (Config.freeAt s.freeCtr 0)
    let t := if isolated s 0x02 then s.tim else { s.tim with backupLow := bit (BitVec.ofNat 1 (Config.freeAt s.freeCtr 2)) 0 }
    { s with
      freeCtr := s.freeCtr + 1
      tim := t
      hw := { s.hw with
        powerNow := p, powerPeak := if s.hw.powerPeak.toNat < p.toNat then p else s.hw.powerPeak
        board := BitVec.ofNat 16 (Config.freeAt s.freeCtr 1) } }

-- frames that leave --------------------------------------------------------------------------------------------------------

/-- The frame of a lane's queue that goes first (R123), and the queue without it. -/
def nextOut : List FlueTx → Option (FlueTx × List FlueTx)
  | [] => none
  | x :: xs => match nextOut xs with
    | none => some (x, [])
    | some (y, ys) => if txClass y.f < txClass x.f then some (y, x :: ys) else some (x, xs)

/-- One frame leaves a lane; what waits in a lane that carries nothing is lost. -/
def laneTick (s : State) (n : Nat) : State :=
  let l := laneOf s.flu n
  if l.out.isEmpty then s
  else if !maySendFlue s || !laneOpen s n then { s with flu := setLane s.flu n { l with out := [] } }
  else match nextOut l.out with
    | some (_, rest) => { s with flu := setLane s.flu n { l with out := rest, tx := satInc l.tx } }
    | none => s

/-- One frame leaves a port. -/
def portTick (s : State) (n : Nat) : State :=
  let p := portOf s n
  if p.out.isEmpty then s
  else if !maySendFol s || !portUp s n then setPort n (fun p => { p with out := [] }) s
  else setCnt n (fun c => { c with tx := satInc c.tx }) (setPort n (fun p => { p with out := p.out.tail }) s)

/-- The service window of the segment's bus cycle is open (R205). -/
def svcOpenNow (s : State) (n : Nat) : Bool := decide (windowOpen s n ≤ cycleT s n ∧ cycleT s n < windowEnd s n)

/-- A frame that waits for the service window goes out in it, stamped with its bus cycle; a segment that does not run has no window. -/
def windowTick (s : State) (n : Nat) : State :=
  match (portOf s n).waiting with
  | [] => s
  | f :: fs =>
    if (segOf s n).st = .running ∧ !svcOpenNow s n then s
    else portSend n { f with hdr := { f.hdr with stamp := stampOf s n } } (setPort n (fun p => { p with waiting := fs }) s)

-- answers ---------------------------------------------------------------------------------------------------------------------

/-- An answer leaves: on Folmonet as a SERVICE frame from the end that the request came to (R321); the others leave the module. -/
def deliver (s : State) (m : OutMsg) : State :=
  match m with
  | .reply (.folmonet seg station end_) m =>
    if s.pair.role = .active then windowSend seg end_ (folFrame s seg end_ (stampOf s seg) 0 station (.service m)) s else s
  | _ => s

def deliverAll (s : State) : State := s.out.foldl deliver { s with out := [] }

-- the tick -----------------------------------------------------------------------------------------------------------------------

/-- A restart that RESTORE has asked for (R335). -/
def dueRestart (s : State) : State :=
  match s.od.restartAt with
  | some t => if t ≤ s.now then restart 3 s else s
  | none => s

/-- What a reorder rule still holds passes once the run has stopped (R538, R539). -/
def passHeld (s : State) : State :=
  if s.mnt.running then s else s.mnt.held.foldl (fun s h => holdExpiry h.1 s) s

def tick (s : State) : State :=
  let s := deliverAll (measure (clockTick (passHeld s)))
  let s := (List.range 4).foldl windowTick ((List.range 4).foldl portTick (laneTick (laneTick s 0) 1))
  dueRestart (if runtimeLive s then serveRequests s else s)

end Sys2Proof.Machine
end

