-- ==== Sys2Proof/Machine/Step.lean ====
section
/-!
DEFINITION. One step: the command at the front of the queue runs with the queue's rest; on an empty queue the block does what
happens with time (`tick`, log 1). `withFetchWord` puts a word's command in front; the table gives no row bits, so no word spells one.
-/

namespace Sys2Proof.Machine

/-- One step of the module. -/
def step (s : State) : Host.Outcome State Fault Refusal :=
  match s.pending with
  | [] => finish (tick s)
  | c :: rest => exec c { s with pending := rest }

/-- The state with the command that a word spells in front of the queue (unchanged where it spells none). -/
def State.withFetchWord (s : State) (nbits w : Nat) : State :=
  match decodeTableWord nbits w with
  | none => s
  | some c => { s with pending := c :: s.pending }

end Sys2Proof.Machine
end

