-- ==== Sys2Proof/Safety.lean ====
section
/-!
DEFINITION. What a safe run means, in the terms that the statements use: what the module drives, what it may send, and the conditions on the
state that the chapters promise of every state the module reaches.
-/

namespace Sys2Proof.Safety

open Sys2Proof.Machine

/-- The module drives nothing: its Damper line is static, its output enable is off (R25, R351). -/
def Silent (s : State) : Prop := s.pair.driving = false ∧ s.pair.armed = false ∧ s.pair.outEn = false

/-- A module that has failed silent drives nothing and holds Kiln, Rick and Cord in reset (R25). -/
def FailSilentHolds (s : State) : Prop :=
  s.sup.failSilent = true → Silent s ∧ s.sup.kilnHeld = true ∧ s.sup.rickHeld = true ∧ s.sup.cordHeld = true

/-- The addressed memory has its canonical form. -/
def MemOk (s : State) : Prop := s.mem.wf = true

/-- No Kiln core stays in IDLE while its line is high (R425, R432). -/
def NoSleeper (d : Dic) : Prop := ∀ c, c < 8 → lineHigh d c = true → bit d.idle c = false

/-- MOPEN is in force only while no commit has cleared it (R400). -/
def MopenOk (g : Gate) : Prop := g.mopen = true → g.mopenShut = false

/-- The module runs: its start is over, every region is out of reset and clocked, nothing is isolated, the runtime and the Rick firmware run. -/
structure Running (s : State) : Prop where
  kiln : s.sup.kilnHeld = false
  rick : s.sup.rickHeld = false
  bank : s.sup.bankHeld = false
  cord : s.sup.cordHeld = false
  intact : s.sup.isolated = []
  runtime : s.sup.runtimeUp = true
  rickUp : s.sup.rickUp = true
  loud : s.sup.failSilent = false
  ember : s.emb.state = .run
  power : s.hw.powerDown = false
  reset : s.hw.porReleased = true
  clocks : s.clk.phase = .run

/-- The module toggles its Damper only as ACTIVE and armed, its outputs are open only while it toggles, and only ACTIVE and STANDBY are armed
(R48, R55, R56). -/
structure DriveLaw (p : Pair) : Prop where
  drives : p.driving = true → p.role = .active ∧ p.armed = true
  opens : p.outEn = true → p.driving = true
  arms : p.armed = true → p.role = .active ∨ p.role = .standby

/-- Verification mode holds only while the switch reads set and a Verifier session is open (R248). -/
def VmodeLaw (c : Cord) : Prop := c.vmode = true → c.switchSet = true ∧ c.session = true

/-- What every state keeps that a run reaches: the canonical memory, at most 64 waiting events, MOPEN shut for good once a commit has
cleared it, the silence of a module that has failed silent, no core asleep under a high line, a Damper driven only as ACTIVE and armed, verification
mode only under the switch and an open session. -/
structure Steady (s : State) : Prop where
  mem : MemOk s
  events : s.evr.queue.length ≤ 64
  mopen : MopenOk s.gate
  silent : FailSilentHolds s
  awake : NoSleeper s.dic
  drive : DriveLaw s.pair
  vmode : VmodeLaw s.cord

/-- What every accepted Flue frame leaves before its effect: it is counted on its lane, its sender is heard, its SEQ and its epoch are noted. -/
def flueHeard (lane : Nat) (f : FlueFrame) (s : State) : State :=
  noteEpoch f.hdr.epoch (countPayload f { s with
    flu := setLane s.flu lane { laneOf s.flu lane with rx := satInc (laneOf s.flu lane).rx, up := true }
    pair := setPeer s.pair f.hdr.src { peerOf s.pair f.hdr.src with heardAt := some s.now }
    fluq := setRx f.hdr.src { rxOf s.fluq f.hdr.src with own := some f.hdr.seq } s.fluq })

/-- A Flue frame that nothing turns away: its lane carries it and is up, no rule of the injector runs, it comes from another slot to this one, in
its sequence, with the module's epoch (a claim message: with that or a higher one). -/
structure Received (lane : Nat) (f : FlueFrame) (s : State) : Prop where
  two : lane < 2
  opened : laneOpen s lane = true
  up : (laneOf s.flu lane).up = true
  path : pathNow s = s.flu.path
  quiet : s.mnt.running = false
  free : s.mnt.held = []
  ver : f.hdr.ver = 1
  src : f.hdr.src ≠ mySlot s
  dst : f.hdr.dst = some (mySlot s)
  top : f.hdr.epoch ≠ 0xFFFFFFFF
  epoch : f.hdr.epoch = s.pair.epoch ∨ (isClaim f.body = true ∧ s.pair.epoch.toNat ≤ f.hdr.epoch.toNat)
  recent : ∃ t, (peerOf s.pair f.hdr.src).heardAt = some t ∧ s.now - t < 100000000
  order : ∃ q, (rxOf s.fluq f.hdr.src).own = some q ∧ q.toNat + 1 = f.hdr.seq.toNat

/-- The client of a whole write of an object entry. -/
def writer (idx sub : Nat) (rq : Rq) : Client := clientOf rq.path (objMsg idx sub rq)

/-- A whole write of an entry by an open connection of the service port that passes steps 1 to 8 of R325, with no transfer in progress. -/
structure Accepted (idx sub : Nat) (rq : Rq) (m : Meta) (s : State) : Prop where
  conn : ∃ n, rq.path = .service n ∧ s.od.conns.contains n = true
  length : rq.value.length ≤ 32768
  access : checkAccess (writer idx sub rq) true rq.value s = 0
  entry : entryOf idx sub s = some m
  value : checkValue idx sub m rq.value s = 0
  free : ∀ x ∈ s.od.sessions, x.xfer = none ∧ x.revoked = false

/-- The configuration area takes a write: its bucket holds a token (R380). -/
def AreaOpen (s : State) : Prop := 12000000000 ≤ cfgTokens s.jrn s.now

/-- The number of the mailbox request that an operation answers: the one taken, or else the next (R241). -/
def mbxSeq (s : State) : Word := if s.cord.busy then s.cord.mbxReq else s.cord.rspDoor + 1

/-- The response header and data of R242. -/
def mbxReply (seq : Word) (op : Nat) (r : MbxRes) : List Byte :=
  le4 seq.toNat ++ le2 op ++ le2 r.status ++ le4 r.data.length ++ zeros 4 ++ le8 r.res0 ++ le8 r.res1 ++ r.data

/-- A mailbox operation whose effect has left `u` answers `r`: the response stands in the mailbox, the door carries its number, source 72 rings. -/
def mbxDone (op : Nat) (r : MbxRes) (u : State) : State :=
  ring 72 { u with
    mem := writeBytes u.mem (mbxBase + 0x8000) (mbxReply (mbxSeq u) op r)
    cord := { u.cord with
      reqDoor := if u.cord.busy then u.cord.reqDoor else mbxSeq u
      rspDoor := mbxSeq u
      mbxReq := mbxSeq u
      busy := false
      rspUnread := true } }

/-- The same, of a state after it. -/
def MbxAnswered (op : Nat) (r : MbxRes) (s t : State) : Prop :=
  t.cord.busy = false ∧ t.cord.rspDoor = mbxSeq s ∧ t.cord.rspUnread = true ∧
    (s.mem.wf = true → readBytes t.mem (mbxBase + 0x8000) (32 + r.data.length) = mbxReply (mbxSeq s) op r)

/-- An append of an entry of this kind is taken, away from the levels of R261. -/
def TrailOpen (kind : Nat) (s : State) : Prop := audRefuse kind s = 0 ∧ s.aud.used < 124518

/-- The module has failed silent by an error of cause `cause` of block `block` (R25). -/
def StoppedBy (cause block : Nat) (t : State) : Prop :=
  t.sup.failSilent = true ∧ fld t.sup.fsCause 62 2 = 3 ∧ fld t.sup.fsCause 56 6 = cause ∧ fld t.sup.fsCause 48 8 = block ∧ Silent t

/-- The client of a request is answered that it is done; that it is refused with a code (R325). -/
def Told (rq : Rq) (s t : State) : Prop := ∃ m, t.out = s.out ++ [.reply rq.path m] ∧ m.op = 4 ∧ m.tid = rq.tid
def RefusedWith (rq : Rq) (code : Nat) (s t : State) : Prop :=
  ∃ m, t.out = s.out ++ [.reply rq.path m] ∧ m.op = 5 ∧ m.tid = rq.tid ∧ m.arg = BitVec.ofNat 32 code

/-- One step of the module's whole step function keeps `Inv`. -/
def StepKeeps (Inv : State → Prop) : Prop := ∀ s t, Inv s → step s = .next t → Inv t

/-- A meaning answers a next state of which `post` holds. -/
def Answers (o : Host.Outcome State Fault Refusal) (post : State → Prop) : Prop := ∃ t, o = .next t ∧ post t

end Sys2Proof.Safety
end

