-- ==== Sys2Proof/Certificates/Slice0/Obligations.lean ====
section
/-!
DEFINITION. What the provers are asked: the statements about the block and its commands, chapter by chapter. A completion statement says that a
command, under conditions on the state and its operands alone, answers the next state that the chapter gives, and what it leaves alone.
`settle` in a conclusion is the end of every meaning: a fail-silent module drives nothing, and no core sleeps under a high line.
-/

open Sys2Proof Sys2Proof.Machine Sys2Proof.Safety

-- the block and its queue ---------------------------------------------------------------------------------------------------

/-- The queue: the front command is taken and its meaning runs with the rest waiting; with nothing waiting time passes (log 1). -/
def Obligations.StepRunsFrontCommand : Prop := ∀ (c : Instr) (qs : List Instr) (s : State),
  step { s with pending := c :: qs } = exec c { s with pending := qs } ∧
    (∃ t, step { s with pending := c :: qs } = .next t) ∧
    step { s with pending := [] } = .next (settle (tick { s with pending := [] }))

/-- Every command answers a next state in which the queue is as it was. -/
def Obligations.CommandsKeepQueue : Prop := ∀ (c : Instr) (s : State), s.mem.wf = true → s.evr.queue.length ≤ 64 → MopenOk s.gate →
  Answers (exec c s) fun t => t.pending = s.pending

-- architecture: faults, cells, buses (01, 12, 17) --------------------------------------------------------------------------------

/-- R28 with the actions of R25: the request of the runtime to go fail-silent. -/
def Obligations.FailSilentRequest : Prop := ∀ (core : Nat) (level : Level) (word : Word) (s : State), Running s → core < 8 →
  ((level = .m ∧ word.setWidth 16 = 0xD1E5#16) →
    Answers (exec (.supFailSilent core level word) s) fun t =>
      fld t.sup.fsCause 62 2 = 3 ∧ fld t.sup.fsCause 56 6 = 0x07 ∧ fld t.sup.fsCause 48 8 = 0x05 ∧ fld t.sup.fsCause 32 16 = core ∧
      t.sup.failSilent = true ∧ t.sup.kilnHeld = true ∧ t.sup.rickHeld = true ∧ t.sup.cordHeld = true ∧ t.sup.bankDraining = true ∧
      Silent t ∧ t.mnt.running = false ∧ t.mem = s.mem ∧ t.jrn = s.jrn ∧ t.evr = s.evr ∧ t.od = s.od ∧ t.ks = s.ks ∧ t.aud = s.aud ∧
      t.legal = s.legal ∧ t.gate = s.gate ∧ t.hw = s.hw ∧ t.clk = s.clk ∧ t.tim = s.tim ∧ t.cyc = s.cyc ∧ t.run = s.run) ∧
  ((level ≠ .m ∨ word.setWidth 16 ≠ 0xD1E5#16) →
    exec (.supFailSilent core level word) s = .next { s with dic := leaveIdle s.dic })

/-- R26: two errors at one moment, the restart between them and the next start, and the event of that start. -/
def Obligations.SimultaneousErrors : Prop :=
  ∀ (c1 c2 k1 k2 cause : Nat) (b1 b2 : Byte) (s : State), s.sup.failSilent = false →
    let w (c k : Nat) (b : Byte) : Word := faultWord 3 c b k
    let t := chipError c2 b2 k2 (chipError c1 b1 k1 s)
    t.sup.fsCause = (w (if b2.toNat < b1.toNat then c2 else c1) (if b2.toNat < b1.toNat then k2 else k1)
        (if b2.toNat < b1.toNat then b2 else b1)).setWidth 64 <<< 32 ∧
      t.sup.simultaneous = some (w (if b2.toNat < b1.toNat then c1 else c2) (if b2.toNat < b1.toNat then k1 else k2)
        (if b2.toNat < b1.toNat then b1 else b2)) ∧
      (restart cause t).sup.simultaneous = t.sup.simultaneous ∧
      (∀ x, x.sup.simultaneous = t.sup.simultaneous → x.sup.bankHeld = false → isolated x 0x63#8 = false → x.sup.fsPrev = false →
        (startFaults x).sup.simultaneous = none ∧
          (startFaults x).evr.supQueue = x.evr.supQueue ++
            evRecs 0x0004 0x05 (le4 (w (if b2.toNat < b1.toNat then c1 else c2) (if b2.toNat < b1.toNat then k1 else k2)
              (if b2.toNat < b1.toNat then b1 else b2)).toNat))

/-- R33: both halves of the rule. The image check is R30's. -/
def Obligations.RickReload : Prop := ∀ (tid : Byte) (s : State), Running s →
  let reply (op : Byte) (arg : Nat) := OutMsg.reply (.service 0)
    { op := op, tid := tid, index := 0, sub := 0, sflags := 0, session := 0, arg := BitVec.ofNat 32 arg, data := [] }
  ((s.pair.role = .offline ∨ s.pair.role = .update) →
    exec (.rickResetReload tid) s = .next (settle (send (reply 4 0)
      (if imageCheck s 2 false (norHeader s 2) (norBody s 2) = 0 then setFw 2 (fwOf (norHeader s 2)) { s with sup := { s.sup with rickUp := true } }
       else componentFailed 2 { s with sup := { s.sup with rickUp := false } })))) ∧
  ((s.pair.role ≠ .offline ∧ s.pair.role ≠ .update) →
    exec (.rickResetReload tid) s = .next { s with dic := leaveIdle s.dic, out := s.out ++ [reply 5 0x2107] })

/-- R15, R16, R523 and the end of R25. The DRAM has no spare rows. -/
def Obligations.CellAndBlockFaults : Prop :=
  (∀ (b : Byte) (c r : Nat) (s : State), Running s →
    Answers (exec (.dramPatrolScrub [.corrected b c r]) s) fun t =>
      t.sup.ceCount = satInc s.sup.ceCount ∧ t.sup.isolated = [] ∧ t.evr = s.evr ∧ t.mem = s.mem ∧
      { t with sup := s.sup, dic := s.dic } = s ∧ t.dic = leaveIdle s.dic) ∧
  (∀ (b : Byte) (c r : Nat) (s : State), Running s →
    exec (.dramPatrolScrub [.uncorrectable b c r]) s =
      .next (settle (supPost 0x0001 (le4 (faultWord 1 0x01 0x60 c).toNat)
        { s with sup := { s.sup with lastFault := (faultWord 1 0x01 0x60 c).setWidth 64 <<< 32 } }))) ∧
  (∀ (b : Byte) (c : Nat) (m : Master) (s : State), Running s → degraded b = true →
    Answers (exec (.blockResponseTimeout b c m) s) fun t =>
      t.sup.isolated = [b] ∧ t.sup.lastFault = (faultWord 2 0x05 b c).setWidth 64 <<< 32 ∧ bit t.sup.regionFault (blockRegion b) = true ∧
      t.sup.failSilent = false ∧ t.out = s.out ++ [.bus { master := m, how := .blockError }] ∧ t.mem = s.mem ∧
      t.evr.supQueue = s.evr.supQueue ++ evRecs 1 0x05 (le4 (faultWord 1 0x05 b c).toNat) ++ evRecs 2 0x05 (le4 (faultWord 2 0x05 b c).toNat)) ∧
  (∀ (s : State), s.sup.bankDraining = true → s.pair.recBusy = false →
    Answers (exec .bankResetAfterBurst s) fun t =>
      t.sup.bankHeld = true ∧ t.sup.bankDraining = false ∧ t.evr.queue = [] ∧ t.jrn.pending = [] ∧ t.jrn.buffer = [] ∧
      t.jrn.pass = none ∧ t.jrn.segs = s.jrn.segs ∧ t.mem = s.mem)

/-- R396 and R402 for requests that pass, R9 for register accesses, R525 for RETRY. -/
def Obligations.BusRequestsComplete : Prop :=
  (∀ (c a : Nat) (level : Level) (data : List Byte) (s : State), Running s → s.bus.retries = [] → data ≠ [] →
    0x800000000 ≤ a → a + data.length ≤ 0xA00000000 → a % 4096 + data.length ≤ 4096 →
    checkPart s.gate level (tagOf s.gate (.core c)) .write a = .pass →
    Answers (exec (.busRequest { master := .core c, level := level, op := .write, addr := a, len := data.length, data := data, cell := .none, busy := false }) s) fun t =>
      (s.mem.wf = true → readBytes t.mem a data.length = data) ∧ (∀ b, b < a ∨ a + data.length ≤ b → readByte t.mem b = readByte s.mem b) ∧
      t.gate = markDirty a data.length s.gate ∧ t.out = s.out ++ [.bus { master := .core c, how := .done [] false }] ∧
      { t with mem := s.mem, gate := s.gate, out := s.out, dic := s.dic } = s ∧ t.dic = leaveIdle s.dic) ∧
  (∀ (c a n : Nat) (level : Level) (s : State), Running s → s.bus.retries = [] → 0 < n →
    0x800000000 ≤ a → a + n ≤ 0xA00000000 → a % 4096 + n ≤ 4096 →
    checkPart s.gate level (tagOf s.gate (.core c)) .read a = .pass →
    exec (.busRequest { master := .core c, level := level, op := .read, addr := a, len := n, data := [], cell := .none, busy := false }) s =
      .next { s with dic := leaveIdle s.dic, out := s.out ++ [.bus { master := .core c, how := .done (readBytes s.mem a n) false }] }) ∧
  (∀ (c : Nat) (v : DWord) (s : State), Running s → s.bus.retries = [] → s.bus.latches = [] →
    checkPart s.gate .m (tagOf s.gate (.core c)) .write 0x10003018 = .pass →
    exec (.registerWrite (.core c) .m 0x10003018 false v) s =
      .next { s with
        emb := { s.emb with wakeEn := v.setWidth 32 &&& 0x1F }, dic := leaveIdle s.dic
        out := s.out ++ [.bus { master := .core c, how := .done [] false }] }) ∧
  (∀ (c a : Nat) (wide : Bool) (v : DWord) (s : State), Running s → s.bus.retries = [] → 0x10003000 ≤ a → a < 0x10003FF0 →
    a % (if wide then 8 else 4) ≠ 0 → checkPart s.gate .m (tagOf s.gate (.core c)) .write a = .pass →
    exec (.registerWrite (.core c) .m a wide v) s =
      .next { s with dic := leaveIdle s.dic, out := s.out ++ [.bus { master := .core c, how := .accessFault }] }) ∧
  (∀ (c a n k : Nat) (busy : Bool) (s : State), Running s → 0 < n → k < 8 →
    0x800000000 ≤ a → a + n ≤ 0xA00000000 → a % 4096 + n ≤ 4096 →
    let r : BusReq := { master := .core c, level := .s, op := .read, addr := a, len := n, data := [], cell := .none, busy := true }
    s.bus.retries = [{ req := r, retries := k }] →
    exec (.retryReissue (.core c) busy) s =
      .next { s with
        dic := leaveIdle s.dic
        bus := { s.bus with retries := if busy then [{ req := r, retries := k + 1 }] else [] }
        gate := if busy then s.gate else { s.gate with oldPending := s.gate.oldPending - 1 }
        out := s.out ++ [.bus { master := .core c, how := if busy then .retry (min 512 (16 * 2 ^ k)) else .done (readBytes s.mem a n) false }] })

/-- R27 and R30. `restart` says what a restart resets and what outlives it, `loadFirst` the loading. -/
def Obligations.StartsComplete : Prop :=
  (∀ (s : State), s.hw.porReleased = true → s.hw.powerDown = false → s.clk.phase = .ready → s.sup.failSilent = false → s.pair.role ≠ .clockHold →
    exec .startSequence s = .next (settle (loadFirst { s with
      clk := { s.clk with phase := .run }
      sup := { s.sup with kilnHeld := false, rickHeld := false, bankHeld := false, cordHeld := false } }))) ∧
  (∀ (s : State), s.sup.failSilent = true → s.sup.heldSilent = false → isolated s 0x62#8 = false → s.clk.phase = .run → s.pair.role ≠ .clockHold →
    let recent := s.sup.autoRestarts.filter (fun t => decide (s.now - t < 3600000000000))
    (recent.length < 3 → Answers (exec .autoRestart s) fun t =>
      t.sup.failSilent = false ∧ t.sup.autoRestarts = s.now :: recent ∧ t.sup.fsPrev = true ∧ t.hw.resetCause = 1 ∧ t.clk.phase = .ready ∧
      t.pair.role = .offline ∧ t.sup.kilnHeld = true ∧ t.sup.bankHeld = true ∧ t.sup.fsCause = s.sup.fsCause ∧ t.sup.retireMap = s.sup.retireMap ∧
      t.od.vals = s.od.vals ∧ t.jrn.segs = s.jrn.segs ∧ t.mem = s.mem ∧ t.tim.time = s.tim.time ∧ t.upd.arb = s.upd.arb) ∧
    (3 ≤ recent.length → Answers (exec .autoRestart s) fun t =>
      t.sup.failSilent = true ∧ t.sup.heldSilent = true ∧ t.sup.faultLed = true ∧ Silent t ∧ t.mem = s.mem ∧ t.evr = s.evr))

-- pair, reserve and claims (02) ---------------------------------------------------------------------------------------------------

/-- R55 to R59, R66, R97 and R549 as far as they concern one line at a time. -/
def Obligations.DampersComplete : Prop :=
  (∀ (x : Slot) (s : State), Running s → x ≠ mySlot s → (peerOf s.pair x).toggling = false →
    Answers (exec (.damperToggleRecognised x) s) fun t =>
      (peerOf t.pair x).toggling = true ∧ t.pair.outEn = false ∧ bit t.pair.intStatus 1 = true ∧ t.pair.driving = s.pair.driving ∧
      t.pair.role = s.pair.role ∧ t.pair.epoch = s.pair.epoch ∧ { t with pair := s.pair, dic := s.dic } = s) ∧
  (∀ (x : Slot) (s : State), Running s → x ≠ mySlot s → (peerOf s.pair x).toggling = true → s.pair.role = .active → s.pair.takeover = none →
    Answers (exec (.lossOfToggle x) s) fun t =>
      (peerOf t.pair x).toggling = false ∧ t.pair.lossCount = satInc s.pair.lossCount ∧
      t.pair.outEn = (s.pair.driving && (others s).all (fun y => y == x || !(peerOf s.pair y).toggling)) ∧
      t.pair.role = .active ∧ t.pair.epoch = s.pair.epoch ∧ { t with pair := s.pair, dic := s.dic } = s ∧ t.dic = leaveIdle s.dic) ∧
  (∀ (x : Slot) (ns : Nat) (s : State), Running s → x ≠ mySlot s → ns < 100 →
    exec (.damperEdge x ns) s = .next { s with dic := leaveIdle s.dic, pair := { s.pair with glitchCount := satInc s.pair.glitchCount } }) ∧
  (∀ (x : Slot) (ns : Nat) (s : State), Running s → x ≠ mySlot s → 100 ≤ ns → (peerOf s.pair x).toggling = false →
    (peerOf s.pair x).edges = 3 → s.now - (peerOf s.pair x).lastEdge ≤ 400 →
    Answers (exec (.damperEdge x ns) s) fun t =>
      (peerOf t.pair x).toggling = true ∧ t.pair.outEn = false ∧ t.pair.role = s.pair.role ∧ { t with pair := s.pair, dic := s.dic } = s) ∧
  (∀ (s : State), Running s → s.pair.driving = true →
    exec .damperReadbackLost s = .next { s with dic := leaveIdle s.dic, pair := { s.pair with driving := false, outEn := false } }) ∧
  (∀ (x : Slot) (s : State), Running s → x ≠ mySlot s → (peerOf s.pair x).toggling = true → (peerOf s.pair x).misTold = false →
    (peerOf s.pair x).role ≠ some .active → (peerOf s.pair x).claimAt = none →
    exec (.damperRoleMismatch x) s =
      .next (settle (post 0x0107 0x4B [] { s with pair := setPeer s.pair x { peerOf s.pair x with misTold := true } }))) ∧
  (∀ (s : State), Running s → s.pair.role = .standby →
    exec (.dmpArm .m 0xA5C30001#32) s = .next { s with dic := leaveIdle s.dic, pair := { s.pair with armed := true } }) ∧
  (∀ (s : State), Running s →
    exec (.dmpArm .m 0xA5C30000#32) s = .next { s with dic := leaveIdle s.dic, pair := { s.pair with armed := false, driving := false, outEn := false } }) ∧
  (∀ (level : Level) (w : Word) (s : State), Running s → (level ≠ .m ∨ (bit w 0 = true ∧ runsTasks s.pair.role = false)) →
    exec (.dmpArm level w) s = .next { s with dic := leaveIdle s.dic }) ∧
  (∀ (x : Slot) (b : Bool) (s : State), Running s → x ≠ mySlot s →
    exec (.presenceLineChange x b) s =
      .next { s with dic := leaveIdle s.dic, pair := setPeer s.pair x { peerOf s.pair x with present := b } })

/-- R50, R70 and R71. -/
def Obligations.TakeoverComplete : Prop :=
  let ready (s : State) : Prop := Running s ∧ s.pair.role = .standby ∧ s.pair.sub = .synchronised ∧ s.pair.armed = true ∧ s.flu.divHold = false ∧
    epochExhausted s = false
  let taken (s t : State) : Prop := t.pair.role = .active ∧ t.pair.sub = .none ∧
    t.pair.epoch.toNat = max s.pair.epoch.toNat (max s.pair.epochSeen.toNat s.pair.stationEpoch.toNat) + 1 ∧
    t.pair.driving = true ∧ t.pair.recBusy = true ∧ t.pair.takeCount = satInc s.pair.takeCount
  (∀ (x : Slot) (s : State), ready s → mySlot s ≠ .c → activeSlot s = some x → (peerOf s.pair x).toggling = true → s.pair.switchSeen = none →
    Answers (exec (.lossOfToggle x) s) fun t =>
      taken s t ∧ t.pair.outEn = (others s).all (fun y => y == x || !(peerOf s.pair y).toggling)) ∧
  (∀ (x : Slot) (s : State), ready s → mySlot s = .c → activeSlot s = some x → (peerOf s.pair x).toggling = true → s.pair.switchSeen = none →
    Answers (exec (.lossOfToggle x) s) fun t =>
      t.pair.role = .standby ∧ t.pair.epoch = s.pair.epoch ∧ t.pair.lossAt = some s.now ∧ { t with pair := s.pair, dic := s.dic } = s) ∧
  (∀ (at_ : Nat) (s : State), ready s → mySlot s = .c → s.pair.lossAt = some at_ →
    Answers (exec .reserveTakeoverWaitEnd s) fun t => taken s t)

/-- R52, R59, R63, R67, R68, R78, R80 and R555. -/
def Obligations.ClaimsComplete : Prop :=
  (∀ (x : Slot) (s : State), Running s → s.pair.role = .active → (others s).find? (fun y => (peerOf s.pair y).toggling) = some x →
    (∀ y ∈ others s, (peerOf s.pair y).claimAt = none) →
    Answers (exec .foreignToggleFence s) fun t =>
      t.pair.role = .fenced ∧ t.pair.driving = false ∧ t.pair.outEn = false ∧ t.pair.armed = false ∧ t.pair.fenceMark = true ∧
      t.pair.recBusy = true ∧ t.pair.epoch = s.pair.epoch ∧ bit t.pair.intStatus 7 = true ∧ t.mem = s.mem) ∧
  (∀ (s : State), Running s → s.pair.recBusy = true → s.pair.switchSeen = none →
    Answers (exec (.claimRecordWriteDone true) s) fun t =>
      t.pair.recBusy = false ∧ t.pair.recFailed = false ∧ t.pair.recSeq = s.pair.recSeq + 1 ∧ t.pair.recSecond = !s.pair.recSecond ∧
      (s.mem.wf = true → readBytes t.mem (claimAddr s.pair.recSecond) 32 = claimRecord s) ∧
      (∀ a, a < claimAddr s.pair.recSecond ∨ claimAddr s.pair.recSecond + 32 ≤ a → readByte t.mem a = readByte s.mem a) ∧
      { t with pair := s.pair, mem := s.mem, jrn := s.jrn, dic := s.dic } = s) ∧
  (∀ (s : State), Running s → s.pair.recBusy = true →
    exec (.claimRecordWriteDone false) s = .next (settle
      { postIf (!s.pair.recFailed) 0x0106 0x4B [] s with pair := { s.pair with recFailed := true, recBusy := false } })) ∧
  (∀ (t0 : Nat) (s : State), Running s → s.pair.joinAt = some t0 → (s.pair.role = .offline ∨ s.pair.role = .reserve) →
    exec .joinRepeat s = .next (settle (sendJoin s)) ∧
      (∀ x, activeSlot s = some x → ∃ p : JoinP, p.slot = mySlot s ∧ p.epoch = s.pair.epoch ∧
        sendJoin s = sendFlue (some x) (.join p) { s with pair := { s.pair with joinAt := some s.now } })) ∧
  (∀ (s : State), Running s → s.pair.role = .offline → s.hw.key = .run → s.hw.ejectOpen = false → s.run.prog.isSome = true →
    s.sup.cordUp = true → s.flu.divHold = false → slotErr s = false → s.ks.permit = false → anySeen s .active = false →
    anySeen s .standby = false → anySeen s .update = false → winsStart s = true → epochExhausted s = false →
    Answers (exec .startAlone s) fun t =>
      t.pair.role = .active ∧ t.pair.epoch = nextEpoch s ∧ t.pair.driving = true ∧ t.pair.recBusy = true) ∧
  (∀ (n : Nat) (w : StartWin) (s : State), n < 4 → s.fol.segs.length = 4 → (segOf s n).window = some w →
    ((stationsOn s n).all (fun x => x.got) && w.firstCs.isSome && !w.raised) = true →
    Answers (exec (.startWindowClose n) s) fun t =>
      (segOf t n).window = none ∧ (segOf t n).st = (segOf s n).st ∧ t.fol.stations = s.fol.stations ∧ t.fol.ports = s.fol.ports ∧
      t.mem = s.mem) ∧
  (∀ (x : Slot) (s : State), Running s → s.pair.role = .active → x ≠ mySlot s → (peerOf s.pair x).dead = false →
    (peerOf s.pair x).role = some .standby → (peerOf s.pair x).heardAt = none → s.pair.claimed = [] → epochExhausted s = false →
    Answers (exec (.partnerDead x) s) fun t =>
      (peerOf t.pair x).dead = true ∧ t.pair.role = .active ∧ t.pair.epoch = nextEpoch s ∧ t.pair.claimReason = 3 ∧
      bit t.pair.claimMembers (slotNo x) = false ∧ bit t.pair.intStatus 6 = true) ∧
  (∀ (t0 : Nat) (s : State), Running s → s.pair.role = .reserve → s.pair.selfTest = some t0 →
    exec .reserveSelfTestEnd s = .next (settle (embSleep .m 0xE3B00001 { s with
      pair := { s.pair with selfTest := none }
      tim := { s.tim with alarm := s.tim.rtc + 86400000000000 }
      emb := { s.emb with wakeEn := s.emb.wakeEn ||| 0x1B, watch := putAt s.emb.watch 0 0x8000003C } })))

/-- R92, as the register form of the command. -/
def Obligations.MakeOfflineRule : Prop := ∀ (m : Master) (s : State), Running s →
  ((s.pair.role = .active ∧ (standbySlot s).isSome = true) →
    exec (.makeOffline (.reg m .m 0xC1A10002#32)) s = .next (settle (pairInt 0
      { s with pair := { s.pair with cmdLast := 2, cmdState := 3, cmdAbort := 0x2203 } }))) ∧
  (¬ (s.pair.role = .active ∧ (standbySlot s).isSome = true) →
    Answers (exec (.makeOffline (.reg m .m 0xC1A10002#32)) s) fun t =>
      t.pair.role = .offline ∧ t.pair.cmdState = 2 ∧ t.pair.cmdLast = 2 ∧ t.pair.cmdAbort = 0 ∧
      t.flu.divHold = false ∧ t.flu.divTimes = [] ∧ t.flu.divLife = s.flu.divLife)

/-- R79, R85, R86, R88, R91, R94. -/
def Obligations.SwitchoversComplete : Prop :=
  (∀ (m : Master) (x : Slot) (s : State), Running s → s.pair.role = .active → s.flu.resync.phase = 0 → standbySlot s = some x → switchCheck s = 0 →
    tokenFree s (ownHolder s 1 0 0) = true →
    Answers (exec (.switchover (.reg m .m 0xC1A10001#32)) s) fun t =>
      t.pair.switch = some { beat := switchBeat s, epoch := nextEpoch s, acked := false, service := false } ∧
      s.cyc.beat.toNat + 4 ≤ switchBeat s ∧ t.pair.cmdState = 1 ∧ t.pair.role = .active ∧ t.pair.epoch = s.pair.epoch ∧
      t.mnt.holders = s.mnt.holders ++ [ownHolder s 1 0 0] ∧ t.mem = s.mem) ∧
  (∀ (m : Master) (s : State), Running s → s.pair.role = .active → s.flu.resync.phase = 0 → standbySlot s = none →
    let u := pairPost 0x0108 [] s
    exec (.switchover (.reg m .m 0xC1A10001#32)) s = .next (settle (pairInt 0
      { u with pair := { u.pair with cmdLast := 1, cmdState := 3, cmdAbort := 0x2202 } }))) ∧
  (∀ (w : SwOver) (s : State), Running s → s.pair.role = .active → s.pair.switch = some w → w.acked = false →
    Answers (exec .switchAckTimeout s) fun t =>
      t.pair.switch = none ∧ (s.pair.cmdState = 1 → t.pair.cmdState = 4) ∧ t.pair.role = .active ∧ t.pair.epoch = s.pair.epoch ∧
      t.mnt.holders = s.mnt.holders.filter (fun h => h.code != 1) ∧ t.mem = s.mem) ∧
  (∀ (w : SwOver) (s : State), Running s → s.pair.role = .active → s.pair.switch = some w → w.acked = true →
    Answers (exec .switchPoint s) fun t =>
      t.pair.role = .standby ∧ t.pair.sub = .resync ∧ t.pair.driving = false ∧ t.pair.outEn = false ∧ t.pair.switch = none ∧
      t.pair.leaving = true ∧ t.flu.resync.phase = 5 ∧ t.pair.epoch = s.pair.epoch ∧ t.mem = s.mem) ∧
  (∀ (m : Master) (s : State), Running s → s.pair.role = .active → reserveSeen s = true →
    let u := sendFlue (some .c) (.promote { target := .c, action := 0, epoch := s.pair.epoch }) s
    exec (.promoteReserve (.reg m .m 0xC1A10003#32)) s =
      .next (settle (pairInt 0 { u with pair := { u.pair with cmdLast := 3, cmdState := 2, cmdAbort := 0 } }))) ∧
  (∀ (s : State), Running s → s.hw.key = .run → s.pair.role = .active → s.hw.ejectOpen = false → s.upd.debugOpen = false →
    Answers (exec (.keyswitchChange .service) s) fun t =>
      t.hw.key = .service ∧ bit t.hw.flags 3 = true ∧ t.pair.role = .active ∧ t.mem = s.mem)

-- the Flue (03, with 02, 05 and 09 for the frames that they lay out) ------------------------------------------------------------------

/-- R54, R66, R68, R79, R81, R86. -/
def Obligations.PairFramesComplete : Prop :=
  (∀ (n : Nat) (h : FlueHdr) (p : StatusP) (s : State), Running s → Received n ⟨h, .status p⟩ s → s.pair.role ≠ .offline →
    Answers (exec (.statusFrame n h p) s) fun t =>
      let q := peerOf t.pair h.src
      q.role = some p.role ∧ q.sub = p.sub ∧ q.key = p.key ∧ q.flags = p.flags ∧ q.epoch = h.epoch ∧ q.progid = p.progid ∧
      q.heardAt = some s.now ∧ t.pair.role = s.pair.role ∧ t.pair.epoch = s.pair.epoch ∧ t.mem = s.mem) ∧
  (∀ (n : Nat) (h : FlueHdr) (p : ClaimP) (s : State), Running s → Received n ⟨h, .claim p⟩ s → s.pair.role = .standby →
    (p.members &&& memberBit (mySlot s)) ≠ 0 → s.pair.epoch.toNat < p.epoch.toNat → s.pair.claimed = [] → p.reason ≠ 2 →
    Answers (exec (.claimFrame n h p) s) fun t =>
      t.pair.epoch = p.epoch ∧ t.pair.recBusy = true ∧ t.pair.role = .standby ∧ bit t.pair.intStatus 2 = true ∧
      (peerOf t.pair h.src).claimAt = some s.now ∧ t.mem = s.mem) ∧
  (∀ (n : Nat) (h : FlueHdr) (p : ClaimP) (s : State), Running s → Received n ⟨h, .claim p⟩ s → s.pair.role = .active →
    (p.members &&& memberBit (mySlot s)) = 0 → s.pair.epoch.toNat < p.epoch.toNat →
    Answers (exec (.claimFrame n h p) s) fun t =>
      t.pair.role = .fenced ∧ t.pair.driving = false ∧ t.pair.outEn = false ∧ t.pair.fenceMark = true ∧ t.pair.epoch = s.pair.epoch ∧ t.mem = s.mem) ∧
  (∀ (n : Nat) (h : FlueHdr) (p : JoinP) (s : State), Running s → Received n ⟨h, .join p⟩ s → s.pair.role = .active →
    refusesJoin s = false → p.epoch.toNat ≤ s.pair.epoch.toNat →
    Answers (exec (.joinFrame n h p) s) fun t =>
      (peerOf t.pair h.src).dead = false ∧ (peerOf t.pair h.src).epoch = p.epoch ∧ (peerOf t.pair h.src).compat = p.pairCompat ∧
      (peerOf t.pair h.src).legalId = p.legalId ∧ t.pair.role = .active ∧ t.pair.epoch = s.pair.epoch ∧ t.mem = s.mem) ∧
  (∀ (n : Nat) (h : FlueHdr) (p : PromoteP) (s : State), Running s → Received n ⟨h, .promote { p with action := 0 }⟩ s → p.target = mySlot s →
    s.pair.role = .reserve → s.flu.divHold = false →
    let u := flueHeard n ⟨h, .promote { p with action := 0 }⟩ s
    exec (.promoteToStandby n h p) s = .next (settle (sendJoin { u with pair := { u.pair with selfTest := none } }))) ∧
  (∀ (n : Nat) (h : FlueHdr) (p : PromoteP) (s : State), Running s → Received n ⟨h, .promote { p with action := 1 }⟩ s → p.target = .c → mySlot s = .c →
    s.pair.role = .standby → s.flu.divHold = false →
    Answers (exec (.returnToReserve n h p) s) fun t =>
      t.pair.role = .reserve ∧ t.pair.armed = false ∧ t.pair.driving = false ∧ t.pair.epoch = s.pair.epoch ∧ t.flu.syncTasks = 0 ∧
      t.tim.alarm = s.tim.rtc + 86400000000000 ∧ t.mem = s.mem) ∧
  (∀ (n : Nat) (h : FlueHdr) (p : SwitchP) (s : State), Running s → Received n ⟨h, .switch p⟩ s → s.pair.role = .standby →
    activeSlot (flueHeard n ⟨h, .switch p⟩ s) = some h.src → serviceAsked s = false → p.epoch ≠ 0xFFFFFFFF →
    (heardEpoch (flueHeard n ⟨h, .switch p⟩ s)).toNat < p.epoch.toNat →
    let u := flueHeard n ⟨h, .switch p⟩ s
    exec (.switchFrame n h p) s = .next (settle
      { u with pair := { u.pair with switchSeen := some { beat := p.beat.toNat, epoch := p.epoch, acked := false }, recBusy := true } })) ∧
  (∀ (n : Nat) (h : FlueHdr) (w : SwOver) (s : State), w.beat < 2 ^ 64 →
    let p : SwitchP := { beat := BitVec.ofNat 64 w.beat, epoch := w.epoch }
    Running s → Received n ⟨h, .switchAck p⟩ s → s.pair.role = .active → s.pair.switch = some w →
    let u := flueHeard n ⟨h, .switchAck p⟩ s
    exec (.switchAckFrame n h p) s = .next (settle { u with pair := { u.pair with switch := some { w with acked := true } } }))

/-- R46, R103, R108, R110, R119, R122, R127, R554. -/
def Obligations.TwinFramesComplete : Prop :=
  (∀ (n : Nat) (h : FlueHdr) (p : ImageP) (s : State), Running s → Received n ⟨h, .image p⟩ s → s.pair.role = .standby → s.pair.sub = .synchronised →
    s.fluq.images = [] → 1 < p.parts →
    Answers (exec (.imageFrame n h p) s) fun t =>
      t.fluq.images = [{ task := p.task, inst := p.inst, parts := p.parts, got := [p] }] ∧ t.run = s.run ∧ t.mem = s.mem) ∧
  (∀ (n : Nat) (h : FlueHdr) (p : DigestP) (s : State), Running s → Received n ⟨h, .digest p⟩ s → s.pair.role = .active → twinOn s p.task = true →
    s.fluq.own = [] →
    Answers (exec (.digestFrame n h p) s) fun t =>
      t.fluq.peer = s.fluq.peer ++ [{ p := p, at_ := s.now }] ∧ t.run = s.run ∧ t.mem = s.mem) ∧
  (∀ (n : Nat) (h : FlueHdr) (own p : DigestP) (at_ : Nat) (s : State), Running s → Received n ⟨h, .digest p⟩ s → s.pair.role = .active →
    twinOn s p.task = true → s.fluq.own = [{ p := own, at_ := at_ }] → own.task = p.task → own.inst = p.inst →
    own.outcome = 0 → p.outcome = 0 →
    (own.digest = p.digest → Answers (exec (.digestFrame n h p) s) fun t => t.fluq.own = [] ∧ t.fluq.missed = 0 ∧ t.mem = s.mem) ∧
    (own.digest ≠ p.digest → Answers (exec (.digestFrame n h p) s) fun t =>
      t.flu.divTask = p.task ∧ t.flu.divInst = p.inst ∧ t.flu.digLocal = own.digest ∧ t.flu.digPeer = p.digest ∧ bit t.flu.intStatus 2 = true ∧
      t.flu.resync.phase = 1 ∧ t.flu.resync.byDiv = true ∧ t.flu.syncTasks = 0 ∧ t.pair.role = .active ∧ t.mem = s.mem)) ∧
  (∀ (n : Nat) (h : FlueHdr) (e : RelayE) (f : FolFrame) (s : State), Running s → Received n ⟨h, .relayOut [e]⟩ s → s.pair.role = .standby →
    folOf e.frame = some f → bit e.flags 0 = false → s.now ≤ relayTime s f.hdr.stamp e.toff.toNat →
    Answers (exec (.relayOutFrame n h [e]) s) fun t =>
      t.fluq.relays = s.fluq.relays ++ [{ e := e, at_ := relayTime s f.hdr.stamp e.toff.toNat }] ∧ t.fol = s.fol ∧ t.mem = s.mem) ∧
  (∀ (n k : Nat) (e : RelayE) (s : State), Running s → s.fluq.relays = [{ e := e, at_ := k }] → e.port = n →
    exec (.relayOutTransmit n true) s = .next (settle (fptPost n 0x040B [] (setCnt n (fun c => { c with relayLate := satInc c.relayLate })
      { s with fluq := { s.fluq with relays := [] } })))) ∧
  (∀ (n : Nat) (h : FlueHdr) (e : RelayE) (g : FolHdr) (p : InputP) (s : State), Running s → Received n ⟨h, .relayIn [e]⟩ s → s.pair.role = .active →
    e.port < 4 → folOf e.frame = some ⟨g, .input p⟩ →
    exec (.relayInFrame n h [e]) s = .next (settle (rxInput e.port (1 - (myEnd s).getD 0) n false g p (flueHeard n ⟨h, .relayIn [e]⟩ s)))) ∧
  (∀ (n : Nat) (h : FlueHdr) (p : NakP) (s : State), Running s → Received n ⟨h, .nak p⟩ s → s.fluq.held = [] →
    Answers (exec (.nakFrame n h p) s) fun t =>
      (laneOf t.flu n).naks = satInc (laneOf s.flu n).naks ∧ (laneOf t.flu n).rx = satInc (laneOf s.flu n).rx ∧
      (laneOf t.flu n).out = (laneOf s.flu n).out ∧ t.mem = s.mem) ∧
  (∀ (n : Nat) (h : FlueHdr) (p : ResyncDataP) (s : State), Running s → Received n ⟨h, .resyncData p⟩ s → s.pair.role = .standby →
    s.pair.sub = .resync → s.flu.resync.marked = [] →
    Answers (exec (.resyncDataFrame n h p) s) fun t =>
      (s.mem.wf = true → readBytes t.mem p.addr p.data.length = p.data) ∧ (∀ a, a < p.addr ∨ p.addr + p.data.length ≤ a → readByte t.mem a = readByte s.mem a) ∧
      t.flu.resync.phase = max 2 s.flu.resync.phase ∧ (s.flu.resync.phase ≤ 1 → t.pair.armed = false)) ∧
  (∀ (n : Nat) (h : FlueHdr) (p : ResyncCtrlP) (q : Word) (s : State), Running s → Received n ⟨h, .resyncCtrl p⟩ s → s.pair.role = .active →
    p.phase = 4 → s.flu.resync.phase = 4 → s.flu.resync.awaiting = [(p.task, q)] → s.flu.resync.trailing = [] →
    Answers (exec (.resyncCtrlFrame n h p) s) fun t => t.flu.resync.phase = 5 ∧ t.flu.resync.arrived = s.flu.resync.arrived ++ [p.task] ∧ t.mem = s.mem) ∧
  (∀ (n : Nat) (x : Slot) (s : State), Running s → n < 2 → laneOpen s n = true →
    exec (.flueFrameDiscard n .crc x) s = .next { s with
      dic := leaveIdle s.dic, flu := setLane s.flu n { laneOf s.flu n with crcErr := satInc (laneOf s.flu n).crcErr } }) ∧
  (∀ (f : FlueFrame) (s : State), Running s → mySlot s = .c → laneOpen s 0 = true → laneOpen s 1 = true → forwards s = true → f.hdr.src = .a →
    f.hdr.dst = none →
    exec (.slotCForward 0 f) s = .next (settle (laneSend 1 { f with hdr := { f.hdr with flags := setBit f.hdr.flags 0 } } s)))

/-- R103, R106, R109, R111, R115, R116, R127, R129, R135. -/
def Obligations.TwinTimersComplete : Prop :=
  let fallen (s t : State) : Prop := t.pair.role = .standby ∧ t.pair.sub = .resync ∧ t.flu.resync.phase = 1 ∧ t.flu.syncTasks = 0 ∧
    t.pair.epoch = s.pair.epoch ∧ bit t.flu.intStatus 0 = true ∧ t.mem = s.mem
  (∀ (k : Nat) (s : State), Running s → s.pair.role = .standby → twinOn s k = true →
    Answers (exec (.imageLagTimeout k) s) fun t => fallen s t ∧ bit t.flu.intStatus 4 = true) ∧
  (∀ (k : Nat) (s : State), Running s → s.pair.role = .standby → (taskOf s k).inFlight = true → (taskOf s k).partner = some 0 →
    Answers (exec (.instanceLagTimeout k) s) fun t => fallen s t ∧ bit t.flu.intStatus 4 = true) ∧
  (∀ (d : DigestRec) (s : State), Running s → s.pair.role = .standby → s.fluq.own = [d] → missMax s ≤ s.fluq.missed + 1 →
    Answers (exec (.digestMissed d.p.task) s) fun t => fallen s t ∧ bit t.flu.intStatus 3 = true ∧ t.fluq.own = []) ∧
  (∀ (s : State), Running s → s.pair.role = .standby → s.pair.sub = .synchronised →
    Answers (exec .alignmentLost s) fun t => fallen s t ∧ bit t.flu.intStatus 7 = true) ∧
  (∀ (t0 : Nat) (s : State), Running s → s.fluq.testSince = some t0 →
    exec (.selfTestDone true) s = .next (settle (post 0x0206 0x46 [1] { s with fluq := { s.fluq with testSince := none, testPass := true } }))) ∧
  (∀ (n : Nat) (s : State), Running s → n < 2 →
    exec (.laneBlockLock n true) s = .next { s with dic := leaveIdle s.dic, flu := setLane s.flu n { laneOf s.flu n with locked := true } }) ∧
  (∀ (n : Nat) (s : State), Running s → n < 2 → (laneOf s.flu n).up = true →
    Answers (exec (.laneBlockLock n false) s) fun t =>
      (laneOf t.flu n).locked = false ∧ (laneOf t.flu n).up = false ∧ (laneOf t.flu n).out = [] ∧
      (laneOf t.flu n).linkDown = satInc (laneOf s.flu n).linkDown ∧ t.pair = s.pair ∧ t.mem = s.mem) ∧
  (∀ (n : Nat) (s : State), Running s → n < 2 → (laneOf s.flu n).up = true →
    Answers (exec (.laneDown n) s) fun t =>
      (laneOf t.flu n).up = false ∧ (laneOf t.flu n).locked = (laneOf s.flu n).locked ∧
      (laneOf t.flu n).linkDown = satInc (laneOf s.flu n).linkDown ∧ t.pair = s.pair ∧ t.mem = s.mem) ∧
  (∀ (s : State), Running s → mySlot s ≠ .c → s.flu.path = 2 → pathSel s ≠ 2 → s.flu.lane0.up = true →
    s.flu.lane0.upSince + 1000000000 ≤ s.now →
    exec .pairLinkReturn s = .next (settle (post 0x0204 0x46 [2, 1] (fluInt 5 { s with flu := { s.flu with path := 1 } })))) ∧
  (∀ (s : State), s.pair.role = .active → s.flu.resync.phase = 2 → s.flu.resync.pages = [] →
    exec .resyncBulkDone s = .next (settle { s with flu := { s.flu with resync := { s.flu.resync with phase := 3, since := s.now } } })) ∧
  (∀ (s : State), s.pair.role = .active → s.flu.resync.phase = 3 → s.flu.resync.told = false →
    exec .resyncNotConverging s = .next (settle (post 0x0205 0x46 [] (fluInt 6
      { s with flu := { s.flu with resync := { s.flu.resync with told := true } } })))) ∧
  (∀ (level : Level) (s : State), Running s →
    let clear (l : Lane) : Lane := { l with tx := 0, rx := 0, crcErr := 0, naks := 0, retx := 0, linkDown := 0 }
    exec (.fluClearLanes level) s =
      .next { s with dic := leaveIdle s.dic, flu := { s.flu with lane0 := clear s.flu.lane0, lane1 := clear s.flu.lane1 } } ∧
    exec (.fluClearPeaks level) s = .next { s with dic := leaveIdle s.dic, flu := { s.flu with txPeak := 0, rxPeak := 0 } })

-- the cycle engine (04) ------------------------------------------------------------------------------------------------------------------

/-- R148 to R157 and R172 as far as one instance's life goes. -/
def Obligations.InstancesComplete : Prop :=
  let runs (t : Nat) (s : State) : Prop := Running s ∧ s.run.tasks.length = 80 ∧ t < 16 ∧ s.pair.role = .active
  let faulted (t : Nat) (u : State) : Prop := (taskOf u t).inFlight = false ∧ (taskOf u t).outcome = 3 ∧ (taskOf u t).threads = 0
  (∀ (t d : Nat) (s : State), runs t s → s.cyc.releasing = true → bit s.cyc.taskEn t = true → bit s.cyc.taskFault t = false →
    (taskOf s t).latchDue = some d → (taskOf s t).inFlight = false → (∀ k ∈ s.run.tasks, k.st ≠ 4) →
    Answers (exec (.inputLatch t) s) fun u =>
      let k := taskOf u t
      k.inFlight = true ∧ k.st = 3 ∧ k.inst = (taskOf s t).inst + 1 ∧ k.cur = k.inst ∧ k.threads = (taskOf s t).desc.cores ∧
      k.startAt = d - (taskOf s t).desc.latch * 1000 ∧ k.relAt = s.now ∧ k.desc = (taskOf s t).desc ∧ k.stamp = s.tim.time ∧ u.pair.role = .active) ∧
  (∀ (t core : Nat) (word : Word) (ds : List Delta) (s : State), runs t s → fld word 8 8 = t → bit word 0 = false →
    (taskOf s t).inFlight = true → (taskOf s t).st ≠ 4 → bit (taskOf s t).threads core = true → clrBit (taskOf s t).threads core ≠ 0 →
    exec (.cycDone core .m word ds) s =
      .next (settle (setTask t (fun k => { k with threads := clrBit (taskOf s t).threads core, pds := k.pds ++ ds }) s))) ∧
  (∀ (t core : Nat) (word : Word) (ds : List Delta) (s : State), runs t s → fld word 8 8 = t → bit word 0 = false →
    (taskOf s t).inFlight = true → (taskOf s t).st ≠ 4 → (taskOf s t).trapped = false → (taskOf s t).poison = false →
    bit (taskOf s t).threads core = true → clrBit (taskOf s t).threads core = 0 →
    Answers (exec (.cycDone core .m word ds) s) fun u =>
      (taskOf u t).st = 4 ∧ (taskOf u t).threads = 0 ∧ (taskOf u t).inFlight = true ∧ (taskOf u t).dig.isSome = true ∧
      (s.mem.wf = true → s.chg.forces = [] → ∀ p < 1024, bit (taskOf s t).desc.outPages p = true →
        readBytes u.mem (emBase + 256 * p) 256 = readBytes s.mem (wkBase + 256 * p) 256)) ∧
  (∀ (core : Nat) (level : Level) (word : Word) (ds : List Delta) (s : State), Running s → level ≠ .m →
    exec (.cycDone core level word ds) s = .next { s with dic := leaveIdle s.dic }) ∧
  (∀ (t core : Nat) (s : State), runs t s → (taskOf s t).inFlight = true → (taskOf s t).st ≠ 4 →
    bit (taskOf s t).threads core = true → clrBit (taskOf s t).threads core = 0 →
    Answers (exec (.taskTrap core .m t) s) fun u => faulted t u ∧ (2 ≤ (taskOf s t).pol → (taskOf u t).st = 5 ∧ bit u.cyc.taskFault t = true)) ∧
  (∀ (t : Nat) (s : State), runs t s → (taskOf s t).inFlight = true → (taskOf s t).trapped = true →
    Answers (exec (.trapStopComplete t) s) fun u => faulted t u ∧ (2 ≤ (taskOf s t).pol → (taskOf u t).st = 5 ∧ bit u.cyc.taskFault t = true)) ∧
  (∀ (t : Nat) (p : DigestP) (s : State), runs t s → (taskOf s t).st = 4 → (taskOf s t).dig = some p →
    (taskOf s t).extended = false → (taskOf s t).missed = false →
    Answers (exec (.commitComplete t) s) fun u =>
      let k := taskOf u t
      k.inFlight = false ∧ k.st = 1 ∧ k.outcome = 0 ∧ k.first = true ∧ k.comInst = (taskOf s t).cur ∧ k.comBeat = some s.cyc.beat.toNat ∧
      k.commitAt = BitVec.ofNat 32 (s.now - (taskOf s t).startAt) ∧ u.pair.role = .active) ∧
  (∀ (t : Nat) (s : State), runs t s → (taskOf s t).inFlight = true → (taskOf s t).st ≠ 4 →
    Answers (exec (.deadlineMiss t) s) fun u =>
      (taskOf u t).overruns = satInc (taskOf s t).overruns ∧ u.cyc.cntOvr = satInc s.cyc.cntOvr ∧ bit u.cyc.intStatus 1 = true ∧
      ((taskOf s t).pol = 0 → (taskOf u t).inFlight = true ∧ (taskOf u t).missed = true) ∧
      ((taskOf s t).pol = 1 → (taskOf s t).extended = false →
        (taskOf u t).inFlight = true ∧ (taskOf u t).extended = true ∧ (taskOf u t).skipNext = 1 ∧
        (0 < (taskOf s t).desc.period → (taskOf u t).dueAt = (taskOf s t).dueAt + (taskOf s t).desc.period * 250000)) ∧
      (2 ≤ (taskOf s t).pol → faulted t u ∧ (taskOf u t).st = 5 ∧ bit u.cyc.taskFault t = true)) ∧
  (∀ (t : Nat) (s : State), runs t s → (taskOf s t).inFlight = true → (taskOf s t).st ≠ 4 → (taskOf s t).pol = 0 → (taskOf s t).missed = true →
    Answers (exec (.skipLimit t) s) fun u => faulted t u ∧ (taskOf u t).st = 5 ∧ bit u.cyc.taskFault t = true)

/-- R138, R141, R155, R162 to R167, R169, R172, R173, R174 and R327. -/
def Obligations.BeatsAndProgramsComplete : Prop :=
  (∀ (s : State), Running s → s.fol.requests = [] → s.od.waits = [] →
    Answers (exec .beatBoundary s) fun u => u.cyc.beat = s.cyc.beat + 1 ∧ u.cyc.beatTime = s.tim.time ∧ u.cyc.beatAt = s.now) ∧
  (∀ (s : State), Running s → Answers (exec .beatBoundaryLate s) fun u => StoppedBy 0x05 0x40 u ∧ u.mem = s.mem) ∧
  (∀ (tasks : BitVec 16) (events : DWord) (s : State), Running s →
    Answers (exec (.cycFaultClear .m tasks events) s) fun u =>
      u.cyc.taskFault = s.cyc.taskFault &&& ~~~tasks ∧ u.cyc.evtFault = s.cyc.evtFault &&& ~~~events ∧
      { u with cyc := s.cyc, run := s.run, dic := s.dic } = s) ∧
  (∀ (word : Word) (s : State), Running s → fld word 0 16 = 0x3D7E →
    exec (.cycWdog 0 .m word) s =
      .next { s with dic := leaveIdle s.dic, cyc := { s.cyc with wdArmed := true, wdBeat := s.cyc.beat.toNat } }) ∧
  (∀ (s : State), Running s → runsTasks s.pair.role = true → s.cyc.wdArmed = true → s.cyc.wdBeat + max 1 (fld s.cyc.cfg 4 4) ≤ s.cyc.beat.toNat →
    Answers (exec .runtimeWatchdogExpiry s) fun u => StoppedBy 0x05 0x20 u ∧ u.mem = s.mem) ∧
  (∀ (s : State), Running s → s.run.stationHost = false → Answers (exec .rickWatchdogExpiry s) fun u => StoppedBy 0x05 0x4A u ∧ u.mem = s.mem) ∧
  (∀ (n : Nat) (s : State), Running s → (segOf s n).st ≠ .running →
    Answers (exec (.emitoffEmission n) s) fun u => u.fol.ports = s.fol.ports ∧ u.fol.stations = s.fol.stations ∧ u.mem = s.mem) ∧
  (∀ (m : Master) (p : Prog) (s : State), Running s → s.pair.role = .active → changeBusy s = false → s.run.prog = some p →
    let taken (c : Nat) (u : State) : Prop := u.cyc.cmdState = 1 ∧ u.cyc.cmdLast = BitVec.ofNat 8 c ∧ u.cyc.cmdAbort = 0 ∧ u.pair.role = .active ∧
      u.mnt.holders = s.mnt.holders ++ [ownHolder s 2 c 0] ∧ u.mem = s.mem
    (tokenFree s (ownHolder s 2 1 0) = true → Answers (exec (.warmRestart (.reg m .m 0xC7C10001)) s) fun u => taken 1 u ∧
      u.run.restart = some { cold := false, begun := false, snap := false, inited := false, b0 := none }) ∧
    (tokenFree s (ownHolder s 2 2 0) = true → Answers (exec (.coldRestart (.reg m .m 0xC7C10002)) s) fun u => taken 2 u ∧
      u.run.restart = some { cold := true, begun := false, snap := false, inited := false, b0 := none }) ∧
    (tokenFree s (ownHolder s 2 3 0) = true → Answers (exec (.programStop (.reg m .m 0xC7C10003)) s) fun u => taken 3 u ∧ u.run.stopReq = true)) ∧
  (∀ (r : Restart) (p : Prog) (s : State), Running s → s.run.restart = some r → s.run.prog = some p → r.begun = true → r.inited = false → r.cold = true →
    let b0 := if r.snap then some (s.cyc.beat.toNat + (if s.now = s.cyc.beatAt then 2 else 3)) else r.b0
    exec .restartInitDone s = .next (settle { s with
      mem := initData p 0 s.mem, run := { s.run with restart := some { r with inited := true, b0 := b0 } } })) ∧
  (∀ (r : Restart) (s : State), Running s → s.run.restart = some r → r.cold = true → r.inited = true → r.snap = false →
    Answers (exec .coldSnapshotDurable s) fun u =>
      u.run.restart = some { r with snap := true, b0 := some (s.cyc.beat.toNat + (if s.now = s.cyc.beatAt then 2 else 3)) } ∧ u.cyc = s.cyc) ∧
  (∀ (b : List Byte) (s : State), Running s → s.cyc.pstate = .none → s.run.restart = none →
    Answers (exec (.programLoad b) s) fun u =>
      if kindleOk b && kindleSigned s b && descsOk (kindleProg b).descs then
        u.cyc.pstate = .stopped ∧ u.run.prog = some (kindleProg b) ∧ u.cyc.taskFault = 0 ∧ u.cyc.evtPend = 0 ∧ u.pair.role = s.pair.role
      else u = { s with dic := leaveIdle s.dic }) ∧
  (∀ (t sub : Nat) (rq : Rq) (m : Meta) (s : State), Running s → t < 80 → (sub = 0x08 ∨ (sub = 0x0D ∧ faultedTask s t = true)) →
    Accepted (0x1310 + t) sub rq m s → AreaOpen s → s.pair.role = .active →
    Answers (if sub = 8 then exec (.taskEnable t rq) s else exec (.resume t rq) s) fun u =>
      ∃ x, u.od.txns = s.od.txns ++ [x] ∧ x.beat = applyBeat s ∧ x.entries = [entryE (0x1310 + t) sub rq.value] ∧
        x.client = some (writer (0x1310 + t) sub rq) ∧ u.od.txnNo = s.od.txnNo + 1 ∧ u.pair.role = .active ∧ u.mem = s.mem)

-- online change and forces (05) --------------------------------------------------------------------------------------------------------

/-- R177 to R183, R186, R188, R190, R191 and R331. -/
def Obligations.ChangesComplete : Prop :=
  (∀ (m : SvcMsg) (rq : Rq) (mt : Meta) (s : State), Running s → m.sflags = 0 → m.arg = 0 → Accepted 0x1360 2 { rq with value := m.data } mt s →
    changeIdle s = true →
    exec (.kindleData m rq) s = .next (settle (respond (writer 0x1360 2 rq) 4 0 [] { s with chg := { s.chg with image := m.data } }))) ∧
  (∀ (rq : Rq) (mt : Meta) (p : Prog) (s : State), Running s → Accepted 0x1360 3 rq mt s → beNat rq.value = 1 → s.pair.role = .active →
    changeIdle s = true → s.pair.switch = none → s.run.restart = none → s.run.stopReq = false → (∀ h ∈ s.mnt.holders, h.code ≠ 2) →
    s.run.prog = some p → (s.flu.resync.phase < 2 ∨ 4 < s.flu.resync.phase) → tokenFree s (ownHolder s 3 0 (writer 0x1360 3 rq).session) = true →
    let h := ownHolder s 3 0 (writer 0x1360 3 rq).session
    let code := loadCheck s.chg.image s
    Answers (exec (.changeStart rq) s) fun t =>
      t.pair.role = .active ∧
      if code = 0 then t.mnt.holders = s.mnt.holders ++ [h] ∧ t.chg.new.isSome = true ∧ t.chg.pair = standbySync s ∧
        (if standbySync s then t.chg.st = .loading ∧ t.chg.loadedPeer = none else t.chg.st = .measuring ∧ t.gate.trkEn = true ∧ t.gate.dirty = [])
      else t.mnt.holders = (s.mnt.holders ++ [h]).filter (fun x => x.code != 3) ∧ t.chg.st = .refused ∧ t.chg.lastAbort = BitVec.ofNat 16 code ∧
        t.chg.new = none ∧ t.chg.image = [] ∧ t.mem = s.mem) ∧
  (∀ (rq : Rq) (mt : Meta) (s : State), Running s → Accepted 0x1360 3 rq mt s → beNat rq.value = 2 → s.pair.role = .active →
    changeIdle s = false → s.chg.goSent = false → s.chg.st ≠ .swap →
    Answers (exec (.changeAbandon rq) s) fun t =>
      t.chg.st = .abandoned ∧ t.chg.lastAbort = 0 ∧ t.chg.new = none ∧ t.chg.image = [] ∧ t.gate.trkEn = false ∧
      t.mnt.holders = s.mnt.holders.filter (fun x => x.code != 3) ∧ t.run = s.run ∧ t.mem = s.mem) ∧
  (∀ (s : State), Running s → s.pair.role = .active → s.chg.st = .measuring → (s.chg.measured ≤ 1024 → swapHurts s = false) →
    Answers (exec .measuringEnd s) fun t =>
      t.chg.estimate = BitVec.ofNat 32 s.chg.measured ∧ t.mem = s.mem ∧
      if s.chg.measured ≤ 1024 then t.chg.st = .precopy ∧ t.chg.passed = false ∧ t.gate.trkEn = true
      else t.chg.st = .refused ∧ t.chg.lastAbort = 0x2307 ∧ t.gate.trkEn = false) ∧
  (∀ (old new : Prog) (s : State), Running s → s.pair.role = .active → s.chg.st = .precopy → s.run.prog = some old → s.chg.new = some new →
    Answers (exec .precopyRoundEnd s) fun t =>
      t.chg.passed = true ∧ t.gate.dirty = [] ∧ t.chg.remain = BitVec.ofNat 32 (deltaNow s) ∧ t.run.prog = some old ∧
      (if deltaNow s ≤ s.chg.estimate.toNat then t.chg.st = .ready else t.chg.st = .precopy)) ∧
  (∀ (s : State), Running s → s.pair.role = .active → s.chg.st = .ready → s.chg.goSent = true → s.chg.goAcked = false →
    Answers (exec .goAckTimeout s) fun t =>
      t.chg.st = .ready ∧ t.mem = s.mem ∧
      (match chooseSwap s with
      | some b => t.chg.swapBeat = BitVec.ofNat 64 b ∧ t.chg.goSent = true
      | none => t.chg.goSent = false)) ∧
  (∀ (old new : Prog) (s : State), Running s → s.pair.role = .active → s.chg.st = .swap → s.chg.quiesced = true → s.chg.copied = false →
    s.run.prog = some old → s.chg.new = some new →
    Answers (exec .swapCopyDone s) fun t =>
      t.chg.st = .swap ∧ t.chg.copied = true ∧ t.run.prog = some new ∧ t.chg.reopen = some (reopenAt s) ∧
      (∀ f ∈ t.chg.forces, f ∈ s.chg.forces ∧ new.syms.any (fun y => y.id == f.id) = true)) ∧
  (∀ (sub : Nat) (rq : Rq) (mt : Meta) (s : State), Running s → 1 ≤ sub → sub ≤ 3 → Accepted 0x1361 sub rq mt s → AreaOpen s → s.pair.role = .active →
    (sub = 1 → forceCheck rq.value s = 0) → (sub = 2 → (symOf s (BitVec.ofNat 32 (beNat rq.value))).isSome = true) →
    Answers (match sub with | 1 => exec (.forceSet rq) s | 2 => exec (.forceClear rq) s | _ => exec (.forceClearAll rq) s) fun t =>
      t.chg.forces = s.chg.forces ∧ t.out = s.out ∧ t.mem = s.mem ∧
      ∃ w, t.od.progWs = s.od.progWs ++ [w] ∧ w.entry = some (entryE 0x1361 sub rq.value) ∧ w.client = some (writer 0x1361 sub rq) ∧ w.carried = false) ∧
  (∀ (v : List Byte) (s : State),
    (forceWrite 1 v s).chg.forces = s.chg.forces.filter (fun f => f.id != BitVec.ofNat 32 (leAt v 0 4)) ++
      [{ id := BitVec.ofNat 32 (leAt v 0 4), typ := leAt v 4 1, val := slice v 8 (leAt v 6 2) }] ∧
    (forceWrite 2 v s).chg.forces = s.chg.forces.filter (fun f => f.id != BitVec.ofNat 32 (beNat v)) ∧
    (forceWrite 3 v s).chg.forces = [])

/-- R176, R181 to R183, R186 and R187. -/
def Obligations.KindleFramesComplete : Prop :=
  let frame (op : Nat) (h : FlueHdr) (p : KindleP) : FlueFrame := ⟨h, .kindle { p with op := op }⟩
  (∀ (n : Nat) (h : FlueHdr) (p : KindleP) (s : State), Running s → Received n (frame 1 h p) s → s.pair.role = .standby →
    Answers (exec (.kindleDataFrame n h p) s) fun t =>
      t.chg.st = .loading ∧ t.chg.image = overlay (if p.arg = 0 then [] else s.chg.image) p.arg.toNat p.data ∧ t.pair.role = .standby) ∧
  (∀ (n : Nat) (h : FlueHdr) (p : KindleP) (s : State), Running s → Received n (frame 2 h p) s → s.pair.role = .active → s.chg.st = .loading →
    s.chg.pair = true → s.chg.loadedOwn = some 0 →
    Answers (exec (.kindleLoaded n h p) s) fun t =>
      t.mem = s.mem ∧ (if p.arg = 0 then t.chg.st = .measuring ∧ t.gate.trkEn = true
        else t.chg.st = .refused ∧ t.chg.lastAbort = BitVec.ofNat 16 p.arg.toNat ∧ t.gate.trkEn = false)) ∧
  (∀ (n : Nat) (h : FlueHdr) (p : KindleP) (s : State), Running s → Received n (frame 3 h p) s → s.pair.role = .standby → s.chg.st = .loading →
    s.chg.loadedOwn = some 0 →
    let u := flueHeard n (frame 3 h p) s
    exec (.kindleStart n h p) s = .next (settle (trackOn { u with chg := { u.chg with st := .precopy, passed := false } }))) ∧
  (∀ (n : Nat) (h : FlueHdr) (p : KindleP) (s : State), Running s → Received n (frame 4 h p) s → s.pair.role = .standby → s.chg.new.isSome = true →
    (s.chg.st = .precopy ∨ s.chg.st = .ready) →
    Answers (exec (.kindleGo n h p) s) fun t =>
      t.chg = { s.chg with st := .ready, swapBeat := p.arg, goSent := true, goAcked := true } ∧ t.mem = s.mem) ∧
  (∀ (n : Nat) (h : FlueHdr) (p : KindleP) (s : State), Running s → Received n (frame 5 h p) s → s.pair.role = .active → s.chg.st = .ready →
    s.chg.goSent = true → p.arg = s.chg.swapBeat →
    let u := flueHeard n (frame 5 h p) s
    exec (.kindleGoAck n h p) s = .next (settle { u with chg := { u.chg with goAcked := true } })) ∧
  (∀ (n : Nat) (h : FlueHdr) (p : KindleP) (s : State), Running s → Received n (frame 6 h p) s → s.pair.role = .standby → s.chg.st = .ready →
    let u := flueHeard n (frame 6 h p) s
    exec (.kindleNogo n h p) s = .next (settle { u with chg := { u.chg with goSent := false, goAcked := false } })) ∧
  (∀ (n : Nat) (h : FlueHdr) (p : KindleP) (s : State), Running s → Received n (frame 7 h p) s → s.pair.role = .standby → s.chg.st = .swap →
    bit p.flags 0 = false → s.chg.copied = false →
    let u := flueHeard n (frame 7 h p) s
    exec (.kindleDone n h p) s = .next (settle { u with chg := { u.chg with doneR := some p.arg.toNat } })) ∧
  (∀ (n : Nat) (h : FlueHdr) (p : KindleP) (s : State), Running s → Received n (frame 8 h p) s → s.pair.role = .standby → changeIdle s = false →
    Answers (exec (.kindleAbandon n h p) s) fun t =>
      t.chg.st = .abandoned ∧ t.chg.lastAbort = BitVec.ofNat 16 p.arg.toNat ∧ t.chg.new = none ∧ t.chg.image = [] ∧ t.gate.trkEn = false ∧
      t.mem = s.mem)

-- Folmonet (06) ---------------------------------------------------------------------------------------------------------------------------

/-- R197, R198, R202, R211, R212, R214, R217, R231. -/
def Obligations.FieldPortsComplete : Prop :=
  let port (n : Nat) (s : State) : Prop := Running s ∧ n < 4 ∧ s.fol.ports.length = 4 ∧ s.fol.cnts.length = 4
  let clean (n : Nat) (s : State) : Prop := port n s ∧ portUp s n = true ∧ s.mnt.running = false ∧ s.mnt.held = []
  (∀ (n : Nat) (s : State), port n s → (portOf s n).up = false →
    Answers (exec (.portUp n) s) fun t => (portOf t n).up = true ∧ bit (portOf t n).intStatus 3 = true ∧ t.fol.cnts = s.fol.cnts ∧ t.mem = s.mem) ∧
  (∀ (n : Nat) (s : State), port n s → (portOf s n).up = true →
    Answers (exec (.portDown n) s) fun t =>
      (portOf t n).up = false ∧ (portOf t n).through = 0 ∧ bit (portOf t n).intStatus 3 = true ∧
      (t.fol.cnts.getD n {}).linkDown = satInc (s.fol.cnts.getD n {}).linkDown ∧ t.fol.stations = s.fol.stations) ∧
  (∀ (n : Nat) (r : SfpRead) (s : State), port n s → r.fitted = true → r.txfault = false → r.alarm = false →
    Answers (exec (.sfpPoll n r) s) fun t =>
      (portOf t n).sfp = pack 8 [(7, 1), (6, b2n r.los), (4, b2n r.warn)] ∧ (portOf t n).sfpTold = ((portOf s n).sfpTold || !r.qualified) ∧
      (portOf t n).up = (portOf s n).up ∧ t.mem = s.mem) ∧
  (∀ (n x : Nat) (s : State), port n s → portUp s n = true →
    (exec (.folmonetFrameDiscard n .fcs x) s = .next (settle (setCnt n (fun c => { c with fcsErr := satInc c.fcsErr }) s))) ∧
    (exec (.folmonetFrameDiscard n .lowEpoch x) s =
      .next (settle (setCnt n (fun c => { c with rx := satInc c.rx, epochDisc := satInc c.epochDisc }) s)))) ∧
  (∀ (n : Nat) (h : FolHdr) (s : State), clean n s → h.epoch = s.pair.epoch → h.epoch ≠ 0xFFFFFFFF →
    Answers (exec (.throughCycleStart n h) s) fun t =>
      bit (portOf t n).through 0 = true ∧ (portOf t n).csrx = s.tim.time ∧ (t.fol.cnts.getD n {}).rx = satInc (s.fol.cnts.getD n {}).rx ∧
      t.pair.role = s.pair.role ∧ t.pair.epoch = s.pair.epoch ∧ t.mem = s.mem) ∧
  (∀ (n b : Nat) (h : FolHdr) (p : InputP) (x : Station) (s : State), clean n s → s.pair.role = .active → stationOf s h.station = some x → x.no = h.station →
    x.cfg.seg = n → (segOf s n).start = some b → (segOf s n).window = none → h.stamp = stampOf s n → pastLatch s x = false → x.got = false →
    x.st = .present → bit p.status 5 = false → h.epoch = s.pair.epoch → h.epoch ≠ 0xFFFFFFFF → p.gateEpoch.toNat ≤ s.pair.epoch.toNat →
    Answers (exec (.stationInput n h p) s) fun t =>
      (∃ y, stationOf t h.station = some y ∧ y.got = true ∧ y.noData = 0 ∧ y.st = .present ∧ y.lastStamp = h.stamp ∧ y.filter = h.epoch ∧
        y.gate = p.gateEpoch ∧ y.status = p.status ∧ y.refusals = p.refusals ∧ y.cfg = x.cfg) ∧
      t.pair.role = .active ∧ t.pair.epoch = s.pair.epoch ∧
      (s.mem.wf = true → x.cfg.inOff + x.cfg.inLen ≤ 0x40000 → (x.cfg.qOff < x.cfg.inOff ∨ x.cfg.inOff + x.cfg.inLen ≤ x.cfg.qOff) →
        readBytes t.mem (rxBase + x.cfg.inOff) x.cfg.inLen = fit x.cfg.inLen p.data)) ∧
  (∀ (n : Nat) (r : ProbeResp) (x : Station) (s : State), port n s → portUp s n = true → s.pair.role = .active → stationOf s r.station = some x →
    x.no = r.station → x.cfg.seg = n → (segOf s n).window = none → x.st = .absent → r.epoch = s.pair.epoch → r.epoch ≠ 0xFFFFFFFF → r.fromEnd < 2 →
    Answers (exec (.probeResp n r) s) fun t =>
      ∃ y, stationOf t r.station = some y ∧ y.st = (if r.typeid = x.cfg.typeId then .configuring else .mismatch) ∧ y.filter = r.epoch ∧
        (if r.fromEnd = 0 then y.delayA else y.delayB) = BitVec.ofNat 32 ((r.roundTrip - r.turnaround) / 2) ∧ y.cfg = x.cfg) ∧
  (∀ (n : Nat) (tid : Byte) (x : Station) (s : State), clean n s → s.pair.role = .active → s.fol.gateRsts = [] → stationOf s x.no = some x → x.cfg.seg = n →
    (segOf s n).window = none → x.st = .configuring → x.unacked = [tid] → s.pair.epoch ≠ 0xFFFFFFFF →
    Answers (exec (.stationWriteResp x.no s.pair.epoch tid 0) s) fun t =>
      (∃ y, stationOf t x.no = some y ∧ y.st = .present ∧ y.unacked = [] ∧ y.cfg = x.cfg) ∧ bit (portOf t n).intStatus 2 = true ∧ t.pair.role = .active) ∧
  (∀ (n : Nat) (word : Word) (s : State), port n s → bit word 0 = true →
    exec (.fptClear n .m word) s = .next { s with dic := leaveIdle s.dic, fol := { s.fol with cnts := modAt s.fol.cnts n (fun _ => {}) } })

/-- R202, R214, R217, R218, R220, R231, R528. -/
def Obligations.SegmentsComplete : Prop :=
  let active (n : Nat) (s : State) : Prop := Running s ∧ n < 4 ∧ s.fol.segs.length = 4 ∧ s.fol.ports.length = 4 ∧ s.pair.role = .active
  (∀ (n : Nat) (m : Master) (s : State), active n s → (segOf s n).st = .stopped → segmentChecks s n = true → tokenFree s (ownHolder s 4 n 0) = true →
    Answers (exec (.segmentStart n (.reg m .m 0xF0570001)) s) fun t =>
      (segOf t n).st = .probing ∧ (segOf t n).since = s.now ∧ (segOf t n).start = none ∧ t.mnt.holders = s.mnt.holders ++ [ownHolder s 4 n 0] ∧
      t.fol.stations = s.fol.stations.filter (fun x => x.cfg.seg != n) ++ (tableOf s.mem n).map (fun e => { no := e.1, cfg := e.2 }) ∧ t.mem = s.mem) ∧
  (∀ (n : Nat) (s : State), active n s → (segOf s n).st = .probing →
    Answers (exec (.probingEnd n) s) fun t =>
      (segOf t n).st = .running ∧ t.mnt.holders = s.mnt.holders.filter (fun x => !(x.code == 4 && x.arg == n)) ∧ bit (portOf t n).intStatus 0 = true ∧
      t.fol.stations = s.fol.stations ∧ t.mem = s.mem) ∧
  (∀ (n : Nat) (m : Master) (s : State), active n s → (segOf s n).st ≠ .stopped → tokenFree s (ownHolder s 4 n 0) = true →
    Answers (exec (.segmentStop n (.reg m .m 0xF0570002)) s) fun t =>
      (segOf t n).st = .stopped ∧ (segOf t n).start = none ∧ (segOf t n).window = none ∧ (portOf t n).waiting = [] ∧
      (∀ x ∈ t.fol.stations, x.cfg.seg = n → x.st = .absent) ∧ bit (portOf t n).intStatus 0 = true ∧ t.pair.role = .active) ∧
  (∀ (n : Nat) (m : Master) (s : State), active n s →
    Answers (exec (.segmentReprobe n (.reg m .m 0xF0570003)) s) fun t =>
      t.fol.segs = s.fol.segs ∧ t.fol.stations = s.fol.stations ∧ t.mnt.holders = s.mnt.holders ∧ t.mem = s.mem) ∧
  (∀ (n : Nat) (s : State), active n s → (portOf s n).cut = false → (endsInUse s n).length = 2 → bit (portOf s n).through 1 = false →
    Answers (exec (.continuityLost n) s) fun t =>
      (portOf t n).cut = true ∧ bit (portOf t n).intStatus 4 = true ∧ t.fol.stations = s.fol.stations ∧ t.mem = s.mem ∧
      (∀ x ∈ s.fol.stations, x.cfg.seg = n → x.endNow = 0 → x.got = true → x.st = .present → x.cfg.pos ≤ (portOf t n).cutAfter)) ∧
  (∀ (n : Nat) (s : State), active n s → (portOf s n).cut = true → bit (portOf s n).through 1 = true → bit (portOf s n).through 2 = true →
    Answers (exec (.continuityRestored n) s) fun t =>
      (portOf t n).cut = false ∧ (portOf t n).cutAfter = 0xFFFF ∧ bit (portOf t n).intStatus 4 = true ∧ t.fol.stations = s.fol.stations ∧ t.mem = s.mem) ∧
  (∀ (n : Nat) (x : Station) (s : State), active n s → stationOf s x.no = some x → x.cfg.seg = n → x.st = .present → max 1 x.cfg.subCnt ≤ x.noData →
    Answers (exec (.stationAbsent x.no) s) fun t =>
      (∃ y, stationOf t x.no = some y ∧ y.st = .absent ∧ y.cDrop = satInc x.cDrop ∧ y.cfg = x.cfg) ∧ bit (portOf t n).intStatus 1 = true) ∧
  (∀ (n : Nat) (x : Station) (s : State), active n s → stationOf s x.no = some x → x.cfg.seg = n → x.st = .configuring →
    Answers (exec (.configuringTimeout x.no) s) fun t =>
      ∃ y, stationOf t x.no = some y ∧ y.st = .absent ∧ y.cDrop = x.cDrop ∧ y.unacked = [] ∧ y.cfg = x.cfg) ∧
  (∀ (n e : Nat) (x : Station) (s : State), active n s → stationOf s x.no = some x → x.cfg.seg = n → x.st = .absent → (segOf s n).st = .probing →
    endsInUse s n = [e] → myEnd s = some e → maySendFol s = true → portUp s n = true → (portOf s n).txdis = false → s.mnt.running = false → s.mnt.held = [] →
    Answers (exec (.stationProbeTimer x.no) s) fun t =>
      (∃ f m, (portOf t n).out = (portOf s n).out ++ [{ f := f }] ∧ f.body = .service m ∧ m.op = 6 ∧ f.hdr.station = x.no ∧ f.hdr.epoch = s.pair.epoch) ∧
      t.fol.stations = s.fol.stations ∧ t.mem = s.mem) ∧
  (∀ (n e : Nat) (s : State), active n s → (segOf s n).st = .running → bit (portOf s n).cfg 3 = true → endsInUse s n = [e] → myEnd s = some e →
    timeNs s / 1000000000 ≠ (portOf s n).timeSec →
    Answers (exec (.timeFrameSend n) s) fun t =>
      (portOf t n).timeSec = timeNs s / 1000000000 ∧ t.mem = s.mem ∧
      ∃ f p, (portOf t n).waiting = (portOf s n).waiting ++ [f] ∧ f.body = .time p ∧ p.time = s.tim.time - BitVec.ofNat 64 (cycleT s n) ∧ f.hdr.station = 0xFFFF) ∧
  (∀ (n : Nat) (x : Station) (rq : Rq) (mt : Meta) (s : State), active n s → x.no < 2048 → stationOf s x.no = some x → x.cfg.seg = n → x.st ≠ .absent →
    (endFor s x).isSome = true → s.mnt.comm = true → Accepted (stationIdx x.no 5) 2 rq mt s →
    tokenFree s { code := 10, slot := mySlot s, arg := x.no, session := (writer (stationIdx x.no 5) 2 rq).session } = true →
    Answers (exec (.gateReset x.no rq) s) fun t =>
      (∃ g, t.fol.gateRsts = s.fol.gateRsts ++ [g] ∧ g.station = x.no ∧ g.tid = s.fol.tid ∧ g.client = some (writer (stationIdx x.no 5) 2 rq)) ∧
      t.mnt.holders = s.mnt.holders ++ [{ code := 10, slot := mySlot s, arg := x.no, session := (writer (stationIdx x.no 5) 2 rq).session }])

-- Cord (07) ---------------------------------------------------------------------------------------------------------------------------------

/-- R240 to R244, R249 to R253, R256, R260 and R306. The signature check and the image checks stand in the conclusions: the spec gives their functions by name only. -/
def Obligations.MailboxComplete : Prop :=
  let ready (s : State) : Prop := Running s ∧ s.cord.ilock = true
  (∀ (c : Nat) (seq : Word) (s : State), Running s → s.cord.busy = false → seq = s.cord.rspDoor + 1 →
    exec (.reqDoor (.core c) .m seq) s = .next { s with
      dic := leaveIdle s.dic, cord := { s.cord with reqDoor := seq, busy := true, mbxReq := seq, intStatus := setBit s.cord.intStatus 0 } }) ∧
  (∀ (m : Master) (level : Level) (seq : Word) (s : State), Running s → (level ≠ .m ∨ s.cord.busy = true ∨ seq ≠ s.cord.rspDoor + 1) →
    exec (.reqDoor m level seq) s = .next { s with dic := leaveIdle s.dic, cord := { s.cord with mbxErr := satInc s.cord.mbxErr } }) ∧
  (∀ (s : State), Running s → s.cord.busy = true →
    exec (.crdMbxRsp s.cord.mbxReq) s =
      .next (settle (ring 72 { s with cord := { s.cord with rspDoor := s.cord.mbxReq, busy := false, rspUnread := true } }))) ∧
  (∀ (m : MbxRq) (s : State), Running s → ((m.arg0 = 1 ∧ s.cord.ilock = false) ∨ (m.arg0 = 2 ∧ s.cord.ilock = true ∧ s.cord.uclock = false ∧ s.cord.load = none)) →
    exec (.loadBegin m) s = .next (settle (mbxDone 0x0001 { status := 0 }
      { s with cord := { s.cord with load := some { what := m.arg0.toNat, len := m.arg1.toNat, data := [] } } }))) ∧
  (∀ (m : MbxRq) (j : LoadJob) (s : State), Running s → s.cord.load = some j → m.arg0.toNat + m.data.length ≤ j.len →
    exec (.loadData m) s = .next (settle (mbxDone 0x0002 { status := 0 }
      { s with cord := { s.cord with load := some { j with data := overlay j.data m.arg0.toNat m.data } } }))) ∧
  (∀ (m : MbxRq) (j : LoadJob) (s : State), Running s → s.cord.load = some j → j.what = 1 →
    let h := fit 64 j.data ++ fit 64 m.data
    let r := if j.data.length ≠ j.len then 0x2804 else imageCheck s 3 true h (j.data.drop 64)
    Answers (exec (.loadEnd m) s) fun t => MbxAnswered 0x0003 { status := r } s t ∧ t.cord.load = none ∧
      if r = 0 then t.cord.ilock = true ∧ t.cord.firmware = loadedImage h (j.data.drop 64) ∧ t.sup.cordUp = true
      else t.cord.ilock = s.cord.ilock ∧ t.cord.firmware = s.cord.firmware ∧ t.sup.faultLed = true) ∧
  (∀ (m : MbxRq) (s : State), ready s →
    exec (.ident m) s = .next (settle (mbxDone 0x0010
      { status := 0, data := readBytes s.mem windowBase 128 ++ le4 Config.serial.toNat ++ deviceKey s.ks } s))) ∧
  (∀ (m : MbxRq) (x : Nat × Nat × Meta) (s : State), ready s → legalAt (m.arg0.toNat / 256) (m.arg0.toNat % 256) = some x →
    exec (.objRead m) s = .next (settle (mbxDone 0x0011
      { status := 0, data := le8 (legalVal s.legal (m.arg0.toNat / 256) (m.arg0.toNat % 256)) } s))) ∧
  (∀ (m : MbxRq) (n j : Nat) (mt : Meta) (s : State), ready s → gateVerifier m s = 0 →
    legalAt (m.arg0.toNat / 256) (m.arg0.toNat % 256) = some (n, j, mt) → chanSt s n ≠ .inService → m.data.length = 8 →
    legalFits j (m.arg0.toNat % 256) mt (leAt m.data 0 8) = true → TrailOpen 1 s →
    legalVal s.legal (m.arg0.toNat / 256) (m.arg0.toNat % 256) ≠ leAt m.data 0 8 →
    Answers (exec (.objWrite m) s) fun t => MbxAnswered 0x0012 { status := 0 } s t ∧
      t.legal = putLegal s.legal (m.arg0.toNat / 256) (m.arg0.toNat % 256) (leAt m.data 0 8) ∧ t.aud.used = s.aud.used + 1 ∧
      t.aud.sealNo = s.aud.sealNo + 1) ∧
  (∀ (m : MbxRq) (s : State), ready s → s.cord.switchSet = true →
    exec (.vChallenge m) s = .next (settle (mbxDone 0x0020 { status := 0, data := randomBytes s.freeCtr 32 }
      { s with freeCtr := s.freeCtr + 1, cord := { s.cord with challenge := some (randomBytes s.freeCtr 32, s.now) } }))) ∧
  (∀ (m : MbxRq) (c : List Byte) (t0 : Nat) (k : Cred) (s : State), ready s → s.cord.switchSet = true → s.cord.lockUntil ≤ s.now → s.cord.sess = none →
    s.cord.session = false → s.cord.challenge = some (c, t0) → s.now - t0 ≤ 60000000000 → credAt s.ks (leAt m.data 0 1) = some k → k.level = 3 → m.data.length = 68 →
    TrailOpen 4 s →
    let handle : Word := BitVec.ofNat 32 (s.cord.handles + 1)
    tokenFree s (ownHolder s 6 0 handle.toNat) = true →
    Answers (exec (.vProve m) s) fun t =>
      t.cord.challenge = none ∧
      if Config.ed25519Verify k.key (c ++ le4 Config.serial.toNat) (slice m.data 4 64) then
        MbxAnswered 0x0021 { status := 0, res0 := handle.toNat } s t ∧
        t.cord.sess = some { handle := handle, slot := leAt m.data 0 1, actor := actorWord (leAt m.data 0 1) k.key } ∧ t.cord.session = true ∧
        t.cord.vmode = true ∧ t.aud.used = s.aud.used + 1 ∧ t.mnt.holders = s.mnt.holders ++ [ownHolder s 6 0 handle.toNat]
      else MbxAnswered 0x0021 { status := 0x2504 } s t ∧ t.cord.sess = none ∧ t.cord.vmode = s.cord.vmode ∧ t.aud = s.aud ∧
        t.mnt.holders = s.mnt.holders) ∧
  (∀ (m : MbxRq) (v : VSess) (s : State), ready s → s.cord.sess = some v → v.handle = m.session →
    Answers (exec (.vClose m) s) fun t => MbxAnswered 0x0022 { status := 0 } s t ∧ t.cord.sess = none ∧ t.cord.session = false ∧ t.cord.vmode = false ∧
      t.mnt.holders = s.mnt.holders.filter (fun h => !(h.code == 6 && h.slot == mySlot s))) ∧
  (∀ (m : MbxRq) (s : State), ready s → gateVerifier m s = 0 → m.arg0.toNat < 128 → chanSt s m.arg0.toNat = .unconfigured → TrailOpen 6 s →
    Answers (exec (.channelTest m) s) fun t => MbxAnswered 0x0023 { status := 0 } s t ∧
      t.legal.chans = putAt s.legal.chans m.arg0.toNat .test ∧ t.legal.vals = s.legal.vals ∧ t.aud.used = s.aud.used + 1) ∧
  (∀ (m : MbxRq) (s : State), ready s → gateVerifier m s = 0 → m.arg0.toNat < 128 → chanSt s m.arg0.toNat = .test → TrailOpen 7 s →
    Answers (exec (.channelService m) s) fun t =>
      if serviceOk s m.arg0.toNat then MbxAnswered 0x0024 { status := 0 } s t ∧ t.legal.chans = putAt s.legal.chans m.arg0.toNat .inService ∧
        t.aud.used = s.aud.used + 1
      else MbxAnswered 0x0024 { status := 0x250A } s t ∧ t.legal = s.legal ∧ t.aud = s.aud) ∧
  (∀ (m : MbxRq) (s : State), ready s → m.arg0.toNat ≠ 0 → m.arg1.toNat ≠ 0 → m.arg1.toNat ≤ 256 →
    exec (.auditRead m) s = .next (settle (mbxDone 0x0030
      { status := 0, res0 := (auditBlock m.arg0.toNat m.arg1.toNat s).1, data := (auditBlock m.arg0.toNat m.arg1.toNat s).2 } s)))

/-- R238, R239, R245, R248, R250, R255 to R257, R259, R268 and R269. -/
def Obligations.CordBlocksComplete : Prop :=
  (∀ (id : List Byte) (s : State), Running s → s.cord.ilock = true → id ≠ s.cord.legalId →
    Answers (exec (.legalIdRecheck id) s) fun t => StoppedBy 0x03 0x80 t ∧ t.cord = s.cord ∧ t.mem = s.mem) ∧
  (∀ (unit : Nat) (s : State), Running s → s.cord.ilock = true → unit < 2 → s.mem.wf = true →
    let a := windowBase + 0x40 * unit
    let c := if readLe s.mem a 4 = 0xFFFFFFFF then 1 else readLe s.mem a 4 + 1
    Answers (exec (.statusRepublish unit) s) fun t =>
      readBytes t.mem a 64 = le4 c ++ fit 56 (if unit = 0 then unit0 s else unit1 s) ++ le4 c ∧
      (∀ b, b < a ∨ a + 64 ≤ b → readByte t.mem b = readByte s.mem b) ∧ t.aud = s.aud ∧ t.cord = s.cord) ∧
  (∀ (s : State), Running s → s.cord.switchSet = false →
    Answers (exec (.verificationSwitchChange true) s) fun t =>
      t.cord.switchSet = true ∧ t.cord.changes = min 65535 (s.cord.changes + 1) ∧ t.cord.vmode = s.cord.vmode ∧ t.cord.sess = s.cord.sess ∧
      { t with cord := s.cord, dic := s.dic } = s) ∧
  (∀ (s : State), Running s → s.cord.switchSet = true →
    Answers (exec (.verificationSwitchChange false) s) fun t =>
      t.cord.switchSet = false ∧ t.cord.changes = min 65535 (s.cord.changes + 1) ∧ t.cord.vmode = false ∧ t.cord.sess = none ∧ t.legal = s.legal) ∧
  (∀ (v : VSess) (s : State), Running s → s.cord.sess = some v →
    Answers (exec .verifierSessionTimeout s) fun t => t.cord.sess = none ∧ t.cord.session = false ∧ t.cord.vmode = false ∧ t.legal = s.legal) ∧
  (∀ (word : Word) (s : State), Running s → fld word 16 16 = 0x7E51 → bit word 0 = true → bit word 1 = true → s.cord.switchSet = true →
    exec (.crdMode word) s = .next { s with dic := leaveIdle s.dic, cord := { s.cord with session := true, vmode := true } }) ∧
  (∀ (word : Word) (s : State), Running s → fld word 16 16 = 0xA0D1 →
    let stage := s.aud.stage.flatMap (fun w => le4 w.toNat)
    let kind := leAt stage 4 1
    let n := s.aud.used + 1
    let sl := s.aud.sealNo.toNat + b2n (counts kind)
    (TrailOpen kind s → s.aud.stage.length = 16 → Answers (exec (.audAppend word true) s) fun t =>
      t.aud.used = n ∧ t.aud.sealNo = BitVec.ofNat 32 sl ∧ t.aud.result = 0 ∧ bit t.aud.intStatus 0 = true ∧
      (s.mem.wf = true → readBytes t.mem (entryAddr n) 64 = entryBytes stage n sl (timeNs s) s.aud.lastCrc.toNat) ∧
      (∀ b, b < entryAddr n ∨ entryAddr n + 64 ≤ b → readByte t.mem b = readByte s.mem b) ∧
      { t with aud := s.aud, mem := s.mem, dic := s.dic } = s) ∧
    (audRefuse kind s ≠ 0 → exec (.audAppend word true) s = .next { s with
      dic := leaveIdle s.dic, aud := { s.aud with result := audRefuse kind s, intStatus := setBit s.aud.intStatus 0 } })) ∧
  (∀ (v : DWord) (s : State), Running s → s.aud.inited = false →
    Answers (exec (.audInit v) s) fun t => t.aud.inited = true ∧ t.aud.used = fld v 0 32 ∧ t.aud.sealNo = BitVec.ofNat 32 (fld v 32 32) ∧
      { t with aud := s.aud, dic := s.dic } = s) ∧
  (∀ (word : Word) (s : State), Running s → bit word 0 = true → s.aud.used < audMax → slotValid s.mem (s.aud.used + 1) = false →
    exec (.audErase word) s = .next { s with
      dic := leaveIdle s.dic, mem := clearRange s.mem (entryAddr (s.aud.used + 1)) (entryAddr (s.aud.used + 1) + 64) }) ∧
  (∀ (s : State), Running s → s.cord.ilock = true → s.cord.running = false →
    Answers (exec .cordStartScan s) fun t => t.cord.running = true ∧ t.pair.role = s.pair.role) ∧
  (∀ (word : Word) (s : State), Running s → fld word 0 16 = 0xC0D1 →
    exec (.crdWdog word) s = .next { s with dic := leaveIdle s.dic, cord := { s.cord with wdArmed := true } }) ∧
  (∀ (s : State), Running s → s.cord.wdArmed = true →
    Answers (exec .cordWatchdogExpiry s) fun t => StoppedBy 0x05 0x80 t ∧ t.mem = s.mem ∧ t.aud = s.aud) ∧
  (∀ (word : Word) (s : State), Running s → bit word 0 = true → exec (.crdNotify word) s = .next (settle (ring 73 s)))

-- the scale engine (08) -----------------------------------------------------------------------------------------------------------------------

/-- R285 to R287, R290, R291, R297, R298, R302 and R308. -/
def Obligations.ScaleCommandsComplete : Prop :=
  let due (n p cmd : Nat) (k : ScaleCmd) (s : State) : Prop := Running s ∧ s.scl.run = true ∧ s.scl.ingress = true ∧ physOf s n = some p ∧
    p < s.scl.chans.length ∧ k.cmd = cmd ∧ (scCh s p).cmds = [k] ∧ 1 ≤ chInstr (scCh s p) ∧ chInstr (scCh s p) ≤ 5
  let told (k : ScaleCmd) (r : Nat) (c : ScCh) : ScCh := { c with cseq := k.cseq, cmd := k.cmd, cresult := r, cmds := [] }
  let fit_ (c : ScCh) : Prop := c.ovr = false ∧ c.under = false ∧ c.stable = true
  (∀ (n p : Nat) (k : ScaleCmd) (s : State), due n p 1 k s → fit_ (scCh s p) → (scCh s p).nozero = false →
    fLe (zeroLo (scCh s p)) (scCh s p).m = true → fLe (scCh s p).m (zeroHi (scCh s p)) = true →
    Answers (exec (.zero n) s) fun t => scCh t p = told k 0 { scCh s p with z := (scCh s p).m } ∧ t.legal = s.legal ∧ t.aud = s.aud) ∧
  (∀ (n p : Nat) (k : ScaleCmd) (s : State), due n p 1 k s → (scCh s p).ovr = false → (scCh s p).under = false → (scCh s p).stable = false →
    Answers (exec (.zero n) s) fun t => scCh t p = told k 1 (scCh s p)) ∧
  (∀ (n p : Nat) (k : ScaleCmd) (T : Int) (s : State), due n p 2 k s → (chInstr (scCh s p) = 1 ∨ chInstr (scCh s p) = 3) → fit_ (scCh s p) →
    bit (prmF (scCh s p) 0x0C 1) 0 = true → fLt 0 (gOf (scCh s p)) = true → roundTo (gOf (scCh s p)) (eTare (scCh s p)) = some T → 0 < T →
    T ≤ (prm (scCh s p) 0x0C 2 : Int) →
    Answers (exec (.semiAutomaticTare n) s) fun t => scCh t p = told k 0 { scCh s p with tare := T, preset := false } ∧ t.legal = s.legal) ∧
  (∀ (n p : Nat) (k : ScaleCmd) (T : Int) (s : State), due n p 3 k s → (chInstr (scCh s p) = 1 ∨ chInstr (scCh s p) = 3) → fit_ (scCh s p) →
    bit (prmF (scCh s p) 0x0C 1) 1 = true → roundTo (fOfInt k.arg) (eTare (scCh s p)) = some T → 0 < T → T ≤ (prm (scCh s p) 0x0C 2 : Int) →
    Answers (exec (.presetTare n) s) fun t => scCh t p = told k 0 { scCh s p with tare := T, preset := true } ∧ t.legal = s.legal) ∧
  (∀ (n p : Nat) (k : ScaleCmd) (s : State), due n p 4 k s → (chInstr (scCh s p) = 1 ∨ chInstr (scCh s p) = 3) → prm (scCh s p) 0x0C 1 ≠ 0 →
    Answers (exec (.clearTare n) s) fun t => scCh t p = told k 0 { scCh s p with tare := 0, preset := false } ∧ t.legal = s.legal) ∧
  (∀ (n p : Nat) (k : ScaleCmd) (s : State), due n p 5 k s → (chInstr (scCh s p) = 2 ∨ chInstr (scCh s p) = 3 ∨ chInstr (scCh s p) = 5) →
    (scCh s p).stable = true → (scCh s p).ins.open_ = false →
    Answers (exec (.weighingStart n) s) fun t =>
      let c := scCh t p
      c.ins.open_ = true ∧ c.ins.sum = 0 ∧ c.ins.count = 0 ∧ c.cseq = k.cseq ∧ c.cmd = 5 ∧ c.cresult = 0 ∧ c.cmds = [] ∧
      { c with ins := (scCh s p).ins } = told k 0 (scCh s p)) ∧
  (∀ (n p : Nat) (k : ScaleCmd) (s : State), due n p 6 k s → (chInstr (scCh s p) = 2 ∨ chInstr (scCh s p) = 3 ∨ chInstr (scCh s p) = 5) →
    (scCh s p).stable = true → (scCh s p).ins.open_ = true →
    Answers (exec (.weighingEnd n) s) fun t =>
      let c := scCh t p
      c.ins.open_ = false ∧ (∃ d, c.due = (scCh s p).due ++ [d] ∧ d.gap = (scCh s p).ins.gap ∧ d.kind = (match chInstr (scCh s p) with | 2 => 2 | 3 => 3 | _ => 6)) ∧
      { c with ins := (scCh s p).ins, due := (scCh s p).due } = told k 0 (scCh s p)) ∧
  (∀ (n p : Nat) (k : ScaleCmd) (s : State), due n p 7 k s → (chInstr (scCh s p) = 2 ∨ chInstr (scCh s p) = 3) →
    Answers (exec (.resetTotals n) s) fun t =>
      scCh t p = told k 0 { scCh s p with ins := { (scCh s p).ins with total := 0, zone := 0, batchSum := 0 } } ∧ t.legal = s.legal) ∧
  (∀ (n p : Nat) (s : State), Running s → physOf s n = some p → (scCh s p).st = .running → (scCh s p).nozero = true → (scCh s p).zeroTold = false →
    filling (scCh s p) = false →
    exec (.initialZeroTimeout n) s = .next (settle (post 0x0516 0x80 (u8 n) { s with
      scl := { s.scl with chans := putAt s.scl.chans p { scCh s p with zeroTold := true } } }))) ∧
  (∀ (s : State), Running s → s.scl.run = true → ((scCh s (selPhys s)).st = .idle ∨ (scCh s (selPhys s)).st = .spare) →
    exec .sclStart s = .next (settle (putCh (selPhys s) { filtersRestart (scCh s (selPhys s)) with st := .running } s))) ∧
  (∀ (s : State), Running s → selPhys s < s.scl.chans.length → (scCh s (selPhys s)).st = .running →
    Answers (exec .sclStop s) fun t => (scCh t (selPhys s)).st = .idle ∧ (scCh t (selPhys s)).cmds = [] ∧ t.legal = s.legal ∧ t.mem = s.mem) ∧
  (∀ (s : State), Running s → selPhys s < s.scl.chans.length → (∀ h ∈ (scCh s (selPhys s)).pubs, h.lastIdx ≠ s.scl.adoptIdx) →
    Answers (exec .sclAdopt s) fun t =>
      (scCh t (selPhys s)).tare = s.scl.adoptTare.toInt ∧ (scCh t (selPhys s)).seq = s.scl.adoptSeq ∧ (scCh t (selPhys s)).st = (scCh s (selPhys s)).st ∧
      { t with scl := s.scl, dic := s.dic } = s) ∧
  (∀ (s : State), Running s →
    exec .sclRetire s = .next (settle (putCh (selPhys s) { scCh s (selPhys s) with st := .retired } s)))

-- the object dictionary (09) --------------------------------------------------------------------------------------------------------------------

/-- R315 to R320, R322 to R325, R327, R333, R335. The signature check and the host-variable marks stand in the conclusions. -/
def Obligations.SessionsComplete : Prop :=
  let open_ (n : Nat) (s : State) : Prop := Running s ∧ s.od.conns.contains n = true ∧ (∀ x ∈ s.od.sessions, x.xfer = none ∧ x.revoked = false)
  let client (n h : Nat) (tid : Byte) : Client := { path := .service n, session := h, tid := tid, index := 0, sub := 0 }
  (∀ (n : Nat) (s : State), Running s → s.od.conns.contains n = false → s.od.conns.length < 4 →
    exec (.serviceConnection n) s = .next { s with dic := leaveIdle s.dic, od := { s.od with conns := s.od.conns ++ [n], linkUp := true } }) ∧
  (∀ (n : Nat) (s : State), Running s → s.od.conns.contains n = true →
    Answers (exec (.serviceConnectionEnd n) s) fun t =>
      t.od.conns = s.od.conns.erase n ∧ (∀ x ∈ t.od.sessions, samePath x.path (.service n) = false) ∧ t.od.vals = s.od.vals) ∧
  (∀ (n : Nat) (tid level : Byte) (s : State), open_ n s → openRefused (.service n) level.toNat s = 0 →
    Answers (exec (.sessionOpen (.service n) tid level) s) fun t =>
      let ch := if level = 0 then [] else randomBytes s.freeCtr 32
      (∃ x, t.od.sessions = s.od.sessions ++ [x] ∧ x.handle = newHandle s ∧ x.level = level.toNat ∧ x.proven = (level == 0) ∧ x.challenge = ch ∧
        x.path = .service n ∧ x.openedAt = s.now) ∧
      ∃ m, t.out = s.out ++ [.reply (.service n) m] ∧ m.op = 0x14 ∧ m.tid = tid ∧ m.session = BitVec.ofNat 16 (newHandle s) ∧ m.data = ch) ∧
  (∀ (n h : Nat) (tid slot : Byte) (sig : List Byte) (x : Session) (s : State), open_ n s → sessionOn s h (.service n) = some x → x.handle = h →
    x.proven = false → s.od.lockUntil ≤ s.now →
    Answers (exec (.sessionProve (.service n) tid h slot sig) s) fun t =>
      if proveHolds x slot.toNat sig s then
        t.od.sessions = s.od.sessions.map (fun y => if y.handle = h then { x with proven := true, cred := some slot.toNat, challenge := [] } else y) ∧
        t.od.failCount = s.od.failCount
      else t.od.sessions = s.od.sessions ∧ t.od.failCount = satInc s.od.failCount ∧
        ∃ m, t.out = s.out ++ [.reply (.service n) m] ∧ m.op = 5 ∧ m.arg = 0x060C) ∧
  (∀ (n h : Nat) (tid : Byte) (x : Session) (s : State), open_ n s → sessionOn s h (.service n) = some x →
    Answers (exec (.sessionClose (.service n) tid h) s) fun t => (∀ y ∈ t.od.sessions, y.handle ≠ h) ∧ t.od.conns = s.od.conns) ∧
  (∀ (n h : Nat) (tid : Byte) (x : Session) (s : State), open_ n s → sessionOn s h (.service n) = some x →
    exec (.sessionKeepalive (.service n) tid h) s = .next (settle (respond (client n h tid) 0x17 0 [] s))) ∧
  (∀ (h : Nat) (x : Session) (s : State), Running s → x ∈ s.od.sessions → x.handle = h → x.proven = false →
    Answers (exec (.proveTimeout h) s) fun t => (∀ y ∈ t.od.sessions, y.handle ≠ h) ∧ t.od.conns = s.od.conns) ∧
  (∀ (h : Nat) (s : State), Running s →
    Answers (exec (.sessionIdleTimeout h) s) fun t => (∀ y ∈ t.od.sessions, y.handle ≠ h) ∧ t.od.conns = s.od.conns) ∧
  (∀ (n : Nat) (m : SvcMsg) (v : List Byte) (s : State), open_ n s → m.data = [] → m.arg = 0 →
    (checkAccess (clientOf (.service n) m) false [] s = 0 → readObj m.index.toNat m.sub.toNat s = (s, 0, v) → v.length ≤ 32768 →
      exec (.serviceRead m (.service n)) s = .next (settle (respondSeg (clientOf (.service n) m) 0 false v s))) ∧
    (checkAccess (clientOf (.service n) m) false [] s ≠ 0 →
      exec (.serviceRead m (.service n)) s =
        .next (settle (abort (clientOf (.service n) m) (checkAccess (clientOf (.service n) m) false [] s) s)))) ∧
  (∀ (rq : Rq) (mt : Meta) (s : State), Running s → Accepted 0x1710 2 rq mt s → AreaOpen s →
    Answers (exec (.serviceWrite (objMsg 0x1710 2 rq) rq.path) s) fun t =>
      cfgVal t 0x1710 2 = rq.value ∧ t.od.sessions = s.od.sessions ∧ ∃ m, t.out = s.out ++ [.reply rq.path m] ∧ m.op = 4 ∧ m.tid = rq.tid) ∧
  (∀ (h : Nat) (s : State), Running s →
    let late := s.od.sessions.map (fun y => if y.handle = h then { y with xfer := y.xfer.map (fun t => { t with late := true, data := [] }) } else y)
    exec (.segmentTransferTimeout h) s = .next { s with dic := leaveIdle s.dic, od := { s.od with sessions := late } }) ∧
  (∀ (n h : Nat) (tid : Byte) (es : List HostE) (x : Session) (s : State), open_ n s → sessionOn s h (.service n) = some x → x.proven = true →
    1 ≤ x.level → h < 65536 → s.pair.role = .active → es ≠ [] → (es.map (fun e => 6 + e.value.length)).sum ≤ 32768 →
    Answers (exec (.hostwrite tid (.service n) h es) s) fun t =>
      match (es.map (hostRefused s)).find? (fun r => r != 0) with
      | none => t.od.progWs = s.od.progWs ++
          es.map (fun e => { sym := e.symid, elem := 0, value := e.value, entry := none, client := some (client n h tid), carried := false }) ∧ t.out = s.out
      | some r => t.od.progWs = s.od.progWs ∧ ∃ m, t.out = s.out ++ [.reply (.service n) m] ∧ m.op = 0x21 ∧ m.arg = BitVec.ofNat 32 r) ∧
  (∀ (rq : Rq) (mt : Meta) (s : State), Running s → Accepted 0x1712 1 rq mt s → AreaOpen s → s.pair.role = .offline → reachActive s = none →
    tokenFree s (ownHolder s 7 0 (writer 0x1712 1 rq).session) = true →
    Answers (exec (.restore rq) s) fun t =>
      t.od.vals = s.od.vals.filter (fun x => !inScope (beNat rq.value) x) ∧ t.od.restartAt = some (s.now + 100000000) ∧
      t.mnt.holders = s.mnt.holders ++ [ownHolder s 7 0 (writer 0x1712 1 rq).session] ∧ t.pair.role = .offline ∧
      ∃ m, t.out = s.out ++ [.reply rq.path m] ∧ m.op = 4 ∧ m.tid = rq.tid)

/-- R327 to R329 and R332. -/
def Obligations.ObjWriteFramesComplete : Prop :=
  let frame (op : Nat) (h : FlueHdr) (p : ObjWriteP) : FlueFrame := ⟨h, .objWrite { p with op := op }⟩
  (∀ (n : Nat) (h : FlueHdr) (e : ObjE) (txn : Word) (b : DWord) (s : State),
    let p : ObjWriteP := { op := 1, txn := txn, beat := b, arg := 0, entries := [e] }
    Running s → Received n (frame 1 h p) s → bit h.flags 1 = false → txn ≠ 0 → s.pair.role = .standby → s.pair.sub = .synchronised →
    s.od.rxParts = [] → entryCheck s e = 0 → isResume e.index.toNat e.sub.toNat = false → AreaOpen s → s.cyc.beat.toNat < b.toNat →
    Answers (exec (.objwriteApply n h p) s) fun t =>
      t.od.taken = s.od.taken ++ [{ no := txn, beat := b.toNat, entries := [e] }] ∧ cfgVal t e.index.toNat e.sub.toNat = e.value ∧
      t.od.agree = 1 ∧ t.od.peerCfgId = configId t ∧ t.pair.role = .standby ∧ t.pair.sub = .synchronised ∧ t.mem = s.mem) ∧
  (∀ (n : Nat) (h : FlueHdr) (p : ObjWriteP) (x : Txn) (s : State), Running s → Received n (frame 2 h p) s → s.pair.role = .active →
    s.od.txns.find? (fun t => t.no == p.txn) = some x → x.cfgId = p.arg →
    Answers (exec (.objwriteAck n h p) s) fun t =>
      t.od.txns = s.od.txns.map (fun y => if y.no = p.txn then { y with acked := true } else y) ∧ t.od.agree = 1 ∧ t.od.peerCfgId = p.arg ∧
      t.od.vals = s.od.vals ∧ t.pair.role = .active ∧ t.mem = s.mem) ∧
  (∀ (n : Nat) (h : FlueHdr) (p : ObjWriteP) (s : State), Running s → Received n (frame 3 h p) s → s.pair.role = .active →
    Answers (exec (.objwriteNack n h p) s) fun t =>
      t.od.txns = s.od.txns.map (fun y => if y.no = p.txn then { y with acked := true } else y) ∧ t.od.agree = 0 ∧ t.od.vals = s.od.vals ∧
      t.pair.role = .active ∧ t.mem = s.mem) ∧
  (∀ (n : Nat) (h : FlueHdr) (e : ObjE) (txn : Word) (s : State),
    let p : ObjWriteP := { op := 4, txn := txn, beat := 0, arg := 0, entries := [e] }
    Running s → Received n (frame 4 h p) s → bit h.flags 1 = false → s.pair.role = .active → s.od.rxParts = [] → e.index = 0x1100 → e.sub = 6 → AreaOpen s →
    Answers (exec (.objwriteForward n h p) s) fun t =>
      (∃ x, t.od.txns = s.od.txns ++ [x] ∧ x.forward = some txn ∧ x.client = none ∧ x.beat = applyBeat s ∧ x.entries = [entryE 0x1100 6 e.value]) ∧
      cfgVal t 0x1100 6 = e.value ∧ t.pair.role = .active ∧ t.mem = s.mem) ∧
  (∀ (n : Nat) (h : FlueHdr) (p : ObjWriteP) (f : Fwd) (c : Client) (s : State), Running s → Received n (frame 5 h p) s →
    s.od.forwards.find? (fun f => f.no == p.txn) = some f → f.client = some c → activityOf c.index c.sub f.value = none →
    let u := flueHeard n (frame 5 h p) s
    exec (.objwriteResult n h p) s = .next (settle (
      if p.arg = 0 then respond c 4 0 [] { u with od := { u.od with forwards := s.od.forwards.erase f } }
      else abort c p.arg.toNat { u with od := { u.od with forwards := s.od.forwards.erase f } }))) ∧
  (∀ (f : Fwd) (c : Client) (s : State), Running s → s.od.forwards.find? (fun g => g.no == f.no) = some f → f.client = some c → s.pair.role ≠ .active →
    exec (.forwardTimeout f.no) s = .next (settle (abort c 0x060E { s with od := { s.od with forwards := s.od.forwards.erase f } })))

-- clocks and time (10) ------------------------------------------------------------------------------------------------------------------------

/-- R342, R343, R350 to R354, R473. -/
def Obligations.ClockSourcesComplete : Prop :=
  let held (code : Nat) (s t : State) : Prop :=
    t.pair.role = .clockHold ∧ Silent t ∧ t.sup.kilnHeld = true ∧ t.sup.rickHeld = true ∧ t.sup.bankHeld = true ∧ t.sup.cordHeld = true ∧
    t.clk.lastFail = code ∧ t.clk.phase = .xt1 ∧ t.clk.xt1 = {} ∧ t.clk.pllc = {} ∧ t.clk.pllf = {} ∧ t.clk.plln = {} ∧
    t.clk.holdCount = satInc s.clk.holdCount ∧ t.clk.holds = s.now :: s.clk.holds.filter (fun x => decide (s.now - x < 3600000000000)) ∧
    (s.clk.holdLimit = false → t.clk.holdLimit = decide (3 ≤ t.clk.holds.length)) ∧
    t.pair.epoch = s.pair.epoch ∧ t.mem = s.mem ∧ t.jrn.segs = s.jrn.segs ∧ t.od.vals = s.od.vals ∧ t.ks = s.ks ∧ t.aud = s.aud ∧
    t.hw = s.hw ∧ t.upd = s.upd ∧ t.gate = s.gate
  (∀ (s : State), s.hw.porReleased = false → s.hw.powerDown = false →
    Answers (exec .seatedRead s) fun t =>
      t.hw.porReleased = true ∧ t.hw.seated = true ∧ t.clk.phase = .xt1 ∧ t.sup.kilnHeld = true ∧ t.pair.role = .offline ∧ Silent t ∧
      t.hw.cntInsert = (if s.hw.seatChanged then satInc s.hw.cntInsert else s.hw.cntInsert) ∧ t.od.vals = s.od.vals ∧ t.jrn.segs = s.jrn.segs) ∧
  (∀ (s : State), s.clk.phase = .xt1 →
    exec (.sourceJudged .xt1) s = .next (settle { s with clk := { s.clk with xt1 := { judged := true }, phase := .loops } })) ∧
  (∀ (s : State), s.clk.phase = .loops → s.clk.xt1.judged = true → s.clk.pllc.judged = true → s.clk.pllf.judged = true →
    exec (.sourceJudged .plln) s = .next (settle { s with
      clk := { s.clk with phase := .ready, plln := { judged := true } }
      sup := if s.pair.role = .clockHold then
          { s.sup with atStart := s.sup.atStart ++ evRecs (if s.clk.holdLimit then 0x0702 else 0x0701) 0x00 [] }
        else s.sup })) ∧
  (∀ (s : State), s.clk.phase = .xt1 → s.pair.role ≠ .clockHold → Answers (exec .xt1StartTimeout s) fun t => held 1 s t) ∧
  (∀ (src : Source) (s : State), Running s → s.pair.role ≠ .clockHold → src ≠ .xt2 → src ≠ .sirc →
    Answers (exec (.clockSourceFailure src) s) fun t =>
      held (match src with | .xt1 => 1 | .firc => 2 | .pllc => 3 | .pllf => 4 | _ => 5) s t) ∧
  (∀ (s : State), Running s →
    Answers (exec (.slowSourceFailure .xt2) s) fun t =>
      t.tim.onSirc = true ∧ t.clk.xt2 = {} ∧ bit t.clk.hckInt 0 = true ∧ bit t.tim.rtcInt 1 = true ∧ t.pair = s.pair ∧ t.clk.phase = .run ∧ t.mem = s.mem) ∧
  (∀ (s : State), Running s →
    Answers (exec (.slowSourceFailure .sirc) s) fun t =>
      t.clk.sirc = false ∧ bit t.clk.hckInt 0 = true ∧ t.tim = s.tim ∧ t.pair = s.pair ∧ t.clk.phase = .run ∧ t.mem = s.mem) ∧
  (∀ (s : State), Running s → s.tim.onSirc = true →
    Answers (exec (.sourceJudged .xt2) s) fun t =>
      t.tim.onSirc = false ∧ t.clk.xt2 = { judged := true } ∧ bit t.clk.hckInt 0 = true ∧ bit t.tim.rtcInt 1 = true ∧ t.pair = s.pair)

/-- R347, R349, R356 to R361, R366 to R368. How far the servo moves the increment is a free value (log 21). -/
def Obligations.TimeComplete : Prop :=
  (∀ (w : Word) (s : State), Running s → fld w 16 16 = 0xD5F0 → s.clk.dvfsTimeout = false → s.clk.stepTo = none →
    Answers (exec (.kdvTarget .m w) s) fun t =>
      let n := fld w 0 2
      t.clk.target = n ∧ t.clk.op = s.clk.op ∧
      t.clk.stepTo = (if s.clk.op < n then some (s.clk.op + 1) else if n < s.clk.op then some (s.clk.op - 1) else none) ∧
      { t with clk := s.clk, dic := s.dic } = s) ∧
  (∀ (level : Level) (w : Word) (s : State), Running s → (level ≠ .m ∨ fld w 16 16 ≠ 0xD5F0) →
    exec (.kdvTarget level w) s = .next { s with dic := leaveIdle s.dic }) ∧
  (∀ (s : State), Running s → s.clk.stepTo.isSome = true →
    exec .dvfsPowerGood s = .next { s with dic := leaveIdle s.dic, clk := { s.clk with supplyUp := true } }) ∧
  (∀ (n : Nat) (s : State), Running s → s.clk.stepTo = some n → (n ≤ s.clk.op ∨ s.clk.supplyUp = true) → s.clk.dvfsTimeout = false →
    Answers (exec .dvfsStepDone s) fun t =>
      t.clk.op = n ∧ t.clk.kdvSteps = satInc s.clk.kdvSteps ∧
      t.clk.stepTo = (if n < s.clk.target then some (n + 1) else if s.clk.target < n then some (n - 1) else none) ∧
      { t with clk := s.clk, dic := s.dic } = s) ∧
  (∀ (s : State), Running s → s.clk.stepTo.isSome = true → s.clk.supplyUp = false →
    Answers (exec .powerGoodTimeout s) fun t =>
      t.clk.dvfsTimeout = true ∧ t.clk.stepTo = none ∧ t.clk.op = s.clk.op ∧ t.sup.isolated = [0x23] ∧ t.sup.failSilent = false ∧
      t.sup.lastFault = (faultWord 2 0x05 0x23 0).setWidth 64 <<< 32 ∧ t.pair = s.pair ∧ t.mem = s.mem) ∧
  (∀ (n : Nat) (s : State), Running s → fld s.clk.trim 30 2 = 1 → s.clk.trimHost = false → n < 16777216 →
    let trim := fld s.clk.trim 0 10
    Answers (exec (.fircTrimWindow n) s) fun t =>
      fld t.clk.fircCnt 0 24 = n ∧ bit t.clk.fircCnt 31 = true ∧
      fld t.clk.trim 0 10 = (if 47996 ≤ n ∧ n ≤ 48004 then trim
        else if n < 48000 then (if trim = 0x3FF then trim else trim + 1) else (if trim = 0 then trim else trim - 1)) ∧
      fld t.clk.trim 10 22 = fld s.clk.trim 10 22 ∧
      (((n < 47996 ∧ trim = 0x3FF) ∨ (48004 < n ∧ trim = 0)) → bit t.clk.hckInt 1 = true) ∧ t.tim = s.tim ∧ t.pair = s.pair) ∧
  (∀ (level : Level) (v : DWord) (s : State), Running s →
    exec (.timSet level v) s = .next { s with
      dic := leaveIdle s.dic
      tim := { s.tim with setPend := if level = .m ∧ s.pair.role = .offline then some v else s.tim.setPend } }) ∧
  (∀ (level : Level) (v : DWord) (s : State), Running s →
    Answers (exec (.timIncr level v) s) fun t =>
      t.tim.incr.toNat = (if level = .m then max 34291018892 (min 34428457844 v.toNat) else s.tim.incr.toNat) ∧
      t.tim.time = s.tim.time ∧ { t with tim := s.tim, dic := s.dic } = s) ∧
  (∀ (id : DWord) (better : Bool) (s : State), Running s → s.pair.role = .active → cfgNum s 0x1400 3 ≠ 0 → s.tim.master = none →
    exec (.ptpMessage (.announce id better)) s =
      .next { s with dic := leaveIdle s.dic, tim := { s.tim with master := some id, agreeing := 0 } }) ∧
  (∀ (id : DWord) (off : Int) (s : State), Running s → s.pair.role = .active → cfgNum s 0x1400 3 ≠ 0 → s.tim.master = some id →
    s.tim.locked = false → s.tim.agreeing = 7 → off - s.tim.lastOffset ≤ 10000 → s.tim.lastOffset - off ≤ 10000 →
    Answers (exec (.ptpMessage (.sync id off)) s) fun t =>
      t.tim.locked = true ∧ t.tim.source = 1 ∧ t.tim.lastOffset = off ∧ t.tim.time = s.tim.time ∧
      34358020382 ≤ t.tim.incr.toNat ∧ t.tim.incr.toNat ≤ 34361456354 ∧ t.pair = s.pair) ∧
  (∀ (id : DWord) (s : State), Running s → s.pair.role = .active → s.tim.master = some id →
    exec .announceTimeout s = .next (settle (post 0x0706 0x04 [] { s with
      tim := { s.tim with master := none, agreeing := 0, locked := false, source := if s.tim.locked then 2 else s.tim.source } }))) ∧
  (∀ (v : DWord) (s : State), Running s →
    exec (.rtcSet v) s = .next { s with dic := leaveIdle s.dic, tim := { s.tim with rtc := v, rtcFrac := 0, rtcLost := false } }) ∧
  (∀ (s : State), Running s → s.tim.alarm ≠ 0 →
    Answers (exec .rtcAlarm s) fun t => bit t.tim.rtcInt 0 = true ∧ { t with tim := s.tim, dic := s.dic } = s ∧
      { t.tim with rtcInt := s.tim.rtcInt } = s.tim) ∧
  (∀ (s : State), Running s → (s.tim.source = 1 ∨ s.tim.source = 3) →
    exec .rtcHourlySet s = .next { s with dic := leaveIdle s.dic, tim := { s.tim with rtc := s.tim.time, rtcFrac := 0, rtcLost := false } })

-- journal, snapshots and the event recorder (11) ------------------------------------------------------------------------------------------------

/-- R370, R372, R374, R377 to R379, R393. -/
def Obligations.JournalComplete : Prop :=
  (∀ (k : Nat) (p : JPending) (rest : List JPending) (s : State), Running s → s.jrn.pending = p :: rest → p.deltas = false → p.ds ≠ [] →
    s.jrn.logSeg = some k → hasRoom s.jrn k (.delta p.task p.commit p.ds) = true → 8 ≤ freeSegs s.jrn → (∀ q ∈ rest, q.commit ≠ p.commit) →
    exec .deltasComplete s = .next { s with
      dic := leaveIdle s.dic
      jrn := { appendRec s.jrn k (.delta p.task p.commit p.ds) with pending := { p with deltas := true } :: rest } }) ∧
  (∀ (k : Nat) (p : JPending) (rest : List JPending) (s : State), Running s → s.jrn.pending = p :: rest → p.deltas = false → p.ds ≠ [] →
    s.jrn.logSeg = none → nextFree s.jrn = some k → s.jrn.segs.length = 192 →
    Answers (exec .deltasComplete s) fun t =>
      t.jrn.logSeg = some k ∧ t.jrn.gen = s.jrn.gen + 1 ∧ t.jrn.lastSeg = k ∧ t.jrn.dirCopy = !s.jrn.dirCopy ∧
      t.jrn.segs = putAt s.jrn.segs k { kind := .log, gen := s.jrn.gen + 1, first := p.commit, layout := progId s
                                        used := 64 + recBytes (.delta p.task p.commit p.ds), recs := [.delta p.task p.commit p.ds] } ∧
      t.jrn.durable = s.jrn.durable ∧ t.jrn.given = s.jrn.given ∧ t.mem = s.mem) ∧
  (∀ (k : Nat) (p : JPending) (rest : List JPending) (s : State), Running s → s.jrn.pending = p :: rest → p.deltas = true → p.swap = none →
    s.jrn.logSeg = some k → s.jrn.segs.length = 192 → k < 192 →
    let r : JRec := .commit p.task p.commit p.inst (p.ds.map deltaBytes).sum
    let bytes := (if p.ds.isEmpty then 0 else recBytes (.delta 0 0 p.ds)) + 32
    hasRoom s.jrn k r = true →
    Answers (exec .commitDurable s) fun t =>
      t.jrn.durable = p.commit ∧ t.jrn.pending = rest ∧ t.jrn.given = s.jrn.given ∧ t.jrn.since = s.jrn.since + bytes ∧
      t.jrn.wear = satAdd s.jrn.wear bytes ∧ (t.jrn.segs.getD k {}).recs = (s.jrn.segs.getD k {}).recs ++ [r] ∧
      (∀ j, j ≠ k → t.jrn.segs.getD j {} = s.jrn.segs.getD j {}) ∧ t.mem = s.mem) ∧
  (∀ (p : JPending) (rest : List JPending) (s : State), Running s → s.jrn.pending = p :: rest → p.deltas = false →
    exec .commitDurable s = .next { s with dic := leaveIdle s.dic }) ∧
  (∀ (s : State), Running s → s.jrn.coalescing = true → s.jrn.buffer ≠ [] →
    let n := byteTokens (commitBytes s.jrn.buffer)
    n ≤ jrnTokens s.jrn s.now →
    Answers (exec .coalesceFlush s) fun t =>
      t.jrn.buffer = [] ∧ t.jrn.coalescing = true ∧ t.jrn.given = s.jrn.given + 1 ∧ t.jrn.tokNano = jrnTokens s.jrn s.now - n ∧
      t.jrn.pending = s.jrn.pending ++
        [{ commit := s.jrn.given + 1, task := 0xFF, inst := 0, ds := s.jrn.buffer, deltas := false, swap := none }] ∧
      { t with jrn := s.jrn, dic := s.dic } = s) ∧
  (∀ (s : State), Running s → s.jrn.coalescing = true → s.jrn.buffer = [] → 4096000000000 ≤ jrnTokens s.jrn s.now →
    Answers (exec .coalescingLeave s) fun t =>
      t.jrn.coalescing = false ∧ bit t.jrn.intStatus 1 = true ∧ t.jrn.given = s.jrn.given ∧ t.jrn.segs = s.jrn.segs ∧ t.mem = s.mem) ∧
  (∀ (s : State), Running s →
    exec (.jrnCmdStartPass 0x5EA50001) s = .next { s with
      dic := leaveIdle s.dic
      jrn := if s.jrn.host = true ∧ passDue s = true ∧ s.jrn.paused = false
        then { s.jrn with cmdErr := false, pass := some { base := s.jrn.given, size := retLen s, cold := false } }
        else { s.jrn with cmdErr := true } }) ∧
  (∀ (p : JPass) (s : State), Running s → s.jrn.pass = some p → s.jrn.paused = false →
    Answers (exec .seasoningPassDone s) fun t =>
      t.jrn.snapBase = p.base ∧ t.jrn.passes = satInc s.jrn.passes ∧ bit t.jrn.intStatus 2 = true ∧ t.jrn.wear = satAdd s.jrn.wear (retLen s) ∧
      t.jrn.durable = s.jrn.durable ∧ t.jrn.given = s.jrn.given ∧ t.mem = s.mem ∧
      (∀ (k : Nat) (g : JSeg), s.jrn.segs[k]? = some g → g.kind = .log → (∃ r ∈ g.recs, p.base < recCommit r) → t.jrn.segs[k]? = some g)) ∧
  (∀ (rq : Rq) (mt : Meta) (s : State), Running s → Accepted 0x1500 8 rq mt s → AreaOpen s → rq.value = [1] →
    (8 ≤ freeSegs s.jrn →
      Answers (exec (.seasonPause rq) s) fun t =>
        t.jrn.paused = true ∧ t.jrn.pass = s.jrn.pass ∧ cfgVal t 0x1500 8 = [1] ∧ ∃ m, t.out = s.out ++ [.reply rq.path m] ∧ m.op = 4 ∧ m.tid = rq.tid) ∧
    (freeSegs s.jrn < 8 →
      Answers (exec (.seasonPause rq) s) fun t =>
        t.jrn.paused = s.jrn.paused ∧ t.od.vals = s.od.vals ∧ ∃ m, t.out = s.out ++ [.reply rq.path m] ∧ m.op = 5 ∧ m.arg = 0x2702)) ∧
  (∀ (block : Byte) (s : State), Running s →
    Answers (exec (.mramWriteError block false) s) fun t =>
      t.jrn.wrErr = satInc s.jrn.wrErr ∧ t.jrn.retries = s.jrn.retries + 1 ∧ bit t.jrn.intStatus 0 = true ∧ t.sup = s.sup ∧ t.mem = s.mem) ∧
  (∀ (block : Byte) (s : State), Running s → degraded block = true →
    Answers (exec (.mramWriteError block true) s) fun t =>
      t.jrn.retries = 0 ∧ t.sup.isolated = [block] ∧ t.sup.failSilent = false ∧
      t.sup.lastFault = (faultWord 2 0x01 block 0).setWidth 64 <<< 32 ∧ t.mem = s.mem) ∧
  (∀ (s : State), Running s →
    exec (.mramWriteError 0x4B true) s = .next { s with dic := leaveIdle s.dic, jrn := { s.jrn with retries := 0 } })

/-- R382, R384, R386, R387, R391, R394. -/
def Obligations.EventsComplete : Prop :=
  let record (w : Nat) (word : Word) (s : State) : EvRec :=
    { code := BitVec.ofNat 16 (fld word 0 16), block := if w = 1 then 0x4A else if w = 2 then 0x80 else BitVec.ofNat 8 (fld word 16 8)
      cont := bit word 31, data := ((s.evr.windows.getD w {}).data.flatMap (fun x => le4 x.toNat)).take 14 }
  let limited (word : Word) (s : State) : Prop :=
    s.evr.rlen = true ∧ evFree (fld word 0 16) = false ∧ bit (bucketOf s.evr (fld word 0 16)).cfg 31 = false
  (∀ (w : Nat) (level : Level) (word : Word) (s : State), Running s → (w = 0 → level = .m) → w ≤ 2 → fld word 0 16 ≤ 0x0FFF →
    1000000000 ≤ bucketNano (bucketOf s.evr (fld word 0 16)) s.now → 1000000000 ≤ globalNano s.evr s.now → s.evr.queue.length < 64 →
    Answers (exec (.eventPosting w level word) s) fun t =>
      t.evr.queue = s.evr.queue ++ [record w word s] ∧ t.evr.lost = s.evr.lost ∧ t.evr.suppressed = s.evr.suppressed ∧ t.evr.head = s.evr.head ∧
      t.evr.gNano = globalNano s.evr s.now - (if evFree (fld word 0 16) then 0 else 1000000000) ∧ { t with evr := s.evr, dic := s.dic } = s) ∧
  (∀ (level : Level) (word : Word) (s : State), Running s → fld word 0 16 ≤ 0x0FFF → limited word s →
    bucketNano (bucketOf s.evr (fld word 0 16)) s.now < 1000000000 →
    Answers (exec (.eventPosting 1 level word) s) fun t =>
      t.evr.queue = s.evr.queue ∧ t.evr.suppressed = satInc s.evr.suppressed ∧ bit t.evr.intStatus 0 = true ∧
      (bucketOf t.evr (fld word 0 16)).suppressed = (bucketOf s.evr (fld word 0 16)).suppressed + 1 ∧
      globalNano t.evr s.now = globalNano s.evr s.now ∧ t.evr.lost = s.evr.lost ∧ t.mem = s.mem) ∧
  (∀ (level : Level) (word : Word) (s : State), Running s → fld word 0 16 ≤ 0x0FFF →
    1000000000 ≤ bucketNano (bucketOf s.evr (fld word 0 16)) s.now → 1000000000 ≤ globalNano s.evr s.now → s.evr.queue.length = 64 →
    Answers (exec (.eventPosting 2 level word) s) fun t =>
      t.evr.queue = s.evr.queue ∧ t.evr.lost = satInc s.evr.lost ∧ bit t.evr.intStatus 1 = true ∧ t.mem = s.mem) ∧
  (∀ (w : Nat) (level : Level) (word : Word) (s : State), Running s → ((w = 0 ∧ level ≠ .m) ∨ 0x0FFF < fld word 0 16) →
    exec (.eventPosting w level word) s = .next { s with dic := leaveIdle s.dic }) ∧
  (∀ (r : EvRec) (rs : List EvRec) (s : State), Running s → s.evr.supQueue = [] → s.evr.queue = r :: rs → r.code ≠ 1 → r.code ≠ 2 → r.code ≠ 3 →
    Answers (exec .eventRecordWritten s) fun t =>
      let a := 0x3C000000 + 32 * (s.evr.head % 131072)
      t.evr = { s.evr with queue := rs, head := (s.evr.head + 1) % 2 ^ 48 } ∧
      (s.mem.wf = true → readBytes t.mem a 32 = evBytes s.evr.head s.mnt.comm r ++ le4 0xC0A1E7E5 ∧
        leNat (readBytes t.mem a 6) = s.evr.head % 2 ^ 48 ∧ leNat (readBytes t.mem (a + 6) 2) = r.code.toNat) ∧
      (∀ b, b < a ∨ a + 32 ≤ b → readByte t.mem b = readByte s.mem b) ∧ { t with evr := s.evr, mem := s.mem, dic := s.dic } = s) ∧
  (∀ (s : State), Running s → suppressedCodes s.evr = [] → s.evr.lossCount = 0 → s.evr.queue.length < 64 →
    Answers (exec .timeAnchor s) fun t =>
      t.evr.queue = s.evr.queue ++ [{ code := 0x0010, block := 0x63, cont := false, data := fit 14 (le8 s.tim.time.toNat ++ u8 s.tim.source) }] ∧
      t.tim = s.tim ∧ t.mem = s.mem ∧ t.evr.head = s.evr.head) ∧
  (∀ (rq : Rq) (mt : Meta) (lo hi rate burst : Byte) (s : State), Running s → Accepted 0x1502 1 rq mt s → rq.value = [lo, hi, rate, burst] →
    Answers (exec (.bucketSet rq) s) fun t =>
      let b := bucketOf s.evr (lo.toNat + 256 * hi.toNat)
      let c := bucketOf t.evr (lo.toNat + 256 * hi.toNat)
      fld c.cfg 0 8 = rate.toNat ∧ fld c.cfg 8 8 = burst.toNat ∧ bit c.cfg 31 = (burst == 0) ∧
      bucketNano c s.now = min (bucketNano b s.now) (max 1 burst.toNat * 1000000000) ∧ c.suppressed = b.suppressed ∧
      t.evr.queue = s.evr.queue ∧ ∃ m, t.out = s.out ++ [.reply rq.path m] ∧ m.op = 4 ∧ m.tid = rq.tid)

-- the Gate (12) ------------------------------------------------------------------------------------------------------------------------------------

/-- R398, R400, R406, R407, R414, R415. The Gate's checks themselves stand in the statement about bus requests. -/
def Obligations.GateComplete : Prop :=
  (∀ (e : Word) (s : State), Running s → e = s.gate.epoch + 1 → (∀ i < 96, ruleBad (s.gate.staged.getD i {}) = false) →
    exec (.gateCommit .m e) s = .next (settle (post 0x0904 0x07 (le4 e.toNat) { s with gate := { s.gate with
      active := s.gate.staged, epoch := e, perr := [], badRule := false, mopen := s.gate.mopenStaged && !s.gate.mopenShut
      mopenShut := s.gate.mopenShut || !s.gate.mopenStaged, mopenStaged := s.gate.mopenStaged && !s.gate.mopenShut
      oldPending := s.bus.retries.length } }))) ∧
  (∀ (e : Word) (i : Nat) (s : State), Running s → e = s.gate.epoch + 1 → i < 96 → ruleBad (s.gate.staged.getD i {}) = true →
    (∀ j < i, ruleBad (s.gate.staged.getD j {}) = false) →
    Answers (exec (.gateCommit .m e) s) fun t =>
      t.gate.active = s.gate.active ∧ t.gate.epoch = s.gate.epoch ∧ t.gate.mopen = s.gate.mopen ∧ t.gate.badRule = true ∧
      t.gate.badGate = i / 16 ∧ t.gate.badRuleNo = i % 16 ∧ bit t.gate.intStatus 3 = true ∧ t.gate.perr = s.gate.perr ∧ t.mem = s.mem) ∧
  (∀ (level : Level) (e : Word) (s : State), Running s → (level ≠ .m ∨ e ≠ s.gate.epoch + 1) →
    exec (.gateCommit level e) s = .next { s with dic := leaveIdle s.dic }) ∧
  (∀ (level : Level) (w : Word) (s : State), Running s →
    exec (.gateFltPop level w) s = .next { s with
      dic := leaveIdle s.dic
      gate := { s.gate with faults := if level = .m ∧ bit w 0 = true then s.gate.faults.tail else s.gate.faults } }) ∧
  (∀ (s : State), Running s → s.gate.trkIndex < 24576 →
    Answers (exec (.gateTrkHarvest .m) s) fun t =>
      let i := s.gate.trkIndex
      (∃ w : DWord, t.out = s.out ++ [.bus { master := .core 0, how := .done (le8 w.toNat) false }] ∧
        ∀ j < 64, bit w j = s.gate.dirty.contains (64 * i + j)) ∧
      (∀ p, t.gate.dirty.contains p = (s.gate.dirty.contains p && p / 64 != i)) ∧
      t.gate.trkIndex = (if i = 24575 then 0 else i + 1) ∧ { t with gate := s.gate, out := s.out, dic := s.dic } = s) ∧
  (∀ (level : Level) (s : State), Running s → level ≠ .m →
    exec (.gateTrkHarvest level) s = .next { s with dic := leaveIdle s.dic } ∧ exec (.gateTrkClear level 2) s = .next { s with dic := leaveIdle s.dic }) ∧
  (∀ (s : State), Running s →
    exec (.gateTrkClear .m 2) s = .next { s with
      dic := leaveIdle s.dic
      gate := if s.gate.trkEn then { s.gate with trkEn := false } else { s.gate with dirty := [], trkBusy := true } }) ∧
  (∀ (s : State), Running s → s.gate.trkBusy = true →
    exec .gateTrkClearDone s = .next { s with dic := leaveIdle s.dic, gate := { s.gate with dirty := [], trkBusy := false } }) ∧
  (∀ (c : Nat) (level : Level) (v : DWord) (s : State), Running s →
    exec (.mgatetagWrite c level v) s = .next { s with
      dic := leaveIdle s.dic
      gate := { s.gate with tags := if level = .m then putAt s.gate.tags c (fld v 0 4) else s.gate.tags } })

-- interrupts and power states (13) ---------------------------------------------------------------------------------------------------------------------

/-- R426 over R424's deliverability. -/
def Obligations.ClaimRead : Prop := ∀ (c t : Nat) (s : State), Running s → s.bus.retries = [] → t < 9 →
  let a := 0x12400304 + 16 * t
  checkPart s.gate .m (tagOf s.gate (.core c)) .read a = .pass →
  ∃ w : Word,
    exec (.busRequest { master := .core c, level := .m, op := .read, addr := a, len := 4, data := [], cell := .none, busy := false }) s =
      .next { s with dic := leaveIdle s.dic, out := s.out ++ [.bus { master := .core c, how := .done (le4 w.toNat) false }] } ∧
    let prio (x : Nat) : Nat := fld (routeOf s.dic x) 8 4
    ((∀ x < 1024, deliverable s.dic t x = false) → w = 0) ∧
    ((∃ x, x < 1024 ∧ deliverable s.dic t x = true) →
      bit w 31 = true ∧ deliverable s.dic t (fld w 0 10) = true ∧ fld w 16 4 = prio (fld w 0 10) ∧
      ∀ x < 1024, deliverable s.dic t x = true → prio x < fld w 16 4 ∨ (prio x = fld w 16 4 ∧ fld w 0 10 ≤ x))

/-- R420 to R423, R429, R432, R434, R435, R437 to R439. The digest of the resident area is a free value (log 16). -/
def Obligations.PowerStatesComplete : Prop :=
  let reserve (s : State) : Prop := Running s ∧ s.pair.role = .reserve ∧ s.emb.result ≠ 1
  (∀ (n : Nat) (s : State), Running s → n < 1024 →
    Answers (exec (.dicDoorbell n) s) fun t =>
      (∀ x < 1024, bit t.dic.pend x = (x == n || bit s.dic.pend x)) ∧ t.dic.ringCount = satInc s.dic.ringCount ∧ t.dic.mask = s.dic.mask ∧
      t.dic.routes = s.dic.routes ∧ t.dic.rel = s.dic.rel ∧ (dicQueue s.dic s.now < 32 → { t with dic := s.dic } = s ∧ t.dic.stalls = s.dic.stalls) ∧
      (32 ≤ dicQueue s.dic s.now → t.dic.stalls = satInc s.dic.stalls)) ∧
  (∀ (c : Nat) (e : Nat × Nat) (es : List (Nat × Nat)) (s : State), Running s → c < 8 → s.dic.rel.length = 8 → s.dic.rel.getD c [] = e :: es →
    Answers (exec (.dicRelRead c) s) fun t =>
      t.dic.rel = putAt s.dic.rel c es ∧
      (∀ x < 1024, bit t.dic.pend x = (bit s.dic.pend x && !(es.isEmpty && x == 80 + c))) ∧
      t.out = s.out ++ [.bus { master := .core c, how := .done (le4 (pack 32 [(31, 1), (24, es.length), (8, e.1), (0, e.2)]).toNat) false }] ∧
      { t with dic := s.dic, out := s.out } = s) ∧
  (∀ (n : Nat) (s : State), Running s →
    exec (.deviceReRing n) s = .next (settle (if unacked s n then ring n s else s))) ∧
  (∀ (c : Nat) (s : State), Running s → c < 8 →
    Answers (exec (.wfi c) s) fun t =>
      bit t.dic.idle c = (!lineHigh s.dic c) ∧ t.dic.pend = s.dic.pend ∧ { t with dic := s.dic } = s) ∧
  (∀ (c : Nat) (s : State), reserve s → wakeEnabled s = true → wakePresent s = 0 →
    Answers (exec (.embSleep c .m 0xE3B00001) s) fun t =>
      t.emb = { s.emb with result := 1, latch := 0, state := .entering, step := .taken, stepAt := s.now } ∧ { t with emb := s.emb, dic := s.dic } = s) ∧
  (∀ (c : Nat) (s : State), Running s → s.emb.result ≠ 1 → s.pair.role ≠ .reserve →
    Answers (exec (.embSleep c .m 0xE3B00001) s) fun t =>
      t.emb.state = .run ∧ t.emb.result = 4 ∧ bit t.emb.intStatus 2 = true ∧ t.pair = s.pair ∧ t.sup = s.sup) ∧
  (∀ (c : Nat) (s : State), reserve s → wakeEnabled s = false →
    Answers (exec (.embSleep c .m 0xE3B00001) s) fun t => t.emb.state = .run ∧ t.emb.result = 5 ∧ bit t.emb.intStatus 2 = true ∧ t.pair = s.pair) ∧
  (∀ (c : Nat) (s : State), reserve s → wakeEnabled s = true → wakePresent s ≠ 0 →
    Answers (exec (.embSleep c .m 0xE3B00001) s) fun t =>
      t.emb.state = .run ∧ t.emb.result = 3 ∧ bit t.emb.intStatus 1 = true ∧ t.emb.cause = s.emb.cause ||| wakePresent s ∧ t.pair = s.pair) ∧
  (∀ (s : State), s.sup.failSilent = false → s.emb.state = .entering → s.emb.step = .taken →
    Answers (exec .entryTimeout s) fun t => t.emb.state = .run ∧ t.emb.result = 6 ∧ bit t.emb.intStatus 2 = true ∧ t.pair = s.pair) ∧
  (∀ (s : State), s.sup.failSilent = false → s.emb.state = .entering → s.emb.step = .taken → s.dic.idle = 0xFF → s.emb.latch = 0 → wakePresent s = 0 →
    exec .allCoresWfi s = .next { s with dic := leaveIdle s.dic, emb := { s.emb with step := .inWfi, stepAt := s.now } }) ∧
  (∀ (s : State), s.sup.failSilent = false → s.emb.state = .entering → s.emb.step = .inWfi → wakePresent s = 0 →
    Answers (exec .bankedEntered s) fun t =>
      t.emb.state = .banked ∧ t.emb.bankCount = satInc s.emb.bankCount ∧ t.sup.kilnHeld = true ∧ t.sup.rickHeld = s.sup.rickHeld ∧
      t.sup.bankHeld = s.sup.bankHeld ∧ t.clk.pllc = {} ∧ t.pair = s.pair ∧ t.mem = s.mem ∧ t.jrn = s.jrn) ∧
  (∀ (s : State), s.sup.failSilent = false → s.sup.isolated = [] → s.emb.state = .banked → bit s.emb.wakeEn 0 = true → bit s.tim.rtcInt 0 = true →
    Answers (exec (.wakeCondition .rtc) s) fun t =>
      t.emb.state = .waking ∧ bit t.emb.cause 0 = true ∧ t.emb.bankNs = s.emb.bankNs + (s.tim.time.toNat - s.emb.bankedAt) ∧ t.pair = s.pair ∧
      t.mem = s.mem) ∧
  (∀ (s : State), s.sup.failSilent = false → s.emb.state = .waking → s.emb.step ≠ .resumed →
    Answers (exec .resumeDigestCheck s) fun t =>
      if randomBytes s.freeCtr 32 = s.emb.rdigest.flatMap (fun w => le8 w.toNat)
      then t.sup.kilnHeld = false ∧ t.sup.runtimeUp = true ∧ t.emb.step = .resumed ∧ t.emb.state = .waking ∧ t.pair = s.pair
      else StoppedBy 0x07 0x05 t ∧ t.emb.state = .run) ∧
  (∀ (s : State), s.sup.failSilent = false → s.emb.state = .waking → s.emb.step = .resumed → s.pair.role = .reserve → bit s.emb.cause 1 = false → bit s.emb.cause 0 = true →
    Answers (exec .wakeComplete s) fun t =>
      t.emb.state = .run ∧ t.emb.result = 2 ∧ t.emb.lastCause = s.emb.cause.toNat ∧ bit t.emb.intStatus 0 = true ∧ t.clk.op = 3 ∧
      t.pair = { s.pair with selfTest := some s.now } ∧ t.mem = s.mem)

-- local inputs and outputs (14) ----------------------------------------------------------------------------------------------------------------------

/-- R447, R449, R451 to R453, R455, R460, R462. -/
def Obligations.LocalIoComplete : Prop :=
  let g (s : State) (k : Nat) : LioGroup := lioGroup s.lio k
  (∀ (inputs : Half) (s : State), Running s → fld s.lio.cycle 0 3 ≠ 7 →
    Answers (exec (.localReadMark inputs) s) fun t =>
      let a := rxBase + lioIn s.lio
      let live (k : Nat) : Nat := if groupQ (g s k) = 0 then fld inputs (8 * k) 8 else (g s k).held
      t.lio.inputs = inputs ∧ (g t 0).held = live 0 ∧ (g t 1).held = live 1 ∧
      (s.mem.wf = true → readBytes t.mem a 8 = u8 (live 0) ++ u8 (live 1) ++ u8 (groupQ (g s 0)) ++ u8 (groupQ (g s 1)) ++ u8 (onByte s) ++
        u8 (s.lio.limit ||| s.lio.thermal).toNat ++ u8 (groupNo (g s 0).st + 4 * groupNo (g s 1).st) ++ [0]) ∧
      (∀ b, b < a ∨ a + 8 ≤ b → readByte t.mem b = readByte s.mem b) ∧ { t with lio := s.lio, mem := s.mem, dic := s.dic } = s) ∧
  (∀ (cool : Byte) (s : State), Running s → fld s.lio.cycle 0 3 ≠ 7 → s.cyc.pstate = .running →
    (g s 0).st = .good → (g s 1).st = .good →
    Answers (exec (.localWriteMark cool) s) fun t =>
      (s.lio.committed = true →
        t.lio.latch = readByte s.mem (emBase + lioOut s.lio) ∧ t.lio.missed = 0 ∧ t.lio.missedCnt = s.lio.missedCnt ∧ t.lio.committed = false) ∧
      (s.lio.committed = false → s.lio.missed + 1 < max 1 (fld s.lio.policy 12 4) →
        t.lio.latch = s.lio.latch ∧ t.lio.missed = s.lio.missed + 1 ∧ t.lio.missedCnt = satInc s.lio.missedCnt) ∧
      (s.lio.committed = false → max 1 (fld s.lio.policy 12 4) ≤ s.lio.missed + 1 →
        t.lio.latch = readByte s.mem (substBase + lioOut s.lio) ∧ t.lio.subst = true ∧ bit t.lio.flags 4 = true) ∧
      (∀ k < 8, bit t.lio.thermal k = (bit s.lio.thermal k && (bit t.lio.latch k || !bit cool k))) ∧
      t.lio.g0 = s.lio.g0 ∧ t.lio.g1 = s.lio.g1 ∧ t.mem = s.mem) ∧
  (∀ (k : Nat) (mv : Half) (s : State), Running s → k < 2 → (g s k).st = .good →
    exec (.supplyLow k mv) s = .next (settle (lioFlag 0 (post 0x0B00 0x48 [] { s with
      lio := setGroup s.lio k { lioGroup s.lio k with st := .low, mv10 := mv } })))) ∧
  (∀ (k : Nat) (mv : Half) (s : State), Running s → k < 2 → (g s k).st ≠ .tripped → (g s k).missing = false →
    Answers (exec (.supplyTrip k mv) s) fun t =>
      (g t k).st = .tripped ∧ (g t k).mv10 = mv ∧ (g t k).nextOff = 0 ∧ (g t k).missing = decide (mv.toNat < 500) ∧ g t (1 - k) = g s (1 - k) ∧
      (∀ j < 4, bit t.lio.off (4 * k + j) = (bit s.lio.off (4 * k + j) || !conducts s (4 * k + j))) ∧
      (∀ j < 4, bit t.lio.off (4 * (1 - k) + j) = bit s.lio.off (4 * (1 - k) + j)) ∧
      t.lio.tripCount = satInc s.lio.tripCount ∧ bit t.lio.flags 1 = true ∧ t.lio.latch = s.lio.latch ∧ t.mem = s.mem) ∧
  (∀ (k j : Nat) (s : State), Running s → k < 2 → j < 4 → (g s k).nextOff = j →
    Answers (exec (.tripSwitchOff k j) s) fun t =>
      conducts t (4 * k + j) = false ∧ (g t k).nextOff = j + 1 ∧ (g t k).st = (g s k).st ∧
      (∀ i < 8, i ≠ 4 * k + j → conducts t i = conducts s i) ∧ { t with lio := s.lio, dic := s.dic } = s) ∧
  (∀ (k : Nat) (mv : Half) (s : State), Running s → k < 2 → (g s k).st = .low →
    exec (.supplyGood k mv) s =
      .next { s with dic := leaveIdle s.dic, lio := setGroup s.lio k { lioGroup s.lio k with st := .good, mv10 := mv } }) ∧
  (∀ (k : Nat) (mv : Half) (s : State), Running s → k < 2 → (g s k).st = .tripped → (g s k).nextOff = 4 →
    exec (.supplyRecovered k mv) s = .next (settle
      (if bit s.lio.policy (8 + k) = true ∨ (g s k).first = true
       then { s with lio := setGroup s.lio k { lioGroup s.lio k with recover := true, missing := false, mv10 := mv } }
       else post 0x0B03 0x48 [] { s with lio := setGroup s.lio k { lioGroup s.lio k with st := .ready, missing := false, mv10 := mv } }))) ∧
  (∀ (rq : Rq) (mt : Meta) (s : State), Running s → Accepted 0x1600 5 rq mt s →
    (s.pair.role = .active → rearmBad (beNat rq.value) s = false →
      Answers (exec (.rearm rq) s) fun t =>
        t.od.progWs = s.od.progWs ++ [{ sym := 0, elem := 4, value := rq.value, entry := some (entryE 0x1600 5 rq.value)
                                        client := some (writer 0x1600 5 rq), carried := false }] ∧ t.lio = s.lio ∧ t.out = s.out) ∧
    (s.pair.role = .active → rearmBad (beNat rq.value) s = true →
      Answers (exec (.rearm rq) s) fun t =>
        t.od.progWs = s.od.progWs ∧ t.lio = s.lio ∧ ∃ m, t.out = s.out ++ [.reply rq.path m] ∧ m.op = 5 ∧ m.arg = 0x2A01) ∧
    (s.pair.role ≠ .active →
      Answers (exec (.rearm rq) s) fun t =>
        t.od.progWs = s.od.progWs ∧ t.lio = s.lio ∧ ∃ m, t.out = s.out ++ [.reply rq.path m] ∧ m.op = 5 ∧ m.arg = 0x2203)) ∧
  (∀ (s : State), Running s → s.lio.g0.st = .ready → s.lio.g1.st = .ready →
    exec (.lioRearm .m 0x1A0E0003) s = .next { s with
      dic := leaveIdle s.dic, lio := { s.lio with g0 := { s.lio.g0 with reEnable := true }, g1 := { s.lio.g1 with reEnable := true } } }) ∧
  (∀ (level : Level) (w : Word) (s : State), Running s → (level ≠ .m ∨ fld w 16 16 ≠ 0x1A0E) →
    exec (.lioRearm level w) s = .next { s with dic := leaveIdle s.dic }) ∧
  (∀ (k : Nat) (s : State), Running s → k < 8 → conducts s k = true →
    Answers (exec (.currentLimitLong k) s) fun t =>
      bit t.lio.limit k = true ∧ bit t.lio.flags 5 = true ∧ conducts t k = true ∧ t.lio.thermal = s.lio.thermal ∧ t.mem = s.mem) ∧
  (∀ (k : Nat) (s : State), Running s → k < 8 →
    Answers (exec (.thermalShutdown k) s) fun t =>
      bit t.lio.thermal k = true ∧ bit t.lio.limit k = false ∧ bit t.lio.flags 6 = true ∧ conducts t k = false ∧ t.lio.latch = s.lio.latch ∧
      t.mem = s.mem)

-- module hardware and hot swap (15) --------------------------------------------------------------------------------------------------------------------

/-- R470. -/
def Obligations.FeedChanges : Prop := ∀ (b : Bool) (st : Feed) (mv : Half) (s : State), Running s →
  (feedOf s (!b)).st = .good → (feedOf s b).st ≠ st →
  Answers (exec (.feedStateChange b st mv) s) fun t =>
    feedOf t b = { st := st, mv10 := mv } ∧ feedOf t (!b) = feedOf s (!b) ∧ bit t.hw.flags (if b then 1 else 0) = true ∧
    t.hw.cntFeedLoss = (if st = .lost then satInc s.hw.cntFeedLoss else s.hw.cntFeedLoss) ∧ t.hw.bothLost = none ∧ t.hw.powerDown = false ∧
    t.evr = evrTake s.evr s.now 0x0C00 (evRecs 0x0C00 0x01 (u8 (if b then 1 else 0) ++ u8 (feedNo t.hw.feedA.st) ++ u8 (feedNo t.hw.feedB.st))) ∧
    { t with hw := s.hw, evr := s.evr, dic := s.dic } = s

/-- R475. -/
def Obligations.SafeToRemove : Prop := ∀ s : State,
  let removable := s.hw.ejectOpen = true ∧ (s.pair.role = .offline ∨ s.pair.role = .fenced ∨ s.pair.role = .clockHold ∨ s.sup.failSilent = true)
  ((hpwReg 0x008 s).testBit 15 = true ↔ removable) ∧ (removable → ledPwr s = .flash .amber 2000)

/-- R472, R474, R476, R485, R489. -/
def Obligations.HardwareComplete : Prop :=
  (∀ (s : State), Running s → s.pair.recBusy = false →
    Answers (exec .powerFail s) fun t =>
      Silent t ∧ t.hw.powerDown = true ∧ t.hw.porReleased = false ∧ t.hw.holdup = false ∧ t.evr.queue = [] ∧ t.evr.supQueue = [] ∧
      t.evr.head = (s.evr.head + 1) % 2 ^ 48 ∧ t.pair.fenceMark = s.pair.fenceMark ∧ t.pair.epoch = s.pair.epoch ∧ t.jrn.segs = s.jrn.segs ∧
      t.od.vals = s.od.vals ∧ t.ks = s.ks ∧ t.sup.fsCause = 0 ∧ t.sup.kilnHeld = true ∧ t.sup.bankHeld = true ∧
      (s.mem.wf = true → readBytes t.mem (0x3C000000 + 32 * (s.evr.head % 131072)) 32 =
        evBytes s.evr.head s.mnt.comm { code := 0x0C01, block := 0x01, cont := false, data := zeros 14 } ++ le4 0xC0A1E7E5) ∧
      (s.mem.wf = true → ∀ a, a < 0x20000000 ∨ 0x40000000 ≤ a → readByte t.mem a = 0)) ∧
  (∀ (s : State), Running s → s.hw.seated = true → s.hw.ejectOpen = true → s.pair.role = .offline → s.pair.recBusy = false →
    Answers (exec .unseated s) fun t =>
      t.hw.seated = false ∧ t.hw.porReleased = false ∧ t.hw.seatChanged = true ∧ Silent t ∧ t.flu.divHold = false ∧ t.flu.divTimes = [] ∧
      t.sup.kilnHeld = true ∧ t.sup.rickHeld = true ∧ t.sup.bankHeld = true ∧ t.sup.cordHeld = true ∧ t.pair.fenceMark = s.pair.fenceMark ∧
      t.evr.head = s.evr.head ∧ t.mem = s.mem ∧ t.od.vals = s.od.vals) ∧
  (∀ (s : State), Running s → s.hw.seated = true → s.pair.role = .fenced →
    Answers (exec .unseated s) fun t => t.hw.seated = false ∧ t.hw.porReleased = false ∧ Silent t ∧ t.pair.fenceMark = false ∧ t.pair.recBusy = false) ∧
  (∀ (s : State), Running s → s.hw.ejectOpen = false → s.pair.role = .offline →
    exec (.eject true) s =
      .next (settle (post 0x0C03 0x01 [1] { s with hw := { s.hw with ejectOpen := true, flags := setBit s.hw.flags 2 } }))) ∧
  (∀ (s : State), Running s → s.hw.ejectOpen = false → (s.pair.role = .standby ∨ s.pair.role = .reserve) → mySlot s ≠ .c →
    s.pair.switchSeen = none → s.pair.leaving = false → (s.pair.role = .reserve → viaSeen s = false) →
    Answers (exec (.eject true) s) fun t => t.pair.role = .offline ∧ t.hw.ejectOpen = true ∧ bit t.hw.flags 2 = true ∧ t.pair.epoch = s.pair.epoch) ∧
  (∀ (s : State), Running s → s.hw.ejectOpen = true → s.pair.role ≠ .offline → s.hw.key ≠ .service →
    Answers (exec (.eject false) s) fun t =>
      t.hw.ejectOpen = false ∧ bit t.hw.flags 2 = true ∧ t.hw.ejectTold = false ∧ t.pair.serviceTold = false ∧ t.pair.role = s.pair.role) ∧
  (∀ (j : Half) (s : State), Running s →
    exec (.tempWarning j) s =
      .next (settle (post 0x0C07 0x01 [] { s with hw := { s.hw with junction := j, flags := setBit s.hw.flags 4 } }))) ∧
  (∀ (j : Half) (s : State), Running s →
    Answers (exec (.overTemperature j) s) fun t =>
      StoppedBy 0x09 0x01 t ∧ t.hw.junction = j ∧ t.sup.atStart = s.sup.atStart ++ evRecs 0x0C08 0x01 [] ∧ t.mem = s.mem ∧ t.jrn = s.jrn) ∧
  (∀ (level : Level) (w : Word) (s : State), Running s →
    exec (.hpwClear level w) s = .next { s with
      dic := leaveIdle s.dic, hw := { s.hw with powerPeak := if bit w 0 = true then s.hw.powerNow else s.hw.powerPeak } })

-- update, keys and debug (16) --------------------------------------------------------------------------------------------------------------

/-- R494, R498 to R502. The signature check stands in the conclusions. -/
def Obligations.UpdatesComplete : Prop :=
  (∀ (m : SvcMsg) (rq : Rq) (mt : Meta) (s : State), Running s → m.sflags = 0 → m.arg = 0 → Accepted 0x1720 1 { rq with value := m.data } mt s →
    s.upd.st ≠ .writing →
    exec (.updateData m rq) s = .next (settle (respond (writer 0x1720 1 rq) 4 0 [] { s with upd := { s.upd with staged := m.data, st := .staged } }))) ∧
  (∀ (m : SvcMsg) (rq : Rq) (mt : Meta) (x : Session) (n : Nat) (s : State), Running s → rq.path = .service n → s.od.conns.contains n = true → m.data.length ≤ 32768 →
    checkAccess (writer 0x1720 1 rq) true m.data s = 0 → entryOf 0x1720 1 s = some mt → mt.ty = .oct 33554560 → rq.session < 65536 →
    sessionOn s rq.session rq.path = some x → (∀ y ∈ s.od.sessions, y.revoked = false) →
    (bit m.sflags 0 = true → m.arg = 0 →
      Answers (exec (.updateData m rq) s) fun t => t.upd = s.upd ∧ Told rq s t ∧
        ∃ y, sessionOn t rq.session rq.path = some y ∧ y.xfer = some { index := 0x1720, sub := 1, write := true, data := m.data, at_ := s.now }) ∧
    (∀ z : Xfer, x.xfer = some z → z.index = 0x1720 → z.sub = 1 → z.write = true → z.late = false → z.data ≠ [] → m.arg.toNat = z.data.length →
      z.data.length + m.data.length ≤ 33554560 →
      (bit m.sflags 0 = true →
        Answers (exec (.updateData m rq) s) fun t => t.upd = s.upd ∧ Told rq s t ∧
          ∃ y, sessionOn t rq.session rq.path = some y ∧ y.xfer = some { z with data := z.data ++ m.data, at_ := s.now }) ∧
      (bit m.sflags 0 = false → checkValue 0x1720 1 mt (z.data ++ m.data) s = 0 → s.upd.st ≠ .writing →
        Answers (exec (.updateData m rq) s) fun t =>
          t.upd = { s.upd with staged := z.data ++ m.data, st := .staged } ∧ Told rq s t))) ∧
  (∀ (rq : Rq) (mt : Meta) (s : State), Running s → Accepted 0x1720 2 rq mt s → beNat rq.value = 1 → (s.upd.st = .staged ∨ s.upd.st = .checked) →
    Answers (exec (.updateCheck rq) s) fun t =>
      t.mem = s.mem ∧ t.pair = s.pair ∧
      if updateChecks s = 0 then t.upd = { s.upd with st := .checked } ∧ Told rq s t
      else t.upd = { s.upd with st := .failed, lastResult := BitVec.ofNat 16 (updateChecks s) } ∧ RefusedWith rq (updateChecks s) s t) ∧
  (∀ (rq : Rq) (mt : Meta) (s : State), Running s → Accepted 0x1720 2 rq mt s → beNat rq.value = 2 → updateRefused s = 0 → s.pair.role = .offline →
    reachActive s = none → tokenFree s (ownHolder s 5 0 (writer 0x1720 2 rq).session) = true →
    Answers (exec (.updateStart rq) s) fun t =>
      t.pair.role = .update ∧ t.hw.resetCause = 3 ∧ t.upd.st = .writing ∧ t.upd.staged = s.upd.staged ∧
      t.upd.record = some { comp := stagedComp s, sha := sha256 s.upd.staged, begun := false } ∧ t.sup.runtimeUp = false ∧ t.od.vals = s.od.vals ∧
      t.ks.creds = s.ks.creds ∧ ∃ m, t.out = [.reply rq.path m] ∧ m.op = 4 ∧ m.tid = rq.tid) ∧
  (∀ (rq : Rq) (mt : Meta) (s : State), Running s → Accepted 0x1720 2 rq mt s → beNat rq.value = 3 → s.upd.st ≠ .writing →
    exec (.updateDiscard rq) s = .next (settle (respond (writer 0x1720 2 rq) 4 0 [] { s with upd := { s.upd with st := .idle, staged := [] } }))) ∧
  (∀ (ok : Bool) (r : UpdRec) (s : State), s.pair.role = .update → s.upd.st = .writing → s.sup.kilnHeld = false → s.upd.staged ≠ [] →
    s.upd.record = some r → r.sha = sha256 s.upd.staged → 1 ≤ stagedComp s → stagedComp s ≤ 4 → s.mem.wf = true →
    let comp := stagedComp s
    let h := stagedHdr s
    let c := imageCheck (setFw 1 (fwOf (norHeader s 1)) s) comp false h (stagedBody s)
    let image := h ++ (stagedBody s).take (hdrLen h)
    let top := [0x22080000, 0x22100000, 0x22200000, 0x22300000].getD (comp - 1) 0
    Answers (exec (.loaderUpdate ok) s) fun t =>
      t.pair.role = .offline ∧ t.hw.resetCause = 3 ∧ t.upd.st = .idle ∧ t.upd.staged = [] ∧ t.upd.record = none ∧
      t.upd.lastResult = (if c ≠ 0 then BitVec.ofNat 16 c else if ok then 0 else 0x2808) ∧
      (if c ≠ 0 then t.mem = s.mem
        else readBytes t.mem (norBase comp) image.length = image ∧
          ∀ a, (a < norBase comp ∨ (top ≤ a ∧ norBase comp + image.length ≤ a)) → readByte t.mem a = readByte s.mem a)) ∧
  (∀ (image : List Byte) (s : State), s.upd.recovery = true → s.pair.role = .update → s.sup.kilnHeld = false → s.od.linkUp = true → s.mem.wf = true →
    let h := image.take 128
    Answers (exec (.recoveryImage image) s) fun t =>
      if imageCheck s 1 false h (image.drop 128) = 0 then
        t.upd.recovery = false ∧ t.pair.role = .offline ∧ t.hw.resetCause = 3 ∧
        readBytes t.mem 0x20080000 (128 + hdrLen h) = h ++ (image.drop 128).take (hdrLen h) ∧
        ∀ a, (a < 0x20080000 ∨ (0x22080000 ≤ a ∧ 0x20080080 + hdrLen h ≤ a)) → readByte t.mem a = readByte s.mem a
      else t.upd = s.upd ∧ t.mem = s.mem ∧ t.pair.role = .update) ∧
  (∀ (rq : Rq) (mt : Meta) (s : State), Running s → s.cord.ilock = true → s.cord.busy = false → Accepted 0x1720 7 rq mt s → s.upd.arb.length = 4 →
    let comp := beNat rq.value
    let f := s.upd.fw.getD (comp - 1) {}
    Answers (exec (.svnCommit rq) s) fun t => Told rq s t ∧ t.upd.st = s.upd.st ∧
      arbOf t comp = (if f.valid then max (arbOf s comp) (min 64 f.svn) else arbOf s comp) ∧
      ∀ k, 1 ≤ k → k ≠ comp → arbOf t k = arbOf s k)

/-- R498, R505 to R511 and R515. -/
def Obligations.KeyMailboxComplete : Prop :=
  let ready (s : State) : Prop := Running s ∧ s.cord.ilock = true
  let done (op : Nat) (data : List Byte) (s : State) : Host.Outcome State Fault Refusal := .next (settle (mbxDone op { status := 0, data := data } s))
  (∀ (m : MbxRq) (s : State), ready s → s.cord.vmode = true → serviceOnly s = false → updRole s = true → (m.arg0 = 3 ∨ m.arg0 = 4) → m.arg1.toNat ≤ 262144 →
    exec (.updBegin m) s = done 0x0040 [] { s with legal := { s.legal with upd := some { comp := m.arg0.toNat, len := m.arg1.toNat, data := [] } } }) ∧
  (∀ (m : MbxRq) (u : CordUpd) (s : State), ready s → s.legal.upd = some u → m.arg0.toNat + m.data.length ≤ u.len →
    exec (.updData m) s = done 0x0041 [] { s with legal := { s.legal with upd := some { u with data := overlay u.data m.arg0.toNat m.data } } }) ∧
  (∀ (m : MbxRq) (u : CordUpd) (s : State), ready s → s.legal.upd = some u → s.cord.vmode = true → updRole s = true → m.data.length = 128 → hdrLen m.data = u.len →
    u.data.length = u.len → TrailOpen 2 s →
    let c := imageCheck s u.comp true m.data u.data
    Answers (exec (.updEnd m) s) fun t =>
      if c = 0 then MbxAnswered 0x0042 { status := 0, res0 := leNat ((idWith s u.comp m.data u.data).take 8) } s t ∧ t.legal.upd = none ∧
        t.aud.used = s.aud.used + 1 ∧ t.cord.firmware = s.cord.firmware
      else MbxAnswered 0x0042 { status := c } s t ∧ t.legal = s.legal ∧ t.aud = s.aud) ∧
  (∀ (m : MbxRq) (s : State), ready s → serviceOnly s = false → m.data.length = 36 → leAt m.data 3 1 = 0 →
    let slot := leAt m.data 0 1
    let level := leAt m.data 1 1
    let cred : Cred := { slot := slot, key := slice m.data 4 32, level := level, debug := leAt m.data 2 1 % 2 == 1 }
    (level = 0 → slot < 4 → recAt s.ks.progs slot = none →
      Answers (exec (.ksEnrol m) s) fun t => MbxAnswered 0x0043 { status := 0 } s t ∧ t.aud = s.aud ∧
        t.ks = { s.ks with progs := { idx := slot, key := slice m.data 4 32, digid := 0 } :: s.ks.progs }) ∧
    (level = 1 ∨ level = 2 ∨ level = 4 → slot < 32 → credAt s.ks slot = none →
      Answers (exec (.ksEnrol m) s) fun t => MbxAnswered 0x0043 { status := 0 } s t ∧ t.aud = s.aud ∧ t.ks = { s.ks with creds := cred :: s.ks.creds }) ∧
    (level = 3 → slot < 32 → credAt s.ks slot = none → s.cord.vmode = true → TrailOpen 3 s →
      Answers (exec (.ksEnrol m) s) fun t => MbxAnswered 0x0043 { status := 0 } s t ∧ t.aud.used = s.aud.used + 1 ∧
        t.ks = { s.ks with creds := cred :: s.ks.creds })) ∧
  (∀ (m : MbxRq) (c : Cred) (s : State), ready s → serviceOnly s = false → m.arg0 = 1 → credAt s.ks m.arg1.toNat = some c →
    (c.level = 4 → (s.ks.creds.filter (fun x => x.level == 4)).length ≠ 1) → (c.level = 3 → s.cord.vmode = true ∧ TrailOpen 3 s) →
    Answers (exec (.ksRevoke m) s) fun t => MbxAnswered 0x0044 { status := 0 } s t ∧
      t.ks = { s.ks with creds := s.ks.creds.filter (fun x => x.slot != m.arg1.toNat) } ∧
      t.aud.used = s.aud.used + (if c.level = 3 then 1 else 0) ∧ (∀ x ∈ t.od.sessions, x.cred = some m.arg1.toNat → x.revoked = true)) ∧
  (∀ (m : MbxRq) (r : KeyRec) (s : State), ready s → serviceOnly s = false → m.arg0 = 2 → recAt s.ks.progs m.arg1.toNat = some r →
    Answers (exec (.ksRevoke m) s) fun t => MbxAnswered 0x0044 { status := 0 } s t ∧ t.aud = s.aud ∧
      t.ks = { s.ks with progs := dropRec s.ks.progs m.arg1.toNat }) ∧
  (∀ (m : MbxRq) (n : Nat) (s : State), ready s → s.ks.dev = some n → m.data.length = 72 → leAt m.data 4 4 = Config.serial.toNat →
    let idx := leAt m.data 2 2
    let cls := leAt m.data 0 1
    (cls = 3 ∧ idx < 128) ∨ (cls = 4 ∧ idx < 1024) →
    Answers (exec (.ksLoad m) s) fun t =>
      (match Config.unwrapBlob n m.data with
      | none => MbxAnswered 0x0045 { status := 0x280C } s t ∧ t.ks = s.ks
      | some k => MbxAnswered 0x0045 { status := 0 } s t ∧
        if cls = 3 then t.ks = { s.ks with records := { idx := idx, key := fit 16 k, digid := 0 } :: dropRec s.ks.records idx }
        else t.ks = { s.ks with
          pairings := { idx := idx, key := fit 16 k, digid := BitVec.ofNat 32 (leAt m.data 8 4) } :: dropRec s.ks.pairings idx })) ∧
  (∀ (m : MbxRq) (s : State), ready s → exec (.ksInfo m) s = done 0x0046 (ksInfo s) s) ∧
  (∀ (m : MbxRq) (n : Nat) (s : State), ready s → s.ks.dev = some n → m.data.length = 32 →
    exec (.ksSign m) s = done 0x0047 (fit 64 (Config.deviceSign n (certVerify m.data))) s) ∧
  (∀ (m : MbxRq) (s : State), ready s → (m.arg0 = 3 ∨ m.arg0 = 4) → s.upd.arb.length = 4 →
    let comp := m.arg0.toNat
    let f := s.upd.fw.getD (comp - 1) {}
    Answers (exec (.arbAdvance m) s) fun t => MbxAnswered 0x0048 { status := 0 } s t ∧
      arbOf t comp = (if f.valid then max (arbOf s comp) (min 64 f.svn) else arbOf s comp) ∧ t.upd.revNor = s.upd.revNor ∧ t.ks = s.ks ∧
      ∀ k, 1 ≤ k → k ≠ comp → arbOf t k = arbOf s k) ∧
  (∀ (m : Master) (level : Level) (word : Word) (s : State), ready s → s.pair.role = .offline →
    Answers (exec (.zeroise (.reg m level word)) s) fun t => MbxAnswered 0x0049 { status := 0 } s t ∧
      t.ks = { s.ks with dev := none, records := [], pairings := [], zeroised := true } ∧ t.upd = s.upd)

/-- R507 to R512 and R516. -/
def Obligations.KeyEntriesComplete : Prop :=
  let ready (idx sub : Nat) (rq : Rq) (mt : Meta) (s : State) : Prop :=
    Running s ∧ s.cord.ilock = true ∧ s.cord.busy = false ∧ Accepted idx sub rq mt s
  let cred (v : List Byte) : Cred := { slot := leAt v 0 1, key := slice v 4 32, level := leAt v 1 1, debug := leAt v 2 1 % 2 == 1 }
  (∀ (rq : Rq) (mt : Meta) (s : State), ready 0x1730 2 rq mt s → rq.value.length = 36 → serviceOnly s = false → leAt rq.value 3 1 = 0 →
    leAt rq.value 1 1 = 1 ∨ leAt rq.value 1 1 = 2 ∨ leAt rq.value 1 1 = 4 → leAt rq.value 0 1 < 32 → credAt s.ks (leAt rq.value 0 1) = none →
    Answers (exec (.credentialEnrol rq) s) fun t => Told rq s t ∧ t.ks = { s.ks with creds := cred rq.value :: s.ks.creds } ∧ t.aud = s.aud) ∧
  (∀ (rq : Rq) (mt : Meta) (c : Cred) (s : State), ready 0x1730 3 rq mt s → serviceOnly s = false → credAt s.ks (beNat rq.value) = some c → c.level ≠ 3 →
    (c.level = 4 → (s.ks.creds.filter (fun x => x.level == 4)).length ≠ 1) →
    Answers (exec (.credentialRevoke rq) s) fun t => Told rq s t ∧
      t.ks = { s.ks with creds := s.ks.creds.filter (fun x => x.slot != beNat rq.value) } ∧ (∀ x ∈ t.od.sessions, x.cred ≠ some (beNat rq.value))) ∧
  (∀ (rq : Rq) (mt : Meta) (s : State), ready 0x1730 5 rq mt s → rq.value.length = 36 → serviceOnly s = false → leAt rq.value 1 3 = 0 →
    leAt rq.value 0 1 < 4 → recAt s.ks.progs (leAt rq.value 0 1) = none →
    Answers (exec (.progkeyEnrol rq) s) fun t => Told rq s t ∧
      t.ks = { s.ks with progs := { idx := leAt rq.value 0 1, key := slice rq.value 4 32, digid := 0 } :: s.ks.progs }) ∧
  (∀ (rq : Rq) (mt : Meta) (r : KeyRec) (s : State), ready 0x1730 6 rq mt s → serviceOnly s = false → recAt s.ks.progs (beNat rq.value) = some r →
    Answers (exec (.progkeyRevoke rq) s) fun t => Told rq s t ∧ t.ks = { s.ks with progs := dropRec s.ks.progs (beNat rq.value) }) ∧
  (∀ (rq : Rq) (mt : Meta) (n : Nat) (s : State), ready 0x1730 7 rq mt s → rq.value.length = 72 → s.ks.dev = some n → leAt rq.value 4 4 = Config.serial.toNat →
    leAt rq.value 0 1 = 3 → leAt rq.value 2 2 < 128 →
    Answers (exec (.keyLoad rq) s) fun t =>
      (match Config.unwrapBlob n rq.value with
      | none => RefusedWith rq 0x280C s t ∧ t.ks = s.ks
      | some k => Told rq s t ∧ t.ks = { s.ks with
          records := { idx := leAt rq.value 2 2, key := fit 16 k, digid := 0 } :: dropRec s.ks.records (leAt rq.value 2 2) })) ∧
  (∀ (rq : Rq) (mt : Meta) (s : State), ready 0x1730 0x0B rq mt s → rq.value.length = 36 → leAt rq.value 3 1 = 0 → leAt rq.value 1 1 = 3 →
    leAt rq.value 0 1 < 32 → credAt s.ks (leAt rq.value 0 1) = none → s.cord.vmode = true → TrailOpen 3 s →
    Answers (exec (.verifierEnrol rq) s) fun t => Told rq s t ∧ t.ks = { s.ks with creds := cred rq.value :: s.ks.creds } ∧ t.aud.used = s.aud.used + 1) ∧
  (∀ (rq : Rq) (mt : Meta) (c : Cred) (s : State), ready 0x1730 0x0C rq mt s → serviceOnly s = false → credAt s.ks (beNat rq.value) = some c → c.level = 3 →
    s.cord.vmode = true → TrailOpen 3 s →
    Answers (exec (.verifierRevoke rq) s) fun t => Told rq s t ∧ t.aud.used = s.aud.used + 1 ∧
      t.ks = { s.ks with creds := s.ks.creds.filter (fun x => x.slot != beNat rq.value) } ∧ (∀ x ∈ t.od.sessions, x.cred ≠ some (beNat rq.value))) ∧
  (∀ (rq : Rq) (mt : Meta) (s : State), ready 0x1730 0x0A rq mt s → s.pair.role = .offline →
    Answers (exec (.zeroise (.obj rq)) s) fun t => Told rq s t ∧
      t.ks = { s.ks with dev := none, records := [], pairings := [], zeroised := true }) ∧
  (∀ (rq : Rq) (n : Nat) (s : State), Running s → s.cord.ilock = true → s.cord.busy = false → rq.path = .service n → s.od.conns.contains n = true →
    checkAccess (writer 0x1740 1 rq) false [] s = 0 → (∀ x ∈ s.od.sessions, x.xfer = none ∧ x.revoked = false) →
    Answers (exec (.debugChallenge rq) s) fun t => t.upd.debugChal = some (randomBytes s.freeCtr 32, s.now) ∧ t.ks = s.ks ∧
      ∃ m, t.out = s.out ++ [.reply rq.path m] ∧ m.op = 3 ∧ m.data = randomBytes s.freeCtr 32) ∧
  (∀ (rq : Rq) (mt : Meta) (c : List Byte) (t0 : Nat) (k : Cred) (s : State), ready 0x1740 2 rq mt s → rq.value.length = 68 → s.pair.role = .offline →
    s.hw.key = .service → s.cord.sess = none → s.upd.debugChal = some (c, t0) → credAt s.ks (leAt rq.value 0 1) = some k →
    Answers (exec (.debugUnlock rq) s) fun t => t.upd.debugChal = none ∧
      if s.now - t0 ≤ 60000000000 ∧ k.debug = true ∧ Config.ed25519Verify k.key (c ++ le4 Config.serial.toNat) (slice rq.value 4 64) = true then
        Told rq s t ∧ t.upd.debugOpen = true ∧ t.ks = { s.ks with dev := none, records := [], pairings := [], zeroised := true, permit := true }
      else RefusedWith rq 0x280D s t ∧ t.upd.debugOpen = s.upd.debugOpen ∧ t.ks = s.ks)

/-- R506 to R511, R519 and R520. -/
def Obligations.KeyStoreCommandsComplete : Prop :=
  let result (cmd r : Nat) (k : Ks) : Ks := { k with resultCmd := cmd, result := r }
  (∀ (s : State), Running s →
    (s.ks.dev = none → Answers (exec .ksCmdGenerate s) fun t =>
      t.ks = result 1 0 { s.ks with dev := some s.ks.gens, gens := s.ks.gens + 1, zeroised := false } ∧ t.mem = s.mem) ∧
    (s.ks.dev ≠ none → exec .ksCmdGenerate s = .next (settle s))) ∧
  (∀ (n : Nat) (s : State), Running s → selClass s.ks = 5 → s.ks.dev = some n →
    Answers (exec .ksCmdSign s) fun t => t.ks = { result 2 0 s.ks with data := t.ks.data } ∧
      (ksData t.ks).take 64 = fit 64 (Config.deviceSign n (certVerify ((ksData s.ks).take 32)))) ∧
  (∀ (s : State), Running s → (selClass s.ks ≠ 5 ∨ s.ks.dev = none) →
    exec .ksCmdSign s = .next (settle { s with ks := result 2 (if selClass s.ks = 5 then 2 else 1) s.ks })) ∧
  (∀ (n : Nat) (s : State), Running s → s.ks.dev = some n → s.ks.data.length = 32 →
    let b := (ksData s.ks).take 72
    leAt b 4 4 = Config.serial.toNat → leAt b 0 1 = 3 → leAt b 2 2 < 128 → selClass s.ks = 3 → selIndex s.ks = leAt b 2 2 →
    Answers (exec .ksCmdUnwrap s) fun t =>
      (match Config.unwrapBlob n b with
      | none => t.ks = result 3 3 s.ks
      | some k => t.ks = result 3 0 { s.ks with records := { idx := leAt b 2 2, key := fit 16 k, digid := 0 } :: dropRec s.ks.records (leAt b 2 2) })) ∧
  (∀ (s : State), Running s → s.ks.data.length = 32 →
    let d := (ksData s.ks).take 36
    let cred : Cred := { slot := selIndex s.ks, key := slice d 4 32, level := leAt d 1 1, debug := leAt d 2 1 % 2 == 1 }
    selClass s.ks = 1 → leAt d 3 1 = 0 → (leAt d 1 1 = 1 ∨ leAt d 1 1 = 2 ∨ leAt d 1 1 = 4) →
    Answers (exec .ksCmdEnrol s) fun t =>
      t.ks = (if credAt s.ks (selIndex s.ks) = none then result 4 0 { s.ks with creds := cred :: s.ks.creds } else result 4 1 s.ks) ∧ t.aud = s.aud) ∧
  (∀ (s : State), Running s → selClass s.ks = 2 →
    Answers (exec .ksCmdRevoke s) fun t =>
      t.ks = (if recAt s.ks.progs (selIndex s.ks) = none then result 5 2 s.ks
        else result 5 0 { s.ks with progs := dropRec s.ks.progs (selIndex s.ks) }) ∧ t.aud = s.aud) ∧
  (∀ (s : State), Running s → selClass s.ks = 0 →
    Answers (exec .ksCmdRevoke s) fun t => t.upd.revKs = setBit s.upd.revKs (selIndex s.ks) ∧ t.ks = result 5 0 s.ks ∧ t.aud = s.aud) ∧
  (∀ (key : List Byte) (s : State), Running s → selPublic s = some key →
    exec .ksCmdVerify s = .next (settle { s with
      ks := result 6 (if Config.ed25519Verify key ((ksData s.ks).drop 64) ((ksData s.ks).take 64) then 0 else 3) s.ks })) ∧
  (∀ (s : State), Running s →
    Answers (exec .ksCmdZeroise s) fun t =>
      t.ks = result 7 0 { s.ks with dev := none, records := [], pairings := [], zeroised := true } ∧ t.upd = s.upd) ∧
  (∀ (s : State), Running s → s.upd.arb.length = 4 →
    let comp := if selIndex s.ks = 1 then 4 else 3
    let v := (s.ks.data.getD 0 0).toNat
    Answers (exec .ksCmdArbAdvance s) fun t =>
      arbOf t comp = (if v ≤ 64 then max (arbOf s comp) v else arbOf s comp) ∧ t.ks = result 8 (if v ≤ 64 then 0 else 4) s.ks ∧
      ∀ k, 1 ≤ k → k ≠ comp → arbOf t k = arbOf s k) ∧
  (∀ (s : State), Running s →
    (s.ks.zeroised = true → s.pair.role = .offline → exec .ksCmdDebugPermit s = .next (settle { s with ks := { result 9 0 s.ks with permit := true } })) ∧
    ((s.ks.zeroised = false ∨ s.pair.role ≠ .offline) → exec .ksCmdDebugPermit s = .next (settle s)))

-- COMMISSION and the fault injector (17) --------------------------------------------------------------------------------------------------

/-- R528, R533 to R538 and R543. -/
def Obligations.CommissionComplete : Prop :=
  let clear (r : FijRule) : FijRule := { r with hits := 0, miss := 0 }
  let seed (s : State) : Word := if s.mnt.seed = 0 then 1 else s.mnt.seed
  let begun (s t : State) : Prop := t.mnt.running = true ∧ t.mnt.stopCause = 0 ∧ t.mnt.startedAt = s.now ∧ t.mnt.elapsed = 0 ∧
    t.mnt.rules = s.mnt.rules.map (fun r => { r with seen := 0, acted := 0, lfsr := seed s }) ∧ t.mnt.comm = s.mnt.comm ∧ t.mem = s.mem
  let ended (cause : Nat) (s t : State) : Prop := t.mnt.running = false ∧ t.mnt.stopCause = cause ∧ t.mnt.elapsed = (s.now - s.mnt.startedAt) / 1000000000 ∧
    t.mnt.rules = s.mnt.rules ∧ t.mnt.holders = s.mnt.holders.filter (fun h => !(h.code == 9 && h.slot == mySlot s)) ∧
    (∀ k n f a, n < 2 → (k, HeldFrame.flueTx n f, a) ∈ s.mnt.held → { f := f, flip := none } ∈ (laneOf t.flu n).out) ∧ t.mem = s.mem
  (∀ (rq : Rq) (mt : Meta) (s : State), Running s → Accepted 0x1751 1 rq mt s → AreaOpen s → s.pair.role = .active →
    let h : Holder := { code := 8, slot := mySlot s, arg := 0, session := (writer 0x1751 1 rq).session }
    tokenFree s h = true →
    Answers (exec (.commission rq) s) fun t =>
      (∃ x, t.od.txns = s.od.txns ++ [x] ∧ x.beat = applyBeat s ∧ x.entries = [entryE 0x1751 1 rq.value] ∧ x.client = some (writer 0x1751 1 rq)) ∧
      cfgVal t 0x1751 1 = rq.value ∧ t.mnt.holders = s.mnt.holders ++ [h] ∧ t.mnt.comm = s.mnt.comm ∧ t.out = s.out) ∧
  (∀ (x : Txn) (c : Client) (v : Byte) (s : State), Running s → x.entries = [entryE 0x1751 1 [v]] → x.client = some c → x.forward = none →
    (applyTxn s x).mnt.comm = (v != 0) ∧ (∀ h ∈ (applyTxn s x).mnt.holders, h.code ≠ 8) ∧
    ∃ m, (applyTxn s x).out = s.out ++ [.reply c.path m] ∧ m.op = 4 ∧ m.tid = c.tid) ∧
  (∀ (level : Level) (word : Word) (s : State), Running s →
    (level = .m → fld word 16 16 = 0xC0C0 → bit word 0 = true → Answers (exec (.fijComm level word) s) fun t =>
      t.mnt = { s.mnt with comm := true } ∧ t.flu = s.flu ∧ t.pair = s.pair) ∧
    (level = .m → fld word 16 16 = 0xC0C0 → bit word 0 = false → s.mnt.comm = true → Answers (exec (.fijComm level word) s) fun t =>
      t.mnt.comm = false ∧ t.mnt.running = false ∧ fld t.flu.cfg 2 2 = 0 ∧ (s.mnt.running = true → t.mnt.stopCause = 3) ∧ t.pair = s.pair) ∧
    (level ≠ .m ∨ fld word 16 16 ≠ 0xC0C0 → exec (.fijComm level word) s = .next { s with dic := leaveIdle s.dic })) ∧
  (∀ (rq : Rq) (mt : Meta) (s : State), Running s → Accepted 0x1753 1 rq mt s → beNat rq.value = 1 → s.pair.role = .active → fijRefused s = 0 →
    let h := ownHolder s 9 0 (writer 0x1753 1 rq).session
    tokenFree s h = true →
    Answers (exec (.fijStart (.obj rq)) s) fun t => begun s t ∧ t.mnt.holders = s.mnt.holders ++ [h] ∧ Told rq s t) ∧
  (∀ (m : Master) (word : Word) (s : State), Running s → fld word 16 16 = 0xF1A5 → fld word 0 8 = 1 → fijRefused s = 0 →
    tokenFree s (ownHolder s 9 0 0) = true →
    Answers (exec (.fijStart (.reg m .m word)) s) fun t => begun s t ∧ t.mnt.holders = s.mnt.holders ++ [ownHolder s 9 0 0] ∧ t.out = s.out) ∧
  (∀ (rq : Rq) (mt : Meta) (s : State), Running s → Accepted 0x1753 1 rq mt s → beNat rq.value = 2 → s.mnt.running = true →
    Answers (exec (.fijStop (.obj rq)) s) fun t => ended 1 s t ∧ Told rq s t) ∧
  (∀ (m : Master) (word : Word) (s : State), Running s → fld word 16 16 = 0xF1A5 → fld word 0 8 = 2 → s.mnt.running = true →
    Answers (exec (.fijStop (.reg m .m word)) s) fun t => ended 1 s t ∧ t.out = s.out) ∧
  (∀ (s : State), Running s → s.mnt.running = true → Answers (exec .fijRunExpiry s) fun t => ended 2 s t ∧ t.out = s.out) ∧
  (∀ (word : Word) (s : State), Running s → bit word 0 = true → s.mnt.running = false →
    exec (.fijClear .m word) s = .next { s with dic := leaveIdle s.dic, mnt := { s.mnt with haltWr := false, rules := s.mnt.rules.map clear } }) ∧
  (∀ (k n : Nat) (f : FlueFrame) (s : State), Running s → s.mnt.running = true → heldBy s.mnt k = some (.flueTx n f) →
    let r := s.mnt.rules.getD k {}
    exec (.reorderHoldExpiry k) s = .next { s with
      dic := leaveIdle s.dic
      mnt := { s.mnt with held := s.mnt.held.filter (fun h => h.1 != k), rules := putAt s.mnt.rules k { r with miss := satInc r.miss } }
      flu := setLane s.flu n { laneOf s.flu n with out := (laneOf s.flu n).out ++ [{ f := f }] } })

/-- The keyed registers are machine-mode registers (R55, R94, R172, R231, R366, R394, R407, R437, R462, R543). -/
def Obligations.BelowMachineModeNoEffect : Prop :=
  ∀ (level : Level) (m : Master) (n : Nat) (w : Word) (mask : BitVec 16) (evs : DWord) (s : State), level ≠ .m →
    ∀ c ∈ [Instr.dmpArm level w, .switchover (.reg m level w), .makeOffline (.reg m level w), .promoteReserve (.reg m level w),
        .warmRestart (.reg m level w), .coldRestart (.reg m level w), .programStop (.reg m level w), .segmentStart n (.reg m level w),
        .segmentStop n (.reg m level w), .segmentReprobe n (.reg m level w), .cycFaultClear level mask evs, .cycWdog n level w,
        .cycDone n level w [], .embSleep n level w, .kdvTarget level w, .gateCommit level w, .lioRearm level w,
        .eventPosting 0 level w, .fijComm level w, .fijStart (.reg m level w), .fijStop (.reg m level w), .fijClear level w],
      exec c s = .next (settle s)

-- the whole block -----------------------------------------------------------------------------------------------------------------------------

/-- The reset columns of the register tables (R38, R94, R135, R172, R231, R268, R365 to R368, R393, R394, R419, R442, R462, R489, R519, R543). -/
def Obligations.ResetRegisters : Prop :=
  State.reset.pending = [] ∧ State.reset.mem = [] ∧ State.reset.pair.role = .offline ∧ Silent State.reset ∧ State.reset.sup.kilnHeld = true ∧
  State.reset.sup.rickHeld = true ∧ State.reset.sup.bankHeld = true ∧ State.reset.sup.cordHeld = true ∧
  (∀ b ∈ [Blk.sup, .pair, .flu, .cyc, .fpt 0, .fpt 3, .crd, .aud, .scl, .hck, .kdv, .tim, .rtc, .jrn, .evr, .gate, .dic, .emb, .lio, .hpw, .fij],
    regRead b 0 State.reset = 0xB00) ∧
  (∀ x ∈ [(Blk.pair, 0x30, 0x01F40020), (.flu, 0x10, 0x00064330), (.cyc, 0x18, 0x40), (.cyc, 0x30, 1), (.cyc, 0x100, 7), (.cyc, 0x118, 7),
      (.fpt 0, 0x18, 0x000A000C), (.fpt 3, 0x28, 0x00050002), (.fpt 1, 0x38, 0xFFFF), (.crd, 0x30, 3), (.crd, 0x124, 0xF0), (.crd, 0x128, 1),
      (.hck, 0x10, 0x180C0604), (.hck, 0x18, 0x40000200), (.tim, 0x10, 0x800000000), (.rtc, 0x08, 4), (.jrn, 0x30, 0x8000), (.evr, 0x10, 1),
      (.evr, 0x28, 0x10000), (.evr, 0x4000, 0x1004), (.evr, 0x7FFC, 0x1004), (.gate, 0x08, 0x20000000), (.gate, 0x10, 1), (.gate, 0x10C, 0xFFFFFFFF),
      (.dic, 0x300, 0xF), (.dic, 0x380, 0xF), (.lio, 0x08, 0x0A0A), (.lio, 0x14, 0x3022), (.hpw, 0x08, 0x2200), (.fij, 0x20, 0x3C), (.fij, 0x24, 1),
      (.fij, 0x104, 0xFFFF), (.fij, 0x26C, 0x00640000)],
    regRead x.1 x.2.1 State.reset = x.2.2)

/-- The invariant below holds at reset. -/
def Obligations.SteadyAtReset : Prop := Steady State.reset

/-- R25, R48, R55, R56, R248, R388, R400, R425 and R432 as one invariant of the step function over all 283 commands and the idle tick. -/
def Obligations.StepKeepsSteady : Prop := StepKeeps Steady

/-- R25, R425 and R432: no premise on the state, since the end of each command settles its levels. -/
def Obligations.LevelsAfterEveryCommand : Prop := ∀ (c : Instr) (s t : State), exec c s = .next t → FailSilentHolds t ∧ NoSleeper t.dic

/-- The addressed memory of R35 as the model keeps it; the form is the model's own (log 4). -/
def Obligations.MemoryReadsBack : Prop :=
  (∀ (m : Memory) (a : Nat) (bs : List Byte), m.wf = true →
    readBytes (writeBytes m a bs) a bs.length = bs ∧ (writeBytes m a bs).wf = true ∧
      ∀ b, b < a ∨ a + bs.length ≤ b → readByte (writeBytes m a bs) b = readByte m b) ∧
  (∀ (m n : Memory), m.wf = true → n.wf = true → (∀ a, readByte m a = readByte n a) → m = n)

/-- R252 with R510: the refusals, and the write that changes nothing; MailboxComplete states the write that does. -/
def Obligations.LegalWriteOrder : Prop :=
  ∀ (m : MbxRq) (s : State), Running s → s.cord.ilock = true →
    let index := m.arg0.toNat / 256
    let sub := m.arg0.toNat % 256
    let code := if s.cord.sess.map (fun v => v.handle) ≠ some m.session then 0x2505
      else if serviceOnly s then 0x0603
      else if s.cord.vmode = false then 0x2501
      else match legalAt index sub with
        | none => 0x2507
        | some (n, j, mt) =>
          if chanSt s n = .inService then 0x2107
          else if m.data.length ≠ 8 ∨ legalFits j sub mt (leAt m.data 0 8) = false then 0x0609
          else if 4 ≤ audState s ∨ s.aud.inited = false then 0x2503
          else if 2 ≤ audState s then 0x2502 else 0
    (code ≠ 0 → Answers (exec (.objWrite m) s) fun t => MbxAnswered 0x0012 { status := code } s t ∧ t.legal = s.legal ∧ t.aud = s.aud) ∧
    (code = 0 → legalVal s.legal index sub = leAt m.data 0 8 →
      Answers (exec (.objWrite m) s) fun t => MbxAnswered 0x0012 { status := 0, res0 := 1 } s t ∧ t.legal = s.legal ∧ t.aud = s.aud)
end

