-- ==== Sys2Proof/Laws/Bits.lean ====
section
/-! SUPPORT. Single bits of registers: set, cleared, and the others. -/

namespace Sys2Proof.Laws

open Sys2Proof Sys2Proof.Machine

/-- A bit that was set reads 1. -/
theorem bit_setBit_same {n : Nat} (w : BitVec n) {i : Nat} (h : i < n) : bit (setBit w i) i = true := by
  simp only [bit, setBit, BitVec.toNat_or, BitVec.toNat_ofNat, Nat.testBit_or]
  rw [Nat.testBit_mod_two_pow]
  simp [h]

/-- Every other bit stays. -/
theorem bit_setBit_other {n : Nat} (w : BitVec n) {i j : Nat} (h : i ≠ j) : bit (setBit w i) j = bit w j := by
  simp only [bit, setBit, BitVec.toNat_or, BitVec.toNat_ofNat, Nat.testBit_or]
  rw [Nat.testBit_mod_two_pow, Nat.testBit_two_pow_of_ne h]
  simp

/-- A bit that was cleared reads 0. -/
theorem bit_clrBit_same {n : Nat} (w : BitVec n) (i : Nat) : bit (clrBit w i) i = false := by
  simp only [bit, clrBit, ← BitVec.getLsbD.eq_1, BitVec.getLsbD_and, BitVec.getLsbD_not, BitVec.getLsbD_ofNat]
  by_cases h : i < n <;> simp [h]

end Sys2Proof.Laws
end

