-- ==== Sys2Proof/Laws/Mem.lean ====
section
/-!
SUPPORT. The addressed memory: every operation keeps the canonical form; a byte reads back what was last written to it, and a
write leaves every other byte alone.
-/

namespace Sys2Proof.Laws

open Sys2Proof Sys2Proof.Machine

/-- A lower bound of the addresses may be taken lower. -/
theorem wfFrom_mono {lo lo' : Nat} (h : lo' ≤ lo) : ∀ {m : Memory}, Memory.wfFrom lo m = true → Memory.wfFrom lo' m = true
  | [], _ => rfl
  | (a, b) :: m, w => by simp [Memory.wfFrom] at w ⊢; exact ⟨⟨by omega, w.1.2⟩, w.2⟩

/-- Leaving bytes out keeps the canonical form. -/
theorem wfFrom_filter (p : Host.Cell → Bool) : ∀ {lo : Nat} {m : Memory}, Memory.wfFrom lo m = true →
    Memory.wfFrom lo (m.filter p) = true
  | _, [], _ => rfl
  | lo, (a, b) :: m, w => by
    simp only [Memory.wfFrom, Bool.and_eq_true, decide_eq_true_eq] at w
    have ih := wfFrom_filter p w.2
    rw [List.filter_cons]
    split
    · simp [Memory.wfFrom, w.1, ih]
    · exact wfFrom_mono (by omega) ih

/-- Below the lowest listed address a memory reads as unwritten. -/
theorem readByte_below {a : Nat} : ∀ {lo : Nat} {m : Memory}, Memory.wfFrom lo m = true → a < lo → readByte m a = unlisted
  | _, [], _, _ => rfl
  | lo, (a', b) :: m, w, h => by
    simp only [Memory.wfFrom, Bool.and_eq_true, decide_eq_true_eq] at w
    have : a' ≠ a := by omega
    simp [readByte, this, readByte_below (a := a) w.2 (by omega)]

theorem wfFrom_writeByte (v : Byte) {a : Nat} : ∀ {lo : Nat} {m : Memory}, Memory.wfFrom lo m = true → lo ≤ a →
    Memory.wfFrom lo (writeByte m a v) = true
  | lo, [], _, h => by unfold writeByte; split <;> simp_all [Memory.wfFrom]
  | lo, (a', b) :: m, w, h => by
    simp only [Memory.wfFrom, Bool.and_eq_true, decide_eq_true_eq] at w
    unfold writeByte
    split
    · split
      · simp [Memory.wfFrom, w]
      · have := wfFrom_mono (lo' := a' + 1) (by omega) w.2
        simp_all [Memory.wfFrom] <;> omega
    · split
      · split
        · exact wfFrom_mono (by omega) w.2
        · subst_vars; simp_all [Memory.wfFrom]
      · have := wfFrom_writeByte v (a := a) w.2 (by omega)
        simp [Memory.wfFrom, w, this]

/-- A byte reads back what is written to it. -/
theorem readByte_writeByte_same {m : Memory} (h : m.wf = true) (a : Nat) (v : Byte) : readByte (writeByte m a v) a = v := by
  suffices H : ∀ lo (m : Memory), Memory.wfFrom lo m = true → readByte (writeByte m a v) a = v from H 0 m h
  intro lo m
  induction m generalizing lo with
  | nil => intro _; unfold writeByte; split <;> simp_all [readByte]
  | cons c m ih =>
    obtain ⟨a', b⟩ := c
    intro w
    simp only [Memory.wfFrom, Bool.and_eq_true, decide_eq_true_eq] at w
    unfold writeByte
    split
    · have h' : a' ≠ a := by omega
      split
      · simp_all [readByte, readByte_below (a := a) w.2 (by omega)]
      · simp [readByte]
    · split
      · split
        · subst_vars; exact readByte_below w.2 (by omega)
        · simp [readByte]
      · have h' : a' ≠ a := by omega
        simp [readByte, h', ih _ w.2]

/-- A write leaves every other byte alone. -/
theorem readByte_writeByte_other (m : Memory) {a b : Nat} (v : Byte) (h : a ≠ b) :
    readByte (writeByte m a v) b = readByte m b := by
  induction m with
  | nil => unfold writeByte; split <;> simp [readByte, h]
  | cons c m ih =>
    obtain ⟨a', x⟩ := c
    unfold writeByte
    split
    · split
      · rfl
      · simp [readByte, h]
    · split
      · have h' : a' ≠ b := by omega
        split <;> simp [readByte, h, h']
      · simp only [readByte, ih]

@[simp] theorem wf_writeByte {m : Memory} (h : m.wf = true) (a : Nat) (v : Byte) : (writeByte m a v).wf = true :=
  wfFrom_writeByte v h (Nat.zero_le a)

@[simp] theorem wf_filter {m : Memory} (h : m.wf = true) (p : Host.Cell → Bool) : Memory.wf (m.filter p) = true := wfFrom_filter p h

@[simp] theorem wf_writeBytes {m : Memory} (h : m.wf = true) (a : Nat) (bs : List Byte) : (writeBytes m a bs).wf = true := by
  induction bs generalizing m a with
  | nil => exact h
  | cons b bs ih => exact ih (wf_writeByte h a b) _

/-- Bytes written leave every byte outside them alone. -/
theorem readByte_writeBytes_other (m : Memory) {a b : Nat} (bs : List Byte) (h : b < a ∨ a + bs.length ≤ b) :
    readByte (writeBytes m a bs) b = readByte m b := by
  induction bs generalizing m a with
  | nil => rfl
  | cons x bs ih =>
    simp only [List.length_cons] at h
    rw [writeBytes, ih _ (by omega), readByte_writeByte_other _ _ (by omega)]

/-- Bytes read back as they were written. -/
theorem readByte_writeBytes_at {m : Memory} (h : m.wf = true) (a : Nat) (bs : List Byte) (k : Nat) (hk : k < bs.length) :
    readByte (writeBytes m a bs) (a + k) = bs[k] := by
  induction bs generalizing m a k with
  | nil => simp at hk
  | cons x bs ih =>
    cases k with
    | zero => rw [writeBytes, readByte_writeBytes_other _ _ (by omega)]; exact readByte_writeByte_same h a x
    | succ k =>
      have := ih (wf_writeByte h a x) (a + 1) k (by simpa using hk)
      rw [writeBytes]
      simpa [Nat.add_assoc, Nat.add_comm 1 k] using this

/-- A run of bytes reads back as it was written. -/
theorem readBytes_writeBytes {m : Memory} (h : m.wf = true) (a : Nat) (bs : List Byte) :
    readBytes (writeBytes m a bs) a bs.length = bs := by
  have H : ∀ (m : Memory) (a n : Nat), readBytes m a n = (List.range n).map (fun k => readByte m (a + k)) := by
    intro m a n
    induction n generalizing a with
    | zero => rfl
    | succ n ih =>
      rw [readBytes, ih, List.range_succ_eq_map]
      simp [Nat.add_comm, Nat.add_left_comm]
  rw [H]
  apply List.ext_getElem
  · simp
  · intro k h1 h2
    simp [readByte_writeBytes_at h a bs k h2]

@[simp] theorem wf_writeLe {m : Memory} (h : m.wf = true) (a n v : Nat) : (writeLe m a n v).wf = true := wf_writeBytes h _ _

@[simp] theorem wf_clearRange {m : Memory} (h : m.wf = true) (lo hi : Nat) : (clearRange m lo hi).wf = true := wf_filter h _

/-- A fold of operations that keep the canonical form keeps it. -/
theorem wf_foldl {α : Type} {f : Memory → α → Memory} (hf : ∀ m x, m.wf = true → (f m x).wf = true) (xs : List α) :
    ∀ {m : Memory}, m.wf = true → (xs.foldl f m).wf = true := by
  induction xs with
  | nil => exact fun h => h
  | cons x xs ih => exact fun h => ih (hf _ x h)

@[simp] theorem wf_copyPage {m : Memory} (h : m.wf = true) (src dst p : Nat) : (copyPage src dst m p).wf = true := by
  unfold copyPage; exact wf_writeBytes h _ _

@[simp] theorem wf_copyPages {m : Memory} (h : m.wf = true) (src dst : Nat) (ps : List Nat) : (copyPages src dst ps m).wf = true :=
  wf_foldl (fun _ p h => wf_copyPage h src dst p) ps h

@[simp] theorem wf_poweredOff {m : Memory} (h : m.wf = true) : (poweredOff m).wf = true := wf_filter h _

end Sys2Proof.Laws
end

