-- ==== Sys2Proof/Laws/Sound.lean ====
section
/-!
SUPPORT. What every operation keeps, as one predicate of the state, with the lemmas that take it through record updates, choices and folds. The
files SoundFirst, SoundUnits, SoundPair and SoundOuter say it of every operation and every meaning, one lemma each.
-/

namespace Sys2Proof.Laws

open Sys2Proof Sys2Proof.Machine Sys2Proof.Safety

/-- What every operation of the model keeps: the queue of commands, the canonical form of the memory, the room of the recorder's queue
(R388), MOPEN that never comes back before a restart (R400), and a Damper driven only as ACTIVE and armed (R48, R55, R56),
verification mode only under the switch and a session (R248). -/
structure Sound (qs : List Instr) (s : State) : Prop where
  queue : s.pending = qs
  mem : s.mem.wf = true
  events : s.evr.queue.length ≤ 64
  mopen : s.gate.mopen = true → s.gate.mopenShut = false
  drive : DriveLaw s.pair
  vmode : VmodeLaw s.cord

/-- Nothing but the queue, the memory, the recorder, Gate, the registers of the pair and of Cord matters. -/
@[simp] theorem sound_frame {qs : List Instr} {s : State} {now : Nat} {freeCtr : Nat} {sup : Sup} {hw : Hw} {clk : Clk} {tim :
    Tim} {flu : Flu} {fluq : FluQ} {cyc : Cyc} {run : Run} {chg : Chg} {fol : Fol} {legal : Legal}
    {aud : Aud} {scl : Scl} {od : Od} {upd : Upd} {ks : Ks} {jrn : Jrn} {dic : Dic} {emb : Emb} {lio : Lio} {mnt : Mnt} {bus :
    Bus} {out : List OutMsg} :
    Sound qs { s with now := now, freeCtr := freeCtr, sup := sup, hw := hw, clk := clk, tim := tim, flu := flu, fluq := fluq, cyc := cyc, run := run, chg := chg, fol := fol, legal := legal, aud := aud, scl := scl, od := od, upd := upd, ks := ks, jrn := jrn, dic := dic, emb := emb, lio := lio, mnt := mnt, bus := bus, out := out } ↔ Sound qs s := ⟨fun h => ⟨h.1, h.2, h.3, h.4, h.5, h.6⟩, fun h => ⟨h.1, h.2, h.3, h.4, h.5, h.6⟩⟩

/-- Both sides of a choice. -/
@[simp] theorem sound_ite {qs : List Instr} {c : Prop} [Decidable c] {s t : State} : Sound qs (if c then s else t) ↔ if c then
    Sound qs s else Sound qs t := by split <;> rfl

/-- `m` has its canonical form if the memory of `s` has. -/
def From (s : State) (m : Memory) : Prop := s.mem.wf = true → m.wf = true

/-- The recorder `e` keeps to its room if that of `s` does. -/
def FromE (s : State) (e : Evr) : Prop := s.evr.queue.length ≤ 64 → e.queue.length ≤ 64

/-- `g` keeps MOPEN shut if Gate of `s` does. -/
def FromG (s : State) (g : Gate) : Prop := (s.gate.mopen = true → s.gate.mopenShut = false) → g.mopen = true → g.mopenShut = false

/-- `p` drives no more than DriveLaw allows if the pair's registers of `s` do. -/
def FromP (s : State) (p : Pair) : Prop := DriveLaw s.pair → DriveLaw p

@[simp] theorem fromP_same {s : State} {p : Pair} (hd : p.driving = s.pair.driving) (ho : p.outEn = s.pair.outEn) (ha : p.armed = s.pair.armed)
    (hr : p.role = s.pair.role) : FromP s p := fun h => ⟨by rw [hd, hr, ha]; exact h.1, by rw [ho, hd]; exact h.2, by rw [ha, hr]; exact h.3⟩

@[simp] theorem fromP_silent {s : State} {p : Pair} (hd : p.driving = false) (ho : p.outEn = false) (ha : p.armed = false) : FromP s p :=
  fun _ => ⟨by simp [hd], by simp [ho], by simp [ha]⟩

/-- Silenced registers drive nothing. -/
theorem silence_law (p : Pair) : DriveLaw (silence p) := ⟨by simp [silence], by simp [silence], by simp [silence]⟩

@[simp] theorem silence_driving (p : Pair) : (silence p).driving = false := rfl
@[simp] theorem silence_outEn (p : Pair) : (silence p).outEn = false := rfl
@[simp] theorem silence_armed (p : Pair) : (silence p).armed = false := rfl

@[simp] theorem fromP_silence (s : State) (p : Pair) : FromP s (silence p) := fun _ => silence_law p

@[simp] theorem fromP_ite {s : State} {c : Prop} [Decidable c] {p q : Pair} (hp : FromP s p) (hq : FromP s q) : FromP s (if c then p else q) := by
  split <;> assumption

/-- No Damper toggles and no output is open outside ACTIVE; nothing is armed outside ACTIVE and STANDBY. -/
theorem fromP_role {s : State} {p : Pair} (hd : p.driving = true → s.pair.driving = true ∧ p.role = .active ∧ p.armed = s.pair.armed)
    (ho : p.outEn = true → s.pair.outEn = true ∧ p.driving = s.pair.driving) (ha : p.armed = true → p.role = .active ∨ p.role = .standby) :
    FromP s p := fun h => ⟨fun k => ⟨(hd k).2.1, (hd k).2.2.trans (h.1 (hd k).1).2⟩, fun k => (ho k).2.trans (h.2 (ho k).1), ha⟩

/-- `c` holds verification mode no more than VmodeLaw allows if Cord of `s` does. -/
def FromC (s : State) (c : Cord) : Prop := VmodeLaw s.cord → VmodeLaw c

@[simp] theorem fromC_same {s : State} {c : Cord} (hv : c.vmode = s.cord.vmode) (hw : c.switchSet = s.cord.switchSet) (hs : c.session = s.cord.session) :
    FromC s c := fun h k => by rw [hw, hs]; exact h (hv ▸ k)

@[simp] theorem fromC_out {s : State} {c : Cord} (hv : c.vmode = false) : FromC s c := fun _ k => by rw [hv] at k; cases k

/-- A change of Cord's registers. -/
theorem sound_cord {qs : List Instr} {s : State} {c : Cord} (h : Sound qs s) (hc : FromC s c) : Sound qs { s with cord := c } :=
  ⟨h.1, h.2, h.3, h.4, h.5, hc h.6⟩

@[simp] theorem fromE_same {s : State} {e : Evr} (h : e.queue = s.evr.queue) : FromE s e := by unfold FromE; rw [h]; exact id

@[simp] theorem fromG_same {s : State} {g : Gate} (h : g.mopen = s.gate.mopen) (h' : g.mopenShut = s.gate.mopenShut) : FromG s g
    := by unfold FromG; rw [h, h']; exact id

@[simp] theorem from_mem (s : State) : From s s.mem := id

@[simp] theorem from_writeByte {s : State} {m : Memory} (h : From s m) (a : Nat) (v : Byte) : From s (writeByte m a v) := fun w
    => wf_writeByte (h w) a v

@[simp] theorem from_writeBytes {s : State} {m : Memory} (h : From s m) (a : Nat) (v : List Byte) : From s (writeBytes m a v) :=
    fun w => wf_writeBytes (h w) a v

@[simp] theorem from_writeLe {s : State} {m : Memory} (h : From s m) (a n v : Nat) : From s (writeLe m a n v) := fun w =>
    wf_writeLe (h w) a n v

@[simp] theorem from_filter {s : State} {m : Memory} (h : From s m) (p : Host.Cell → Bool) : From s (m.filter p) := fun w =>
    wf_filter (h w) p

@[simp] theorem from_clearRange {s : State} {m : Memory} (h : From s m) (a b : Nat) : From s (clearRange m a b) := fun w =>
    wf_clearRange (h w) a b

@[simp] theorem from_poweredOff {s : State} {m : Memory} (h : From s m) : From s (poweredOff m) := fun w => wf_poweredOff (h w)

@[simp] theorem from_copyPages {s : State} {m : Memory} (h : From s m) (a b : Nat) (ps : List Nat) : From s (copyPages a b ps m)
    := fun w => wf_copyPages (h w) a b ps

theorem from_foldl {s : State} {α : Type} {f : Memory → α → Memory} (hf : ∀ m x, m.wf = true → (f m x).wf = true) (xs : List α)
    {m : Memory} (h : From s m) : From s (xs.foldl f m) := fun w => wf_foldl hf xs (h w)

/-- A change of the memory. -/
theorem sound_mem {qs : List Instr} {s : State} {m : Memory} (h : Sound qs s) (hm : From s m) {now : Nat} {freeCtr :
    Nat} {sup : Sup} {hw : Hw} {clk : Clk} {tim : Tim} {flu : Flu} {fluq : FluQ} {cyc : Cyc} {run : Run} {chg :
    Chg} {fol : Fol} {legal : Legal} {aud : Aud} {scl : Scl} {od : Od} {upd : Upd} {ks : Ks} {jrn : Jrn} {dic :
    Dic} {emb : Emb} {lio : Lio} {mnt : Mnt} {bus : Bus} {out : List OutMsg} :
    Sound qs { s with mem := m, now := now, freeCtr := freeCtr, sup := sup, hw := hw, clk := clk, tim := tim, flu := flu, fluq := fluq, cyc := cyc, run := run, chg := chg, fol := fol, legal := legal, aud := aud, scl := scl, od := od, upd := upd, ks := ks, jrn := jrn, dic := dic, emb := emb, lio := lio, mnt := mnt, bus := bus, out := out } := ⟨h.1, hm h.2, h.3, h.4, h.5, h.6⟩

/-- A change of the recorder. -/
theorem sound_evr {qs : List Instr} {s : State} {e : Evr} (h : Sound qs s) (he : FromE s e) {now : Nat} {freeCtr : Nat}
    {sup : Sup} {hw : Hw} {clk : Clk} {tim : Tim} {flu : Flu} {fluq : FluQ} {cyc : Cyc} {run : Run} {chg : Chg}
    {fol : Fol} {legal : Legal} {aud : Aud} {scl : Scl} {od : Od} {upd : Upd} {ks : Ks} {jrn : Jrn} {dic : Dic}
    {emb : Emb} {lio : Lio} {mnt : Mnt} {bus : Bus} {out : List OutMsg} :
    Sound qs { s with evr := e, now := now, freeCtr := freeCtr, sup := sup, hw := hw, clk := clk, tim := tim, flu := flu, fluq := fluq, cyc := cyc, run := run, chg := chg, fol := fol, legal := legal, aud := aud, scl := scl, od := od, upd := upd, ks := ks, jrn := jrn, dic := dic, emb := emb, lio := lio, mnt := mnt, bus := bus, out := out } := ⟨h.1, h.2, he h.3, h.4, h.5, h.6⟩

/-- A change of Gate. -/
theorem sound_gate {qs : List Instr} {s : State} {g : Gate} (h : Sound qs s) (hg : FromG s g) {now : Nat} {freeCtr :
    Nat} {sup : Sup} {hw : Hw} {clk : Clk} {tim : Tim} {flu : Flu} {fluq : FluQ} {cyc : Cyc} {run : Run} {chg :
    Chg} {fol : Fol} {legal : Legal} {aud : Aud} {scl : Scl} {od : Od} {upd : Upd} {ks : Ks} {jrn : Jrn} {dic :
    Dic} {emb : Emb} {lio : Lio} {mnt : Mnt} {bus : Bus} {out : List OutMsg} :
    Sound qs { s with gate := g, now := now, freeCtr := freeCtr, sup := sup, hw := hw, clk := clk, tim := tim, flu := flu, fluq := fluq, cyc := cyc, run := run, chg := chg, fol := fol, legal := legal, aud := aud, scl := scl, od := od, upd := upd, ks := ks, jrn := jrn, dic := dic, emb := emb, lio := lio, mnt := mnt, bus := bus, out := out } := ⟨h.1, h.2, h.3, hg h.4, h.5, h.6⟩

/-- A change of the pair's registers. -/
theorem sound_pair {qs : List Instr} {s : State} {p : Pair} (h : Sound qs s) (hp : FromP s p) : Sound qs { s with pair := p } :=
  ⟨h.1, h.2, h.3, h.4, hp h.5, h.6⟩

/-- A fold of operations that keep it. -/
@[simp] theorem sound_foldl {qs : List Instr} {α : Type} {f : State → α → State} (hf : ∀ s x, Sound qs s → Sound qs (f s x)) (xs
    : List α) {s : State} (h : Sound qs s) : Sound qs (xs.foldl f s) := by
  induction xs generalizing s with
  | nil => exact h
  | cons x xs ih => exact ih (hf _ x h)

/-- The state of an answer that is a pair. -/
theorem sound_of_eq {qs : List Instr} {α : Type} {r : State × α} {t : State} {x : α} (k : Sound qs r.1) (e : r = (t, x)) : Sound
    qs t := by
  subst e; exact k

/-- A meaning that gives a next state gives a sound one. -/
def Gives (qs : List Instr) : Host.Outcome State Fault Refusal → Prop
  | .next t => Sound qs t
  | _ => True

@[simp] theorem fromE_nil {s : State} {e : Evr} (h : e.queue = []) : FromE s e := fun _ => by rw [h]; exact Nat.zero_le _

@[simp] theorem fromG_open {s : State} {g : Gate} (h : g.mopenShut = false) : FromG s g := fun _ _ => h

/-- A change of anything but the queue. -/
@[simp] theorem sound_change {qs : List Instr} {s : State} {m : Memory} {e : Evr} {g : Gate} {now : Nat} {freeCtr : Nat} {sup : Sup} {hw : Hw} {clk : Clk} {tim : Tim} {pair : Pair} {flu : Flu} {fluq : FluQ} {cyc : Cyc} {run : Run} {chg : Chg} {fol : Fol} {cord : Cord} {legal : Legal} {aud : Aud} {scl : Scl} {od : Od} {upd : Upd} {ks : Ks} {jrn : Jrn} {dic : Dic} {emb : Emb} {lio : Lio} {mnt : Mnt} {bus : Bus} {out : List OutMsg} (h : Sound qs s)
    (hm : From s m) (he : FromE s e) (hg : FromG s g) (hc : FromC s cord) (hp : FromP s pair) :
    Sound qs { s with mem := m, evr := e, gate := g, now := now, freeCtr := freeCtr, sup := sup, hw := hw, clk := clk, tim := tim, pair := pair, flu := flu, fluq := fluq, cyc := cyc, run := run, chg := chg, fol := fol, cord := cord, legal := legal, aud := aud, scl := scl, od := od, upd := upd, ks := ks, jrn := jrn, dic := dic, emb := emb, lio := lio, mnt := mnt, bus := bus, out := out } := ⟨h.1, hm h.2, he h.3, hg h.4, hp h.5, hc h.6⟩

end Sys2Proof.Laws
end

