-- ==== Sys2Proof/Laws/SoundFirst.lean ====
section
/-!
SUPPORT. Every operation of the shared operations, the journal, the clocks, the interconnect and the images keeps what `Sound` says: the queue as it is, the memory in
canonical form, at most 64 records in the recorder's queue, MOPEN never back once it was cleared.
-/

namespace Sys2Proof.Laws

open Sys2Proof Sys2Proof.Machine

@[simp] theorem ring_sound {qs : List Instr} (src : Nat) (s : State) (ho : Sound qs s) : Sound qs (ring src s) := by
  unfold ring; simp (maxDischargeDepth := 20) [ho]

@[simp] theorem ringIf_sound {qs : List Instr} (c : Bool) (src : Nat) (s : State) (ho : Sound qs s) : Sound qs (ringIf c src s) := by
  unfold ringIf; simp (maxDischargeDepth := 20) [ho]

/-- The recorder takes a group only while its queue has room for all of it (R386, R388). -/
theorem evrTake_queue (e : Evr) (now code : Nat) (rs : List EvRec) (h : e.queue.length ≤ 64) : (evrTake e now code rs).queue.length ≤ 64 := by
  unfold evrTake
  extract_lets k b t l
  split
  · exact h
  · split
    · exact h
    · split
      · exact h
      · rw [List.length_append]; omega

@[simp] theorem postRecs_sound {qs : List Instr} (code : Nat) (rs : List EvRec) (s : State) (ho : Sound qs s) : Sound qs (postRecs code rs s) := by
  unfold postRecs
  split
  · exact ho
  · split
    · simp (maxDischargeDepth := 20) [ho]
    · exact sound_evr ho (fun h => evrTake_queue _ _ _ _ h)

@[simp] theorem post_sound {qs : List Instr} (code : Nat) (block : Byte) (data : List Byte) (s : State) (ho : Sound qs s) : Sound qs (post code block data s) := by
  unfold post; simp (maxDischargeDepth := 20) [ho]

@[simp] theorem postIf_sound {qs : List Instr} (c : Bool) (code : Nat) (block : Byte) (data : List Byte) (s : State) (ho : Sound qs s) : Sound qs (postIf c code block data s) := by
  unfold postIf; simp (maxDischargeDepth := 20) [ho]

@[simp] theorem supPost_sound {qs : List Instr} (code : Nat) (data : List Byte) (s : State) (ho : Sound qs s) : Sound qs (supPost code data s) := by
  unfold supPost; simp (maxDischargeDepth := 20) [ho]

@[simp] theorem send_sound {qs : List Instr} (m : OutMsg) (s : State) (ho : Sound qs s) : Sound qs (send m s) := by
  unfold send; simp (maxDischargeDepth := 20) [ho]

@[simp] theorem failSilent_sound {qs : List Instr} (cause : Nat) (block : Byte) (cell : Nat) (s : State) (ho : Sound qs s) : Sound qs (failSilent cause block cell s) := by
  unfold failSilent; simp (maxDischargeDepth := 20) [ho]

@[simp] theorem chipError_sound {qs : List Instr} (cause : Nat) (block : Byte) (cell : Nat) (s : State) (ho : Sound qs s) : Sound qs (chipError cause block cell s) := by
  unfold chipError; simp (maxDischargeDepth := 20) [ho]

@[simp] theorem recordFault_sound {qs : List Instr} (level code cause : Nat) (block : Byte) (cell : Nat) (s : State) (ho : Sound qs s) : Sound qs (recordFault level code cause block cell s) := by
  unfold recordFault; simp (maxDischargeDepth := 20) [ho]

@[simp] theorem noteRegion_sound {qs : List Instr} (r : Nat) (s : State) (ho : Sound qs s) : Sound qs (noteRegion r s) := by
  unfold noteRegion; simp (maxDischargeDepth := 20) [ho]

@[simp] theorem isolateEffects_sound {qs : List Instr} (block : Byte) (s : State) (ho : Sound qs s) : Sound qs (isolateEffects block s) := by
  unfold isolateEffects; simp (maxDischargeDepth := 20) [ho]

@[simp] theorem isolate_sound {qs : List Instr} (cause : Nat) (block : Byte) (cell : Nat) (s : State) (ho : Sound qs s) : Sound qs (isolate cause block cell s) := by
  unfold isolate; simp (maxDischargeDepth := 20) [ho]

@[simp] theorem blockFault_sound {qs : List Instr} (cause : Nat) (block : Byte) (cell : Nat) (s : State) (ho : Sound qs s) : Sound qs (blockFault cause block cell s) := by
  unfold blockFault; simp (maxDischargeDepth := 20) [ho]

@[simp] theorem blockFails_sound {qs : List Instr} (cause : Nat) (block : Byte) (cell : Nat) (s : State) (ho : Sound qs s) : Sound qs (blockFails cause block cell s) := by
  unfold blockFails; simp (maxDischargeDepth := 20) [ho]

@[simp] theorem settle_sound {qs : List Instr} (s : State) (ho : Sound qs s) : Sound qs (settle s) := by
  unfold settle; simp (maxDischargeDepth := 20) [ho]

@[simp] theorem finish_sound {qs : List Instr} (s : State) (ho : Sound qs s) : Gives qs (finish s) := settle_sound s ho

@[simp] theorem pairInt_sound {qs : List Instr} (b : Nat) (s : State) (ho : Sound qs s) : Sound qs (pairInt b s) := by
  unfold pairInt; simp (maxDischargeDepth := 20) [ho]

@[simp] theorem fluInt_sound {qs : List Instr} (b : Nat) (s : State) (ho : Sound qs s) : Sound qs (fluInt b s) := by
  unfold fluInt; simp (maxDischargeDepth := 20) [ho]

@[simp] theorem cycInt_sound {qs : List Instr} (b : Nat) (s : State) (ho : Sound qs s) : Sound qs (cycInt b s) := by
  unfold cycInt; simp (maxDischargeDepth := 20) [ho]

@[simp] theorem laneSend_sound {qs : List Instr} (n : Nat) (f : FlueFrame) (s : State) (ho : Sound qs s) : Sound qs (laneSend n f s) := by
  unfold laneSend; simp (maxDischargeDepth := 20) [ho]

@[simp] theorem sendFlueF_sound {qs : List Instr} (flags : Byte) (dst : Option Slot) (body : FlueBody) (s : State) (ho : Sound qs s) : Sound qs (sendFlueF flags dst body s) := by
  unfold sendFlueF; simp +contextual (maxDischargeDepth := 20) [ho]

@[simp] theorem sendFlue_sound {qs : List Instr} (dst : Option Slot) (body : FlueBody) (s : State) (ho : Sound qs s) : Sound qs (sendFlue dst body s) := by
  unfold sendFlue; simp (maxDischargeDepth := 20) [ho]

@[simp] theorem sendTwin_sound {qs : List Instr} (body : FlueBody) (s : State) (ho : Sound qs s) : Sound qs (sendTwin body s) := by
  unfold sendTwin; split <;> simp (maxDischargeDepth := 20) [*]

@[simp] theorem noteEpoch_sound {qs : List Instr} (e : Word) (s : State) (ho : Sound qs s) : Sound qs (noteEpoch e s) := by
  unfold noteEpoch; simp (maxDischargeDepth := 20) [ho]

@[simp] theorem noteStationEpoch_sound {qs : List Instr} (e : Word) (s : State) (ho : Sound qs s) : Sound qs (noteStationEpoch e s) := by
  unfold noteStationEpoch; simp (maxDischargeDepth := 20) [ho]

@[simp] theorem issueRecord_sound {qs : List Instr} (s : State) (ho : Sound qs s) : Sound qs (issueRecord s) := by
  unfold issueRecord; simp (maxDischargeDepth := 20) [ho]

@[simp] theorem takeEpoch_sound {qs : List Instr} (e : Word) (reason : Nat) (members : BitVec 3) (s : State) (ho : Sound qs s) : Sound qs (takeEpoch e reason members s) := by
  unfold takeEpoch; simp (maxDischargeDepth := 20) [ho]

@[simp] theorem adoptEpoch_sound {qs : List Instr} (e : Word) (s : State) (ho : Sound qs s) : Sound qs (adoptEpoch e s) := by
  unfold adoptEpoch; simp (maxDischargeDepth := 20) [ho]

@[simp] theorem releaseToken_sound {qs : List Instr} (p : Holder → Bool) (s : State) (ho : Sound qs s) : Sound qs (releaseToken p s) := by
  unfold releaseToken; simp +contextual (maxDischargeDepth := 20) [ho]

@[simp] theorem flushHeldTx_sound {qs : List Instr} (s : State) (ho : Sound qs s) : Sound qs (flushHeldTx s) := by
  unfold flushHeldTx
  refine sound_foldl (fun s h ho => ?_) _ (by simp (maxDischargeDepth := 20) [ho])
  split <;> simp (maxDischargeDepth := 20) [ho]

@[simp] theorem fijStopRun_sound {qs : List Instr} (cause : Nat) (s : State) (ho : Sound qs s) : Sound qs (fijStopRun cause s) := by
  unfold fijStopRun; simp (maxDischargeDepth := 20) [ho]

/-- A change of role that keeps the Damper to ACTIVE and the arm to the roles that execute. -/
theorem fromP_leave {s : State} {p : Pair} (r : Role) (hd : p.driving = (s.pair.driving && r == .active)) (ho : p.outEn = (s.pair.outEn && r == .active))
    (ha : p.armed = (s.pair.armed && runsTasks r)) (hr : p.role = r) : FromP s p := by
  intro h
  refine ⟨?_, ?_, ?_⟩ <;> rw [ha, hr] at * <;> simp [hd, ho]
  · rintro x rfl; exact ⟨rfl, (h.1 x).2, rfl⟩
  · exact fun x y => ⟨h.2 x, y⟩
  · intro _ k; cases r <;> simp_all [runsTasks]

/-- A line that Cord sees touches no more than its interrupt register. -/
@[simp] theorem fromC_line (b : Nat) (c : Bool) (s : State) : FromC s (crdLine b c s) := by
  unfold crdLine; split <;> exact fromC_same rfl rfl rfl

@[simp] theorem setRole_sound {qs : List Instr} (r : Role) (sub : Sub) (s : State) (ho : Sound qs s) : Sound qs (setRole r sub s) := by
  unfold setRole
  dsimp only
  split
  · exact sound_change ho (from_mem s) (fromE_same rfl) (fromG_same rfl rfl) (fromC_line _ _ _) (fromP_leave r rfl rfl rfl rfl)
  · exact fijStopRun_sound _ _ (sound_change ho (from_mem s) (fromE_same rfl) (fromG_same rfl rfl) (fromC_line _ _ _) (fromP_leave r rfl rfl rfl rfl))

@[simp] theorem openOutputs_sound {qs : List Instr} (s : State) (ho : Sound qs s) : Sound qs (openOutputs s) := by
  unfold openOutputs
  exact sound_change ho (from_mem s) (fromE_same rfl) (fromG_same rfl rfl) (fromC_same rfl rfl rfl)
    (fun h => ⟨by simp, by simp +contextual, h.3⟩)

@[simp] theorem clearTwin_sound {qs : List Instr} (s : State) (ho : Sound qs s) : Sound qs (clearTwin s) := by
  unfold clearTwin; simp (maxDischargeDepth := 20) [ho]

@[simp] theorem fence_sound {qs : List Instr} (heardE : Word) (path : Nat) (sender : List Byte) (s : State) (ho : Sound qs s) : Sound qs (fence heardE path sender s) := by
  unfold fence; simp (maxDischargeDepth := 20) [ho]

@[simp] theorem enterResync_sound {qs : List Instr} (byDiv : Bool) (s : State) (ho : Sound qs s) : Sound qs (enterResync byDiv s) := by
  unfold enterResync; simp (maxDischargeDepth := 20) [ho]

@[simp] theorem endFolSessions_sound {qs : List Instr} (s : State) (ho : Sound qs s) : Sound qs (endFolSessions s) := by
  unfold endFolSessions; simp +contextual (maxDischargeDepth := 20) [ho]

@[simp] theorem takeToken_sound {qs : List Instr} (h : Holder) (s : State) (ho : Sound qs s) : Sound qs (takeToken h s) := by
  unfold takeToken; simp (maxDischargeDepth := 20) [ho]

@[simp] theorem tokenBusy_sound {qs : List Instr} (h : Holder) (s : State) (ho : Sound qs s) : Sound qs (tokenBusy h s) := by
  unfold tokenBusy; simp (maxDischargeDepth := 20) [ho]

@[simp] theorem jrnInt_sound {qs : List Instr} (b : Nat) (s : State) (ho : Sound qs s) : Sound qs (jrnInt b s) := by
  unfold jrnInt; simp (maxDischargeDepth := 20) [ho]

@[simp] theorem lowSegs_sound {qs : List Instr} (before : Nat) (s : State) (ho : Sound qs s) : Sound qs (lowSegs before s) := by
  unfold lowSegs; simp (maxDischargeDepth := 20) [ho]

@[simp] theorem startPass_sound {qs : List Instr} (s : State) (ho : Sound qs s) : Sound qs (startPass s) := by
  unfold startPass; simp (maxDischargeDepth := 20) [ho]

@[simp] theorem autoPass_sound {qs : List Instr} (s : State) (ho : Sound qs s) : Sound qs (autoPass s) := by
  unfold autoPass; simp (maxDischargeDepth := 20) [ho]

@[simp] theorem numberCommit_sound {qs : List Instr} (task inst : Nat) (ds : List Delta) (draw : Nat) (s : State) (ho : Sound qs s) : Sound qs (numberCommit task inst ds draw s) := by
  unfold numberCommit; simp (maxDischargeDepth := 20) [ho]

@[simp] theorem jrnCommit_sound {qs : List Instr} (task inst : Nat) (ds : List Delta) (s : State) (ho : Sound qs s) : Sound qs (jrnCommit task inst ds s) := by
  unfold jrnCommit; simp (maxDischargeDepth := 20) [ho]

@[simp] theorem flushBuffer_sound {qs : List Instr} (s : State) (ho : Sound qs s) : Sound qs (flushBuffer s) := by
  unfold flushBuffer; simp (maxDischargeDepth := 20) [ho]

@[simp] theorem jrnSwap_sound {qs : List Instr} (newId oldId base : Nat) (s : State) (ho : Sound qs s) : Sound qs (jrnSwap newId oldId base s) := by
  unfold jrnSwap; simp (maxDischargeDepth := 20) [ho]

@[simp] theorem snapshotDone_sound {qs : List Instr} (base : Nat) (drop : JSeg → Bool) (s : State) (ho : Sound qs s) : Sound qs (snapshotDone base drop s) := by
  unfold snapshotDone; simp (maxDischargeDepth := 20) [ho]

@[simp] theorem wf_applyRec {m : Memory} (h : m.wf = true) (a : Nat) (r : JRec) : (applyRec a m r).wf = true := by
  unfold applyRec
  split
  · exact wf_foldl (fun _ _ h => wf_writeBytes h _ _) _ h
  · exact wf_writeBytes h _ _
  · exact h

@[simp] theorem replay_sound {qs : List Instr} (s : State) (ho : Sound qs s) : Sound qs (replay s).1 := by
  unfold replay
  split
  · exact ho
  · refine post_sound _ _ _ _ (sound_mem ho ?_)
    exact from_foldl (fun _ _ h => wf_applyRec h _ _) _ (from_foldl (fun _ _ h => wf_applyRec h _ _) _ (from_mem s))

@[simp] theorem execDeltasComplete_sound {qs : List Instr} (s : State) (ho : Sound qs s) : Gives qs (execDeltasComplete s) := by
  unfold execDeltasComplete; split <;> simp (maxDischargeDepth := 20) [*]

@[simp] theorem execCommitDurable_sound {qs : List Instr} (s : State) (ho : Sound qs s) : Gives qs (execCommitDurable s) := by
  unfold execCommitDurable; (try dsimp only); (repeat' split) <;> simp (maxDischargeDepth := 20) [*]

@[simp] theorem execSeasoningPassDone_sound {qs : List Instr} (s : State) (ho : Sound qs s) : Gives qs (execSeasoningPassDone s) := by
  unfold execSeasoningPassDone; (try dsimp only); (repeat' split) <;> simp (maxDischargeDepth := 20) [*]

@[simp] theorem coldSnapshot_sound {qs : List Instr} (s : State) (ho : Sound qs s) : Sound qs (coldSnapshot s) := by
  unfold coldSnapshot; simp (maxDischargeDepth := 20) [ho]

@[simp] theorem execJrnCmdStartPass_sound {qs : List Instr} (word : Word) (s : State) (ho : Sound qs s) : Gives qs (execJrnCmdStartPass word s) := by
  unfold execJrnCmdStartPass; simp (maxDischargeDepth := 20) [ho]

@[simp] theorem execCoalesceFlush_sound {qs : List Instr} (s : State) (ho : Sound qs s) : Gives qs (execCoalesceFlush s) := by
  unfold execCoalesceFlush; simp (maxDischargeDepth := 20) [ho]

@[simp] theorem execCoalescingLeave_sound {qs : List Instr} (s : State) (ho : Sound qs s) : Gives qs (execCoalescingLeave s) := by
  unfold execCoalescingLeave; simp (maxDischargeDepth := 20) [ho]

@[simp] theorem execMramWriteError_sound {qs : List Instr} (block : Byte) (failed : Bool) (s : State) (ho : Sound qs s) : Gives qs (execMramWriteError block failed s) := by
  unfold execMramWriteError; simp (maxDischargeDepth := 20) [ho]

@[simp] theorem writeEvent_sound {qs : List Instr} (r : EvRec) (s : State) (ho : Sound qs s) : Sound qs (writeEvent r s) := by
  unfold writeEvent; simp (maxDischargeDepth := 20) [ho]

@[simp] theorem ringScan_sound {qs : List Instr} (s : State) (ho : Sound qs s) : Sound qs (ringScan s) := by
  unfold ringScan; simp (maxDischargeDepth := 20) [ho]

@[simp] theorem suppress_sound {qs : List Instr} (n : Nat) (cs : List Nat) (s : State) (ho : Sound qs s) : Sound qs (suppress n cs s) := by
  induction n generalizing cs s with
  | zero => simpa [suppress] using ho
  | succ n ih =>
    cases cs with
    | nil => simpa [suppress] using ho
    | cons c cs =>
      unfold suppress
      dsimp only
      split
      · exact ho
      · exact ih _ _ (post_sound _ _ _ _ (sound_evr ho (fromE_same (by rfl))))

@[simp] theorem anchor_sound {qs : List Instr} (s : State) (ho : Sound qs s) : Sound qs (anchor s) := by
  unfold anchor; simp (maxDischargeDepth := 20) [ho]

@[simp] theorem lossRecord_sound {qs : List Instr} (s : State) (ho : Sound qs s) : Sound qs (lossRecord s) := by
  unfold lossRecord; simp (maxDischargeDepth := 20) [ho]

@[simp] theorem setBucket_sound {qs : List Instr} (code : Nat) (cfg : Word) (s : State) (ho : Sound qs s) : Sound qs (setBucket code cfg s) := by
  unfold setBucket; simp (maxDischargeDepth := 20) [ho]

@[simp] theorem bucketObj_sound {qs : List Instr} (v : List Byte) (s : State) (ho : Sound qs s) : Sound qs (bucketObj v s) := by
  unfold bucketObj; simp (maxDischargeDepth := 20) [ho]

@[simp] theorem seasonPauseTo_sound {qs : List Instr} (p : Bool) (s : State) (ho : Sound qs s) : Sound qs (seasonPauseTo p s) := by
  unfold seasonPauseTo; simp (maxDischargeDepth := 20) [ho]

@[simp] theorem execEventPosting_sound {qs : List Instr} (window : Nat) (level : Level) (word : Word) (s : State) (ho : Sound qs s) : Gives qs (execEventPosting window level word s) := by
  unfold execEventPosting; simp (maxDischargeDepth := 20) [ho]

/-- A queue that was handed on is no longer than it was. -/
theorem fromE_tail {s : State} {e : Evr} (h : e.queue.length ≤ s.evr.queue.length) : FromE s e := fun w => Nat.le_trans h w

@[simp] theorem execEventRecordWritten_sound {qs : List Instr} (s : State) (ho : Sound qs s) : Gives qs (execEventRecordWritten s) := by
  refine finish_sound _ ?_
  split
  · exact ho
  · extract_lets mid
    split
    · split
      · exact writeEvent_sound _ _ (sound_evr ho (fromE_tail (by simp)))
      · exact writeEvent_sound _ _ (sound_evr ho (fromE_same (by rfl)))
    · rename_i e
      exact writeEvent_sound _ _ (sound_evr ho (fromE_tail (by simp [e])))
    · exact ho

@[simp] theorem execTimeAnchor_sound {qs : List Instr} (s : State) (ho : Sound qs s) : Gives qs (execTimeAnchor s) := by
  unfold execTimeAnchor; simp (maxDischargeDepth := 20) [ho]

@[simp] theorem doorbell_sound {qs : List Instr} (src : Nat) (s : State) (ho : Sound qs s) : Sound qs (doorbell src s) := by
  unfold doorbell; simp (maxDischargeDepth := 20) [ho]

@[simp] theorem placeRel_sound {qs : List Instr} (c op task : Nat) (s : State) (ho : Sound qs s) : Sound qs (placeRel c op task s) := by
  unfold placeRel; simp (maxDischargeDepth := 20) [ho]

@[simp] theorem embInt_sound {qs : List Instr} (b : Nat) (s : State) (ho : Sound qs s) : Sound qs (embInt b s) := by
  unfold embInt; simp (maxDischargeDepth := 20) [ho]

@[simp] theorem recordCause_sound {qs : List Instr} (c : BitVec 5) (s : State) (ho : Sound qs s) : Sound qs (recordCause c s) := by
  unfold recordCause; simp (maxDischargeDepth := 20) [ho]

@[simp] theorem endRequest_sound {qs : List Instr} (result : Nat) (s : State) (ho : Sound qs s) : Sound qs (endRequest result s) := by
  unfold endRequest; simp (maxDischargeDepth := 20) [ho]

@[simp] theorem sleepAbort_sound {qs : List Instr} (c : BitVec 5) (s : State) (ho : Sound qs s) : Sound qs (sleepAbort c s) := by
  unfold sleepAbort; simp (maxDischargeDepth := 20) [ho]

@[simp] theorem sleepRefuse_sound {qs : List Instr} (result : Nat) (s : State) (ho : Sound qs s) : Sound qs (sleepRefuse result s) := by
  unfold sleepRefuse; simp (maxDischargeDepth := 20) [ho]

@[simp] theorem kilnOff_sound {qs : List Instr} (s : State) (ho : Sound qs s) : Sound qs (kilnOff s) := by
  unfold kilnOff; simp (maxDischargeDepth := 20) [ho]

@[simp] theorem startWaking_sound {qs : List Instr} (c : BitVec 5) (s : State) (ho : Sound qs s) : Sound qs (startWaking c s) := by
  unfold startWaking; simp (maxDischargeDepth := 20) [ho]

@[simp] theorem embSleep_sound {qs : List Instr} (level : Level) (word : Word) (s : State) (ho : Sound qs s) : Sound qs (embSleep level word s) := by
  unfold embSleep; simp (maxDischargeDepth := 20) [ho]

@[simp] theorem execDicDoorbell_sound {qs : List Instr} (source : Nat) (s : State) (ho : Sound qs s) : Gives qs (execDicDoorbell source s) := by
  unfold execDicDoorbell; simp (maxDischargeDepth := 20) [ho]

@[simp] theorem execDicRelRead_sound {qs : List Instr} (core : Nat) (s : State) (ho : Sound qs s) : Gives qs (execDicRelRead core s) := by
  unfold execDicRelRead; simp (maxDischargeDepth := 20) [ho]

@[simp] theorem execDeviceReRing_sound {qs : List Instr} (source : Nat) (s : State) (ho : Sound qs s) : Gives qs (execDeviceReRing source s) := by
  unfold execDeviceReRing; simp (maxDischargeDepth := 20) [ho]

@[simp] theorem execWfi_sound {qs : List Instr} (core : Nat) (s : State) (ho : Sound qs s) : Gives qs (execWfi core s) := by
  unfold execWfi; simp (maxDischargeDepth := 20) [ho]

@[simp] theorem execEmbSleep_sound {qs : List Instr} (core : Nat) (level : Level) (word : Word) (s : State) (ho : Sound qs s) : Gives qs (execEmbSleep core level word s) := by
  unfold execEmbSleep; simp (maxDischargeDepth := 20) [ho]

@[simp] theorem execEntryTimeout_sound {qs : List Instr} (s : State) (ho : Sound qs s) : Gives qs (execEntryTimeout s) := by
  unfold execEntryTimeout; simp (maxDischargeDepth := 20) [ho]

@[simp] theorem execAllCoresWfi_sound {qs : List Instr} (s : State) (ho : Sound qs s) : Gives qs (execAllCoresWfi s) := by
  unfold execAllCoresWfi; simp (maxDischargeDepth := 20) [ho]

@[simp] theorem execBankedEntered_sound {qs : List Instr} (s : State) (ho : Sound qs s) : Gives qs (execBankedEntered s) := by
  unfold execBankedEntered; simp (maxDischargeDepth := 20) [ho]

@[simp] theorem execWakeCondition_sound {qs : List Instr} (w : Wake) (s : State) (ho : Sound qs s) : Gives qs (execWakeCondition w s) := by
  unfold execWakeCondition; (try dsimp only); (repeat' split) <;> simp (maxDischargeDepth := 20) [*]

@[simp] theorem execResumeDigestCheck_sound {qs : List Instr} (s : State) (ho : Sound qs s) : Gives qs (execResumeDigestCheck s) := by
  unfold execResumeDigestCheck; simp (maxDischargeDepth := 20) [ho]

@[simp] theorem respond_sound {qs : List Instr} (c : Client) (op : Byte) (arg : Nat) (data : List Byte) (s : State) (ho : Sound qs s) : Sound qs (respond c op arg data s) := by
  unfold respond; simp (maxDischargeDepth := 20) [ho]

@[simp] theorem cfgDraw_sound {qs : List Instr} (s : State) (ho : Sound qs s) : Sound qs (cfgDraw s) := by
  unfold cfgDraw; simp (maxDischargeDepth := 20) [ho]

@[simp] theorem retireRow_sound {qs : List Instr} (block : Byte) (cell row : Nat) (s : State) (ho : Sound qs s) : Sound qs (retireRow block cell row s) := by
  unfold retireRow; simp (maxDischargeDepth := 20) [ho]

@[simp] theorem corrected_sound {qs : List Instr} (block : Byte) (cell row : Nat) (s : State) (ho : Sound qs s) : Sound qs (corrected block cell row s) := by
  unfold corrected; simp (maxDischargeDepth := 20) [ho]

@[simp] theorem uncorrectable_sound {qs : List Instr} (block : Byte) (cell row : Nat) (s : State) (ho : Sound qs s) : Sound qs (uncorrectable block cell row s) := by
  unfold uncorrectable; split <;> simp (maxDischargeDepth := 20) [*]

@[simp] theorem cellError_sound {qs : List Instr} (e : CellEvent) (s : State) (ho : Sound qs s) : Sound qs (cellError e s) := by
  unfold cellError; split <;> simp (maxDischargeDepth := 20) [*]

@[simp] theorem bankReset_sound {qs : List Instr} (s : State) (ho : Sound qs s) : Sound qs (bankReset s) := by
  unfold bankReset; simp (maxDischargeDepth := 20) [ho]

@[simp] theorem supFailSilent_sound {qs : List Instr} (core : Nat) (level : Level) (word : Word) (s : State) (ho : Sound qs s) : Sound qs (supFailSilent core level word s) := by
  unfold supFailSilent; simp (maxDischargeDepth := 20) [ho]

@[simp] theorem responseTimeout_sound {qs : List Instr} (block : Byte) (cell : Nat) (master : Master) (s : State) (ho : Sound qs s) : Sound qs (responseTimeout block cell master s) := by
  unfold responseTimeout; simp (maxDischargeDepth := 20) [ho]

@[simp] theorem execBankResetAfterBurst_sound {qs : List Instr} (s : State) (ho : Sound qs s) : Gives qs (execBankResetAfterBurst s) := by
  unfold execBankResetAfterBurst; simp (maxDischargeDepth := 20) [ho]

@[simp] theorem execSupFailSilent_sound {qs : List Instr} (core : Nat) (level : Level) (word : Word) (s : State) (ho : Sound qs s) : Gives qs (execSupFailSilent core level word s) := by
  unfold execSupFailSilent; simp (maxDischargeDepth := 20) [ho]

@[simp] theorem execDramPatrolScrub_sound {qs : List Instr} (errors : List CellEvent) (s : State) (ho : Sound qs s) :
    Gives qs (execDramPatrolScrub errors s) := by
  refine finish_sound _ ?_
  split
  · exact ho
  · refine sound_foldl (fun s e h => ?_) _ ho
    split <;> simp [h]

@[simp] theorem execBlockResponseTimeout_sound {qs : List Instr} (block : Byte) (cell : Nat) (master : Master) (s : State) (ho : Sound qs s) : Gives qs (execBlockResponseTimeout block cell master s) := by
  unfold execBlockResponseTimeout; simp (maxDischargeDepth := 20) [ho]

@[simp] theorem gateInt_sound {qs : List Instr} (b : Nat) (s : State) (ho : Sound qs s) : Sound qs (gateInt b s) := by
  unfold gateInt; simp (maxDischargeDepth := 20) [ho]

@[simp] theorem gateFault_sound {qs : List Instr} (m : Master) (level : Level) (op : BusOp) (a : Nat) (split fixed parity : Bool) (gate : Nat) (s : State) (ho : Sound qs s) : Sound qs (gateFault m level op a split fixed parity gate s) := by
  unfold gateFault; simp (maxDischargeDepth := 20) [ho]

@[simp] theorem gateCommit_sound {qs : List Instr} (level : Level) (epoch : Word) (s : State) (ho : Sound qs s) : Sound qs (gateCommit level epoch s) := by
  unfold gateCommit
  dsimp only
  split
  · exact ho
  · split
    · simp (maxDischargeDepth := 20) [ho]
    · refine post_sound _ _ _ _ (sound_gate ho fun h => ?_)
      simp_all

@[simp] theorem markRange_sound {qs : List Instr} (a len : Nat) (s : State) (ho : Sound qs s) : Sound qs (markRange a len s) := by
  refine sound_gate ho (fromG_same ?_ ?_) <;> (unfold markDirty; split <;> rfl)

@[simp] theorem trkCtrl_sound {qs : List Instr} (word : Word) (s : State) (ho : Sound qs s) : Sound qs (trkCtrl word s) := by
  unfold trkCtrl; simp (maxDischargeDepth := 20) [ho]

@[simp] theorem trackError_sound {qs : List Instr} (word : Nat) (s : State) (ho : Sound qs s) : Sound qs (trackError word s) := by
  unfold trackError; simp (maxDischargeDepth := 20) [ho]

@[simp] theorem ruleParity_sound {qs : List Instr} (gate rule : Nat) (s : State) (ho : Sound qs s) : Sound qs (ruleParity gate rule s) := by
  unfold ruleParity; simp (maxDischargeDepth := 20) [ho]

@[simp] theorem reportCell_sound {qs : List Instr} (e : CellEvent) (s : State) (ho : Sound qs s) : Sound qs (reportCell e s) := by
  unfold reportCell; split <;> simp (maxDischargeDepth := 20) [*]

@[simp] theorem execGateCommit_sound {qs : List Instr} (level : Level) (epoch : Word) (s : State) (ho : Sound qs s) : Gives qs (execGateCommit level epoch s) := by
  unfold execGateCommit; simp (maxDischargeDepth := 20) [ho]

@[simp] theorem gatePop_sound {qs : List Instr} (level : Level) (word : Word) (s : State) (ho : Sound qs s) : Sound qs (gatePop level word s) := by
  unfold gatePop; simp (maxDischargeDepth := 20) [ho]

@[simp] theorem execGateFltPop_sound {qs : List Instr} (level : Level) (word : Word) (s : State) (ho : Sound qs s) : Gives qs (execGateFltPop level word s) := by
  unfold execGateFltPop; simp (maxDischargeDepth := 20) [ho]

theorem fromG_harvest (s : State) : FromG s (trkHarvest s.gate).1 := by
  exact fromG_same rfl rfl

@[simp] theorem execGateTrkHarvest_sound {qs : List Instr} (level : Level) (s : State) (ho : Sound qs s) : Gives qs (execGateTrkHarvest level s) := by
  refine finish_sound _ ?_
  split
  · exact ho
  · exact send_sound _ _ (sound_gate ho (fromG_harvest s))

@[simp] theorem execGateTrkClear_sound {qs : List Instr} (level : Level) (word : Word) (s : State) (ho : Sound qs s) : Gives qs (execGateTrkClear level word s) := by
  unfold execGateTrkClear; simp (maxDischargeDepth := 20) [ho]

@[simp] theorem execGateTrkClearDone_sound {qs : List Instr} (s : State) (ho : Sound qs s) : Gives qs (execGateTrkClearDone s) := by
  unfold execGateTrkClearDone; simp (maxDischargeDepth := 20) [ho]

@[simp] theorem execMgatetagWrite_sound {qs : List Instr} (core : Nat) (level : Level) (value : DWord) (s : State) (ho : Sound qs s) : Gives qs (execMgatetagWrite core level value s) := by
  unfold execMgatetagWrite; simp (maxDischargeDepth := 20) [ho]

@[simp] theorem setTask_sound {qs : List Instr} (t : Nat) (f : Task → Task) (s : State) (ho : Sound qs s) : Sound qs (setTask t f s) := by
  unfold setTask; simp (maxDischargeDepth := 20) [ho]

@[simp] theorem wf_putVar {p : Prog} {y : Sym} {o : Nat} {v : List Byte} {md : Memory × List Delta} (h : md.1.wf = true) :
    (putVar p y o v md).1.wf = true := by
  unfold putVar; dsimp only; split <;> simp [h]

@[simp] theorem wf_migrate {m : Memory} (h : m.wf = true) (old new : Prog) (e : Mig) : (migrate old new e m).wf = true := by
  unfold migrate; split <;> simp [h]

/-- A fold over a memory and something else. -/
theorem wf_foldl_fst {α β : Type} {f : Memory × β → α → Memory × β} (hf : ∀ m x, m.1.wf = true → (f m x).1.wf = true) (xs : List α) :
    ∀ {m : Memory × β}, m.1.wf = true → (xs.foldl f m).1.wf = true := by
  induction xs with
  | nil => exact fun h => h
  | cons x xs ih => exact fun h => ih (hf _ x h)

@[simp] theorem applyForces_sound {qs : List Instr} (t : Nat) (sel : Sym → Bool) (s : State) (ho : Sound qs s) : Sound qs (applyForces t sel s) := by
  unfold applyForces
  split
  · exact ho
  · refine setTask_sound _ _ _ (sound_mem ho fun w => ?_)
    refine wf_foldl_fst (fun m x h => ?_) _ w
    split
    · split <;> simp [h]
    · exact h

@[simp] theorem reinitTask_sound {qs : List Instr} (t : Nat) (s : State) (ho : Sound qs s) : Sound qs (reinitTask t s) := by
  unfold reinitTask
  split
  · exact ho
  · refine setTask_sound _ _ _ (sound_mem ho fun w => wf_foldl (fun m x h => ?_) _ w)
    split <;> simp [h]

@[simp] theorem stopThreads_sound {qs : List Instr} (t : Nat) (cores : BitVec 8) (s : State) (ho : Sound qs s) : Sound qs (stopThreads t cores s) := by
  unfold stopThreads; simp +contextual (maxDischargeDepth := 20) [ho]

@[simp] theorem faultTask_sound {qs : List Instr} (t cause : Nat) (s : State) (ho : Sound qs s) : Sound qs (faultTask t cause s) := by
  unfold faultTask; simp (maxDischargeDepth := 20) [ho]

@[simp] theorem endFaulted_sound {qs : List Instr} (t : Nat) (s : State) (ho : Sound qs s) : Sound qs (endFaulted t s) := by
  unfold endFaulted; simp (maxDischargeDepth := 20) [ho]

@[simp] theorem stopAndFault_sound {qs : List Instr} (t cause : Nat) (s : State) (ho : Sound qs s) : Sound qs (stopAndFault t cause s) := by
  unfold stopAndFault; simp (maxDischargeDepth := 20) [ho]

@[simp] theorem resumeTask_sound {qs : List Instr} (t : Nat) (s : State) (ho : Sound qs s) : Sound qs (resumeTask t s) := by
  unfold resumeTask; simp (maxDischargeDepth := 20) [ho]

@[simp] theorem skipInstance_sound {qs : List Instr} (t : Nat) (s : State) (ho : Sound qs s) : Sound qs (skipInstance t s) := by
  unfold skipInstance; simp (maxDischargeDepth := 20) [ho]

@[simp] theorem release_sound {qs : List Instr} (t origin inst : Nat) (s : State) (ho : Sound qs s) : Sound qs (release t origin inst s) := by
  unfold release; simp +contextual (maxDischargeDepth := 20) [ho]

@[simp] theorem carryWrites_sound {qs : List Instr} (t : Nat) (s : State) (ho : Sound qs s) : Sound qs (carryWrites t s) := by
  unfold carryWrites; simp (maxDischargeDepth := 20) [ho]

@[simp] theorem dropForce_sound {qs : List Instr} (id : Word) (s : State) (ho : Sound qs s) : Sound qs (dropForce id s) := by
  unfold dropForce; simp (maxDischargeDepth := 20) [ho]

@[simp] theorem forceWrite_sound {qs : List Instr} (sub : Nat) (v : List Byte) (s : State) (ho : Sound qs s) : Sound qs (forceWrite sub v s) := by
  unfold forceWrite; split <;> simp (maxDischargeDepth := 20) [*]

@[simp] theorem writeVar_sound {qs : List Instr} (t : Nat) (id : Word) (elem : Nat) (v : List Byte) (s : State) (ho : Sound qs s) :
    Sound qs (writeVar t id elem v s) := by
  unfold writeVar
  split
  · exact setTask_sound _ _ _ (sound_mem ho fun w => wf_putVar w)
  · exact ho

@[simp] theorem takeWrite_sound {qs : List Instr} (t : Nat) (w : ProgW) (s : State) (ho : Sound qs s) : Sound qs (takeWrite t w s) := by
  unfold takeWrite; (try dsimp only); (repeat' split) <;> simp (maxDischargeDepth := 20) [*]

@[simp] theorem takeWrites_sound {qs : List Instr} (t : Nat) (s : State) (ho : Sound qs s) : Sound qs (takeWrites t s) := by
  unfold takeWrites; simp +contextual (maxDischargeDepth := 20) [ho]

@[simp] theorem sendImage_sound {qs : List Instr} (t inst : Nat) (body : List Byte) (s : State) (ho : Sound qs s) : Sound qs (sendImage t inst body s) := by
  unfold sendImage; simp +contextual (maxDischargeDepth := 20) [ho]

@[simp] theorem evalTriggers_sound {qs : List Instr} (t : Nat) (s : State) (ho : Sound qs s) : Sound qs (evalTriggers t s).1 := by
  unfold evalTriggers; simp (maxDischargeDepth := 20) [ho]

@[simp] theorem fireOne_sound {qs : List Instr} (a : State × List Nat × List Nat) (e : Nat) (ho : Sound qs a.1) : Sound qs (fireOne a e).1 := by
  obtain ⟨s, x, y⟩ := a
  unfold fireOne
  dsimp only at ho ⊢
  (repeat' split) <;> simp (maxDischargeDepth := 20) [ho]

@[simp] theorem copyTrigger_sound {qs : List Instr} (e : Nat) (s : State) (ho : Sound qs s) : Sound qs (copyTrigger e s) := by
  unfold copyTrigger; simp (maxDischargeDepth := 20) [ho]

@[simp] theorem copyExchange_sound {qs : List Instr} (t : Nat) (s : State) (x : Nat × Nat × Nat) (ho : Sound qs s) : Sound qs (copyExchange t s x) := by
  unfold copyExchange; simp (maxDischargeDepth := 20) [ho]

@[simp] theorem copyExchanges_sound {qs : List Instr} (t : Nat) (s : State) (ho : Sound qs s) : Sound qs (copyExchanges t s) := by
  unfold copyExchanges; simp +contextual (maxDischargeDepth := 20) [ho]

@[simp] theorem releaseEvent_sound {qs : List Instr} (t : Nat) (s : State) (ho : Sound qs s) : Sound qs (releaseEvent t s) := by
  unfold releaseEvent; simp (maxDischargeDepth := 20) [ho]

@[simp] theorem releasePending_sound {qs : List Instr} (t : Nat) (s : State) (ho : Sound qs s) : Sound qs (releasePending t s) := by
  unfold releasePending; simp (maxDischargeDepth := 20) [ho]

@[simp] theorem lioFlag_sound {qs : List Instr} (b : Nat) (s : State) (ho : Sound qs s) : Sound qs (lioFlag b s) := by
  unfold lioFlag; simp (maxDischargeDepth := 20) [ho]

@[simp] theorem readMark_sound {qs : List Instr} (inputs : Half) (s : State) (ho : Sound qs s) : Sound qs (readMark inputs s) := by
  unfold readMark; simp (maxDischargeDepth := 20) [ho]

@[simp] theorem markGroup_sound {qs : List Instr} (g : Nat) (s : State) (ho : Sound qs s) : Sound qs (markGroup g s) := by
  unfold markGroup; simp (maxDischargeDepth := 20) [ho]

@[simp] theorem markLatch_sound {qs : List Instr} (s : State) (ho : Sound qs s) : Sound qs (markLatch s) := by
  unfold markLatch; simp (maxDischargeDepth := 20) [ho]

@[simp] theorem writeMark_sound {qs : List Instr} (cool : Byte) (s : State) (ho : Sound qs s) : Sound qs (writeMark cool s) := by
  unfold writeMark; simp (maxDischargeDepth := 20) [ho]

@[simp] theorem reEnable_sound {qs : List Instr} (g : Nat) (s : State) (ho : Sound qs s) : Sound qs (reEnable g s) := by
  unfold reEnable; simp (maxDischargeDepth := 20) [ho]

@[simp] theorem reEnables_sound {qs : List Instr} (mask : Nat) (s : State) (ho : Sound qs s) : Sound qs (reEnables mask s) := by
  unfold reEnables; simp (maxDischargeDepth := 20) [ho]

@[simp] theorem lioCommit_sound {qs : List Instr} (t : Nat) (s : State) (ho : Sound qs s) : Sound qs (lioCommit t s) := by
  unfold lioCommit; simp (maxDischargeDepth := 20) [ho]

@[simp] theorem trip_sound {qs : List Instr} (g : Nat) (mv : Half) (s : State) (ho : Sound qs s) : Sound qs (trip g mv s) := by
  unfold trip; simp (maxDischargeDepth := 20) [ho]

@[simp] theorem execLocalReadMark_sound {qs : List Instr} (inputs : Half) (s : State) (ho : Sound qs s) : Gives qs (execLocalReadMark inputs s) := by
  unfold execLocalReadMark; simp (maxDischargeDepth := 20) [ho]

@[simp] theorem execLocalWriteMark_sound {qs : List Instr} (cool : Byte) (s : State) (ho : Sound qs s) : Gives qs (execLocalWriteMark cool s) := by
  unfold execLocalWriteMark; simp (maxDischargeDepth := 20) [ho]

@[simp] theorem execSupplyLow_sound {qs : List Instr} (group : Nat) (mv10 : Half) (s : State) (ho : Sound qs s) : Gives qs (execSupplyLow group mv10 s) := by
  unfold execSupplyLow; simp (maxDischargeDepth := 20) [ho]

@[simp] theorem execSupplyTrip_sound {qs : List Instr} (group : Nat) (mv10 : Half) (s : State) (ho : Sound qs s) : Gives qs (execSupplyTrip group mv10 s) := by
  unfold execSupplyTrip; simp (maxDischargeDepth := 20) [ho]

@[simp] theorem execTripSwitchOff_sound {qs : List Instr} (group channel : Nat) (s : State) (ho : Sound qs s) : Gives qs (execTripSwitchOff group channel s) := by
  unfold execTripSwitchOff; simp (maxDischargeDepth := 20) [ho]

@[simp] theorem execSupplyGood_sound {qs : List Instr} (group : Nat) (mv10 : Half) (s : State) (ho : Sound qs s) : Gives qs (execSupplyGood group mv10 s) := by
  unfold execSupplyGood; simp (maxDischargeDepth := 20) [ho]

@[simp] theorem execSupplyRecovered_sound {qs : List Instr} (group : Nat) (mv10 : Half) (s : State) (ho : Sound qs s) : Gives qs (execSupplyRecovered group mv10 s) := by
  unfold execSupplyRecovered; simp (maxDischargeDepth := 20) [ho]

@[simp] theorem lioRearm_sound {qs : List Instr} (level : Level) (word : Word) (s : State) (ho : Sound qs s) : Sound qs (lioRearm level word s) := by
  unfold lioRearm; simp (maxDischargeDepth := 20) [ho]

@[simp] theorem execLioRearm_sound {qs : List Instr} (level : Level) (word : Word) (s : State) (ho : Sound qs s) : Gives qs (execLioRearm level word s) := by
  unfold execLioRearm; simp (maxDischargeDepth := 20) [ho]

@[simp] theorem execCurrentLimitLong_sound {qs : List Instr} (output : Nat) (s : State) (ho : Sound qs s) : Gives qs (execCurrentLimitLong output s) := by
  unfold execCurrentLimitLong; simp (maxDischargeDepth := 20) [ho]

@[simp] theorem execThermalShutdown_sound {qs : List Instr} (output : Nat) (s : State) (ho : Sound qs s) : Gives qs (execThermalShutdown output s) := by
  unfold execThermalShutdown; simp (maxDischargeDepth := 20) [ho]

@[simp] theorem hckInt_sound {qs : List Instr} (b : Nat) (s : State) (ho : Sound qs s) : Sound qs (hckInt b s) := by
  unfold hckInt; simp (maxDischargeDepth := 20) [ho]

@[simp] theorem rtcIntBit_sound {qs : List Instr} (b : Nat) (s : State) (ho : Sound qs s) : Sound qs (rtcIntBit b s) := by
  unfold rtcIntBit; simp (maxDischargeDepth := 20) [ho]

@[simp] theorem holdRegions_sound {qs : List Instr} (s : State) (ho : Sound qs s) : Sound qs (holdRegions s) := by
  unfold holdRegions; simp (maxDischargeDepth := 20) [ho]

@[simp] theorem enterClockHold_sound {qs : List Instr} (code : Nat) (s : State) (ho : Sound qs s) : Sound qs (enterClockHold code s) := by
  unfold enterClockHold; simp (maxDischargeDepth := 20) [ho]

@[simp] theorem sourceFails_sound {qs : List Instr} (src : Source) (s : State) (ho : Sound qs s) : Sound qs (sourceFails src s) := by
  unfold sourceFails; simp (maxDischargeDepth := 20) [ho]

@[simp] theorem sourceJudged_sound {qs : List Instr} (src : Source) (s : State) (ho : Sound qs s) : Sound qs (sourceJudged src s) := by
  unfold sourceJudged; split <;> simp (maxDischargeDepth := 20) [*]

@[simp] theorem kdvTarget_sound {qs : List Instr} (level : Level) (word : Word) (s : State) (ho : Sound qs s) : Sound qs (kdvTarget level word s) := by
  unfold kdvTarget; simp (maxDischargeDepth := 20) [ho]

@[simp] theorem dvfsDone_sound {qs : List Instr} (s : State) (ho : Sound qs s) : Sound qs (dvfsDone s) := by
  unfold dvfsDone; split <;> simp (maxDischargeDepth := 20) [*]

@[simp] theorem trimWindow_sound {qs : List Instr} (count : Nat) (s : State) (ho : Sound qs s) : Sound qs (trimWindow count s) := by
  unfold trimWindow; simp (maxDischargeDepth := 20) [ho]

@[simp] theorem servoStep_sound {qs : List Instr} (s : State) (ho : Sound qs s) : Sound qs (servoStep s) := by
  unfold servoStep; simp (maxDischargeDepth := 20) [ho]

@[simp] theorem followTime_sound {qs : List Instr} (s : State) (ho : Sound qs s) : Sound qs (followTime s) := by
  unfold followTime; simp (maxDischargeDepth := 20) [ho]

@[simp] theorem masterLost_sound {qs : List Instr} (m : Option DWord) (s : State) (ho : Sound qs s) : Sound qs (masterLost m s) := by
  unfold masterLost; simp (maxDischargeDepth := 20) [ho]

@[simp] theorem ptpMessage_sound {qs : List Instr} (m : PtpMsg) (s : State) (ho : Sound qs s) : Sound qs (ptpMessage m s) := by
  unfold ptpMessage; (try dsimp only); (repeat' split) <;> simp (maxDischargeDepth := 20) [*]

@[simp] theorem rtcSet_sound {qs : List Instr} (v : DWord) (s : State) (ho : Sound qs s) : Sound qs (rtcSet v s) := by
  unfold rtcSet; simp (maxDischargeDepth := 20) [ho]

@[simp] theorem timSet_sound {qs : List Instr} (level : Level) (v : DWord) (s : State) (ho : Sound qs s) : Sound qs (timSet level v s) := by
  unfold timSet; simp (maxDischargeDepth := 20) [ho]

@[simp] theorem timIncr_sound {qs : List Instr} (level : Level) (v : DWord) (s : State) (ho : Sound qs s) : Sound qs (timIncr level v s) := by
  unfold timIncr; simp (maxDischargeDepth := 20) [ho]

@[simp] theorem execSourceJudged_sound {qs : List Instr} (src : Source) (s : State) (ho : Sound qs s) : Gives qs (execSourceJudged src s) := by
  unfold execSourceJudged; simp (maxDischargeDepth := 20) [ho]

@[simp] theorem execXt1StartTimeout_sound {qs : List Instr} (s : State) (ho : Sound qs s) : Gives qs (execXt1StartTimeout s) := by
  unfold execXt1StartTimeout; simp (maxDischargeDepth := 20) [ho]

@[simp] theorem execClockSourceFailure_sound {qs : List Instr} (src : Source) (s : State) (ho : Sound qs s) : Gives qs (execClockSourceFailure src s) := by
  unfold execClockSourceFailure; simp (maxDischargeDepth := 20) [ho]

@[simp] theorem execSlowSourceFailure_sound {qs : List Instr} (src : Source) (s : State) (ho : Sound qs s) : Gives qs (execSlowSourceFailure src s) := by
  unfold execSlowSourceFailure; split <;> simp (maxDischargeDepth := 20) [*]

@[simp] theorem execKdvTarget_sound {qs : List Instr} (level : Level) (word : Word) (s : State) (ho : Sound qs s) : Gives qs (execKdvTarget level word s) := by
  unfold execKdvTarget; simp (maxDischargeDepth := 20) [ho]

@[simp] theorem execDvfsPowerGood_sound {qs : List Instr} (s : State) (ho : Sound qs s) : Gives qs (execDvfsPowerGood s) := by
  unfold execDvfsPowerGood; simp (maxDischargeDepth := 20) [ho]

@[simp] theorem execDvfsStepDone_sound {qs : List Instr} (s : State) (ho : Sound qs s) : Gives qs (execDvfsStepDone s) := by
  unfold execDvfsStepDone; simp (maxDischargeDepth := 20) [ho]

@[simp] theorem execPowerGoodTimeout_sound {qs : List Instr} (s : State) (ho : Sound qs s) : Gives qs (execPowerGoodTimeout s) := by
  unfold execPowerGoodTimeout; simp (maxDischargeDepth := 20) [ho]

@[simp] theorem execFircTrimWindow_sound {qs : List Instr} (count : Nat) (s : State) (ho : Sound qs s) : Gives qs (execFircTrimWindow count s) := by
  unfold execFircTrimWindow; simp (maxDischargeDepth := 20) [ho]

@[simp] theorem execTimSet_sound {qs : List Instr} (level : Level) (value : DWord) (s : State) (ho : Sound qs s) : Gives qs (execTimSet level value s) := by
  unfold execTimSet; simp (maxDischargeDepth := 20) [ho]

@[simp] theorem execTimIncr_sound {qs : List Instr} (level : Level) (value : DWord) (s : State) (ho : Sound qs s) : Gives qs (execTimIncr level value s) := by
  unfold execTimIncr; simp (maxDischargeDepth := 20) [ho]

@[simp] theorem execPtpMessage_sound {qs : List Instr} (m : PtpMsg) (s : State) (ho : Sound qs s) : Gives qs (execPtpMessage m s) := by
  unfold execPtpMessage; simp (maxDischargeDepth := 20) [ho]

@[simp] theorem execAnnounceTimeout_sound {qs : List Instr} (s : State) (ho : Sound qs s) : Gives qs (execAnnounceTimeout s) := by
  unfold execAnnounceTimeout; simp (maxDischargeDepth := 20) [ho]

@[simp] theorem execRtcSet_sound {qs : List Instr} (value : DWord) (s : State) (ho : Sound qs s) : Gives qs (execRtcSet value s) := by
  unfold execRtcSet; simp (maxDischargeDepth := 20) [ho]

@[simp] theorem execRtcAlarm_sound {qs : List Instr} (s : State) (ho : Sound qs s) : Gives qs (execRtcAlarm s) := by
  unfold execRtcAlarm; simp (maxDischargeDepth := 20) [ho]

@[simp] theorem execRtcHourlySet_sound {qs : List Instr} (s : State) (ho : Sound qs s) : Gives qs (execRtcHourlySet s) := by
  unfold execRtcHourlySet; simp (maxDischargeDepth := 20) [ho]

@[simp] theorem audInt_sound {qs : List Instr} (b : Nat) (s : State) (ho : Sound qs s) : Sound qs (audInt b s) := by
  unfold audInt; simp (maxDischargeDepth := 20) [ho]

@[simp] theorem cordPost_sound {qs : List Instr} (code : Nat) (data : List Byte) (s : State) (ho : Sound qs s) : Sound qs (cordPost code data s) := by
  unfold cordPost; simp (maxDischargeDepth := 20) [ho]

@[simp] theorem audWrite_sound {qs : List Instr} (stage : List Byte) (mramOk : Bool) (s : State) (ho : Sound qs s) : Sound qs (audWrite stage mramOk s).1 := by
  unfold audWrite; (try dsimp only); (repeat' split) <;> simp (maxDischargeDepth := 20) [*]

@[simp] theorem audLevels_sound {qs : List Instr} (before : Nat) (s : State) (ho : Sound qs s) : Sound qs (audLevels before s) := by
  unfold audLevels; simp (maxDischargeDepth := 20) [ho]

@[simp] theorem cordAppend_sound {qs : List Instr} (kind ch index sub typ old new actor : Nat) (s : State) (ho : Sound qs s) : Sound qs (cordAppend kind ch index sub typ old new actor s).1 := by
  unfold cordAppend; split <;> simp (maxDischargeDepth := 20) [*]

@[simp] theorem putUnit_sound {qs : List Instr} (a : Nat) (body : List Byte) (s : State) (ho : Sound qs s) : Sound qs (putUnit a body s) := by
  unfold putUnit; simp (maxDischargeDepth := 20) [ho]

@[simp] theorem republish_sound {qs : List Instr} (n : Nat) (s : State) (ho : Sound qs s) : Sound qs (republish n s) := by
  unfold republish; simp (maxDischargeDepth := 20) [ho]

@[simp] theorem setFw_sound {qs : List Instr} (comp : Nat) (f : FwRun) (s : State) (ho : Sound qs s) : Sound qs (setFw comp f s) := by
  unfold setFw; simp (maxDischargeDepth := 20) [ho]

@[simp] theorem advanceArb_sound {qs : List Instr} (comp : Nat) (s : State) (ho : Sound qs s) : Sound qs (advanceArb comp s) := by
  unfold advanceArb; simp (maxDischargeDepth := 20) [ho]

@[simp] theorem svnAuto_sound {qs : List Instr} (s : State) (ho : Sound qs s) : Sound qs (svnAuto s) := by
  unfold svnAuto; simp (maxDischargeDepth := 20) [ho]

@[simp] theorem storeProgram_sound {qs : List Instr} (b : List Byte) (s : State) (ho : Sound qs s) : Sound qs (storeProgram b s) := by
  unfold storeProgram; simp (maxDischargeDepth := 20) [ho]

@[simp] theorem ksPost_sound {qs : List Instr} (code : Nat) (data : List Byte) (s : State) (ho : Sound qs s) : Sound qs (ksPost code data s) := by
  unfold ksPost; simp (maxDischargeDepth := 20) [ho]

@[simp] theorem zeroise_sound {qs : List Instr} (s : State) (ho : Sound qs s) : Sound qs (zeroise s) := by
  unfold zeroise; simp (maxDischargeDepth := 20) [ho]

@[simp] theorem generateKeys_sound {qs : List Instr} (s : State) (ho : Sound qs s) : Sound qs (generateKeys s) := by
  unfold generateKeys; split <;> simp (maxDischargeDepth := 20) [*]

@[simp] theorem verifierEntry_sound {qs : List Instr} (s : State) (old new : List Byte) (ho : Sound qs s) : Sound qs (verifierEntry s old new).1 := by
  unfold verifierEntry; simp (maxDischargeDepth := 20) [ho]

@[simp] theorem ksEnrol_sound {qs : List Instr} (d : List Byte) (s : State) (ho : Sound qs s) : Sound qs (ksEnrol d s).1 := by
  unfold ksEnrol
  have k := verifierEntry_sound s (zeros 8) (fpBytes (slice d 4 32)) ho
  dsimp only
  (repeat' split) <;> first | (simp (maxDischargeDepth := 20) [ho]; done) | (have := sound_of_eq k (by assumption); simp [this])

@[simp] theorem revokeSessions_sound {qs : List Instr} (slot : Nat) (s : State) (ho : Sound qs s) : Sound qs (revokeSessions slot s) := by
  unfold revokeSessions; simp (maxDischargeDepth := 20) [ho]

@[simp] theorem ksRevoke_sound {qs : List Instr} (cls idx : Nat) (s : State) (ho : Sound qs s) : Sound qs (ksRevoke cls idx s).1 := by
  unfold ksRevoke
  dsimp only
  (repeat' split) <;> first | (simp (maxDischargeDepth := 20) [ho]; done) | (have := sound_of_eq (verifierEntry_sound _ _ _ ho) (by assumption); simp [this])

@[simp] theorem ksLoad_sound {qs : List Instr} (b : List Byte) (s : State) (ho : Sound qs s) : Sound qs (ksLoad b s).1 := by
  unfold ksLoad; (try dsimp only); (repeat' split) <;> simp (maxDischargeDepth := 20) [*]

@[simp] theorem ksDone_sound {qs : List Instr} (cmd result : Nat) (s : State) (ho : Sound qs s) : Sound qs (ksDone cmd result s) := by
  unfold ksDone; simp (maxDischargeDepth := 20) [ho]

@[simp] theorem execKsCmdGenerate_sound {qs : List Instr} (s : State) (ho : Sound qs s) : Gives qs (execKsCmdGenerate s) := by
  unfold execKsCmdGenerate; simp (maxDischargeDepth := 20) [ho]

@[simp] theorem execKsCmdSign_sound {qs : List Instr} (s : State) (ho : Sound qs s) : Gives qs (execKsCmdSign s) := by
  unfold execKsCmdSign; (try dsimp only); (repeat' split) <;> simp (maxDischargeDepth := 20) [*]

@[simp] theorem execKsCmdUnwrap_sound {qs : List Instr} (s : State) (ho : Sound qs s) : Gives qs (execKsCmdUnwrap s) := by
  unfold execKsCmdUnwrap; dsimp only; (repeat' split) <;> simp (maxDischargeDepth := 20) [ho]

@[simp] theorem execKsCmdEnrol_sound {qs : List Instr} (s : State) (ho : Sound qs s) : Gives qs (execKsCmdEnrol s) := by
  unfold execKsCmdEnrol; dsimp only; (repeat' split) <;> simp (maxDischargeDepth := 20) [ho]

@[simp] theorem execKsCmdRevoke_sound {qs : List Instr} (s : State) (ho : Sound qs s) : Gives qs (execKsCmdRevoke s) := by
  unfold execKsCmdRevoke; dsimp only; (repeat' split) <;> simp (maxDischargeDepth := 20) [ho]

@[simp] theorem execKsCmdVerify_sound {qs : List Instr} (s : State) (ho : Sound qs s) : Gives qs (execKsCmdVerify s) := by
  unfold execKsCmdVerify; (try dsimp only); (repeat' split) <;> simp (maxDischargeDepth := 20) [*]

@[simp] theorem execKsCmdZeroise_sound {qs : List Instr} (s : State) (ho : Sound qs s) : Gives qs (execKsCmdZeroise s) := by
  unfold execKsCmdZeroise; simp (maxDischargeDepth := 20) [ho]

@[simp] theorem execKsCmdArbAdvance_sound {qs : List Instr} (s : State) (ho : Sound qs s) : Gives qs (execKsCmdArbAdvance s) := by
  unfold execKsCmdArbAdvance; simp (maxDischargeDepth := 20) [ho]

@[simp] theorem execKsCmdDebugPermit_sound {qs : List Instr} (s : State) (ho : Sound qs s) : Gives qs (execKsCmdDebugPermit s) := by
  unfold execKsCmdDebugPermit; simp (maxDischargeDepth := 20) [ho]

end Sys2Proof.Laws
end

