-- ==== Sys2Proof/Laws/SoundUnits.lean ====
section
/-!
SUPPORT. Every operation of the scale front end, Cord, changes of a program, Folmonet and the cycle engine keeps what `Sound` says: the queue as it is, the memory in
canonical form, at most 64 records in the recorder's queue, MOPEN never back once it was cleared.
-/

namespace Sys2Proof.Laws

open Sys2Proof Sys2Proof.Machine

@[simp] theorem sclInt_sound {qs : List Instr} (b : Nat) (s : State) (ho : Sound qs s) : Sound qs (sclInt b s) := by
  unfold sclInt; simp (maxDischargeDepth := 20) [ho]

@[simp] theorem putCh_sound {qs : List Instr} (p : Nat) (c : ScCh) (s : State) (ho : Sound qs s) : Sound qs (putCh p c s) := by
  unfold putCh; simp (maxDischargeDepth := 20) [ho]

@[simp] theorem mapRecords_sound {qs : List Instr} (t : Nat) (s : State) (ho : Sound qs s) : Sound qs (mapRecords t s) := by
  unfold mapRecords; simp +contextual (maxDischargeDepth := 20) [ho]

@[simp] theorem putStatus_sound {qs : List Instr} (n p : Nat) (s : State) (ho : Sound qs s) : Sound qs (putStatus n p s) := by
  unfold putStatus; simp (maxDischargeDepth := 20) [ho]

@[simp] theorem putRecord_sound {qs : List Instr} (n : Nat) (r : List Byte) (s : State) (ho : Sound qs s) : Sound qs (putRecord n r s) := by
  unfold putRecord; simp (maxDischargeDepth := 20) [ho]

@[simp] theorem spareMove_sound {qs : List Instr} (n p : Nat) (s : State) (ho : Sound qs s) : Sound qs (spareMove n p s) := by
  unfold spareMove; (try dsimp only); (repeat' split) <;> simp (maxDischargeDepth := 20) [*]

@[simp] theorem selfCheckFailed_sound {qs : List Instr} (n p : Nat) (s : State) (ho : Sound qs s) : Sound qs (selfCheckFailed n p s) := by
  unfold selfCheckFailed; simp (maxDischargeDepth := 20) [ho]

@[simp] theorem takeOut_sound {qs : List Instr} (n p : Nat) (soft keyed : Bool) (o : ScOut) (s : State) (ho : Sound qs s) :
    Sound qs (takeOut n p soft keyed o s) := by
  unfold takeOut
  extract_lets d s1 s2 _ s3 s4 s5 s6 s7 s8 l s9 s10
  have k1 : Sound qs s3 := by simp [s3, s2, s1, ho]
  have k4 : Sound qs s4 := by simp only [s4]; split <;> simp [k1]
  have k5 : Sound qs s5 := by simp only [s5]; split <;> simp [k4]
  have k6 : Sound qs s6 := by simp only [s6]; split <;> simp [k5]
  have k7 : Sound qs s7 := by simp only [s7]; split <;> simp [k6]
  have k8 : Sound qs s8 := sound_foldl (fun s e h => by simp [h]) _ k7
  have k9 : Sound qs s9 := by
    simp only [s9]; split
    · exact sound_foldl (fun s e h => by simp [h]) _ k8
    · exact k8
  have k10 : Sound qs s10 := by simp only [s10]; split <;> simp [k9]
  split <;> simp [k10]

@[simp] theorem handChannel_sound {qs : List Instr} (tag : Nat) (time : DWord) (n : Nat) (s : State) (ho : Sound qs s) : Sound qs (handChannel tag time n s) := by
  unfold handChannel; split <;> simp (maxDischargeDepth := 20) [*]

@[simp] theorem followRecords_sound {qs : List Instr} (t : Nat) (s : State) (ho : Sound qs s) : Sound qs (followRecords t s) := by
  unfold followRecords
  split
  · exact ho
  · refine sound_foldl (fun s x ho => ?_) _ ho
    dsimp only
    (repeat' split) <;> simp (maxDischargeDepth := 20) [ho]

@[simp] theorem scaleHandOff_sound {qs : List Instr} (t tag : Nat) (s : State) (ho : Sound qs s) : Sound qs (scaleHandOff t tag s) := by
  unfold scaleHandOff; simp +contextual (maxDischargeDepth := 20) [ho]

@[simp] theorem takeSlot_sound {qs : List Instr} (n : Nat) (k : ScaleCmd) (s : State) (ho : Sound qs s) : Sound qs (takeSlot n k s) := by
  unfold takeSlot; (try dsimp only); (repeat' split) <;> simp (maxDischargeDepth := 20) [*]

@[simp] theorem handSlots_sound {qs : List Instr} (t tag : Nat) (s : State) (ho : Sound qs s) : Sound qs (handSlots t tag s) := by
  unfold handSlots; simp +contextual (maxDischargeDepth := 20) [ho]

@[simp] theorem discardPending_sound {qs : List Instr} (n p : Nat) (s : State) (ho : Sound qs s) : Sound qs (discardPending n p s) := by
  unfold discardPending; simp +contextual (maxDischargeDepth := 20) [ho]

@[simp] theorem startLogical_sound {qs : List Instr} (n : Nat) (s : State) (ho : Sound qs s) : Sound qs (startLogical n s) := by
  unfold startLogical; split <;> simp (maxDischargeDepth := 20) [*]

@[simp] theorem applyFront_sound {qs : List Instr} (cmd channel : Nat) (s : State) (ho : Sound qs s) : Sound qs (applyFront cmd channel s) := by
  unfold applyFront; (try dsimp only); (repeat' split) <;> simp (maxDischargeDepth := 20) [*]

@[simp] theorem execZero_sound {qs : List Instr} (channel : Nat) (s : State) (ho : Sound qs s) : Gives qs (execZero channel s) := by
  unfold execZero; simp (maxDischargeDepth := 20) [ho]

@[simp] theorem execSemiAutomaticTare_sound {qs : List Instr} (channel : Nat) (s : State) (ho : Sound qs s) : Gives qs (execSemiAutomaticTare channel s) := by
  unfold execSemiAutomaticTare; simp (maxDischargeDepth := 20) [ho]

@[simp] theorem execPresetTare_sound {qs : List Instr} (channel : Nat) (s : State) (ho : Sound qs s) : Gives qs (execPresetTare channel s) := by
  unfold execPresetTare; simp (maxDischargeDepth := 20) [ho]

@[simp] theorem execClearTare_sound {qs : List Instr} (channel : Nat) (s : State) (ho : Sound qs s) : Gives qs (execClearTare channel s) := by
  unfold execClearTare; simp (maxDischargeDepth := 20) [ho]

@[simp] theorem execWeighingStart_sound {qs : List Instr} (channel : Nat) (s : State) (ho : Sound qs s) : Gives qs (execWeighingStart channel s) := by
  unfold execWeighingStart; simp (maxDischargeDepth := 20) [ho]

@[simp] theorem execWeighingEnd_sound {qs : List Instr} (channel : Nat) (s : State) (ho : Sound qs s) : Gives qs (execWeighingEnd channel s) := by
  unfold execWeighingEnd; simp (maxDischargeDepth := 20) [ho]

@[simp] theorem execResetTotals_sound {qs : List Instr} (channel : Nat) (s : State) (ho : Sound qs s) : Gives qs (execResetTotals channel s) := by
  unfold execResetTotals; simp (maxDischargeDepth := 20) [ho]

@[simp] theorem execInitialZeroTimeout_sound {qs : List Instr} (channel : Nat) (s : State) (ho : Sound qs s) : Gives qs (execInitialZeroTimeout channel s) := by
  unfold execInitialZeroTimeout; split <;> simp (maxDischargeDepth := 20) [*]

@[simp] theorem sclStart_sound {qs : List Instr} (s : State) (ho : Sound qs s) : Sound qs (sclStart s) := by
  unfold sclStart; simp (maxDischargeDepth := 20) [ho]

@[simp] theorem sclStop_sound {qs : List Instr} (s : State) (ho : Sound qs s) : Sound qs (sclStop s) := by
  unfold sclStop; simp (maxDischargeDepth := 20) [ho]

@[simp] theorem sclAdopt_sound {qs : List Instr} (s : State) (ho : Sound qs s) : Sound qs (sclAdopt s) := by
  unfold sclAdopt; simp (maxDischargeDepth := 20) [ho]

@[simp] theorem sclRetire_sound {qs : List Instr} (s : State) (ho : Sound qs s) : Sound qs (sclRetire s) := by
  unfold sclRetire; simp (maxDischargeDepth := 20) [ho]

@[simp] theorem viaCord_sound {qs : List Instr} {f : State → State} (hf : ∀ s, Sound qs s → Sound qs (f s)) (s : State) (ho : Sound qs s) : Sound qs (viaCord f s) := by
  unfold viaCord; split <;> simp [ho, hf]

@[simp] theorem execSclStart_sound {qs : List Instr} (s : State) (ho : Sound qs s) : Gives qs (execSclStart s) := by
  unfold execSclStart; simp +contextual (maxDischargeDepth := 20) [ho]

@[simp] theorem execSclStop_sound {qs : List Instr} (s : State) (ho : Sound qs s) : Gives qs (execSclStop s) := by
  unfold execSclStop; simp +contextual (maxDischargeDepth := 20) [ho]

@[simp] theorem execSclAdopt_sound {qs : List Instr} (s : State) (ho : Sound qs s) : Gives qs (execSclAdopt s) := by
  unfold execSclAdopt; simp +contextual (maxDischargeDepth := 20) [ho]

@[simp] theorem execSclRetire_sound {qs : List Instr} (s : State) (ho : Sound qs s) : Gives qs (execSclRetire s) := by
  unfold execSclRetire; simp +contextual (maxDischargeDepth := 20) [ho]

@[simp] theorem crdInt_sound {qs : List Instr} (b : Nat) (s : State) (ho : Sound qs s) : Sound qs (crdInt b s) := by
  unfold crdInt; simp (maxDischargeDepth := 20) [ho]

@[simp] theorem fails_sound {qs : List Instr} (code : Nat) (s : State) (ho : Sound qs s) : Sound qs (fails code s).1 := by
  unfold fails; simp (maxDischargeDepth := 20) [ho]

@[simp] theorem okay_sound {qs : List Instr} (s : State) (ho : Sound qs s) : Sound qs (okay s).1 := by
  unfold okay; simp (maxDischargeDepth := 20) [ho]

@[simp] theorem reqDoor_sound {qs : List Instr} (master : Master) (level : Level) (seq : Word) (s : State) (ho : Sound qs s) : Sound qs (reqDoor master level seq s) := by
  unfold reqDoor; simp (maxDischargeDepth := 20) [ho]

@[simp] theorem mbxRsp_sound {qs : List Instr} (seq : Word) (s : State) (ho : Sound qs s) : Sound qs (mbxRsp seq s) := by
  unfold mbxRsp; simp (maxDischargeDepth := 20) [ho]

@[simp] theorem mbxRun_sound {qs : List Instr} (op : Nat) {f : MbxRq → State → State × MbxRes} (hf : ∀ m s, Sound qs s → Sound qs (f m s).1) (m : MbxRq) (s : State)
    (ho : Sound qs s) : Sound qs (mbxRun op f m s).1 := by
  unfold mbxRun
  refine mbxRsp_sound _ _ (sound_mem (hf _ _ ?_) (from_writeBytes (from_mem _) _ _))
  simp (maxDischargeDepth := 20) [ho]

@[simp] theorem mbxExec_sound {qs : List Instr} (op : Nat) {f : MbxRq → State → State × MbxRes} (hf : ∀ m s, Sound qs s → Sound qs (f m s).1) (m : MbxRq) (s : State)
    (ho : Sound qs s) : Sound qs (mbxExec op f m s) := by
  unfold mbxExec; split
  · exact mbxRun_sound op hf m s ho
  · exact ho

@[simp] theorem booted_sound {qs : List Instr} {f : MbxRq → State → State × MbxRes} (hf : ∀ m s, Sound qs s → Sound qs (f m s).1) (m : MbxRq) (s : State)
    (ho : Sound qs s) : Sound qs (booted f m s).1 := by
  unfold booted; split <;> simp [ho, hf]

@[simp] theorem componentFailed_sound {qs : List Instr} (comp : Nat) (s : State) (ho : Sound qs s) : Sound qs (componentFailed comp s) := by
  unfold componentFailed; simp (maxDischargeDepth := 20) [ho]

@[simp] theorem startFirmware_sound {qs : List Instr} (h body : List Byte) (s : State) (ho : Sound qs s) : Sound qs (startFirmware h body s) := by
  unfold startFirmware; simp (maxDischargeDepth := 20) [ho]

@[simp] theorem startMicrocode_sound {qs : List Instr} (h body : List Byte) (s : State) (ho : Sound qs s) : Sound qs (startMicrocode h body s) := by
  unfold startMicrocode; simp (maxDischargeDepth := 20) [ho]

@[simp] theorem opLoadBegin_sound {qs : List Instr} (m : MbxRq) (s : State) (ho : Sound qs s) : Sound qs (opLoadBegin m s).1 := by
  unfold opLoadBegin; (try dsimp only); (repeat' split) <;> simp (maxDischargeDepth := 20) [*]

@[simp] theorem opLoadData_sound {qs : List Instr} (m : MbxRq) (s : State) (ho : Sound qs s) : Sound qs (opLoadData m s).1 := by
  unfold opLoadData; (try dsimp only); (repeat' split) <;> simp (maxDischargeDepth := 20) [*]

@[simp] theorem opLoadEnd_sound {qs : List Instr} (m : MbxRq) (s : State) (ho : Sound qs s) : Sound qs (opLoadEnd m s).1 := by
  unfold opLoadEnd; (try dsimp only); (repeat' split) <;> simp (maxDischargeDepth := 20) [*]

@[simp] theorem opObjRead_sound {qs : List Instr} (m : MbxRq) (s : State) (ho : Sound qs s) : Sound qs (opObjRead m s).1 := by
  unfold opObjRead; (try dsimp only); (repeat' split) <;> simp (maxDischargeDepth := 20) [*]

@[simp] theorem afterLegal_sound {qs : List Instr} (n : Nat) (s : State) (ho : Sound qs s) : Sound qs (afterLegal n s) := by
  unfold afterLegal; simp (maxDischargeDepth := 20) [ho]

@[simp] theorem opObjWrite_sound {qs : List Instr} (m : MbxRq) (s : State) (ho : Sound qs s) : Sound qs (opObjWrite m s).1 := by
  unfold opObjWrite
  dsimp only
  (repeat' split) <;> first
    | (simp (maxDischargeDepth := 20) [ho]; done)
    | (have := sound_of_eq (cordAppend_sound _ _ _ _ _ _ _ _ _ ho) (by assumption); simp (maxDischargeDepth := 20) [this])

@[simp] theorem clearVmode_sound {qs : List Instr} (s : State) (ho : Sound qs s) : Sound qs (clearVmode s) := by
  unfold clearVmode; simp (maxDischargeDepth := 20) [ho]

/-- A posting leaves Cord's registers. -/
theorem post_keeps_cord (code : Nat) (block : Byte) (data : List Byte) (s : State) : (post code block data s).cord = s.cord := by
  unfold post postRecs
  split
  · rfl
  · split <;> rfl

theorem audWrite_keeps_cord (stage : List Byte) (s : State) : (audWrite stage true s).1.cord = s.cord := by
  unfold audWrite
  dsimp only
  split <;> rfl

theorem audLevels_keeps_cord (before : Nat) (s : State) : (audLevels before s).cord = s.cord := by
  have h1 : ∀ s : State, (if before < 124519 ∧ 124519 ≤ s.aud.used then
      cordPost 0x0505 [] (audWrite (stageOf s 9 0xFF 0 0 0 0 0 actorCord) true (audInt 2 s)).1 else s).cord = s.cord := by
    intro s; split
    · exact (post_keeps_cord _ _ _ _).trans (audWrite_keeps_cord _ _)
    · rfl
  have h2 : ∀ s : State, (if before < 130816 ∧ 130816 ≤ s.aud.used then cordPost 0x0506 [] (audInt 1 s) else s).cord = s.cord := by
    intro s; split
    · exact post_keeps_cord _ _ _ _
    · rfl
  have h3 : ∀ s : State, (if before < audMax ∧ s.aud.used = audMax then cordPost 0x0507 [] s else s).cord = s.cord := by
    intro s; split
    · exact post_keeps_cord _ _ _ _
    · rfl
  exact (h3 _).trans ((h2 _).trans (h1 s))

/-- An append leaves Cord's registers. -/
theorem cordAppend_keeps_cord (kind ch index sub typ old new actor : Nat) (s : State) : (cordAppend kind ch index sub typ old new actor s).1.cord = s.cord := by
  unfold cordAppend
  split
  · rfl
  · exact (audLevels_keeps_cord _ _).trans (audWrite_keeps_cord _ s)

/-- Verification mode ends, whatever else of Cord changed with it. -/
theorem clearVmode_out {qs : List Instr} {s : State} {c : Cord} (ho : Sound qs s) :
    Sound qs (clearVmode { s with cord := c }) := by
  unfold clearVmode
  dsimp only
  split
  · exact sound_cord (s := s) ho (fromC_out rfl)
  · rename_i h
    exact sound_cord (s := s) ho (fromC_out (by simpa using h))

@[simp] theorem closeVerifier_sound {qs : List Instr} (reason : Nat) (s : State) (ho : Sound qs s) : Sound qs (closeVerifier reason s) := by
  unfold closeVerifier
  split
  · exact ho
  · exact releaseToken_sound _ _ (cordPost_sound _ _ _ (clearVmode_out (cordAppend_sound _ _ _ _ _ _ _ _ s ho)))

@[simp] theorem opChallenge_sound {qs : List Instr} (u0 : MbxRq) (s : State) (ho : Sound qs s) : Sound qs (opChallenge u0 s).1 := by
  unfold opChallenge; split <;> simp (maxDischargeDepth := 20) [*]

@[simp] theorem proofFails_sound {qs : List Instr} (s : State) (ho : Sound qs s) : Sound qs (proofFails s).1 := by
  unfold proofFails; simp (maxDischargeDepth := 20) [ho]

@[simp] theorem opProve_sound {qs : List Instr} (m : MbxRq) (s : State) (ho : Sound qs s) : Sound qs (opProve m s).1 := by
  unfold opProve
  dsimp only
  split
  · exact ho
  · rename_i hw
    split
    · exact ho
    · split
      · exact ho
      · split
        · split
          · exact proofFails_sound s ho
          · have k : Sound qs { s with cord := { s.cord with challenge := none } } := sound_cord ho (fromC_same rfl rfl rfl)
            split
            · exact k
            · split
              · exact k
              · split
                · rename_i e
                  have k' := sound_of_eq (cordAppend_sound _ _ _ _ _ _ _ _ _ k) e
                  have c := (congrArg (fun r => r.1.cord) e).symm.trans (cordAppend_keeps_cord _ _ _ _ _ _ _ _ _)
                  refine cordPost_sound _ _ _ (sound_cord k' fun _ _ => ⟨?_, rfl⟩)
                  have : s.cord.switchSet = true := by simpa using hw
                  exact (congrArg Cord.switchSet c).trans this
                · rename_i e
                  exact sound_of_eq (cordAppend_sound _ _ _ _ _ _ _ _ _ k) e
        · exact proofFails_sound s ho

@[simp] theorem opClose_sound {qs : List Instr} (m : MbxRq) (s : State) (ho : Sound qs s) : Sound qs (opClose m s).1 := by
  unfold opClose; split <;> simp (maxDischargeDepth := 20) [*]

@[simp] theorem moveChannel_sound {qs : List Instr} (kind n : Nat) (next : ChSt) (s : State) (ho : Sound qs s) : Sound qs (moveChannel kind n next s).1 := by
  unfold moveChannel
  split <;> (have := sound_of_eq (cordAppend_sound _ _ _ _ _ _ _ _ _ ho) (by assumption); simp [this])

@[simp] theorem opChannelTest_sound {qs : List Instr} (m : MbxRq) (s : State) (ho : Sound qs s) : Sound qs (opChannelTest m s).1 := by
  unfold opChannelTest; (try dsimp only); (repeat' split) <;> simp (maxDischargeDepth := 20) [*]

@[simp] theorem opChannelService_sound {qs : List Instr} (m : MbxRq) (s : State) (ho : Sound qs s) : Sound qs (opChannelService m s).1 := by
  unfold opChannelService; (try dsimp only); (repeat' split) <;> simp (maxDischargeDepth := 20) [*]

@[simp] theorem opIdent_sound {qs : List Instr} (u0 : MbxRq) (s : State) (ho : Sound qs s) : Sound qs (opIdent u0 s).1 := by
  unfold opIdent; simp (maxDischargeDepth := 20) [ho]

@[simp] theorem opAuditRead_sound {qs : List Instr} (m : MbxRq) (s : State) (ho : Sound qs s) : Sound qs (opAuditRead m s).1 := by
  unfold opAuditRead; (try dsimp only); (repeat' split) <;> simp (maxDischargeDepth := 20) [*]

@[simp] theorem opUpdBegin_sound {qs : List Instr} (m : MbxRq) (s : State) (ho : Sound qs s) : Sound qs (opUpdBegin m s).1 := by
  unfold opUpdBegin; (try dsimp only); (repeat' split) <;> simp (maxDischargeDepth := 20) [*]

@[simp] theorem opUpdData_sound {qs : List Instr} (m : MbxRq) (s : State) (ho : Sound qs s) : Sound qs (opUpdData m s).1 := by
  unfold opUpdData; (try dsimp only); (repeat' split) <;> simp (maxDischargeDepth := 20) [*]

@[simp] theorem judgeId_sound {qs : List Instr} (s : State) (ho : Sound qs s) : Sound qs (judgeId s) := by
  unfold judgeId; simp (maxDischargeDepth := 20) [ho]

@[simp] theorem opUpdEnd_sound {qs : List Instr} (m : MbxRq) (s : State) (ho : Sound qs s) : Sound qs (opUpdEnd m s).1 := by
  unfold opUpdEnd
  dsimp only
  (repeat' split) <;> first | (simp (maxDischargeDepth := 20) [ho]; done) | (have := sound_of_eq (cordAppend_sound _ _ _ _ _ _ _ _ _ ho) (by assumption); simp [this])

@[simp] theorem ofStatus_sound {qs : List Instr} (r : State × Nat) (ho : Sound qs r.1) : Sound qs (ofStatus r).1 := ho

@[simp] theorem opKsEnrol_sound {qs : List Instr} (m : MbxRq) (s : State) (ho : Sound qs s) : Sound qs (opKsEnrol m s).1 := by
  unfold opKsEnrol; split <;> simp (maxDischargeDepth := 20) [*]

@[simp] theorem opKsRevoke_sound {qs : List Instr} (m : MbxRq) (s : State) (ho : Sound qs s) : Sound qs (opKsRevoke m s).1 := by
  unfold opKsRevoke; split <;> simp (maxDischargeDepth := 20) [*]

@[simp] theorem opKsLoad_sound {qs : List Instr} (m : MbxRq) (s : State) (ho : Sound qs s) : Sound qs (opKsLoad m s).1 := by
  unfold opKsLoad; simp (maxDischargeDepth := 20) [ho]

@[simp] theorem opKsInfo_sound {qs : List Instr} (u0 : MbxRq) (s : State) (ho : Sound qs s) : Sound qs (opKsInfo u0 s).1 := by
  unfold opKsInfo; simp (maxDischargeDepth := 20) [ho]

@[simp] theorem opKsSign_sound {qs : List Instr} (m : MbxRq) (s : State) (ho : Sound qs s) : Sound qs (opKsSign m s).1 := by
  unfold opKsSign; (try dsimp only); (repeat' split) <;> simp (maxDischargeDepth := 20) [*]

@[simp] theorem opArbAdvance_sound {qs : List Instr} (m : MbxRq) (s : State) (ho : Sound qs s) : Sound qs (opArbAdvance m s).1 := by
  unfold opArbAdvance; split <;> simp (maxDischargeDepth := 20) [*]

@[simp] theorem opZeroise_sound {qs : List Instr} (u0 : MbxRq) (s : State) (ho : Sound qs s) : Sound qs (opZeroise u0 s).1 := by
  unfold opZeroise; split <;> simp (maxDischargeDepth := 20) [*]

@[simp] theorem opDebugChallenge_sound {qs : List Instr} (u0 : MbxRq) (s : State) (ho : Sound qs s) : Sound qs (opDebugChallenge u0 s).1 := by
  unfold opDebugChallenge; simp (maxDischargeDepth := 20) [ho]

@[simp] theorem debugPort_sound {qs : List Instr} (s : State) (ho : Sound qs s) : Sound qs (debugPort s) := by
  unfold debugPort; simp (maxDischargeDepth := 20) [ho]

@[simp] theorem opDebugUnlock_sound {qs : List Instr} (m : MbxRq) (s : State) (ho : Sound qs s) : Sound qs (opDebugUnlock m s).1 := by
  unfold opDebugUnlock; (try dsimp only); (repeat' split) <;> simp (maxDischargeDepth := 20) [*]

@[simp] theorem audInit_sound {qs : List Instr} (v : DWord) (s : State) (ho : Sound qs s) : Sound qs (audInit v s) := by
  unfold audInit; simp (maxDischargeDepth := 20) [ho]

@[simp] theorem audErase_sound {qs : List Instr} (s : State) (ho : Sound qs s) : Sound qs (audErase s) := by
  unfold audErase; simp (maxDischargeDepth := 20) [ho]

@[simp] theorem startChannels_sound {qs : List Instr} (s : State) (ho : Sound qs s) : Sound qs (startChannels s) := by
  unfold startChannels; simp +contextual (maxDischargeDepth := 20) [ho]

@[simp] theorem startScan_sound {qs : List Instr} (s : State) (ho : Sound qs s) : Sound qs (startScan s) := by
  unfold startScan; (try dsimp only); (repeat' split) <;> simp (maxDischargeDepth := 20) [*]

@[simp] theorem execReqDoor_sound {qs : List Instr} (master : Master) (level : Level) (seq : Word) (s : State) (ho : Sound qs s) : Gives qs (execReqDoor master level seq s) := by
  unfold execReqDoor; simp (maxDischargeDepth := 20) [ho]

@[simp] theorem execCrdMbxRsp_sound {qs : List Instr} (seq : Word) (s : State) (ho : Sound qs s) : Gives qs (execCrdMbxRsp seq s) := by
  unfold execCrdMbxRsp; simp (maxDischargeDepth := 20) [ho]

@[simp] theorem execLoadBegin_sound {qs : List Instr} (m : MbxRq) (s : State) (ho : Sound qs s) : Gives qs (execLoadBegin m s) := by
  unfold execLoadBegin; simp +contextual (maxDischargeDepth := 20) [ho]

@[simp] theorem execLoadData_sound {qs : List Instr} (m : MbxRq) (s : State) (ho : Sound qs s) : Gives qs (execLoadData m s) := by
  unfold execLoadData; simp +contextual (maxDischargeDepth := 20) [ho]

@[simp] theorem execLoadEnd_sound {qs : List Instr} (m : MbxRq) (s : State) (ho : Sound qs s) : Gives qs (execLoadEnd m s) := by
  unfold execLoadEnd; simp +contextual (maxDischargeDepth := 20) [ho]

@[simp] theorem execIdent_sound {qs : List Instr} (m : MbxRq) (s : State) (ho : Sound qs s) : Gives qs (execIdent m s) := by
  unfold execIdent; simp +contextual (maxDischargeDepth := 20) [ho]

@[simp] theorem execObjRead_sound {qs : List Instr} (m : MbxRq) (s : State) (ho : Sound qs s) : Gives qs (execObjRead m s) := by
  unfold execObjRead; simp +contextual (maxDischargeDepth := 20) [ho]

@[simp] theorem execObjWrite_sound {qs : List Instr} (m : MbxRq) (s : State) (ho : Sound qs s) : Gives qs (execObjWrite m s) := by
  unfold execObjWrite; simp +contextual (maxDischargeDepth := 20) [ho]

@[simp] theorem execVChallenge_sound {qs : List Instr} (m : MbxRq) (s : State) (ho : Sound qs s) : Gives qs (execVChallenge m s) := by
  unfold execVChallenge; simp +contextual (maxDischargeDepth := 20) [ho]

@[simp] theorem proveWithToken_sound {qs : List Instr} (m : MbxRq) (s : State) (ho : Sound qs s) : Sound qs (proveWithToken m s).1 := by
  unfold proveWithToken; (try dsimp only); (repeat' split) <;> simp (maxDischargeDepth := 20) [*]

@[simp] theorem execVProve_sound {qs : List Instr} (m : MbxRq) (s : State) (ho : Sound qs s) : Gives qs (execVProve m s) := by
  unfold execVProve; simp +contextual (maxDischargeDepth := 20) [ho]

@[simp] theorem execVClose_sound {qs : List Instr} (m : MbxRq) (s : State) (ho : Sound qs s) : Gives qs (execVClose m s) := by
  unfold execVClose; simp +contextual (maxDischargeDepth := 20) [ho]

@[simp] theorem execChannelTest_sound {qs : List Instr} (m : MbxRq) (s : State) (ho : Sound qs s) : Gives qs (execChannelTest m s) := by
  unfold execChannelTest; simp +contextual (maxDischargeDepth := 20) [ho]

@[simp] theorem execChannelService_sound {qs : List Instr} (m : MbxRq) (s : State) (ho : Sound qs s) : Gives qs (execChannelService m s) := by
  unfold execChannelService; simp +contextual (maxDischargeDepth := 20) [ho]

@[simp] theorem execAuditRead_sound {qs : List Instr} (m : MbxRq) (s : State) (ho : Sound qs s) : Gives qs (execAuditRead m s) := by
  unfold execAuditRead; simp +contextual (maxDischargeDepth := 20) [ho]

@[simp] theorem execUpdBegin_sound {qs : List Instr} (m : MbxRq) (s : State) (ho : Sound qs s) : Gives qs (execUpdBegin m s) := by
  unfold execUpdBegin; simp +contextual (maxDischargeDepth := 20) [ho]

@[simp] theorem execUpdData_sound {qs : List Instr} (m : MbxRq) (s : State) (ho : Sound qs s) : Gives qs (execUpdData m s) := by
  unfold execUpdData; simp +contextual (maxDischargeDepth := 20) [ho]

@[simp] theorem execUpdEnd_sound {qs : List Instr} (m : MbxRq) (s : State) (ho : Sound qs s) : Gives qs (execUpdEnd m s) := by
  unfold execUpdEnd; simp +contextual (maxDischargeDepth := 20) [ho]

@[simp] theorem execKsEnrol_sound {qs : List Instr} (m : MbxRq) (s : State) (ho : Sound qs s) : Gives qs (execKsEnrol m s) := by
  unfold execKsEnrol; simp +contextual (maxDischargeDepth := 20) [ho]

@[simp] theorem execKsRevoke_sound {qs : List Instr} (m : MbxRq) (s : State) (ho : Sound qs s) : Gives qs (execKsRevoke m s) := by
  unfold execKsRevoke; simp +contextual (maxDischargeDepth := 20) [ho]

@[simp] theorem execKsLoad_sound {qs : List Instr} (m : MbxRq) (s : State) (ho : Sound qs s) : Gives qs (execKsLoad m s) := by
  unfold execKsLoad; simp +contextual (maxDischargeDepth := 20) [ho]

@[simp] theorem execKsInfo_sound {qs : List Instr} (m : MbxRq) (s : State) (ho : Sound qs s) : Gives qs (execKsInfo m s) := by
  unfold execKsInfo; simp +contextual (maxDischargeDepth := 20) [ho]

@[simp] theorem execKsSign_sound {qs : List Instr} (m : MbxRq) (s : State) (ho : Sound qs s) : Gives qs (execKsSign m s) := by
  unfold execKsSign; simp +contextual (maxDischargeDepth := 20) [ho]

@[simp] theorem execArbAdvance_sound {qs : List Instr} (m : MbxRq) (s : State) (ho : Sound qs s) : Gives qs (execArbAdvance m s) := by
  unfold execArbAdvance; simp +contextual (maxDischargeDepth := 20) [ho]

@[simp] theorem execLegalIdRecheck_sound {qs : List Instr} (computed : List Byte) (s : State) (ho : Sound qs s) : Gives qs (execLegalIdRecheck computed s) := by
  unfold execLegalIdRecheck; simp (maxDischargeDepth := 20) [ho]

@[simp] theorem execStatusRepublish_sound {qs : List Instr} (unit : Nat) (s : State) (ho : Sound qs s) : Gives qs (execStatusRepublish unit s) := by
  unfold execStatusRepublish; simp (maxDischargeDepth := 20) [ho]

@[simp] theorem execVerificationSwitchChange_sound {qs : List Instr} (set : Bool) (s : State) (ho : Sound qs s) : Gives qs (execVerificationSwitchChange set s) := by
  unfold execVerificationSwitchChange
  refine finish_sound _ ?_
  split
  · exact ho
  · dsimp only
    split
    · rename_i h
      exact sound_cord (s := s) ho fun k v => ⟨h, (k v).2⟩
    · exact closeVerifier_sound _ _ (clearVmode_out (s := s) ho)

@[simp] theorem execVerifierSessionTimeout_sound {qs : List Instr} (s : State) (ho : Sound qs s) : Gives qs (execVerifierSessionTimeout s) := by
  unfold execVerifierSessionTimeout; simp (maxDischargeDepth := 20) [ho]

@[simp] theorem execCrdMode_sound {qs : List Instr} (word : Word) (s : State) (ho : Sound qs s) : Gives qs (execCrdMode word s) := by
  unfold execCrdMode
  refine finish_sound _ ?_
  split
  · exact ho
  · dsimp only
    split
    · rename_i h
      exact sound_cord (s := s) ho fun _ v => ⟨((Bool.and_eq_true _ _).mp v).2, h⟩
    · exact clearVmode_out (s := s) ho

@[simp] theorem execAudAppend_sound {qs : List Instr} (word : Word) (mramOk : Bool) (s : State) (ho : Sound qs s) : Gives qs (execAudAppend word mramOk s) := by
  unfold execAudAppend; simp (maxDischargeDepth := 20) [ho]

@[simp] theorem execAudInit_sound {qs : List Instr} (word : DWord) (s : State) (ho : Sound qs s) : Gives qs (execAudInit word s) := by
  unfold execAudInit; simp (maxDischargeDepth := 20) [ho]

@[simp] theorem execAudErase_sound {qs : List Instr} (word : Word) (s : State) (ho : Sound qs s) : Gives qs (execAudErase word s) := by
  unfold execAudErase; simp (maxDischargeDepth := 20) [ho]

@[simp] theorem execCordStartScan_sound {qs : List Instr} (s : State) (ho : Sound qs s) : Gives qs (execCordStartScan s) := by
  unfold execCordStartScan; simp (maxDischargeDepth := 20) [ho]

@[simp] theorem execCrdWdog_sound {qs : List Instr} (word : Word) (s : State) (ho : Sound qs s) : Gives qs (execCrdWdog word s) := by
  unfold execCrdWdog; simp (maxDischargeDepth := 20) [ho]

@[simp] theorem execCordWatchdogExpiry_sound {qs : List Instr} (s : State) (ho : Sound qs s) : Gives qs (execCordWatchdogExpiry s) := by
  unfold execCordWatchdogExpiry; simp (maxDischargeDepth := 20) [ho]

@[simp] theorem execCrdNotify_sound {qs : List Instr} (word : Word) (s : State) (ho : Sound qs s) : Gives qs (execCrdNotify word s) := by
  unfold execCrdNotify; simp (maxDischargeDepth := 20) [ho]

@[simp] theorem trackOn_sound {qs : List Instr} (s : State) (ho : Sound qs s) : Sound qs (trackOn s) := by
  unfold trackOn; simp (maxDischargeDepth := 20) [ho]

@[simp] theorem trackOff_sound {qs : List Instr} (s : State) (ho : Sound qs s) : Sound qs (trackOff s) := by
  unfold trackOff; simp (maxDischargeDepth := 20) [ho]

@[simp] theorem takeDirty_sound {qs : List Instr} (s : State) (ho : Sound qs s) : Sound qs (takeDirty s) := by
  unfold takeDirty; simp (maxDischargeDepth := 20) [ho]

@[simp] theorem chgPost_sound {qs : List Instr} (code : Nat) (data : List Byte) (s : State) (ho : Sound qs s) : Sound qs (chgPost code data s) := by
  unfold chgPost; simp (maxDischargeDepth := 20) [ho]

@[simp] theorem endChange_sound {qs : List Instr} (st : ChgSt) (code : Nat) (s : State) (ho : Sound qs s) : Sound qs (endChange st code s) := by
  unfold endChange; simp (maxDischargeDepth := 20) [ho]

@[simp] theorem sendKindle_sound {qs : List Instr} (op flags : Nat) (arg aux : Nat) (data : List Byte) (s : State) (ho : Sound qs s) : Sound qs (sendKindle op flags arg aux data s) := by
  unfold sendKindle; simp (maxDischargeDepth := 20) [ho]

@[simp] theorem placeNew_sound {qs : List Instr} (b : List Byte) (s : State) (ho : Sound qs s) : Sound qs (placeNew b s) := by
  unfold placeNew; split <;> simp (maxDischargeDepth := 20) [*]

@[simp] theorem beginMeasuring_sound {qs : List Instr} (s : State) (ho : Sound qs s) : Sound qs (beginMeasuring s) := by
  unfold beginMeasuring; simp (maxDischargeDepth := 20) [ho]

@[simp] theorem loadingDone_sound {qs : List Instr} (s : State) (ho : Sound qs s) : Sound qs (loadingDone s) := by
  unfold loadingDone; (try dsimp only); (repeat' split) <;> simp (maxDischargeDepth := 20) [*]

@[simp] theorem sendKindleImage_sound {qs : List Instr} (b : List Byte) (s : State) (ho : Sound qs s) : Sound qs (sendKindleImage b s) := by
  unfold sendKindleImage; simp +contextual (maxDischargeDepth := 20) [ho]

@[simp] theorem changeStart_sound {qs : List Instr} (session : Nat) (s : State) (ho : Sound qs s) : Sound qs (changeStart session s).1 := by
  unfold changeStart; (try dsimp only); (repeat' split) <;> simp (maxDischargeDepth := 20) [*]

@[simp] theorem changeAbandon_sound {qs : List Instr} (s : State) (ho : Sound qs s) : Sound qs (changeAbandon s).1 := by
  unfold changeAbandon; (try dsimp only); (repeat' split) <;> simp (maxDischargeDepth := 20) [*]

@[simp] theorem announceSwap_sound {qs : List Instr} (s : State) (ho : Sound qs s) : Sound qs (announceSwap s) := by
  unfold announceSwap; split <;> simp (maxDischargeDepth := 20) [*]

@[simp] theorem closeTasks_sound {qs : List Instr} (s : State) (ho : Sound qs s) : Sound qs (closeTasks s) := by
  unfold closeTasks; simp (maxDischargeDepth := 20) [ho]

@[simp] theorem restoreMasks_sound {qs : List Instr} (s : State) (ho : Sound qs s) : Sound qs (restoreMasks s) := by
  unfold restoreMasks; simp (maxDischargeDepth := 20) [ho]

@[simp] theorem postpone_sound {qs : List Instr} (s : State) (ho : Sound qs s) : Sound qs (postpone s) := by
  unfold postpone; simp (maxDischargeDepth := 20) [ho]

@[simp] theorem tryQuiesce_sound {qs : List Instr} (s : State) (ho : Sound qs s) : Sound qs (tryQuiesce s) := by
  unfold tryQuiesce; simp (maxDischargeDepth := 20) [ho]

@[simp] theorem rebindForces_sound {qs : List Instr} (new : Prog) (s : State) (ho : Sound qs s) : Sound qs (rebindForces new s) := by
  unfold rebindForces; simp +contextual (maxDischargeDepth := 20) [ho]

@[simp] theorem nextMasks_sound {qs : List Instr} (en : BitVec 16) (ev : BitVec 64) (s : State) (ho : Sound qs s) : Sound qs (nextMasks en ev s) := by
  unfold nextMasks; simp (maxDischargeDepth := 20) [ho]

@[simp] theorem reopenNext_sound {qs : List Instr} (r : Option Nat) (s : State) (ho : Sound qs s) : Sound qs (reopenNext r s) := by
  unfold reopenNext; simp (maxDischargeDepth := 20) [ho]

@[simp] theorem from_migrate {s : State} {m : Memory} (old new : Prog) (xs : List Mig) (h : From s m) :
    From s (xs.foldl (fun m e => migrate old new e m) m) := from_foldl (fun _ _ h => wf_migrate h _ _ _) xs h

@[simp] theorem carryTriggers_sound {qs : List Instr} (new : Prog) (s : State) (ho : Sound qs s) : Sound qs (carryTriggers new s) := by
  unfold carryTriggers; simp (maxDischargeDepth := 20) [ho]

@[simp] theorem swapMem_sound {qs : List Instr} (old new : Prog) (s : State) (ho : Sound qs s) : Sound qs (swapMem old new s) := by
  unfold swapMem; simp (maxDischargeDepth := 20) [ho]

@[simp] theorem swapJournal_sound {qs : List Instr} (old new : Prog) (s : State) (ho : Sound qs s) : Sound qs (swapJournal old new s) := by
  unfold swapJournal; simp (maxDischargeDepth := 20) [ho]

@[simp] theorem swapNames_sound {qs : List Instr} (new : Prog) (en : BitVec 16) (ev : BitVec 64) (s : State) (ho : Sound qs s) : Sound qs (swapNames new en ev s) := by
  unfold swapNames; simp (maxDischargeDepth := 20) [ho]

@[simp] theorem swapCopyDone_sound {qs : List Instr} (s : State) (ho : Sound qs s) : Sound qs (swapCopyDone s) := by
  unfold swapCopyDone; split <;> simp (maxDischargeDepth := 20) [*]

@[simp] theorem swapMissed_sound {qs : List Instr} (s : State) (ho : Sound qs s) : Sound qs (swapMissed s) := by
  unfold swapMissed; simp (maxDischargeDepth := 20) [ho]

@[simp] theorem reopenSwap_sound {qs : List Instr} (s : State) (ho : Sound qs s) : Sound qs (reopenSwap s) := by
  unfold reopenSwap; simp (maxDischargeDepth := 20) [ho]

@[simp] theorem leaveChange_sound {qs : List Instr} (s : State) (ho : Sound qs s) : Sound qs (leaveChange s) := by
  unfold leaveChange; simp (maxDischargeDepth := 20) [ho]

@[simp] theorem changeBeat_sound {qs : List Instr} (s : State) (ho : Sound qs s) : Sound qs (changeBeat s) := by
  unfold changeBeat; (try dsimp only); (repeat' split) <;> simp (maxDischargeDepth := 20) [*]

@[simp] theorem changeTakeover_sound {qs : List Instr} (s : State) (ho : Sound qs s) : Sound qs (changeTakeover s) := by
  unfold changeTakeover; simp (maxDischargeDepth := 20) [ho]

@[simp] theorem clearForces_sound {qs : List Instr} (s : State) (ho : Sound qs s) : Sound qs (clearForces s) := by
  unfold clearForces; simp (maxDischargeDepth := 20) [ho]

@[simp] theorem measuringEnd_sound {qs : List Instr} (s : State) (ho : Sound qs s) : Sound qs (measuringEnd s) := by
  unfold measuringEnd; simp (maxDischargeDepth := 20) [ho]

@[simp] theorem precopyRound_sound {qs : List Instr} (s : State) (ho : Sound qs s) : Sound qs (precopyRound s) := by
  unfold precopyRound
  split
  · split
    · exact ho
    · rename_i old new _ _ _
      have k : ∀ xs : List Mig, From s (xs.foldl (fun m e => migrate old new e m)
          (if s.chg.passed then s.mem else writeBytes s.mem new.dataBase (fit new.dataLen new.init))) :=
        fun xs => from_migrate _ _ _ (by split <;> simp)
      simp (maxDischargeDepth := 20) [ho, k]
  · exact ho

@[simp] theorem onKindleData_sound {qs : List Instr} (p : KindleP) (s : State) (ho : Sound qs s) : Sound qs (onKindleData p s) := by
  unfold onKindleData; simp (maxDischargeDepth := 20) [ho]

@[simp] theorem onKindleLoaded_sound {qs : List Instr} (p : KindleP) (s : State) (ho : Sound qs s) : Sound qs (onKindleLoaded p s) := by
  unfold onKindleLoaded; simp (maxDischargeDepth := 20) [ho]

@[simp] theorem onKindleStart_sound {qs : List Instr} (u0 : KindleP) (s : State) (ho : Sound qs s) : Sound qs (onKindleStart u0 s) := by
  unfold onKindleStart; simp (maxDischargeDepth := 20) [ho]

@[simp] theorem onKindleGo_sound {qs : List Instr} (p : KindleP) (s : State) (ho : Sound qs s) : Sound qs (onKindleGo p s) := by
  unfold onKindleGo; simp (maxDischargeDepth := 20) [ho]

@[simp] theorem onKindleGoAck_sound {qs : List Instr} (p : KindleP) (s : State) (ho : Sound qs s) : Sound qs (onKindleGoAck p s) := by
  unfold onKindleGoAck; simp (maxDischargeDepth := 20) [ho]

@[simp] theorem onKindleNogo_sound {qs : List Instr} (u0 : KindleP) (s : State) (ho : Sound qs s) : Sound qs (onKindleNogo u0 s) := by
  unfold onKindleNogo; simp (maxDischargeDepth := 20) [ho]

@[simp] theorem onKindleDone_sound {qs : List Instr} (p : KindleP) (s : State) (ho : Sound qs s) : Sound qs (onKindleDone p s) := by
  unfold onKindleDone; simp (maxDischargeDepth := 20) [ho]

@[simp] theorem onKindleAbandon_sound {qs : List Instr} (p : KindleP) (s : State) (ho : Sound qs s) : Sound qs (onKindleAbandon p s) := by
  unfold onKindleAbandon; simp (maxDischargeDepth := 20) [ho]

@[simp] theorem onKindle_sound {qs : List Instr} (p : KindleP) (s : State) (ho : Sound qs s) : Sound qs (onKindle p s) := by
  unfold onKindle; split <;> simp (maxDischargeDepth := 20) [*]

@[simp] theorem kindleData_sound {qs : List Instr} (v : List Byte) (s : State) (ho : Sound qs s) : Sound qs (kindleData v s).1 := by
  unfold kindleData; split <;> simp (maxDischargeDepth := 20) [*]

@[simp] theorem execMeasuringEnd_sound {qs : List Instr} (s : State) (ho : Sound qs s) : Gives qs (execMeasuringEnd s) := by
  unfold execMeasuringEnd; simp (maxDischargeDepth := 20) [ho]

@[simp] theorem execPrecopyRoundEnd_sound {qs : List Instr} (s : State) (ho : Sound qs s) : Gives qs (execPrecopyRoundEnd s) := by
  unfold execPrecopyRoundEnd; simp (maxDischargeDepth := 20) [ho]

@[simp] theorem execGoAckTimeout_sound {qs : List Instr} (s : State) (ho : Sound qs s) : Gives qs (execGoAckTimeout s) := by
  unfold execGoAckTimeout; simp (maxDischargeDepth := 20) [ho]

@[simp] theorem execSwapCopyDone_sound {qs : List Instr} (s : State) (ho : Sound qs s) : Gives qs (execSwapCopyDone s) := by
  unfold execSwapCopyDone; simp (maxDischargeDepth := 20) [ho]

@[simp] theorem setPort_sound {qs : List Instr} (n : Nat) (f : Port → Port) (s : State) (ho : Sound qs s) : Sound qs (setPort n f s) := by
  unfold setPort; simp (maxDischargeDepth := 20) [ho]

@[simp] theorem setCnt_sound {qs : List Instr} (n : Nat) (f : PortCnt → PortCnt) (s : State) (ho : Sound qs s) : Sound qs (setCnt n f s) := by
  unfold setCnt; simp (maxDischargeDepth := 20) [ho]

@[simp] theorem setSeg_sound {qs : List Instr} (n : Nat) (f : Seg → Seg) (s : State) (ho : Sound qs s) : Sound qs (setSeg n f s) := by
  unfold setSeg; simp (maxDischargeDepth := 20) [ho]

@[simp] theorem fptInt_sound {qs : List Instr} (n b : Nat) (s : State) (ho : Sound qs s) : Sound qs (fptInt n b s) := by
  unfold fptInt; simp (maxDischargeDepth := 20) [ho]

@[simp] theorem fptPost_sound {qs : List Instr} (n code : Nat) (data : List Byte) (s : State) (ho : Sound qs s) : Sound qs (fptPost n code data s) := by
  unfold fptPost; simp (maxDischargeDepth := 20) [ho]

@[simp] theorem portSend_sound {qs : List Instr} (n : Nat) (f : FolFrame) (s : State) (ho : Sound qs s) : Sound qs (portSend n f s) := by
  unfold portSend; simp (maxDischargeDepth := 20) [ho]

@[simp] theorem sendRelays_sound {qs : List Instr} (es : List RelayE) (s : State) (ho : Sound qs s) : Sound qs (sendRelays es s) := by
  unfold sendRelays; simp +contextual (maxDischargeDepth := 20) [ho]

@[simp] theorem endSend_sound {qs : List Instr} (n end_ : Nat) (f : FolFrame) (s : State) (ho : Sound qs s) : Sound qs (endSend n end_ f s) := by
  unfold endSend; simp (maxDischargeDepth := 20) [ho]

@[simp] theorem windowSend_sound {qs : List Instr} (n end_ : Nat) (f : FolFrame) (s : State) (ho : Sound qs s) : Sound qs (windowSend n end_ f s) := by
  unfold windowSend; simp (maxDischargeDepth := 20) [ho]

@[simp] theorem svcToStation_sound {qs : List Instr} (n end_ station : Nat) (op : Byte) (index sub : Nat) (data : List Byte) (s : State) (ho : Sound qs s) : Sound qs (svcToStation n end_ station op index sub data s) := by
  unfold svcToStation; simp (maxDischargeDepth := 20) [ho]

@[simp] theorem relayCycleStarts_sound {qs : List Instr} (s : State) (ho : Sound qs s) : Sound qs (relayCycleStarts s) := by
  unfold relayCycleStarts; simp (maxDischargeDepth := 20) [ho]

@[simp] theorem loadStations_sound {qs : List Instr} (n : Nat) (s : State) (ho : Sound qs s) : Sound qs (loadStations n s) := by
  unfold loadStations; simp (maxDischargeDepth := 20) [ho]

@[simp] theorem putStation_sound {qs : List Instr} (x : Station) (s : State) (ho : Sound qs s) : Sound qs (putStation x s) := by
  unfold putStation; simp (maxDischargeDepth := 20) [ho]

@[simp] theorem putQuality_sound {qs : List Instr} (x : Station) (s : State) (ho : Sound qs s) : Sound qs (putQuality x s) := by
  unfold putQuality; simp (maxDischargeDepth := 20) [ho]

@[simp] theorem stationWrite_sound {qs : List Instr} (x : Nat) (index sub : Nat) (data : List Byte) (s : State) (ho : Sound qs s) : Sound qs (stationWrite x index sub data s) := by
  unfold stationWrite; (try dsimp only); (repeat' split) <;> simp (maxDischargeDepth := 20) [*]

@[simp] theorem configure_sound {qs : List Instr} (x : Station) (s : State) (ho : Sound qs s) : Sound qs (configure x s) := by
  unfold configure; simp (maxDischargeDepth := 20) [ho]

@[simp] theorem becomePresent_sound {qs : List Instr} (x : Station) (s : State) (ho : Sound qs s) : Sound qs (becomePresent x s) := by
  unfold becomePresent; simp (maxDischargeDepth := 20) [ho]

@[simp] theorem becomeAbsent_sound {qs : List Instr} (x : Station) (s : State) (ho : Sound qs s) : Sound qs (becomeAbsent x s) := by
  unfold becomeAbsent; simp (maxDischargeDepth := 20) [ho]

@[simp] theorem becomeMismatch_sound {qs : List Instr} (x : Station) (s : State) (ho : Sound qs s) : Sound qs (becomeMismatch x s) := by
  unfold becomeMismatch; simp (maxDischargeDepth := 20) [ho]

@[simp] theorem raiseEpoch_sound {qs : List Instr} (reason : Nat) (s : State) (ho : Sound qs s) : Sound qs (raiseEpoch reason s) := by
  unfold raiseEpoch; simp (maxDischargeDepth := 20) [ho]

@[simp] theorem higherEpoch_sound {qs : List Instr} (e : Word) (path : Nat) (sender : List Byte) (s : State) (ho : Sound qs s) : Sound qs (higherEpoch e path sender s) := by
  unfold higherEpoch; (try dsimp only); (repeat' split) <;> simp (maxDischargeDepth := 20) [*]

@[simp] theorem topEpoch_sound {qs : List Instr} (n : Nat) (s : State) (ho : Sound qs s) : Sound qs (topEpoch n s) := by
  unfold topEpoch; simp (maxDischargeDepth := 20) [ho]

@[simp] theorem stationEpochs_sound {qs : List Instr} (n station : Nat) (e gate : Word) (path : Nat) (s : State) (ho : Sound qs s) : Sound qs (stationEpochs n station e gate path s).1 := by
  unfold stationEpochs; (try dsimp only); (repeat' split) <;> simp (maxDischargeDepth := 20) [*]

@[simp] theorem inputReports_sound {qs : List Instr} (old new : Station) (s : State) (ho : Sound qs s) : Sound qs (inputReports old new s) := by
  unfold inputReports; simp (maxDischargeDepth := 20) [ho]

@[simp] theorem putInput_sound {qs : List Instr} (x : Station) (p : InputP) (s : State) (ho : Sound qs s) : Sound qs (putInput x p s) := by
  unfold putInput; simp (maxDischargeDepth := 20) [ho]

@[simp] theorem acceptInput_sound {qs : List Instr} (n end_ : Nat) (lead : Bool) (h : FolHdr) (p : InputP) (s : State) (ho : Sound qs s) : Sound qs (acceptInput n end_ lead h p s) := by
  unfold acceptInput; (try dsimp only); (repeat' split) <;> simp (maxDischargeDepth := 20) [*]

@[simp] theorem rxInput_sound {qs : List Instr} (n : Nat) (end_ path : Nat) (own : Bool) (h : FolHdr) (p : InputP) (s : State) (ho : Sound qs s) : Sound qs (rxInput n end_ path own h p s) := by
  unfold rxInput; (try dsimp only); (repeat' split) <;> simp (maxDischargeDepth := 20) [*]

@[simp] theorem relayIn_sound {qs : List Instr} (n : Nat) (f : FolFrame) (s : State) (ho : Sound qs s) : Sound qs (relayIn n f s) := by
  unfold relayIn; simp (maxDischargeDepth := 20) [ho]

@[simp] theorem probe_sound {qs : List Instr} (x : Station) (e : Nat) (s : State) (ho : Sound qs s) : Sound qs (probe x e s) := by
  unfold probe; simp (maxDischargeDepth := 20) [ho]

@[simp] theorem probeAnswer_sound {qs : List Instr} (n station end_ : Nat) (epoch : Word) (roundTrip turnaround : Nat) (typeid : Word) (path : Nat) (s : State) (ho : Sound qs s) : Sound qs (probeAnswer n station end_ epoch roundTrip turnaround typeid path s) := by
  unfold probeAnswer; (try dsimp only); (repeat' split) <;> simp (maxDischargeDepth := 20) [*]

@[simp] theorem writeAnswer_sound {qs : List Instr} (n station : Nat) (epoch : Word) (tid : Byte) (code path : Nat) (s : State) (ho : Sound qs s) : Sound qs (writeAnswer n station epoch tid code path s) := by
  unfold writeAnswer; (try dsimp only); (repeat' split) <;> simp (maxDischargeDepth := 20) [*]

@[simp] theorem noteHyper_sound {qs : List Instr} (s : State) (ho : Sound qs s) : Sound qs (noteHyper s) := by
  unfold noteHyper; simp (maxDischargeDepth := 20) [ho]

@[simp] theorem wakeAll_sound {qs : List Instr} (n : Nat) (s : State) (ho : Sound qs s) : Sound qs (wakeAll n s) := by
  unfold wakeAll; simp +contextual (maxDischargeDepth := 20) [ho]

@[simp] theorem segCommand_sound {qs : List Instr} (n cmd session : Nat) (s : State) (ho : Sound qs s) : Sound qs (segCommand n cmd session s).1 := by
  unfold segCommand; (try dsimp only); (repeat' split) <;> simp +contextual (maxDischargeDepth := 20) [*]

@[simp] theorem segRunning_sound {qs : List Instr} (n : Nat) (s : State) (ho : Sound qs s) : Sound qs (segRunning n s) := by
  unfold segRunning; simp (maxDischargeDepth := 20) [ho]

@[simp] theorem stationBoundary_sound {qs : List Instr} (had : Bool) (s : State) (x : Station) (ho : Sound qs s) : Sound qs (stationBoundary had s x) := by
  unfold stationBoundary; simp (maxDischargeDepth := 20) [ho]

@[simp] theorem segBoundary_sound {qs : List Instr} (n : Nat) (s : State) (ho : Sound qs s) : Sound qs (segBoundary n s) := by
  unfold segBoundary; simp +contextual (maxDischargeDepth := 20) [ho]

@[simp] theorem emitCycleStart_sound {qs : List Instr} (n : Nat) (s : State) (ho : Sound qs s) : Sound qs (emitCycleStart n s) := by
  unfold emitCycleStart; split <;> simp (maxDischargeDepth := 20) [*]

@[simp] theorem emitStations_sound {qs : List Instr} (n flags oflags : Nat) (xs : List Station) (s : State) (ho : Sound qs s) : Sound qs (emitStations n flags oflags xs s) := by
  unfold emitStations; (try dsimp only); (repeat' split) <;> simp +contextual (maxDischargeDepth := 20) [*]

@[simp] theorem emitCommit_sound {qs : List Instr} (t : Nat) (s : State) (ho : Sound qs s) : Sound qs (emitCommit t s) := by
  unfold emitCommit; simp +contextual (maxDischargeDepth := 20) [ho]

@[simp] theorem emitOff_sound {qs : List Instr} (n : Nat) (s : State) (ho : Sound qs s) : Sound qs (emitOff n s) := by
  unfold emitOff; (try dsimp only); (repeat' split) <;> simp (maxDischargeDepth := 20) [*]

@[simp] theorem resend_sound {qs : List Instr} (s : State) (ho : Sound qs s) : Sound qs (resend s) := by
  unfold resend; simp +contextual (maxDischargeDepth := 20) [ho]

@[simp] theorem folRxRule_sound {qs : List Instr} (n : Nat) (f : FolFrame) (s : State) (ho : Sound qs s) : Sound qs (folRxRule n f s).1 := by
  unfold folRxRule; (try dsimp only); (repeat' split) <;> simp (maxDischargeDepth := 20) [*]

@[simp] theorem countRx_sound {qs : List Instr} (n : Nat) (s : State) (ho : Sound qs s) : Sound qs (countRx n s) := by
  unfold countRx; simp (maxDischargeDepth := 20) [ho]

@[simp] theorem countCrc_sound {qs : List Instr} (n station : Nat) (s : State) (ho : Sound qs s) : Sound qs (countCrc n station s) := by
  unfold countCrc; (try dsimp only); (repeat' split) <;> simp (maxDischargeDepth := 20) [*]

@[simp] theorem countOther_sound {qs : List Instr} (n : Nat) (s : State) (ho : Sound qs s) : Sound qs (countOther n s) := by
  unfold countOther; simp (maxDischargeDepth := 20) [ho]

@[simp] theorem moduleFrame_sound {qs : List Instr} (n : Nat) (f : FolFrame) (s : State) (ho : Sound qs s) : Sound qs (moduleFrame n f s) := by
  unfold moduleFrame; (try dsimp only); (repeat' split) <;> simp (maxDischargeDepth := 20) [*]

@[simp] theorem folRxBody_sound {qs : List Instr} (n : Nat) (f : FolFrame) (s : State) (ho : Sound qs s) : Sound qs (folRxBody n f s) := by
  unfold folRxBody; split <;> simp (maxDischargeDepth := 20) [*]

@[simp] theorem folRx_sound {qs : List Instr} (n : Nat) (f : FolFrame) (s : State) (ho : Sound qs s) : Sound qs (folRx n f s) := by
  unfold folRx; (try dsimp only); (repeat' split) <;> simp (maxDischargeDepth := 20) [*]

@[simp] theorem execPortUp_sound {qs : List Instr} (port : Nat) (s : State) (ho : Sound qs s) : Gives qs (execPortUp port s) := by
  unfold execPortUp; simp (maxDischargeDepth := 20) [ho]

@[simp] theorem execPortDown_sound {qs : List Instr} (port : Nat) (s : State) (ho : Sound qs s) : Gives qs (execPortDown port s) := by
  unfold execPortDown; simp (maxDischargeDepth := 20) [ho]

@[simp] theorem execSfpPoll_sound {qs : List Instr} (port : Nat) (r : SfpRead) (s : State) (ho : Sound qs s) : Gives qs (execSfpPoll port r s) := by
  unfold execSfpPoll; simp (maxDischargeDepth := 20) [ho]

@[simp] theorem execFolmonetFrameDiscard_sound {qs : List Instr} (port : Nat) (why : FolBad) (station : Nat) (s : State) (ho : Sound qs s) : Gives qs (execFolmonetFrameDiscard port why station s) := by
  unfold execFolmonetFrameDiscard; (try dsimp only); (repeat' split) <;> simp (maxDischargeDepth := 20) [*]

@[simp] theorem execStationInput_sound {qs : List Instr} (port : Nat) (h : FolHdr) (p : InputP) (s : State) (ho : Sound qs s) : Gives qs (execStationInput port h p s) := by
  unfold execStationInput; simp (maxDischargeDepth := 20) [ho]

@[simp] theorem execProbeResp_sound {qs : List Instr} (port : Nat) (r : ProbeResp) (s : State) (ho : Sound qs s) : Gives qs (execProbeResp port r s) := by
  unfold execProbeResp; simp (maxDischargeDepth := 20) [ho]

@[simp] theorem execContinuityLost_sound {qs : List Instr} (seg : Nat) (s : State) (ho : Sound qs s) : Gives qs (execContinuityLost seg s) := by
  unfold execContinuityLost; simp (maxDischargeDepth := 20) [ho]

@[simp] theorem execContinuityRestored_sound {qs : List Instr} (seg : Nat) (s : State) (ho : Sound qs s) : Gives qs (execContinuityRestored seg s) := by
  unfold execContinuityRestored; simp (maxDischargeDepth := 20) [ho]

@[simp] theorem execStationAbsent_sound {qs : List Instr} (station : Nat) (s : State) (ho : Sound qs s) : Gives qs (execStationAbsent station s) := by
  unfold execStationAbsent; split <;> simp (maxDischargeDepth := 20) [*]

@[simp] theorem execConfiguringTimeout_sound {qs : List Instr} (station : Nat) (s : State) (ho : Sound qs s) : Gives qs (execConfiguringTimeout station s) := by
  unfold execConfiguringTimeout; split <;> simp (maxDischargeDepth := 20) [*]

@[simp] theorem execStationProbeTimer_sound {qs : List Instr} (station : Nat) (s : State) (ho : Sound qs s) : Gives qs (execStationProbeTimer station s) := by
  unfold execStationProbeTimer; (try dsimp only); (repeat' split) <;> simp +contextual (maxDischargeDepth := 20) [*]

@[simp] theorem execProbingEnd_sound {qs : List Instr} (seg : Nat) (s : State) (ho : Sound qs s) : Gives qs (execProbingEnd seg s) := by
  unfold execProbingEnd; simp (maxDischargeDepth := 20) [ho]

@[simp] theorem execTimeFrameSend_sound {qs : List Instr} (port : Nat) (s : State) (ho : Sound qs s) : Gives qs (execTimeFrameSend port s) := by
  unfold execTimeFrameSend; simp +contextual (maxDischargeDepth := 20) [ho]

@[simp] theorem fptClear_sound {qs : List Instr} (port : Nat) (level : Level) (word : Word) (s : State) (ho : Sound qs s) : Sound qs (fptClear port level word s) := by
  unfold fptClear; simp (maxDischargeDepth := 20) [ho]

@[simp] theorem execFptClear_sound {qs : List Instr} (port : Nat) (level : Level) (word : Word) (s : State) (ho : Sound qs s) : Gives qs (execFptClear port level word s) := by
  unfold execFptClear; simp (maxDischargeDepth := 20) [ho]

@[simp] theorem execStationWriteResp_sound {qs : List Instr} (station : Nat) (epoch : Word) (tid : Byte) (abort : Half) (s : State) (ho : Sound qs s) : Gives qs (execStationWriteResp station epoch tid abort s) := by
  unfold execStationWriteResp; simp (maxDischargeDepth := 20) [ho]

@[simp] theorem execThroughCycleStart_sound {qs : List Instr} (port : Nat) (h : FolHdr) (s : State) (ho : Sound qs s) : Gives qs (execThroughCycleStart port h s) := by
  unfold execThroughCycleStart; simp (maxDischargeDepth := 20) [ho]

@[simp] theorem execStartWindowClose_sound {qs : List Instr} (seg : Nat) (s : State) (ho : Sound qs s) : Gives qs (execStartWindowClose seg s) := by
  unfold execStartWindowClose; split <;> simp (maxDischargeDepth := 20) [*]

@[simp] theorem noteDivergence_sound {qs : List Instr} (own peer : DigestP) (s : State) (ho : Sound qs s) : Sound qs (noteDivergence own peer s) := by
  unfold noteDivergence; simp (maxDischargeDepth := 20) [ho]

@[simp] theorem divergenceLimit_sound {qs : List Instr} (s : State) (ho : Sound qs s) : Sound qs (divergenceLimit s) := by
  unfold divergenceLimit; simp (maxDischargeDepth := 20) [ho]

@[simp] theorem diverge_sound {qs : List Instr} (own peer : DigestP) (s : State) (ho : Sound qs s) : Sound qs (diverge own peer s) := by
  unfold diverge; simp (maxDischargeDepth := 20) [ho]

@[simp] theorem clearDivergence_sound {qs : List Instr} (s : State) (ho : Sound qs s) : Sound qs (clearDivergence s) := by
  unfold clearDivergence; simp (maxDischargeDepth := 20) [ho]

/-- Arming and disarming a STANDBY. -/
theorem fromP_standby {s : State} {p : Pair} (hs : s.pair.role = .standby) (hd : p.driving = s.pair.driving) (ho : p.outEn = s.pair.outEn)
    (hr : p.role = s.pair.role) : FromP s p := by
  intro h
  refine ⟨fun k => ?_, by rw [ho, hd]; exact h.2, fun _ => Or.inr (hr.trans hs)⟩
  have := (h.1 (hd ▸ k)).1
  rw [hs] at this; cases this

@[simp] theorem becomeSynchronised_sound {qs : List Instr} (s : State) (ho : Sound qs s) : Sound qs (becomeSynchronised s) := by
  unfold becomeSynchronised
  split
  · rename_i h
    exact svnAuto_sound _ (post_sound _ _ _ _ (fluInt_sound _ _
      (sound_change ho (from_mem s) (fromE_same rfl) (fromG_same rfl rfl) (fromC_same rfl rfl rfl) (fromP_standby h.1 rfl rfl rfl))))
  · exact ho

@[simp] theorem agree_sound {qs : List Instr} (s : State) (ho : Sound qs s) : Sound qs (agree s) := by
  unfold agree; simp (maxDischargeDepth := 20) [ho]

@[simp] theorem compareDigests_sound {qs : List Instr} (own peer : DigestP) (s : State) (ho : Sound qs s) : Sound qs (compareDigests own peer s) := by
  unfold compareDigests; simp (maxDischargeDepth := 20) [ho]

@[simp] theorem ownDigest_sound {qs : List Instr} (p : DigestP) (s : State) (ho : Sound qs s) : Sound qs (ownDigest p s) := by
  unfold ownDigest; split <;> simp (maxDischargeDepth := 20) [*]

@[simp] theorem settleDigests_sound {qs : List Instr} (s : State) (ho : Sound qs s) : Sound qs (settleDigests s) := by
  unfold settleDigests
  refine sound_foldl (fun s x ho => ?_) _ ho
  (repeat' split) <;> simp (maxDischargeDepth := 20) [ho]

@[simp] theorem digestMissed_sound {qs : List Instr} (t : Nat) (s : State) (ho : Sound qs s) : Sound qs (digestMissed t s) := by
  unfold digestMissed; split <;> simp (maxDischargeDepth := 20) [*]

@[simp] theorem lagged_sound {qs : List Instr} (s : State) (ho : Sound qs s) : Sound qs (lagged s) := by
  unfold lagged; simp (maxDischargeDepth := 20) [ho]

@[simp] theorem handCommit_sound {qs : List Instr} (t : Nat) (s : State) (ho : Sound qs s) : Sound qs (handCommit t s) := by
  unfold handCommit; simp (maxDischargeDepth := 20) [ho]

@[simp] theorem partnerOutcome_sound {qs : List Instr} (p : DigestP) (s : State) (ho : Sound qs s) : Sound qs (partnerOutcome p s) := by
  unfold partnerOutcome; simp (maxDischargeDepth := 20) [ho]

@[simp] theorem onDigest_sound {qs : List Instr} (p : DigestP) (s : State) (ho : Sound qs s) : Sound qs (onDigest p s) := by
  unfold onDigest; (try dsimp only); (repeat' split) <;> simp (maxDischargeDepth := 20) [*]

@[simp] theorem takeRuntimeBlock_sound {qs : List Instr} (s : State) (ho : Sound qs s) : Sound qs (takeRuntimeBlock s) := by
  unfold takeRuntimeBlock; simp (maxDischargeDepth := 20) [ho]

@[simp] theorem sendPage_sound {qs : List Instr} (s : State) (p : Nat) (ho : Sound qs s) : Sound qs (sendPage s p) := by
  unfold sendPage; simp (maxDischargeDepth := 20) [ho]

@[simp] theorem sendPages_sound {qs : List Instr} (ps : List Nat) (s : State) (ho : Sound qs s) : Sound qs (sendPages ps s) := by
  unfold sendPages; simp +contextual (maxDischargeDepth := 20) [ho]

@[simp] theorem setResync_sound {qs : List Instr} (f : Resync → Resync) (s : State) (ho : Sound qs s) : Sound qs (setResync f s) := by
  unfold setResync; simp (maxDischargeDepth := 20) [ho]

@[simp] theorem sendCtrl_sound {qs : List Instr} (phase task : Nat) (arg : Word) (s : State) (ho : Sound qs s) : Sound qs (sendCtrl phase task arg s) := by
  unfold sendCtrl; simp (maxDischargeDepth := 20) [ho]

@[simp] theorem beginBulk_sound {qs : List Instr} (s : State) (ho : Sound qs s) : Sound qs (beginBulk s) := by
  unfold beginBulk; simp (maxDischargeDepth := 20) [ho]

@[simp] theorem markSet_sound {qs : List Instr} (task : Nat) (s : State) (ho : Sound qs s) : Sound qs (markSet task s) := by
  unfold markSet; simp (maxDischargeDepth := 20) [ho]

@[simp] theorem closing_sound {qs : List Instr} (s : State) (ho : Sound qs s) : Sound qs (closing s) := by
  unfold closing; simp (maxDischargeDepth := 20) [ho]

@[simp] theorem trailTask_sound {qs : List Instr} (t : Nat) (s : State) (ho : Sound qs s) : Sound qs (trailTask t s) := by
  unfold trailTask; simp (maxDischargeDepth := 20) [ho]

@[simp] theorem beginTwin_sound {qs : List Instr} (t : Nat) (s : State) (ho : Sound qs s) : Sound qs (beginTwin t s) := by
  unfold beginTwin; simp (maxDischargeDepth := 20) [ho]

@[simp] theorem resyncBeat_sound {qs : List Instr} (s : State) (ho : Sound qs s) : Sound qs (resyncBeat s) := by
  unfold resyncBeat; (try dsimp only); (repeat' split) <;> simp (maxDischargeDepth := 20) [*]

@[simp] theorem answerSet_sound {qs : List Instr} (m : Nat × Word) (s : State) (ho : Sound qs s) : Sound qs (answerSet m s) := by
  unfold answerSet; simp (maxDischargeDepth := 20) [ho]

@[simp] theorem answerSets_sound {qs : List Instr} (s : State) (ho : Sound qs s) : Sound qs (answerSets s) := by
  unfold answerSets; simp +contextual (maxDischargeDepth := 20) [ho]

@[simp] theorem onResyncData_sound {qs : List Instr} (p : ResyncDataP) (s : State) (ho : Sound qs s) : Sound qs (onResyncData p s) := by
  unfold onResyncData
  split
  · exact ho
  · rename_i h
    have hs : s.pair.role = .standby := Decidable.byContradiction fun k => h (Or.inl k)
    have k : Sound qs (if s.flu.resync.phase ≤ 1 then
        setResync (fun r => { r with phase := 2, since := s.now }) { s with pair := { s.pair with armed := false } } else s) := by
      split
      · exact setResync_sound _ _ (sound_change ho (from_mem s) (fromE_same rfl) (fromG_same rfl rfl) (fromC_same rfl rfl rfl) (fromP_standby hs rfl rfl rfl))
      · exact ho
    exact answerSets_sound _ (sound_mem k (from_writeBytes (from_mem _) _ _))

@[simp] theorem closingBegins_sound {qs : List Instr} (task : Nat) (s : State) (ho : Sound qs s) : Sound qs (closingBegins task s) := by
  unfold closingBegins; simp (maxDischargeDepth := 20) [ho]

@[simp] theorem onResyncCtrl_sound {qs : List Instr} (p : ResyncCtrlP) (s : State) (ho : Sound qs s) : Sound qs (onResyncCtrl p s) := by
  unfold onResyncCtrl; simp (maxDischargeDepth := 20) [ho]

@[simp] theorem endResync_sound {qs : List Instr} (s : State) (ho : Sound qs s) : Sound qs (endResync s) := by
  unfold endResync; simp (maxDischargeDepth := 20) [ho]

@[simp] theorem drainEvents_sound {qs : List Instr} (s : State) (ho : Sound qs s) : Sound qs (drainEvents s) :=
  sound_foldl (fun s r h => writeEvent_sound r s h) _ (sound_evr ho (fromE_nil rfl))

@[simp] theorem selfTestDone_sound {qs : List Instr} (passed : Bool) (s : State) (ho : Sound qs s) : Sound qs (selfTestDone passed s) := by
  unfold selfTestDone; simp (maxDischargeDepth := 20) [ho]

@[simp] theorem execImageLagTimeout_sound {qs : List Instr} (task : Nat) (s : State) (ho : Sound qs s) : Gives qs (execImageLagTimeout task s) := by
  unfold execImageLagTimeout; simp (maxDischargeDepth := 20) [ho]

@[simp] theorem execInstanceLagTimeout_sound {qs : List Instr} (task : Nat) (s : State) (ho : Sound qs s) : Gives qs (execInstanceLagTimeout task s) := by
  unfold execInstanceLagTimeout; simp (maxDischargeDepth := 20) [ho]

@[simp] theorem execDigestMissed_sound {qs : List Instr} (task : Nat) (s : State) (ho : Sound qs s) : Gives qs (execDigestMissed task s) := by
  unfold execDigestMissed; simp (maxDischargeDepth := 20) [ho]

@[simp] theorem execSelfTestDone_sound {qs : List Instr} (passed : Bool) (s : State) (ho : Sound qs s) : Gives qs (execSelfTestDone passed s) := by
  unfold execSelfTestDone; simp (maxDischargeDepth := 20) [ho]

@[simp] theorem execAlignmentLost_sound {qs : List Instr} (s : State) (ho : Sound qs s) : Gives qs (execAlignmentLost s) := by
  unfold execAlignmentLost; simp (maxDischargeDepth := 20) [ho]

@[simp] theorem execResyncBulkDone_sound {qs : List Instr} (s : State) (ho : Sound qs s) : Gives qs (execResyncBulkDone s) := by
  unfold execResyncBulkDone; simp (maxDischargeDepth := 20) [ho]

@[simp] theorem execResyncNotConverging_sound {qs : List Instr} (s : State) (ho : Sound qs s) : Gives qs (execResyncNotConverging s) := by
  unfold execResyncNotConverging; simp (maxDischargeDepth := 20) [ho]

@[simp] theorem fluClear_sound {qs : List Instr} (word : Word) (s : State) (ho : Sound qs s) : Sound qs (fluClear word s) := by
  unfold fluClear; simp (maxDischargeDepth := 20) [ho]

@[simp] theorem execFluClearLanes_sound {qs : List Instr} (level : Level) (s : State) (ho : Sound qs s) : Gives qs (execFluClearLanes level s) := by
  unfold execFluClearLanes; simp (maxDischargeDepth := 20) [ho]

@[simp] theorem execFluClearPeaks_sound {qs : List Instr} (level : Level) (s : State) (ho : Sound qs s) : Gives qs (execFluClearPeaks level s) := by
  unfold execFluClearPeaks; simp (maxDischargeDepth := 20) [ho]

@[simp] theorem cycPost_sound {qs : List Instr} (code : Nat) (data : List Byte) (s : State) (ho : Sound qs s) : Sound qs (cycPost code data s) := by
  unfold cycPost; simp (maxDischargeDepth := 20) [ho]

@[simp] theorem startTask_sound {qs : List Instr} (s : State) (t : Nat) (ho : Sound qs s) : Sound qs (startTask s t) := by
  unfold startTask; simp (maxDischargeDepth := 20) [ho]

@[simp] theorem latchPages_sound {qs : List Instr} (t : Nat) (s : State) (ho : Sound qs s) : Sound qs (latchPages t s) := by
  unfold latchPages; simp +contextual (maxDischargeDepth := 20) [ho]

@[simp] theorem updateImage_sound {qs : List Instr} (t : Nat) (s : State) (ho : Sound qs s) : Sound qs (updateImage t s).1 := by
  unfold updateImage
  dsimp only
  refine carryWrites_sound _ _ ?_
  have k : ∀ (xs : List Nat) (a : State × List Nat × List Nat), Sound qs a.1 → Sound qs (xs.foldl fireOne a).1 := by
    intro xs
    induction xs with
    | nil => exact fun a h => h
    | cons x xs ih => exact fun a h => ih _ (fireOne_sound a x h)
  exact k _ _ (by simp (maxDischargeDepth := 20) [ho])

@[simp] theorem inputLatch_sound {qs : List Instr} (t : Nat) (s : State) (ho : Sound qs s) : Sound qs (inputLatch t s) := by
  unfold inputLatch; simp +contextual (maxDischargeDepth := 20) [ho]

@[simp] theorem takeSection_sound {qs : List Instr} (t : Nat) (s : State) (x : Nat × List Byte) (ho : Sound qs s) : Sound qs (takeSection t s x) := by
  unfold takeSection; (try dsimp only); (repeat' split) <;> simp +contextual (maxDischargeDepth := 20) [*]

@[simp] theorem followTwin_sound {qs : List Instr} (t : Nat) (s : State) (ho : Sound qs s) : Sound qs (followTwin t s) := by
  unfold followTwin; simp (maxDischargeDepth := 20) [ho]

@[simp] theorem earlyOutcome_sound {qs : List Instr} (t : Nat) (s : State) (ho : Sound qs s) : Sound qs (earlyOutcome t s) := by
  unfold earlyOutcome; split <;> simp (maxDischargeDepth := 20) [*]

@[simp] theorem imageRelease_sound {qs : List Instr} (a : Assembly) (s : State) (ho : Sound qs s) : Sound qs (imageRelease a s) := by
  unfold imageRelease; simp +contextual (maxDischargeDepth := 20) [ho]

@[simp] theorem releaseImages_sound {qs : List Instr} (n : Nat) (s : State) (ho : Sound qs s) : Sound qs (releaseImages n s) := by
  induction n generalizing s with
  | zero => exact ho
  | succ n ih =>
    unfold releaseImages
    split
    · exact ih _ (by simp (maxDischargeDepth := 20) [ho])
    · exact ho

@[simp] theorem onImage_sound {qs : List Instr} (p : ImageP) (s : State) (ho : Sound qs s) : Sound qs (onImage p s) := by
  unfold onImage; simp (maxDischargeDepth := 20) [ho]

@[simp] theorem checkRunning_sound {qs : List Instr} (s : State) (ho : Sound qs s) : Sound qs (checkRunning s) := by
  unfold checkRunning; simp (maxDischargeDepth := 20) [ho]

@[simp] theorem afterEnd_sound {qs : List Instr} (t : Nat) (s : State) (ho : Sound qs s) : Sound qs (afterEnd t s) := by
  unfold afterEnd; simp (maxDischargeDepth := 20) [ho]

@[simp] theorem trapEnd_sound {qs : List Instr} (t : Nat) (s : State) (ho : Sound qs s) : Sound qs (trapEnd t s) := by
  unfold trapEnd; simp (maxDischargeDepth := 20) [ho]

@[simp] theorem threadTrap_sound {qs : List Instr} (core t : Nat) (s : State) (ho : Sound qs s) : Sound qs (threadTrap core t s) := by
  unfold threadTrap; simp (maxDischargeDepth := 20) [ho]

@[simp] theorem commitPages_sound {qs : List Instr} (t : Nat) (s : State) (ho : Sound qs s) : Sound qs (commitPages t s) := by
  unfold commitPages; simp +contextual (maxDischargeDepth := 20) [ho]

@[simp] theorem beginCommit_sound {qs : List Instr} (t : Nat) (s : State) (ho : Sound qs s) : Sound qs (beginCommit t s) := by
  unfold beginCommit; simp (maxDischargeDepth := 20) [ho]

@[simp] theorem threadDone_sound {qs : List Instr} (core t : Nat) (ds : List Delta) (s : State) (ho : Sound qs s) : Sound qs (threadDone core t ds s) := by
  unfold threadDone; simp (maxDischargeDepth := 20) [ho]

@[simp] theorem handOver_sound {qs : List Instr} (t : Nat) (s : State) (ho : Sound qs s) : Sound qs (handOver t s) := by
  unfold handOver; (try dsimp only); (repeat' split) <;> simp (maxDischargeDepth := 20) [*]

@[simp] theorem commitComplete_sound {qs : List Instr} (t : Nat) (s : State) (ho : Sound qs s) : Sound qs (commitComplete t s) := by
  unfold commitComplete; (try dsimp only); (repeat' split) <;> simp (maxDischargeDepth := 20) [*]

@[simp] theorem noteMiss_sound {qs : List Instr} (t : Nat) (s : State) (ho : Sound qs s) : Sound qs (noteMiss t s) := by
  unfold noteMiss; simp (maxDischargeDepth := 20) [ho]

@[simp] theorem deadlineMiss_sound {qs : List Instr} (t : Nat) (s : State) (ho : Sound qs s) : Sound qs (deadlineMiss t s) := by
  unfold deadlineMiss; (try dsimp only); (repeat' split) <;> simp (maxDischargeDepth := 20) [*]

@[simp] theorem skipLimit_sound {qs : List Instr} (t : Nat) (s : State) (ho : Sound qs s) : Sound qs (skipLimit t s) := by
  unfold skipLimit; simp (maxDischargeDepth := 20) [ho]

@[simp] theorem cmdRefused_sound {qs : List Instr} (cmd code : Nat) (s : State) (ho : Sound qs s) : Sound qs (cmdRefused cmd code s).1 := by
  unfold cmdRefused; simp (maxDischargeDepth := 20) [ho]

@[simp] theorem cmdTaken_sound {qs : List Instr} (cmd : Nat) (s : State) (ho : Sound qs s) : Sound qs (cmdTaken cmd s) := by
  unfold cmdTaken; simp (maxDischargeDepth := 20) [ho]

@[simp] theorem programCommand_sound {qs : List Instr} (cmd session : Nat) (s : State) (ho : Sound qs s) : Sound qs (programCommand cmd session s).1 := by
  unfold programCommand; (try dsimp only); (repeat' split) <;> simp (maxDischargeDepth := 20) [*]

@[simp] theorem stopAll_sound {qs : List Instr} (s : State) (ho : Sound qs s) : Sound qs (stopAll s) := by
  unfold stopAll; simp +contextual (maxDischargeDepth := 20) [ho]

@[simp] theorem programStopped_sound {qs : List Instr} (s : State) (ho : Sound qs s) : Sound qs (programStopped s) := by
  unfold programStopped; simp (maxDischargeDepth := 20) [ho]

@[simp] theorem stopBeat_sound {qs : List Instr} (s : State) (ho : Sound qs s) : Sound qs (stopBeat s) := by
  unfold stopBeat; simp (maxDischargeDepth := 20) [ho]

@[simp] theorem restartImages_sound {qs : List Instr} (s : State) (ho : Sound qs s) : Sound qs (restartImages s) := by
  unfold restartImages; simp (maxDischargeDepth := 20) [ho]

@[simp] theorem restartTasks_sound {qs : List Instr} (s : State) (ho : Sound qs s) : Sound qs (restartTasks s) := by
  unfold restartTasks; simp (maxDischargeDepth := 20) [ho]

@[simp] theorem restartBegin_sound {qs : List Instr} (r : Restart) (s : State) (ho : Sound qs s) : Sound qs (restartBegin r s) := by
  unfold restartBegin; simp (maxDischargeDepth := 20) [ho]

@[simp] theorem nameB0_sound {qs : List Instr} (s : State) (ho : Sound qs s) : Sound qs (nameB0 s) := by
  unfold nameB0; split <;> simp (maxDischargeDepth := 20) [*]

@[simp] theorem from_initData {s : State} {m : Memory} (p : Prog) (o : Nat) (h : From s m) : From s (initData p o m) := by
  unfold initData; simp [h]

@[simp] theorem restartInit_sound {qs : List Instr} (s : State) (ho : Sound qs s) : Sound qs (restartInit s) := by
  unfold restartInit
  split
  · rename_i r p _ _
    have k := replay_sound { s with mem := initData p p.retLen s.mem } (sound_mem ho (from_initData p _ (from_mem s)))
    generalize replay { s with mem := initData p p.retLen s.mem } = x at k
    obtain ⟨t, b⟩ := x
    dsimp only at k ⊢
    have k0 : From s (initData p 0 s.mem) := from_initData p 0 (from_mem s)
    (repeat' split) <;> first | exact ho | (simp (maxDischargeDepth := 20) [ho, k, k0]; done)
  · exact ho

@[simp] theorem restartSnap_sound {qs : List Instr} (s : State) (ho : Sound qs s) : Sound qs (restartSnap s) := by
  unfold restartSnap; split <;> simp (maxDischargeDepth := 20) [*]

@[simp] theorem restartBeat_sound {qs : List Instr} (s : State) (ho : Sound qs s) : Sound qs (restartBeat s) := by
  unfold restartBeat; (try dsimp only); (repeat' split) <;> simp (maxDischargeDepth := 20) [*]

@[simp] theorem startProgram_sound {qs : List Instr} (mode : Nat) (s : State) (ho : Sound qs s) : Sound qs (startProgram mode s) := by
  unfold startProgram; split <;> simp (maxDischargeDepth := 20) [*]

@[simp] theorem setEnable_sound {qs : List Instr} (t : Nat) (on : Bool) (s : State) (ho : Sound qs s) : Sound qs (setEnable t on s) := by
  unfold setEnable; simp (maxDischargeDepth := 20) [ho]

@[simp] theorem taskEntry_sound {qs : List Instr} (t sub v : Nat) (s : State) (ho : Sound qs s) : Sound qs (taskEntry t sub v s) := by
  unfold taskEntry; (try dsimp only); (repeat' split) <;> simp (maxDischargeDepth := 20) [*]

@[simp] theorem placeProgram_sound {qs : List Instr} (b : List Byte) (s : State) (ho : Sound qs s) : Sound qs (placeProgram b s) := by
  unfold placeProgram; simp +contextual (maxDischargeDepth := 20) [ho]

@[simp] theorem programLoad_sound {qs : List Instr} (b : List Byte) (s : State) (ho : Sound qs s) : Sound qs (programLoad b s) := by
  unfold programLoad; simp (maxDischargeDepth := 20) [ho]

@[simp] theorem execBeatBoundaryLate_sound {qs : List Instr} (s : State) (ho : Sound qs s) : Gives qs (execBeatBoundaryLate s) := by
  unfold execBeatBoundaryLate; simp (maxDischargeDepth := 20) [ho]

@[simp] theorem execInputLatch_sound {qs : List Instr} (task : Nat) (s : State) (ho : Sound qs s) : Gives qs (execInputLatch task s) := by
  unfold execInputLatch; simp (maxDischargeDepth := 20) [ho]

@[simp] theorem cycDone_sound {qs : List Instr} (core : Nat) (level : Level) (word : Word) (ds : List Delta) (s : State) (ho : Sound qs s) : Sound qs (cycDone core level word ds s) := by
  unfold cycDone; simp (maxDischargeDepth := 20) [ho]

@[simp] theorem execCycDone_sound {qs : List Instr} (core : Nat) (level : Level) (word : Word) (deltas : List Delta) (s : State) (ho : Sound qs s) : Gives qs (execCycDone core level word deltas s) := by
  unfold execCycDone; simp (maxDischargeDepth := 20) [ho]

@[simp] theorem execTaskTrap_sound {qs : List Instr} (core : Nat) (level : Level) (task : Nat) (s : State) (ho : Sound qs s) : Gives qs (execTaskTrap core level task s) := by
  unfold execTaskTrap; simp (maxDischargeDepth := 20) [ho]

@[simp] theorem execTrapStopComplete_sound {qs : List Instr} (task : Nat) (s : State) (ho : Sound qs s) : Gives qs (execTrapStopComplete task s) := by
  unfold execTrapStopComplete; simp (maxDischargeDepth := 20) [ho]

@[simp] theorem execCommitComplete_sound {qs : List Instr} (task : Nat) (s : State) (ho : Sound qs s) : Gives qs (execCommitComplete task s) := by
  unfold execCommitComplete; simp (maxDischargeDepth := 20) [ho]

@[simp] theorem execEmitoffEmission_sound {qs : List Instr} (seg : Nat) (s : State) (ho : Sound qs s) : Gives qs (execEmitoffEmission seg s) := by
  unfold execEmitoffEmission; simp (maxDischargeDepth := 20) [ho]

@[simp] theorem execDeadlineMiss_sound {qs : List Instr} (task : Nat) (s : State) (ho : Sound qs s) : Gives qs (execDeadlineMiss task s) := by
  unfold execDeadlineMiss; simp (maxDischargeDepth := 20) [ho]

@[simp] theorem execSkipLimit_sound {qs : List Instr} (task : Nat) (s : State) (ho : Sound qs s) : Gives qs (execSkipLimit task s) := by
  unfold execSkipLimit; simp (maxDischargeDepth := 20) [ho]

@[simp] theorem faultClear_sound {qs : List Instr} (level : Level) (tasks : BitVec 16) (events : DWord) (s : State) (ho : Sound qs s) : Sound qs (faultClear level tasks events s) := by
  unfold faultClear; simp +contextual (maxDischargeDepth := 20) [ho]

@[simp] theorem execCycFaultClear_sound {qs : List Instr} (level : Level) (tasks : BitVec 16) (events : DWord) (s : State) (ho : Sound qs s) : Gives qs (execCycFaultClear level tasks events s) := by
  unfold execCycFaultClear; simp (maxDischargeDepth := 20) [ho]

@[simp] theorem cycWdog_sound {qs : List Instr} (core : Nat) (level : Level) (word : Word) (s : State) (ho : Sound qs s) : Sound qs (cycWdog core level word s) := by
  unfold cycWdog; simp (maxDischargeDepth := 20) [ho]

@[simp] theorem execCycWdog_sound {qs : List Instr} (core : Nat) (level : Level) (word : Word) (s : State) (ho : Sound qs s) : Gives qs (execCycWdog core level word s) := by
  unfold execCycWdog; simp (maxDischargeDepth := 20) [ho]

@[simp] theorem execRuntimeWatchdogExpiry_sound {qs : List Instr} (s : State) (ho : Sound qs s) : Gives qs (execRuntimeWatchdogExpiry s) := by
  unfold execRuntimeWatchdogExpiry; simp (maxDischargeDepth := 20) [ho]

@[simp] theorem execRickWatchdogExpiry_sound {qs : List Instr} (s : State) (ho : Sound qs s) : Gives qs (execRickWatchdogExpiry s) := by
  unfold execRickWatchdogExpiry; simp (maxDischargeDepth := 20) [ho]

@[simp] theorem execRestartInitDone_sound {qs : List Instr} (s : State) (ho : Sound qs s) : Gives qs (execRestartInitDone s) := by
  unfold execRestartInitDone; simp (maxDischargeDepth := 20) [ho]

@[simp] theorem execColdSnapshotDurable_sound {qs : List Instr} (s : State) (ho : Sound qs s) : Gives qs (execColdSnapshotDurable s) := by
  unfold execColdSnapshotDurable; simp (maxDischargeDepth := 20) [ho]

@[simp] theorem execProgramLoad_sound {qs : List Instr} (image : List Byte) (s : State) (ho : Sound qs s) : Gives qs (execProgramLoad image s) := by
  unfold execProgramLoad; simp (maxDischargeDepth := 20) [ho]

end Sys2Proof.Laws
end

