-- ==== Sys2Proof/Laws/SoundPair.lean ====
section
/-!
SUPPORT. Every operation of the pair, restarts, updates, the object store and the sessions keeps what `Sound` says: the queue as it is, the memory in
canonical form, at most 64 records in the recorder's queue, MOPEN never back once it was cleared.
-/

namespace Sys2Proof.Laws

open Sys2Proof Sys2Proof.Machine

@[simp] theorem setPeer_driving (p : Pair) (x : Slot) (q : Peer) : (setPeer p x q).driving = p.driving := by cases x <;> rfl
@[simp] theorem setPeer_outEn (p : Pair) (x : Slot) (q : Peer) : (setPeer p x q).outEn = p.outEn := by cases x <;> rfl
@[simp] theorem setPeer_armed (p : Pair) (x : Slot) (q : Peer) : (setPeer p x q).armed = p.armed := by cases x <;> rfl
@[simp] theorem setPeer_role (p : Pair) (x : Slot) (q : Peer) : (setPeer p x q).role = p.role := by cases x <;> rfl

/-- Arming in a role that executes. -/
theorem fromP_arm {s : State} {p : Pair} (hr : s.pair.role = .active ∨ s.pair.role = .standby) (hd : p.driving = s.pair.driving)
    (ho : p.outEn = s.pair.outEn) (ha : p.armed = true) (he : p.role = s.pair.role) : FromP s p := fun h =>
  ⟨fun k => ⟨he.trans (h.1 (hd ▸ k)).1, ha⟩, by rw [ho, hd]; exact h.2, fun _ => by rw [he]; exact hr⟩

theorem setRole_active (sub : Sub) (s : State) : (setRole .active sub s).pair.role = .active := rfl

@[simp] theorem pairPost_sound {qs : List Instr} (code : Nat) (data : List Byte) (s : State) (ho : Sound qs s) : Sound qs (pairPost code data s) := by
  unfold pairPost; simp (maxDischargeDepth := 20) [ho]

@[simp] theorem gateOutputs_sound {qs : List Instr} (s : State) (ho : Sound qs s) : Sound qs (gateOutputs s) := by
  exact sound_change ho (from_mem s) (fromE_same rfl) (fromG_same rfl rfl) (fromC_same rfl rfl rfl) (fun h => ⟨h.1, by simp +contextual, h.3⟩)

@[simp] theorem tellTakeover_sound {qs : List Instr} (s : State) (ho : Sound qs s) : Sound qs (tellTakeover s) := by
  unfold tellTakeover; split <;> simp (maxDischargeDepth := 20) [*]

@[simp] theorem takeoverLate_sound {qs : List Instr} (s : State) (ho : Sound qs s) : Sound qs (takeoverLate s) := by
  unfold takeoverLate; split <;> simp (maxDischargeDepth := 20) [*]

@[simp] theorem notePeerId_sound {qs : List Instr} (x : Slot) (compat : Half) (lid lcfg : List Byte) (s : State) (ho : Sound qs s) : Sound qs (notePeerId x compat lid lcfg s) := by
  unfold notePeerId; simp (maxDischargeDepth := 20) [ho]

@[simp] theorem sendOwnId_sound {qs : List Instr} (x : Slot) (s : State) (ho : Sound qs s) : Sound qs (sendOwnId x s) := by
  unfold sendOwnId; simp (maxDischargeDepth := 20) [ho]

@[simp] theorem sendJoin_sound {qs : List Instr} (s : State) (ho : Sound qs s) : Sound qs (sendJoin s) := by
  unfold sendJoin; split <;> simp (maxDischargeDepth := 20) [*]

@[simp] theorem enterStandby_sound {qs : List Instr} (s : State) (ho : Sound qs s) : Sound qs (enterStandby s) := by
  unfold enterStandby; simp (maxDischargeDepth := 20) [ho]

@[simp] theorem bank_sound {qs : List Instr} (s : State) (ho : Sound qs s) : Sound qs (bank s) := by
  unfold bank; simp (maxDischargeDepth := 20) [ho]

@[simp] theorem enterReserve_sound {qs : List Instr} (s : State) (ho : Sound qs s) : Sound qs (enterReserve s) := by
  unfold enterReserve; simp (maxDischargeDepth := 20) [ho]

@[simp] theorem tryJoin_sound {qs : List Instr} (s : State) (ho : Sound qs s) : Sound qs (tryJoin s) := by
  unfold tryJoin; simp (maxDischargeDepth := 20) [ho]

@[simp] theorem probeAll_sound {qs : List Instr} (n : Nat) (s : State) (ho : Sound qs s) : Sound qs (probeAll n s) := by
  unfold probeAll; (try dsimp only); (repeat' split) <;> simp +contextual (maxDischargeDepth := 20) [*]

@[simp] theorem openWindows_sound {qs : List Instr} (s : State) (ho : Sound qs s) : Sound qs (openWindows s) := by
  unfold openWindows; simp +contextual (maxDischargeDepth := 20) [ho]

@[simp] theorem startAlone_sound {qs : List Instr} (s : State) (ho : Sound qs s) : Sound qs (startAlone s) := by
  unfold startAlone
  split
  · exact ho
  · split
    · exact pairPost_sound _ _ s ho
    · exact svnAuto_sound _ (startProgram_sound _ _ (openWindows_sound _ (openOutputs_sound _ (takeEpoch_sound _ _ _ _
        (sound_change (setRole_sound _ _ s ho) (from_mem _) (fromE_same rfl) (fromG_same rfl rfl) (fromC_same rfl rfl rfl)
          (fromP_arm (Or.inl (setRole_active .none s)) rfl rfl rfl rfl))))))

@[simp] theorem takeoverWrites_sound {qs : List Instr} (s : State) (ho : Sound qs s) : Sound qs (takeoverWrites s) := by
  unfold takeoverWrites; simp (maxDischargeDepth := 20) [ho]

@[simp] theorem rebuildToken_sound {qs : List Instr} (byCmd : Bool) (s : State) (ho : Sound qs s) : Sound qs (rebuildToken byCmd s) := by
  unfold rebuildToken; simp (maxDischargeDepth := 20) [ho]

@[simp] theorem catchUp_sound {qs : List Instr} (s : State) (ho : Sound qs s) : Sound qs (catchUp s) := by
  unfold catchUp; simp +contextual (maxDischargeDepth := 20) [ho]

@[simp] theorem handWaiting_sound {qs : List Instr} (s : State) (ho : Sound qs s) : Sound qs (handWaiting s) := by
  unfold handWaiting; simp +contextual (maxDischargeDepth := 20) [ho]

@[simp] theorem releaseHeard_sound {qs : List Instr} (s : State) (ho : Sound qs s) : Sound qs (releaseHeard s) := by
  unfold releaseHeard; simp +contextual (maxDischargeDepth := 20) [ho]

@[simp] theorem warmTakeover_sound {qs : List Instr} (s : State) (ho : Sound qs s) : Sound qs (warmTakeover s) := by
  unfold warmTakeover; simp (maxDischargeDepth := 20) [ho]

@[simp] theorem takeoverCommon_sound {qs : List Instr} (s : State) (ho : Sound qs s) : Sound qs (takeoverCommon s) := by
  unfold takeoverCommon; simp (maxDischargeDepth := 20) [ho]

@[simp] theorem takeOver_sound {qs : List Instr} (lost : Slot) (at_ : Nat) (s : State) (ho : Sound qs s) : Sound qs (takeOver lost at_ s) := by
  unfold takeOver; simp (maxDischargeDepth := 20) [ho]

@[simp] theorem switchOver_sound {qs : List Instr} (old : Slot) (epoch : Word) (s : State) (ho : Sound qs s) : Sound qs (switchOver old epoch s) := by
  unfold switchOver; simp (maxDischargeDepth := 20) [ho]

@[simp] theorem standbyLoss_sound {qs : List Instr} (x : Slot) (s : State) (ho : Sound qs s) : Sound qs (standbyLoss x s) := by
  unfold standbyLoss; (try dsimp only); (repeat' split) <;> simp (maxDischargeDepth := 20) [*]

@[simp] theorem damperToggling_sound {qs : List Instr} (x : Slot) (s : State) (ho : Sound qs s) : Sound qs (damperToggling x s) := by
  unfold damperToggling; simp (maxDischargeDepth := 20) [ho]

@[simp] theorem damperLost_sound {qs : List Instr} (x : Slot) (s : State) (ho : Sound qs s) : Sound qs (damperLost x s) := by
  unfold damperLost; simp (maxDischargeDepth := 20) [ho]

@[simp] theorem damperEdge_sound {qs : List Instr} (x : Slot) (ns : Nat) (s : State) (ho : Sound qs s) : Sound qs (damperEdge x ns s) := by
  unfold damperEdge; simp (maxDischargeDepth := 20) [ho]

@[simp] theorem foreignFence_sound {qs : List Instr} (s : State) (ho : Sound qs s) : Sound qs (foreignFence s) := by
  unfold foreignFence; split <;> simp (maxDischargeDepth := 20) [*]

@[simp] theorem roleMismatch_sound {qs : List Instr} (x : Slot) (s : State) (ho : Sound qs s) : Sound qs (roleMismatch x s) := by
  unfold roleMismatch; simp (maxDischargeDepth := 20) [ho]

@[simp] theorem ackSwitch_sound {qs : List Instr} (s : State) (ho : Sound qs s) : Sound qs (ackSwitch s) := by
  unfold ackSwitch; split <;> simp (maxDischargeDepth := 20) [*]

@[simp] theorem recordDone_sound {qs : List Instr} (ok : Bool) (s : State) (ho : Sound qs s) : Sound qs (recordDone ok s) := by
  unfold recordDone; simp (maxDischargeDepth := 20) [ho]

@[simp] theorem sendPromote_sound {qs : List Instr} (action : Nat) (s : State) (ho : Sound qs s) : Sound qs (sendPromote action s) := by
  unfold sendPromote; simp (maxDischargeDepth := 20) [ho]

@[simp] theorem deadEpoch_sound {qs : List Instr} (x : Slot) (s : State) (ho : Sound qs s) : Sound qs (deadEpoch x s) := by
  unfold deadEpoch; simp (maxDischargeDepth := 20) [ho]

@[simp] theorem partnerDead_sound {qs : List Instr} (x : Slot) (s : State) (ho : Sound qs s) : Sound qs (partnerDead x s) := by
  unfold partnerDead; simp (maxDischargeDepth := 20) [ho]

@[simp] theorem promoteReserve_sound {qs : List Instr} (s : State) (ho : Sound qs s) : Sound qs (promoteReserve s).1 := by
  unfold promoteReserve; (try dsimp only); (repeat' split) <;> simp (maxDischargeDepth := 20) [*]

@[simp] theorem selfTestEnd_sound {qs : List Instr} (s : State) (ho : Sound qs s) : Sound qs (selfTestEnd s) := by
  unfold selfTestEnd; simp (maxDischargeDepth := 20) [ho]

@[simp] theorem beginSwitch_sound {qs : List Instr} (service : Bool) (s : State) (ho : Sound qs s) : Sound qs (beginSwitch service s) := by
  unfold beginSwitch; (try dsimp only); (repeat' split) <;> simp (maxDischargeDepth := 20) [*]

@[simp] theorem requestSwitch_sound {qs : List Instr} (session : Nat) (service : Bool) (s : State) (ho : Sound qs s) : Sound qs (requestSwitch session service s).1 := by
  unfold requestSwitch; (try dsimp only); (repeat' split) <;> simp (maxDischargeDepth := 20) [*]

@[simp] theorem cancelSwitch_sound {qs : List Instr} (s : State) (ho : Sound qs s) : Sound qs (cancelSwitch s) := by
  unfold cancelSwitch; simp (maxDischargeDepth := 20) [ho]

@[simp] theorem switchNoAck_sound {qs : List Instr} (s : State) (ho : Sound qs s) : Sound qs (switchNoAck s) := by
  unfold switchNoAck; split <;> simp (maxDischargeDepth := 20) [*]

@[simp] theorem twinAll_sound {qs : List Instr} (s : State) (ho : Sound qs s) : Sound qs (twinAll s) := by
  unfold twinAll; simp (maxDischargeDepth := 20) [ho]

@[simp] theorem switchPoint_sound {qs : List Instr} (s : State) (ho : Sound qs s) : Sound qs (switchPoint s) := by
  unfold switchPoint; split <;> simp (maxDischargeDepth := 20) [*]

@[simp] theorem leaveRoles_sound {qs : List Instr} (s : State) (ho : Sound qs s) : Sound qs (leaveRoles s) := by
  unfold leaveRoles; simp (maxDischargeDepth := 20) [ho]

@[simp] theorem switchDone_sound {qs : List Instr} (s : State) (ho : Sound qs s) : Sound qs (switchDone s) := by
  unfold switchDone; simp (maxDischargeDepth := 20) [ho]

@[simp] theorem makeOffline_sound {qs : List Instr} (s : State) (ho : Sound qs s) : Sound qs (makeOffline s).1 := by
  unfold makeOffline; split <;> simp (maxDischargeDepth := 20) [*]

@[simp] theorem tellEject_sound {qs : List Instr} (s : State) (ho : Sound qs s) : Sound qs (tellEject s) := by
  unfold tellEject; simp (maxDischargeDepth := 20) [ho]

@[simp] theorem serviceBeat_sound {qs : List Instr} (s : State) (ho : Sound qs s) : Sound qs (serviceBeat s) := by
  unfold serviceBeat; (try dsimp only); (repeat' split) <;> simp (maxDischargeDepth := 20) [*]

@[simp] theorem cmdStatus_sound {qs : List Instr} (cmd : Nat) (r : State × Nat) (ho : Sound qs r.1) : Sound qs (cmdStatus cmd r).1 := by
  unfold cmdStatus; simp (maxDischargeDepth := 20) [ho]

@[simp] theorem execDamperToggleRecognised_sound {qs : List Instr} (slot : Slot) (s : State) (ho : Sound qs s) : Gives qs (execDamperToggleRecognised slot s) := by
  unfold execDamperToggleRecognised; simp (maxDischargeDepth := 20) [ho]

@[simp] theorem execLossOfToggle_sound {qs : List Instr} (slot : Slot) (s : State) (ho : Sound qs s) : Gives qs (execLossOfToggle slot s) := by
  unfold execLossOfToggle; simp (maxDischargeDepth := 20) [ho]

@[simp] theorem execReserveTakeoverWaitEnd_sound {qs : List Instr} (s : State) (ho : Sound qs s) : Gives qs (execReserveTakeoverWaitEnd s) := by
  unfold execReserveTakeoverWaitEnd; split <;> simp (maxDischargeDepth := 20) [*]

@[simp] theorem execDamperReadbackLost_sound {qs : List Instr} (s : State) (ho : Sound qs s) : Gives qs (execDamperReadbackLost s) := by
  unfold execDamperReadbackLost
  refine finish_sound _ ?_
  split
  · exact sound_change ho (from_mem s) (fromE_same rfl) (fromG_same rfl rfl) (fromC_same rfl rfl rfl) (fun h => ⟨by simp, by simp, h.3⟩)
  · exact ho

@[simp] theorem execForeignToggleFence_sound {qs : List Instr} (s : State) (ho : Sound qs s) : Gives qs (execForeignToggleFence s) := by
  unfold execForeignToggleFence; simp (maxDischargeDepth := 20) [ho]

@[simp] theorem execDamperRoleMismatch_sound {qs : List Instr} (slot : Slot) (s : State) (ho : Sound qs s) : Gives qs (execDamperRoleMismatch slot s) := by
  unfold execDamperRoleMismatch; simp (maxDischargeDepth := 20) [ho]

@[simp] theorem execClaimRecordWriteDone_sound {qs : List Instr} (ok : Bool) (s : State) (ho : Sound qs s) : Gives qs (execClaimRecordWriteDone ok s) := by
  unfold execClaimRecordWriteDone; simp (maxDischargeDepth := 20) [ho]

@[simp] theorem execStartAlone_sound {qs : List Instr} (s : State) (ho : Sound qs s) : Gives qs (execStartAlone s) := by
  unfold execStartAlone; simp (maxDischargeDepth := 20) [ho]

@[simp] theorem execJoinRepeat_sound {qs : List Instr} (s : State) (ho : Sound qs s) : Gives qs (execJoinRepeat s) := by
  unfold execJoinRepeat; simp (maxDischargeDepth := 20) [ho]

@[simp] theorem execPartnerDead_sound {qs : List Instr} (slot : Slot) (s : State) (ho : Sound qs s) : Gives qs (execPartnerDead slot s) := by
  unfold execPartnerDead; simp (maxDischargeDepth := 20) [ho]

@[simp] theorem execReserveSelfTestEnd_sound {qs : List Instr} (s : State) (ho : Sound qs s) : Gives qs (execReserveSelfTestEnd s) := by
  unfold execReserveSelfTestEnd; simp (maxDischargeDepth := 20) [ho]

@[simp] theorem execSwitchAckTimeout_sound {qs : List Instr} (s : State) (ho : Sound qs s) : Gives qs (execSwitchAckTimeout s) := by
  unfold execSwitchAckTimeout; simp (maxDischargeDepth := 20) [ho]

@[simp] theorem execSwitchPoint_sound {qs : List Instr} (s : State) (ho : Sound qs s) : Gives qs (execSwitchPoint s) := by
  unfold execSwitchPoint; simp (maxDischargeDepth := 20) [ho]

@[simp] theorem dmpArm_sound {qs : List Instr} (level : Level) (word : Word) (s : State) (ho : Sound qs s) : Sound qs (dmpArm level word s) := by
  unfold dmpArm
  split
  · exact ho
  · split
    · split
      · rename_i h
        have hr : s.pair.role = .active ∨ s.pair.role = .standby := by
          revert h; cases s.pair.role <;> simp [runsTasks]
        have k := sound_pair ho (fromP_arm (p := { s.pair with armed := true }) hr rfl rfl rfl rfl)
        dsimp only
        split
        · exact tellTakeover_sound _ (openOutputs_sound _ k)
        · exact k
      · exact ho
    · exact sound_change ho (from_mem s) (fromE_same rfl) (fromG_same rfl rfl) (fromC_same rfl rfl rfl) (fun _ => ⟨by simp, by simp, by simp⟩)

@[simp] theorem execDmpArm_sound {qs : List Instr} (level : Level) (word : Word) (s : State) (ho : Sound qs s) : Gives qs (execDmpArm level word s) := by
  unfold execDmpArm; simp (maxDischargeDepth := 20) [ho]

@[simp] theorem execDamperEdge_sound {qs : List Instr} (slot : Slot) (heldNs : Nat) (s : State) (ho : Sound qs s) : Gives qs (execDamperEdge slot heldNs s) := by
  unfold execDamperEdge; simp (maxDischargeDepth := 20) [ho]

@[simp] theorem execPresenceLineChange_sound {qs : List Instr} (slot : Slot) (asserted : Bool) (s : State) (ho : Sound qs s) : Gives qs (execPresenceLineChange slot asserted s) := by
  unfold execPresenceLineChange; simp (maxDischargeDepth := 20) [ho]

@[simp] theorem regionsReset_sound {qs : List Instr} (s : State) (ho : Sound qs s) : Sound qs (regionsReset s) := by
  unfold regionsReset; simp (maxDischargeDepth := 20) [ho]

@[simp] theorem restReset_sound {qs : List Instr} (s : State) (ho : Sound qs s) : Sound qs (restReset s) := by
  unfold restReset; simp (maxDischargeDepth := 20) [ho]

@[simp] theorem restart_sound {qs : List Instr} (cause : Nat) (s : State) (ho : Sound qs s) : Sound qs (restart cause s) := by
  unfold restart; simp (maxDischargeDepth := 20) [ho]

@[simp] theorem railsFall_sound {qs : List Instr} (s : State) (ho : Sound qs s) : Sound qs (railsFall s) := by
  unfold railsFall; simp (maxDischargeDepth := 20) [ho]

@[simp] theorem powerOn_sound {qs : List Instr} (s : State) (ho : Sound qs s) : Sound qs (powerOn s) := by
  unfold powerOn; simp (maxDischargeDepth := 20) [ho]

@[simp] theorem viaMbx_sound {qs : List Instr} (op : Nat) {f : MbxRq → State → State × MbxRes} (hf : ∀ m s, Sound qs s → Sound qs (f m s).1) (m : MbxRq) (s : State)
    (ho : Sound qs s) : Sound qs (viaMbx op f m s).1 := by
  unfold viaMbx
  split
  · exact ho
  · exact sound_cord (mbxRun_sound op (fun m s h => booted_sound hf m s h) m s ho) (fromC_same rfl rfl rfl)

@[simp] theorem mbxCode_sound {qs : List Instr} (op : Nat) {f : MbxRq → State → State × MbxRes} (hf : ∀ m s, Sound qs s → Sound qs (f m s).1) (a b : Nat)
    (d : List Byte) (s : State) (ho : Sound qs s) : Sound qs (mbxCode op f a b d s).1 := by
  unfold mbxCode; exact viaMbx_sound op hf _ s ho

@[simp] theorem updateData_sound {qs : List Instr} (v : List Byte) (s : State) (ho : Sound qs s) : Sound qs (updateData v s).1 := by
  unfold updateData; split <;> simp (maxDischargeDepth := 20) [*]

@[simp] theorem updateCheck_sound {qs : List Instr} (s : State) (ho : Sound qs s) : Sound qs (updateCheck s).1 := by
  unfold updateCheck; (try dsimp only); (repeat' split) <;> simp (maxDischargeDepth := 20) [*]

@[simp] theorem inLoader_sound {qs : List Instr} (s : State) (ho : Sound qs s) : Sound qs (inLoader s) := by
  unfold inLoader; simp (maxDischargeDepth := 20) [ho]

@[simp] theorem enterUpdate_sound {qs : List Instr} (s : State) (ho : Sound qs s) : Sound qs (enterUpdate s) := by
  unfold enterUpdate; simp (maxDischargeDepth := 20) [ho]

@[simp] theorem updateStart_sound {qs : List Instr} (session : Nat) (s : State) (ho : Sound qs s) : Sound qs (updateStart session s).1 := by
  unfold updateStart; (try dsimp only); (repeat' split) <;> simp (maxDischargeDepth := 20) [*]

@[simp] theorem updateDiscard_sound {qs : List Instr} (s : State) (ho : Sound qs s) : Sound qs (updateDiscard s).1 := by
  unfold updateDiscard; split <;> simp (maxDischargeDepth := 20) [*]

@[simp] theorem programRegion_sound {qs : List Instr} (comp : Nat) (h body : List Byte) (s : State) (ho : Sound qs s) : Sound qs (programRegion comp h body s) := by
  unfold programRegion; simp (maxDischargeDepth := 20) [ho]

@[simp] theorem closeUpdate_sound {qs : List Instr} (result : Nat) (newVer : Word) (s : State) (ho : Sound qs s) : Sound qs (closeUpdate result newVer s) := by
  unfold closeUpdate; simp (maxDischargeDepth := 20) [ho]

@[simp] theorem loaderUpdate_sound {qs : List Instr} (readbackOk : Bool) (s : State) (ho : Sound qs s) : Sound qs (loaderUpdate readbackOk s) := by
  unfold loaderUpdate; simp (maxDischargeDepth := 20) [ho]

@[simp] theorem recoveryImage_sound {qs : List Instr} (image : List Byte) (s : State) (ho : Sound qs s) : Sound qs (recoveryImage image s) := by
  unfold recoveryImage; simp (maxDischargeDepth := 20) [ho]

@[simp] theorem svnCommit_sound {qs : List Instr} (comp : Nat) (s : State) (ho : Sound qs s) : Sound qs (svnCommit comp s).1 := by
  unfold svnCommit; (try dsimp only); (repeat' split) <;> simp +contextual (maxDischargeDepth := 20) [*]

@[simp] theorem credEnrol_sound {qs : List Instr} (v : List Byte) (s : State) (ho : Sound qs s) : Sound qs (credEnrol v s).1 := by
  unfold credEnrol; (try dsimp only); (repeat' split) <;> simp +contextual (maxDischargeDepth := 20) [*]

@[simp] theorem credRevoke_sound {qs : List Instr} (slot : Nat) (s : State) (ho : Sound qs s) : Sound qs (credRevoke slot s).1 := by
  unfold credRevoke; (try dsimp only); (repeat' split) <;> simp +contextual (maxDischargeDepth := 20) [*]

@[simp] theorem progEnrol_sound {qs : List Instr} (v : List Byte) (s : State) (ho : Sound qs s) : Sound qs (progEnrol v s).1 := by
  unfold progEnrol; (try dsimp only); (repeat' split) <;> simp +contextual (maxDischargeDepth := 20) [*]

@[simp] theorem progRevoke_sound {qs : List Instr} (slot : Nat) (s : State) (ho : Sound qs s) : Sound qs (progRevoke slot s).1 := by
  unfold progRevoke; simp +contextual (maxDischargeDepth := 20) [ho]

@[simp] theorem keyLoad_sound {qs : List Instr} (v : List Byte) (s : State) (ho : Sound qs s) : Sound qs (keyLoad v s).1 := by
  unfold keyLoad; (try dsimp only); (repeat' split) <;> simp +contextual (maxDischargeDepth := 20) [*]

@[simp] theorem verEnrol_sound {qs : List Instr} (v : List Byte) (s : State) (ho : Sound qs s) : Sound qs (verEnrol v s).1 := by
  unfold verEnrol; (try dsimp only); (repeat' split) <;> simp +contextual (maxDischargeDepth := 20) [*]

@[simp] theorem verRevoke_sound {qs : List Instr} (slot : Nat) (s : State) (ho : Sound qs s) : Sound qs (verRevoke slot s).1 := by
  unfold verRevoke; (try dsimp only); (repeat' split) <;> simp +contextual (maxDischargeDepth := 20) [*]

@[simp] theorem zeroiseObj_sound {qs : List Instr} (s : State) (ho : Sound qs s) : Sound qs (zeroiseObj s).1 := by
  unfold zeroiseObj; simp +contextual (maxDischargeDepth := 20) [ho]

@[simp] theorem debugUnlock_sound {qs : List Instr} (v : List Byte) (s : State) (ho : Sound qs s) : Sound qs (debugUnlock v s).1 := by
  unfold debugUnlock; (try dsimp only); (repeat' split) <;> simp +contextual (maxDischargeDepth := 20) [*]

@[simp] theorem debugChallenge_sound {qs : List Instr} (s : State) (ho : Sound qs s) : Sound qs (debugChallenge s).1 := by
  unfold debugChallenge; simp +contextual (maxDischargeDepth := 20) [ho]

@[simp] theorem execLoaderUpdate_sound {qs : List Instr} (readbackOk : Bool) (s : State) (ho : Sound qs s) : Gives qs (execLoaderUpdate readbackOk s) := by
  unfold execLoaderUpdate; simp (maxDischargeDepth := 20) [ho]

@[simp] theorem execRecoveryImage_sound {qs : List Instr} (image : List Byte) (s : State) (ho : Sound qs s) : Gives qs (execRecoveryImage image s) := by
  unfold execRecoveryImage; simp (maxDischargeDepth := 20) [ho]

@[simp] theorem fijPost_sound {qs : List Instr} (code : Nat) (data : List Byte) (s : State) (ho : Sound qs s) : Sound qs (fijPost code data s) := by
  unfold fijPost; simp (maxDischargeDepth := 20) [ho]

@[simp] theorem setCommission_sound {qs : List Instr} (on : Bool) (s : State) (ho : Sound qs s) : Sound qs (setCommission on s) := by
  unfold setCommission; simp (maxDischargeDepth := 20) [ho]

@[simp] theorem fijComm_sound {qs : List Instr} (level : Level) (word : Word) (s : State) (ho : Sound qs s) : Sound qs (fijComm level word s) := by
  unfold fijComm; simp (maxDischargeDepth := 20) [ho]

@[simp] theorem fijRun_sound {qs : List Instr} (s : State) (ho : Sound qs s) : Sound qs (fijRun s) := by
  unfold fijRun; simp (maxDischargeDepth := 20) [ho]

@[simp] theorem fijStart_sound {qs : List Instr} (session : Nat) (s : State) (ho : Sound qs s) : Sound qs (fijStart session s).1 := by
  unfold fijStart; (try dsimp only); (repeat' split) <;> simp (maxDischargeDepth := 20) [*]

@[simp] theorem fijCmd_sound {qs : List Instr} (level : Level) (word : Word) (s : State) (ho : Sound qs s) : Sound qs (fijCmd level word s) := by
  unfold fijCmd; (try dsimp only); (repeat' split) <;> simp (maxDischargeDepth := 20) [*]

@[simp] theorem fijClear_sound {qs : List Instr} (level : Level) (word : Word) (s : State) (ho : Sound qs s) : Sound qs (fijClear level word s) := by
  unfold fijClear; simp (maxDischargeDepth := 20) [ho]

@[simp] theorem fijMiss_sound {qs : List Instr} (k : Nat) (s : State) (ho : Sound qs s) : Sound qs (fijMiss k s) := by
  unfold fijMiss; simp (maxDischargeDepth := 20) [ho]

@[simp] theorem execFijComm_sound {qs : List Instr} (level : Level) (word : Word) (s : State) (ho : Sound qs s) : Gives qs (execFijComm level word s) := by
  unfold execFijComm; simp (maxDischargeDepth := 20) [ho]

@[simp] theorem execFijRunExpiry_sound {qs : List Instr} (s : State) (ho : Sound qs s) : Gives qs (execFijRunExpiry s) := by
  unfold execFijRunExpiry; simp (maxDischargeDepth := 20) [ho]

@[simp] theorem execFijClear_sound {qs : List Instr} (level : Level) (word : Word) (s : State) (ho : Sound qs s) : Gives qs (execFijClear level word s) := by
  unfold execFijClear; simp (maxDischargeDepth := 20) [ho]

@[simp] theorem storeVal_sound {qs : List Instr} (idx sub : Nat) (v : List Byte) (s : State) (ho : Sound qs s) : Sound qs (storeVal idx sub v s) := by
  unfold storeVal; simp (maxDischargeDepth := 20) [ho]

@[simp] theorem pairField_sound {qs : List Instr} (lo len v : Nat) (s : State) (ho : Sound qs s) : Sound qs (pairField lo len v s) := by
  unfold pairField; simp (maxDischargeDepth := 20) [ho]

@[simp] theorem fluField_sound {qs : List Instr} (lo len v : Nat) (s : State) (ho : Sound qs s) : Sound qs (fluField lo len v s) := by
  unfold fluField; simp (maxDischargeDepth := 20) [ho]

@[simp] theorem cycField_sound {qs : List Instr} (lo len v : Nat) (s : State) (ho : Sound qs s) : Sound qs (cycField lo len v s) := by
  unfold cycField; simp (maxDischargeDepth := 20) [ho]

@[simp] theorem lioField_sound {qs : List Instr} (lo len v : Nat) (s : State) (ho : Sound qs s) : Sound qs (lioField lo len v s) := by
  unfold lioField; simp (maxDischargeDepth := 20) [ho]

@[simp] theorem applyPair_sound {qs : List Instr} (sub v : Nat) (s : State) (ho : Sound qs s) : Sound qs (applyPair sub v s) := by
  unfold applyPair; split <;> simp (maxDischargeDepth := 20) [*]

@[simp] theorem segField_sound {qs : List Instr} (n lo len v : Nat) (s : State) (ho : Sound qs s) : Sound qs (segField n lo len v s) := by
  unfold segField; simp (maxDischargeDepth := 20) [ho]

@[simp] theorem applySegment_sound {qs : List Instr} (n sub v : Nat) (s : State) (ho : Sound qs s) : Sound qs (applySegment n sub v s) := by
  unfold applySegment; split <;> simp (maxDischargeDepth := 20) [*]

@[simp] theorem applyProgram_sound {qs : List Instr} (sub v : Nat) (s : State) (ho : Sound qs s) : Sound qs (applyProgram sub v s) := by
  unfold applyProgram; split <;> simp (maxDischargeDepth := 20) [*]

@[simp] theorem applyTime_sound {qs : List Instr} (sub v : Nat) (s : State) (ho : Sound qs s) : Sound qs (applyTime sub v s) := by
  unfold applyTime; split <;> simp (maxDischargeDepth := 20) [*]

@[simp] theorem applyStore_sound {qs : List Instr} (sub v : Nat) (s : State) (ho : Sound qs s) : Sound qs (applyStore sub v s) := by
  unfold applyStore; split <;> simp (maxDischargeDepth := 20) [*]

@[simp] theorem applyLio_sound {qs : List Instr} (sub v : Nat) (s : State) (ho : Sound qs s) : Sound qs (applyLio sub v s) := by
  unfold applyLio; split <;> simp (maxDischargeDepth := 20) [*]

@[simp] theorem applyFij_sound {qs : List Instr} (idx sub : Nat) (v : List Byte) (s : State) (ho : Sound qs s) : Sound qs (applyFij idx sub v s) := by
  unfold applyFij; simp (maxDischargeDepth := 20) [ho]

@[simp] theorem applyMode_sound {qs : List Instr} (sub v : Nat) (s : State) (ho : Sound qs s) : Sound qs (applyMode sub v s) := by
  unfold applyMode; split <;> simp (maxDischargeDepth := 20) [*]

@[simp] theorem applyStation_sound {qs : List Instr} (x k sub : Nat) (v : List Byte) (s : State) (ho : Sound qs s) : Sound qs (applyStation x k sub v s) := by
  unfold applyStation; (try dsimp only); (repeat' split) <;> simp (maxDischargeDepth := 20) [*]

@[simp] theorem applyVal_sound {qs : List Instr} (idx sub : Nat) (v : List Byte) (s : State) (ho : Sound qs s) : Sound qs (applyVal idx sub v s) := by
  unfold applyVal; simp (maxDischargeDepth := 20) [ho]

@[simp] theorem takeNext_sound {qs : List Instr} (s : State) (ho : Sound qs s) : Sound qs (takeNext s) := by
  unfold takeNext; simp (maxDischargeDepth := 20) [ho]

@[simp] theorem applyStoreAtStart_sound {qs : List Instr} (s : State) (ho : Sound qs s) : Sound qs (applyStoreAtStart s) := by
  unfold applyStoreAtStart; simp +contextual (maxDischargeDepth := 20) [ho]

@[simp] theorem readClaim_sound {qs : List Instr} (s : State) (ho : Sound qs s) : Sound qs (readClaim s) := by
  unfold readClaim; split <;> simp (maxDischargeDepth := 20) [*]

@[simp] theorem startTime_sound {qs : List Instr} (s : State) (ho : Sound qs s) : Sound qs (startTime s) := by
  unfold startTime; simp (maxDischargeDepth := 20) [ho]

@[simp] theorem startFaults_sound {qs : List Instr} (s : State) (ho : Sound qs s) : Sound qs (startFaults s) := by
  unfold startFaults; (try dsimp only); (repeat' split) <;> simp (maxDischargeDepth := 20) [*]

@[simp] theorem startEvents_sound {qs : List Instr} (s : State) (ho : Sound qs s) : Sound qs (startEvents s) := by
  unfold startEvents; simp +contextual (maxDischargeDepth := 20) [ho]

@[simp] theorem startStore_sound {qs : List Instr} (s : State) (ho : Sound qs s) : Sound qs (startStore s) := by
  unfold startStore; simp (maxDischargeDepth := 20) [ho]

@[simp] theorem startRole_sound {qs : List Instr} (s : State) (ho : Sound qs s) : Sound qs (startRole s) := by
  have k0 := sound_pair ho (p := { silence s.pair with role := .offline, sub := .none }) (fromP_silent rfl rfl rfl)
  have k : ∀ u, Sound qs u → Sound qs (if slotErr u then post 0x0C04 0x01 [] u else u) := by
    intro u h; split
    · exact post_sound _ _ _ u h
    · exact h
  have m : ∀ u, Sound qs u → Sound qs (if u.pair.fenceMark then
      pairPost 0x0104 (le4 u.pair.epoch.toNat ++ u8 0x20 ++ u8 (slotNo (mySlot u))) (pairInt 7 { u with pair := { silence u.pair with role := .fenced } })
      else u) := by
    intro u h; split
    · exact pairPost_sound _ _ _ (pairInt_sound _ _ (sound_pair h (fromP_silent rfl rfl rfl)))
    · exact h
  exact m _ (k _ k0)

@[simp] theorem startGate_sound {qs : List Instr} (s : State) (ho : Sound qs s) : Sound qs (startGate s) := by
  unfold startGate; simp (maxDischargeDepth := 20) [ho]

@[simp] theorem startProgramImage_sound {qs : List Instr} (s : State) (ho : Sound qs s) : Sound qs (startProgramImage s) := by
  unfold startProgramImage; split <;> simp (maxDischargeDepth := 20) [*]

@[simp] theorem loadMicrocode_sound {qs : List Instr} (s : State) (ho : Sound qs s) : Sound qs (loadMicrocode s) := by
  unfold loadMicrocode; simp (maxDischargeDepth := 20) [ho]

@[simp] theorem loadCord_sound {qs : List Instr} (s : State) (ho : Sound qs s) : Sound qs (loadCord s) := by
  unfold loadCord; simp (maxDischargeDepth := 20) [ho]

@[simp] theorem loadRick_sound {qs : List Instr} (s : State) (ho : Sound qs s) : Sound qs (loadRick s) := by
  unfold loadRick; simp (maxDischargeDepth := 20) [ho]

@[simp] theorem startRuntime_sound {qs : List Instr} (s : State) (ho : Sound qs s) : Sound qs (startRuntime s) := by
  unfold startRuntime; simp (maxDischargeDepth := 20) [ho]

@[simp] theorem enterRecovery_sound {qs : List Instr} (s : State) (ho : Sound qs s) : Sound qs (enterRecovery s) := by
  unfold enterRecovery; simp (maxDischargeDepth := 20) [ho]

@[simp] theorem openRecord_sound {qs : List Instr} (s : State) (ho : Sound qs s) : Sound qs (openRecord s) := by
  unfold openRecord; simp (maxDischargeDepth := 20) [ho]

@[simp] theorem loadFirst_sound {qs : List Instr} (s : State) (ho : Sound qs s) : Sound qs (loadFirst s) := by
  unfold loadFirst; simp (maxDischargeDepth := 20) [ho]

@[simp] theorem startSequence_sound {qs : List Instr} (s : State) (ho : Sound qs s) : Sound qs (startSequence s) := by
  unfold startSequence; simp (maxDischargeDepth := 20) [ho]

@[simp] theorem autoRestart_sound {qs : List Instr} (s : State) (ho : Sound qs s) : Sound qs (autoRestart s) := by
  unfold autoRestart; simp (maxDischargeDepth := 20) [ho]

@[simp] theorem manualRestart_sound {qs : List Instr} (s : State) (ho : Sound qs s) : Sound qs (manualRestart s) := by
  unfold manualRestart; simp (maxDischargeDepth := 20) [ho]

@[simp] theorem seated_sound {qs : List Instr} (s : State) (ho : Sound qs s) : Sound qs (seated s) := by
  unfold seated; simp (maxDischargeDepth := 20) [ho]

@[simp] theorem rickReload_sound {qs : List Instr} (s : State) (ho : Sound qs s) : Sound qs (rickReload s).1 := by
  unfold rickReload; (try dsimp only); (repeat' split) <;> simp (maxDischargeDepth := 20) [*]

@[simp] theorem wakeComplete_sound {qs : List Instr} (s : State) (ho : Sound qs s) : Sound qs (wakeComplete s) := by
  unfold wakeComplete; simp (maxDischargeDepth := 20) [ho]

@[simp] theorem execStartSequence_sound {qs : List Instr} (s : State) (ho : Sound qs s) : Gives qs (execStartSequence s) := by
  unfold execStartSequence; simp (maxDischargeDepth := 20) [ho]

@[simp] theorem execAutoRestart_sound {qs : List Instr} (s : State) (ho : Sound qs s) : Gives qs (execAutoRestart s) := by
  unfold execAutoRestart; simp (maxDischargeDepth := 20) [ho]

@[simp] theorem execRickResetReload_sound {qs : List Instr} (tid : Byte) (s : State) (ho : Sound qs s) : Gives qs (execRickResetReload tid s) := by
  unfold execRickResetReload; simp (maxDischargeDepth := 20) [ho]

@[simp] theorem execSeatedRead_sound {qs : List Instr} (s : State) (ho : Sound qs s) : Gives qs (execSeatedRead s) := by
  unfold execSeatedRead; simp (maxDischargeDepth := 20) [ho]

@[simp] theorem execWakeComplete_sound {qs : List Instr} (s : State) (ho : Sound qs s) : Gives qs (execWakeComplete s) := by
  unfold execWakeComplete; simp (maxDischargeDepth := 20) [ho]

@[simp] theorem hwPost_sound {qs : List Instr} (code : Nat) (data : List Byte) (s : State) (ho : Sound qs s) : Sound qs (hwPost code data s) := by
  unfold hwPost; simp (maxDischargeDepth := 20) [ho]

@[simp] theorem hwFlag_sound {qs : List Instr} (b : Nat) (s : State) (ho : Sound qs s) : Sound qs (hwFlag b s) := by
  unfold hwFlag; simp (maxDischargeDepth := 20) [ho]

@[simp] theorem feedChange_sound {qs : List Instr} (feedB : Bool) (st : Feed) (mv : Half) (s : State) (ho : Sound qs s) : Sound qs (feedChange feedB st mv s) := by
  unfold feedChange; simp (maxDischargeDepth := 20) [ho]

@[simp] theorem writeAhead_sound {qs : List Instr} (code : Nat) (block : Byte) (data : List Byte) (s : State) (ho : Sound qs s) : Sound qs (writeAhead code block data s) := by
  unfold writeAhead; simp +contextual (maxDischargeDepth := 20) [ho]

@[simp] theorem regionsLost_sound {qs : List Instr} (s : State) (ho : Sound qs s) : Sound qs (regionsLost s) := by
  unfold regionsLost; simp (maxDischargeDepth := 20) [ho]

@[simp] theorem finishClaim_sound {qs : List Instr} (s : State) (ho : Sound qs s) : Sound qs (finishClaim s) := by
  unfold finishClaim; simp (maxDischargeDepth := 20) [ho]

@[simp] theorem powerFail_sound {qs : List Instr} (s : State) (ho : Sound qs s) : Sound qs (powerFail s) := by
  unfold powerFail; simp (maxDischargeDepth := 20) [ho]

@[simp] theorem unseated_sound {qs : List Instr} (s : State) (ho : Sound qs s) : Sound qs (unseated s) := by
  unfold unseated; simp (maxDischargeDepth := 20) [ho]

@[simp] theorem tempWarning_sound {qs : List Instr} (junction : Half) (s : State) (ho : Sound qs s) : Sound qs (tempWarning junction s) := by
  unfold tempWarning; simp (maxDischargeDepth := 20) [ho]

@[simp] theorem overTemperature_sound {qs : List Instr} (junction : Half) (s : State) (ho : Sound qs s) : Sound qs (overTemperature junction s) := by
  unfold overTemperature; simp (maxDischargeDepth := 20) [ho]

@[simp] theorem serviceBegins_sound {qs : List Instr} (s : State) (ho : Sound qs s) : Sound qs (serviceBegins s) := by
  unfold serviceBegins; simp (maxDischargeDepth := 20) [ho]

@[simp] theorem serviceEnds_sound {qs : List Instr} (s : State) (ho : Sound qs s) : Sound qs (serviceEnds s) := by
  unfold serviceEnds; simp (maxDischargeDepth := 20) [ho]

@[simp] theorem keyChange_sound {qs : List Instr} (pos : KeyPos) (s : State) (ho : Sound qs s) : Sound qs (keyChange pos s) := by
  unfold keyChange; simp (maxDischargeDepth := 20) [ho]

@[simp] theorem eject_sound {qs : List Instr} (opened : Bool) (s : State) (ho : Sound qs s) : Sound qs (eject opened s) := by
  unfold eject; simp (maxDischargeDepth := 20) [ho]

@[simp] theorem execKeyswitchChange_sound {qs : List Instr} (pos : KeyPos) (s : State) (ho : Sound qs s) : Gives qs (execKeyswitchChange pos s) := by
  unfold execKeyswitchChange; simp (maxDischargeDepth := 20) [ho]

@[simp] theorem execUnseated_sound {qs : List Instr} (s : State) (ho : Sound qs s) : Gives qs (execUnseated s) := by
  unfold execUnseated; simp (maxDischargeDepth := 20) [ho]

@[simp] theorem execFeedStateChange_sound {qs : List Instr} (feedB : Bool) (st : Feed) (mv10 : Half) (s : State) (ho : Sound qs s) : Gives qs (execFeedStateChange feedB st mv10 s) := by
  unfold execFeedStateChange; simp (maxDischargeDepth := 20) [ho]

@[simp] theorem execPowerFail_sound {qs : List Instr} (s : State) (ho : Sound qs s) : Gives qs (execPowerFail s) := by
  unfold execPowerFail; simp (maxDischargeDepth := 20) [ho]

@[simp] theorem execEject_sound {qs : List Instr} (opened : Bool) (s : State) (ho : Sound qs s) : Gives qs (execEject opened s) := by
  unfold execEject; simp (maxDischargeDepth := 20) [ho]

@[simp] theorem execTempWarning_sound {qs : List Instr} (junction : Half) (s : State) (ho : Sound qs s) : Gives qs (execTempWarning junction s) := by
  unfold execTempWarning; simp (maxDischargeDepth := 20) [ho]

@[simp] theorem execOverTemperature_sound {qs : List Instr} (junction : Half) (s : State) (ho : Sound qs s) : Gives qs (execOverTemperature junction s) := by
  unfold execOverTemperature; simp (maxDischargeDepth := 20) [ho]

@[simp] theorem execHpwClear_sound {qs : List Instr} (level : Level) (word : Word) (s : State) (ho : Sound qs s) : Gives qs (execHpwClear level word s) := by
  unfold execHpwClear; simp (maxDischargeDepth := 20) [ho]

@[simp] theorem readObj_sound {qs : List Instr} (idx sub : Nat) (s : State) (ho : Sound qs s) : Sound qs (readObj idx sub s).1 := by
  unfold readObj; (try dsimp only); (repeat' split) <;> simp +contextual (maxDischargeDepth := 20) [*]

@[simp] theorem abort_sound {qs : List Instr} (c : Client) (code : Nat) (s : State) (ho : Sound qs s) : Sound qs (abort c code s) := by
  unfold abort; simp (maxDischargeDepth := 20) [ho]

@[simp] theorem respondSeg_sound {qs : List Instr} (c : Client) (off : Nat) (more : Bool) (data : List Byte) (s : State) (ho : Sound qs s) : Sound qs (respondSeg c off more data s) := by
  unfold respondSeg; simp (maxDischargeDepth := 20) [ho]

@[simp] theorem putSession_sound {qs : List Instr} (x : Session) (s : State) (ho : Sound qs s) : Sound qs (putSession x s) := by
  unfold putSession; simp (maxDischargeDepth := 20) [ho]

@[simp] theorem modSession_sound {qs : List Instr} (h : Nat) (f : Session → Session) (s : State) (ho : Sound qs s) : Sound qs (modSession h f s) := by
  unfold modSession; simp (maxDischargeDepth := 20) [ho]

@[simp] theorem tellOpened_sound {qs : List Instr} (x : Session) (s : State) (ho : Sound qs s) : Sound qs (tellOpened x s) := by
  unfold tellOpened; simp (maxDischargeDepth := 20) [ho]

@[simp] theorem vClose_sound {qs : List Instr} (x : Session) (s : State) (ho : Sound qs s) : Sound qs (vClose x s) := by
  unfold vClose; (try dsimp only); (repeat' split) <;> simp +contextual (maxDischargeDepth := 20) [*]

@[simp] theorem closeSession_sound {qs : List Instr} (h cause : Nat) (s : State) (ho : Sound qs s) : Sound qs (closeSession h cause s) := by
  unfold closeSession; split <;> simp (maxDischargeDepth := 20) [*]

@[simp] theorem closeWhere_sound {qs : List Instr} (p : Session → Bool) (cause : Nat) (s : State) (ho : Sound qs s) : Sound qs (closeWhere p cause s) := by
  unfold closeWhere; simp +contextual (maxDischargeDepth := 20) [ho]

@[simp] theorem sessionOpen_sound {qs : List Instr} (p : Path) (tid : Byte) (level : Nat) (s : State) (ho : Sound qs s) : Sound qs (sessionOpen p tid level s) := by
  unfold sessionOpen; simp (maxDischargeDepth := 20) [ho]

@[simp] theorem proveFails_sound {qs : List Instr} (c : Client) (s : State) (ho : Sound qs s) : Sound qs (proveFails c s) := by
  unfold proveFails; simp (maxDischargeDepth := 20) [ho]

@[simp] theorem sessionProve_sound {qs : List Instr} (p : Path) (tid : Byte) (h slot : Nat) (sig : List Byte) (s : State) (ho : Sound qs s) : Sound qs (sessionProve p tid h slot sig s) := by
  unfold sessionProve; split <;> simp (maxDischargeDepth := 20) [*]

@[simp] theorem sessionClose_sound {qs : List Instr} (p : Path) (tid : Byte) (h : Nat) (s : State) (ho : Sound qs s) : Sound qs (sessionClose p tid h s) := by
  unfold sessionClose; split <;> simp (maxDischargeDepth := 20) [*]

@[simp] theorem sessionKeep_sound {qs : List Instr} (p : Path) (tid : Byte) (h : Nat) (s : State) (ho : Sound qs s) : Sound qs (sessionKeep p tid h s) := by
  unfold sessionKeep; split <;> simp (maxDischargeDepth := 20) [*]

@[simp] theorem closeRevoked_sound {qs : List Instr} (s : State) (ho : Sound qs s) : Sound qs (closeRevoked s) := by
  unfold closeRevoked; simp (maxDischargeDepth := 20) [ho]

@[simp] theorem enter_sound {qs : List Instr} (p : Path) (m : SvcMsg) {f : State → State} (hf : ∀ s, Sound qs s → Sound qs (f s)) (s : State)
    (ho : Sound qs s) : Sound qs (enter p m f s) := by
  unfold enter; (try dsimp only); (repeat' split) <;> simp (maxDischargeDepth := 20) [ho, hf]

@[simp] theorem execServiceConnection_sound {qs : List Instr} (conn : Nat) (s : State) (ho : Sound qs s) : Gives qs (execServiceConnection conn s) := by
  unfold execServiceConnection; simp (maxDischargeDepth := 20) [ho]

@[simp] theorem execServiceConnectionEnd_sound {qs : List Instr} (conn : Nat) (s : State) (ho : Sound qs s) : Gives qs (execServiceConnectionEnd conn s) := by
  unfold execServiceConnectionEnd; simp (maxDischargeDepth := 20) [ho]

@[simp] theorem execSessionOpen_sound {qs : List Instr} (path : Path) (tid level : Byte) (s : State) (ho : Sound qs s) : Gives qs (execSessionOpen path tid level s) := by
  unfold execSessionOpen; simp +contextual (maxDischargeDepth := 20) [ho]

@[simp] theorem execSessionProve_sound {qs : List Instr} (path : Path) (tid : Byte) (session : Nat) (credSlot : Byte) (signature : List Byte) (s : State) (ho : Sound qs s) : Gives qs (execSessionProve path tid session credSlot signature s) := by
  unfold execSessionProve; simp +contextual (maxDischargeDepth := 20) [ho]

@[simp] theorem execSessionClose_sound {qs : List Instr} (path : Path) (tid : Byte) (session : Nat) (s : State) (ho : Sound qs s) : Gives qs (execSessionClose path tid session s) := by
  unfold execSessionClose; simp +contextual (maxDischargeDepth := 20) [ho]

@[simp] theorem execSessionKeepalive_sound {qs : List Instr} (path : Path) (tid : Byte) (session : Nat) (s : State) (ho : Sound qs s) : Gives qs (execSessionKeepalive path tid session s) := by
  unfold execSessionKeepalive; simp +contextual (maxDischargeDepth := 20) [ho]

@[simp] theorem execProveTimeout_sound {qs : List Instr} (session : Nat) (s : State) (ho : Sound qs s) : Gives qs (execProveTimeout session s) := by
  unfold execProveTimeout; simp (maxDischargeDepth := 20) [ho]

@[simp] theorem execSessionIdleTimeout_sound {qs : List Instr} (session : Nat) (s : State) (ho : Sound qs s) : Gives qs (execSessionIdleTimeout session s) := by
  unfold execSessionIdleTimeout; simp (maxDischargeDepth := 20) [ho]

@[simp] theorem execSegmentTransferTimeout_sound {qs : List Instr} (session : Nat) (s : State) (ho : Sound qs s) : Gives qs (execSegmentTransferTimeout session s) := by
  unfold execSegmentTransferTimeout; simp (maxDischargeDepth := 20) [ho]

end Sys2Proof.Laws
end

