-- ==== Sys2Proof/Laws/SoundOuter.lean ====
section
/-!
SUPPORT. Every operation of the object dictionary, the Flue receiver, the beat, the register files, the bus and the passing of time keeps what `Sound` says: the queue as it is, the memory in
canonical form, at most 64 records in the recorder's queue, MOPEN never back once it was cleared.
-/

namespace Sys2Proof.Laws

open Sys2Proof Sys2Proof.Machine

@[simp] theorem checkHalt_sound {qs : List Instr} (idx sub : Nat) (m : Meta) (v : List Byte) (s : State) (ho : Sound qs s) : Sound qs (checkHalt idx sub m v s).1 := by
  unfold checkHalt; (try dsimp only); (repeat' split) <;> simp (maxDischargeDepth := 20) [*]

@[simp] theorem areaWrite_sound {qs : List Instr} (s : State) (ho : Sound qs s) : Sound qs (areaWrite s).1 := by
  unfold areaWrite; (try dsimp only); (repeat' split) <;> simp (maxDischargeDepth := 20) [*]

@[simp] theorem tellAsker_sound {qs : List Instr} (a : Asker) (code : Nat) (s : State) (ho : Sound qs s) : Sound qs (tellAsker a code s) := by
  unfold tellAsker; (try dsimp only); (repeat' split) <;> simp (maxDischargeDepth := 20) [*]

@[simp] theorem tellR_sound {qs : List Instr} (a : Asker) (r : State × Nat) (ho : Sound qs r.1) : Sound qs (tellR a r) := by
  unfold tellR; simp (maxDischargeDepth := 20) [ho]

@[simp] theorem sendEntries_sound {qs : List Instr} (dst : Slot) (op : Nat) (txn : Word) (beat : DWord) (es : List ObjE) (s : State) (ho : Sound qs s) : Sound qs (sendEntries dst op txn beat es s) := by
  unfold sendEntries; simp +contextual (maxDischargeDepth := 20) [ho]

@[simp] theorem forwardWrite_sound {qs : List Instr} (c : Option Client) (idx sub : Nat) (v : List Byte) (s : State) (ho : Sound qs s) :
    Sound qs (forwardWrite c idx sub v s) := by
  unfold forwardWrite; (repeat' split) <;> simp (maxDischargeDepth := 20) [ho]

@[simp] theorem copiedState_sound {qs : List Instr} (a : Asker) (idx sub : Nat) (s : State) (ho : Sound qs s) : Sound qs (copiedState a idx sub s).1 := by
  unfold copiedState; (try dsimp only); (repeat' split) <;> simp (maxDischargeDepth := 20) [*]

@[simp] theorem copiedAccept_sound {qs : List Instr} (a : Asker) (idx sub : Nat) (v : List Byte) (s : State) (ho : Sound qs s) : Sound qs (copiedAccept a idx sub v s) := by
  unfold copiedAccept; (try dsimp only); (repeat' split) <;> simp (maxDischargeDepth := 20) [*]

@[simp] theorem copiedWrite_sound {qs : List Instr} (a : Asker) (idx sub : Nat) (m : Meta) (v : List Byte) (s : State) (ho : Sound qs s) :
    Sound qs (copiedWrite a idx sub m v s) := by
  unfold copiedWrite
  split
  · have k := sound_of_eq (checkHalt_sound _ _ _ _ _ ho) (by assumption)
    split
    · have k := sound_of_eq (copiedState_sound _ _ _ _ k) (by assumption)
      split
      · simp [k]
      · split
        · have k := sound_of_eq (areaWrite_sound _ k) (by assumption); simp [k]
        · simp [k]
    · simp [k]
  · simp (maxDischargeDepth := 20) [ho]

@[simp] theorem applyEntry_sound {qs : List Instr} (s : State) (e : ObjE) (ho : Sound qs s) : Sound qs (applyEntry s e) := by
  unfold applyEntry; simp (maxDischargeDepth := 20) [ho]

@[simp] theorem visibleState_sound {qs : List Instr} (idx sub : Nat) (v : List Byte) (s : State) (ho : Sound qs s) : Sound qs (visibleState idx sub v s).1 := by
  unfold visibleState; (try dsimp only); (repeat' split) <;> simp (maxDischargeDepth := 20) [*]

@[simp] theorem visibleWrite_sound {qs : List Instr} (a : Asker) (idx sub : Nat) (v : List Byte) (s : State) (ho : Sound qs s) :
    Sound qs (visibleWrite a idx sub v s) := by
  unfold visibleWrite
  (repeat' split) <;> first | (simp (maxDischargeDepth := 20) [ho]; done) | (have := sound_of_eq (visibleState_sound _ _ _ _ ho) (by assumption); simp [this])

@[simp] theorem doRestore_sound {qs : List Instr} (v : Nat) (s : State) (ho : Sound qs s) : Sound qs (doRestore v s).1 := by
  unfold doRestore
  split
  · have := sound_of_eq (areaWrite_sound s ho) (by assumption); simp [this]
  · simp (maxDischargeDepth := 20) [ho]

@[simp] theorem gateResetGo_sound {qs : List Instr} (a : Asker) (idx : Nat) (s : State) (ho : Sound qs s) : Sound qs (gateResetGo a idx s) := by
  unfold gateResetGo; (try dsimp only); (repeat' split) <;> simp (maxDischargeDepth := 20) [*]

@[simp] theorem doProof_sound {qs : List Instr} (session : Nat) (v : List Byte) (s : State) (ho : Sound qs s) : Sound qs (doProof session v s).1 := by
  unfold doProof; simp +contextual (maxDischargeDepth := 20) [ho]

@[simp] theorem activityStart_sound {qs : List Instr} (k : Nat) (a : Asker) (idx : Nat) (v : List Byte) (s : State) (ho : Sound qs s) : Sound qs (activityStart k a idx v s) := by
  unfold activityStart; split <;> simp (maxDischargeDepth := 20) [*]

@[simp] theorem activity_sound {qs : List Instr} (k : Nat) (a : Asker) (idx sub : Nat) (v : List Byte) (s : State) (ho : Sound qs s) : Sound qs (activity k a idx sub v s) := by
  unfold activity; simp +contextual (maxDischargeDepth := 20) [ho]

@[simp] theorem verifierCmd_sound {qs : List Instr} (sub n session : Nat) (s : State) (ho : Sound qs s) : Sound qs (verifierCmd sub n session s).1 := by
  unfold verifierCmd; (try dsimp only); (repeat' split) <;> simp +contextual (maxDischargeDepth := 20) [*]

@[simp] theorem secCmd_sound {qs : List Instr} (idx sub : Nat) (v : List Byte) (s : State) (ho : Sound qs s) : Sound qs (secCmd idx sub v s).1 := by
  unfold secCmd; (try dsimp only); (repeat' split) <;> simp (maxDischargeDepth := 20) [*]

@[simp] theorem plainCmd_sound {qs : List Instr} (session idx sub : Nat) (v : List Byte) (s : State) (ho : Sound qs s) : Sound qs (plainCmd session idx sub v s).1 := by
  unfold plainCmd; (try dsimp only); (repeat' split) <;> simp (maxDischargeDepth := 20) [*]

@[simp] theorem command_sound {qs : List Instr} (a : Asker) (idx sub : Nat) (v : List Byte) (s : State) (ho : Sound qs s) : Sound qs (command a idx sub v s) := by
  unfold command; (try dsimp only); (repeat' split) <;> simp (maxDischargeDepth := 20) [*]

@[simp] theorem afterLocal_sound {qs : List Instr} (idx sub n : Nat) (s : State) (ho : Sound qs s) : Sound qs (afterLocal idx sub n s) := by
  unfold afterLocal; simp +contextual (maxDischargeDepth := 20) [ho]

@[simp] theorem localWrite_sound {qs : List Instr} (a : Asker) (idx sub : Nat) (m : Meta) (v : List Byte) (s : State) (ho : Sound qs s) :
    Sound qs (localWrite a idx sub m v s) := by
  unfold localWrite
  dsimp only
  split
  · have k := sound_of_eq (checkHalt_sound _ _ _ _ _ ho) (by assumption)
    split
    · simp (maxDischargeDepth := 20) [k]
    · split
      · simp [k]
      · split
        · have k := sound_of_eq (areaWrite_sound _ k) (by assumption)
          simp (maxDischargeDepth := 20) [k]
        · simp [k]
  · simp (maxDischargeDepth := 20) [ho]

@[simp] theorem legalWrite_sound {qs : List Instr} (a : Asker) (idx sub : Nat) (v : List Byte) (s : State) (ho : Sound qs s) : Sound qs (legalWrite a idx sub v s) := by
  unfold legalWrite; simp +contextual (maxDischargeDepth := 20) [ho]

@[simp] theorem decided_sound {qs : List Instr} (a : Asker) (idx sub : Nat) (m : Meta) (v : List Byte) (s : State) (ho : Sound qs s) : Sound qs (decided a idx sub m v s) := by
  unfold decided; simp (maxDischargeDepth := 20) [ho]

@[simp] theorem routed_sound {qs : List Instr} (c : Client) (m : Meta) (v : List Byte) (s : State) (ho : Sound qs s) : Sound qs (routed c m v s) := by
  unfold routed; simp (maxDischargeDepth := 20) [ho]

@[simp] theorem wholeWrite_sound {qs : List Instr} (c : Client) (v : List Byte) (s : State) (ho : Sound qs s) : Sound qs (wholeWrite c v s) := by
  unfold wholeWrite; split <;> simp (maxDischargeDepth := 20) [*]

@[simp] theorem dropXfer_sound {qs : List Instr} (h : Nat) (s : State) (ho : Sound qs s) : Sound qs (dropXfer h s) := by
  unfold dropXfer; simp (maxDischargeDepth := 20) [ho]

@[simp] theorem putXfer_sound {qs : List Instr} (h : Nat) (t : Xfer) (s : State) (ho : Sound qs s) : Sound qs (putXfer h t s) := by
  unfold putXfer; simp (maxDischargeDepth := 20) [ho]

@[simp] theorem writeSeg_sound {qs : List Instr} (c : Client) (m : SvcMsg) (limit : Nat) (s : State) (ho : Sound qs s) : Sound qs (writeSeg c m limit s) := by
  unfold writeSeg; (try dsimp only); (repeat' split) <;> simp (maxDischargeDepth := 20) [*]

@[simp] theorem svcWrite_sound {qs : List Instr} (p : Path) (m : SvcMsg) (s : State) (ho : Sound qs s) : Sound qs (svcWrite p m s) := by
  unfold svcWrite; (try dsimp only); (repeat' split) <;> simp (maxDischargeDepth := 20) [*]

@[simp] theorem readSeg_sound {qs : List Instr} (c : Client) (m : SvcMsg) (s : State) (ho : Sound qs s) : Sound qs (readSeg c m s) := by
  unfold readSeg; (try dsimp only); (repeat' split) <;> simp (maxDischargeDepth := 20) [*]

@[simp] theorem svcRead_sound {qs : List Instr} (p : Path) (m : SvcMsg) (s : State) (ho : Sound qs s) : Sound qs (svcRead p m s) := by
  unfold svcRead; simp (maxDischargeDepth := 20) [ho]

@[simp] theorem hostWrite_sound {qs : List Instr} (p : Path) (tid : Byte) (session : Nat) (es : List HostE) (s : State) (ho : Sound qs s) : Sound qs (hostWrite p tid session es s) := by
  unfold hostWrite; (try dsimp only); (repeat' split) <;> simp (maxDischargeDepth := 20) [*]

@[simp] theorem svcBody_sound {qs : List Instr} (p : Path) (m : SvcMsg) (s : State) (ho : Sound qs s) : Sound qs (svcBody p m s) := by
  unfold svcBody; split <;> simp (maxDischargeDepth := 20) [*]

@[simp] theorem folRequest_sound {qs : List Instr} (seg end_ : Nat) (f : FolFrame) (m : SvcMsg) (s : State) (ho : Sound qs s) : Sound qs (folRequest seg end_ f m s) := by
  unfold folRequest; simp (maxDischargeDepth := 20) [ho]

@[simp] theorem serveRequests_sound {qs : List Instr} (s : State) (ho : Sound qs s) : Sound qs (serveRequests s) := by
  unfold serveRequests
  refine sound_foldl (fun s x ho => ?_) _ (by simp (maxDischargeDepth := 20) [ho])
  split <;> simp (maxDischargeDepth := 20) [ho]

@[simp] theorem objCmd_sound {qs : List Instr} (idx sub : Nat) (rq : Rq) (s : State) (ho : Sound qs s) : Sound qs (objCmd idx sub rq s) := by
  unfold objCmd; simp +contextual (maxDischargeDepth := 20) [ho]

@[simp] theorem sendResult_sound {qs : List Instr} (n : Word) (code : Nat) (s : State) (ho : Sound qs s) : Sound qs (sendResult n code s) := by
  unfold sendResult; simp (maxDischargeDepth := 20) [ho]

@[simp] theorem applyTxn_sound {qs : List Instr} (s : State) (t : Txn) (ho : Sound qs s) : Sound qs (applyTxn s t) := by
  unfold applyTxn; (try dsimp only); (repeat' split) <;> simp +contextual (maxDischargeDepth := 20) [*]

@[simp] theorem runWait_sound {qs : List Instr} (s : State) (w : Wait) (ho : Sound qs s) : Sound qs (runWait s w) := by
  unfold runWait; simp (maxDischargeDepth := 20) [ho]

@[simp] theorem applyTxns_sound {qs : List Instr} (b : Nat) (s : State) (ho : Sound qs s) : Sound qs (applyTxns b s) := by
  unfold applyTxns; simp +contextual (maxDischargeDepth := 20) [ho]

@[simp] theorem storeEntries_sound {qs : List Instr} (es : List ObjE) (s : State) (ho : Sound qs s) : Sound qs (storeEntries es s) := by
  unfold storeEntries; simp +contextual (maxDischargeDepth := 20) [ho]

@[simp] theorem wholeSet_sound {qs : List Instr} (es : List ObjE) (s : State) (ho : Sound qs s) : Sound qs (wholeSet es s).1 := by
  unfold wholeSet; simp (maxDischargeDepth := 20) [ho]

@[simp] theorem nackApply_sound {qs : List Instr} (p : ObjWriteP) (code : Nat) (s : State) (ho : Sound qs s) : Sound qs (nackApply p code s) := by
  unfold nackApply; simp (maxDischargeDepth := 20) [ho]

theorem wholeOr_sound {qs : List Instr} (b : Bool) (es : List ObjE) (s : State) (ho : Sound qs s) :
    Sound qs (if b then wholeSet es s else (s, es)).1 := by split <;> simp [ho]

@[simp] theorem takeApply_sound {qs : List Instr} (p : ObjWriteP) (es : List ObjE) (s : State) (ho : Sound qs s) : Sound qs (takeApply p es s) := by
  unfold takeApply
  generalize (s.pair.sub == Sub.resync && !s.flu.resync.whole && decide (s.flu.resync.phase ≤ 2)) = whole
  dsimp only
  split
  · simp (maxDischargeDepth := 20) [ho]
  · split
    · rename_i t e
      have k : Sound qs t := sound_of_eq (areaWrite_sound _ ho) e
      have kw := wholeOr_sound whole es t k
      generalize (if whole = true then wholeSet es t else (t, es)) = w at kw ⊢
      obtain ⟨u, all⟩ := w
      dsimp only at kw ⊢
      simp (maxDischargeDepth := 20) [kw]
    · have := sound_of_eq (areaWrite_sound _ ho) (by assumption); simp [this]

@[simp] theorem takePeerId_sound {qs : List Instr} (src : Slot) (es : List ObjE) (s : State) (ho : Sound qs s) : Sound qs (takePeerId src es s) := by
  unfold takePeerId; simp (maxDischargeDepth := 20) [ho]

@[simp] theorem onAck_sound {qs : List Instr} (p : ObjWriteP) (s : State) (ho : Sound qs s) : Sound qs (onAck p s) := by
  unfold onAck; simp (maxDischargeDepth := 20) [ho]

@[simp] theorem onNack_sound {qs : List Instr} (p : ObjWriteP) (s : State) (ho : Sound qs s) : Sound qs (onNack p s) := by
  unfold onNack; simp (maxDischargeDepth := 20) [ho]

@[simp] theorem grantToken_sound {qs : List Instr} (k : Nat) (a : Asker) (idx : Nat) (s : State) (ho : Sound qs s) : Sound qs (grantToken k a idx s) := by
  unfold grantToken; simp (maxDischargeDepth := 20) [ho]

@[simp] theorem onForward_sound {qs : List Instr} (src : Slot) (p : ObjWriteP) (es : List ObjE) (s : State) (ho : Sound qs s) : Sound qs (onForward src p es s) := by
  unfold onForward; (try dsimp only); (repeat' split) <;> simp (maxDischargeDepth := 20) [*]

@[simp] theorem granted_sound {qs : List Instr} (c : Client) (k : Nat) (v : List Byte) (s : State) (ho : Sound qs s) : Sound qs (granted c k v s) := by
  unfold granted; simp (maxDischargeDepth := 20) [ho]

@[simp] theorem onResult_sound {qs : List Instr} (p : ObjWriteP) (s : State) (ho : Sound qs s) : Sound qs (onResult p s) := by
  unfold onResult; (try dsimp only); (repeat' split) <;> simp (maxDischargeDepth := 20) [*]

@[simp] theorem forwardTimeout_sound {qs : List Instr} (n : Word) (s : State) (ho : Sound qs s) : Sound qs (forwardTimeout n s) := by
  unfold forwardTimeout; (try dsimp only); (repeat' split) <;> simp (maxDischargeDepth := 20) [*]

@[simp] theorem gather_sound {qs : List Instr} (p : ObjWriteP) (more : Bool) (s : State) (ho : Sound qs s) : Sound qs (gather p more s).1 := by
  unfold gather; split <;> simp (maxDischargeDepth := 20) [*]

@[simp] theorem onObjWrite_sound {qs : List Instr} (src : Slot) (more : Bool) (p : ObjWriteP) (s : State) (ho : Sound qs s) :
    Sound qs (onObjWrite src more p s) := by
  unfold onObjWrite
  (repeat' split) <;> first | (simp (maxDischargeDepth := 20) [ho]; done) | (have := sound_of_eq (gather_sound _ _ _ ho) (by assumption); simp [this])

@[simp] theorem sendWholeSet_sound {qs : List Instr} (s : State) (ho : Sound qs s) : Sound qs (sendWholeSet s) := by
  unfold sendWholeSet; (try dsimp only); (repeat' split) <;> simp (maxDischargeDepth := 20) [*]

@[simp] theorem pairCmd_sound {qs : List Instr} (level : Level) (word : Word) (s : State) (ho : Sound qs s) : Sound qs (pairCmd level word s) := by
  unfold pairCmd; (try dsimp only); (repeat' split) <;> simp (maxDischargeDepth := 20) [*]

@[simp] theorem cycCmd_sound {qs : List Instr} (level : Level) (word : Word) (s : State) (ho : Sound qs s) : Sound qs (cycCmd level word s) := by
  unfold cycCmd; simp (maxDischargeDepth := 20) [ho]

@[simp] theorem fptCmd_sound {qs : List Instr} (n : Nat) (level : Level) (word : Word) (s : State) (ho : Sound qs s) : Sound qs (fptCmd n level word s) := by
  unfold fptCmd; simp (maxDischargeDepth := 20) [ho]

@[simp] theorem execServiceRead_sound {qs : List Instr} (m : SvcMsg) (path : Path) (s : State) (ho : Sound qs s) : Gives qs (execServiceRead m path s) := by
  unfold execServiceRead; simp +contextual (maxDischargeDepth := 20) [ho]

@[simp] theorem execServiceWrite_sound {qs : List Instr} (m : SvcMsg) (path : Path) (s : State) (ho : Sound qs s) : Gives qs (execServiceWrite m path s) := by
  unfold execServiceWrite; simp +contextual (maxDischargeDepth := 20) [ho]

@[simp] theorem execHostwrite_sound {qs : List Instr} (tid : Byte) (path : Path) (session : Nat) (entries : List HostE) (s : State) (ho : Sound qs s) : Gives qs (execHostwrite tid path session entries s) := by
  unfold execHostwrite; simp +contextual (maxDischargeDepth := 20) [ho]

@[simp] theorem execForwardTimeout_sound {qs : List Instr} (number : Word) (s : State) (ho : Sound qs s) : Gives qs (execForwardTimeout number s) := by
  unfold execForwardTimeout; simp (maxDischargeDepth := 20) [ho]

@[simp] theorem dataCmd_sound {qs : List Instr} (idx sub : Nat) (m : SvcMsg) (rq : Rq) (s : State) (ho : Sound qs s) : Sound qs (dataCmd idx sub m rq s) := by
  unfold dataCmd; simp +contextual (maxDischargeDepth := 20) [ho]

@[simp] theorem viaPair_sound {qs : List Instr} (sub : Nat) (via : Via) (s : State) (ho : Sound qs s) : Sound qs (viaPair sub via s) := by
  unfold viaPair; split <;> simp (maxDischargeDepth := 20) [*]

@[simp] theorem execSwitchover_sound {qs : List Instr} (via : Via) (s : State) (ho : Sound qs s) : Gives qs (execSwitchover via s) := by
  unfold execSwitchover; simp (maxDischargeDepth := 20) [ho]

@[simp] theorem execMakeOffline_sound {qs : List Instr} (via : Via) (s : State) (ho : Sound qs s) : Gives qs (execMakeOffline via s) := by
  unfold execMakeOffline; simp (maxDischargeDepth := 20) [ho]

@[simp] theorem execPromoteReserve_sound {qs : List Instr} (via : Via) (s : State) (ho : Sound qs s) : Gives qs (execPromoteReserve via s) := by
  unfold execPromoteReserve; simp (maxDischargeDepth := 20) [ho]

@[simp] theorem viaProgram_sound {qs : List Instr} (via : Via) (s : State) (ho : Sound qs s) : Sound qs (viaProgram via s) := by
  unfold viaProgram; split <;> simp (maxDischargeDepth := 20) [*]

@[simp] theorem execWarmRestart_sound {qs : List Instr} (via : Via) (s : State) (ho : Sound qs s) : Gives qs (execWarmRestart via s) := by
  unfold execWarmRestart; simp (maxDischargeDepth := 20) [ho]

@[simp] theorem execColdRestart_sound {qs : List Instr} (via : Via) (s : State) (ho : Sound qs s) : Gives qs (execColdRestart via s) := by
  unfold execColdRestart; simp (maxDischargeDepth := 20) [ho]

@[simp] theorem execProgramStop_sound {qs : List Instr} (via : Via) (s : State) (ho : Sound qs s) : Gives qs (execProgramStop via s) := by
  unfold execProgramStop; simp (maxDischargeDepth := 20) [ho]

@[simp] theorem execResume_sound {qs : List Instr} (task : Nat) (rq : Rq) (s : State) (ho : Sound qs s) : Gives qs (execResume task rq s) := by
  unfold execResume; simp (maxDischargeDepth := 20) [ho]

@[simp] theorem execTaskEnable_sound {qs : List Instr} (task : Nat) (rq : Rq) (s : State) (ho : Sound qs s) : Gives qs (execTaskEnable task rq s) := by
  unfold execTaskEnable; simp (maxDischargeDepth := 20) [ho]

@[simp] theorem execKindleData_sound {qs : List Instr} (m : SvcMsg) (rq : Rq) (s : State) (ho : Sound qs s) : Gives qs (execKindleData m rq s) := by
  unfold execKindleData; simp (maxDischargeDepth := 20) [ho]

@[simp] theorem execChangeStart_sound {qs : List Instr} (rq : Rq) (s : State) (ho : Sound qs s) : Gives qs (execChangeStart rq s) := by
  unfold execChangeStart; simp (maxDischargeDepth := 20) [ho]

@[simp] theorem execChangeAbandon_sound {qs : List Instr} (rq : Rq) (s : State) (ho : Sound qs s) : Gives qs (execChangeAbandon rq s) := by
  unfold execChangeAbandon; simp (maxDischargeDepth := 20) [ho]

@[simp] theorem execForceSet_sound {qs : List Instr} (rq : Rq) (s : State) (ho : Sound qs s) : Gives qs (execForceSet rq s) := by
  unfold execForceSet; simp (maxDischargeDepth := 20) [ho]

@[simp] theorem execForceClear_sound {qs : List Instr} (rq : Rq) (s : State) (ho : Sound qs s) : Gives qs (execForceClear rq s) := by
  unfold execForceClear; simp (maxDischargeDepth := 20) [ho]

@[simp] theorem execForceClearAll_sound {qs : List Instr} (rq : Rq) (s : State) (ho : Sound qs s) : Gives qs (execForceClearAll rq s) := by
  unfold execForceClearAll; simp (maxDischargeDepth := 20) [ho]

@[simp] theorem viaSegment_sound {qs : List Instr} (seg : Nat) (via : Via) (s : State) (ho : Sound qs s) : Sound qs (viaSegment seg via s) := by
  unfold viaSegment; split <;> simp (maxDischargeDepth := 20) [*]

@[simp] theorem execSegmentStart_sound {qs : List Instr} (seg : Nat) (via : Via) (s : State) (ho : Sound qs s) : Gives qs (execSegmentStart seg via s) := by
  unfold execSegmentStart; simp (maxDischargeDepth := 20) [ho]

@[simp] theorem execSegmentStop_sound {qs : List Instr} (seg : Nat) (via : Via) (s : State) (ho : Sound qs s) : Gives qs (execSegmentStop seg via s) := by
  unfold execSegmentStop; simp (maxDischargeDepth := 20) [ho]

@[simp] theorem execSegmentReprobe_sound {qs : List Instr} (seg : Nat) (via : Via) (s : State) (ho : Sound qs s) : Gives qs (execSegmentReprobe seg via s) := by
  unfold execSegmentReprobe; simp (maxDischargeDepth := 20) [ho]

@[simp] theorem execGateReset_sound {qs : List Instr} (station : Nat) (rq : Rq) (s : State) (ho : Sound qs s) : Gives qs (execGateReset station rq s) := by
  unfold execGateReset; simp (maxDischargeDepth := 20) [ho]

@[simp] theorem execSeasonPause_sound {qs : List Instr} (rq : Rq) (s : State) (ho : Sound qs s) : Gives qs (execSeasonPause rq s) := by
  unfold execSeasonPause; simp (maxDischargeDepth := 20) [ho]

@[simp] theorem execBucketSet_sound {qs : List Instr} (rq : Rq) (s : State) (ho : Sound qs s) : Gives qs (execBucketSet rq s) := by
  unfold execBucketSet; simp (maxDischargeDepth := 20) [ho]

@[simp] theorem execRearm_sound {qs : List Instr} (rq : Rq) (s : State) (ho : Sound qs s) : Gives qs (execRearm rq s) := by
  unfold execRearm; simp (maxDischargeDepth := 20) [ho]

@[simp] theorem execRestore_sound {qs : List Instr} (rq : Rq) (s : State) (ho : Sound qs s) : Gives qs (execRestore rq s) := by
  unfold execRestore; simp (maxDischargeDepth := 20) [ho]

@[simp] theorem execUpdateData_sound {qs : List Instr} (m : SvcMsg) (rq : Rq) (s : State) (ho : Sound qs s) : Gives qs (execUpdateData m rq s) := by
  unfold execUpdateData; simp (maxDischargeDepth := 20) [ho]

@[simp] theorem execUpdateCheck_sound {qs : List Instr} (rq : Rq) (s : State) (ho : Sound qs s) : Gives qs (execUpdateCheck rq s) := by
  unfold execUpdateCheck; simp (maxDischargeDepth := 20) [ho]

@[simp] theorem execUpdateStart_sound {qs : List Instr} (rq : Rq) (s : State) (ho : Sound qs s) : Gives qs (execUpdateStart rq s) := by
  unfold execUpdateStart; simp (maxDischargeDepth := 20) [ho]

@[simp] theorem execUpdateDiscard_sound {qs : List Instr} (rq : Rq) (s : State) (ho : Sound qs s) : Gives qs (execUpdateDiscard rq s) := by
  unfold execUpdateDiscard; simp (maxDischargeDepth := 20) [ho]

@[simp] theorem execSvnCommit_sound {qs : List Instr} (rq : Rq) (s : State) (ho : Sound qs s) : Gives qs (execSvnCommit rq s) := by
  unfold execSvnCommit; simp (maxDischargeDepth := 20) [ho]

@[simp] theorem execCredentialEnrol_sound {qs : List Instr} (rq : Rq) (s : State) (ho : Sound qs s) : Gives qs (execCredentialEnrol rq s) := by
  unfold execCredentialEnrol; simp (maxDischargeDepth := 20) [ho]

@[simp] theorem execCredentialRevoke_sound {qs : List Instr} (rq : Rq) (s : State) (ho : Sound qs s) : Gives qs (execCredentialRevoke rq s) := by
  unfold execCredentialRevoke; simp (maxDischargeDepth := 20) [ho]

@[simp] theorem execProgkeyEnrol_sound {qs : List Instr} (rq : Rq) (s : State) (ho : Sound qs s) : Gives qs (execProgkeyEnrol rq s) := by
  unfold execProgkeyEnrol; simp (maxDischargeDepth := 20) [ho]

@[simp] theorem execProgkeyRevoke_sound {qs : List Instr} (rq : Rq) (s : State) (ho : Sound qs s) : Gives qs (execProgkeyRevoke rq s) := by
  unfold execProgkeyRevoke; simp (maxDischargeDepth := 20) [ho]

@[simp] theorem execKeyLoad_sound {qs : List Instr} (rq : Rq) (s : State) (ho : Sound qs s) : Gives qs (execKeyLoad rq s) := by
  unfold execKeyLoad; simp (maxDischargeDepth := 20) [ho]

@[simp] theorem execVerifierEnrol_sound {qs : List Instr} (rq : Rq) (s : State) (ho : Sound qs s) : Gives qs (execVerifierEnrol rq s) := by
  unfold execVerifierEnrol; simp (maxDischargeDepth := 20) [ho]

@[simp] theorem execVerifierRevoke_sound {qs : List Instr} (rq : Rq) (s : State) (ho : Sound qs s) : Gives qs (execVerifierRevoke rq s) := by
  unfold execVerifierRevoke; simp (maxDischargeDepth := 20) [ho]

@[simp] theorem execZeroise_sound {qs : List Instr} (via : Via) (s : State) (ho : Sound qs s) : Gives qs (execZeroise via s) := by
  unfold execZeroise; (try dsimp only); (repeat' split) <;> simp +contextual (maxDischargeDepth := 20) [*]

@[simp] theorem execDebugChallenge_sound {qs : List Instr} (rq : Rq) (s : State) (ho : Sound qs s) : Gives qs (execDebugChallenge rq s) := by
  unfold execDebugChallenge; simp +contextual (maxDischargeDepth := 20) [ho]

@[simp] theorem execDebugUnlock_sound {qs : List Instr} (rq : Rq) (s : State) (ho : Sound qs s) : Gives qs (execDebugUnlock rq s) := by
  unfold execDebugUnlock; simp (maxDischargeDepth := 20) [ho]

@[simp] theorem execCommission_sound {qs : List Instr} (rq : Rq) (s : State) (ho : Sound qs s) : Gives qs (execCommission rq s) := by
  unfold execCommission; simp (maxDischargeDepth := 20) [ho]

@[simp] theorem viaInjector_sound {qs : List Instr} (via : Via) (s : State) (ho : Sound qs s) : Sound qs (viaInjector via s) := by
  unfold viaInjector; split <;> simp (maxDischargeDepth := 20) [*]

@[simp] theorem execFijStart_sound {qs : List Instr} (via : Via) (s : State) (ho : Sound qs s) : Gives qs (execFijStart via s) := by
  unfold execFijStart; simp (maxDischargeDepth := 20) [ho]

@[simp] theorem execFijStop_sound {qs : List Instr} (via : Via) (s : State) (ho : Sound qs s) : Gives qs (execFijStop via s) := by
  unfold execFijStop; simp (maxDischargeDepth := 20) [ho]

@[simp] theorem setPath_sound {qs : List Instr} (p : Nat) (s : State) (ho : Sound qs s) : Sound qs (setPath p s) := by
  unfold setPath; simp (maxDischargeDepth := 20) [ho]

@[simp] theorem choosePath_sound {qs : List Instr} (s : State) (ho : Sound qs s) : Sound qs (choosePath s) := by
  unfold choosePath; simp (maxDischargeDepth := 20) [ho]

@[simp] theorem laneArrival_sound {qs : List Instr} (n : Nat) (s : State) (ho : Sound qs s) : Sound qs (laneArrival n s) := by
  unfold laneArrival; simp (maxDischargeDepth := 20) [ho]

@[simp] theorem laneDown_sound {qs : List Instr} (n : Nat) (s : State) (ho : Sound qs s) : Sound qs (laneDown n s) := by
  unfold laneDown; simp (maxDischargeDepth := 20) [ho]

@[simp] theorem laneCrc_sound {qs : List Instr} (n : Nat) (s : State) (ho : Sound qs s) : Sound qs (laneCrc n s) := by
  unfold laneCrc; simp (maxDischargeDepth := 20) [ho]

theorem takeSeq_sound {qs : List Instr} (h : FlueHdr) (fresh : Bool) (s : State) (ho : Sound qs s) : ∀ t ∈ takeSeq h fresh s, Sound qs t := by
  unfold takeSeq
  dsimp only
  split
  · split <;> simp (maxDischargeDepth := 20) [ho]
  · split
    · simp
    · split <;> simp (maxDischargeDepth := 20) [ho]

@[simp] theorem onNak_sound {qs : List Instr} (lane : Nat) (src : Slot) (p : NakP) (s : State) (ho : Sound qs s) : Sound qs (onNak lane src p s) := by
  unfold onNak
  refine sound_foldl (fun s x ho => ?_) _ (by simp (maxDischargeDepth := 20) [ho])
  split
  · split <;> simp (maxDischargeDepth := 20) [ho]
  · exact ho

@[simp] theorem returnRequest_sound {qs : List Instr} (x : Slot) (p : StatusP) (s : State) (ho : Sound qs s) : Sound qs (returnRequest x p s) := by
  unfold returnRequest; simp (maxDischargeDepth := 20) [ho]

@[simp] theorem updateEnded_sound {qs : List Instr} (old : Option Role) (x : Slot) (seq : Word) (p : StatusP) (s : State) (ho : Sound qs s) : Sound qs (updateEnded old x seq p s) := by
  unfold updateEnded; simp (maxDischargeDepth := 20) [ho]

@[simp] theorem alignTo_sound {qs : List Instr} (p : StatusP) (s : State) (ho : Sound qs s) : Sound qs (alignTo p s) := by
  unfold alignTo; simp (maxDischargeDepth := 20) [ho]

@[simp] theorem onStatus_sound {qs : List Instr} (h : FlueHdr) (p : StatusP) (s : State) (ho : Sound qs s) : Sound qs (onStatus h p s) := by
  unfold onStatus; simp (maxDischargeDepth := 20) [ho]

@[simp] theorem onClaim_sound {qs : List Instr} (lane : Nat) (x : Slot) (p : ClaimP) (s : State) (ho : Sound qs s) : Sound qs (onClaim lane x p s) := by
  unfold onClaim; (try dsimp only); (repeat' split) <;> simp (maxDischargeDepth := 20) [*]

@[simp] theorem answerJoin_sound {qs : List Instr} (x : Slot) (e : Word) (s : State) (ho : Sound qs s) : Sound qs (answerJoin x e s) := by
  unfold answerJoin; simp (maxDischargeDepth := 20) [ho]

@[simp] theorem onJoin_sound {qs : List Instr} (x : Slot) (p : JoinP) (s : State) (ho : Sound qs s) : Sound qs (onJoin x p s) := by
  unfold onJoin; simp (maxDischargeDepth := 20) [ho]

@[simp] theorem onPromote_sound {qs : List Instr} (p : PromoteP) (s : State) (ho : Sound qs s) : Sound qs (onPromote p s) := by
  unfold onPromote; simp (maxDischargeDepth := 20) [ho]

@[simp] theorem onSwitch_sound {qs : List Instr} (x : Slot) (p : SwitchP) (s : State) (ho : Sound qs s) : Sound qs (onSwitch x p s) := by
  unfold onSwitch; simp (maxDischargeDepth := 20) [ho]

@[simp] theorem onSwitchAck_sound {qs : List Instr} (p : SwitchP) (s : State) (ho : Sound qs s) : Sound qs (onSwitchAck p s) := by
  unfold onSwitchAck; split <;> simp (maxDischargeDepth := 20) [*]

@[simp] theorem relayLate_sound {qs : List Instr} (n : Nat) (s : State) (ho : Sound qs s) : Sound qs (relayLate n s) := by
  unfold relayLate; simp (maxDischargeDepth := 20) [ho]

@[simp] theorem mirrorSegment_sound {qs : List Instr} (n : Nat) (s : State) (ho : Sound qs s) : Sound qs (mirrorSegment n s) := by
  unfold mirrorSegment; simp (maxDischargeDepth := 20) [ho]

@[simp] theorem takeRelay_sound {qs : List Instr} (s : State) (e : RelayE) (ho : Sound qs s) : Sound qs (takeRelay s e) := by
  unfold takeRelay; split <;> simp (maxDischargeDepth := 20) [*]

@[simp] theorem onRelayOut_sound {qs : List Instr} (es : List RelayE) (s : State) (ho : Sound qs s) : Sound qs (onRelayOut es s) := by
  unfold onRelayOut; simp +contextual (maxDischargeDepth := 20) [ho]

@[simp] theorem relaySent_sound {qs : List Instr} (n : Nat) (f : FolFrame) (s : State) (ho : Sound qs s) : Sound qs (relaySent n f s) := by
  unfold relaySent; (try dsimp only); (repeat' split) <;> simp (maxDischargeDepth := 20) [*]

@[simp] theorem relayTransmit_sound {qs : List Instr} (n : Nat) (late : Bool) (s : State) (ho : Sound qs s) : Sound qs (relayTransmit n late s) := by
  unfold relayTransmit; (try dsimp only); (repeat' split) <;> simp (maxDischargeDepth := 20) [*]

@[simp] theorem relayService_sound {qs : List Instr} (lane n end_ : Nat) (f : FolFrame) (m : SvcMsg) (s : State) (ho : Sound qs s) : Sound qs (relayService lane n end_ f m s) := by
  unfold relayService; simp (maxDischargeDepth := 20) [ho]

@[simp] theorem takeRelayIn_sound {qs : List Instr} (lane : Nat) (s : State) (e : RelayE) (ho : Sound qs s) : Sound qs (takeRelayIn lane s e) := by
  unfold takeRelayIn; (try dsimp only); (repeat' split) <;> simp (maxDischargeDepth := 20) [*]

@[simp] theorem onRelayIn_sound {qs : List Instr} (lane : Nat) (es : List RelayE) (s : State) (ho : Sound qs s) : Sound qs (onRelayIn lane es s) := by
  unfold onRelayIn; simp +contextual (maxDischargeDepth := 20) [ho]

@[simp] theorem flueBody_sound {qs : List Instr} (lane : Nat) (f : FlueFrame) (s : State) (ho : Sound qs s) : Sound qs (flueBody lane f s) := by
  unfold flueBody; split <;> simp (maxDischargeDepth := 20) [*]

@[simp] theorem frameEpoch_sound {qs : List Instr} (lane : Nat) (f : FlueFrame) (s : State) (ho : Sound qs s) : Sound qs (frameEpoch lane f s) := by
  unfold frameEpoch; simp (maxDischargeDepth := 20) [ho]

@[simp] theorem flueEffect_sound {qs : List Instr} (lane : Nat) (f : FlueFrame) (s : State) (ho : Sound qs s) : Sound qs (flueEffect lane f s) := by
  unfold flueEffect; simp (maxDischargeDepth := 20) [ho]

@[simp] theorem countPayload_sound {qs : List Instr} (f : FlueFrame) (s : State) (ho : Sound qs s) : Sound qs (countPayload f s) := by
  unfold countPayload; simp (maxDischargeDepth := 20) [ho]

@[simp] theorem flueInOrder_sound {qs : List Instr} (lane : Nat) (f : FlueFrame) (fresh : Bool) (s : State) (ho : Sound qs s) :
    Sound qs (flueInOrder lane f fresh s) := by
  unfold flueInOrder
  split
  · exact ho
  · rename_i t e
    simp [takeSeq_sound _ _ _ ho t e]

@[simp] theorem flueToHere_sound {qs : List Instr} (lane : Nat) (f : FlueFrame) (s : State) (ho : Sound qs s) : Sound qs (flueToHere lane f s) := by
  unfold flueToHere; simp (maxDischargeDepth := 20) [ho]

@[simp] theorem flueArrive_sound {qs : List Instr} (lane : Nat) (f : FlueFrame) (s : State) (ho : Sound qs s) : Sound qs (flueArrive lane f s) := by
  unfold flueArrive; simp (maxDischargeDepth := 20) [ho]

@[simp] theorem flueRxRule_sound {qs : List Instr} (lane : Nat) (f : FlueFrame) (s : State) (ho : Sound qs s) : Sound qs (flueRxRule lane f s).1 := by
  unfold flueRxRule; (try dsimp only); (repeat' split) <;> simp (maxDischargeDepth := 20) [*]

@[simp] theorem flueRx_sound {qs : List Instr} (lane : Nat) (f : FlueFrame) (s : State) (ho : Sound qs s) : Sound qs (flueRx lane f s) := by
  unfold flueRx; (try dsimp only); (repeat' split) <;> simp (maxDischargeDepth := 20) [*]

@[simp] theorem flueDiscard_sound {qs : List Instr} (lane : Nat) (why : FlueBad) (src : Slot) (s : State) (ho : Sound qs s) : Sound qs (flueDiscard lane why src s) := by
  unfold flueDiscard; (try dsimp only); (repeat' split) <;> simp (maxDischargeDepth := 20) [*]

@[simp] theorem slotCForward_sound {qs : List Instr} (lane : Nat) (f : FlueFrame) (s : State) (ho : Sound qs s) : Sound qs (slotCForward lane f s) := by
  unfold slotCForward; simp (maxDischargeDepth := 20) [ho]

@[simp] theorem blockLock_sound {qs : List Instr} (lane : Nat) (locked : Bool) (s : State) (ho : Sound qs s) : Sound qs (blockLock lane locked s) := by
  unfold blockLock; simp (maxDischargeDepth := 20) [ho]

@[simp] theorem pairReturn_sound {qs : List Instr} (s : State) (ho : Sound qs s) : Sound qs (pairReturn s) := by
  unfold pairReturn; simp (maxDischargeDepth := 20) [ho]

@[simp] theorem holdExpiry_sound {qs : List Instr} (k : Nat) (s : State) (ho : Sound qs s) : Sound qs (holdExpiry k s) := by
  unfold holdExpiry; (try dsimp only); (repeat' split) <;> simp (maxDischargeDepth := 20) [*]

@[simp] theorem execStatusFrame_sound {qs : List Instr} (lane : Nat) (h : FlueHdr) (p : StatusP) (s : State) (ho : Sound qs s) : Gives qs (execStatusFrame lane h p s) := by
  unfold execStatusFrame; simp (maxDischargeDepth := 20) [ho]

@[simp] theorem execImageFrame_sound {qs : List Instr} (lane : Nat) (h : FlueHdr) (p : ImageP) (s : State) (ho : Sound qs s) : Gives qs (execImageFrame lane h p s) := by
  unfold execImageFrame; simp (maxDischargeDepth := 20) [ho]

@[simp] theorem execDigestFrame_sound {qs : List Instr} (lane : Nat) (h : FlueHdr) (p : DigestP) (s : State) (ho : Sound qs s) : Gives qs (execDigestFrame lane h p s) := by
  unfold execDigestFrame; simp (maxDischargeDepth := 20) [ho]

@[simp] theorem execRelayOutFrame_sound {qs : List Instr} (lane : Nat) (h : FlueHdr) (es : List RelayE) (s : State) (ho : Sound qs s) : Gives qs (execRelayOutFrame lane h es s) := by
  unfold execRelayOutFrame; simp (maxDischargeDepth := 20) [ho]

@[simp] theorem execRelayOutTransmit_sound {qs : List Instr} (port : Nat) (late : Bool) (s : State) (ho : Sound qs s) : Gives qs (execRelayOutTransmit port late s) := by
  unfold execRelayOutTransmit; simp (maxDischargeDepth := 20) [ho]

@[simp] theorem execRelayInFrame_sound {qs : List Instr} (lane : Nat) (h : FlueHdr) (es : List RelayE) (s : State) (ho : Sound qs s) : Gives qs (execRelayInFrame lane h es s) := by
  unfold execRelayInFrame; simp (maxDischargeDepth := 20) [ho]

@[simp] theorem execClaimFrame_sound {qs : List Instr} (lane : Nat) (h : FlueHdr) (p : ClaimP) (s : State) (ho : Sound qs s) : Gives qs (execClaimFrame lane h p s) := by
  unfold execClaimFrame; simp (maxDischargeDepth := 20) [ho]

@[simp] theorem execJoinFrame_sound {qs : List Instr} (lane : Nat) (h : FlueHdr) (p : JoinP) (s : State) (ho : Sound qs s) : Gives qs (execJoinFrame lane h p s) := by
  unfold execJoinFrame; simp (maxDischargeDepth := 20) [ho]

@[simp] theorem execPromoteToStandby_sound {qs : List Instr} (lane : Nat) (h : FlueHdr) (p : PromoteP) (s : State) (ho : Sound qs s) : Gives qs (execPromoteToStandby lane h p s) := by
  unfold execPromoteToStandby; simp (maxDischargeDepth := 20) [ho]

@[simp] theorem execReturnToReserve_sound {qs : List Instr} (lane : Nat) (h : FlueHdr) (p : PromoteP) (s : State) (ho : Sound qs s) : Gives qs (execReturnToReserve lane h p s) := by
  unfold execReturnToReserve; simp (maxDischargeDepth := 20) [ho]

@[simp] theorem execSwitchFrame_sound {qs : List Instr} (lane : Nat) (h : FlueHdr) (p : SwitchP) (s : State) (ho : Sound qs s) : Gives qs (execSwitchFrame lane h p s) := by
  unfold execSwitchFrame; simp (maxDischargeDepth := 20) [ho]

@[simp] theorem execSwitchAckFrame_sound {qs : List Instr} (lane : Nat) (h : FlueHdr) (p : SwitchP) (s : State) (ho : Sound qs s) : Gives qs (execSwitchAckFrame lane h p s) := by
  unfold execSwitchAckFrame; simp (maxDischargeDepth := 20) [ho]

@[simp] theorem execNakFrame_sound {qs : List Instr} (lane : Nat) (h : FlueHdr) (p : NakP) (s : State) (ho : Sound qs s) : Gives qs (execNakFrame lane h p s) := by
  unfold execNakFrame; simp (maxDischargeDepth := 20) [ho]

@[simp] theorem execResyncDataFrame_sound {qs : List Instr} (lane : Nat) (h : FlueHdr) (p : ResyncDataP) (s : State) (ho : Sound qs s) : Gives qs (execResyncDataFrame lane h p s) := by
  unfold execResyncDataFrame; simp (maxDischargeDepth := 20) [ho]

@[simp] theorem execResyncCtrlFrame_sound {qs : List Instr} (lane : Nat) (h : FlueHdr) (p : ResyncCtrlP) (s : State) (ho : Sound qs s) : Gives qs (execResyncCtrlFrame lane h p s) := by
  unfold execResyncCtrlFrame; simp (maxDischargeDepth := 20) [ho]

@[simp] theorem execFlueFrameDiscard_sound {qs : List Instr} (lane : Nat) (why : FlueBad) (src : Slot) (s : State) (ho : Sound qs s) : Gives qs (execFlueFrameDiscard lane why src s) := by
  unfold execFlueFrameDiscard; simp (maxDischargeDepth := 20) [ho]

@[simp] theorem execSlotCForward_sound {qs : List Instr} (lane : Nat) (f : FlueFrame) (s : State) (ho : Sound qs s) : Gives qs (execSlotCForward lane f s) := by
  unfold execSlotCForward; simp (maxDischargeDepth := 20) [ho]

@[simp] theorem execLaneBlockLock_sound {qs : List Instr} (lane : Nat) (locked : Bool) (s : State) (ho : Sound qs s) : Gives qs (execLaneBlockLock lane locked s) := by
  unfold execLaneBlockLock; simp (maxDischargeDepth := 20) [ho]

@[simp] theorem execLaneDown_sound {qs : List Instr} (lane : Nat) (s : State) (ho : Sound qs s) : Gives qs (execLaneDown lane s) := by
  unfold execLaneDown; simp (maxDischargeDepth := 20) [ho]

@[simp] theorem execPairLinkReturn_sound {qs : List Instr} (s : State) (ho : Sound qs s) : Gives qs (execPairLinkReturn s) := by
  unfold execPairLinkReturn; simp (maxDischargeDepth := 20) [ho]

@[simp] theorem kindleFrame_sound {qs : List Instr} (op lane : Nat) (h : FlueHdr) (p : KindleP) (s : State) (ho : Sound qs s) : Sound qs (kindleFrame op lane h p s) := by
  unfold kindleFrame; simp (maxDischargeDepth := 20) [ho]

@[simp] theorem execKindleDataFrame_sound {qs : List Instr} (lane : Nat) (h : FlueHdr) (p : KindleP) (s : State) (ho : Sound qs s) : Gives qs (execKindleDataFrame lane h p s) := by
  unfold execKindleDataFrame; simp (maxDischargeDepth := 20) [ho]

@[simp] theorem execKindleLoaded_sound {qs : List Instr} (lane : Nat) (h : FlueHdr) (p : KindleP) (s : State) (ho : Sound qs s) : Gives qs (execKindleLoaded lane h p s) := by
  unfold execKindleLoaded; simp (maxDischargeDepth := 20) [ho]

@[simp] theorem execKindleStart_sound {qs : List Instr} (lane : Nat) (h : FlueHdr) (p : KindleP) (s : State) (ho : Sound qs s) : Gives qs (execKindleStart lane h p s) := by
  unfold execKindleStart; simp (maxDischargeDepth := 20) [ho]

@[simp] theorem execKindleGo_sound {qs : List Instr} (lane : Nat) (h : FlueHdr) (p : KindleP) (s : State) (ho : Sound qs s) : Gives qs (execKindleGo lane h p s) := by
  unfold execKindleGo; simp (maxDischargeDepth := 20) [ho]

@[simp] theorem execKindleGoAck_sound {qs : List Instr} (lane : Nat) (h : FlueHdr) (p : KindleP) (s : State) (ho : Sound qs s) : Gives qs (execKindleGoAck lane h p s) := by
  unfold execKindleGoAck; simp (maxDischargeDepth := 20) [ho]

@[simp] theorem execKindleNogo_sound {qs : List Instr} (lane : Nat) (h : FlueHdr) (p : KindleP) (s : State) (ho : Sound qs s) : Gives qs (execKindleNogo lane h p s) := by
  unfold execKindleNogo; simp (maxDischargeDepth := 20) [ho]

@[simp] theorem execKindleDone_sound {qs : List Instr} (lane : Nat) (h : FlueHdr) (p : KindleP) (s : State) (ho : Sound qs s) : Gives qs (execKindleDone lane h p s) := by
  unfold execKindleDone; simp (maxDischargeDepth := 20) [ho]

@[simp] theorem execKindleAbandon_sound {qs : List Instr} (lane : Nat) (h : FlueHdr) (p : KindleP) (s : State) (ho : Sound qs s) : Gives qs (execKindleAbandon lane h p s) := by
  unfold execKindleAbandon; simp (maxDischargeDepth := 20) [ho]

@[simp] theorem objFrame_sound {qs : List Instr} (op lane : Nat) (h : FlueHdr) (p : ObjWriteP) (s : State) (ho : Sound qs s) : Sound qs (objFrame op lane h p s) := by
  unfold objFrame; simp (maxDischargeDepth := 20) [ho]

@[simp] theorem execObjwriteApply_sound {qs : List Instr} (lane : Nat) (h : FlueHdr) (p : ObjWriteP) (s : State) (ho : Sound qs s) : Gives qs (execObjwriteApply lane h p s) := by
  unfold execObjwriteApply; simp (maxDischargeDepth := 20) [ho]

@[simp] theorem execObjwriteAck_sound {qs : List Instr} (lane : Nat) (h : FlueHdr) (p : ObjWriteP) (s : State) (ho : Sound qs s) : Gives qs (execObjwriteAck lane h p s) := by
  unfold execObjwriteAck; simp (maxDischargeDepth := 20) [ho]

@[simp] theorem execObjwriteNack_sound {qs : List Instr} (lane : Nat) (h : FlueHdr) (p : ObjWriteP) (s : State) (ho : Sound qs s) : Gives qs (execObjwriteNack lane h p s) := by
  unfold execObjwriteNack; simp (maxDischargeDepth := 20) [ho]

@[simp] theorem execObjwriteForward_sound {qs : List Instr} (lane : Nat) (h : FlueHdr) (p : ObjWriteP) (s : State) (ho : Sound qs s) : Gives qs (execObjwriteForward lane h p s) := by
  unfold execObjwriteForward; simp (maxDischargeDepth := 20) [ho]

@[simp] theorem execObjwriteResult_sound {qs : List Instr} (lane : Nat) (h : FlueHdr) (p : ObjWriteP) (s : State) (ho : Sound qs s) : Gives qs (execObjwriteResult lane h p s) := by
  unfold execObjwriteResult; simp (maxDischargeDepth := 20) [ho]

@[simp] theorem execReorderHoldExpiry_sound {qs : List Instr} (rule : Nat) (s : State) (ho : Sound qs s) : Gives qs (execReorderHoldExpiry rule s) := by
  unfold execReorderHoldExpiry; simp (maxDischargeDepth := 20) [ho]

@[simp] theorem sendStatus_sound {qs : List Instr} (s : State) (ho : Sound qs s) : Sound qs (sendStatus s) := by
  unfold sendStatus; simp (maxDischargeDepth := 20) [ho]

@[simp] theorem countBeat_sound {qs : List Instr} (s : State) (ho : Sound qs s) : Sound qs (countBeat s) := by
  unfold countBeat; simp (maxDischargeDepth := 20) [ho]

@[simp] theorem closeBudget_sound {qs : List Instr} (s : State) (ho : Sound qs s) : Sound qs (closeBudget s) := by
  unfold closeBudget; simp (maxDischargeDepth := 20) [ho]

@[simp] theorem setStale_sound {qs : List Instr} (t : Nat) (on : Bool) (s : State) (ho : Sound qs s) : Sound qs (setStale t on s) := by
  unfold setStale; simp (maxDischargeDepth := 20) [ho]

@[simp] theorem descBeat_sound {qs : List Instr} (s : State) (t : Nat) (ho : Sound qs s) : Sound qs (descBeat s t) := by
  unfold descBeat; simp (maxDischargeDepth := 20) [ho]

@[simp] theorem descsBeat_sound {qs : List Instr} (s : State) (ho : Sound qs s) : Sound qs (descsBeat s) := by
  unfold descsBeat; simp +contextual (maxDischargeDepth := 20) [ho]

@[simp] theorem takeMasks_sound {qs : List Instr} (s : State) (ho : Sound qs s) : Sound qs (takeMasks s) := by
  unfold takeMasks; simp (maxDischargeDepth := 20) [ho]

@[simp] theorem applyBeatClass_sound {qs : List Instr} (s : State) (ho : Sound qs s) : Sound qs (applyBeatClass s) := by
  unfold applyBeatClass; simp (maxDischargeDepth := 20) [ho]

@[simp] theorem segBeat_sound {qs : List Instr} (s : State) (n : Nat) (ho : Sound qs s) : Sound qs (segBeat s n) := by
  unfold segBeat; (try dsimp only); (repeat' split) <;> simp (maxDischargeDepth := 20) [*]

@[simp] theorem segsBeat_sound {qs : List Instr} (s : State) (ho : Sound qs s) : Sound qs (segsBeat s) := by
  unfold segsBeat; simp +contextual (maxDischargeDepth := 20) [ho]

@[simp] theorem retryRecord_sound {qs : List Instr} (s : State) (ho : Sound qs s) : Sound qs (retryRecord s) := by
  unfold retryRecord; simp (maxDischargeDepth := 20) [ho]

@[simp] theorem repeatClaim_sound {qs : List Instr} (s : State) (ho : Sound qs s) : Sound qs (repeatClaim s) := by
  unfold repeatClaim; simp (maxDischargeDepth := 20) [ho]

@[simp] theorem dropSwitchSeen_sound {qs : List Instr} (s : State) (ho : Sound qs s) : Sound qs (dropSwitchSeen s) := by
  unfold dropSwitchSeen; split <;> simp (maxDischargeDepth := 20) [*]

@[simp] theorem pairBeat_sound {qs : List Instr} (s : State) (ho : Sound qs s) : Sound qs (pairBeat s) := by
  unfold pairBeat; simp (maxDischargeDepth := 20) [ho]

@[simp] theorem beat_sound {qs : List Instr} (s : State) (ho : Sound qs s) : Sound qs (beat s) := by
  unfold beat; simp +contextual (maxDischargeDepth := 20) [ho]

@[simp] theorem execBeatBoundary_sound {qs : List Instr} (s : State) (ho : Sound qs s) : Gives qs (execBeatBoundary s) := by
  unfold execBeatBoundary; simp (maxDischargeDepth := 20) [ho]

@[simp] theorem after_sound {qs : List Instr} {o : Host.Outcome State Fault Refusal} (hk : Gives qs o) (s : State) (ho : Sound qs s) :
    Sound qs (after o s) := by
  unfold after; split
  · exact hk
  · exact ho

@[simp] theorem newMask_sound {qs : List Instr} (status old new : Word) (src : Nat) (s : State) (ho : Sound qs s) : Sound qs (newMask status old new src s) := by
  unfold newMask; simp (maxDischargeDepth := 20) [ho]

@[simp] theorem supWrite_sound {qs : List Instr} (o core : Nat) (level : Level) (w : Word) (s : State) (ho : Sound qs s) : Sound qs (supWrite o core level w s) := by
  unfold supWrite; split <;> simp (maxDischargeDepth := 20) [*]

@[simp] theorem trimWrite_sound {qs : List Instr} (w : Word) (s : State) (ho : Sound qs s) : Sound qs (trimWrite w s) := by
  unfold trimWrite; simp (maxDischargeDepth := 20) [ho]

@[simp] theorem hckWrite_sound {qs : List Instr} (o : Nat) (w : Word) (s : State) (ho : Sound qs s) : Sound qs (hckWrite o w s) := by
  unfold hckWrite; split <;> simp (maxDischargeDepth := 20) [*]

@[simp] theorem rtcWrite_sound {qs : List Instr} (o : Nat) (w : Word) (s : State) (ho : Sound qs s) : Sound qs (rtcWrite o w s) := by
  unfold rtcWrite; split <;> simp (maxDischargeDepth := 20) [*]

@[simp] theorem embWrite_sound {qs : List Instr} (o : Nat) (level : Level) (w : Word) (s : State) (ho : Sound qs s) : Sound qs (embWrite o level w s) := by
  unfold embWrite; (try dsimp only); (repeat' split) <;> simp (maxDischargeDepth := 20) [*]

@[simp] theorem embWrite64_sound {qs : List Instr} (o : Nat) (level : Level) (v : DWord) (s : State) (ho : Sound qs s) : Sound qs (embWrite64 o level v s) := by
  unfold embWrite64; simp (maxDischargeDepth := 20) [ho]

@[simp] theorem hpwWrite_sound {qs : List Instr} (o : Nat) (w : Word) (s : State) (ho : Sound qs s) : Sound qs (hpwWrite o w s) := by
  unfold hpwWrite; split <;> simp (maxDischargeDepth := 20) [*]

@[simp] theorem pairWrite_sound {qs : List Instr} (o : Nat) (level : Level) (w : Word) (s : State) (ho : Sound qs s) : Sound qs (pairWrite o level w s) := by
  unfold pairWrite; split <;> simp (maxDischargeDepth := 20) [*]

@[simp] theorem fluCfg_sound {qs : List Instr} (w : Word) (s : State) (ho : Sound qs s) : Sound qs (fluCfg w s) := by
  unfold fluCfg; simp (maxDischargeDepth := 20) [ho]

@[simp] theorem fluWrite_sound {qs : List Instr} (o : Nat) (w : Word) (s : State) (ho : Sound qs s) : Sound qs (fluWrite o w s) := by
  unfold fluWrite; split <;> simp (maxDischargeDepth := 20) [*]

@[simp] theorem segWrite_sound {qs : List Instr} (n : Nat) (w : Word) (s : State) (ho : Sound qs s) : Sound qs (segWrite n w s) := by
  unfold segWrite; simp (maxDischargeDepth := 20) [ho]

@[simp] theorem cycWrite_sound {qs : List Instr} (o core : Nat) (level : Level) (w : Word) (s : State) (ho : Sound qs s) : Sound qs (cycWrite o core level w s) := by
  unfold cycWrite; split <;> simp (maxDischargeDepth := 20) [*]

@[simp] theorem cycWrite64_sound {qs : List Instr} (o : Nat) (level : Level) (v : DWord) (s : State) (ho : Sound qs s) : Sound qs (cycWrite64 o level v s) := by
  unfold cycWrite64; split <;> simp (maxDischargeDepth := 20) [*]

@[simp] theorem fptHalt_sound {qs : List Instr} (n : Nat) (f : Port → Port) (s : State) (ho : Sound qs s) : Sound qs (fptHalt n f s) := by
  unfold fptHalt; simp (maxDischargeDepth := 20) [ho]

@[simp] theorem fptWrite_sound {qs : List Instr} (n o : Nat) (level : Level) (w : Word) (s : State) (ho : Sound qs s) : Sound qs (fptWrite n o level w s) := by
  unfold fptWrite; split <;> simp (maxDischargeDepth := 20) [*]

@[simp] theorem lioHalt_sound {qs : List Instr} (f : Lio → Lio) (s : State) (ho : Sound qs s) : Sound qs (lioHalt f s) := by
  unfold lioHalt; simp (maxDischargeDepth := 20) [ho]

@[simp] theorem lioWrite_sound {qs : List Instr} (o : Nat) (level : Level) (w : Word) (s : State) (ho : Sound qs s) : Sound qs (lioWrite o level w s) := by
  unfold lioWrite; split <;> simp (maxDischargeDepth := 20) [*]

@[simp] theorem lioWrite64_sound {qs : List Instr} (o : Nat) (v : DWord) (s : State) (ho : Sound qs s) : Sound qs (lioWrite64 o v s) := by
  unfold lioWrite64; split <;> simp (maxDischargeDepth := 20) [*]

@[simp] theorem dicWrite_sound {qs : List Instr} (o : Nat) (w : Word) (s : State) (ho : Sound qs s) : Sound qs (dicWrite o w s) := by
  unfold dicWrite; simp (maxDischargeDepth := 20) [ho]

@[simp] theorem fijHalt_sound {qs : List Instr} (f : Mnt → Mnt) (s : State) (ho : Sound qs s) : Sound qs (fijHalt f s) := by
  unfold fijHalt; simp (maxDischargeDepth := 20) [ho]

@[simp] theorem fijWrite_sound {qs : List Instr} (o : Nat) (level : Level) (w : Word) (s : State) (ho : Sound qs s) : Sound qs (fijWrite o level w s) := by
  unfold fijWrite; split <;> simp (maxDischargeDepth := 20) [*]

@[simp] theorem jrnCfg_sound {qs : List Instr} (w : Word) (s : State) (ho : Sound qs s) : Sound qs (jrnCfg w s) := by
  unfold jrnCfg; simp (maxDischargeDepth := 20) [ho]

@[simp] theorem jrnWrite_sound {qs : List Instr} (o : Nat) (w : Word) (s : State) (ho : Sound qs s) : Sound qs (jrnWrite o w s) := by
  unfold jrnWrite; split <;> simp (maxDischargeDepth := 20) [*]

@[simp] theorem evrCfg_sound {qs : List Instr} (w : Word) (s : State) (ho : Sound qs s) : Sound qs (evrCfg w s) := by
  unfold evrCfg; simp (maxDischargeDepth := 20) [ho]

@[simp] theorem windowData_sound {qs : List Instr} (win k : Nat) (level : Level) (w : Word) (s : State) (ho : Sound qs s) : Sound qs (windowData win k level w s) := by
  unfold windowData; simp (maxDischargeDepth := 20) [ho]

@[simp] theorem evrWindow_sound {qs : List Instr} (o : Nat) (level : Level) (w : Word) (s : State) (ho : Sound qs s) : Sound qs (evrWindow o level w s) := by
  unfold evrWindow; simp (maxDischargeDepth := 20) [ho]

@[simp] theorem evrWrite_sound {qs : List Instr} (o : Nat) (level : Level) (w : Word) (s : State) (ho : Sound qs s) : Sound qs (evrWrite o level w s) := by
  unfold evrWrite; split <;> simp (maxDischargeDepth := 20) [*]

@[simp] theorem ksCmd_sound {qs : List Instr} (w : Word) (s : State) (ho : Sound qs s) : Sound qs (ksCmd w s) := by
  unfold ksCmd; (try dsimp only); (repeat' split) <;> simp (maxDischargeDepth := 20) [*]

@[simp] theorem ksWrite_sound {qs : List Instr} (o : Nat) (w : Word) (s : State) (ho : Sound qs s) : Sound qs (ksWrite o w s) := by
  unfold ksWrite; split <;> simp (maxDischargeDepth := 20) [*]

@[simp] theorem crdWrite_sound {qs : List Instr} (o : Nat) (w : Word) (s : State) (ho : Sound qs s) : Sound qs (crdWrite o w s) := by
  unfold crdWrite; split <;> simp (maxDischargeDepth := 20) [*]

@[simp] theorem audRegWrite_sound {qs : List Instr} (o : Nat) (w : Word) (s : State) (ho : Sound qs s) : Sound qs (audRegWrite o w s) := by
  unfold audRegWrite; split <;> simp (maxDischargeDepth := 20) [*]

@[simp] theorem sclCtrl_sound {qs : List Instr} (w : Word) (s : State) (ho : Sound qs s) : Sound qs (sclCtrl w s) := by
  unfold sclCtrl; simp (maxDischargeDepth := 20) [ho]

@[simp] theorem sclChCmd_sound {qs : List Instr} (w : Word) (s : State) (ho : Sound qs s) : Sound qs (sclChCmd w s) := by
  unfold sclChCmd; (try dsimp only); (repeat' split) <;> simp (maxDischargeDepth := 20) [*]

@[simp] theorem sclHaltWr_sound {qs : List Instr} (s : State) (ho : Sound qs s) : Sound qs (sclHaltWr s) := by
  unfold sclHaltWr; simp (maxDischargeDepth := 20) [ho]

@[simp] theorem sclMap_sound {qs : List Instr} (n : Nat) (w : Word) (s : State) (ho : Sound qs s) : Sound qs (sclMap n w s) := by
  unfold sclMap; simp (maxDischargeDepth := 20) [ho]

@[simp] theorem sclParam_sound {qs : List Instr} (j sub : Nat) (v : DWord) (s : State) (ho : Sound qs s) : Sound qs (sclParam j sub v s) := by
  unfold sclParam; split <;> simp (maxDischargeDepth := 20) [*]

@[simp] theorem sclWrite_sound {qs : List Instr} (o : Nat) (w : Word) (s : State) (ho : Sound qs s) : Sound qs (sclWrite o w s) := by
  unfold sclWrite; split <;> simp (maxDischargeDepth := 20) [*]

@[simp] theorem sclWrite64_sound {qs : List Instr} (o : Nat) (v : DWord) (s : State) (ho : Sound qs s) : Sound qs (sclWrite64 o v s) := by
  unfold sclWrite64; simp (maxDischargeDepth := 20) [ho]

@[simp] theorem gateWrite_sound {qs : List Instr} (o : Nat) (level : Level) (w : Word) (s : State) (ho : Sound qs s) : Sound qs (gateWrite o level w s) := by
  unfold gateWrite; split <;> simp (maxDischargeDepth := 20) [*]

@[simp] theorem gateWrite64_sound {qs : List Instr} (o : Nat) (v : DWord) (s : State) (ho : Sound qs s) : Sound qs (gateWrite64 o v s) := by
  unfold gateWrite64; simp (maxDischargeDepth := 20) [ho]

@[simp] theorem regWrite_sound {qs : List Instr} (b : Blk) (o core : Nat) (level : Level) (w : Word) (s : State) (ho : Sound qs s) : Sound qs (regWrite b o core level w s) := by
  unfold regWrite; split <;> simp (maxDischargeDepth := 20) [*]

@[simp] theorem regWrite64_sound {qs : List Instr} (b : Blk) (o : Nat) (level : Level) (v : DWord) (s : State) (ho : Sound qs s) : Sound qs (regWrite64 b o level v s) := by
  unfold regWrite64; split <;> simp (maxDischargeDepth := 20) [*]

@[simp] theorem dropLatch_sound {qs : List Instr} (m : Master) (s : State) (ho : Sound qs s) : Sound qs (dropLatch m s) := by
  unfold dropLatch; simp (maxDischargeDepth := 20) [ho]

@[simp] theorem write32_sound {qs : List Instr} (m : Master) (level : Level) (b : Blk) (base o : Nat) (w : Word) (s : State) (ho : Sound qs s) : Sound qs (write32 m level b base o w s) := by
  unfold write32; (try dsimp only); (repeat' split) <;> simp (maxDischargeDepth := 20) [*]

@[simp] theorem writeReg_sound {qs : List Instr} (m : Master) (level : Level) (b : Blk) (base o len v : Nat) (s : State) (ho : Sound qs s) : Sound qs (writeReg m level b base o len v s) := by
  unfold writeReg; simp (maxDischargeDepth := 20) [ho]

@[simp] theorem doorRead_sound {qs : List Instr} (m : Master) (a len : Nat) (s : State) (ho : Sound qs s) : Sound qs (doorRead m a len s) := by
  unfold doorRead; simp (maxDischargeDepth := 20) [ho]

@[simp] theorem memPut_sound {qs : List Instr} (a : Nat) (bs : List Byte) (s : State) (ho : Sound qs s) : Sound qs (memPut a bs s) := by
  unfold memPut
  refine markRange_sound _ _ _ (sound_mem ho (from_foldl (fun m x h => ?_) _ (from_mem s)))
  split <;> simp [h]

@[simp] theorem countMbx_sound {qs : List Instr} (c : Bool) (s : State) (ho : Sound qs s) : Sound qs (countMbx c s) := by
  unfold countMbx; split
  · exact sound_cord ho (fromC_same rfl rfl rfl)
  · exact ho

@[simp] theorem mailboxWrite_sound {qs : List Instr} (m : Master) (level : Level) (a : Nat) (bs : List Byte) (s : State) (ho : Sound qs s) :
    Sound qs (mailboxWrite m level a bs s) := by
  have k : Sound qs (if a - mbxBase = 0 ∧ 4 ≤ bs.length then reqDoor m level (BitVec.ofNat 32 (leAt bs 0 4)) s
      else countMbx (decide (a - mbxBase < 4)) s) := by
    split
    · exact reqDoor_sound _ _ _ _ ho
    · exact countMbx_sound _ s ho
  unfold mailboxWrite
  refine sound_mem (countMbx_sound _ _ k) (from_foldl (fun m x h => ?_) _ (from_mem _))
  dsimp only
  split
  · exact h
  · exact wf_writeByte h _ _

@[simp] theorem read32_sound {qs : List Instr} (m : Master) (b : Blk) (base o : Nat) (s : State) (ho : Sound qs s) : Sound qs (read32 m b base o s).1 := by
  unfold read32; (try dsimp only); (repeat' split) <;> simp (maxDischargeDepth := 20) [*]

@[simp] theorem readReg_sound {qs : List Instr} (m : Master) (b : Blk) (base o len : Nat) (s : State) (ho : Sound qs s) :
    Sound qs (readReg m b base o len s).1 := by
  unfold readReg
  split
  · simp (maxDischargeDepth := 20) [ho]
  · split
    · exact sound_gate ho (fromG_harvest s)
    · split <;> simp (maxDischargeDepth := 20) [ho]

@[simp] theorem serveReg_sound {qs : List Instr} (r : BusReq) (level : Level) (b : Blk) (o : Nat) (s : State) (ho : Sound qs s) : Sound qs (serveReg r level b o s).1 := by
  unfold serveReg; (try dsimp only); (repeat' split) <;> simp (maxDischargeDepth := 20) [*]

@[simp] theorem servePart_sound {qs : List Instr} (r : BusReq) (level : Level) (s : State) (p : Nat × Nat) (ho : Sound qs s) : Sound qs (servePart r level s p).1 := by
  unfold servePart; (try dsimp only); (repeat' split) <;> simp (maxDischargeDepth := 20) [*]

@[simp] theorem serveParts_sound {qs : List Instr} (r : BusReq) (level : Level) (ps : List (Nat × Nat)) (s : State) (ho : Sound qs s) :
    Sound qs (serveParts r level ps s).1 := by
  unfold serveParts
  suffices H : ∀ a : State × List Byte, Sound qs a.1 →
      Sound qs (ps.foldl (fun acc p => let (t, d) := servePart r level acc.1 p; (t, acc.2 ++ d)) a).1 from H (s, []) ho
  induction ps with
  | nil => exact fun a h => h
  | cons p ps ih => exact fun a h => ih _ (by simp [h])

@[simp] theorem serve_sound {qs : List Instr} (r : BusReq) (level : Level) (ps : List (Nat × Nat)) (s : State) (ho : Sound qs s) : Sound qs (serve r level ps s).1 := by
  unfold serve; (try dsimp only); (repeat' split) <;> simp (maxDischargeDepth := 20) [*]

@[simp] theorem masterEnd_sound {qs : List Instr} (m : Master) (e : BusEnd) (s : State) (ho : Sound qs s) : Sound qs (masterEnd m e s) := by
  unfold masterEnd; (try dsimp only); (repeat' split) <;> simp (maxDischargeDepth := 20) [*]

@[simp] theorem answer_sound {qs : List Instr} (m : Master) (e : BusEnd) (s : State) (ho : Sound qs s) : Sound qs (answer m e s) := by
  unfold answer; simp (maxDischargeDepth := 20) [ho]

@[simp] theorem refuse_sound {qs : List Instr} (r : BusReq) (level : Level) (a : Nat) (split fixed parity : Bool) (gate : Nat) (s : State) (ho : Sound qs s) : Sound qs (refuse r level a split fixed parity gate s) := by
  unfold refuse; simp (maxDischargeDepth := 20) [ho]

@[simp] theorem offer_sound {qs : List Instr} (r : BusReq) (level : Level) (s : State) (ho : Sound qs s) : Sound qs (offer r level s) := by
  unfold offer; simp (maxDischargeDepth := 20) [ho]

@[simp] theorem checked_sound {qs : List Instr} (r : BusReq) (level : Level) (s : State) (ho : Sound qs s) : Sound qs (checked r level s) := by
  unfold checked; (try dsimp only); (repeat' split) <;> simp (maxDischargeDepth := 20) [*]

@[simp] theorem cordPut_sound {qs : List Instr} (a : Nat) (bs : List Byte) (s : State) (ho : Sound qs s) : Sound qs (cordPut a bs s) := by
  unfold cordPut; simp (maxDischargeDepth := 20) [ho]

@[simp] theorem cordRequest_sound {qs : List Instr} (r : BusReq) (s : State) (ho : Sound qs s) : Sound qs (cordRequest r s) := by
  unfold cordRequest; (try dsimp only); (repeat' split) <;> simp (maxDischargeDepth := 20) [*]

@[simp] theorem parityFirst_sound {qs : List Instr} (r : BusReq) (s : State) (ho : Sound qs s) : Sound qs (parityFirst r s).1 := by
  unfold parityFirst; split <;> simp (maxDischargeDepth := 20) [*]

@[simp] theorem busRequest_sound {qs : List Instr} (r : BusReq) (s : State) (ho : Sound qs s) : Sound qs (busRequest r s) := by
  unfold busRequest; simp (maxDischargeDepth := 20) [ho]

theorem takeRetry_sound {qs : List Instr} (m : Master) (s : State) (ho : Sound qs s) : ∀ x ∈ takeRetry m s, Sound qs x.2 := by
  unfold takeRetry
  split <;> simp (maxDischargeDepth := 20) [ho]

@[simp] theorem retryAgain_sound {qs : List Instr} (x : Retry) (s : State) (ho : Sound qs s) : Sound qs (retryAgain x s) := by
  unfold retryAgain; simp (maxDischargeDepth := 20) [ho]

@[simp] theorem retryReissue_sound {qs : List Instr} (m : Master) (busy : Bool) (s : State) (ho : Sound qs s) : Sound qs (retryReissue m busy s) := by
  unfold retryReissue
  split
  · exact ho
  · rename_i x t e
    have k : Sound qs t := takeRetry_sound m s ho _ e
    dsimp only
    (repeat' split) <;> simp (maxDischargeDepth := 20) [k, ho]

@[simp] theorem registerWrite_sound {qs : List Instr} (m : Master) (level : Level) (a : Nat) (wide : Bool) (v : DWord) (s : State) (ho : Sound qs s) : Sound qs (registerWrite m level a wide v s) := by
  unfold registerWrite; simp (maxDischargeDepth := 20) [ho]

@[simp] theorem execBusRequest_sound {qs : List Instr} (r : BusReq) (s : State) (ho : Sound qs s) : Gives qs (execBusRequest r s) := by
  unfold execBusRequest; simp (maxDischargeDepth := 20) [ho]

@[simp] theorem execRetryReissue_sound {qs : List Instr} (master : Master) (busy : Bool) (s : State) (ho : Sound qs s) : Gives qs (execRetryReissue master busy s) := by
  unfold execRetryReissue; simp (maxDischargeDepth := 20) [ho]

@[simp] theorem execRegisterWrite_sound {qs : List Instr} (master : Master) (level : Level) (addr : Nat) (wide : Bool) (value : DWord) (s : State) (ho : Sound qs s) : Gives qs (execRegisterWrite master level addr wide value s) := by
  unfold execRegisterWrite; simp (maxDischargeDepth := 20) [ho]

@[simp] theorem clockTick_sound {qs : List Instr} (s : State) (ho : Sound qs s) : Sound qs (clockTick s) := by
  unfold clockTick; simp (maxDischargeDepth := 20) [ho]

@[simp] theorem measure_sound {qs : List Instr} (s : State) (ho : Sound qs s) : Sound qs (Machine.measure s) := by
  unfold Machine.measure; simp (maxDischargeDepth := 20) [ho]

@[simp] theorem laneTick_sound {qs : List Instr} (s : State) (n : Nat) (ho : Sound qs s) : Sound qs (laneTick s n) := by
  unfold laneTick; (try dsimp only); (repeat' split) <;> simp (maxDischargeDepth := 20) [*]

@[simp] theorem portTick_sound {qs : List Instr} (s : State) (n : Nat) (ho : Sound qs s) : Sound qs (portTick s n) := by
  unfold portTick; simp (maxDischargeDepth := 20) [ho]

@[simp] theorem windowTick_sound {qs : List Instr} (s : State) (n : Nat) (ho : Sound qs s) : Sound qs (windowTick s n) := by
  unfold windowTick; split <;> simp (maxDischargeDepth := 20) [*]

@[simp] theorem deliver_sound {qs : List Instr} (s : State) (m : OutMsg) (ho : Sound qs s) : Sound qs (deliver s m) := by
  unfold deliver; split <;> simp (maxDischargeDepth := 20) [*]

@[simp] theorem deliverAll_sound {qs : List Instr} (s : State) (ho : Sound qs s) : Sound qs (deliverAll s) := by
  unfold deliverAll; simp +contextual (maxDischargeDepth := 20) [ho]

@[simp] theorem dueRestart_sound {qs : List Instr} (s : State) (ho : Sound qs s) : Sound qs (dueRestart s) := by
  unfold dueRestart; split <;> simp (maxDischargeDepth := 20) [*]

@[simp] theorem passHeld_sound {qs : List Instr} (s : State) (ho : Sound qs s) : Sound qs (passHeld s) := by
  unfold passHeld; simp +contextual (maxDischargeDepth := 20) [ho]

@[simp] theorem tick_sound {qs : List Instr} (s : State) (ho : Sound qs s) : Sound qs (tick s) := by
  unfold tick; simp +contextual (maxDischargeDepth := 20) [ho]

end Sys2Proof.Laws
end

