-- ==== Sys2Proof/Laws/SoundExec.lean ====
section
/-!
SUPPORT. Over all commands: every meaning keeps what `Sound` says, and every meaning ends by settling the levels of a next state.
-/

namespace Sys2Proof.Laws

open Sys2Proof Sys2Proof.Machine

/-- Every command keeps the queue that waits behind it, the memory's form, the recorder's room, MOPEN, the Damper's law and Cord's mode law. -/
theorem exec_sound (c : Instr) (s : State) (h : Sound s.pending s) : Gives s.pending (exec c s) := by
  cases c <;> simp only [exec] <;> simp [h]

/-- Every command answers the settled next state of its effect. -/
theorem exec_ends (c : Instr) (s : State) : ∃ u, exec c s = finish u := by
  cases c
  case deltasComplete => simp only [exec, execDeltasComplete]; (repeat' split) <;> exact ⟨_, rfl⟩
  case commitDurable => simp only [exec, execCommitDurable]; (repeat' split) <;> exact ⟨_, rfl⟩
  case seasoningPassDone => simp only [exec, execSeasoningPassDone]; (repeat' split) <;> exact ⟨_, rfl⟩
  all_goals exact ⟨_, rfl⟩

end Sys2Proof.Laws
end

