-- ==== Sys2Proof/Laws/State.lean ====
section
/-!
SUPPORT. What the shared operations leave alone, one lemma for each field and operation: a later proof rewrites with them and unfolds no
record update. (The file comes after the laws that every command keeps the sound states: their proofs take whole states apart, and
rewriting one field of them would only get in the way.)
-/

namespace Sys2Proof.Laws

open Sys2Proof Sys2Proof.Machine

-- ring

@[simp] theorem ring_pending (src : Nat) (s : State) : (ring src s).pending = s.pending := by
  unfold ring; rfl
@[simp] theorem ring_now (src : Nat) (s : State) : (ring src s).now = s.now := by
  unfold ring; rfl
@[simp] theorem ring_freeCtr (src : Nat) (s : State) : (ring src s).freeCtr = s.freeCtr := by
  unfold ring; rfl
@[simp] theorem ring_mem (src : Nat) (s : State) : (ring src s).mem = s.mem := by
  unfold ring; rfl
@[simp] theorem ring_sup (src : Nat) (s : State) : (ring src s).sup = s.sup := by
  unfold ring; rfl
@[simp] theorem ring_hw (src : Nat) (s : State) : (ring src s).hw = s.hw := by
  unfold ring; rfl
@[simp] theorem ring_clk (src : Nat) (s : State) : (ring src s).clk = s.clk := by
  unfold ring; rfl
@[simp] theorem ring_tim (src : Nat) (s : State) : (ring src s).tim = s.tim := by
  unfold ring; rfl
@[simp] theorem ring_pair (src : Nat) (s : State) : (ring src s).pair = s.pair := by
  unfold ring; rfl
@[simp] theorem ring_flu (src : Nat) (s : State) : (ring src s).flu = s.flu := by
  unfold ring; rfl
@[simp] theorem ring_fluq (src : Nat) (s : State) : (ring src s).fluq = s.fluq := by
  unfold ring; rfl
@[simp] theorem ring_cyc (src : Nat) (s : State) : (ring src s).cyc = s.cyc := by
  unfold ring; rfl
@[simp] theorem ring_run (src : Nat) (s : State) : (ring src s).run = s.run := by
  unfold ring; rfl
@[simp] theorem ring_chg (src : Nat) (s : State) : (ring src s).chg = s.chg := by
  unfold ring; rfl
@[simp] theorem ring_fol (src : Nat) (s : State) : (ring src s).fol = s.fol := by
  unfold ring; rfl
@[simp] theorem ring_cord (src : Nat) (s : State) : (ring src s).cord = s.cord := by
  unfold ring; rfl
@[simp] theorem ring_legal (src : Nat) (s : State) : (ring src s).legal = s.legal := by
  unfold ring; rfl
@[simp] theorem ring_aud (src : Nat) (s : State) : (ring src s).aud = s.aud := by
  unfold ring; rfl
@[simp] theorem ring_scl (src : Nat) (s : State) : (ring src s).scl = s.scl := by
  unfold ring; rfl
@[simp] theorem ring_od (src : Nat) (s : State) : (ring src s).od = s.od := by
  unfold ring; rfl
@[simp] theorem ring_upd (src : Nat) (s : State) : (ring src s).upd = s.upd := by
  unfold ring; rfl
@[simp] theorem ring_ks (src : Nat) (s : State) : (ring src s).ks = s.ks := by
  unfold ring; rfl
@[simp] theorem ring_jrn (src : Nat) (s : State) : (ring src s).jrn = s.jrn := by
  unfold ring; rfl
@[simp] theorem ring_evr (src : Nat) (s : State) : (ring src s).evr = s.evr := by
  unfold ring; rfl
@[simp] theorem ring_gate (src : Nat) (s : State) : (ring src s).gate = s.gate := by
  unfold ring; rfl
@[simp] theorem ring_emb (src : Nat) (s : State) : (ring src s).emb = s.emb := by
  unfold ring; rfl
@[simp] theorem ring_lio (src : Nat) (s : State) : (ring src s).lio = s.lio := by
  unfold ring; rfl
@[simp] theorem ring_mnt (src : Nat) (s : State) : (ring src s).mnt = s.mnt := by
  unfold ring; rfl
@[simp] theorem ring_bus (src : Nat) (s : State) : (ring src s).bus = s.bus := by
  unfold ring; rfl
@[simp] theorem ring_out (src : Nat) (s : State) : (ring src s).out = s.out := by
  unfold ring; rfl

-- ringIf

@[simp] theorem ringIf_pending (c : Bool) (src : Nat) (s : State) : (ringIf c src s).pending = s.pending := by
  unfold ringIf; split <;> simp
@[simp] theorem ringIf_now (c : Bool) (src : Nat) (s : State) : (ringIf c src s).now = s.now := by
  unfold ringIf; split <;> simp
@[simp] theorem ringIf_freeCtr (c : Bool) (src : Nat) (s : State) : (ringIf c src s).freeCtr = s.freeCtr := by
  unfold ringIf; split <;> simp
@[simp] theorem ringIf_mem (c : Bool) (src : Nat) (s : State) : (ringIf c src s).mem = s.mem := by
  unfold ringIf; split <;> simp
@[simp] theorem ringIf_sup (c : Bool) (src : Nat) (s : State) : (ringIf c src s).sup = s.sup := by
  unfold ringIf; split <;> simp
@[simp] theorem ringIf_hw (c : Bool) (src : Nat) (s : State) : (ringIf c src s).hw = s.hw := by
  unfold ringIf; split <;> simp
@[simp] theorem ringIf_clk (c : Bool) (src : Nat) (s : State) : (ringIf c src s).clk = s.clk := by
  unfold ringIf; split <;> simp
@[simp] theorem ringIf_tim (c : Bool) (src : Nat) (s : State) : (ringIf c src s).tim = s.tim := by
  unfold ringIf; split <;> simp
@[simp] theorem ringIf_pair (c : Bool) (src : Nat) (s : State) : (ringIf c src s).pair = s.pair := by
  unfold ringIf; split <;> simp
@[simp] theorem ringIf_flu (c : Bool) (src : Nat) (s : State) : (ringIf c src s).flu = s.flu := by
  unfold ringIf; split <;> simp
@[simp] theorem ringIf_fluq (c : Bool) (src : Nat) (s : State) : (ringIf c src s).fluq = s.fluq := by
  unfold ringIf; split <;> simp
@[simp] theorem ringIf_cyc (c : Bool) (src : Nat) (s : State) : (ringIf c src s).cyc = s.cyc := by
  unfold ringIf; split <;> simp
@[simp] theorem ringIf_run (c : Bool) (src : Nat) (s : State) : (ringIf c src s).run = s.run := by
  unfold ringIf; split <;> simp
@[simp] theorem ringIf_chg (c : Bool) (src : Nat) (s : State) : (ringIf c src s).chg = s.chg := by
  unfold ringIf; split <;> simp
@[simp] theorem ringIf_fol (c : Bool) (src : Nat) (s : State) : (ringIf c src s).fol = s.fol := by
  unfold ringIf; split <;> simp
@[simp] theorem ringIf_cord (c : Bool) (src : Nat) (s : State) : (ringIf c src s).cord = s.cord := by
  unfold ringIf; split <;> simp
@[simp] theorem ringIf_legal (c : Bool) (src : Nat) (s : State) : (ringIf c src s).legal = s.legal := by
  unfold ringIf; split <;> simp
@[simp] theorem ringIf_aud (c : Bool) (src : Nat) (s : State) : (ringIf c src s).aud = s.aud := by
  unfold ringIf; split <;> simp
@[simp] theorem ringIf_scl (c : Bool) (src : Nat) (s : State) : (ringIf c src s).scl = s.scl := by
  unfold ringIf; split <;> simp
@[simp] theorem ringIf_od (c : Bool) (src : Nat) (s : State) : (ringIf c src s).od = s.od := by
  unfold ringIf; split <;> simp
@[simp] theorem ringIf_upd (c : Bool) (src : Nat) (s : State) : (ringIf c src s).upd = s.upd := by
  unfold ringIf; split <;> simp
@[simp] theorem ringIf_ks (c : Bool) (src : Nat) (s : State) : (ringIf c src s).ks = s.ks := by
  unfold ringIf; split <;> simp
@[simp] theorem ringIf_jrn (c : Bool) (src : Nat) (s : State) : (ringIf c src s).jrn = s.jrn := by
  unfold ringIf; split <;> simp
@[simp] theorem ringIf_evr (c : Bool) (src : Nat) (s : State) : (ringIf c src s).evr = s.evr := by
  unfold ringIf; split <;> simp
@[simp] theorem ringIf_gate (c : Bool) (src : Nat) (s : State) : (ringIf c src s).gate = s.gate := by
  unfold ringIf; split <;> simp
@[simp] theorem ringIf_emb (c : Bool) (src : Nat) (s : State) : (ringIf c src s).emb = s.emb := by
  unfold ringIf; split <;> simp
@[simp] theorem ringIf_lio (c : Bool) (src : Nat) (s : State) : (ringIf c src s).lio = s.lio := by
  unfold ringIf; split <;> simp
@[simp] theorem ringIf_mnt (c : Bool) (src : Nat) (s : State) : (ringIf c src s).mnt = s.mnt := by
  unfold ringIf; split <;> simp
@[simp] theorem ringIf_bus (c : Bool) (src : Nat) (s : State) : (ringIf c src s).bus = s.bus := by
  unfold ringIf; split <;> simp
@[simp] theorem ringIf_out (c : Bool) (src : Nat) (s : State) : (ringIf c src s).out = s.out := by
  unfold ringIf; split <;> simp

-- postRecs

@[simp] theorem postRecs_pending (code : Nat) (rs : List EvRec) (s : State) : (postRecs code rs s).pending = s.pending := by
  unfold postRecs; split
  · rfl
  · split <;> rfl
@[simp] theorem postRecs_now (code : Nat) (rs : List EvRec) (s : State) : (postRecs code rs s).now = s.now := by
  unfold postRecs; split
  · rfl
  · split <;> rfl
@[simp] theorem postRecs_freeCtr (code : Nat) (rs : List EvRec) (s : State) : (postRecs code rs s).freeCtr = s.freeCtr := by
  unfold postRecs; split
  · rfl
  · split <;> rfl
@[simp] theorem postRecs_mem (code : Nat) (rs : List EvRec) (s : State) : (postRecs code rs s).mem = s.mem := by
  unfold postRecs; split
  · rfl
  · split <;> rfl
@[simp] theorem postRecs_hw (code : Nat) (rs : List EvRec) (s : State) : (postRecs code rs s).hw = s.hw := by
  unfold postRecs; split
  · rfl
  · split <;> rfl
@[simp] theorem postRecs_clk (code : Nat) (rs : List EvRec) (s : State) : (postRecs code rs s).clk = s.clk := by
  unfold postRecs; split
  · rfl
  · split <;> rfl
@[simp] theorem postRecs_tim (code : Nat) (rs : List EvRec) (s : State) : (postRecs code rs s).tim = s.tim := by
  unfold postRecs; split
  · rfl
  · split <;> rfl
@[simp] theorem postRecs_pair (code : Nat) (rs : List EvRec) (s : State) : (postRecs code rs s).pair = s.pair := by
  unfold postRecs; split
  · rfl
  · split <;> rfl
@[simp] theorem postRecs_flu (code : Nat) (rs : List EvRec) (s : State) : (postRecs code rs s).flu = s.flu := by
  unfold postRecs; split
  · rfl
  · split <;> rfl
@[simp] theorem postRecs_fluq (code : Nat) (rs : List EvRec) (s : State) : (postRecs code rs s).fluq = s.fluq := by
  unfold postRecs; split
  · rfl
  · split <;> rfl
@[simp] theorem postRecs_cyc (code : Nat) (rs : List EvRec) (s : State) : (postRecs code rs s).cyc = s.cyc := by
  unfold postRecs; split
  · rfl
  · split <;> rfl
@[simp] theorem postRecs_run (code : Nat) (rs : List EvRec) (s : State) : (postRecs code rs s).run = s.run := by
  unfold postRecs; split
  · rfl
  · split <;> rfl
@[simp] theorem postRecs_chg (code : Nat) (rs : List EvRec) (s : State) : (postRecs code rs s).chg = s.chg := by
  unfold postRecs; split
  · rfl
  · split <;> rfl
@[simp] theorem postRecs_fol (code : Nat) (rs : List EvRec) (s : State) : (postRecs code rs s).fol = s.fol := by
  unfold postRecs; split
  · rfl
  · split <;> rfl
@[simp] theorem postRecs_cord (code : Nat) (rs : List EvRec) (s : State) : (postRecs code rs s).cord = s.cord := by
  unfold postRecs; split
  · rfl
  · split <;> rfl
@[simp] theorem postRecs_legal (code : Nat) (rs : List EvRec) (s : State) : (postRecs code rs s).legal = s.legal := by
  unfold postRecs; split
  · rfl
  · split <;> rfl
@[simp] theorem postRecs_aud (code : Nat) (rs : List EvRec) (s : State) : (postRecs code rs s).aud = s.aud := by
  unfold postRecs; split
  · rfl
  · split <;> rfl
@[simp] theorem postRecs_scl (code : Nat) (rs : List EvRec) (s : State) : (postRecs code rs s).scl = s.scl := by
  unfold postRecs; split
  · rfl
  · split <;> rfl
@[simp] theorem postRecs_od (code : Nat) (rs : List EvRec) (s : State) : (postRecs code rs s).od = s.od := by
  unfold postRecs; split
  · rfl
  · split <;> rfl
@[simp] theorem postRecs_upd (code : Nat) (rs : List EvRec) (s : State) : (postRecs code rs s).upd = s.upd := by
  unfold postRecs; split
  · rfl
  · split <;> rfl
@[simp] theorem postRecs_ks (code : Nat) (rs : List EvRec) (s : State) : (postRecs code rs s).ks = s.ks := by
  unfold postRecs; split
  · rfl
  · split <;> rfl
@[simp] theorem postRecs_jrn (code : Nat) (rs : List EvRec) (s : State) : (postRecs code rs s).jrn = s.jrn := by
  unfold postRecs; split
  · rfl
  · split <;> rfl
@[simp] theorem postRecs_gate (code : Nat) (rs : List EvRec) (s : State) : (postRecs code rs s).gate = s.gate := by
  unfold postRecs; split
  · rfl
  · split <;> rfl
@[simp] theorem postRecs_emb (code : Nat) (rs : List EvRec) (s : State) : (postRecs code rs s).emb = s.emb := by
  unfold postRecs; split
  · rfl
  · split <;> rfl
@[simp] theorem postRecs_lio (code : Nat) (rs : List EvRec) (s : State) : (postRecs code rs s).lio = s.lio := by
  unfold postRecs; split
  · rfl
  · split <;> rfl
@[simp] theorem postRecs_mnt (code : Nat) (rs : List EvRec) (s : State) : (postRecs code rs s).mnt = s.mnt := by
  unfold postRecs; split
  · rfl
  · split <;> rfl
@[simp] theorem postRecs_bus (code : Nat) (rs : List EvRec) (s : State) : (postRecs code rs s).bus = s.bus := by
  unfold postRecs; split
  · rfl
  · split <;> rfl
@[simp] theorem postRecs_out (code : Nat) (rs : List EvRec) (s : State) : (postRecs code rs s).out = s.out := by
  unfold postRecs; split
  · rfl
  · split <;> rfl

-- post

@[simp] theorem post_pending (code : Nat) (block : Byte) (data : List Byte) (s : State) : (post code block data s).pending = s.pending := by
  unfold post; simp
@[simp] theorem post_now (code : Nat) (block : Byte) (data : List Byte) (s : State) : (post code block data s).now = s.now := by
  unfold post; simp
@[simp] theorem post_freeCtr (code : Nat) (block : Byte) (data : List Byte) (s : State) : (post code block data s).freeCtr = s.freeCtr := by
  unfold post; simp
@[simp] theorem post_mem (code : Nat) (block : Byte) (data : List Byte) (s : State) : (post code block data s).mem = s.mem := by
  unfold post; simp
@[simp] theorem post_hw (code : Nat) (block : Byte) (data : List Byte) (s : State) : (post code block data s).hw = s.hw := by
  unfold post; simp
@[simp] theorem post_clk (code : Nat) (block : Byte) (data : List Byte) (s : State) : (post code block data s).clk = s.clk := by
  unfold post; simp
@[simp] theorem post_tim (code : Nat) (block : Byte) (data : List Byte) (s : State) : (post code block data s).tim = s.tim := by
  unfold post; simp
@[simp] theorem post_pair (code : Nat) (block : Byte) (data : List Byte) (s : State) : (post code block data s).pair = s.pair := by
  unfold post; simp
@[simp] theorem post_flu (code : Nat) (block : Byte) (data : List Byte) (s : State) : (post code block data s).flu = s.flu := by
  unfold post; simp
@[simp] theorem post_fluq (code : Nat) (block : Byte) (data : List Byte) (s : State) : (post code block data s).fluq = s.fluq := by
  unfold post; simp
@[simp] theorem post_cyc (code : Nat) (block : Byte) (data : List Byte) (s : State) : (post code block data s).cyc = s.cyc := by
  unfold post; simp
@[simp] theorem post_run (code : Nat) (block : Byte) (data : List Byte) (s : State) : (post code block data s).run = s.run := by
  unfold post; simp
@[simp] theorem post_chg (code : Nat) (block : Byte) (data : List Byte) (s : State) : (post code block data s).chg = s.chg := by
  unfold post; simp
@[simp] theorem post_fol (code : Nat) (block : Byte) (data : List Byte) (s : State) : (post code block data s).fol = s.fol := by
  unfold post; simp
@[simp] theorem post_cord (code : Nat) (block : Byte) (data : List Byte) (s : State) : (post code block data s).cord = s.cord := by
  unfold post; simp
@[simp] theorem post_legal (code : Nat) (block : Byte) (data : List Byte) (s : State) : (post code block data s).legal = s.legal := by
  unfold post; simp
@[simp] theorem post_aud (code : Nat) (block : Byte) (data : List Byte) (s : State) : (post code block data s).aud = s.aud := by
  unfold post; simp
@[simp] theorem post_scl (code : Nat) (block : Byte) (data : List Byte) (s : State) : (post code block data s).scl = s.scl := by
  unfold post; simp
@[simp] theorem post_od (code : Nat) (block : Byte) (data : List Byte) (s : State) : (post code block data s).od = s.od := by
  unfold post; simp
@[simp] theorem post_upd (code : Nat) (block : Byte) (data : List Byte) (s : State) : (post code block data s).upd = s.upd := by
  unfold post; simp
@[simp] theorem post_ks (code : Nat) (block : Byte) (data : List Byte) (s : State) : (post code block data s).ks = s.ks := by
  unfold post; simp
@[simp] theorem post_jrn (code : Nat) (block : Byte) (data : List Byte) (s : State) : (post code block data s).jrn = s.jrn := by
  unfold post; simp
@[simp] theorem post_gate (code : Nat) (block : Byte) (data : List Byte) (s : State) : (post code block data s).gate = s.gate := by
  unfold post; simp
@[simp] theorem post_emb (code : Nat) (block : Byte) (data : List Byte) (s : State) : (post code block data s).emb = s.emb := by
  unfold post; simp
@[simp] theorem post_lio (code : Nat) (block : Byte) (data : List Byte) (s : State) : (post code block data s).lio = s.lio := by
  unfold post; simp
@[simp] theorem post_mnt (code : Nat) (block : Byte) (data : List Byte) (s : State) : (post code block data s).mnt = s.mnt := by
  unfold post; simp
@[simp] theorem post_bus (code : Nat) (block : Byte) (data : List Byte) (s : State) : (post code block data s).bus = s.bus := by
  unfold post; simp
@[simp] theorem post_out (code : Nat) (block : Byte) (data : List Byte) (s : State) : (post code block data s).out = s.out := by
  unfold post; simp

-- postIf

@[simp] theorem postIf_pending (c : Bool) (code : Nat) (block : Byte) (data : List Byte) (s : State) : (postIf c code block data s).pending = s.pending := by
  unfold postIf; split <;> simp
@[simp] theorem postIf_now (c : Bool) (code : Nat) (block : Byte) (data : List Byte) (s : State) : (postIf c code block data s).now = s.now := by
  unfold postIf; split <;> simp
@[simp] theorem postIf_freeCtr (c : Bool) (code : Nat) (block : Byte) (data : List Byte) (s : State) : (postIf c code block data s).freeCtr = s.freeCtr := by
  unfold postIf; split <;> simp
@[simp] theorem postIf_mem (c : Bool) (code : Nat) (block : Byte) (data : List Byte) (s : State) : (postIf c code block data s).mem = s.mem := by
  unfold postIf; split <;> simp
@[simp] theorem postIf_hw (c : Bool) (code : Nat) (block : Byte) (data : List Byte) (s : State) : (postIf c code block data s).hw = s.hw := by
  unfold postIf; split <;> simp
@[simp] theorem postIf_clk (c : Bool) (code : Nat) (block : Byte) (data : List Byte) (s : State) : (postIf c code block data s).clk = s.clk := by
  unfold postIf; split <;> simp
@[simp] theorem postIf_tim (c : Bool) (code : Nat) (block : Byte) (data : List Byte) (s : State) : (postIf c code block data s).tim = s.tim := by
  unfold postIf; split <;> simp
@[simp] theorem postIf_pair (c : Bool) (code : Nat) (block : Byte) (data : List Byte) (s : State) : (postIf c code block data s).pair = s.pair := by
  unfold postIf; split <;> simp
@[simp] theorem postIf_flu (c : Bool) (code : Nat) (block : Byte) (data : List Byte) (s : State) : (postIf c code block data s).flu = s.flu := by
  unfold postIf; split <;> simp
@[simp] theorem postIf_fluq (c : Bool) (code : Nat) (block : Byte) (data : List Byte) (s : State) : (postIf c code block data s).fluq = s.fluq := by
  unfold postIf; split <;> simp
@[simp] theorem postIf_cyc (c : Bool) (code : Nat) (block : Byte) (data : List Byte) (s : State) : (postIf c code block data s).cyc = s.cyc := by
  unfold postIf; split <;> simp
@[simp] theorem postIf_run (c : Bool) (code : Nat) (block : Byte) (data : List Byte) (s : State) : (postIf c code block data s).run = s.run := by
  unfold postIf; split <;> simp
@[simp] theorem postIf_chg (c : Bool) (code : Nat) (block : Byte) (data : List Byte) (s : State) : (postIf c code block data s).chg = s.chg := by
  unfold postIf; split <;> simp
@[simp] theorem postIf_fol (c : Bool) (code : Nat) (block : Byte) (data : List Byte) (s : State) : (postIf c code block data s).fol = s.fol := by
  unfold postIf; split <;> simp
@[simp] theorem postIf_cord (c : Bool) (code : Nat) (block : Byte) (data : List Byte) (s : State) : (postIf c code block data s).cord = s.cord := by
  unfold postIf; split <;> simp
@[simp] theorem postIf_legal (c : Bool) (code : Nat) (block : Byte) (data : List Byte) (s : State) : (postIf c code block data s).legal = s.legal := by
  unfold postIf; split <;> simp
@[simp] theorem postIf_aud (c : Bool) (code : Nat) (block : Byte) (data : List Byte) (s : State) : (postIf c code block data s).aud = s.aud := by
  unfold postIf; split <;> simp
@[simp] theorem postIf_scl (c : Bool) (code : Nat) (block : Byte) (data : List Byte) (s : State) : (postIf c code block data s).scl = s.scl := by
  unfold postIf; split <;> simp
@[simp] theorem postIf_od (c : Bool) (code : Nat) (block : Byte) (data : List Byte) (s : State) : (postIf c code block data s).od = s.od := by
  unfold postIf; split <;> simp
@[simp] theorem postIf_upd (c : Bool) (code : Nat) (block : Byte) (data : List Byte) (s : State) : (postIf c code block data s).upd = s.upd := by
  unfold postIf; split <;> simp
@[simp] theorem postIf_ks (c : Bool) (code : Nat) (block : Byte) (data : List Byte) (s : State) : (postIf c code block data s).ks = s.ks := by
  unfold postIf; split <;> simp
@[simp] theorem postIf_jrn (c : Bool) (code : Nat) (block : Byte) (data : List Byte) (s : State) : (postIf c code block data s).jrn = s.jrn := by
  unfold postIf; split <;> simp
@[simp] theorem postIf_gate (c : Bool) (code : Nat) (block : Byte) (data : List Byte) (s : State) : (postIf c code block data s).gate = s.gate := by
  unfold postIf; split <;> simp
@[simp] theorem postIf_emb (c : Bool) (code : Nat) (block : Byte) (data : List Byte) (s : State) : (postIf c code block data s).emb = s.emb := by
  unfold postIf; split <;> simp
@[simp] theorem postIf_lio (c : Bool) (code : Nat) (block : Byte) (data : List Byte) (s : State) : (postIf c code block data s).lio = s.lio := by
  unfold postIf; split <;> simp
@[simp] theorem postIf_mnt (c : Bool) (code : Nat) (block : Byte) (data : List Byte) (s : State) : (postIf c code block data s).mnt = s.mnt := by
  unfold postIf; split <;> simp
@[simp] theorem postIf_bus (c : Bool) (code : Nat) (block : Byte) (data : List Byte) (s : State) : (postIf c code block data s).bus = s.bus := by
  unfold postIf; split <;> simp
@[simp] theorem postIf_out (c : Bool) (code : Nat) (block : Byte) (data : List Byte) (s : State) : (postIf c code block data s).out = s.out := by
  unfold postIf; split <;> simp

-- supPost

@[simp] theorem supPost_pending (code : Nat) (data : List Byte) (s : State) : (supPost code data s).pending = s.pending := by
  unfold supPost; split
  · rfl
  · split <;> rfl
@[simp] theorem supPost_now (code : Nat) (data : List Byte) (s : State) : (supPost code data s).now = s.now := by
  unfold supPost; split
  · rfl
  · split <;> rfl
@[simp] theorem supPost_freeCtr (code : Nat) (data : List Byte) (s : State) : (supPost code data s).freeCtr = s.freeCtr := by
  unfold supPost; split
  · rfl
  · split <;> rfl
@[simp] theorem supPost_mem (code : Nat) (data : List Byte) (s : State) : (supPost code data s).mem = s.mem := by
  unfold supPost; split
  · rfl
  · split <;> rfl
@[simp] theorem supPost_hw (code : Nat) (data : List Byte) (s : State) : (supPost code data s).hw = s.hw := by
  unfold supPost; split
  · rfl
  · split <;> rfl
@[simp] theorem supPost_clk (code : Nat) (data : List Byte) (s : State) : (supPost code data s).clk = s.clk := by
  unfold supPost; split
  · rfl
  · split <;> rfl
@[simp] theorem supPost_tim (code : Nat) (data : List Byte) (s : State) : (supPost code data s).tim = s.tim := by
  unfold supPost; split
  · rfl
  · split <;> rfl
@[simp] theorem supPost_pair (code : Nat) (data : List Byte) (s : State) : (supPost code data s).pair = s.pair := by
  unfold supPost; split
  · rfl
  · split <;> rfl
@[simp] theorem supPost_flu (code : Nat) (data : List Byte) (s : State) : (supPost code data s).flu = s.flu := by
  unfold supPost; split
  · rfl
  · split <;> rfl
@[simp] theorem supPost_fluq (code : Nat) (data : List Byte) (s : State) : (supPost code data s).fluq = s.fluq := by
  unfold supPost; split
  · rfl
  · split <;> rfl
@[simp] theorem supPost_cyc (code : Nat) (data : List Byte) (s : State) : (supPost code data s).cyc = s.cyc := by
  unfold supPost; split
  · rfl
  · split <;> rfl
@[simp] theorem supPost_run (code : Nat) (data : List Byte) (s : State) : (supPost code data s).run = s.run := by
  unfold supPost; split
  · rfl
  · split <;> rfl
@[simp] theorem supPost_chg (code : Nat) (data : List Byte) (s : State) : (supPost code data s).chg = s.chg := by
  unfold supPost; split
  · rfl
  · split <;> rfl
@[simp] theorem supPost_fol (code : Nat) (data : List Byte) (s : State) : (supPost code data s).fol = s.fol := by
  unfold supPost; split
  · rfl
  · split <;> rfl
@[simp] theorem supPost_cord (code : Nat) (data : List Byte) (s : State) : (supPost code data s).cord = s.cord := by
  unfold supPost; split
  · rfl
  · split <;> rfl
@[simp] theorem supPost_legal (code : Nat) (data : List Byte) (s : State) : (supPost code data s).legal = s.legal := by
  unfold supPost; split
  · rfl
  · split <;> rfl
@[simp] theorem supPost_aud (code : Nat) (data : List Byte) (s : State) : (supPost code data s).aud = s.aud := by
  unfold supPost; split
  · rfl
  · split <;> rfl
@[simp] theorem supPost_scl (code : Nat) (data : List Byte) (s : State) : (supPost code data s).scl = s.scl := by
  unfold supPost; split
  · rfl
  · split <;> rfl
@[simp] theorem supPost_od (code : Nat) (data : List Byte) (s : State) : (supPost code data s).od = s.od := by
  unfold supPost; split
  · rfl
  · split <;> rfl
@[simp] theorem supPost_upd (code : Nat) (data : List Byte) (s : State) : (supPost code data s).upd = s.upd := by
  unfold supPost; split
  · rfl
  · split <;> rfl
@[simp] theorem supPost_ks (code : Nat) (data : List Byte) (s : State) : (supPost code data s).ks = s.ks := by
  unfold supPost; split
  · rfl
  · split <;> rfl
@[simp] theorem supPost_jrn (code : Nat) (data : List Byte) (s : State) : (supPost code data s).jrn = s.jrn := by
  unfold supPost; split
  · rfl
  · split <;> rfl
@[simp] theorem supPost_gate (code : Nat) (data : List Byte) (s : State) : (supPost code data s).gate = s.gate := by
  unfold supPost; split
  · rfl
  · split <;> rfl
@[simp] theorem supPost_dic (code : Nat) (data : List Byte) (s : State) : (supPost code data s).dic = s.dic := by
  unfold supPost; split
  · rfl
  · split <;> rfl
@[simp] theorem supPost_emb (code : Nat) (data : List Byte) (s : State) : (supPost code data s).emb = s.emb := by
  unfold supPost; split
  · rfl
  · split <;> rfl
@[simp] theorem supPost_lio (code : Nat) (data : List Byte) (s : State) : (supPost code data s).lio = s.lio := by
  unfold supPost; split
  · rfl
  · split <;> rfl
@[simp] theorem supPost_mnt (code : Nat) (data : List Byte) (s : State) : (supPost code data s).mnt = s.mnt := by
  unfold supPost; split
  · rfl
  · split <;> rfl
@[simp] theorem supPost_bus (code : Nat) (data : List Byte) (s : State) : (supPost code data s).bus = s.bus := by
  unfold supPost; split
  · rfl
  · split <;> rfl
@[simp] theorem supPost_out (code : Nat) (data : List Byte) (s : State) : (supPost code data s).out = s.out := by
  unfold supPost; split
  · rfl
  · split <;> rfl

-- send

@[simp] theorem send_pending (m : OutMsg) (s : State) : (send m s).pending = s.pending := rfl
@[simp] theorem send_now (m : OutMsg) (s : State) : (send m s).now = s.now := rfl
@[simp] theorem send_freeCtr (m : OutMsg) (s : State) : (send m s).freeCtr = s.freeCtr := rfl
@[simp] theorem send_mem (m : OutMsg) (s : State) : (send m s).mem = s.mem := rfl
@[simp] theorem send_sup (m : OutMsg) (s : State) : (send m s).sup = s.sup := rfl
@[simp] theorem send_hw (m : OutMsg) (s : State) : (send m s).hw = s.hw := rfl
@[simp] theorem send_clk (m : OutMsg) (s : State) : (send m s).clk = s.clk := rfl
@[simp] theorem send_tim (m : OutMsg) (s : State) : (send m s).tim = s.tim := rfl
@[simp] theorem send_pair (m : OutMsg) (s : State) : (send m s).pair = s.pair := rfl
@[simp] theorem send_flu (m : OutMsg) (s : State) : (send m s).flu = s.flu := rfl
@[simp] theorem send_fluq (m : OutMsg) (s : State) : (send m s).fluq = s.fluq := rfl
@[simp] theorem send_cyc (m : OutMsg) (s : State) : (send m s).cyc = s.cyc := rfl
@[simp] theorem send_run (m : OutMsg) (s : State) : (send m s).run = s.run := rfl
@[simp] theorem send_chg (m : OutMsg) (s : State) : (send m s).chg = s.chg := rfl
@[simp] theorem send_fol (m : OutMsg) (s : State) : (send m s).fol = s.fol := rfl
@[simp] theorem send_cord (m : OutMsg) (s : State) : (send m s).cord = s.cord := rfl
@[simp] theorem send_legal (m : OutMsg) (s : State) : (send m s).legal = s.legal := rfl
@[simp] theorem send_aud (m : OutMsg) (s : State) : (send m s).aud = s.aud := rfl
@[simp] theorem send_scl (m : OutMsg) (s : State) : (send m s).scl = s.scl := rfl
@[simp] theorem send_od (m : OutMsg) (s : State) : (send m s).od = s.od := rfl
@[simp] theorem send_upd (m : OutMsg) (s : State) : (send m s).upd = s.upd := rfl
@[simp] theorem send_ks (m : OutMsg) (s : State) : (send m s).ks = s.ks := rfl
@[simp] theorem send_jrn (m : OutMsg) (s : State) : (send m s).jrn = s.jrn := rfl
@[simp] theorem send_evr (m : OutMsg) (s : State) : (send m s).evr = s.evr := rfl
@[simp] theorem send_gate (m : OutMsg) (s : State) : (send m s).gate = s.gate := rfl
@[simp] theorem send_dic (m : OutMsg) (s : State) : (send m s).dic = s.dic := rfl
@[simp] theorem send_emb (m : OutMsg) (s : State) : (send m s).emb = s.emb := rfl
@[simp] theorem send_lio (m : OutMsg) (s : State) : (send m s).lio = s.lio := rfl
@[simp] theorem send_mnt (m : OutMsg) (s : State) : (send m s).mnt = s.mnt := rfl
@[simp] theorem send_bus (m : OutMsg) (s : State) : (send m s).bus = s.bus := rfl

-- recordFault

@[simp] theorem recordFault_pending (level code cause : Nat) (block : Byte) (cell : Nat) (s : State) : (recordFault level code cause block cell s).pending = s.pending := by
  unfold recordFault; simp
@[simp] theorem recordFault_now (level code cause : Nat) (block : Byte) (cell : Nat) (s : State) : (recordFault level code cause block cell s).now = s.now := by
  unfold recordFault; simp
@[simp] theorem recordFault_freeCtr (level code cause : Nat) (block : Byte) (cell : Nat) (s : State) : (recordFault level code cause block cell s).freeCtr = s.freeCtr := by
  unfold recordFault; simp
@[simp] theorem recordFault_mem (level code cause : Nat) (block : Byte) (cell : Nat) (s : State) : (recordFault level code cause block cell s).mem = s.mem := by
  unfold recordFault; simp
@[simp] theorem recordFault_hw (level code cause : Nat) (block : Byte) (cell : Nat) (s : State) : (recordFault level code cause block cell s).hw = s.hw := by
  unfold recordFault; simp
@[simp] theorem recordFault_clk (level code cause : Nat) (block : Byte) (cell : Nat) (s : State) : (recordFault level code cause block cell s).clk = s.clk := by
  unfold recordFault; simp
@[simp] theorem recordFault_tim (level code cause : Nat) (block : Byte) (cell : Nat) (s : State) : (recordFault level code cause block cell s).tim = s.tim := by
  unfold recordFault; simp
@[simp] theorem recordFault_pair (level code cause : Nat) (block : Byte) (cell : Nat) (s : State) : (recordFault level code cause block cell s).pair = s.pair := by
  unfold recordFault; simp
@[simp] theorem recordFault_flu (level code cause : Nat) (block : Byte) (cell : Nat) (s : State) : (recordFault level code cause block cell s).flu = s.flu := by
  unfold recordFault; simp
@[simp] theorem recordFault_fluq (level code cause : Nat) (block : Byte) (cell : Nat) (s : State) : (recordFault level code cause block cell s).fluq = s.fluq := by
  unfold recordFault; simp
@[simp] theorem recordFault_cyc (level code cause : Nat) (block : Byte) (cell : Nat) (s : State) : (recordFault level code cause block cell s).cyc = s.cyc := by
  unfold recordFault; simp
@[simp] theorem recordFault_run (level code cause : Nat) (block : Byte) (cell : Nat) (s : State) : (recordFault level code cause block cell s).run = s.run := by
  unfold recordFault; simp
@[simp] theorem recordFault_chg (level code cause : Nat) (block : Byte) (cell : Nat) (s : State) : (recordFault level code cause block cell s).chg = s.chg := by
  unfold recordFault; simp
@[simp] theorem recordFault_fol (level code cause : Nat) (block : Byte) (cell : Nat) (s : State) : (recordFault level code cause block cell s).fol = s.fol := by
  unfold recordFault; simp
@[simp] theorem recordFault_cord (level code cause : Nat) (block : Byte) (cell : Nat) (s : State) : (recordFault level code cause block cell s).cord = s.cord := by
  unfold recordFault; simp
@[simp] theorem recordFault_legal (level code cause : Nat) (block : Byte) (cell : Nat) (s : State) : (recordFault level code cause block cell s).legal = s.legal := by
  unfold recordFault; simp
@[simp] theorem recordFault_aud (level code cause : Nat) (block : Byte) (cell : Nat) (s : State) : (recordFault level code cause block cell s).aud = s.aud := by
  unfold recordFault; simp
@[simp] theorem recordFault_scl (level code cause : Nat) (block : Byte) (cell : Nat) (s : State) : (recordFault level code cause block cell s).scl = s.scl := by
  unfold recordFault; simp
@[simp] theorem recordFault_od (level code cause : Nat) (block : Byte) (cell : Nat) (s : State) : (recordFault level code cause block cell s).od = s.od := by
  unfold recordFault; simp
@[simp] theorem recordFault_upd (level code cause : Nat) (block : Byte) (cell : Nat) (s : State) : (recordFault level code cause block cell s).upd = s.upd := by
  unfold recordFault; simp
@[simp] theorem recordFault_ks (level code cause : Nat) (block : Byte) (cell : Nat) (s : State) : (recordFault level code cause block cell s).ks = s.ks := by
  unfold recordFault; simp
@[simp] theorem recordFault_jrn (level code cause : Nat) (block : Byte) (cell : Nat) (s : State) : (recordFault level code cause block cell s).jrn = s.jrn := by
  unfold recordFault; simp
@[simp] theorem recordFault_gate (level code cause : Nat) (block : Byte) (cell : Nat) (s : State) : (recordFault level code cause block cell s).gate = s.gate := by
  unfold recordFault; simp
@[simp] theorem recordFault_dic (level code cause : Nat) (block : Byte) (cell : Nat) (s : State) : (recordFault level code cause block cell s).dic = s.dic := by
  unfold recordFault; simp
@[simp] theorem recordFault_emb (level code cause : Nat) (block : Byte) (cell : Nat) (s : State) : (recordFault level code cause block cell s).emb = s.emb := by
  unfold recordFault; simp
@[simp] theorem recordFault_lio (level code cause : Nat) (block : Byte) (cell : Nat) (s : State) : (recordFault level code cause block cell s).lio = s.lio := by
  unfold recordFault; simp
@[simp] theorem recordFault_mnt (level code cause : Nat) (block : Byte) (cell : Nat) (s : State) : (recordFault level code cause block cell s).mnt = s.mnt := by
  unfold recordFault; simp
@[simp] theorem recordFault_bus (level code cause : Nat) (block : Byte) (cell : Nat) (s : State) : (recordFault level code cause block cell s).bus = s.bus := by
  unfold recordFault; simp
@[simp] theorem recordFault_out (level code cause : Nat) (block : Byte) (cell : Nat) (s : State) : (recordFault level code cause block cell s).out = s.out := by
  unfold recordFault; simp

-- noteRegion

@[simp] theorem noteRegion_pending (r : Nat) (s : State) : (noteRegion r s).pending = s.pending := by
  unfold noteRegion; simp
@[simp] theorem noteRegion_now (r : Nat) (s : State) : (noteRegion r s).now = s.now := by
  unfold noteRegion; simp
@[simp] theorem noteRegion_freeCtr (r : Nat) (s : State) : (noteRegion r s).freeCtr = s.freeCtr := by
  unfold noteRegion; simp
@[simp] theorem noteRegion_mem (r : Nat) (s : State) : (noteRegion r s).mem = s.mem := by
  unfold noteRegion; simp
@[simp] theorem noteRegion_hw (r : Nat) (s : State) : (noteRegion r s).hw = s.hw := by
  unfold noteRegion; simp
@[simp] theorem noteRegion_clk (r : Nat) (s : State) : (noteRegion r s).clk = s.clk := by
  unfold noteRegion; simp
@[simp] theorem noteRegion_tim (r : Nat) (s : State) : (noteRegion r s).tim = s.tim := by
  unfold noteRegion; simp
@[simp] theorem noteRegion_pair (r : Nat) (s : State) : (noteRegion r s).pair = s.pair := by
  unfold noteRegion; simp
@[simp] theorem noteRegion_flu (r : Nat) (s : State) : (noteRegion r s).flu = s.flu := by
  unfold noteRegion; simp
@[simp] theorem noteRegion_fluq (r : Nat) (s : State) : (noteRegion r s).fluq = s.fluq := by
  unfold noteRegion; simp
@[simp] theorem noteRegion_cyc (r : Nat) (s : State) : (noteRegion r s).cyc = s.cyc := by
  unfold noteRegion; simp
@[simp] theorem noteRegion_run (r : Nat) (s : State) : (noteRegion r s).run = s.run := by
  unfold noteRegion; simp
@[simp] theorem noteRegion_chg (r : Nat) (s : State) : (noteRegion r s).chg = s.chg := by
  unfold noteRegion; simp
@[simp] theorem noteRegion_fol (r : Nat) (s : State) : (noteRegion r s).fol = s.fol := by
  unfold noteRegion; simp
@[simp] theorem noteRegion_cord (r : Nat) (s : State) : (noteRegion r s).cord = s.cord := by
  unfold noteRegion; simp
@[simp] theorem noteRegion_legal (r : Nat) (s : State) : (noteRegion r s).legal = s.legal := by
  unfold noteRegion; simp
@[simp] theorem noteRegion_aud (r : Nat) (s : State) : (noteRegion r s).aud = s.aud := by
  unfold noteRegion; simp
@[simp] theorem noteRegion_scl (r : Nat) (s : State) : (noteRegion r s).scl = s.scl := by
  unfold noteRegion; simp
@[simp] theorem noteRegion_od (r : Nat) (s : State) : (noteRegion r s).od = s.od := by
  unfold noteRegion; simp
@[simp] theorem noteRegion_upd (r : Nat) (s : State) : (noteRegion r s).upd = s.upd := by
  unfold noteRegion; simp
@[simp] theorem noteRegion_ks (r : Nat) (s : State) : (noteRegion r s).ks = s.ks := by
  unfold noteRegion; simp
@[simp] theorem noteRegion_jrn (r : Nat) (s : State) : (noteRegion r s).jrn = s.jrn := by
  unfold noteRegion; simp
@[simp] theorem noteRegion_evr (r : Nat) (s : State) : (noteRegion r s).evr = s.evr := by
  unfold noteRegion; simp
@[simp] theorem noteRegion_gate (r : Nat) (s : State) : (noteRegion r s).gate = s.gate := by
  unfold noteRegion; simp
@[simp] theorem noteRegion_emb (r : Nat) (s : State) : (noteRegion r s).emb = s.emb := by
  unfold noteRegion; simp
@[simp] theorem noteRegion_lio (r : Nat) (s : State) : (noteRegion r s).lio = s.lio := by
  unfold noteRegion; simp
@[simp] theorem noteRegion_mnt (r : Nat) (s : State) : (noteRegion r s).mnt = s.mnt := by
  unfold noteRegion; simp
@[simp] theorem noteRegion_bus (r : Nat) (s : State) : (noteRegion r s).bus = s.bus := by
  unfold noteRegion; simp
@[simp] theorem noteRegion_out (r : Nat) (s : State) : (noteRegion r s).out = s.out := by
  unfold noteRegion; simp

-- blockFault

@[simp] theorem blockFault_pending (cause : Nat) (block : Byte) (cell : Nat) (s : State) : (blockFault cause block cell s).pending = s.pending := by
  unfold blockFault; simp
@[simp] theorem blockFault_now (cause : Nat) (block : Byte) (cell : Nat) (s : State) : (blockFault cause block cell s).now = s.now := by
  unfold blockFault; simp
@[simp] theorem blockFault_freeCtr (cause : Nat) (block : Byte) (cell : Nat) (s : State) : (blockFault cause block cell s).freeCtr = s.freeCtr := by
  unfold blockFault; simp
@[simp] theorem blockFault_mem (cause : Nat) (block : Byte) (cell : Nat) (s : State) : (blockFault cause block cell s).mem = s.mem := by
  unfold blockFault; simp
@[simp] theorem blockFault_hw (cause : Nat) (block : Byte) (cell : Nat) (s : State) : (blockFault cause block cell s).hw = s.hw := by
  unfold blockFault; simp
@[simp] theorem blockFault_clk (cause : Nat) (block : Byte) (cell : Nat) (s : State) : (blockFault cause block cell s).clk = s.clk := by
  unfold blockFault; simp
@[simp] theorem blockFault_tim (cause : Nat) (block : Byte) (cell : Nat) (s : State) : (blockFault cause block cell s).tim = s.tim := by
  unfold blockFault; simp
@[simp] theorem blockFault_pair (cause : Nat) (block : Byte) (cell : Nat) (s : State) : (blockFault cause block cell s).pair = s.pair := by
  unfold blockFault; simp
@[simp] theorem blockFault_flu (cause : Nat) (block : Byte) (cell : Nat) (s : State) : (blockFault cause block cell s).flu = s.flu := by
  unfold blockFault; simp
@[simp] theorem blockFault_fluq (cause : Nat) (block : Byte) (cell : Nat) (s : State) : (blockFault cause block cell s).fluq = s.fluq := by
  unfold blockFault; simp
@[simp] theorem blockFault_cyc (cause : Nat) (block : Byte) (cell : Nat) (s : State) : (blockFault cause block cell s).cyc = s.cyc := by
  unfold blockFault; simp
@[simp] theorem blockFault_run (cause : Nat) (block : Byte) (cell : Nat) (s : State) : (blockFault cause block cell s).run = s.run := by
  unfold blockFault; simp
@[simp] theorem blockFault_chg (cause : Nat) (block : Byte) (cell : Nat) (s : State) : (blockFault cause block cell s).chg = s.chg := by
  unfold blockFault; simp
@[simp] theorem blockFault_fol (cause : Nat) (block : Byte) (cell : Nat) (s : State) : (blockFault cause block cell s).fol = s.fol := by
  unfold blockFault; simp
@[simp] theorem blockFault_cord (cause : Nat) (block : Byte) (cell : Nat) (s : State) : (blockFault cause block cell s).cord = s.cord := by
  unfold blockFault; simp
@[simp] theorem blockFault_legal (cause : Nat) (block : Byte) (cell : Nat) (s : State) : (blockFault cause block cell s).legal = s.legal := by
  unfold blockFault; simp
@[simp] theorem blockFault_aud (cause : Nat) (block : Byte) (cell : Nat) (s : State) : (blockFault cause block cell s).aud = s.aud := by
  unfold blockFault; simp
@[simp] theorem blockFault_scl (cause : Nat) (block : Byte) (cell : Nat) (s : State) : (blockFault cause block cell s).scl = s.scl := by
  unfold blockFault; simp
@[simp] theorem blockFault_od (cause : Nat) (block : Byte) (cell : Nat) (s : State) : (blockFault cause block cell s).od = s.od := by
  unfold blockFault; simp
@[simp] theorem blockFault_upd (cause : Nat) (block : Byte) (cell : Nat) (s : State) : (blockFault cause block cell s).upd = s.upd := by
  unfold blockFault; simp
@[simp] theorem blockFault_ks (cause : Nat) (block : Byte) (cell : Nat) (s : State) : (blockFault cause block cell s).ks = s.ks := by
  unfold blockFault; simp
@[simp] theorem blockFault_jrn (cause : Nat) (block : Byte) (cell : Nat) (s : State) : (blockFault cause block cell s).jrn = s.jrn := by
  unfold blockFault; simp
@[simp] theorem blockFault_gate (cause : Nat) (block : Byte) (cell : Nat) (s : State) : (blockFault cause block cell s).gate = s.gate := by
  unfold blockFault; simp
@[simp] theorem blockFault_dic (cause : Nat) (block : Byte) (cell : Nat) (s : State) : (blockFault cause block cell s).dic = s.dic := by
  unfold blockFault; simp
@[simp] theorem blockFault_emb (cause : Nat) (block : Byte) (cell : Nat) (s : State) : (blockFault cause block cell s).emb = s.emb := by
  unfold blockFault; simp
@[simp] theorem blockFault_lio (cause : Nat) (block : Byte) (cell : Nat) (s : State) : (blockFault cause block cell s).lio = s.lio := by
  unfold blockFault; simp
@[simp] theorem blockFault_mnt (cause : Nat) (block : Byte) (cell : Nat) (s : State) : (blockFault cause block cell s).mnt = s.mnt := by
  unfold blockFault; simp
@[simp] theorem blockFault_bus (cause : Nat) (block : Byte) (cell : Nat) (s : State) : (blockFault cause block cell s).bus = s.bus := by
  unfold blockFault; simp
@[simp] theorem blockFault_out (cause : Nat) (block : Byte) (cell : Nat) (s : State) : (blockFault cause block cell s).out = s.out := by
  unfold blockFault; simp

-- settle

@[simp] theorem settle_pending (s : State) : (settle s).pending = s.pending := rfl
@[simp] theorem settle_now (s : State) : (settle s).now = s.now := rfl
@[simp] theorem settle_freeCtr (s : State) : (settle s).freeCtr = s.freeCtr := rfl
@[simp] theorem settle_mem (s : State) : (settle s).mem = s.mem := rfl
@[simp] theorem settle_hw (s : State) : (settle s).hw = s.hw := rfl
@[simp] theorem settle_clk (s : State) : (settle s).clk = s.clk := rfl
@[simp] theorem settle_tim (s : State) : (settle s).tim = s.tim := rfl
@[simp] theorem settle_flu (s : State) : (settle s).flu = s.flu := rfl
@[simp] theorem settle_fluq (s : State) : (settle s).fluq = s.fluq := rfl
@[simp] theorem settle_cyc (s : State) : (settle s).cyc = s.cyc := rfl
@[simp] theorem settle_run (s : State) : (settle s).run = s.run := rfl
@[simp] theorem settle_chg (s : State) : (settle s).chg = s.chg := rfl
@[simp] theorem settle_fol (s : State) : (settle s).fol = s.fol := rfl
@[simp] theorem settle_cord (s : State) : (settle s).cord = s.cord := rfl
@[simp] theorem settle_legal (s : State) : (settle s).legal = s.legal := rfl
@[simp] theorem settle_aud (s : State) : (settle s).aud = s.aud := rfl
@[simp] theorem settle_scl (s : State) : (settle s).scl = s.scl := rfl
@[simp] theorem settle_od (s : State) : (settle s).od = s.od := rfl
@[simp] theorem settle_upd (s : State) : (settle s).upd = s.upd := rfl
@[simp] theorem settle_ks (s : State) : (settle s).ks = s.ks := rfl
@[simp] theorem settle_jrn (s : State) : (settle s).jrn = s.jrn := rfl
@[simp] theorem settle_evr (s : State) : (settle s).evr = s.evr := rfl
@[simp] theorem settle_gate (s : State) : (settle s).gate = s.gate := rfl
@[simp] theorem settle_emb (s : State) : (settle s).emb = s.emb := rfl
@[simp] theorem settle_lio (s : State) : (settle s).lio = s.lio := rfl
@[simp] theorem settle_mnt (s : State) : (settle s).mnt = s.mnt := rfl
@[simp] theorem settle_bus (s : State) : (settle s).bus = s.bus := rfl
@[simp] theorem settle_out (s : State) : (settle s).out = s.out := rfl

-- what the ends of the meanings say

/-- While the module is not fail-silent, its levels are the cores' lines only. -/
@[simp] theorem settle_pair_loud {s : State} (h : s.sup.failSilent = false) : (settle s).pair = s.pair := by simp [settle, h]

@[simp] theorem settle_sup_loud {s : State} (h : s.sup.failSilent = false) : (settle s).sup = s.sup := by simp [settle, h]

/-- Nothing of the DIC but the sleep of its cores. -/
theorem settle_dic (s : State) : (settle s).dic = leaveIdle s.dic := rfl

@[simp] theorem leaveIdle_pend (d : Dic) : (leaveIdle d).pend = d.pend := rfl
@[simp] theorem leaveIdle_mask (d : Dic) : (leaveIdle d).mask = d.mask := rfl
@[simp] theorem leaveIdle_routes (d : Dic) : (leaveIdle d).routes = d.routes := rfl
@[simp] theorem leaveIdle_thresh (d : Dic) : (leaveIdle d).thresh = d.thresh := rfl
@[simp] theorem leaveIdle_rel (d : Dic) : (leaveIdle d).rel = d.rel := rfl
@[simp] theorem leaveIdle_ringCount (d : Dic) : (leaveIdle d).ringCount = d.ringCount := rfl
@[simp] theorem leaveIdle_stalls (d : Dic) : (leaveIdle d).stalls = d.stalls := rfl

/-- Every meaning ends in a next state. -/
theorem finish_next (s : State) : finish s = .next (settle s) := rfl


-- the supervisor after a posting and at the end of a meaning

@[simp] theorem postRecs_sup_regionFault (code : Nat) (rs : List EvRec) (s : State) : (postRecs code rs s).sup.regionFault = s.sup.regionFault := by
  unfold postRecs; split
  · rfl
  · split <;> rfl
@[simp] theorem post_sup_regionFault (code : Nat) (block : Byte) (data : List Byte) (s : State) : (post code block data s).sup.regionFault = s.sup.regionFault := by
  unfold post; simp
@[simp] theorem postIf_sup_regionFault (c : Bool) (code : Nat) (block : Byte) (data : List Byte) (s : State) : (postIf c code block data s).sup.regionFault = s.sup.regionFault := by
  unfold postIf; split <;> simp
@[simp] theorem supPost_sup_regionFault (code : Nat) (data : List Byte) (s : State) : (supPost code data s).sup.regionFault = s.sup.regionFault := by
  unfold supPost; split
  · rfl
  · split <;> rfl
@[simp] theorem settle_sup_regionFault (s : State) : (settle s).sup.regionFault = s.sup.regionFault := by
  unfold settle; dsimp only; split <;> rfl
@[simp] theorem postRecs_sup_isolated (code : Nat) (rs : List EvRec) (s : State) : (postRecs code rs s).sup.isolated = s.sup.isolated := by
  unfold postRecs; split
  · rfl
  · split <;> rfl
@[simp] theorem post_sup_isolated (code : Nat) (block : Byte) (data : List Byte) (s : State) : (post code block data s).sup.isolated = s.sup.isolated := by
  unfold post; simp
@[simp] theorem postIf_sup_isolated (c : Bool) (code : Nat) (block : Byte) (data : List Byte) (s : State) : (postIf c code block data s).sup.isolated = s.sup.isolated := by
  unfold postIf; split <;> simp
@[simp] theorem supPost_sup_isolated (code : Nat) (data : List Byte) (s : State) : (supPost code data s).sup.isolated = s.sup.isolated := by
  unfold supPost; split
  · rfl
  · split <;> rfl
@[simp] theorem settle_sup_isolated (s : State) : (settle s).sup.isolated = s.sup.isolated := by
  unfold settle; dsimp only; split <;> rfl
@[simp] theorem postRecs_sup_lastFault (code : Nat) (rs : List EvRec) (s : State) : (postRecs code rs s).sup.lastFault = s.sup.lastFault := by
  unfold postRecs; split
  · rfl
  · split <;> rfl
@[simp] theorem post_sup_lastFault (code : Nat) (block : Byte) (data : List Byte) (s : State) : (post code block data s).sup.lastFault = s.sup.lastFault := by
  unfold post; simp
@[simp] theorem postIf_sup_lastFault (c : Bool) (code : Nat) (block : Byte) (data : List Byte) (s : State) : (postIf c code block data s).sup.lastFault = s.sup.lastFault := by
  unfold postIf; split <;> simp
@[simp] theorem supPost_sup_lastFault (code : Nat) (data : List Byte) (s : State) : (supPost code data s).sup.lastFault = s.sup.lastFault := by
  unfold supPost; split
  · rfl
  · split <;> rfl
@[simp] theorem settle_sup_lastFault (s : State) : (settle s).sup.lastFault = s.sup.lastFault := by
  unfold settle; dsimp only; split <;> rfl
@[simp] theorem postRecs_sup_fsCause (code : Nat) (rs : List EvRec) (s : State) : (postRecs code rs s).sup.fsCause = s.sup.fsCause := by
  unfold postRecs; split
  · rfl
  · split <;> rfl
@[simp] theorem post_sup_fsCause (code : Nat) (block : Byte) (data : List Byte) (s : State) : (post code block data s).sup.fsCause = s.sup.fsCause := by
  unfold post; simp
@[simp] theorem postIf_sup_fsCause (c : Bool) (code : Nat) (block : Byte) (data : List Byte) (s : State) : (postIf c code block data s).sup.fsCause = s.sup.fsCause := by
  unfold postIf; split <;> simp
@[simp] theorem supPost_sup_fsCause (code : Nat) (data : List Byte) (s : State) : (supPost code data s).sup.fsCause = s.sup.fsCause := by
  unfold supPost; split
  · rfl
  · split <;> rfl
@[simp] theorem settle_sup_fsCause (s : State) : (settle s).sup.fsCause = s.sup.fsCause := by
  unfold settle; dsimp only; split <;> rfl
@[simp] theorem settle_sup_ceCount (s : State) : (settle s).sup.ceCount = s.sup.ceCount := by
  unfold settle; dsimp only; split <;> rfl
@[simp] theorem postRecs_sup_retiredCount (code : Nat) (rs : List EvRec) (s : State) : (postRecs code rs s).sup.retiredCount = s.sup.retiredCount := by
  unfold postRecs; split
  · rfl
  · split <;> rfl
@[simp] theorem post_sup_retiredCount (code : Nat) (block : Byte) (data : List Byte) (s : State) : (post code block data s).sup.retiredCount = s.sup.retiredCount := by
  unfold post; simp
@[simp] theorem postIf_sup_retiredCount (c : Bool) (code : Nat) (block : Byte) (data : List Byte) (s : State) : (postIf c code block data s).sup.retiredCount = s.sup.retiredCount := by
  unfold postIf; split <;> simp
@[simp] theorem supPost_sup_retiredCount (code : Nat) (data : List Byte) (s : State) : (supPost code data s).sup.retiredCount = s.sup.retiredCount := by
  unfold supPost; split
  · rfl
  · split <;> rfl
@[simp] theorem settle_sup_retiredCount (s : State) : (settle s).sup.retiredCount = s.sup.retiredCount := by
  unfold settle; dsimp only; split <;> rfl
@[simp] theorem postRecs_sup_fsPrev (code : Nat) (rs : List EvRec) (s : State) : (postRecs code rs s).sup.fsPrev = s.sup.fsPrev := by
  unfold postRecs; split
  · rfl
  · split <;> rfl
@[simp] theorem post_sup_fsPrev (code : Nat) (block : Byte) (data : List Byte) (s : State) : (post code block data s).sup.fsPrev = s.sup.fsPrev := by
  unfold post; simp
@[simp] theorem postIf_sup_fsPrev (c : Bool) (code : Nat) (block : Byte) (data : List Byte) (s : State) : (postIf c code block data s).sup.fsPrev = s.sup.fsPrev := by
  unfold postIf; split <;> simp
@[simp] theorem supPost_sup_fsPrev (code : Nat) (data : List Byte) (s : State) : (supPost code data s).sup.fsPrev = s.sup.fsPrev := by
  unfold supPost; split
  · rfl
  · split <;> rfl
@[simp] theorem settle_sup_fsPrev (s : State) : (settle s).sup.fsPrev = s.sup.fsPrev := by
  unfold settle; dsimp only; split <;> rfl
@[simp] theorem postRecs_sup_clkHoldPrev (code : Nat) (rs : List EvRec) (s : State) : (postRecs code rs s).sup.clkHoldPrev = s.sup.clkHoldPrev := by
  unfold postRecs; split
  · rfl
  · split <;> rfl
@[simp] theorem post_sup_clkHoldPrev (code : Nat) (block : Byte) (data : List Byte) (s : State) : (post code block data s).sup.clkHoldPrev = s.sup.clkHoldPrev := by
  unfold post; simp
@[simp] theorem postIf_sup_clkHoldPrev (c : Bool) (code : Nat) (block : Byte) (data : List Byte) (s : State) : (postIf c code block data s).sup.clkHoldPrev = s.sup.clkHoldPrev := by
  unfold postIf; split <;> simp
@[simp] theorem supPost_sup_clkHoldPrev (code : Nat) (data : List Byte) (s : State) : (supPost code data s).sup.clkHoldPrev = s.sup.clkHoldPrev := by
  unfold supPost; split
  · rfl
  · split <;> rfl
@[simp] theorem settle_sup_clkHoldPrev (s : State) : (settle s).sup.clkHoldPrev = s.sup.clkHoldPrev := by
  unfold settle; dsimp only; split <;> rfl
@[simp] theorem postRecs_sup_autoRestarts (code : Nat) (rs : List EvRec) (s : State) : (postRecs code rs s).sup.autoRestarts = s.sup.autoRestarts := by
  unfold postRecs; split
  · rfl
  · split <;> rfl
@[simp] theorem post_sup_autoRestarts (code : Nat) (block : Byte) (data : List Byte) (s : State) : (post code block data s).sup.autoRestarts = s.sup.autoRestarts := by
  unfold post; simp
@[simp] theorem postIf_sup_autoRestarts (c : Bool) (code : Nat) (block : Byte) (data : List Byte) (s : State) : (postIf c code block data s).sup.autoRestarts = s.sup.autoRestarts := by
  unfold postIf; split <;> simp
@[simp] theorem supPost_sup_autoRestarts (code : Nat) (data : List Byte) (s : State) : (supPost code data s).sup.autoRestarts = s.sup.autoRestarts := by
  unfold supPost; split
  · rfl
  · split <;> rfl
@[simp] theorem settle_sup_autoRestarts (s : State) : (settle s).sup.autoRestarts = s.sup.autoRestarts := by
  unfold settle; dsimp only; split <;> rfl
@[simp] theorem postRecs_sup_failSilent (code : Nat) (rs : List EvRec) (s : State) : (postRecs code rs s).sup.failSilent = s.sup.failSilent := by
  unfold postRecs; split
  · rfl
  · split <;> rfl
@[simp] theorem post_sup_failSilent (code : Nat) (block : Byte) (data : List Byte) (s : State) : (post code block data s).sup.failSilent = s.sup.failSilent := by
  unfold post; simp
@[simp] theorem postIf_sup_failSilent (c : Bool) (code : Nat) (block : Byte) (data : List Byte) (s : State) : (postIf c code block data s).sup.failSilent = s.sup.failSilent := by
  unfold postIf; split <;> simp
@[simp] theorem supPost_sup_failSilent (code : Nat) (data : List Byte) (s : State) : (supPost code data s).sup.failSilent = s.sup.failSilent := by
  unfold supPost; split
  · rfl
  · split <;> rfl
@[simp] theorem settle_sup_failSilent (s : State) : (settle s).sup.failSilent = s.sup.failSilent := by
  unfold settle; dsimp only; split <;> rfl
@[simp] theorem postRecs_sup_fsAt (code : Nat) (rs : List EvRec) (s : State) : (postRecs code rs s).sup.fsAt = s.sup.fsAt := by
  unfold postRecs; split
  · rfl
  · split <;> rfl
@[simp] theorem post_sup_fsAt (code : Nat) (block : Byte) (data : List Byte) (s : State) : (post code block data s).sup.fsAt = s.sup.fsAt := by
  unfold post; simp
@[simp] theorem postIf_sup_fsAt (c : Bool) (code : Nat) (block : Byte) (data : List Byte) (s : State) : (postIf c code block data s).sup.fsAt = s.sup.fsAt := by
  unfold postIf; split <;> simp
@[simp] theorem supPost_sup_fsAt (code : Nat) (data : List Byte) (s : State) : (supPost code data s).sup.fsAt = s.sup.fsAt := by
  unfold supPost; split
  · rfl
  · split <;> rfl
@[simp] theorem settle_sup_fsAt (s : State) : (settle s).sup.fsAt = s.sup.fsAt := by
  unfold settle; dsimp only; split <;> rfl
@[simp] theorem postRecs_sup_heldSilent (code : Nat) (rs : List EvRec) (s : State) : (postRecs code rs s).sup.heldSilent = s.sup.heldSilent := by
  unfold postRecs; split
  · rfl
  · split <;> rfl
@[simp] theorem post_sup_heldSilent (code : Nat) (block : Byte) (data : List Byte) (s : State) : (post code block data s).sup.heldSilent = s.sup.heldSilent := by
  unfold post; simp
@[simp] theorem postIf_sup_heldSilent (c : Bool) (code : Nat) (block : Byte) (data : List Byte) (s : State) : (postIf c code block data s).sup.heldSilent = s.sup.heldSilent := by
  unfold postIf; split <;> simp
@[simp] theorem supPost_sup_heldSilent (code : Nat) (data : List Byte) (s : State) : (supPost code data s).sup.heldSilent = s.sup.heldSilent := by
  unfold supPost; split
  · rfl
  · split <;> rfl
@[simp] theorem settle_sup_heldSilent (s : State) : (settle s).sup.heldSilent = s.sup.heldSilent := by
  unfold settle; dsimp only; split <;> rfl
@[simp] theorem postRecs_sup_simultaneous (code : Nat) (rs : List EvRec) (s : State) : (postRecs code rs s).sup.simultaneous = s.sup.simultaneous := by
  unfold postRecs; split
  · rfl
  · split <;> rfl
@[simp] theorem post_sup_simultaneous (code : Nat) (block : Byte) (data : List Byte) (s : State) : (post code block data s).sup.simultaneous = s.sup.simultaneous := by
  unfold post; simp
@[simp] theorem postIf_sup_simultaneous (c : Bool) (code : Nat) (block : Byte) (data : List Byte) (s : State) : (postIf c code block data s).sup.simultaneous = s.sup.simultaneous := by
  unfold postIf; split <;> simp
@[simp] theorem supPost_sup_simultaneous (code : Nat) (data : List Byte) (s : State) : (supPost code data s).sup.simultaneous = s.sup.simultaneous := by
  unfold supPost; split
  · rfl
  · split <;> rfl
@[simp] theorem settle_sup_simultaneous (s : State) : (settle s).sup.simultaneous = s.sup.simultaneous := by
  unfold settle; dsimp only; split <;> rfl
@[simp] theorem postRecs_sup_atStart (code : Nat) (rs : List EvRec) (s : State) : (postRecs code rs s).sup.atStart = s.sup.atStart := by
  unfold postRecs; split
  · rfl
  · split <;> rfl
@[simp] theorem post_sup_atStart (code : Nat) (block : Byte) (data : List Byte) (s : State) : (post code block data s).sup.atStart = s.sup.atStart := by
  unfold post; simp
@[simp] theorem postIf_sup_atStart (c : Bool) (code : Nat) (block : Byte) (data : List Byte) (s : State) : (postIf c code block data s).sup.atStart = s.sup.atStart := by
  unfold postIf; split <;> simp
@[simp] theorem supPost_sup_atStart (code : Nat) (data : List Byte) (s : State) : (supPost code data s).sup.atStart = s.sup.atStart := by
  unfold supPost; split
  · rfl
  · split <;> rfl
@[simp] theorem settle_sup_atStart (s : State) : (settle s).sup.atStart = s.sup.atStart := by
  unfold settle; dsimp only; split <;> rfl
@[simp] theorem postRecs_sup_kilnHeld (code : Nat) (rs : List EvRec) (s : State) : (postRecs code rs s).sup.kilnHeld = s.sup.kilnHeld := by
  unfold postRecs; split
  · rfl
  · split <;> rfl
@[simp] theorem post_sup_kilnHeld (code : Nat) (block : Byte) (data : List Byte) (s : State) : (post code block data s).sup.kilnHeld = s.sup.kilnHeld := by
  unfold post; simp
@[simp] theorem postIf_sup_kilnHeld (c : Bool) (code : Nat) (block : Byte) (data : List Byte) (s : State) : (postIf c code block data s).sup.kilnHeld = s.sup.kilnHeld := by
  unfold postIf; split <;> simp
@[simp] theorem supPost_sup_kilnHeld (code : Nat) (data : List Byte) (s : State) : (supPost code data s).sup.kilnHeld = s.sup.kilnHeld := by
  unfold supPost; split
  · rfl
  · split <;> rfl
@[simp] theorem postRecs_sup_rickHeld (code : Nat) (rs : List EvRec) (s : State) : (postRecs code rs s).sup.rickHeld = s.sup.rickHeld := by
  unfold postRecs; split
  · rfl
  · split <;> rfl
@[simp] theorem post_sup_rickHeld (code : Nat) (block : Byte) (data : List Byte) (s : State) : (post code block data s).sup.rickHeld = s.sup.rickHeld := by
  unfold post; simp
@[simp] theorem postIf_sup_rickHeld (c : Bool) (code : Nat) (block : Byte) (data : List Byte) (s : State) : (postIf c code block data s).sup.rickHeld = s.sup.rickHeld := by
  unfold postIf; split <;> simp
@[simp] theorem supPost_sup_rickHeld (code : Nat) (data : List Byte) (s : State) : (supPost code data s).sup.rickHeld = s.sup.rickHeld := by
  unfold supPost; split
  · rfl
  · split <;> rfl
@[simp] theorem postRecs_sup_bankHeld (code : Nat) (rs : List EvRec) (s : State) : (postRecs code rs s).sup.bankHeld = s.sup.bankHeld := by
  unfold postRecs; split
  · rfl
  · split <;> rfl
@[simp] theorem post_sup_bankHeld (code : Nat) (block : Byte) (data : List Byte) (s : State) : (post code block data s).sup.bankHeld = s.sup.bankHeld := by
  unfold post; simp
@[simp] theorem postIf_sup_bankHeld (c : Bool) (code : Nat) (block : Byte) (data : List Byte) (s : State) : (postIf c code block data s).sup.bankHeld = s.sup.bankHeld := by
  unfold postIf; split <;> simp
@[simp] theorem supPost_sup_bankHeld (code : Nat) (data : List Byte) (s : State) : (supPost code data s).sup.bankHeld = s.sup.bankHeld := by
  unfold supPost; split
  · rfl
  · split <;> rfl
@[simp] theorem settle_sup_bankHeld (s : State) : (settle s).sup.bankHeld = s.sup.bankHeld := by
  unfold settle; dsimp only; split <;> rfl
@[simp] theorem postRecs_sup_cordHeld (code : Nat) (rs : List EvRec) (s : State) : (postRecs code rs s).sup.cordHeld = s.sup.cordHeld := by
  unfold postRecs; split
  · rfl
  · split <;> rfl
@[simp] theorem post_sup_cordHeld (code : Nat) (block : Byte) (data : List Byte) (s : State) : (post code block data s).sup.cordHeld = s.sup.cordHeld := by
  unfold post; simp
@[simp] theorem postIf_sup_cordHeld (c : Bool) (code : Nat) (block : Byte) (data : List Byte) (s : State) : (postIf c code block data s).sup.cordHeld = s.sup.cordHeld := by
  unfold postIf; split <;> simp
@[simp] theorem supPost_sup_cordHeld (code : Nat) (data : List Byte) (s : State) : (supPost code data s).sup.cordHeld = s.sup.cordHeld := by
  unfold supPost; split
  · rfl
  · split <;> rfl
@[simp] theorem postRecs_sup_bankDraining (code : Nat) (rs : List EvRec) (s : State) : (postRecs code rs s).sup.bankDraining = s.sup.bankDraining := by
  unfold postRecs; split
  · rfl
  · split <;> rfl
@[simp] theorem post_sup_bankDraining (code : Nat) (block : Byte) (data : List Byte) (s : State) : (post code block data s).sup.bankDraining = s.sup.bankDraining := by
  unfold post; simp
@[simp] theorem postIf_sup_bankDraining (c : Bool) (code : Nat) (block : Byte) (data : List Byte) (s : State) : (postIf c code block data s).sup.bankDraining = s.sup.bankDraining := by
  unfold postIf; split <;> simp
@[simp] theorem supPost_sup_bankDraining (code : Nat) (data : List Byte) (s : State) : (supPost code data s).sup.bankDraining = s.sup.bankDraining := by
  unfold supPost; split
  · rfl
  · split <;> rfl
@[simp] theorem settle_sup_bankDraining (s : State) : (settle s).sup.bankDraining = s.sup.bankDraining := by
  unfold settle; dsimp only; split <;> rfl
@[simp] theorem postRecs_sup_runtimeUp (code : Nat) (rs : List EvRec) (s : State) : (postRecs code rs s).sup.runtimeUp = s.sup.runtimeUp := by
  unfold postRecs; split
  · rfl
  · split <;> rfl
@[simp] theorem post_sup_runtimeUp (code : Nat) (block : Byte) (data : List Byte) (s : State) : (post code block data s).sup.runtimeUp = s.sup.runtimeUp := by
  unfold post; simp
@[simp] theorem postIf_sup_runtimeUp (c : Bool) (code : Nat) (block : Byte) (data : List Byte) (s : State) : (postIf c code block data s).sup.runtimeUp = s.sup.runtimeUp := by
  unfold postIf; split <;> simp
@[simp] theorem supPost_sup_runtimeUp (code : Nat) (data : List Byte) (s : State) : (supPost code data s).sup.runtimeUp = s.sup.runtimeUp := by
  unfold supPost; split
  · rfl
  · split <;> rfl
@[simp] theorem settle_sup_runtimeUp (s : State) : (settle s).sup.runtimeUp = s.sup.runtimeUp := by
  unfold settle; dsimp only; split <;> rfl
@[simp] theorem postRecs_sup_rickUp (code : Nat) (rs : List EvRec) (s : State) : (postRecs code rs s).sup.rickUp = s.sup.rickUp := by
  unfold postRecs; split
  · rfl
  · split <;> rfl
@[simp] theorem post_sup_rickUp (code : Nat) (block : Byte) (data : List Byte) (s : State) : (post code block data s).sup.rickUp = s.sup.rickUp := by
  unfold post; simp
@[simp] theorem postIf_sup_rickUp (c : Bool) (code : Nat) (block : Byte) (data : List Byte) (s : State) : (postIf c code block data s).sup.rickUp = s.sup.rickUp := by
  unfold postIf; split <;> simp
@[simp] theorem supPost_sup_rickUp (code : Nat) (data : List Byte) (s : State) : (supPost code data s).sup.rickUp = s.sup.rickUp := by
  unfold supPost; split
  · rfl
  · split <;> rfl
@[simp] theorem settle_sup_rickUp (s : State) : (settle s).sup.rickUp = s.sup.rickUp := by
  unfold settle; dsimp only; split <;> rfl
@[simp] theorem postRecs_sup_cordUp (code : Nat) (rs : List EvRec) (s : State) : (postRecs code rs s).sup.cordUp = s.sup.cordUp := by
  unfold postRecs; split
  · rfl
  · split <;> rfl
@[simp] theorem post_sup_cordUp (code : Nat) (block : Byte) (data : List Byte) (s : State) : (post code block data s).sup.cordUp = s.sup.cordUp := by
  unfold post; simp
@[simp] theorem postIf_sup_cordUp (c : Bool) (code : Nat) (block : Byte) (data : List Byte) (s : State) : (postIf c code block data s).sup.cordUp = s.sup.cordUp := by
  unfold postIf; split <;> simp
@[simp] theorem supPost_sup_cordUp (code : Nat) (data : List Byte) (s : State) : (supPost code data s).sup.cordUp = s.sup.cordUp := by
  unfold supPost; split
  · rfl
  · split <;> rfl
@[simp] theorem settle_sup_cordUp (s : State) : (settle s).sup.cordUp = s.sup.cordUp := by
  unfold settle; dsimp only; split <;> rfl
@[simp] theorem postRecs_sup_faultLed (code : Nat) (rs : List EvRec) (s : State) : (postRecs code rs s).sup.faultLed = s.sup.faultLed := by
  unfold postRecs; split
  · rfl
  · split <;> rfl
@[simp] theorem post_sup_faultLed (code : Nat) (block : Byte) (data : List Byte) (s : State) : (post code block data s).sup.faultLed = s.sup.faultLed := by
  unfold post; simp
@[simp] theorem postIf_sup_faultLed (c : Bool) (code : Nat) (block : Byte) (data : List Byte) (s : State) : (postIf c code block data s).sup.faultLed = s.sup.faultLed := by
  unfold postIf; split <;> simp
@[simp] theorem supPost_sup_faultLed (code : Nat) (data : List Byte) (s : State) : (supPost code data s).sup.faultLed = s.sup.faultLed := by
  unfold supPost; split
  · rfl
  · split <;> rfl
@[simp] theorem settle_sup_faultLed (s : State) : (settle s).sup.faultLed = s.sup.faultLed := by
  unfold settle; dsimp only; split <;> rfl
@[simp] theorem postRecs_sup_retireMap (code : Nat) (rs : List EvRec) (s : State) : (postRecs code rs s).sup.retireMap = s.sup.retireMap := by
  unfold postRecs; split
  · rfl
  · split <;> rfl
@[simp] theorem post_sup_retireMap (code : Nat) (block : Byte) (data : List Byte) (s : State) : (post code block data s).sup.retireMap = s.sup.retireMap := by
  unfold post; simp
@[simp] theorem postIf_sup_retireMap (c : Bool) (code : Nat) (block : Byte) (data : List Byte) (s : State) : (postIf c code block data s).sup.retireMap = s.sup.retireMap := by
  unfold postIf; split <;> simp
@[simp] theorem supPost_sup_retireMap (code : Nat) (data : List Byte) (s : State) : (supPost code data s).sup.retireMap = s.sup.retireMap := by
  unfold supPost; split
  · rfl
  · split <;> rfl
@[simp] theorem settle_sup_retireMap (s : State) : (settle s).sup.retireMap = s.sup.retireMap := by
  unfold settle; dsimp only; split <;> rfl
@[simp] theorem postRecs_sup_imgRows (code : Nat) (rs : List EvRec) (s : State) : (postRecs code rs s).sup.imgRows = s.sup.imgRows := by
  unfold postRecs; split
  · rfl
  · split <;> rfl
@[simp] theorem post_sup_imgRows (code : Nat) (block : Byte) (data : List Byte) (s : State) : (post code block data s).sup.imgRows = s.sup.imgRows := by
  unfold post; simp
@[simp] theorem postIf_sup_imgRows (c : Bool) (code : Nat) (block : Byte) (data : List Byte) (s : State) : (postIf c code block data s).sup.imgRows = s.sup.imgRows := by
  unfold postIf; split <;> simp
@[simp] theorem supPost_sup_imgRows (code : Nat) (data : List Byte) (s : State) : (supPost code data s).sup.imgRows = s.sup.imgRows := by
  unfold supPost; split
  · rfl
  · split <;> rfl
@[simp] theorem settle_sup_imgRows (s : State) : (settle s).sup.imgRows = s.sup.imgRows := by
  unfold settle; dsimp only; split <;> rfl
@[simp] theorem postRecs_sup_procRows (code : Nat) (rs : List EvRec) (s : State) : (postRecs code rs s).sup.procRows = s.sup.procRows := by
  unfold postRecs; split
  · rfl
  · split <;> rfl
@[simp] theorem post_sup_procRows (code : Nat) (block : Byte) (data : List Byte) (s : State) : (post code block data s).sup.procRows = s.sup.procRows := by
  unfold post; simp
@[simp] theorem postIf_sup_procRows (c : Bool) (code : Nat) (block : Byte) (data : List Byte) (s : State) : (postIf c code block data s).sup.procRows = s.sup.procRows := by
  unfold postIf; split <;> simp
@[simp] theorem supPost_sup_procRows (code : Nat) (data : List Byte) (s : State) : (supPost code data s).sup.procRows = s.sup.procRows := by
  unfold supPost; split
  · rfl
  · split <;> rfl
@[simp] theorem settle_sup_procRows (s : State) : (settle s).sup.procRows = s.sup.procRows := by
  unfold settle; dsimp only; split <;> rfl
@[simp] theorem postRecs_sup_l2Ways (code : Nat) (rs : List EvRec) (s : State) : (postRecs code rs s).sup.l2Ways = s.sup.l2Ways := by
  unfold postRecs; split
  · rfl
  · split <;> rfl
@[simp] theorem post_sup_l2Ways (code : Nat) (block : Byte) (data : List Byte) (s : State) : (post code block data s).sup.l2Ways = s.sup.l2Ways := by
  unfold post; simp
@[simp] theorem postIf_sup_l2Ways (c : Bool) (code : Nat) (block : Byte) (data : List Byte) (s : State) : (postIf c code block data s).sup.l2Ways = s.sup.l2Ways := by
  unfold postIf; split <;> simp
@[simp] theorem supPost_sup_l2Ways (code : Nat) (data : List Byte) (s : State) : (supPost code data s).sup.l2Ways = s.sup.l2Ways := by
  unfold supPost; split
  · rfl
  · split <;> rfl
@[simp] theorem settle_sup_l2Ways (s : State) : (settle s).sup.l2Ways = s.sup.l2Ways := by
  unfold settle; dsimp only; split <;> rfl
@[simp] theorem postRecs_sup_sysWays (code : Nat) (rs : List EvRec) (s : State) : (postRecs code rs s).sup.sysWays = s.sup.sysWays := by
  unfold postRecs; split
  · rfl
  · split <;> rfl
@[simp] theorem post_sup_sysWays (code : Nat) (block : Byte) (data : List Byte) (s : State) : (post code block data s).sup.sysWays = s.sup.sysWays := by
  unfold post; simp
@[simp] theorem postIf_sup_sysWays (c : Bool) (code : Nat) (block : Byte) (data : List Byte) (s : State) : (postIf c code block data s).sup.sysWays = s.sup.sysWays := by
  unfold postIf; split <;> simp
@[simp] theorem supPost_sup_sysWays (code : Nat) (data : List Byte) (s : State) : (supPost code data s).sup.sysWays = s.sup.sysWays := by
  unfold supPost; split
  · rfl
  · split <;> rfl
@[simp] theorem settle_sup_sysWays (s : State) : (settle s).sup.sysWays = s.sup.sysWays := by
  unfold settle; dsimp only; split <;> rfl
@[simp] theorem postRecs_sup_ceHist (code : Nat) (rs : List EvRec) (s : State) : (postRecs code rs s).sup.ceHist = s.sup.ceHist := by
  unfold postRecs; split
  · rfl
  · split <;> rfl
@[simp] theorem post_sup_ceHist (code : Nat) (block : Byte) (data : List Byte) (s : State) : (post code block data s).sup.ceHist = s.sup.ceHist := by
  unfold post; simp
@[simp] theorem postIf_sup_ceHist (c : Bool) (code : Nat) (block : Byte) (data : List Byte) (s : State) : (postIf c code block data s).sup.ceHist = s.sup.ceHist := by
  unfold postIf; split <;> simp
@[simp] theorem supPost_sup_ceHist (code : Nat) (data : List Byte) (s : State) : (supPost code data s).sup.ceHist = s.sup.ceHist := by
  unfold supPost; split
  · rfl
  · split <;> rfl
@[simp] theorem settle_sup_ceHist (s : State) : (settle s).sup.ceHist = s.sup.ceHist := by
  unfold settle; dsimp only; split <;> rfl
@[simp] theorem settle_pair_role (s : State) : (settle s).pair.role = s.pair.role := by
  unfold settle; dsimp only; split <;> rfl
@[simp] theorem settle_pair_sub (s : State) : (settle s).pair.sub = s.pair.sub := by
  unfold settle; dsimp only; split <;> rfl
@[simp] theorem settle_pair_epoch (s : State) : (settle s).pair.epoch = s.pair.epoch := by
  unfold settle; dsimp only; split <;> rfl
@[simp] theorem settle_pair_epochSeen (s : State) : (settle s).pair.epochSeen = s.pair.epochSeen := by
  unfold settle; dsimp only; split <;> rfl
@[simp] theorem settle_pair_stationEpoch (s : State) : (settle s).pair.stationEpoch = s.pair.stationEpoch := by
  unfold settle; dsimp only; split <;> rfl
@[simp] theorem settle_pair_claimed (s : State) : (settle s).pair.claimed = s.pair.claimed := by
  unfold settle; dsimp only; split <;> rfl
@[simp] theorem settle_pair_cmdAbort (s : State) : (settle s).pair.cmdAbort = s.pair.cmdAbort := by
  unfold settle; dsimp only; split <;> rfl
@[simp] theorem settle_pair_cmdState (s : State) : (settle s).pair.cmdState = s.pair.cmdState := by
  unfold settle; dsimp only; split <;> rfl
@[simp] theorem settle_pair_cmdLast (s : State) : (settle s).pair.cmdLast = s.pair.cmdLast := by
  unfold settle; dsimp only; split <;> rfl
@[simp] theorem settle_pair_cfg (s : State) : (settle s).pair.cfg = s.pair.cfg := by
  unfold settle; dsimp only; split <;> rfl
@[simp] theorem settle_pair_cfgNext (s : State) : (settle s).pair.cfgNext = s.pair.cfgNext := by
  unfold settle; dsimp only; split <;> rfl
@[simp] theorem settle_pair_peerA (s : State) : (settle s).pair.peerA = s.pair.peerA := by
  unfold settle; dsimp only; split <;> rfl
@[simp] theorem settle_pair_peerB (s : State) : (settle s).pair.peerB = s.pair.peerB := by
  unfold settle; dsimp only; split <;> rfl
@[simp] theorem settle_pair_peerC (s : State) : (settle s).pair.peerC = s.pair.peerC := by
  unfold settle; dsimp only; split <;> rfl
@[simp] theorem settle_pair_takeTime (s : State) : (settle s).pair.takeTime = s.pair.takeTime := by
  unfold settle; dsimp only; split <;> rfl
@[simp] theorem settle_pair_takeCount (s : State) : (settle s).pair.takeCount = s.pair.takeCount := by
  unfold settle; dsimp only; split <;> rfl
@[simp] theorem settle_pair_intStatus (s : State) : (settle s).pair.intStatus = s.pair.intStatus := by
  unfold settle; dsimp only; split <;> rfl
@[simp] theorem settle_pair_intMask (s : State) : (settle s).pair.intMask = s.pair.intMask := by
  unfold settle; dsimp only; split <;> rfl
@[simp] theorem settle_pair_lossCount (s : State) : (settle s).pair.lossCount = s.pair.lossCount := by
  unfold settle; dsimp only; split <;> rfl
@[simp] theorem settle_pair_glitchCount (s : State) : (settle s).pair.glitchCount = s.pair.glitchCount := by
  unfold settle; dsimp only; split <;> rfl
@[simp] theorem settle_pair_recSeq (s : State) : (settle s).pair.recSeq = s.pair.recSeq := by
  unfold settle; dsimp only; split <;> rfl
@[simp] theorem settle_pair_recSecond (s : State) : (settle s).pair.recSecond = s.pair.recSecond := by
  unfold settle; dsimp only; split <;> rfl
@[simp] theorem settle_pair_recBusy (s : State) : (settle s).pair.recBusy = s.pair.recBusy := by
  unfold settle; dsimp only; split <;> rfl
@[simp] theorem settle_pair_recFailed (s : State) : (settle s).pair.recFailed = s.pair.recFailed := by
  unfold settle; dsimp only; split <;> rfl
@[simp] theorem settle_pair_fenceMark (s : State) : (settle s).pair.fenceMark = s.pair.fenceMark := by
  unfold settle; dsimp only; split <;> rfl
@[simp] theorem settle_pair_claimLeft (s : State) : (settle s).pair.claimLeft = s.pair.claimLeft := by
  unfold settle; dsimp only; split <;> rfl
@[simp] theorem settle_pair_claimReason (s : State) : (settle s).pair.claimReason = s.pair.claimReason := by
  unfold settle; dsimp only; split <;> rfl
@[simp] theorem settle_pair_claimMembers (s : State) : (settle s).pair.claimMembers = s.pair.claimMembers := by
  unfold settle; dsimp only; split <;> rfl
@[simp] theorem settle_pair_epochAt (s : State) : (settle s).pair.epochAt = s.pair.epochAt := by
  unfold settle; dsimp only; split <;> rfl
@[simp] theorem settle_pair_joinAt (s : State) : (settle s).pair.joinAt = s.pair.joinAt := by
  unfold settle; dsimp only; split <;> rfl
@[simp] theorem settle_pair_lossAt (s : State) : (settle s).pair.lossAt = s.pair.lossAt := by
  unfold settle; dsimp only; split <;> rfl
@[simp] theorem settle_pair_takeover (s : State) : (settle s).pair.takeover = s.pair.takeover := by
  unfold settle; dsimp only; split <;> rfl
@[simp] theorem settle_pair_switch (s : State) : (settle s).pair.switch = s.pair.switch := by
  unfold settle; dsimp only; split <;> rfl
@[simp] theorem settle_pair_switchSeen (s : State) : (settle s).pair.switchSeen = s.pair.switchSeen := by
  unfold settle; dsimp only; split <;> rfl
@[simp] theorem settle_pair_leaveAfter (s : State) : (settle s).pair.leaveAfter = s.pair.leaveAfter := by
  unfold settle; dsimp only; split <;> rfl
@[simp] theorem settle_pair_leaving (s : State) : (settle s).pair.leaving = s.pair.leaving := by
  unfold settle; dsimp only; split <;> rfl
@[simp] theorem settle_pair_tookAt (s : State) : (settle s).pair.tookAt = s.pair.tookAt := by
  unfold settle; dsimp only; split <;> rfl
@[simp] theorem settle_pair_serviceTold (s : State) : (settle s).pair.serviceTold = s.pair.serviceTold := by
  unfold settle; dsimp only; split <;> rfl
@[simp] theorem settle_pair_returnC (s : State) : (settle s).pair.returnC = s.pair.returnC := by
  unfold settle; dsimp only; split <;> rfl
@[simp] theorem settle_pair_selfTest (s : State) : (settle s).pair.selfTest = s.pair.selfTest := by
  unfold settle; dsimp only; split <;> rfl

/-- A posting while Bank runs and the recorder is whole changes no other unit but the DIC. -/
@[simp] theorem post_sup_whole {s : State} (code : Nat) (block : Byte) (data : List Byte) (h : isolated s 0x63#8 = false) :
    (post code block data s).sup = s.sup := by
  unfold post postRecs; split
  · rfl
  · rw [if_neg (by simpa using h)]

end Sys2Proof.Laws
end

