-- ==== Sys2Proof/Laws/Running.lean ====
section
/-! SUPPORT. What a running module answers to the tests that the meanings make of it. -/

namespace Sys2Proof.Laws

open Sys2Proof Sys2Proof.Machine Sys2Proof.Safety

/-- A module that has not failed silent settles by waking the cores whose line is high. -/
theorem settle_loud {s : State} (h : s.sup.failSilent = false) : settle s = { s with dic := leaveIdle s.dic } := by simp [settle, h]

theorem running_isolated {s : State} (h : Running s) (b : Byte) : isolated s b = false := by simp [isolated, h.intact]

theorem running_rickLive {s : State} (h : Running s) : rickLive s = true := by simp [rickLive, h.rick]

theorem running_banked {s : State} (h : Running s) : bankedNow s = false := by simp [bankedNow, h.ember]

theorem running_rickFull {s : State} (h : Running s) : rickFull s = true := by simp [rickFull, running_rickLive h, running_banked h]

theorem running_bankLive {s : State} (h : Running s) : bankLive s = true := by simp [bankLive, h.bank]

theorem running_cordLive {s : State} (h : Running s) : cordLive s = true := by simp [cordLive, running_banked h, h.cord]

theorem running_runtimeLive {s : State} (h : Running s) : runtimeLive s = true := by simp [runtimeLive, running_banked h, h.kiln, h.runtime]

theorem running_hearthOn {s : State} (h : Running s) : hearthOn s = true := by simp [hearthOn, h.power, h.reset]

/-- A ring in a running module. -/
theorem running_ring {s : State} (h : Running s) (src : Nat) : ring src s = { s with dic := dicAccept s.dic s.now src } := by
  simp [ring, h.rick]

/-- A posting in a running module goes to the recorder's admission. -/
theorem running_post {s : State} (h : Running s) (code : Nat) (block : Byte) (data : List Byte) :
    post code block data s =
      { s with
        evr := evrTake s.evr s.now code (evRecs code block data)
        dic := if rings s.evr.intStatus (evrTake s.evr s.now code (evRecs code block data)).intStatus
            (evrTake s.evr s.now code (evRecs code block data)).intMask
          then dicAccept s.dic s.now 78 else s.dic } := by
  simp [post, postRecs, h.bank, h.rick, running_isolated h]

end Sys2Proof.Laws
end

