-- ==== Sys2Proof/Laws/Flue.lean ====
section
/-! SUPPORT. The way of a Flue frame that nothing turns away: what it leaves, and then its effect. -/

namespace Sys2Proof.Laws

open Sys2Proof Sys2Proof.Machine Sys2Proof.Safety

theorem laneOf_setLane (f : Flu) (n : Nat) (l : Lane) : laneOf (setLane f n l) n = l := by unfold laneOf setLane; split <;> rfl

theorem setLane_path (f : Flu) (n : Nat) (l : Lane) : (setLane f n l).path = f.path := by unfold setLane; split <;> rfl
theorem setLane_cfg (f : Flu) (n : Nat) (l : Lane) : (setLane f n l).cfg = f.cfg := by unfold setLane; split <;> rfl
theorem setLane_up0 (f : Flu) (n : Nat) (l : Lane) (h : l.up = (laneOf f n).up) : (setLane f n l).lane0.up = f.lane0.up := by
  unfold setLane laneOf at *; split <;> simp_all
theorem setLane_up1 (f : Flu) (n : Nat) (l : Lane) (h : l.up = (laneOf f n).up) : (setLane f n l).lane1.up = f.lane1.up := by
  unfold setLane laneOf at *; split <;> simp_all

/-- The path looks at what is up and what is heard. -/
theorem pathNow_lane (s : State) (n : Nat) (l : Lane) (h : l.up = (laneOf s.flu n).up) :
    pathNow { s with flu := setLane s.flu n l } = pathNow s := by
  unfold pathNow pathSel viaC
  simp only [setLane_path, setLane_cfg, setLane_up0 _ _ _ h, setLane_up1 _ _ _ h]
  rfl

/-- An arrival on a lane that is up changes no path. -/
theorem laneArrival_up {s : State} {n : Nat} (hu : (laneOf s.flu n).up = true) (hp : pathNow s = s.flu.path) :
    laneArrival n s = { s with flu := setLane s.flu n { laneOf s.flu n with rx := satInc (laneOf s.flu n).rx, up := true } } := by
  unfold laneArrival
  dsimp only
  rw [hu, if_pos rfl]
  unfold choosePath setPath
  rw [pathNow_lane _ _ _ (by rw [hu]), hp, if_pos (setLane_path _ _ _).symm]

/-- The frame that follows the last one in its sequence is taken, and no gap is found. -/
theorem seqFate_next {q seq : Word} (gaps : List (Nat × Nat)) (h : q.toNat + 1 = seq.toNat) : seqFate (some q) gaps seq false = .takes seq gaps none := by
  have h0 : seq ≠ 0 := by rintro rfl; simp at h
  have hd : seqSteps q seq = 1 := by
    have := q.isLt; have := seq.isLt
    simp only [seqSteps, BitVec.toNat_sub, b2n]
    rw [decide_eq_false (by omega)]
    simp; omega
  have h0' : seq ≠ 0#32 := h0
  simp [seqFate, h0', hd]

/-- The epoch of a frame that is the module's own, or a claim message's, is only noted. -/
theorem frameEpoch_noted {u : State} {lane : Nat} {f : FlueFrame} (h : f.hdr.epoch = u.pair.epoch ∨ isClaim f.body = true) :
    frameEpoch lane f u = noteEpoch f.hdr.epoch u := by
  unfold frameEpoch
  by_cases c : isClaim f.body = true
  · simp [c]
  · have e : f.hdr.epoch = u.pair.epoch := h.resolve_right c
    have k : higherEpoch f.hdr.epoch lane (u8 (slotNo f.hdr.src)) (noteEpoch f.hdr.epoch u) = noteEpoch f.hdr.epoch u := by
      unfold higherEpoch; rw [if_pos]; rw [e]; exact Nat.le_refl _
    simp only [k, ite_self]

/-- A frame to this slot that follows the last one is taken. -/
theorem takeSeq_next {u : State} {h : FlueHdr} {q : Word} (hd : h.dst.isNone = false) (hq : (rxOf u.fluq h.src).own = some q)
    (hs : q.toNat + 1 = h.seq.toNat) :
    takeSeq h false u = some { u with fluq := setRx h.src { rxOf u.fluq h.src with own := some h.seq } u.fluq } := by
  simp only [takeSeq, hd, hq, seqFate_next _ hs, Bool.false_eq_true, if_false]

theorem setPeer_epoch (p : Pair) (x : Slot) (q : Peer) : (setPeer p x q).epoch = p.epoch := by cases x <;> rfl
theorem role_setPeer (p : Pair) (x : Slot) (q : Peer) : (setPeer p x q).role = p.role := by cases x <;> rfl
theorem setPeer_epochSeen (p : Pair) (x : Slot) (q : Peer) : (setPeer p x q).epochSeen = p.epochSeen := by cases x <;> rfl
theorem peerOf_setPeer (p : Pair) (x : Slot) (q : Peer) : peerOf (setPeer p x q) x = q := by cases x <;> rfl

/-- An accepted frame: its epoch is noted and its effect follows. -/
theorem flueEffect_noted {u : State} {lane : Nat} {f : FlueFrame} (h : f.hdr.epoch = u.pair.epoch ∨ isClaim f.body = true) :
    flueEffect lane f u = flueBody lane f (noteEpoch f.hdr.epoch u) := by
  unfold flueEffect
  rw [frameEpoch_noted h, if_neg]
  rintro ⟨a, b⟩
  exact b a

/-- A frame of known epoch from a sender that was heard of late, next in its sequence. -/
theorem flueToHere_next {u : State} {lane : Nat} {f : FlueFrame} {t : Nat} {q : Word} (hd : f.hdr.dst.isNone = false)
    (he : f.hdr.epoch = u.pair.epoch ∨ isClaim f.body = true) (low : ¬ f.hdr.epoch.toNat < u.pair.epoch.toNat)
    (ht : (peerOf u.pair f.hdr.src).heardAt = some t) (hn : u.now - t < 100000000)
    (hq : (rxOf u.fluq f.hdr.src).own = some q) (hs : q.toNat + 1 = f.hdr.seq.toNat) :
    flueToHere lane f u = flueBody lane f (noteEpoch f.hdr.epoch (countPayload f { u with
      pair := setPeer u.pair f.hdr.src { peerOf u.pair f.hdr.src with heardAt := some u.now }
      fluq := setRx f.hdr.src { rxOf u.fluq f.hdr.src with own := some f.hdr.seq } u.fluq })) := by
  have hf : freshSender u f.hdr.src = false := by
    unfold freshSender; rw [ht]; exact decide_eq_false (by omega)
  unfold flueToHere
  rw [hf]
  dsimp only
  rw [if_neg (by rintro ⟨a, -⟩; rw [setPeer_epoch] at a; exact low a)]
  unfold flueInOrder
  rw [takeSeq_next hd (q := q) (by exact hq) hs]
  dsimp only
  apply flueEffect_noted
  unfold countPayload
  split <;> simpa only [setPeer_epoch] using he

/-- A received frame: what it leaves, then its effect. -/
theorem flueArrive_received {lane : Nat} {f : FlueFrame} {s : State} (h : Received lane f s) :
    flueArrive lane f s = flueBody lane f (flueHeard lane f s) := by
  obtain ⟨t, ht, hn⟩ := h.recent
  obtain ⟨q, hq, hs⟩ := h.order
  have low : ¬ (f.hdr.epoch.toNat < s.pair.epoch.toNat) := by
    rcases h.epoch with e | ⟨-, e⟩
    · rw [e]; exact Nat.lt_irrefl _
    · exact Nat.not_lt.mpr e
  have eo : f.hdr.epoch = s.pair.epoch ∨ isClaim f.body = true := h.epoch.imp id (fun e => e.1)
  unfold flueArrive
  rw [laneArrival_up h.up h.path]
  dsimp only
  rw [if_neg (by rw [h.ver]; simp), if_neg h.top, if_neg (by
    rintro (a | a)
    · exact h.src a
    · have : f.hdr.dst = some (mySlot s) := h.dst
      rw [this] at a
      revert a
      show ¬ (!(_ || (some (mySlot s) == some (mySlot s)))) = true
      simp)]
  have k := fun (u : State) (a : u.pair = s.pair) (b : u.fluq = s.fluq) (c : u.now = s.now) =>
    flueToHere_next (u := u) (lane := lane) (f := f) (t := t) (q := q) (by rw [h.dst]; rfl) (by rw [a]; exact eo) (by rw [a]; exact low)
      (by rw [a]; exact ht) (by rw [c]; exact hn) (by rw [b]; exact hq) hs
  rw [k]
  · rfl
  all_goals rfl

/-- A frame at its lane. -/
theorem flueRx_received {lane : Nat} {f : FlueFrame} {s : State} (hr : Running s) (h : Received lane f s) :
    flueRx lane f s = flueBody lane f (flueHeard lane f s) := by
  have hears : laneHears s lane = true := by simp [laneHears, running_rickLive hr, h.two, h.opened, hr.loud, hr.power]
  have rule : flueRxRule lane f s = (s, .passes, none) := by simp [flueRxRule, heldBy, h.free, fijRule, h.quiet]
  simp only [flueRx, hears, rule, Bool.not_true, Bool.false_eq_true, if_false]
  exact flueArrive_received h

end Sys2Proof.Laws
end

