-- ==== Sys2Proof/WellFormed.lean ====
section
/-!
DEFINITION. Well-formed commands: every operand lies in the range that the spec gives it (numbers of lanes, ports, tasks, cores,
segments, stations and channels; the lengths of frames and requests). The meanings are total: an ill-formed command has one too.
-/

namespace Sys2Proof

open Sys2Proof.Machine (bodyLen)

def wfMaster : Master → Bool
  | .core n => decide (n < 8)
  | .port n => decide (n < 4)
  | .flue n => decide (n < 2)
  | _ => true

/-- A request of R402: at most 64 bytes within one line from a core, at most 256 from an Agent; a write carries its bytes. -/
def wfBus (r : BusReq) : Bool :=
  let most := match r.master with | .core _ => 64 | _ => 256
  let inLine := match r.master with | .core _ => decide (r.addr % 64 + r.len ≤ 64) | _ => true
  let writes := match r.op with | .write | .atomic => true | _ => false
  wfMaster r.master && decide (0 < r.len ∧ r.len ≤ most) && inLine && decide (r.addr + r.len ≤ 2 ^ 36) &&
    decide (r.data.length = if writes then r.len else 0)

/-- A Flue payload of at most 1,480 bytes (R119). -/
def wfLen (b : FlueBody) : Bool := decide (bodyLen b ≤ 1480)

/-- One part of an IMAGE message (R120): at most 1,464 body bytes. -/
def wfImage (p : ImageP) : Bool := decide (p.task < 80 ∧ p.part < p.parts ∧ p.parts ≤ 65535) && decide (p.body.length ≤ 1464)
def wfDigest (p : DigestP) : Bool := decide (p.task < 80) && decide (p.outcome ≤ 3)
def wfRelays (es : List RelayE) : Bool := es.all (fun e => decide (e.port < 4)) && wfLen (.relayOut es)
def wfClaim (p : ClaimP) : Bool := decide (1 ≤ p.reason ∧ p.reason ≤ 5) && decide (p.rept ≤ 8)
/-- The identifications are SHA-256 values, cut or whole; a module holds at most three records of the maintenance token (17 R540, log 43). -/
def wfJoin (p : JoinP) : Bool := decide (p.legalId.length ≤ 32 ∧ p.legalCfg.length ≤ 32) && decide (p.holders.length ≤ 3)
def wfPromote (p : PromoteP) : Bool := decide (p.action ≤ 1)
def wfResyncData (p : ResyncDataP) : Bool := decide (p.data.length ≤ 1472) && decide (p.addr < 2 ^ 36)
def wfResyncCtrl (p : ResyncCtrlP) : Bool := decide (p.task < 80 ∨ p.task = 0xFF)
def wfKindle (p : KindleP) : Bool := decide (p.data.length ≤ 1456)
def wfObjWrite (p : ObjWriteP) : Bool := decide (1 ≤ p.op ∧ p.op ≤ 5) && wfLen (.objWrite p)

def wfFlue (f : FlueFrame) : Bool :=
  wfLen f.body && match f.body with
    | .image p => wfImage p
    | .digest p => wfDigest p
    | .relayOut es => wfRelays es
    | .relayIn es => wfRelays es
    | .claim p => wfClaim p
    | .promote p => wfPromote p
    | .resyncData p => wfResyncData p
    | .resyncCtrl p => wfResyncCtrl p
    | .kindle p => wfKindle p
    | .objWrite p => wfObjWrite p
    | _ => true

/-- A Folmonet header (R202): a station number, or all stations. -/
def wfFolHdr (h : FolHdr) : Bool := decide (h.seg < 4) && decide (h.station < 2048 ∨ h.station = 0xFFFF)
/-- R209: a station's input data is at most 1,464 bytes. -/
def wfInput (p : InputP) : Bool := decide (p.data.length ≤ 1464)
def wfProbe (r : ProbeResp) : Bool := decide (r.station < 2048) && decide (r.fromEnd < 2)
/-- A SERVICE message (R321): at most 32,768 data bytes. -/
def wfSvc (m : SvcMsg) : Bool := decide (m.data.length ≤ 32768)
def wfMbx (m : MbxRq) : Bool := decide (m.data.length ≤ 32480)

def wfPath : Path → Bool
  | .service _ => true
  | .folmonet seg station fromEnd => decide (seg < 4) && decide (station < 2048) && decide (fromEnd < 2)

def wfRq (q : Rq) : Bool := wfPath q.path && decide (q.session < 65536) && decide (q.value.length ≤ 33554560)
def wfVia : Via → Bool
  | .reg m _ _ => wfMaster m
  | .obj q => wfRq q
def wfWake : Wake → Bool
  | .watch k => decide (k < 32)
  | _ => true
def wfDeltas (ds : List Delta) : Bool := ds.all (fun d => decide (0 < d.data.length))
def wfHost (es : List HostE) : Bool := es.all (fun e => decide (e.value.length < 65536))

/-- A well-formed command. -/
def wellFormed (i : Instr) : Bool :=
  match i with
  | .busRequest r => wfBus r
  | .bankResetAfterBurst => true
  | .autoRestart => true
  | .supFailSilent core _ _ => decide (core < 8)
  | .dramPatrolScrub _ => true
  | .blockResponseTimeout _ _ master => wfMaster master
  | .retryReissue master _ => wfMaster master
  | .startSequence => true
  | .rickResetReload _ => true
  | .damperToggleRecognised _ => true
  | .lossOfToggle _ => true
  | .reserveTakeoverWaitEnd => true
  | .damperReadbackLost => true
  | .foreignToggleFence => true
  | .damperRoleMismatch _ => true
  | .claimRecordWriteDone _ => true
  | .startWindowClose seg => decide (seg < 4)
  | .startAlone => true
  | .joinRepeat => true
  | .partnerDead _ => true
  | .reserveSelfTestEnd => true
  | .switchover via => wfVia via
  | .switchAckTimeout => true
  | .switchPoint => true
  | .makeOffline via => wfVia via
  | .promoteReserve via => wfVia via
  | .dmpArm _ _ => true
  | .keyswitchChange _ => true
  | .statusFrame lane _ _ => decide (lane < 2)
  | .imageFrame lane _ p => decide (lane < 2) && wfImage p
  | .digestFrame lane _ p => decide (lane < 2) && wfDigest p
  | .relayOutFrame lane _ es => decide (lane < 2) && wfRelays es
  | .relayOutTransmit port _ => decide (port < 4)
  | .relayInFrame lane _ es => decide (lane < 2) && wfRelays es
  | .claimFrame lane _ p => decide (lane < 2) && wfClaim p
  | .joinFrame lane _ p => decide (lane < 2) && wfJoin p
  | .promoteToStandby lane _ p => decide (lane < 2) && wfPromote p
  | .returnToReserve lane _ p => decide (lane < 2) && wfPromote p
  | .switchFrame lane _ _ => decide (lane < 2)
  | .switchAckFrame lane _ _ => decide (lane < 2)
  | .nakFrame lane _ _ => decide (lane < 2)
  | .resyncDataFrame lane _ p => decide (lane < 2) && wfResyncData p
  | .resyncCtrlFrame lane _ p => decide (lane < 2) && wfResyncCtrl p
  | .flueFrameDiscard lane _ _ => decide (lane < 2)
  | .slotCForward lane f => decide (lane < 2) && wfFlue f
  | .imageLagTimeout task => decide (task < 80)
  | .instanceLagTimeout task => decide (task < 80)
  | .digestMissed task => decide (task < 80)
  | .selfTestDone _ => true
  | .alignmentLost => true
  | .laneBlockLock lane _ => decide (lane < 2)
  | .laneDown lane => decide (lane < 2)
  | .pairLinkReturn => true
  | .resyncBulkDone => true
  | .resyncNotConverging => true
  | .fluClearLanes _ => true
  | .fluClearPeaks _ => true
  | .beatBoundary => true
  | .beatBoundaryLate => true
  | .inputLatch task => decide (task < 80)
  | .cycDone core _ _ deltas => decide (core < 8) && wfDeltas deltas
  | .taskTrap core _ task => decide (core < 8) && decide (task < 80)
  | .trapStopComplete task => decide (task < 80)
  | .commitComplete task => decide (task < 80)
  | .emitoffEmission seg => decide (seg < 4)
  | .deadlineMiss task => decide (task < 80)
  | .skipLimit task => decide (task < 80)
  | .resume task rq => decide (task < 80) && wfRq rq
  | .cycFaultClear _ _ _ => true
  | .taskEnable task rq => decide (task < 80) && wfRq rq
  | .cycWdog core _ _ => decide (core < 8)
  | .runtimeWatchdogExpiry => true
  | .rickWatchdogExpiry => true
  | .warmRestart via => wfVia via
  | .coldRestart via => wfVia via
  | .programStop via => wfVia via
  | .restartInitDone => true
  | .programLoad _ => true
  | .kindleData m rq => wfSvc m && wfRq rq
  | .changeStart rq => wfRq rq
  | .changeAbandon rq => wfRq rq
  | .kindleDataFrame lane _ p => decide (lane < 2) && wfKindle p
  | .kindleLoaded lane _ p => decide (lane < 2) && wfKindle p
  | .kindleStart lane _ p => decide (lane < 2) && wfKindle p
  | .kindleGo lane _ p => decide (lane < 2) && wfKindle p
  | .kindleGoAck lane _ p => decide (lane < 2) && wfKindle p
  | .kindleNogo lane _ p => decide (lane < 2) && wfKindle p
  | .kindleDone lane _ p => decide (lane < 2) && wfKindle p
  | .kindleAbandon lane _ p => decide (lane < 2) && wfKindle p
  | .measuringEnd => true
  | .precopyRoundEnd => true
  | .goAckTimeout => true
  | .swapCopyDone => true
  | .forceSet rq => wfRq rq
  | .forceClear rq => wfRq rq
  | .forceClearAll rq => wfRq rq
  | .portUp port => decide (port < 4)
  | .portDown port => decide (port < 4)
  | .sfpPoll port _ => decide (port < 4)
  | .folmonetFrameDiscard port _ station => decide (port < 4) && decide (station < 2048)
  | .stationInput port h p => decide (port < 4) && wfFolHdr h && wfInput p
  | .probeResp port r => decide (port < 4) && wfProbe r
  | .continuityLost seg => decide (seg < 4)
  | .continuityRestored seg => decide (seg < 4)
  | .stationAbsent station => decide (station < 2048)
  | .configuringTimeout station => decide (station < 2048)
  | .stationProbeTimer station => decide (station < 2048)
  | .segmentStart seg via => decide (seg < 4) && wfVia via
  | .segmentStop seg via => decide (seg < 4) && wfVia via
  | .segmentReprobe seg via => decide (seg < 4) && wfVia via
  | .probingEnd seg => decide (seg < 4)
  | .gateReset station rq => decide (station < 2048) && wfRq rq
  | .timeFrameSend port => decide (port < 4)
  | .fptClear port _ _ => decide (port < 4)
  | .reqDoor master _ _ => wfMaster master
  | .crdMbxRsp _ => true
  | .loadBegin m => wfMbx m
  | .loadData m => wfMbx m
  | .loadEnd m => wfMbx m
  | .ident m => wfMbx m
  | .objRead m => wfMbx m
  | .objWrite m => wfMbx m
  | .vChallenge m => wfMbx m
  | .vProve m => wfMbx m
  | .vClose m => wfMbx m
  | .channelTest m => wfMbx m
  | .channelService m => wfMbx m
  | .auditRead m => wfMbx m
  | .legalIdRecheck computed => decide (computed.length = 32)
  | .statusRepublish unit => decide (unit < 2)
  | .verificationSwitchChange _ => true
  | .verifierSessionTimeout => true
  | .crdMode _ => true
  | .audAppend _ _ => true
  | .audInit _ => true
  | .audErase _ => true
  | .cordStartScan => true
  | .crdWdog _ => true
  | .cordWatchdogExpiry => true
  | .crdNotify _ => true
  | .zero channel => decide (channel < 128)
  | .semiAutomaticTare channel => decide (channel < 128)
  | .presetTare channel => decide (channel < 128)
  | .clearTare channel => decide (channel < 128)
  | .weighingStart channel => decide (channel < 128)
  | .weighingEnd channel => decide (channel < 128)
  | .resetTotals channel => decide (channel < 128)
  | .initialZeroTimeout channel => decide (channel < 128)
  | .sclStart => true
  | .sclStop => true
  | .sclAdopt => true
  | .sclRetire => true
  | .serviceConnection _ => true
  | .sessionOpen path _ _ => wfPath path
  | .sessionProve path _ session _ signature => wfPath path && decide (session < 65536) && decide (signature.length = 64)
  | .sessionClose path _ session => wfPath path && decide (session < 65536)
  | .sessionKeepalive path _ session => wfPath path && decide (session < 65536)
  | .proveTimeout session => decide (session < 65536)
  | .sessionIdleTimeout session => decide (session < 65536)
  | .serviceRead m path => wfSvc m && wfPath path
  | .serviceWrite m path => wfSvc m && wfPath path
  | .segmentTransferTimeout session => decide (session < 65536)
  | .hostwrite _ path session entries => wfPath path && decide (session < 65536) && wfHost entries
  | .objwriteApply lane _ p => decide (lane < 2) && wfObjWrite p
  | .objwriteAck lane _ p => decide (lane < 2) && wfObjWrite p
  | .objwriteNack lane _ p => decide (lane < 2) && wfObjWrite p
  | .objwriteForward lane _ p => decide (lane < 2) && wfObjWrite p
  | .objwriteResult lane _ p => decide (lane < 2) && wfObjWrite p
  | .forwardTimeout _ => true
  | .restore rq => wfRq rq
  | .seatedRead => true
  | .sourceJudged _ => true
  | .xt1StartTimeout => true
  | .clockSourceFailure _ => true
  | .slowSourceFailure _ => true
  | .kdvTarget _ _ => true
  | .dvfsPowerGood => true
  | .dvfsStepDone => true
  | .powerGoodTimeout => true
  | .fircTrimWindow _ => true
  | .timSet _ _ => true
  | .timIncr _ _ => true
  | .ptpMessage _ => true
  | .announceTimeout => true
  | .rtcSet _ => true
  | .rtcAlarm => true
  | .rtcHourlySet => true
  | .deltasComplete => true
  | .commitDurable => true
  | .seasoningPassDone => true
  | .coldSnapshotDurable => true
  | .seasonPause rq => wfRq rq
  | .jrnCmdStartPass _ => true
  | .coalesceFlush => true
  | .coalescingLeave => true
  | .mramWriteError _ _ => true
  | .eventPosting window _ _ => decide (window < 3)
  | .eventRecordWritten => true
  | .timeAnchor => true
  | .bucketSet rq => wfRq rq
  | .gateCommit _ _ => true
  | .gateFltPop _ _ => true
  | .gateTrkHarvest _ => true
  | .gateTrkClear _ _ => true
  | .gateTrkClearDone => true
  | .mgatetagWrite core _ _ => decide (core < 8)
  | .dicDoorbell source => decide (source < 1024)
  | .dicRelRead core => decide (core < 8)
  | .deviceReRing source => decide (source < 1024)
  | .wfi core => decide (core < 8)
  | .embSleep core _ _ => decide (core < 8)
  | .entryTimeout => true
  | .allCoresWfi => true
  | .bankedEntered => true
  | .wakeCondition w => wfWake w
  | .resumeDigestCheck => true
  | .wakeComplete => true
  | .localReadMark _ => true
  | .localWriteMark _ => true
  | .supplyLow group _ => decide (group < 2)
  | .supplyTrip group _ => decide (group < 2)
  | .tripSwitchOff group channel => decide (group < 2) && decide (channel < 4)
  | .supplyGood group _ => decide (group < 2)
  | .supplyRecovered group _ => decide (group < 2)
  | .rearm rq => wfRq rq
  | .lioRearm _ _ => true
  | .currentLimitLong output => decide (output < 8)
  | .thermalShutdown output => decide (output < 8)
  | .unseated => true
  | .feedStateChange _ _ _ => true
  | .powerFail => true
  | .eject _ => true
  | .tempWarning _ => true
  | .overTemperature _ => true
  | .hpwClear _ _ => true
  | .updateData m rq => wfSvc m && wfRq rq
  | .updateCheck rq => wfRq rq
  | .updateStart rq => wfRq rq
  | .updateDiscard rq => wfRq rq
  | .loaderUpdate _ => true
  | .recoveryImage _ => true
  | .svnCommit rq => wfRq rq
  | .updBegin m => wfMbx m
  | .updData m => wfMbx m
  | .updEnd m => wfMbx m
  | .ksEnrol m => wfMbx m
  | .ksRevoke m => wfMbx m
  | .ksLoad m => wfMbx m
  | .ksInfo m => wfMbx m
  | .ksSign m => wfMbx m
  | .arbAdvance m => wfMbx m
  | .credentialEnrol rq => wfRq rq
  | .credentialRevoke rq => wfRq rq
  | .progkeyEnrol rq => wfRq rq
  | .progkeyRevoke rq => wfRq rq
  | .keyLoad rq => wfRq rq
  | .verifierEnrol rq => wfRq rq
  | .verifierRevoke rq => wfRq rq
  | .zeroise via => wfVia via
  | .debugChallenge rq => wfRq rq
  | .debugUnlock rq => wfRq rq
  | .ksCmdGenerate => true
  | .ksCmdSign => true
  | .ksCmdUnwrap => true
  | .ksCmdEnrol => true
  | .ksCmdRevoke => true
  | .ksCmdVerify => true
  | .ksCmdZeroise => true
  | .ksCmdArbAdvance => true
  | .ksCmdDebugPermit => true
  | .commission rq => wfRq rq
  | .fijComm _ _ => true
  | .fijStart via => wfVia via
  | .fijStop via => wfVia via
  | .fijRunExpiry => true
  | .fijClear _ _ => true
  | .reorderHoldExpiry rule => decide (rule < 12)
  | .registerWrite master _ addr _ _ => wfMaster master && decide (addr % 4 = 0)
  | .presenceLineChange _ _ => true
  | .damperEdge _ _ => true
  | .stationWriteResp station _ _ _ => decide (station < 2048)
  | .throughCycleStart port h => decide (port < 4) && wfFolHdr h
  | .serviceConnectionEnd _ => true

end Sys2Proof
end

