-- ==== Sys2Proof/Tests/Slice0.lean ====
section
/-!
SUPPORT. The model's own checks: a state for each clause of each statement that meets all of its conditions, one step with the spec's own
numbers for some commands of every chapter, and ill-formed commands.
-/

open Sys2Proof Sys2Proof.Machine Sys2Proof.Safety

namespace Sys2Proof.Tests

-- one theorem at a time: the kernel evaluations need no threads of their own
set_option Elab.async false

/-- A running module, ready for a role; the pair's states on top of it: ACTIVE with a synchronised standby beside it, and that standby. -/
def up : State := { State.reset with
  now := 5000000000
  sup := { State.reset.sup with kilnHeld := false, rickHeld := false, bankHeld := false, cordHeld := false, runtimeUp := true, rickUp := true, cordUp := true }
  hw := { State.reset.hw with porReleased := true }
  clk := { State.reset.clk with phase := .run }
  tim := { State.reset.tim with time := 7000 } }
def peer (x : Slot) (f : Peer → Peer) (s : State) : State := { s with pair := setPeer s.pair x (f (peerOf s.pair x)) }
def pr (f : Pair → Pair) (s : State) : State := { s with pair := f s.pair }
def act : State := peer .b (fun p => { p with present := true, role := some .standby, sub := .synchronised, flags := 1, heardAt := some 4999999000 })
  (pr (fun p => { p with role := .active, armed := true, driving := true, outEn := true, epoch := 9, epochSeen := 7 }) up)
def sby : State := peer .b (fun p => { p with present := true, role := some .active, toggling := true, heardAt := some 4999999000 })
  (pr (fun p => { p with role := .standby, sub := .synchronised, armed := true, epoch := 9, epochSeen := 9 }) up)
def alone (s : State) : State := peer .b (fun _ => {}) s

/-- The same two with a program of one task at work, both lanes up, and frames of the partner expected in sequence. -/
def prg : Prog := { id := 5, codeLen := 0, dataLen := 16, retLen := 0, syms := [{ id := 77, typ := 4, flags := 0, count := 1, offset := 0, owner := 2 }], migs := [], init := [1,2,3], descs := [], triggers := [], codeBase := codeRegion, dataBase := dataRegion, imgLen := 0 }
def dsc : Desc := { kind := 0, prio := 1, policy := 0, cores := 6, trigger := 0, period := 4, offset := 0, latch := 20, deadline := 900, entry := 0, data := 0, segmask := 0, inPages := 3, outPages := 12 }
def tk (f : Task → Task) (s : State) : State := { s with run := { s.run with tasks := modAt s.run.tasks 2 f } }
def cy (s : State) : State := tk (fun k => { k with desc := dsc, inst := 6, cur := 6 }) { s with
  run := { s.run with prog := some prg }, cyc := { s.cyc with releasing := true, taskEn := 4, beat := 8, beatAt := s.now - 20000, pstate := .running } }
def rx (s : State) : State := { s with
  flu := { s.flu with lane0 := { s.flu.lane0 with locked := true, up := true }, lane1 := { s.flu.lane1 with locked := true, up := true }, path := 1 }
  fluq := setRx .b { rxOf s.fluq .b with own := some 41 } s.fluq }
def ac : State := rx (cy act)
def sb : State := rx (cy sby)

-- one change of one part of a state
def fl (f : Task → Task) : State := tk (fun k => f { k with inFlight := true, st := 3, threads := 6, startAt := 5000, pol := 0 }) ac
def ch (f : Chg → Chg) (s : State) : State := { s with chg := f s.chg }
def ck (f : Clk → Clk) (s : State) : State := { s with clk := f s.clk }
def tmm (f : Tim → Tim) (s : State) : State := { s with tim := f s.tim }
def jr (f : Jrn → Jrn) (s : State) : State := { s with jrn := f s.jrn }
def ev (f : Evr → Evr) (s : State) : State := { s with evr := f s.evr }
def gt (f : Gate → Gate) (s : State) : State := { s with gate := f s.gate }
def dq (f : Dic → Dic) (s : State) : State := { s with dic := f s.dic }
def em (f : Emb → Emb) (s : State) : State := { s with emb := f s.emb }
def li (f : Lio → Lio) (s : State) : State := { s with lio := f s.lio }
def gd (k : Nat) (f : LioGroup → LioGroup) (s : State) : State := li (fun l => setGroup l k (f (lioGroup l k))) s
def hwm (f : Hw → Hw) (s : State) : State := { s with hw := f s.hw }
def su (f : Sup → Sup) (s : State) : State := { s with sup := f s.sup }
def fu (f : Flu → Flu) (s : State) : State := { s with flu := f s.flu }
def fq (f : FluQ → FluQ) (s : State) : State := { s with fluq := f s.fluq }
def rn (f : Run → Run) (s : State) : State := { s with run := f s.run }
def cyw (f : Cyc → Cyc) (s : State) : State := { s with cyc := f s.cyc }
def od (f : Od → Od) (s : State) : State := { s with od := f s.od }
def mnt (f : Mnt → Mnt) (s : State) : State := { s with mnt := f s.mnt }
def cor (f : Cord → Cord) (s : State) : State := { s with cord := f s.cord }
def leg (f : Legal → Legal) (s : State) : State := { s with legal := f s.legal }
def aud (f : Aud → Aud) (s : State) : State := { s with aud := f s.aud }
def bsm (f : Bus → Bus) (s : State) : State := { s with bus := f s.bus }
def up_ (f : Upd → Upd) (s : State) : State := { s with upd := f s.upd }
def ks (f : Ks → Ks) (s : State) : State := { s with ks := f s.ks }
def prt (f : Port → Port) (s : State) : State := { s with fol := { s.fol with ports := modAt s.fol.ports 1 f } }
def sg (f : Seg → Seg) (s : State) : State := { s with fol := { s.fol with segs := modAt s.fol.segs 1 f } }
def slotC (s : State) : State := hwm (fun h => { h with slot1 := true }) s

-- frames of slot B, a client of connection 3 with session 17, a mailbox request, a station, a channel
def hd (e : Word) : FlueHdr := { ver := 1, src := .b, dst := some .a, epoch := e, seq := 42, flags := 0 }
def dg (d o : Nat) : DigestP := { task := 2, outcome := o, inst := 7, digest := BitVec.ofNat 64 d, outBytes := 0, retBytes := 0 }
def tw (s : State) : State := fu (fun f => { f with syncTasks := 4 }) s
def kp (arg : DWord) : KindleP := { op := 0, flags := 0, imgid := 0, arg := arg, aux := 0, data := [4, 5] }
def pp (op : Nat) (txn : Word) (b : DWord) (arg : Word) (es : List ObjE) : ObjWriteP := { op := op, txn := txn, beat := b, arg := arg, entries := es }
def opn (lvl : Nat) (s : State) : State := od (fun o => { o with conns := [3], sessions := o.sessions ++ [{ handle := 17, level := lvl, proven := true, challenge := [], openedAt := 0, cred := some 1, path := .service 3, xfer := none }] }) s
def q (v : List Byte) : Rq := { path := .service 3, session := 17, tid := 9, value := v }
def msg (fl : Byte) (arg : Word) (d : List Byte) : SvcMsg := { op := 2, tid := 9, index := 0, sub := 0, sflags := fl, session := 17, arg := arg, data := d }
def gm (i : Half) (sb : Byte) : SvcMsg := { op := 2, tid := 9, index := i, sub := sb, sflags := 0, session := 17, arg := 0, data := [] }
def xf (d : List Byte) (s : State) : State := od (fun o => { o with sessions := o.sessions.map (fun x => { x with xfer := some { index := 0x1720, sub := 1, write := true, data := d, at_ := 5 } }) }) s
def mq (a0 a1 : DWord) (d : List Byte) : MbxRq := { session := 1, arg0 := a0, arg1 := a1, data := d }
def cb : State := cor (fun c => { c with ilock := true }) ac
def vs : State := aud (fun a => { a with inited := true }) (cor (fun c => { c with sess := some { handle := 1, slot := 0, actor := 5 }, session := true, vmode := true, switchSet := true }) cb)
def off : State := opn 4 (alone (aud (fun a => { a with inited := true }) (leg (fun l => { l with chans := List.replicate 128 .unconfigured }) (cor (fun c => { c with ilock := true }) (pr (fun p => { p with role := .offline, sub := .none }) up)))))
def voff : State := cor (fun c => { c with vmode := true, switchSet := true }) off
def zoff : State := opn 3 (od (fun o => { o with sessions := [] }) (cor (fun c => { c with sess := some { handle := 1, slot := 9, actor := 5 }, session := true }) voff))
def chn (n : Nat) (x : ChSt) (s : State) : State := leg (fun l => { l with chans := putAt l.chans n x }) s
def stc : StCfg := { flags := 1, seg := 1, pos := 5, inOff := 0x100, inLen := 4, outLen := 4, outOff := 0x300, qOff := 0x200, inSlot := 0, subCnt := 3, ioTask := 2, outTask := 2, typeId := 99 }
def sta (f : Station → Station) : State := { sg (fun g => { g with st := .running, start := some 8 }) (prt (fun p => { p with up := true }) ac) with
  fol := { (sg (fun g => { g with st := .running, start := some 8 }) (prt (fun p => { p with up := true }) ac)).fol with stations := [f { no := 7, cfg := stc, st := .present }] } }
def fh (st : Word) : FolHdr := { typ := 2, seg := 1, flags := 0, stamp := st, epoch := 9, station := 7, hops := 0 }
def inp : InputP := { gateEpoch := 9, status := 0, refusals := 3, latchDev := 0, data := [5,6,7,8,9] }
def pv (j sub v : Nat) : ParamVal := { j := j, sub := sub, val := BitVec.ofNat 64 v }
def sc (ins cmd arg : Nat) (f : ScCh → ScCh) : State := { ac with scl := { ac.scl with run := true, ingress := true, map := putAt ac.scl.map 4 0x80000006, chans := putAt ac.scl.chans 6 (f { st := .running, params := [pv 0 1 ins, pv 0 5 1, pv 0 6 0, pv 4 1 8, pv 4 2 0, pv 9 1 0, pv 9 2 1, pv 9 3 10, pv 9 6 10000, pv 0x0A 3 100, pv 0x0C 1 3, pv 0x0C 2 500], stable := true, nozero := false, m := fOfInt 70, z := fOfInt 10, cmds := [{ tag := 0, cseq := 5, cmd := cmd, arg := (arg : Int) }] }) } }
def kk (cmd arg : Nat) : ScaleCmd := { tag := 0, cseq := 5, cmd := cmd, arg := (arg : Int) }
def pd (d : Bool) : JPending := { commit := 1, task := 2, inst := 5, ds := [{ offset := 4, data := [1,2,3] }], deltas := d, swap := none }
def sg0 : List JSeg := putAt (List.replicate 192 {}) 5 { kind := .log, gen := 3, recs := [.commit 1 9 1 1] }
def rsv : State := em (fun e => { e with wakeEn := 1 }) (pr (fun p => { p with role := .reserve, driving := false, outEn := false, armed := false }) ac)
def lg : State := li (fun l => { l with cycle := 0x0001000200000002, map := 0x0000004000000020, latch := 0xFF, off := 0 }) (gd 0 (fun x => { x with st := .good, missing := false, held := 0xA5 }) (gd 1 (fun x => { x with st := .good, missing := false, held := 0x5A }) ac))
def img : List Byte := le4 0x50465731 ++ u8 2 ++ u8 0 ++ u8 1 ++ u8 0 ++ le4 65537 ++ le4 4 ++ le4 0x800 ++ zeros 108 ++ [1,2,3,4]
def enr (slot level : Byte) : List Byte := [slot, level, 1, 0] ++ zeros 32
def crd (slot level : Nat) (s : State) : State := ks (fun k => { k with creds := [{ slot := slot, level := level, key := zeros 32, debug := true }] }) s
def fl1 : FlueFrame := ⟨hd 9, .kindle { op := 1, flags := 0, arg := 0, data := [], imgid := 0, aux := 0 }⟩
def fij : State := mnt (fun m => { m with comm := true, seed := 0, rules := putAt m.rules 3 { cfg := 0x80000000, hits := 5, seen := 3 } }) (opn 4 ac)
def fijRun : State := mnt (fun m => { m with running := true, startedAt := 1000000000, holders := [ownHolder ac 9 0 17], held := [(8, .flueTx 1 fl1, 0)] }) fij

-- the conditions of the statements as decisions, each with the step that gives the condition back
def running (s : State) : Bool := decide (s.sup.kilnHeld = false ∧ s.sup.rickHeld = false ∧ s.sup.bankHeld = false ∧ s.sup.cordHeld = false ∧ s.sup.isolated = [] ∧
  s.sup.runtimeUp = true ∧ s.sup.rickUp = true ∧ s.sup.failSilent = false ∧ s.emb.state = .run ∧ s.hw.powerDown = false ∧ s.hw.porReleased = true ∧ s.clk.phase = .run)
theorem running_sound (s : State) (h : running s = true) : Running s := by
  obtain ⟨a, b, c, d, e, f, g, i, j, k, l, m⟩ := of_decide_eq_true h; exact ⟨a, b, c, d, e, f, g, i, j, k, l, m⟩
def areaOpen (s : State) : Bool := decide (12000000000 ≤ cfgTokens s.jrn s.now)
theorem areaOpen_sound (s : State) (h : areaOpen s = true) : AreaOpen s := by simpa [areaOpen, AreaOpen] using h
def trailOpen (k : Nat) (s : State) : Bool := decide (audRefuse k s = 0 ∧ s.aud.used < 124518)
theorem trailOpen_sound (k : Nat) (s : State) (h : trailOpen k s = true) : TrailOpen k s := by simpa [trailOpen, TrailOpen] using h
def accepted (idx sub : Nat) (rq : Rq) (s : State) : Bool :=
  (match rq.path with | .service n => s.od.conns.contains n | _ => false) && decide (rq.value.length ≤ 32768) &&
  decide (checkAccess (writer idx sub rq) true rq.value s = 0) &&
  (match entryOf idx sub s with | some m => decide (checkValue idx sub m rq.value s = 0) | none => false) &&
  s.od.sessions.all (fun x => decide (x.xfer = none ∧ x.revoked = false))
theorem accepted_sound (idx sub : Nat) (rq : Rq) (s : State) (h : accepted idx sub rq s = true) : ∃ m, Accepted idx sub rq m s := by
  simp only [accepted, Bool.and_eq_true, List.all_eq_true, decide_eq_true_eq] at h
  obtain ⟨⟨⟨⟨a, b⟩, c⟩, d⟩, e⟩ := h
  cases hp : rq.path <;> simp [hp] at a
  cases he : entryOf idx sub s <;> simp [he] at d
  exact ⟨_, ⟨⟨_, hp, by simpa using a⟩, b, c, he, d, e⟩⟩
def received (lane : Nat) (f : FlueFrame) (s : State) : Bool :=
  decide (lane < 2 ∧ laneOpen s lane = true ∧ (laneOf s.flu lane).up = true ∧ pathNow s = s.flu.path ∧ s.mnt.running = false ∧ s.mnt.held = [] ∧
    f.hdr.ver = 1 ∧ f.hdr.src ≠ mySlot s ∧ f.hdr.dst = some (mySlot s) ∧ f.hdr.epoch ≠ 0xFFFFFFFF ∧
    (f.hdr.epoch = s.pair.epoch ∨ (isClaim f.body = true ∧ s.pair.epoch.toNat ≤ f.hdr.epoch.toNat))) &&
  (match (peerOf s.pair f.hdr.src).heardAt with | some t => decide (s.now - t < 100000000) | none => false) &&
  (match (rxOf s.fluq f.hdr.src).own with | some k => decide (k.toNat + 1 = f.hdr.seq.toNat) | none => false)
theorem received_sound (lane : Nat) (f : FlueFrame) (s : State) (h : received lane f s = true) : Received lane f s := by
  simp only [received, Bool.and_eq_true, decide_eq_true_eq] at h
  obtain ⟨⟨⟨a, b, c, d, e, g, i, j, k, l, m⟩, n⟩, o⟩ := h
  refine ⟨a, b, c, d, e, g, i, j, k, l, m, ?_, ?_⟩
  · cases ht : (peerOf s.pair f.hdr.src).heardAt with
    | none => simp [ht] at n
    | some t => exact ⟨t, rfl, by simpa [ht] using n⟩
  · cases ht : (rxOf s.fluq f.hdr.src).own with
    | none => simp [ht] at o
    | some t => exact ⟨t, rfl, by simpa [ht] using o⟩
def swo (a : Bool) : SwOver := { beat := 9, epoch := 10, acked := a, service := false }
def tx1 : Txn := { no := 3, beat := 9, entries := [], client := none, forward := none, acked := false, cfgId := 55 }
def cl1 : Client := { path := .service 3, session := 17, tid := 9, index := 0x1100, sub := 6 }
def fw1 : Fwd := { no := 3, client := some cl1, value := [1], at_ := 0 }
def ptp : State := od (fun o => { o with vals := [{ index := 0x1400, sub := 3, val := [1] }] }) ac
def enr0 (slot level : Byte) : List Byte := [slot, level, 0, 0] ++ zeros 32
def ses (d : Option (List Byte)) : Session := { handle := 17, level := 4, proven := true, challenge := [], openedAt := 0, cred := some 1, path := .service 3, xfer := d.map (fun x => { index := 0x1720, sub := 1, write := true, data := x, at_ := 5 }) }
def relF : FolFrame := ⟨{ fh 8 with typ := 3 }, .output { task := 2, oflags := 0, inst := 7, data := [1] }⟩
def relE (f : FolFrame) : RelayE := { port := 1, flags := 0, toff := 0xFFFFFF, frame := folBytes 0 f }

-- every clause of every statement with conditions has a state and operands that meet all of them, at a boundary where it has one -----------

theorem witness_CommandsKeepQueue : (
    (let s : State := ac; decide (s.mem.wf = true) && decide (s.evr.queue.length ≤ 64) && decide (s.gate.mopen = true → s.gate.mopenShut = false))) = true := by decide +kernel
theorem witness_FailSilentRequest : (
    (let core : Nat := 7; let level : Level := .m; let word : Word := 0xD1E5; let s : State := ac; running s && decide (core < 8) && decide (level = .m) && decide (word.setWidth 16 = 0xD1E5#16)) &&
    (let core : Nat := 7; let level : Level := .s; let word : Word := 0xD1E5; let s : State := ac; running s && decide (core < 8) && decide (level ≠ .m ∨ word.setWidth 16 ≠ 0xD1E5#16))) = true := by decide +kernel
theorem witness_SimultaneousErrors : (
    (let s : State := ac; decide (s.sup.failSilent = false))) = true := by decide +kernel
theorem witness_RickReload : (
    (let s : State := off; running s && decide (s.pair.role = .offline ∨ s.pair.role = .update)) &&
    (let s : State := ac; running s && decide (s.pair.role ≠ .offline) && decide (s.pair.role ≠ .update))) = true := by decide +kernel
theorem witness_CellAndBlockFaults : (
    (let s : State := ac; running s) &&
    (let s : State := ac; running s) &&
    (let b : Byte := 0x23; let s : State := ac; running s && decide (degraded b = true)) &&
    (let s : State := su (fun x => { x with bankDraining := true }) ac; decide (s.sup.bankDraining = true) && decide (s.pair.recBusy = false))) = true := by decide +kernel
theorem witness_BusRequestsComplete : (
    (let c : Nat := 0; let a : Nat := 0x9FFFFFFFC; let level : Level := .m; let data : List Byte := [1,2,3,4]; let s : State := ac; running s && decide (s.bus.retries = []) && decide (data ≠ []) && decide (0x800000000 ≤ a) && decide (a + data.length ≤ 0xA00000000) && decide (a % 4096 + data.length ≤ 4096) && decide (checkPart s.gate level (tagOf s.gate (.core c)) .write a = .pass)) &&
    (let c : Nat := 0; let a : Nat := 0x800000000; let n : Nat := 8; let level : Level := .m; let s : State := ac; running s && decide (s.bus.retries = []) && decide (0 < n) && decide (0x800000000 ≤ a) && decide (a + n ≤ 0xA00000000) && decide (a % 4096 + n ≤ 4096) && decide (checkPart s.gate level (tagOf s.gate (.core c)) .read a = .pass)) &&
    (let c : Nat := 0; let s : State := ac; running s && decide (s.bus.retries = []) && decide (s.bus.latches = []) && decide (checkPart s.gate .m (tagOf s.gate (.core c)) .write 0x10003018 = .pass)) &&
    (let c : Nat := 0; let a : Nat := 0x10003FEE; let wide : Bool := false; let s : State := ac; running s && decide (s.bus.retries = []) && decide (0x10003000 ≤ a) && decide (a < 0x10003FF0) && decide (a % (if wide then 8 else 4) ≠ 0) && decide (checkPart s.gate .m (tagOf s.gate (.core c)) .write a = .pass)) &&
    (let c : Nat := 0; let a : Nat := 0x9FFFFFFFC; let n : Nat := 4; let k : Nat := 7; let s : State := bsm (fun b => { b with retries := [{ req := { master := .core 0, level := .s, op := .read, addr := 0x9FFFFFFFC, len := 4, data := [], cell := .none, busy := true }, retries := 7 }] }) ac; let r : BusReq := { master := .core c, level := .s, op := .read, addr := a, len := n, data := [], cell := .none, busy := true }; running s && decide (0 < n) && decide (k < 8) && decide (0x800000000 ≤ a) && decide (a + n ≤ 0xA00000000) && decide (a % 4096 + n ≤ 4096) && decide (s.bus.retries = [{ req := r, retries := k }]))) = true := by decide +kernel
theorem witness_StartsComplete : (
    (let s : State := ck (fun c => { c with phase := .ready }) up; decide (s.hw.porReleased = true) && decide (s.hw.powerDown = false) && decide (s.clk.phase = .ready) && decide (s.sup.failSilent = false) && decide (s.pair.role ≠ .clockHold)) &&
    (let s : State := su (fun x => { x with failSilent := true, autoRestarts := [1400000001, 1400000002] }) (ck (fun c => { c with phase := .run }) up); let recent := s.sup.autoRestarts.filter (fun t => decide (s.now - t < 3600000000000)); decide (s.sup.failSilent = true) && decide (s.sup.heldSilent = false) && decide (isolated s 0x62#8 = false) && decide (s.clk.phase = .run) && decide (s.pair.role ≠ .clockHold) && decide (recent.length < 3)) &&
    (let s : State := su (fun x => { x with failSilent := true, autoRestarts := [1400000001, 1400000002, 1400000003] }) up; let recent := s.sup.autoRestarts.filter (fun t => decide (s.now - t < 3600000000000)); decide (s.sup.failSilent = true) && decide (s.sup.heldSilent = false) && decide (isolated s 0x62#8 = false) && decide (s.clk.phase = .run) && decide (s.pair.role ≠ .clockHold) && decide (3 ≤ recent.length))) = true := by decide +kernel
theorem witness_DampersComplete : (
    (let x : Slot := .b; let s : State := ac; running s && decide (x ≠ mySlot s) && decide ((peerOf s.pair x).toggling = false)) &&
    (let x : Slot := .b; let s : State := peer .b (fun p => { p with toggling := true }) ac; running s && decide (x ≠ mySlot s) && decide ((peerOf s.pair x).toggling = true) && decide (s.pair.role = .active) && decide (s.pair.takeover = none)) &&
    (let x : Slot := .b; let ns : Nat := 99; let s : State := ac; running s && decide (x ≠ mySlot s) && decide (ns < 100)) &&
    (let x : Slot := .b; let ns : Nat := 100; let s : State := peer .b (fun p => { p with edges := 3, lastEdge := ac.now - 400 }) ac; running s && decide (x ≠ mySlot s) && decide (100 ≤ ns) && decide ((peerOf s.pair x).toggling = false) && decide ((peerOf s.pair x).edges = 3) && decide (s.now - (peerOf s.pair x).lastEdge ≤ 400)) &&
    (let s : State := ac; running s && decide (s.pair.driving = true)) &&
    (let x : Slot := .b; let s : State := peer .b (fun p => { p with toggling := true }) ac; running s && decide (x ≠ mySlot s) && decide ((peerOf s.pair x).toggling = true) && decide ((peerOf s.pair x).misTold = false) && decide ((peerOf s.pair x).role ≠ some .active) && decide ((peerOf s.pair x).claimAt = none)) &&
    (let s : State := sb; running s && decide (s.pair.role = .standby)) &&
    (let s : State := ac; running s) &&
    (let level : Level := .m; let w : Word := 0xA5C30001; let s : State := off; running s && decide (level ≠ .m ∨ (bit w 0 = true ∧ runsTasks s.pair.role = false))) &&
    (let x : Slot := .c; let s : State := ac; running s && decide (x ≠ mySlot s))) = true := by decide +kernel
theorem witness_TakeoverComplete : (
    (let ready (s : State) : Bool := running s && decide (s.pair.role = .standby) && decide (s.pair.sub = .synchronised) && decide (s.pair.armed = true) && decide (s.flu.divHold = false) && decide (epochExhausted s = false); let x : Slot := .b; let s : State := sb; ready s && decide (mySlot s ≠ .c) && decide (activeSlot s = some x) && decide ((peerOf s.pair x).toggling = true) && decide (s.pair.switchSeen = none)) &&
    (let ready (s : State) : Bool := running s && decide (s.pair.role = .standby) && decide (s.pair.sub = .synchronised) && decide (s.pair.armed = true) && decide (s.flu.divHold = false) && decide (epochExhausted s = false); let x : Slot := .b; let s : State := slotC sb; ready s && decide (mySlot s = .c) && decide (activeSlot s = some x) && decide ((peerOf s.pair x).toggling = true) && decide (s.pair.switchSeen = none)) &&
    (let ready (s : State) : Bool := running s && decide (s.pair.role = .standby) && decide (s.pair.sub = .synchronised) && decide (s.pair.armed = true) && decide (s.flu.divHold = false) && decide (epochExhausted s = false); let at_ : Nat := 3; let s : State := pr (fun p => { p with lossAt := some 3 }) (slotC sb); ready s && decide (mySlot s = .c) && decide (s.pair.lossAt = some at_))) = true := by decide +kernel
theorem witness_ClaimsComplete : (
    (let x : Slot := .b; let s : State := peer .b (fun p => { p with toggling := true }) ac; running s && decide (s.pair.role = .active) && decide ((others s).find? (fun y => (peerOf s.pair y).toggling) = some x) && decide (∀ y ∈ others s, (peerOf s.pair y).claimAt = none)) &&
    (let s : State := pr (fun p => { p with recBusy := true }) ac; running s && decide (s.pair.recBusy = true) && decide (s.pair.switchSeen = none)) &&
    (let s : State := pr (fun p => { p with recBusy := true }) ac; running s && decide (s.pair.recBusy = true)) &&
    (let t0 : Nat := 5; let s : State := pr (fun p => { p with joinAt := some 5 }) off; running s && decide (s.pair.joinAt = some t0) && decide (s.pair.role = .offline ∨ s.pair.role = .reserve)) &&
    (let s : State := rn (fun r => { r with prog := some prg }) up; running s && decide (s.pair.role = .offline) && decide (s.hw.key = .run) && decide (s.hw.ejectOpen = false) && decide (s.run.prog.isSome = true) && decide (s.sup.cordUp = true) && decide (s.flu.divHold = false) && decide (slotErr s = false) && decide (s.ks.permit = false) && decide (anySeen s .active = false) && decide (anySeen s .standby = false) && decide (anySeen s .update = false) && decide (winsStart s = true) && decide (epochExhausted s = false)) &&
    (let n : Nat := 1; let w : StartWin := { firstCs := some 1, raise := 0, raised := false }; let s : State := sg (fun g => { g with window := some { firstCs := some 1, raise := 0, raised := false } }) ac; decide (n < 4) && decide (s.fol.segs.length = 4) && decide ((segOf s n).window = some w) && decide (((stationsOn s n).all (fun x => x.got) && w.firstCs.isSome && !w.raised) = true)) &&
    (let x : Slot := .b; let s : State := peer .b (fun p => { p with heardAt := none }) ac; running s && decide (s.pair.role = .active) && decide (x ≠ mySlot s) && decide ((peerOf s.pair x).dead = false) && decide ((peerOf s.pair x).role = some .standby) && decide ((peerOf s.pair x).heardAt = none) && decide (s.pair.claimed = []) && decide (epochExhausted s = false)) &&
    (let t0 : Nat := 3; let s : State := pr (fun p => { p with selfTest := some 3 }) rsv; running s && decide (s.pair.role = .reserve) && decide (s.pair.selfTest = some t0))) = true := by decide +kernel
theorem witness_MakeOfflineRule : (
    (let s : State := ac; running s && decide (s.pair.role = .active) && decide ((standbySlot s).isSome = true)) &&
    (let s : State := sb; running s && decide (¬ (s.pair.role = .active ∧ (standbySlot s).isSome = true)))) = true := by decide +kernel
theorem witness_SwitchoversComplete : (
    (let x : Slot := .b; let s : State := ac; running s && decide (s.pair.role = .active) && decide (s.flu.resync.phase = 0) && decide (standbySlot s = some x) && decide (switchCheck s = 0) && decide (tokenFree s (ownHolder s 1 0 0) = true)) &&
    (let s : State := alone ac; running s && decide (s.pair.role = .active) && decide (s.flu.resync.phase = 0) && decide (standbySlot s = none)) &&
    (let w : SwOver := swo false; let s : State := pr (fun p => { p with switch := some (swo false) }) ac; running s && decide (s.pair.role = .active) && decide (s.pair.switch = some w) && decide (w.acked = false)) &&
    (let w : SwOver := swo true; let s : State := pr (fun p => { p with switch := some (swo true) }) ac; running s && decide (s.pair.role = .active) && decide (s.pair.switch = some w) && decide (w.acked = true)) &&
    (let s : State := peer .c (fun p => { p with role := some .reserve, heardAt := some 4999999000 }) ac; running s && decide (s.pair.role = .active) && decide (reserveSeen s = true)) &&
    (let s : State := ac; running s && decide (s.hw.key = .run) && decide (s.pair.role = .active) && decide (s.hw.ejectOpen = false) && decide (s.upd.debugOpen = false))) = true := by decide +kernel
theorem witness_PairFramesComplete : (
    (let n : Nat := 0; let h : FlueHdr := hd 9; let p : StatusP := { role := .active, sub := .none, key := .hold, flags := 5, beat := 1, beatTime := 2, progid := 77 }; let s : State := sb; running s && received n ⟨h, .status p⟩ s && decide (s.pair.role ≠ .offline)) &&
    (let n : Nat := 0; let h : FlueHdr := hd 12; let p : ClaimP := { epoch := 10, slot := .b, reason := 1, members := 3, rept := 0, time := 0 }; let s : State := sb; running s && received n ⟨h, .claim p⟩ s && decide (s.pair.role = .standby) && decide ((p.members &&& memberBit (mySlot s)) ≠ 0) && decide (s.pair.epoch.toNat < p.epoch.toNat) && decide (s.pair.claimed = []) && decide (p.reason ≠ 2)) &&
    (let n : Nat := 0; let h : FlueHdr := hd 9; let p : ClaimP := { epoch := 10, slot := .b, reason := 1, members := 2, rept := 0, time := 0 }; let s : State := ac; running s && received n ⟨h, .claim p⟩ s && decide (s.pair.role = .active) && decide ((p.members &&& memberBit (mySlot s)) = 0) && decide (s.pair.epoch.toNat < p.epoch.toNat)) &&
    (let n : Nat := 0; let h : FlueHdr := hd 9; let p : JoinP := { slot := .b, epoch := 9, progid := 0, pairCompat := 3, legalId := [1], legalCfg := [2], holders := [] }; let s : State := ac; running s && received n ⟨h, .join p⟩ s && decide (s.pair.role = .active) && decide (refusesJoin s = false) && decide (p.epoch.toNat ≤ s.pair.epoch.toNat)) &&
    (let n : Nat := 0; let h : FlueHdr := hd 9; let p : PromoteP := { target := .a, action := 0, epoch := 9 }; let s : State := pr (fun p => { p with role := .reserve, sub := .none }) sb; running s && received n ⟨h, .promote { p with action := 0 }⟩ s && decide (p.target = mySlot s) && decide (s.pair.role = .reserve) && decide (s.flu.divHold = false)) &&
    (let n : Nat := 0; let h : FlueHdr := { hd 9 with dst := some .c }; let p : PromoteP := { target := .c, action := 1, epoch := 9 }; let s : State := slotC (fu (fun f => { f with path := 0 }) sb); running s && received n ⟨h, .promote { p with action := 1 }⟩ s && decide (p.target = .c) && decide (mySlot s = .c) && decide (s.pair.role = .standby) && decide (s.flu.divHold = false)) &&
    (let n : Nat := 0; let h : FlueHdr := hd 9; let p : SwitchP := { beat := 99, epoch := 10 }; let s : State := sb; running s && received n ⟨h, .switch p⟩ s && decide (s.pair.role = .standby) && decide (activeSlot (flueHeard n ⟨h, .switch p⟩ s) = some h.src) && decide (serviceAsked s = false) && decide (p.epoch ≠ 0xFFFFFFFF) && decide ((heardEpoch (flueHeard n ⟨h, .switch p⟩ s)).toNat < p.epoch.toNat)) &&
    (let n : Nat := 0; let h : FlueHdr := hd 9; let w : SwOver := swo false; let s : State := pr (fun p => { p with switch := some (swo false) }) ac; let p : SwitchP := { beat := BitVec.ofNat 64 w.beat, epoch := w.epoch }; decide (w.beat < 2 ^ 64) && running s && received n ⟨h, .switchAck p⟩ s && decide (s.pair.role = .active) && decide (s.pair.switch = some w))) = true := by decide +kernel
theorem witness_TwinFramesComplete : (
    (let n : Nat := 0; let h : FlueHdr := hd 9; let p : ImageP := { task := 2, part := 0, parts := 2, inst := 7, offset := 0, body := [] }; let s : State := sb; running s && received n ⟨h, .image p⟩ s && decide (s.pair.role = .standby) && decide (s.pair.sub = .synchronised) && decide (s.fluq.images = []) && decide (1 < p.parts)) &&
    (let n : Nat := 0; let h : FlueHdr := hd 9; let p : DigestP := dg 5 0; let s : State := tw ac; running s && received n ⟨h, .digest p⟩ s && decide (s.pair.role = .active) && decide (twinOn s p.task = true) && decide (s.fluq.own = [])) &&
    (let n : Nat := 0; let h : FlueHdr := hd 9; let own : DigestP := dg 5 0; let p : DigestP := dg 5 0; let at_ : Nat := 3; let s : State := fq (fun f => { f with own := [{ p := dg 5 0, at_ := 3 }], missed := 2 }) (tw ac); running s && received n ⟨h, .digest p⟩ s && decide (s.pair.role = .active) && decide (twinOn s p.task = true) && decide (s.fluq.own = [{ p := own, at_ := at_ }]) && decide (own.task = p.task) && decide (own.inst = p.inst) && decide (own.outcome = 0) && decide (p.outcome = 0) && decide (own.digest = p.digest)) &&
    (let n : Nat := 0; let h : FlueHdr := hd 9; let own : DigestP := dg 6 0; let p : DigestP := dg 5 0; let at_ : Nat := 3; let s : State := fq (fun f => { f with own := [{ p := dg 6 0, at_ := 3 }], missed := 2 }) (tw ac); running s && received n ⟨h, .digest p⟩ s && decide (s.pair.role = .active) && decide (twinOn s p.task = true) && decide (s.fluq.own = [{ p := own, at_ := at_ }]) && decide (own.task = p.task) && decide (own.inst = p.inst) && decide (own.outcome = 0) && decide (p.outcome = 0) && decide (own.digest ≠ p.digest)) &&
    (let n : Nat := 0; let h : FlueHdr := hd 9; let e : RelayE := relE relF; let f : FolFrame := relF; let s : State := sb; running s && received n ⟨h, .relayOut [e]⟩ s && decide (s.pair.role = .standby) && decide (folOf e.frame = some f) && decide (bit e.flags 0 = false) && decide (s.now ≤ relayTime s f.hdr.stamp e.toff.toNat)) &&
    (let n : Nat := 1; let k : Nat := 3; let e : RelayE := relE relF; let s : State := fq (fun f => { f with relays := [{ e := relE relF, at_ := 3 }] }) sb; running s && decide (s.fluq.relays = [{ e := e, at_ := k }]) && decide (e.port = n)) &&
    (let n : Nat := 0; let h : FlueHdr := hd 9; let e : RelayE := relE ⟨fh 8, .input inp⟩; let g : FolHdr := fh 8; let p : InputP := { inp with data := [5,6,7,8,9,0,0,0] }; let s : State := ac; running s && received n ⟨h, .relayIn [e]⟩ s && decide (s.pair.role = .active) && decide (e.port < 4) && decide (folOf e.frame = some ⟨g, .input p⟩)) &&
    (let n : Nat := 0; let h : FlueHdr := hd 9; let p : NakP := { first := 3, count := 2 }; let s : State := ac; running s && received n ⟨h, .nak p⟩ s && decide (s.fluq.held = [])) &&
    (let n : Nat := 0; let h : FlueHdr := hd 9; let p : ResyncDataP := { addr := 0x900000000, data := [1, 2, 3] }; let s : State := pr (fun p => { p with sub := .resync }) sb; running s && received n ⟨h, .resyncData p⟩ s && decide (s.pair.role = .standby) && decide (s.pair.sub = .resync) && decide (s.flu.resync.marked = [])) &&
    (let n : Nat := 0; let h : FlueHdr := hd 9; let p : ResyncCtrlP := { phase := 4, task := 0xFF, arg := 9, beat := 0 }; let q : Word := 9; let s : State := fu (fun f => { f with resync := { phase := 4, awaiting := [(0xFF, 9)] } }) ac; running s && received n ⟨h, .resyncCtrl p⟩ s && decide (s.pair.role = .active) && decide (p.phase = 4) && decide (s.flu.resync.phase = 4) && decide (s.flu.resync.awaiting = [(p.task, q)]) && decide (s.flu.resync.trailing = [])) &&
    (let n : Nat := 1; let s : State := ac; running s && decide (n < 2) && decide (laneOpen s n = true)) &&
    (let f : FlueFrame := ⟨{ hd 9 with src := .a, dst := none }, .nak { first := 0, count := 0 }⟩; let s : State := slotC (hwm (fun h => { h with slotP := false }) sb); running s && decide (mySlot s = .c) && decide (laneOpen s 0 = true) && decide (laneOpen s 1 = true) && decide (forwards s = true) && decide (f.hdr.src = .a) && decide (f.hdr.dst = none))) = true := by decide +kernel
theorem witness_TwinTimersComplete : (
    (let k : Nat := 2; let s : State := tw sb; running s && decide (s.pair.role = .standby) && decide (twinOn s k = true)) &&
    (let k : Nat := 2; let s : State := tk (fun k => { k with inFlight := true, partner := some 0 }) (tw sb); running s && decide (s.pair.role = .standby) && decide ((taskOf s k).inFlight = true) && decide ((taskOf s k).partner = some 0)) &&
    (let d : DigestRec := { p := dg 6 0, at_ := 3 }; let s : State := fq (fun f => { f with own := [{ p := dg 6 0, at_ := 3 }], missed := missMax sb - 1 }) (tw sb); running s && decide (s.pair.role = .standby) && decide (s.fluq.own = [d]) && decide (missMax s ≤ s.fluq.missed + 1)) &&
    (let s : State := sb; running s && decide (s.pair.role = .standby) && decide (s.pair.sub = .synchronised)) &&
    (let t0 : Nat := 3; let s : State := fq (fun f => { f with testSince := some 3 }) sb; running s && decide (s.fluq.testSince = some t0)) &&
    (let n : Nat := 1; let s : State := sb; running s && decide (n < 2)) &&
    (let n : Nat := 1; let s : State := sb; running s && decide (n < 2) && decide ((laneOf s.flu n).up = true)) &&
    (let n : Nat := 1; let s : State := sb; running s && decide (n < 2) && decide ((laneOf s.flu n).up = true)) &&
    (let s : State := fu (fun f => { f with path := 2, lane0 := { f.lane0 with upSince := 4000000000 } }) sb; running s && decide (mySlot s ≠ .c) && decide (s.flu.path = 2) && decide (pathSel s ≠ 2) && decide (s.flu.lane0.up = true) && decide (s.flu.lane0.upSince + 1000000000 ≤ s.now)) &&
    (let s : State := fu (fun f => { f with resync := { phase := 2 } }) ac; decide (s.pair.role = .active) && decide (s.flu.resync.phase = 2) && decide (s.flu.resync.pages = [])) &&
    (let s : State := fu (fun f => { f with resync := { phase := 3 } }) ac; decide (s.pair.role = .active) && decide (s.flu.resync.phase = 3) && decide (s.flu.resync.told = false)) &&
    (let s : State := ac; running s)) = true := by decide +kernel
theorem witness_InstancesComplete : (
    (let runs (t : Nat) (s : State) : Bool := running s && decide (s.run.tasks.length = 80) && decide (t < 16) && decide (s.pair.role = .active); let t : Nat := 2; let d : Nat := 77000; let s : State := tk (fun k => { k with latchDue := some 77000, inFlight := false }) ac; runs t s && decide (s.cyc.releasing = true) && decide (bit s.cyc.taskEn t = true) && decide (bit s.cyc.taskFault t = false) && decide ((taskOf s t).latchDue = some d) && decide ((taskOf s t).inFlight = false) && decide (∀ k ∈ s.run.tasks, k.st ≠ 4)) &&
    (let runs (t : Nat) (s : State) : Bool := running s && decide (s.run.tasks.length = 80) && decide (t < 16) && decide (s.pair.role = .active); let t : Nat := 2; let core : Nat := 1; let word : Word := 0x0200; let s : State := fl id; runs t s && decide (fld word 8 8 = t) && decide (bit word 0 = false) && decide ((taskOf s t).inFlight = true) && decide ((taskOf s t).st ≠ 4) && decide (bit (taskOf s t).threads core = true) && decide (clrBit (taskOf s t).threads core ≠ 0)) &&
    (let runs (t : Nat) (s : State) : Bool := running s && decide (s.run.tasks.length = 80) && decide (t < 16) && decide (s.pair.role = .active); let t : Nat := 2; let core : Nat := 1; let word : Word := 0x0200; let s : State := fl (fun k => { k with threads := 2 }); runs t s && decide (fld word 8 8 = t) && decide (bit word 0 = false) && decide ((taskOf s t).inFlight = true) && decide ((taskOf s t).st ≠ 4) && decide ((taskOf s t).trapped = false) && decide ((taskOf s t).poison = false) && decide (bit (taskOf s t).threads core = true) && decide (clrBit (taskOf s t).threads core = 0)) &&
    (let level : Level := .s; let s : State := ac; running s && decide (level ≠ .m)) &&
    (let runs (t : Nat) (s : State) : Bool := running s && decide (s.run.tasks.length = 80) && decide (t < 16) && decide (s.pair.role = .active); let t : Nat := 2; let core : Nat := 1; let s : State := fl (fun k => { k with threads := 2, pol := 2 }); runs t s && decide ((taskOf s t).inFlight = true) && decide ((taskOf s t).st ≠ 4) && decide (bit (taskOf s t).threads core = true) && decide (clrBit (taskOf s t).threads core = 0)) &&
    (let runs (t : Nat) (s : State) : Bool := running s && decide (s.run.tasks.length = 80) && decide (t < 16) && decide (s.pair.role = .active); let t : Nat := 2; let s : State := fl (fun k => { k with trapped := true, pol := 2 }); runs t s && decide ((taskOf s t).inFlight = true) && decide ((taskOf s t).trapped = true)) &&
    (let runs (t : Nat) (s : State) : Bool := running s && decide (s.run.tasks.length = 80) && decide (t < 16) && decide (s.pair.role = .active); let t : Nat := 2; let p : DigestP := digestP 2 0 6 [] []; let s : State := fl (fun k => { k with st := 4, dig := some (digestP 2 0 6 [] []) }); runs t s && decide ((taskOf s t).st = 4) && decide ((taskOf s t).dig = some p) && decide ((taskOf s t).extended = false) && decide ((taskOf s t).missed = false)) &&
    (let runs (t : Nat) (s : State) : Bool := running s && decide (s.run.tasks.length = 80) && decide (t < 16) && decide (s.pair.role = .active); let t : Nat := 2; let s : State := fl id; runs t s && decide ((taskOf s t).inFlight = true) && decide ((taskOf s t).st ≠ 4)) &&
    (let runs (t : Nat) (s : State) : Bool := running s && decide (s.run.tasks.length = 80) && decide (t < 16) && decide (s.pair.role = .active); let t : Nat := 2; let s : State := fl (fun k => { k with missed := true }); runs t s && decide ((taskOf s t).inFlight = true) && decide ((taskOf s t).st ≠ 4) && decide ((taskOf s t).pol = 0) && decide ((taskOf s t).missed = true))) = true := by decide +kernel
theorem witness_BeatsAndProgramsComplete : (
    (let s : State := ac; running s && decide (s.fol.requests = []) && decide (s.od.waits = [])) &&
    (let s : State := ac; running s) &&
    (let s : State := ac; running s) &&
    (let word : Word := 0x3D7E; let s : State := ac; running s && decide (fld word 0 16 = 0x3D7E)) &&
    (let s : State := cyw (fun c => { c with wdArmed := true, wdBeat := 4 }) ac; running s && decide (runsTasks s.pair.role = true) && decide (s.cyc.wdArmed = true) && decide (s.cyc.wdBeat + max 1 (fld s.cyc.cfg 4 4) ≤ s.cyc.beat.toNat)) &&
    (let s : State := ac; running s && decide (s.run.stationHost = false)) &&
    (let n : Nat := 1; let s : State := ac; running s && decide ((segOf s n).st ≠ .running)) &&
    (let p : Prog := prg; let s : State := ac; running s && decide (s.pair.role = .active) && decide (changeBusy s = false) && decide (s.run.prog = some p) && decide (tokenFree s (ownHolder s 2 1 0) = true)) &&
    (let p : Prog := prg; let s : State := ac; running s && decide (s.pair.role = .active) && decide (changeBusy s = false) && decide (s.run.prog = some p) && decide (tokenFree s (ownHolder s 2 2 0) = true)) &&
    (let p : Prog := prg; let s : State := ac; running s && decide (s.pair.role = .active) && decide (changeBusy s = false) && decide (s.run.prog = some p) && decide (tokenFree s (ownHolder s 2 3 0) = true)) &&
    (let r : Restart := { cold := true, begun := true, snap := true, inited := false, b0 := none }; let p : Prog := prg; let s : State := rn (fun r => { r with restart := some { cold := true, begun := true, snap := true, inited := false, b0 := none } }) ac; running s && decide (s.run.restart = some r) && decide (s.run.prog = some p) && decide (r.begun = true) && decide (r.inited = false) && decide (r.cold = true)) &&
    (let r : Restart := { cold := true, begun := true, snap := false, inited := true, b0 := none }; let s : State := rn (fun r => { r with restart := some { cold := true, begun := true, snap := false, inited := true, b0 := none } }) ac; running s && decide (s.run.restart = some r) && decide (r.cold = true) && decide (r.inited = true) && decide (r.snap = false)) &&
    (let s : State := cyw (fun c => { c with pstate := .none }) ac; running s && decide (s.cyc.pstate = .none) && decide (s.run.restart = none)) &&
    (let t : Nat := 2; let sub : Nat := 8; let rq : Rq := q [1]; let s : State := opn 2 ac; running s && decide (t < 80) && decide (sub = 0x08 ∨ (sub = 0x0D ∧ faultedTask s t = true)) && accepted (0x1310 + t) sub rq s && areaOpen s && decide (s.pair.role = .active)) &&
    (let t : Nat := 2; let sub : Nat := 13; let rq : Rq := q [1]; let s : State := opn 2 (cyw (fun c => { c with taskFault := 4 }) ac); running s && decide (t < 80) && decide (sub = 0x08 ∨ (sub = 0x0D ∧ faultedTask s t = true)) && accepted (0x1310 + t) sub rq s && areaOpen s && decide (s.pair.role = .active))) = true := by decide +kernel
theorem witness_ChangesComplete : (
    (let m : SvcMsg := msg 0 0 [1,2]; let rq : Rq := q []; let s : State := opn 2 ac; running s && decide (m.sflags = 0) && decide (m.arg = 0) && accepted 0x1360 2 { rq with value := m.data } s && decide (changeIdle s = true)) &&
    (let rq : Rq := q [1]; let p : Prog := prg; let s : State := opn 2 ac; running s && accepted 0x1360 3 rq s && decide (beNat rq.value = 1) && decide (s.pair.role = .active) && decide (changeIdle s = true) && decide (s.pair.switch = none) && decide (s.run.restart = none) && decide (s.run.stopReq = false) && decide (∀ h ∈ s.mnt.holders, h.code ≠ 2) && decide (s.run.prog = some p) && decide (s.flu.resync.phase < 2 ∨ 4 < s.flu.resync.phase) && decide (tokenFree s (ownHolder s 3 0 (writer 0x1360 3 rq).session) = true)) &&
    (let rq : Rq := q [2]; let s : State := ch (fun c => { c with st := .ready, image := [1], new := some prg }) (opn 2 ac); running s && accepted 0x1360 3 rq s && decide (beNat rq.value = 2) && decide (s.pair.role = .active) && decide (changeIdle s = false) && decide (s.chg.goSent = false) && decide (s.chg.st ≠ .swap)) &&
    (let s : State := ch (fun c => { c with st := .measuring, measured := 1024, new := some prg }) ac; running s && decide (s.pair.role = .active) && decide (s.chg.st = .measuring) && decide (s.chg.measured ≤ 1024 → swapHurts s = false)) &&
    (let old : Prog := prg; let new : Prog := prg; let s : State := ch (fun c => { c with st := .precopy, new := some prg }) ac; running s && decide (s.pair.role = .active) && decide (s.chg.st = .precopy) && decide (s.run.prog = some old) && decide (s.chg.new = some new)) &&
    (let s : State := ch (fun c => { c with st := .ready, goSent := true, new := some prg, pair := true }) ac; running s && decide (s.pair.role = .active) && decide (s.chg.st = .ready) && decide (s.chg.goSent = true) && decide (s.chg.goAcked = false)) &&
    (let old : Prog := prg; let new : Prog := prg; let s : State := ch (fun c => { c with st := .swap, quiesced := true, new := some prg }) ac; running s && decide (s.pair.role = .active) && decide (s.chg.st = .swap) && decide (s.chg.quiesced = true) && decide (s.chg.copied = false) && decide (s.run.prog = some old) && decide (s.chg.new = some new)) &&
    (let sub : Nat := 1; let rq : Rq := q [77,0,0,0,4,0,4,0,1,2,3,4]; let s : State := opn 2 ac; running s && decide (1 ≤ sub) && decide (sub ≤ 3) && accepted 0x1361 sub rq s && areaOpen s && decide (s.pair.role = .active) && decide (sub = 1 → forceCheck rq.value s = 0) && decide (sub = 2 → (symOf s (BitVec.ofNat 32 (beNat rq.value))).isSome = true)) &&
    (let sub : Nat := 2; let rq : Rq := q [0,0,0,77]; let s : State := opn 2 ac; running s && decide (1 ≤ sub) && decide (sub ≤ 3) && accepted 0x1361 sub rq s && areaOpen s && decide (s.pair.role = .active) && decide (sub = 1 → forceCheck rq.value s = 0) && decide (sub = 2 → (symOf s (BitVec.ofNat 32 (beNat rq.value))).isSome = true)) &&
    (let sub : Nat := 3; let rq : Rq := q [1]; let s : State := opn 2 ac; running s && decide (1 ≤ sub) && decide (sub ≤ 3) && accepted 0x1361 sub rq s && areaOpen s && decide (s.pair.role = .active) && decide (sub = 1 → forceCheck rq.value s = 0) && decide (sub = 2 → (symOf s (BitVec.ofNat 32 (beNat rq.value))).isSome = true))) = true := by decide +kernel
theorem witness_KindleFramesComplete : (
    (let frame (op : Nat) (h : FlueHdr) (p : KindleP) : FlueFrame := ⟨h, .kindle { p with op := op }⟩; let n : Nat := 0; let h : FlueHdr := hd 9; let p : KindleP := kp 0; let s : State := sb; running s && received n (frame 1 h p) s && decide (s.pair.role = .standby)) &&
    (let frame (op : Nat) (h : FlueHdr) (p : KindleP) : FlueFrame := ⟨h, .kindle { p with op := op }⟩; let n : Nat := 0; let h : FlueHdr := hd 9; let p : KindleP := kp 0; let s : State := ch (fun c => { c with st := .loading, pair := true, loadedOwn := some 0 }) ac; running s && received n (frame 2 h p) s && decide (s.pair.role = .active) && decide (s.chg.st = .loading) && decide (s.chg.pair = true) && decide (s.chg.loadedOwn = some 0)) &&
    (let frame (op : Nat) (h : FlueHdr) (p : KindleP) : FlueFrame := ⟨h, .kindle { p with op := op }⟩; let n : Nat := 0; let h : FlueHdr := hd 9; let p : KindleP := kp 0; let s : State := ch (fun c => { c with st := .loading, loadedOwn := some 0 }) sb; running s && received n (frame 3 h p) s && decide (s.pair.role = .standby) && decide (s.chg.st = .loading) && decide (s.chg.loadedOwn = some 0)) &&
    (let frame (op : Nat) (h : FlueHdr) (p : KindleP) : FlueFrame := ⟨h, .kindle { p with op := op }⟩; let n : Nat := 0; let h : FlueHdr := hd 9; let p : KindleP := kp 44; let s : State := ch (fun c => { c with st := .precopy, new := some prg }) sb; running s && received n (frame 4 h p) s && decide (s.pair.role = .standby) && decide (s.chg.new.isSome = true) && decide (s.chg.st = .precopy ∨ s.chg.st = .ready)) &&
    (let frame (op : Nat) (h : FlueHdr) (p : KindleP) : FlueFrame := ⟨h, .kindle { p with op := op }⟩; let n : Nat := 0; let h : FlueHdr := hd 9; let p : KindleP := kp 44; let s : State := ch (fun c => { c with st := .ready, goSent := true, swapBeat := 44 }) ac; running s && received n (frame 5 h p) s && decide (s.pair.role = .active) && decide (s.chg.st = .ready) && decide (s.chg.goSent = true) && decide (p.arg = s.chg.swapBeat)) &&
    (let frame (op : Nat) (h : FlueHdr) (p : KindleP) : FlueFrame := ⟨h, .kindle { p with op := op }⟩; let n : Nat := 0; let h : FlueHdr := hd 9; let p : KindleP := kp 44; let s : State := ch (fun c => { c with st := .ready, goSent := true, swapBeat := 44 }) sb; running s && received n (frame 6 h p) s && decide (s.pair.role = .standby) && decide (s.chg.st = .ready)) &&
    (let frame (op : Nat) (h : FlueHdr) (p : KindleP) : FlueFrame := ⟨h, .kindle { p with op := op }⟩; let n : Nat := 0; let h : FlueHdr := hd 9; let p : KindleP := kp 44; let s : State := ch (fun c => { c with st := .swap }) sb; running s && received n (frame 7 h p) s && decide (s.pair.role = .standby) && decide (s.chg.st = .swap) && decide (bit p.flags 0 = false) && decide (s.chg.copied = false)) &&
    (let frame (op : Nat) (h : FlueHdr) (p : KindleP) : FlueFrame := ⟨h, .kindle { p with op := op }⟩; let n : Nat := 0; let h : FlueHdr := hd 9; let p : KindleP := kp 44; let s : State := ch (fun c => { c with st := .swap }) sb; running s && received n (frame 8 h p) s && decide (s.pair.role = .standby) && decide (changeIdle s = false))) = true := by decide +kernel
theorem witness_FieldPortsComplete : (
    (let port (n : Nat) (s : State) : Bool := running s && decide (n < 4) && decide (s.fol.ports.length = 4) && decide (s.fol.cnts.length = 4); let n : Nat := 1; let s : State := ac; port n s && decide ((portOf s n).up = false)) &&
    (let port (n : Nat) (s : State) : Bool := running s && decide (n < 4) && decide (s.fol.ports.length = 4) && decide (s.fol.cnts.length = 4); let n : Nat := 1; let s : State := prt (fun p => { p with up := true }) ac; port n s && decide ((portOf s n).up = true)) &&
    (let port (n : Nat) (s : State) : Bool := running s && decide (n < 4) && decide (s.fol.ports.length = 4) && decide (s.fol.cnts.length = 4); let n : Nat := 1; let r : SfpRead := { fitted := true, qualified := false, los := true, txfault := false, warn := true, alarm := false }; let s : State := ac; port n s && decide (r.fitted = true) && decide (r.txfault = false) && decide (r.alarm = false)) &&
    (let port (n : Nat) (s : State) : Bool := running s && decide (n < 4) && decide (s.fol.ports.length = 4) && decide (s.fol.cnts.length = 4); let n : Nat := 1; let s : State := prt (fun p => { p with up := true }) ac; port n s && decide (portUp s n = true)) &&
    (let port (n : Nat) (s : State) : Bool := running s && decide (n < 4) && decide (s.fol.ports.length = 4) && decide (s.fol.cnts.length = 4); let clean (n : Nat) (s : State) : Bool := port n s && decide (portUp s n = true) && decide (s.mnt.running = false) && decide (s.mnt.held = []); let n : Nat := 1; let h : FolHdr := fh 3; let s : State := prt (fun p => { p with up := true }) ac; clean n s && decide (h.epoch = s.pair.epoch) && decide (h.epoch ≠ 0xFFFFFFFF)) &&
    (let port (n : Nat) (s : State) : Bool := running s && decide (n < 4) && decide (s.fol.ports.length = 4) && decide (s.fol.cnts.length = 4); let clean (n : Nat) (s : State) : Bool := port n s && decide (portUp s n = true) && decide (s.mnt.running = false) && decide (s.mnt.held = []); let n : Nat := 1; let b : Nat := 8; let h : FolHdr := fh 8; let p : InputP := inp; let x : Station := { no := 7, cfg := stc, st := .present }; let s : State := sta id; clean n s && decide (s.pair.role = .active) && decide (stationOf s h.station = some x) && decide (x.no = h.station) && decide (x.cfg.seg = n) && decide ((segOf s n).start = some b) && decide ((segOf s n).window = none) && decide (h.stamp = stampOf s n) && decide (pastLatch s x = false) && decide (x.got = false) && decide (x.st = .present) && decide (bit p.status 5 = false) && decide (h.epoch = s.pair.epoch) && decide (h.epoch ≠ 0xFFFFFFFF) && decide (p.gateEpoch.toNat ≤ s.pair.epoch.toNat)) &&
    (let port (n : Nat) (s : State) : Bool := running s && decide (n < 4) && decide (s.fol.ports.length = 4) && decide (s.fol.cnts.length = 4); let n : Nat := 1; let r : ProbeResp := { station := 7, epoch := 9, fromEnd := 1, roundTrip := 1000, turnaround := 200, typeid := 99, cfgid := 0, serial := 0 }; let x : Station := { no := 7, cfg := stc, st := .absent }; let s : State := sta (fun x => { x with st := .absent }); port n s && decide (portUp s n = true) && decide (s.pair.role = .active) && decide (stationOf s r.station = some x) && decide (x.no = r.station) && decide (x.cfg.seg = n) && decide ((segOf s n).window = none) && decide (x.st = .absent) && decide (r.epoch = s.pair.epoch) && decide (r.epoch ≠ 0xFFFFFFFF) && decide (r.fromEnd < 2)) &&
    (let port (n : Nat) (s : State) : Bool := running s && decide (n < 4) && decide (s.fol.ports.length = 4) && decide (s.fol.cnts.length = 4); let clean (n : Nat) (s : State) : Bool := port n s && decide (portUp s n = true) && decide (s.mnt.running = false) && decide (s.mnt.held = []); let n : Nat := 1; let tid : Byte := 4; let x : Station := { no := 7, cfg := stc, st := .configuring, unacked := [4] }; let s : State := sta (fun x => { x with st := .configuring, unacked := [4] }); clean n s && decide (s.pair.role = .active) && decide (s.fol.gateRsts = []) && decide (stationOf s x.no = some x) && decide (x.cfg.seg = n) && decide ((segOf s n).window = none) && decide (x.st = .configuring) && decide (x.unacked = [tid]) && decide (s.pair.epoch ≠ 0xFFFFFFFF)) &&
    (let port (n : Nat) (s : State) : Bool := running s && decide (n < 4) && decide (s.fol.ports.length = 4) && decide (s.fol.cnts.length = 4); let n : Nat := 3; let word : Word := 1; let s : State := ac; port n s && decide (bit word 0 = true))) = true := by decide +kernel
theorem witness_SegmentsComplete : (
    (let active (n : Nat) (s : State) : Bool := running s && decide (n < 4) && decide (s.fol.segs.length = 4) && decide (s.fol.ports.length = 4) && decide (s.pair.role = .active); let n : Nat := 1; let s : State := rn (fun r => { r with segs := [7,2,7,7] }) (prt (fun p => { p with marks := 0x000186A000004E20 }) ac); active n s && decide ((segOf s n).st = .stopped) && decide (segmentChecks s n = true) && decide (tokenFree s (ownHolder s 4 n 0) = true)) &&
    (let active (n : Nat) (s : State) : Bool := running s && decide (n < 4) && decide (s.fol.segs.length = 4) && decide (s.fol.ports.length = 4) && decide (s.pair.role = .active); let n : Nat := 1; let s : State := sg (fun g => { g with st := .probing }) ac; active n s && decide ((segOf s n).st = .probing)) &&
    (let active (n : Nat) (s : State) : Bool := running s && decide (n < 4) && decide (s.fol.segs.length = 4) && decide (s.fol.ports.length = 4) && decide (s.pair.role = .active); let n : Nat := 1; let s : State := sta id; active n s && decide ((segOf s n).st ≠ .stopped) && decide (tokenFree s (ownHolder s 4 n 0) = true)) &&
    (let active (n : Nat) (s : State) : Bool := running s && decide (n < 4) && decide (s.fol.segs.length = 4) && decide (s.fol.ports.length = 4) && decide (s.pair.role = .active); let n : Nat := 1; let s : State := sta id; active n s) &&
    (let active (n : Nat) (s : State) : Bool := running s && decide (n < 4) && decide (s.fol.segs.length = 4) && decide (s.fol.ports.length = 4) && decide (s.pair.role = .active); let n : Nat := 1; let s : State := sta id; active n s && decide ((portOf s n).cut = false) && decide ((endsInUse s n).length = 2) && decide (bit (portOf s n).through 1 = false)) &&
    (let active (n : Nat) (s : State) : Bool := running s && decide (n < 4) && decide (s.fol.segs.length = 4) && decide (s.fol.ports.length = 4) && decide (s.pair.role = .active); let n : Nat := 1; let s : State := prt (fun p => { p with cut := true, through := 6 }) ac; active n s && decide ((portOf s n).cut = true) && decide (bit (portOf s n).through 1 = true) && decide (bit (portOf s n).through 2 = true)) &&
    (let active (n : Nat) (s : State) : Bool := running s && decide (n < 4) && decide (s.fol.segs.length = 4) && decide (s.fol.ports.length = 4) && decide (s.pair.role = .active); let n : Nat := 1; let x : Station := { no := 7, cfg := stc, st := .present, noData := 3 }; let s : State := sta (fun x => { x with noData := 3 }); active n s && decide (stationOf s x.no = some x) && decide (x.cfg.seg = n) && decide (x.st = .present) && decide (max 1 x.cfg.subCnt ≤ x.noData)) &&
    (let active (n : Nat) (s : State) : Bool := running s && decide (n < 4) && decide (s.fol.segs.length = 4) && decide (s.fol.ports.length = 4) && decide (s.pair.role = .active); let n : Nat := 1; let x : Station := { no := 7, cfg := stc, st := .configuring }; let s : State := sta (fun x => { x with st := .configuring }); active n s && decide (stationOf s x.no = some x) && decide (x.cfg.seg = n) && decide (x.st = .configuring)) &&
    (let active (n : Nat) (s : State) : Bool := running s && decide (n < 4) && decide (s.fol.segs.length = 4) && decide (s.fol.ports.length = 4) && decide (s.pair.role = .active); let n : Nat := 1; let e : Nat := 0; let x : Station := { no := 7, cfg := stc, st := .absent }; let s : State := alone (sg (fun g => { g with st := .probing }) (sta (fun x => { x with st := .absent }))); active n s && decide (stationOf s x.no = some x) && decide (x.cfg.seg = n) && decide (x.st = .absent) && decide ((segOf s n).st = .probing) && decide (endsInUse s n = [e]) && decide (myEnd s = some e) && decide (maySendFol s = true) && decide (portUp s n = true) && decide ((portOf s n).txdis = false) && decide (s.mnt.running = false) && decide (s.mnt.held = [])) &&
    (let active (n : Nat) (s : State) : Bool := running s && decide (n < 4) && decide (s.fol.segs.length = 4) && decide (s.fol.ports.length = 4) && decide (s.pair.role = .active); let n : Nat := 1; let e : Nat := 0; let s : State := tmm (fun t => { t with time := 5000000000 }) (prt (fun p => { p with cfg := 8 }) (alone (sta id))); active n s && decide ((segOf s n).st = .running) && decide (bit (portOf s n).cfg 3 = true) && decide (endsInUse s n = [e]) && decide (myEnd s = some e) && decide (timeNs s / 1000000000 ≠ (portOf s n).timeSec)) &&
    (let active (n : Nat) (s : State) : Bool := running s && decide (n < 4) && decide (s.fol.segs.length = 4) && decide (s.fol.ports.length = 4) && decide (s.pair.role = .active); let n : Nat := 1; let x : Station := { no := 7, cfg := stc, st := .present }; let rq : Rq := q [1]; let s : State := opn 4 (mnt (fun m => { m with comm := true }) (sta id)); active n s && decide (x.no < 2048) && decide (stationOf s x.no = some x) && decide (x.cfg.seg = n) && decide (x.st ≠ .absent) && decide ((endFor s x).isSome = true) && decide (s.mnt.comm = true) && accepted (stationIdx x.no 5) 2 rq s && decide (tokenFree s { code := 10, slot := mySlot s, arg := x.no, session := (writer (stationIdx x.no 5) 2 rq).session } = true))) = true := by decide +kernel
theorem witness_MailboxComplete : (
    (let seq : Word := 1; let s : State := cb; running s && decide (s.cord.busy = false) && decide (seq = s.cord.rspDoor + 1)) &&
    (let level : Level := .m; let seq : Word := 2; let s : State := cb; running s && decide (level ≠ .m ∨ s.cord.busy = true ∨ seq ≠ s.cord.rspDoor + 1)) &&
    (let s : State := cor (fun c => { c with busy := true, mbxReq := 4 }) cb; running s && decide (s.cord.busy = true)) &&
    (let m : MbxRq := mq 1 9 []; let s : State := ac; running s && decide ((m.arg0 = 1 ∧ s.cord.ilock = false) ∨ (m.arg0 = 2 ∧ s.cord.ilock = true ∧ s.cord.uclock = false ∧ s.cord.load = none))) &&
    (let m : MbxRq := mq 2 9 []; let s : State := cb; running s && decide ((m.arg0 = 1 ∧ s.cord.ilock = false) ∨ (m.arg0 = 2 ∧ s.cord.ilock = true ∧ s.cord.uclock = false ∧ s.cord.load = none))) &&
    (let m : MbxRq := mq 2 0 [3,4]; let j : LoadJob := { what := 1, len := 4, data := [1,2] }; let s : State := cor (fun c => { c with load := some { what := 1, len := 4, data := [1,2] } }) ac; running s && decide (s.cord.load = some j) && decide (m.arg0.toNat + m.data.length ≤ j.len)) &&
    (let j : LoadJob := { what := 1, len := 4, data := [1,2] }; let s : State := cor (fun c => { c with load := some { what := 1, len := 4, data := [1,2] } }) ac; running s && decide (s.cord.load = some j) && decide (j.what = 1)) &&
    (let ready (s : State) : Bool := running s && decide (s.cord.ilock = true); let s : State := cb; ready s) &&
    (let ready (s : State) : Bool := running s && decide (s.cord.ilock = true); let m : MbxRq := mq 0x700002 0 []; let x : Nat × Nat × Meta := (legalAt 0x7000 2).getD (0, 0, { ty := .oct 1 }); let s : State := cb; ready s && decide (legalAt (m.arg0.toNat / 256) (m.arg0.toNat % 256) = some x)) &&
    (let ready (s : State) : Bool := running s && decide (s.cord.ilock = true); let m : MbxRq := mq 0x700002 0 [3,0,0,0,0,0,0,0]; let n : Nat := ((legalAt 0x7000 2).getD (0, 0, { ty := .oct 1 })).1; let j : Nat := ((legalAt 0x7000 2).getD (0, 0, { ty := .oct 1 })).2.1; let mt : Meta := ((legalAt 0x7000 2).getD (0, 0, { ty := .oct 1 })).2.2; let s : State := vs; ready s && decide (gateVerifier m s = 0) && decide (legalAt (m.arg0.toNat / 256) (m.arg0.toNat % 256) = some (n, j, mt)) && decide (chanSt s n ≠ .inService) && decide (m.data.length = 8) && decide (legalFits j (m.arg0.toNat % 256) mt (leAt m.data 0 8) = true) && trailOpen 1 s && decide (legalVal s.legal (m.arg0.toNat / 256) (m.arg0.toNat % 256) ≠ leAt m.data 0 8)) &&
    (let ready (s : State) : Bool := running s && decide (s.cord.ilock = true); let s : State := vs; ready s && decide (s.cord.switchSet = true)) &&
    (let ready (s : State) : Bool := running s && decide (s.cord.ilock = true); let m : MbxRq := mq 0 0 (2 :: zeros 67); let c : List Byte := [1]; let t0 : Nat := 4000000000; let k : Cred := { slot := 2, level := 3, key := zeros 32, debug := true }; let s : State := crd 2 3 (cor (fun c => { c with sess := none, session := false, vmode := false, challenge := some ([1], 4000000000) }) vs); let handle : Word := BitVec.ofNat 32 (s.cord.handles + 1); ready s && decide (s.cord.switchSet = true) && decide (s.cord.lockUntil ≤ s.now) && decide (s.cord.sess = none) && decide (s.cord.session = false) && decide (s.cord.challenge = some (c, t0)) && decide (s.now - t0 ≤ 60000000000) && decide (credAt s.ks (leAt m.data 0 1) = some k) && decide (k.level = 3) && decide (m.data.length = 68) && trailOpen 4 s && decide (tokenFree s (ownHolder s 6 0 handle.toNat) = true)) &&
    (let ready (s : State) : Bool := running s && decide (s.cord.ilock = true); let m : MbxRq := mq 0 0 []; let v : VSess := { handle := 1, slot := 0, actor := 5 }; let s : State := vs; ready s && decide (s.cord.sess = some v) && decide (v.handle = m.session)) &&
    (let ready (s : State) : Bool := running s && decide (s.cord.ilock = true); let m : MbxRq := mq 127 0 []; let s : State := chn 127 .unconfigured vs; ready s && decide (gateVerifier m s = 0) && decide (m.arg0.toNat < 128) && decide (chanSt s m.arg0.toNat = .unconfigured) && trailOpen 6 s) &&
    (let ready (s : State) : Bool := running s && decide (s.cord.ilock = true); let m : MbxRq := mq 127 0 []; let s : State := chn 127 .test vs; ready s && decide (gateVerifier m s = 0) && decide (m.arg0.toNat < 128) && decide (chanSt s m.arg0.toNat = .test) && trailOpen 7 s) &&
    (let ready (s : State) : Bool := running s && decide (s.cord.ilock = true); let m : MbxRq := mq 1 256 []; let s : State := cb; ready s && decide (m.arg0.toNat ≠ 0) && decide (m.arg1.toNat ≠ 0) && decide (m.arg1.toNat ≤ 256))) = true := by decide +kernel
theorem witness_CordBlocksComplete : (
    (let id : List Byte := [1]; let s : State := cb; running s && decide (s.cord.ilock = true) && decide (id ≠ s.cord.legalId)) &&
    (let unit : Nat := 1; let s : State := cb; running s && decide (s.cord.ilock = true) && decide (unit < 2) && decide (s.mem.wf = true)) &&
    (let s : State := cb; running s && decide (s.cord.switchSet = false)) &&
    (let s : State := vs; running s && decide (s.cord.switchSet = true)) &&
    (let v : VSess := { handle := 1, slot := 0, actor := 5 }; let s : State := vs; running s && decide (s.cord.sess = some v)) &&
    (let word : Word := 0x7E510003; let s : State := vs; running s && decide (fld word 16 16 = 0x7E51) && decide (bit word 0 = true) && decide (bit word 1 = true) && decide (s.cord.switchSet = true)) &&
    (let word : Word := 0xA0D10000; let s : State := aud (fun a => { a with stage := 0 :: (0x101 : Word) :: List.replicate 14 0 }) vs; let stage := s.aud.stage.flatMap (fun w => le4 w.toNat); let kind := leAt stage 4 1; running s && decide (fld word 16 16 = 0xA0D1) && trailOpen kind s && decide (s.aud.stage.length = 16)) &&
    (let word : Word := 0xA0D10000; let s : State := cb; let stage := s.aud.stage.flatMap (fun w => le4 w.toNat); let kind := leAt stage 4 1; running s && decide (fld word 16 16 = 0xA0D1) && decide (audRefuse kind s ≠ 0)) &&
    (let s : State := cb; running s && decide (s.aud.inited = false)) &&
    (let word : Word := 1; let s : State := cb; running s && decide (bit word 0 = true) && decide (s.aud.used < audMax) && decide (slotValid s.mem (s.aud.used + 1) = false)) &&
    (let s : State := cb; running s && decide (s.cord.ilock = true) && decide (s.cord.running = false)) &&
    (let word : Word := 0xC0D1; let s : State := cb; running s && decide (fld word 0 16 = 0xC0D1)) &&
    (let s : State := cor (fun c => { c with wdArmed := true }) cb; running s && decide (s.cord.wdArmed = true)) &&
    (let word : Word := 1; let s : State := cb; running s && decide (bit word 0 = true))) = true := by decide +kernel
theorem witness_ScaleCommandsComplete : (
    (let due (n p cmd : Nat) (k : ScaleCmd) (s : State) : Bool := running s && decide (s.scl.run = true) && decide (s.scl.ingress = true) && decide (physOf s n = some p) && decide (p < s.scl.chans.length) && decide (k.cmd = cmd) && decide ((scCh s p).cmds = [k]) && decide (1 ≤ chInstr (scCh s p)) && decide (chInstr (scCh s p) ≤ 5); let fit_ (c : ScCh) : Bool := decide (c.ovr = false) && decide (c.under = false) && decide (c.stable = true); let n : Nat := 4; let p : Nat := 6; let k : ScaleCmd := kk 1 0; let s : State := sc 1 1 0 id; due n p 1 k s && fit_ (scCh s p) && decide ((scCh s p).nozero = false) && decide (fLe (zeroLo (scCh s p)) (scCh s p).m = true) && decide (fLe (scCh s p).m (zeroHi (scCh s p)) = true)) &&
    (let due (n p cmd : Nat) (k : ScaleCmd) (s : State) : Bool := running s && decide (s.scl.run = true) && decide (s.scl.ingress = true) && decide (physOf s n = some p) && decide (p < s.scl.chans.length) && decide (k.cmd = cmd) && decide ((scCh s p).cmds = [k]) && decide (1 ≤ chInstr (scCh s p)) && decide (chInstr (scCh s p) ≤ 5); let n : Nat := 4; let p : Nat := 6; let k : ScaleCmd := kk 1 0; let s : State := sc 1 1 0 (fun c => { c with stable := false }); due n p 1 k s && decide ((scCh s p).ovr = false) && decide ((scCh s p).under = false) && decide ((scCh s p).stable = false)) &&
    (let due (n p cmd : Nat) (k : ScaleCmd) (s : State) : Bool := running s && decide (s.scl.run = true) && decide (s.scl.ingress = true) && decide (physOf s n = some p) && decide (p < s.scl.chans.length) && decide (k.cmd = cmd) && decide ((scCh s p).cmds = [k]) && decide (1 ≤ chInstr (scCh s p)) && decide (chInstr (scCh s p) ≤ 5); let fit_ (c : ScCh) : Bool := decide (c.ovr = false) && decide (c.under = false) && decide (c.stable = true); let n : Nat := 4; let p : Nat := 6; let k : ScaleCmd := kk 2 0; let T : Int := 60; let s : State := sc 1 2 0 id; due n p 2 k s && decide (chInstr (scCh s p) = 1 ∨ chInstr (scCh s p) = 3) && fit_ (scCh s p) && decide (bit (prmF (scCh s p) 0x0C 1) 0 = true) && decide (fLt 0 (gOf (scCh s p)) = true) && decide (roundTo (gOf (scCh s p)) (eTare (scCh s p)) = some T) && decide (0 < T) && decide (T ≤ (prm (scCh s p) 0x0C 2 : Int))) &&
    (let due (n p cmd : Nat) (k : ScaleCmd) (s : State) : Bool := running s && decide (s.scl.run = true) && decide (s.scl.ingress = true) && decide (physOf s n = some p) && decide (p < s.scl.chans.length) && decide (k.cmd = cmd) && decide ((scCh s p).cmds = [k]) && decide (1 ≤ chInstr (scCh s p)) && decide (chInstr (scCh s p) ≤ 5); let fit_ (c : ScCh) : Bool := decide (c.ovr = false) && decide (c.under = false) && decide (c.stable = true); let n : Nat := 4; let p : Nat := 6; let k : ScaleCmd := kk 3 43; let T : Int := 40; let s : State := sc 3 3 43 id; due n p 3 k s && decide (chInstr (scCh s p) = 1 ∨ chInstr (scCh s p) = 3) && fit_ (scCh s p) && decide (bit (prmF (scCh s p) 0x0C 1) 1 = true) && decide (roundTo (fOfInt k.arg) (eTare (scCh s p)) = some T) && decide (0 < T) && decide (T ≤ (prm (scCh s p) 0x0C 2 : Int))) &&
    (let due (n p cmd : Nat) (k : ScaleCmd) (s : State) : Bool := running s && decide (s.scl.run = true) && decide (s.scl.ingress = true) && decide (physOf s n = some p) && decide (p < s.scl.chans.length) && decide (k.cmd = cmd) && decide ((scCh s p).cmds = [k]) && decide (1 ≤ chInstr (scCh s p)) && decide (chInstr (scCh s p) ≤ 5); let n : Nat := 4; let p : Nat := 6; let k : ScaleCmd := kk 4 0; let s : State := sc 3 4 0 (fun c => { c with stable := false, tare := 5 }); due n p 4 k s && decide (chInstr (scCh s p) = 1 ∨ chInstr (scCh s p) = 3) && decide (prm (scCh s p) 0x0C 1 ≠ 0)) &&
    (let due (n p cmd : Nat) (k : ScaleCmd) (s : State) : Bool := running s && decide (s.scl.run = true) && decide (s.scl.ingress = true) && decide (physOf s n = some p) && decide (p < s.scl.chans.length) && decide (k.cmd = cmd) && decide ((scCh s p).cmds = [k]) && decide (1 ≤ chInstr (scCh s p)) && decide (chInstr (scCh s p) ≤ 5); let n : Nat := 4; let p : Nat := 6; let k : ScaleCmd := kk 5 0; let s : State := sc 5 5 0 id; due n p 5 k s && decide (chInstr (scCh s p) = 2 ∨ chInstr (scCh s p) = 3 ∨ chInstr (scCh s p) = 5) && decide ((scCh s p).stable = true) && decide ((scCh s p).ins.open_ = false)) &&
    (let due (n p cmd : Nat) (k : ScaleCmd) (s : State) : Bool := running s && decide (s.scl.run = true) && decide (s.scl.ingress = true) && decide (physOf s n = some p) && decide (p < s.scl.chans.length) && decide (k.cmd = cmd) && decide ((scCh s p).cmds = [k]) && decide (1 ≤ chInstr (scCh s p)) && decide (chInstr (scCh s p) ≤ 5); let n : Nat := 4; let p : Nat := 6; let k : ScaleCmd := kk 6 0; let s : State := sc 2 6 0 (fun c => { c with ins := { c.ins with open_ := true } }); due n p 6 k s && decide (chInstr (scCh s p) = 2 ∨ chInstr (scCh s p) = 3 ∨ chInstr (scCh s p) = 5) && decide ((scCh s p).stable = true) && decide ((scCh s p).ins.open_ = true)) &&
    (let due (n p cmd : Nat) (k : ScaleCmd) (s : State) : Bool := running s && decide (s.scl.run = true) && decide (s.scl.ingress = true) && decide (physOf s n = some p) && decide (p < s.scl.chans.length) && decide (k.cmd = cmd) && decide ((scCh s p).cmds = [k]) && decide (1 ≤ chInstr (scCh s p)) && decide (chInstr (scCh s p) ≤ 5); let n : Nat := 4; let p : Nat := 6; let k : ScaleCmd := kk 7 0; let s : State := sc 2 7 0 (fun c => { c with stable := false }); due n p 7 k s && decide (chInstr (scCh s p) = 2 ∨ chInstr (scCh s p) = 3)) &&
    (let n : Nat := 4; let p : Nat := 6; let s : State := sc 1 7 0 (fun c => { c with nozero := true, filled := 100000 }); running s && decide (physOf s n = some p) && decide ((scCh s p).st = .running) && decide ((scCh s p).nozero = true) && decide ((scCh s p).zeroTold = false) && decide (filling (scCh s p) = false)) &&
    (let s : State := { ac with scl := { ac.scl with run := true, chsel := 9 } }; running s && decide (s.scl.run = true) && decide ((scCh s (selPhys s)).st = .idle ∨ (scCh s (selPhys s)).st = .spare)) &&
    (let s : State := { sc 1 7 0 id with scl := { (sc 1 7 0 id).scl with chsel := 6 } }; running s && decide (selPhys s < s.scl.chans.length) && decide ((scCh s (selPhys s)).st = .running)) &&
    (let s : State := { sc 1 7 0 id with scl := { (sc 1 7 0 id).scl with chsel := 6, adoptTare := 77 } }; running s && decide (selPhys s < s.scl.chans.length) && decide (∀ h ∈ (scCh s (selPhys s)).pubs, h.lastIdx ≠ s.scl.adoptIdx)) &&
    (let s : State := { ac with scl := { ac.scl with chsel := 9 } }; running s)) = true := by decide +kernel
theorem witness_SessionsComplete : (
    (let n : Nat := 3; let s : State := od (fun o => { o with conns := [0, 1, 2] }) ac; running s && decide (s.od.conns.contains n = false) && decide (s.od.conns.length < 4)) &&
    (let n : Nat := 3; let s : State := opn 2 ac; running s && decide (s.od.conns.contains n = true)) &&
    (let open_ (n : Nat) (s : State) : Bool := running s && decide (s.od.conns.contains n = true) && decide (∀ x ∈ s.od.sessions, x.xfer = none ∧ x.revoked = false); let n : Nat := 3; let level : Byte := 0; let s : State := od (fun o => { o with conns := [3] }) ac; open_ n s && decide (openRefused (.service n) level.toNat s = 0)) &&
    (let open_ (n : Nat) (s : State) : Bool := running s && decide (s.od.conns.contains n = true) && decide (∀ x ∈ s.od.sessions, x.xfer = none ∧ x.revoked = false); let n : Nat := 3; let h : Nat := 17; let x : Session := { handle := 17, level := 2, proven := false, challenge := [7], openedAt := 0, cred := some 1, path := .service 3, xfer := none }; let s : State := od (fun o => { o with sessions := [{ handle := 17, level := 2, proven := false, challenge := [7], openedAt := 0, cred := some 1, path := .service 3, xfer := none }] }) (opn 2 ac); open_ n s && decide (sessionOn s h (.service n) = some x) && decide (x.handle = h) && decide (x.proven = false) && decide (s.od.lockUntil ≤ s.now)) &&
    (let open_ (n : Nat) (s : State) : Bool := running s && decide (s.od.conns.contains n = true) && decide (∀ x ∈ s.od.sessions, x.xfer = none ∧ x.revoked = false); let n : Nat := 3; let h : Nat := 17; let x : Session := { handle := 17, level := 2, proven := true, challenge := [], openedAt := 0, cred := some 1, path := .service 3, xfer := none }; let s : State := opn 2 ac; open_ n s && decide (sessionOn s h (.service n) = some x)) &&
    (let open_ (n : Nat) (s : State) : Bool := running s && decide (s.od.conns.contains n = true) && decide (∀ x ∈ s.od.sessions, x.xfer = none ∧ x.revoked = false); let n : Nat := 3; let h : Nat := 17; let x : Session := { handle := 17, level := 2, proven := true, challenge := [], openedAt := 0, cred := some 1, path := .service 3, xfer := none }; let s : State := opn 2 ac; open_ n s && decide (sessionOn s h (.service n) = some x)) &&
    (let h : Nat := 17; let x : Session := { handle := 17, level := 2, proven := false, challenge := [7], openedAt := 0, cred := some 1, path := .service 3, xfer := none }; let s : State := od (fun o => { o with sessions := [{ handle := 17, level := 2, proven := false, challenge := [7], openedAt := 0, cred := some 1, path := .service 3, xfer := none }] }) (opn 2 ac); running s && decide (x ∈ s.od.sessions) && decide (x.handle = h) && decide (x.proven = false)) &&
    (let s : State := opn 2 ac; running s) &&
    (let open_ (n : Nat) (s : State) : Bool := running s && decide (s.od.conns.contains n = true) && decide (∀ x ∈ s.od.sessions, x.xfer = none ∧ x.revoked = false); let n : Nat := 3; let m : SvcMsg := gm 0x1710 2; let v : List Byte := (readObj 0x1710 2 (opn 2 ac)).2.2; let s : State := opn 2 ac; open_ n s && decide (m.data = []) && decide (m.arg = 0) && decide (checkAccess (clientOf (.service n) m) false [] s = 0) && decide (readObj m.index.toNat m.sub.toNat s = (s, 0, v)) && decide (v.length ≤ 32768)) &&
    (let open_ (n : Nat) (s : State) : Bool := running s && decide (s.od.conns.contains n = true) && decide (∀ x ∈ s.od.sessions, x.xfer = none ∧ x.revoked = false); let n : Nat := 3; let m : SvcMsg := gm 0x1F00 2; let s : State := opn 2 ac; open_ n s && decide (m.data = []) && decide (m.arg = 0) && decide (checkAccess (clientOf (.service n) m) false [] s ≠ 0)) &&
    (let rq : Rq := q [0x0E,0x10]; let s : State := opn 4 ac; running s && accepted 0x1710 2 rq s && areaOpen s) &&
    (let s : State := opn 2 ac; running s) &&
    (let open_ (n : Nat) (s : State) : Bool := running s && decide (s.od.conns.contains n = true) && decide (∀ x ∈ s.od.sessions, x.xfer = none ∧ x.revoked = false); let n : Nat := 3; let h : Nat := 17; let es : List HostE := [{ symid := 77, value := [1] }]; let x : Session := { handle := 17, level := 2, proven := true, challenge := [], openedAt := 0, cred := some 1, path := .service 3, xfer := none }; let s : State := opn 2 ac; open_ n s && decide (sessionOn s h (.service n) = some x) && decide (x.proven = true) && decide (1 ≤ x.level) && decide (h < 65536) && decide (s.pair.role = .active) && decide (es ≠ []) && decide ((es.map (fun e => 6 + e.value.length)).sum ≤ 32768)) &&
    (let rq : Rq := q [1]; let s : State := off; running s && accepted 0x1712 1 rq s && areaOpen s && decide (s.pair.role = .offline) && decide (reachActive s = none) && decide (tokenFree s (ownHolder s 7 0 (writer 0x1712 1 rq).session) = true))) = true := by decide +kernel
theorem witness_ObjWriteFramesComplete : (
    (let frame (op : Nat) (h : FlueHdr) (p : ObjWriteP) : FlueFrame := ⟨h, .objWrite { p with op := op }⟩; let n : Nat := 0; let h : FlueHdr := hd 9; let e : ObjE := { index := 0x1100, sub := 6, typ := 5, value := [2,0] }; let txn : Word := 4; let b : DWord := 9; let s : State := sb; let p : ObjWriteP := { op := 1, txn := txn, beat := b, arg := 0, entries := [e] }; running s && received n (frame 1 h p) s && decide (bit h.flags 1 = false) && decide (txn ≠ 0) && decide (s.pair.role = .standby) && decide (s.pair.sub = .synchronised) && decide (s.od.rxParts = []) && decide (entryCheck s e = 0) && decide (isResume e.index.toNat e.sub.toNat = false) && areaOpen s && decide (s.cyc.beat.toNat < b.toNat)) &&
    (let frame (op : Nat) (h : FlueHdr) (p : ObjWriteP) : FlueFrame := ⟨h, .objWrite { p with op := op }⟩; let n : Nat := 0; let h : FlueHdr := hd 9; let p : ObjWriteP := pp 2 3 0 55 []; let x : Txn := tx1; let s : State := od (fun o => { o with txns := [tx1] }) ac; running s && received n (frame 2 h p) s && decide (s.pair.role = .active) && decide (s.od.txns.find? (fun t => t.no == p.txn) = some x) && decide (x.cfgId = p.arg)) &&
    (let frame (op : Nat) (h : FlueHdr) (p : ObjWriteP) : FlueFrame := ⟨h, .objWrite { p with op := op }⟩; let n : Nat := 0; let h : FlueHdr := hd 9; let p : ObjWriteP := pp 3 3 0 0x060D []; let s : State := od (fun o => { o with txns := [tx1] }) ac; running s && received n (frame 3 h p) s && decide (s.pair.role = .active)) &&
    (let frame (op : Nat) (h : FlueHdr) (p : ObjWriteP) : FlueFrame := ⟨h, .objWrite { p with op := op }⟩; let n : Nat := 0; let h : FlueHdr := hd 9; let e : ObjE := { index := 0x1100, sub := 6, typ := 5, value := [2,0] }; let txn : Word := 9; let s : State := ac; let p : ObjWriteP := { op := 4, txn := txn, beat := 0, arg := 0, entries := [e] }; running s && received n (frame 4 h p) s && decide (bit h.flags 1 = false) && decide (s.pair.role = .active) && decide (s.od.rxParts = []) && decide (e.index = 0x1100) && decide (e.sub = 6) && areaOpen s) &&
    (let frame (op : Nat) (h : FlueHdr) (p : ObjWriteP) : FlueFrame := ⟨h, .objWrite { p with op := op }⟩; let n : Nat := 0; let h : FlueHdr := hd 9; let p : ObjWriteP := pp 5 3 0 0 []; let f : Fwd := fw1; let c : Client := cl1; let s : State := od (fun o => { o with forwards := [fw1] }) sb; running s && received n (frame 5 h p) s && decide (s.od.forwards.find? (fun f => f.no == p.txn) = some f) && decide (f.client = some c) && decide (activityOf c.index c.sub f.value = none)) &&
    (let f : Fwd := fw1; let c : Client := cl1; let s : State := od (fun o => { o with forwards := [fw1] }) sb; running s && decide (s.od.forwards.find? (fun g => g.no == f.no) = some f) && decide (f.client = some c) && decide (s.pair.role ≠ .active))) = true := by decide +kernel
theorem witness_ClockSourcesComplete : (
    (let s : State := hwm (fun h => { h with porReleased := false }) ac; decide (s.hw.porReleased = false) && decide (s.hw.powerDown = false)) &&
    (let s : State := ck (fun c => { c with phase := .xt1 }) State.reset; decide (s.clk.phase = .xt1)) &&
    (let s : State := ck (fun c => { c with phase := .loops, xt1 := { judged := true }, pllc := { judged := true }, pllf := { judged := true } }) State.reset; decide (s.clk.phase = .loops) && decide (s.clk.xt1.judged = true) && decide (s.clk.pllc.judged = true) && decide (s.clk.pllf.judged = true)) &&
    (let s : State := ck (fun c => { c with phase := .xt1 }) State.reset; decide (s.clk.phase = .xt1) && decide (s.pair.role ≠ .clockHold)) &&
    (let src : Source := .plln; let s : State := ck (fun c => { c with holds := [1400000000, 1400000001] }) ac; running s && decide (s.pair.role ≠ .clockHold) && decide (src ≠ .xt2) && decide (src ≠ .sirc)) &&
    (let s : State := ac; running s) &&
    (let s : State := ac; running s) &&
    (let s : State := tmm (fun x => { x with onSirc := true }) ac; running s && decide (s.tim.onSirc = true))) = true := by decide +kernel
theorem witness_TimeComplete : (
    (let w : Word := 0xD5F00003; let s : State := ck (fun c => { c with op := 2 }) ac; running s && decide (fld w 16 16 = 0xD5F0) && decide (s.clk.dvfsTimeout = false) && decide (s.clk.stepTo = none)) &&
    (let level : Level := .m; let w : Word := 3; let s : State := ac; running s && decide (level ≠ .m ∨ fld w 16 16 ≠ 0xD5F0)) &&
    (let s : State := ck (fun c => { c with op := 2, stepTo := some 3, target := 3 }) ac; running s && decide (s.clk.stepTo.isSome = true)) &&
    (let n : Nat := 2; let s : State := ck (fun c => { c with op := 2, stepTo := some 2, target := 0 }) ac; running s && decide (s.clk.stepTo = some n) && decide (n ≤ s.clk.op ∨ s.clk.supplyUp = true) && decide (s.clk.dvfsTimeout = false)) &&
    (let s : State := ck (fun c => { c with op := 2, stepTo := some 3, target := 3 }) ac; running s && decide (s.clk.stepTo.isSome = true) && decide (s.clk.supplyUp = false)) &&
    (let n : Nat := 16777215; let s : State := ck (fun c => { c with trim := 0x40000005 }) ac; running s && decide (fld s.clk.trim 30 2 = 1) && decide (s.clk.trimHost = false) && decide (n < 16777216)) &&
    (let s : State := ac; running s) &&
    (let s : State := ac; running s) &&
    (let s : State := ptp; running s && decide (s.pair.role = .active) && decide (cfgNum s 0x1400 3 ≠ 0) && decide (s.tim.master = none)) &&
    (let id : DWord := 9; let off : Int := 10005; let s : State := tmm (fun x => { x with master := some 9, agreeing := 7, lastOffset := 5 }) ptp; running s && decide (s.pair.role = .active) && decide (cfgNum s 0x1400 3 ≠ 0) && decide (s.tim.master = some id) && decide (s.tim.locked = false) && decide (s.tim.agreeing = 7) && decide (off - s.tim.lastOffset ≤ 10000) && decide (s.tim.lastOffset - off ≤ 10000)) &&
    (let id : DWord := 9; let s : State := tmm (fun x => { x with master := some 9, locked := true, source := 1 }) ptp; running s && decide (s.pair.role = .active) && decide (s.tim.master = some id)) &&
    (let s : State := ac; running s) &&
    (let s : State := tmm (fun x => { x with alarm := 1 }) ac; running s && decide (s.tim.alarm ≠ 0)) &&
    (let s : State := tmm (fun x => { x with source := 3 }) ac; running s && decide (s.tim.source = 1 ∨ s.tim.source = 3))) = true := by decide +kernel
theorem witness_JournalComplete : (
    (let k : Nat := 5; let p : JPending := pd false; let rest : List JPending := []; let s : State := jr (fun j => { j with segs := sg0, logSeg := some 5, pending := [pd false] }) ac; running s && decide (s.jrn.pending = p :: rest) && decide (p.deltas = false) && decide (p.ds ≠ []) && decide (s.jrn.logSeg = some k) && decide (hasRoom s.jrn k (.delta p.task p.commit p.ds) = true) && decide (8 ≤ freeSegs s.jrn) && decide (∀ q ∈ rest, q.commit ≠ p.commit)) &&
    (let k : Nat := 0; let p : JPending := pd false; let rest : List JPending := []; let s : State := jr (fun j => { j with pending := [pd false] }) ac; running s && decide (s.jrn.pending = p :: rest) && decide (p.deltas = false) && decide (p.ds ≠ []) && decide (s.jrn.logSeg = none) && decide (nextFree s.jrn = some k) && decide (s.jrn.segs.length = 192)) &&
    (let k : Nat := 5; let p : JPending := pd true; let rest : List JPending := []; let s : State := jr (fun j => { j with segs := sg0, logSeg := some 5, pending := [pd true] }) ac; let r : JRec := .commit p.task p.commit p.inst (p.ds.map deltaBytes).sum; running s && decide (s.jrn.pending = p :: rest) && decide (p.deltas = true) && decide (p.swap = none) && decide (s.jrn.logSeg = some k) && decide (s.jrn.segs.length = 192) && decide (k < 192) && decide (hasRoom s.jrn k r = true)) &&
    (let p : JPending := pd false; let rest : List JPending := []; let s : State := jr (fun j => { j with pending := [pd false] }) ac; running s && decide (s.jrn.pending = p :: rest) && decide (p.deltas = false)) &&
    (let s : State := jr (fun j => { j with coalescing := true, buffer := (pd false).ds }) ac; let n := byteTokens (commitBytes s.jrn.buffer); running s && decide (s.jrn.coalescing = true) && decide (s.jrn.buffer ≠ []) && decide (n ≤ jrnTokens s.jrn s.now)) &&
    (let s : State := jr (fun j => { j with coalescing := true, tokNano := 4096000000000 }) ac; running s && decide (s.jrn.coalescing = true) && decide (s.jrn.buffer = []) && decide (4096000000000 ≤ jrnTokens s.jrn s.now)) &&
    (let s : State := ac; running s) &&
    (let p : JPass := { base := 3, size := 0, cold := false }; let s : State := jr (fun j => { j with segs := sg0, pass := some { base := 3, size := 0, cold := false } }) ac; running s && decide (s.jrn.pass = some p) && decide (s.jrn.paused = false)) &&
    (let rq : Rq := q [1]; let s : State := jr (fun j => { j with segs := List.replicate 8 {} ++ List.replicate 184 { kind := .log } }) (opn 4 ac); running s && accepted 0x1500 8 rq s && areaOpen s && decide (rq.value = [1]) && decide (8 ≤ freeSegs s.jrn)) &&
    (let rq : Rq := q [1]; let s : State := jr (fun j => { j with segs := List.replicate 7 {} ++ List.replicate 185 { kind := .log } }) (opn 4 ac); running s && accepted 0x1500 8 rq s && areaOpen s && decide (rq.value = [1]) && decide (freeSegs s.jrn < 8)) &&
    (let s : State := ac; running s) &&
    (let block : Byte := 0x63; let s : State := ac; running s && decide (degraded block = true)) &&
    (let s : State := ac; running s)) = true := by decide +kernel
theorem witness_EventsComplete : (
    (let w : Nat := 2; let level : Level := .m; let word : Word := 0x80440FFF; let s : State := ev (fun e => { e with queue := List.replicate 63 { code := 9, block := 0, cont := false, data := [] } }) ac; running s && decide (w = 0 → level = .m) && decide (w ≤ 2) && decide (fld word 0 16 ≤ 0x0FFF) && decide (1000000000 ≤ bucketNano (bucketOf s.evr (fld word 0 16)) s.now) && decide (1000000000 ≤ globalNano s.evr s.now) && decide (s.evr.queue.length < 64)) &&
    (let limited (word : Word) (s : State) : Bool := decide (s.evr.rlen = true) && decide (evFree (fld word 0 16) = false) && decide (bit (bucketOf s.evr (fld word 0 16)).cfg 31 = false); let word : Word := 0x123; let s : State := ev (fun e => { e with rlen := true, buckets := [{ code := 0x123, cfg := 0x1004, nano := 999999999, at_ := ac.now, suppressed := 3 }] }) ac; running s && decide (fld word 0 16 ≤ 0x0FFF) && limited word s && decide (bucketNano (bucketOf s.evr (fld word 0 16)) s.now < 1000000000)) &&
    (let word : Word := 0x123; let s : State := ev (fun e => { e with queue := List.replicate 64 { code := 9, block := 0, cont := false, data := [] } }) ac; running s && decide (fld word 0 16 ≤ 0x0FFF) && decide (1000000000 ≤ bucketNano (bucketOf s.evr (fld word 0 16)) s.now) && decide (1000000000 ≤ globalNano s.evr s.now) && decide (s.evr.queue.length = 64)) &&
    (let w : Nat := 2; let level : Level := .m; let word : Word := 0x1000; let s : State := ac; running s && decide ((w = 0 ∧ level ≠ .m) ∨ 0x0FFF < fld word 0 16)) &&
    (let r : EvRec := { code := 9, block := 0, cont := false, data := [] }; let rs : List EvRec := []; let s : State := ev (fun e => { e with queue := [{ code := 9, block := 0, cont := false, data := [] }], head := 131075 }) ac; running s && decide (s.evr.supQueue = []) && decide (s.evr.queue = r :: rs) && decide (r.code ≠ 1) && decide (r.code ≠ 2) && decide (r.code ≠ 3)) &&
    (let s : State := ac; running s && decide (suppressedCodes s.evr = []) && decide (s.evr.lossCount = 0) && decide (s.evr.queue.length < 64)) &&
    (let rq : Rq := q [1,2,7,0]; let lo : Byte := 1; let hi : Byte := 2; let rate : Byte := 7; let burst : Byte := 0; let s : State := opn 4 ac; running s && accepted 0x1502 1 rq s && decide (rq.value = [lo, hi, rate, burst]))) = true := by decide +kernel
theorem witness_GateComplete : (
    (let e : Word := 9; let s : State := gt (fun g => { g with epoch := 8 }) ac; running s && decide (e = s.gate.epoch + 1) && decide (∀ i ∈ List.range 96, ruleBad (s.gate.staged.getD i {}) = false)) &&
    (let e : Word := 1; let i : Nat := 21; let s : State := gt (fun g => { g with staged := putAt g.staged 21 { addr := BitVec.ofNat 64 (0x800000000 + 3), perm := 0x80000001 } }) ac; running s && decide (e = s.gate.epoch + 1) && decide (i < 96) && decide (ruleBad (s.gate.staged.getD i {}) = true) && decide (∀ j ∈ List.range i, ruleBad (s.gate.staged.getD j {}) = false)) &&
    (let level : Level := .m; let e : Word := 2; let s : State := ac; running s && decide (level ≠ .m ∨ e ≠ s.gate.epoch + 1)) &&
    (let s : State := ac; running s) &&
    (let s : State := gt (fun g => { g with dirty := [3, 127, 128], trkIndex := 24575 }) ac; running s && decide (s.gate.trkIndex < 24576)) &&
    (let level : Level := .s; let s : State := ac; running s && decide (level ≠ .m)) &&
    (let s : State := ac; running s) &&
    (let s : State := gt (fun g => { g with trkBusy := true }) ac; running s && decide (s.gate.trkBusy = true)) &&
    (let s : State := ac; running s)) = true := by decide +kernel
theorem witness_ClaimRead : (
    (let c : Nat := 2; let t : Nat := 8; let s : State := ac; let a := 0x12400304 + 16 * t; running s && decide (s.bus.retries = []) && decide (t < 9) && decide (checkPart s.gate .m (tagOf s.gate (.core c)) .read a = .pass))) = true := by decide +kernel
theorem witness_PowerStatesComplete : (
    (let n : Nat := 1023; let s : State := ac; running s && decide (n < 1024)) &&
    (let c : Nat := 7; let e : Nat × Nat := (2, 7); let es : List (Nat × Nat) := []; let s : State := dq (fun d => { d with rel := putAt d.rel 7 [(2, 7)] }) ac; running s && decide (c < 8) && decide (s.dic.rel.length = 8) && decide (s.dic.rel.getD c [] = e :: es)) &&
    (let s : State := ac; running s) &&
    (let c : Nat := 7; let s : State := ac; running s && decide (c < 8)) &&
    (let reserve (s : State) : Bool := running s && decide (s.pair.role = .reserve) && decide (s.emb.result ≠ 1); let s : State := rsv; reserve s && decide (wakeEnabled s = true) && decide (wakePresent s = 0)) &&
    (let s : State := ac; running s && decide (s.emb.result ≠ 1) && decide (s.pair.role ≠ .reserve)) &&
    (let reserve (s : State) : Bool := running s && decide (s.pair.role = .reserve) && decide (s.emb.result ≠ 1); let s : State := em (fun e => { e with wakeEn := 0 }) rsv; reserve s && decide (wakeEnabled s = false)) &&
    (let reserve (s : State) : Bool := running s && decide (s.pair.role = .reserve) && decide (s.emb.result ≠ 1); let s : State := tmm (fun t => { t with rtcInt := 1 }) rsv; reserve s && decide (wakeEnabled s = true) && decide (wakePresent s ≠ 0)) &&
    (let s : State := em (fun e => { e with state := .entering, step := .taken }) rsv; decide (s.sup.failSilent = false) && decide (s.emb.state = .entering) && decide (s.emb.step = .taken)) &&
    (let s : State := dq (fun d => { d with idle := 0xFF }) (em (fun e => { e with state := .entering, step := .taken }) rsv); decide (s.sup.failSilent = false) && decide (s.emb.state = .entering) && decide (s.emb.step = .taken) && decide (s.dic.idle = 0xFF) && decide (s.emb.latch = 0) && decide (wakePresent s = 0)) &&
    (let s : State := em (fun e => { e with state := .entering, step := .inWfi }) rsv; decide (s.sup.failSilent = false) && decide (s.emb.state = .entering) && decide (s.emb.step = .inWfi) && decide (wakePresent s = 0)) &&
    (let s : State := tmm (fun t => { t with rtcInt := 1 }) (em (fun e => { e with state := .banked }) rsv); decide (s.sup.failSilent = false) && decide (s.sup.isolated = []) && decide (s.emb.state = .banked) && decide (bit s.emb.wakeEn 0 = true) && decide (bit s.tim.rtcInt 0 = true)) &&
    (let s : State := em (fun e => { e with state := .waking, step := .taken }) rsv; decide (s.sup.failSilent = false) && decide (s.emb.state = .waking) && decide (s.emb.step ≠ .resumed)) &&
    (let s : State := em (fun e => { e with state := .waking, step := .resumed, cause := 1 }) rsv; decide (s.sup.failSilent = false) && decide (s.emb.state = .waking) && decide (s.emb.step = .resumed) && decide (s.pair.role = .reserve) && decide (bit s.emb.cause 1 = false) && decide (bit s.emb.cause 0 = true))) = true := by decide +kernel
theorem witness_LocalIoComplete : (
    (let s : State := lg; running s && decide (fld s.lio.cycle 0 3 ≠ 7)) &&
    (let g (s : State) (k : Nat) : LioGroup := lioGroup s.lio k; let s : State := lg; running s && decide (fld s.lio.cycle 0 3 ≠ 7) && decide (s.cyc.pstate = .running) && decide ((g s 0).st = .good) && decide ((g s 1).st = .good)) &&
    (let g (s : State) (k : Nat) : LioGroup := lioGroup s.lio k; let k : Nat := 1; let s : State := lg; running s && decide (k < 2) && decide ((g s k).st = .good)) &&
    (let g (s : State) (k : Nat) : LioGroup := lioGroup s.lio k; let k : Nat := 1; let s : State := lg; running s && decide (k < 2) && decide ((g s k).st ≠ .tripped) && decide ((g s k).missing = false)) &&
    (let g (s : State) (k : Nat) : LioGroup := lioGroup s.lio k; let k : Nat := 1; let j : Nat := 3; let s : State := gd 1 (fun x => { x with st := .tripped, nextOff := 3 }) lg; running s && decide (k < 2) && decide (j < 4) && decide ((g s k).nextOff = j)) &&
    (let g (s : State) (k : Nat) : LioGroup := lioGroup s.lio k; let k : Nat := 1; let s : State := gd 1 (fun x => { x with st := .low }) lg; running s && decide (k < 2) && decide ((g s k).st = .low)) &&
    (let g (s : State) (k : Nat) : LioGroup := lioGroup s.lio k; let k : Nat := 1; let s : State := gd 1 (fun x => { x with st := .tripped, nextOff := 4 }) lg; running s && decide (k < 2) && decide ((g s k).st = .tripped) && decide ((g s k).nextOff = 4)) &&
    (let rq : Rq := q [1]; let s : State := gd 0 (fun x => { x with st := .ready }) (opn 4 lg); running s && accepted 0x1600 5 rq s && decide (s.pair.role = .active) && decide (rearmBad (beNat rq.value) s = false)) &&
    (let rq : Rq := q [3]; let s : State := gd 0 (fun x => { x with st := .ready }) (opn 4 lg); running s && accepted 0x1600 5 rq s && decide (s.pair.role = .active) && decide (rearmBad (beNat rq.value) s = true)) &&
    (let rq : Rq := q [1]; let s : State := opn 4 { sb with lio := lg.lio }; running s && accepted 0x1600 5 rq s && decide (s.pair.role ≠ .active)) &&
    (let s : State := gd 0 (fun x => { x with st := .ready }) (gd 1 (fun x => { x with st := .ready }) lg); running s && decide (s.lio.g0.st = .ready) && decide (s.lio.g1.st = .ready)) &&
    (let level : Level := .m; let w : Word := 0x1A0F0003; let s : State := lg; running s && decide (level ≠ .m ∨ fld w 16 16 ≠ 0x1A0E)) &&
    (let k : Nat := 7; let s : State := pr (fun p => { p with outEn := true }) lg; running s && decide (k < 8) && decide (conducts s k = true)) &&
    (let k : Nat := 7; let s : State := lg; running s && decide (k < 8))) = true := by decide +kernel
theorem witness_FeedChanges : (
    (let b : Bool := true; let st : Feed := .low; let s : State := hwm (fun h => { h with feedA := { st := .good, mv10 := 2400 }, feedB := { st := .good, mv10 := 2400 } }) ac; running s && decide ((feedOf s (!b)).st = .good) && decide ((feedOf s b).st ≠ st))) = true := by decide +kernel
theorem witness_HardwareComplete : (
    (let s : State := ac; running s && decide (s.pair.recBusy = false)) &&
    (let s : State := hwm (fun h => { h with ejectOpen := true, seated := true }) off; running s && decide (s.hw.seated = true) && decide (s.hw.ejectOpen = true) && decide (s.pair.role = .offline) && decide (s.pair.recBusy = false)) &&
    (let s : State := hwm (fun h => { h with seated := true }) (pr (fun p => { p with role := .fenced, fenceMark := true }) off); running s && decide (s.hw.seated = true) && decide (s.pair.role = .fenced)) &&
    (let s : State := off; running s && decide (s.hw.ejectOpen = false) && decide (s.pair.role = .offline)) &&
    (let s : State := sb; running s && decide (s.hw.ejectOpen = false) && decide (s.pair.role = .standby ∨ s.pair.role = .reserve) && decide (mySlot s ≠ .c) && decide (s.pair.switchSeen = none) && decide (s.pair.leaving = false) && decide (s.pair.role = .reserve → viaSeen s = false)) &&
    (let s : State := hwm (fun h => { h with ejectOpen := true }) ac; running s && decide (s.hw.ejectOpen = true) && decide (s.pair.role ≠ .offline) && decide (s.hw.key ≠ .service)) &&
    (let s : State := ac; running s) &&
    (let s : State := ac; running s) &&
    (let s : State := ac; running s)) = true := by decide +kernel
theorem witness_UpdatesComplete : (
    (let m : SvcMsg := msg 0 0 img; let rq : Rq := q []; let s : State := off; running s && decide (m.sflags = 0) && decide (m.arg = 0) && accepted 0x1720 1 { rq with value := m.data } s && decide (s.upd.st ≠ .writing)) &&
    (let m : SvcMsg := msg 1 0 [1,2]; let rq : Rq := q []; let mt : Meta := (entryOf 0x1720 1 off).getD { ty := .oct 1 }; let x : Session := ses none; let n : Nat := 3; let s : State := off; running s && decide (rq.path = .service n) && decide (s.od.conns.contains n = true) && decide (m.data.length ≤ 32768) && decide (checkAccess (writer 0x1720 1 rq) true m.data s = 0) && decide (entryOf 0x1720 1 s = some mt) && decide (mt.ty = .oct 33554560) && decide (rq.session < 65536) && decide (sessionOn s rq.session rq.path = some x) && decide (∀ y ∈ s.od.sessions, y.revoked = false) && decide (bit m.sflags 0 = true) && decide (m.arg = 0)) &&
    (let m : SvcMsg := msg 1 2 [1,2]; let rq : Rq := q []; let mt : Meta := (entryOf 0x1720 1 off).getD { ty := .oct 1 }; let x : Session := ses (some [5,6]); let n : Nat := 3; let s : State := xf [5,6] off; let z : Xfer := { index := 0x1720, sub := 1, write := true, data := [5,6], at_ := 5 }; running s && decide (rq.path = .service n) && decide (s.od.conns.contains n = true) && decide (m.data.length ≤ 32768) && decide (checkAccess (writer 0x1720 1 rq) true m.data s = 0) && decide (entryOf 0x1720 1 s = some mt) && decide (mt.ty = .oct 33554560) && decide (rq.session < 65536) && decide (sessionOn s rq.session rq.path = some x) && decide (∀ y ∈ s.od.sessions, y.revoked = false) && decide (x.xfer = some z) && decide (z.index = 0x1720) && decide (z.sub = 1) && decide (z.write = true) && decide (z.late = false) && decide (z.data ≠ []) && decide (m.arg.toNat = z.data.length) && decide (z.data.length + m.data.length ≤ 33554560) && decide (bit m.sflags 0 = true)) &&
    (let m : SvcMsg := msg 0 2 [1,2]; let rq : Rq := q []; let mt : Meta := (entryOf 0x1720 1 off).getD { ty := .oct 1 }; let x : Session := ses (some [5,6]); let n : Nat := 3; let s : State := xf [5,6] off; let z : Xfer := { index := 0x1720, sub := 1, write := true, data := [5,6], at_ := 5 }; running s && decide (rq.path = .service n) && decide (s.od.conns.contains n = true) && decide (m.data.length ≤ 32768) && decide (checkAccess (writer 0x1720 1 rq) true m.data s = 0) && decide (entryOf 0x1720 1 s = some mt) && decide (mt.ty = .oct 33554560) && decide (rq.session < 65536) && decide (sessionOn s rq.session rq.path = some x) && decide (∀ y ∈ s.od.sessions, y.revoked = false) && decide (x.xfer = some z) && decide (z.index = 0x1720) && decide (z.sub = 1) && decide (z.write = true) && decide (z.late = false) && decide (z.data ≠ []) && decide (m.arg.toNat = z.data.length) && decide (z.data.length + m.data.length ≤ 33554560) && decide (bit m.sflags 0 = false) && decide (checkValue 0x1720 1 mt (z.data ++ m.data) s = 0) && decide (s.upd.st ≠ .writing)) &&
    (let rq : Rq := q [1]; let s : State := up_ (fun u => { u with staged := img, st := .staged }) off; running s && accepted 0x1720 2 rq s && decide (beNat rq.value = 1) && decide (s.upd.st = .staged ∨ s.upd.st = .checked)) &&
    (let rq : Rq := q [2]; let s : State := up_ (fun u => { u with staged := img, st := .checked }) off; running s && accepted 0x1720 2 rq s && decide (beNat rq.value = 2) && decide (updateRefused s = 0) && decide (s.pair.role = .offline) && decide (reachActive s = none) && decide (tokenFree s (ownHolder s 5 0 (writer 0x1720 2 rq).session) = true)) &&
    (let rq : Rq := q [3]; let s : State := up_ (fun u => { u with staged := img, st := .failed }) off; running s && accepted 0x1720 2 rq s && decide (beNat rq.value = 3) && decide (s.upd.st ≠ .writing)) &&
    (let s : State := up_ (fun u => { u with recovery := true }) (od (fun o => { o with linkUp := true }) (pr (fun p => { p with role := .update }) off)); decide (s.upd.recovery = true) && decide (s.pair.role = .update) && decide (s.sup.kilnHeld = false) && decide (s.od.linkUp = true) && decide (s.mem.wf = true)) &&
    (let rq : Rq := q [1]; let s : State := off; running s && decide (s.cord.ilock = true) && decide (s.cord.busy = false) && accepted 0x1720 7 rq s && decide (s.upd.arb.length = 4))) = true := by decide +kernel
theorem witness_KeyMailboxComplete : (
    (let ready (s : State) : Bool := running s && decide (s.cord.ilock = true); let m : MbxRq := mq 4 262144 []; let s : State := voff; ready s && decide (s.cord.vmode = true) && decide (serviceOnly s = false) && decide (updRole s = true) && decide (m.arg0 = 3 ∨ m.arg0 = 4) && decide (m.arg1.toNat ≤ 262144)) &&
    (let ready (s : State) : Bool := running s && decide (s.cord.ilock = true); let m : MbxRq := mq 1 0 [2,3,4]; let u : CordUpd := { comp := 3, len := 4, data := [1] }; let s : State := leg (fun l => { l with upd := some { comp := 3, len := 4, data := [1] } }) voff; ready s && decide (s.legal.upd = some u) && decide (m.arg0.toNat + m.data.length ≤ u.len)) &&
    (let ready (s : State) : Bool := running s && decide (s.cord.ilock = true); let m : MbxRq := mq 1 0 (img.take 128); let u : CordUpd := { comp := 3, len := 4, data := [1,2,3,4] }; let s : State := leg (fun l => { l with upd := some { comp := 3, len := 4, data := [1,2,3,4] } }) voff; ready s && decide (s.legal.upd = some u) && decide (s.cord.vmode = true) && decide (updRole s = true) && decide (m.data.length = 128) && decide (hdrLen m.data = u.len) && decide (u.data.length = u.len) && trailOpen 2 s) &&
    (let ready (s : State) : Bool := running s && decide (s.cord.ilock = true); let m : MbxRq := mq 1 0 (enr0 3 0); let s : State := off; let slot := leAt m.data 0 1; let level := leAt m.data 1 1; ready s && decide (serviceOnly s = false) && decide (m.data.length = 36) && decide (leAt m.data 3 1 = 0) && decide (level = 0) && decide (slot < 4) && decide (recAt s.ks.progs slot = none)) &&
    (let ready (s : State) : Bool := running s && decide (s.cord.ilock = true); let m : MbxRq := mq 1 0 (enr 31 4); let s : State := off; let slot := leAt m.data 0 1; let level := leAt m.data 1 1; ready s && decide (serviceOnly s = false) && decide (m.data.length = 36) && decide (leAt m.data 3 1 = 0) && decide (level = 1 ∨ level = 2 ∨ level = 4) && decide (slot < 32) && decide (credAt s.ks slot = none)) &&
    (let ready (s : State) : Bool := running s && decide (s.cord.ilock = true); let m : MbxRq := mq 1 0 (enr 31 3); let s : State := voff; let slot := leAt m.data 0 1; let level := leAt m.data 1 1; ready s && decide (serviceOnly s = false) && decide (m.data.length = 36) && decide (leAt m.data 3 1 = 0) && decide (level = 3) && decide (slot < 32) && decide (credAt s.ks slot = none) && decide (s.cord.vmode = true) && trailOpen 3 s) &&
    (let ready (s : State) : Bool := running s && decide (s.cord.ilock = true); let m : MbxRq := mq 1 2 []; let c : Cred := { slot := 2, level := 3, key := zeros 32, debug := true }; let s : State := crd 2 3 voff; ready s && decide (serviceOnly s = false) && decide (m.arg0 = 1) && decide (credAt s.ks m.arg1.toNat = some c) && decide (c.level = 4 → (s.ks.creds.filter (fun x => x.level == 4)).length ≠ 1) && decide (c.level = 3 → s.cord.vmode = true ∧ (audRefuse 3 s = 0 ∧ s.aud.used < 124518))) &&
    (let ready (s : State) : Bool := running s && decide (s.cord.ilock = true); let m : MbxRq := mq 2 2 []; let r : KeyRec := { idx := 2, key := [], digid := 0 }; let s : State := ks (fun k => { k with progs := [{ idx := 2, key := [], digid := 0 }] }) off; ready s && decide (serviceOnly s = false) && decide (m.arg0 = 2) && decide (recAt s.ks.progs m.arg1.toNat = some r)) &&
    (let ready (s : State) : Bool := running s && decide (s.cord.ilock = true); let s : State := off; ready s) &&
    (let ready (s : State) : Bool := running s && decide (s.cord.ilock = true); let m : MbxRq := mq 0 0 (zeros 32); let n : Nat := 0; let s : State := ks (fun k => { k with dev := some 0 }) off; ready s && decide (s.ks.dev = some n) && decide (m.data.length = 32)) &&
    (let ready (s : State) : Bool := running s && decide (s.cord.ilock = true); let m : MbxRq := mq 3 0 []; let s : State := off; ready s && decide (m.arg0 = 3 ∨ m.arg0 = 4) && decide (s.upd.arb.length = 4)) &&
    (let ready (s : State) : Bool := running s && decide (s.cord.ilock = true); let s : State := off; ready s && decide (s.pair.role = .offline))) = true := by decide +kernel
theorem witness_KeyEntriesComplete : (
    (let ready (idx sub : Nat) (rq : Rq) (s : State) : Bool := running s && decide (s.cord.ilock = true) && decide (s.cord.busy = false) && accepted idx sub rq s; let rq : Rq := q (enr 31 2); let s : State := off; ready 0x1730 2 rq s && decide (rq.value.length = 36) && decide (serviceOnly s = false) && decide (leAt rq.value 3 1 = 0) && decide (leAt rq.value 1 1 = 1 ∨ leAt rq.value 1 1 = 2 ∨ leAt rq.value 1 1 = 4) && decide (leAt rq.value 0 1 < 32) && decide (credAt s.ks (leAt rq.value 0 1) = none)) &&
    (let ready (idx sub : Nat) (rq : Rq) (s : State) : Bool := running s && decide (s.cord.ilock = true) && decide (s.cord.busy = false) && accepted idx sub rq s; let rq : Rq := q [2]; let c : Cred := { slot := 2, level := 2, key := zeros 32, debug := true }; let s : State := crd 2 2 off; ready 0x1730 3 rq s && decide (serviceOnly s = false) && decide (credAt s.ks (beNat rq.value) = some c) && decide (c.level ≠ 3) && decide (c.level = 4 → (s.ks.creds.filter (fun x => x.level == 4)).length ≠ 1)) &&
    (let ready (idx sub : Nat) (rq : Rq) (s : State) : Bool := running s && decide (s.cord.ilock = true) && decide (s.cord.busy = false) && accepted idx sub rq s; let rq : Rq := q ([3,0,0,0] ++ zeros 32); let s : State := off; ready 0x1730 5 rq s && decide (rq.value.length = 36) && decide (serviceOnly s = false) && decide (leAt rq.value 1 3 = 0) && decide (leAt rq.value 0 1 < 4) && decide (recAt s.ks.progs (leAt rq.value 0 1) = none)) &&
    (let ready (idx sub : Nat) (rq : Rq) (s : State) : Bool := running s && decide (s.cord.ilock = true) && decide (s.cord.busy = false) && accepted idx sub rq s; let rq : Rq := q [2]; let r : KeyRec := { idx := 2, key := [], digid := 0 }; let s : State := ks (fun k => { k with progs := [{ idx := 2, key := [], digid := 0 }] }) off; ready 0x1730 6 rq s && decide (serviceOnly s = false) && decide (recAt s.ks.progs (beNat rq.value) = some r)) &&
    (let ready (idx sub : Nat) (rq : Rq) (s : State) : Bool := running s && decide (s.cord.ilock = true) && decide (s.cord.busy = false) && accepted idx sub rq s; let rq : Rq := q (enr 31 3); let s : State := zoff; ready 0x1730 0x0B rq s && decide (rq.value.length = 36) && decide (leAt rq.value 3 1 = 0) && decide (leAt rq.value 1 1 = 3) && decide (leAt rq.value 0 1 < 32) && decide (credAt s.ks (leAt rq.value 0 1) = none) && decide (s.cord.vmode = true) && trailOpen 3 s) &&
    (let ready (idx sub : Nat) (rq : Rq) (s : State) : Bool := running s && decide (s.cord.ilock = true) && decide (s.cord.busy = false) && accepted idx sub rq s; let rq : Rq := q [2]; let c : Cred := { slot := 2, level := 3, key := zeros 32, debug := true }; let s : State := crd 2 3 zoff; ready 0x1730 0x0C rq s && decide (serviceOnly s = false) && decide (credAt s.ks (beNat rq.value) = some c) && decide (c.level = 3) && decide (s.cord.vmode = true) && trailOpen 3 s) &&
    (let ready (idx sub : Nat) (rq : Rq) (s : State) : Bool := running s && decide (s.cord.ilock = true) && decide (s.cord.busy = false) && accepted idx sub rq s; let rq : Rq := q [1]; let s : State := off; ready 0x1730 0x0A rq s && decide (s.pair.role = .offline)) &&
    (let rq : Rq := q []; let n : Nat := 3; let s : State := off; running s && decide (s.cord.ilock = true) && decide (s.cord.busy = false) && decide (rq.path = .service n) && decide (s.od.conns.contains n = true) && decide (checkAccess (writer 0x1740 1 rq) false [] s = 0) && decide (∀ x ∈ s.od.sessions, x.xfer = none ∧ x.revoked = false)) &&
    (let ready (idx sub : Nat) (rq : Rq) (s : State) : Bool := running s && decide (s.cord.ilock = true) && decide (s.cord.busy = false) && accepted idx sub rq s; let rq : Rq := q ([1,0,0,0] ++ zeros 64); let c : List Byte := [1]; let t0 : Nat := 4999999000; let k : Cred := { slot := 1, level := 1, key := zeros 32, debug := true }; let s : State := crd 1 1 (up_ (fun u => { u with debugChal := some ([1], 4999999000) }) (hwm (fun h => { h with key := .service }) off)); ready 0x1740 2 rq s && decide (rq.value.length = 68) && decide (s.pair.role = .offline) && decide (s.hw.key = .service) && decide (s.cord.sess = none) && decide (s.upd.debugChal = some (c, t0)) && decide (credAt s.ks (leAt rq.value 0 1) = some k))) = true := by decide +kernel
theorem witness_KeyStoreCommandsComplete : (
    (let s : State := off; running s && decide (s.ks.dev = none)) &&
    (let s : State := ks (fun k => { k with dev := some 0 }) off; running s && decide (s.ks.dev ≠ none)) &&
    (let n : Nat := 0; let s : State := ks (fun k => { k with dev := some 0, sel := 0x5000 }) off; running s && decide (selClass s.ks = 5) && decide (s.ks.dev = some n)) &&
    (let s : State := ks (fun k => { k with sel := 0x5000 }) off; running s && decide (selClass s.ks ≠ 5 ∨ s.ks.dev = none)) &&
    (let s : State := ks (putKsData (enr 9 2)) (ks (fun k => { k with sel := 0x101F }) off); let d := (ksData s.ks).take 36; running s && decide (s.ks.data.length = 32) && decide (selClass s.ks = 1) && decide (leAt d 3 1 = 0) && decide (leAt d 1 1 = 1 ∨ leAt d 1 1 = 2 ∨ leAt d 1 1 = 4)) &&
    (let s : State := ks (fun k => { k with sel := 0x2001 }) off; running s && decide (selClass s.ks = 2)) &&
    (let s : State := ks (fun k => { k with sel := 0x0003 }) off; running s && decide (selClass s.ks = 0)) &&
    (let key : List Byte := zeros 32; let s : State := ks (fun k => { k with sel := 0x1002 }) (crd 2 2 off); running s && decide (selPublic s = some key)) &&
    (let s : State := off; running s) &&
    (let s : State := ks (putKsData [64]) off; running s && decide (s.upd.arb.length = 4)) &&
    (let s : State := ks (fun k => { k with zeroised := true }) off; running s && decide (s.ks.zeroised = true) && decide (s.pair.role = .offline)) &&
    (let s : State := off; running s && decide (s.ks.zeroised = false ∨ s.pair.role ≠ .offline))) = true := by decide +kernel
theorem witness_CommissionComplete : (
    (let rq : Rq := q [1]; let s : State := opn 4 ac; let h : Holder := { code := 8, slot := mySlot s, arg := 0, session := (writer 0x1751 1 rq).session }; running s && accepted 0x1751 1 rq s && areaOpen s && decide (s.pair.role = .active) && decide (tokenFree s h = true)) &&
    (let x : Txn := { no := 3, beat := 9, entries := [entryE 0x1751 1 [1]], client := some cl1, forward := none, acked := false, cfgId := 55 }; let c : Client := cl1; let v : Byte := 1; let s : State := opn 4 ac; running s && decide (x.entries = [entryE 0x1751 1 [v]]) && decide (x.client = some c) && decide (x.forward = none)) &&
    (let level : Level := .m; let word : Word := 0xC0C00001; let s : State := ac; running s && decide (level = .m) && decide (fld word 16 16 = 0xC0C0) && decide (bit word 0 = true)) &&
    (let level : Level := .m; let word : Word := 0xC0C00000; let s : State := fijRun; running s && decide (level = .m) && decide (fld word 16 16 = 0xC0C0) && decide (bit word 0 = false) && decide (s.mnt.comm = true)) &&
    (let level : Level := .m; let word : Word := 0xC0C10001; let s : State := ac; running s && decide (level ≠ .m ∨ fld word 16 16 ≠ 0xC0C0)) &&
    (let rq : Rq := q [1]; let s : State := fij; let h := ownHolder s 9 0 (writer 0x1753 1 rq).session; running s && accepted 0x1753 1 rq s && decide (beNat rq.value = 1) && decide (s.pair.role = .active) && decide (fijRefused s = 0) && decide (tokenFree s h = true)) &&
    (let word : Word := 0xF1A50001; let s : State := fij; running s && decide (fld word 16 16 = 0xF1A5) && decide (fld word 0 8 = 1) && decide (fijRefused s = 0) && decide (tokenFree s (ownHolder s 9 0 0) = true)) &&
    (let rq : Rq := q [2]; let s : State := fijRun; running s && accepted 0x1753 1 rq s && decide (beNat rq.value = 2) && decide (s.mnt.running = true)) &&
    (let word : Word := 0xF1A50002; let s : State := fijRun; running s && decide (fld word 16 16 = 0xF1A5) && decide (fld word 0 8 = 2) && decide (s.mnt.running = true)) &&
    (let s : State := fijRun; running s && decide (s.mnt.running = true)) &&
    (let word : Word := 1; let s : State := fij; running s && decide (bit word 0 = true) && decide (s.mnt.running = false)) &&
    (let k : Nat := 8; let n : Nat := 1; let f : FlueFrame := fl1; let s : State := fijRun; running s && decide (s.mnt.running = true) && decide (heldBy s.mnt k = some (.flueTx n f)))) = true := by decide +kernel
theorem witness_BelowMachineModeNoEffect : (
    (let level : Level := .s; decide (level ≠ .m))) = true := by decide +kernel
/-- The number that the blob of a key-loading request gives is the module's own, whatever it is. -/
def blob (w : Word) : List Byte := [3, 0, 127, 0] ++ le4 w.toNat ++ zeros 64
theorem blob_reads (w : Word) : (blob w).length = 72 ∧ leAt (blob w) 4 4 = w.toNat ∧ leAt (blob w) 0 1 = 3 ∧ leAt (blob w) 2 2 = 127 := by
  have h := w.isLt
  refine ⟨rfl, ?_, rfl, rfl⟩
  show leNat (le4 w.toNat) = w.toNat
  simp only [le4, leBytes, leNat, BitVec.toNat_ofNat]
  omega
def loading : State := ks (fun k => { k with dev := some 0 }) off
theorem witness_KeyMailboxComplete_load : running loading = true ∧ loading.cord.ilock = true ∧ loading.ks.dev = some 0 ∧
    leAt (mq 2 2 (blob Config.serial)).data 4 4 = Config.serial.toNat :=
  ⟨by decide +kernel, by decide +kernel, by decide +kernel, (blob_reads Config.serial).2.1⟩
theorem witness_KeyEntriesComplete_load : (running loading && loading.cord.ilock && !loading.cord.busy && accepted 0x1730 7 (q (blob Config.serial)) loading) = true ∧
    leAt (q (blob Config.serial)).value 4 4 = Config.serial.toNat :=
  ⟨by decide +kernel, (blob_reads Config.serial).2.1⟩
def unwrapping : State := ks (fun k => { k with dev := some 0, sel := 0x307F, data := 0x007F0003 :: Config.serial :: List.replicate 30 0 }) off
theorem witness_KeyStoreCommandsComplete_unwrap : running unwrapping = true ∧ unwrapping.ks.dev = some 0 ∧ unwrapping.ks.data.length = 32 ∧ selClass unwrapping.ks = 3 ∧
    leAt ((ksData unwrapping.ks).take 72) 4 4 = Config.serial.toNat ∧ leAt ((ksData unwrapping.ks).take 72) 0 1 = 3 ∧
    leAt ((ksData unwrapping.ks).take 72) 2 2 = 127 ∧ selIndex unwrapping.ks = 127 := by
  refine ⟨by decide +kernel, by decide +kernel, by decide +kernel, by decide +kernel, ?_, rfl, rfl, by decide +kernel⟩
  show leNat (le4 Config.serial.toNat) = Config.serial.toNat
  have h := Config.serial.isLt
  simp only [le4, leBytes, leNat, BitVec.toNat_ofNat]
  omega
def writing : State := up_ (fun u => { u with staged := img, st := .writing, record := some { comp := 2, sha := sha256 img, begun := false } })
  (pr (fun p => { p with role := .update }) off)
theorem witness_UpdatesComplete_load : writing.upd.record = some { comp := 2, sha := sha256 writing.upd.staged, begun := false } ∧
    (decide (writing.pair.role = .update ∧ writing.upd.st = .writing ∧ writing.sup.kilnHeld = false ∧ writing.upd.staged ≠ [] ∧
      stagedComp writing = 2 ∧ writing.mem.wf = true)) = true := ⟨rfl, by decide +kernel⟩
/-- The order of R470's checks, one state for each: its code, and no code in the last. -/
def owCode (m : MbxRq) (s : State) : Nat :=
  let index := m.arg0.toNat / 256
  let sub := m.arg0.toNat % 256
  if s.cord.sess.map (fun v => v.handle) ≠ some m.session then 0x2505 else if serviceOnly s then 0x0603 else if s.cord.vmode = false then 0x2501
  else match legalAt index sub with
    | none => 0x2507
    | some (n, j, mt) => if chanSt s n = .inService then 0x2107
      else if m.data.length ≠ 8 ∨ legalFits j sub mt (leAt m.data 0 8) = false then 0x0609
      else if 4 ≤ audState s ∨ s.aud.inited = false then 0x2503 else if 2 ≤ audState s then 0x2502 else 0
def own8 : List Byte := le8 (legalVal vs.legal 0x7000 1)
theorem witness_LegalWriteOrder : ([(mq 0x700001 0 own8, cb), (mq 0x700001 0 [], crd 0 4 vs), (mq 0x700001 0 [], cor (fun c => { c with vmode := false }) vs),
      (mq 0x000001 0 [], vs), (mq 0x700001 0 [], chn 0 .inService vs), (mq 0x700001 0 [], vs), (mq 0x700001 0 own8, aud (fun a => { a with inited := false }) vs),
      (mq 0x700001 0 own8, aud (fun a => { a with used := 130900 }) vs), (mq 0x700001 0 own8, vs)].map
    (fun p => (running p.2, p.2.cord.ilock, owCode p.1 p.2))).map (fun x => if x.1 && x.2.1 then x.2.2 else 1) =
      [0x2505, 0x0603, 0x2501, 0x2507, 0x2107, 0x0609, 0x2503, 0x2502, 0] ∧ legalVal vs.legal 0x7000 1 = leAt own8 0 8 := by decide +kernel

theorem witness_MemoryReadsBack : (writeBytes [] 5 [1, 2]).wf = true := by decide
theorem steady_ac : Steady ac :=
  ⟨by show ac.mem.wf = true; decide +kernel, by decide +kernel, by unfold MopenOk; decide +kernel, by unfold FailSilentHolds Silent; decide +kernel,
    by unfold NoSleeper; decide +kernel, ⟨by decide +kernel, by decide +kernel, by decide +kernel⟩, by unfold VmodeLaw; decide +kernel⟩
theorem witness_StepKeepsSteady : Steady ac ∧ ∃ t, step ac = .next t := ⟨steady_ac, _, rfl⟩
theorem witness_LevelsAfterEveryCommand : ∃ t, exec (.wfi 3) ac = .next t := ⟨_, rfl⟩

-- one step each; the expected values are the spec's, named in each comment -----------------------------------------------------------

def nxt (o : Host.Outcome State Fault Refusal) : State := match o with | .next t => t | _ => State.reset
def u (n : Nat) : Word := BitVec.ofNat 32 n

/-- 01, the example after R29: SUP_FS_CAUSE is level 3, cause 0x02, block 0x41, cell 5 (the fields of R25). -/
theorem test_fs_cause_word : (chipError 0x02 0x41 5 ac).sup.fsCause = 0xC2410005_00000000 := by decide +kernel
/-- R27: the fourth error within an hour leaves the module held. -/
theorem test_fourth_restart_holds :
    let t := nxt (exec .autoRestart (su (fun x => { x with failSilent := true, autoRestarts := [1400000001, 1400000002, 1400000003] }) up))
    (t.sup.heldSilent, t.sup.failSilent) = (true, true) := by decide +kernel
/-- 02, the example after R76: B at epoch 41 takes 42, toggles, and its claim's mask is that of B and C. -/
theorem test_takeover_example :
    let b := peer .c (fun p => { p with role := some .reserve, present := true, heardAt := some 4999999000 })
      (peer .a (fun p => { p with present := true, role := some .active, toggling := true, heardAt := some 4999999000 })
        (peer .b (fun _ => {}) (hwm (fun h => { h with slot0 := true }) (pr (fun p => { p with epoch := 41, epochSeen := 41 }) sb))))
    let t := nxt (exec (.lossOfToggle .a) b)
    (mySlot b, t.pair.role, t.pair.epoch, t.pair.driving, t.pair.claimMembers) = (.b, .active, 42, true, 6) := by decide +kernel
/-- R57: a pulse shorter than 100 ns counts as a glitch and not as an edge. -/
theorem test_glitch : let t := nxt (exec (.damperEdge .b 99) ac); (t.pair.glitchCount, (peerOf t.pair .b).edges) = (1, 0) := by decide +kernel
/-- R54 and R67: an ACTIVE module that a claim message of a higher epoch leaves out enters FENCED with its line static. -/
theorem test_fenced : let t := nxt (exec (.claimFrame 0 (hd 12) { epoch := 12, slot := .b, reason := 1, members := 2, rept := 0, time := 0 }) ac)
    (t.pair.role, t.pair.driving, t.pair.fenceMark) = (.fenced, false, true) := by decide +kernel
/-- 15, the insertion example: the stored epoch 41 adopts 57 from the claim message that names the joiner. -/
theorem test_insertion_example :
    let j := pr (fun p => { p with role := .offline, sub := .none, epoch := 41, epochSeen := 41, armed := false, joinAt := some 4999999000 }) sb
    (nxt (exec (.claimFrame 0 (hd 57) { epoch := 57, slot := .b, reason := 4, members := 3, rept := 0, time := 0 }) j)).pair.epoch = 57 := by decide +kernel
/-- R97: DMP_ARM takes effect in machine mode and with its key only. -/
theorem test_dmp_arm : ((nxt (exec (.dmpArm .m 0xA5C30001) (pr (fun p => { p with armed := false }) sb))).pair.armed,
    (nxt (exec (.dmpArm .s 0xA5C30001) (pr (fun p => { p with armed := false }) sb))).pair.armed) = (true, false) := by decide +kernel
/-- R120: a frame that fails its check is counted and has no other effect. -/
theorem test_flue_discard : let t := nxt (exec (.flueFrameDiscard 1 .crc .b) ac); (t.flu.lane1.crcErr, t.flu.lane0.crcErr) = (1, 0) := by decide +kernel
/-- R110: two digests of one instance that differ are latched, and the task's twin execution ends. -/
theorem test_divergence : let t := nxt (exec (.digestFrame 0 (hd 9) (dg 5 0)) (fq (fun f => { f with own := [{ p := dg 6 0, at_ := 3 }] }) (tw ac)))
    (t.flu.divTask, t.flu.divInst, t.flu.digLocal, t.flu.digPeer, t.flu.syncTasks) = (2, 7, 6, 5, 0) := by decide +kernel
/-- 17, its example: rule 8 drops the first DIGEST on lane 0 and HITS becomes 1. -/
theorem test_digest_dropped :
    let s := mnt (fun m => { m with comm := true, running := true, rules := putAt m.rules 8 { cfg := 0x84000300, sel := 3 } }) ac
    let t := laneSend 0 ⟨hd 9, .digest (dg 5 0)⟩ s
    ((t.mnt.rules.getD 8 {}).hits, (laneOf t.flu 0).out) = (1, []) := by decide +kernel
/-- R154: a thread that ends while another runs leaves the instance in flight; the last one starts the commit. -/
theorem test_done : let t := nxt (exec (.cycDone 1 .m 0x0200 []) (fl id)); let v := nxt (exec (.cycDone 2 .m 0x0200 []) t)
    ((taskOf t 2).threads, (taskOf t 2).st, (taskOf v 2).threads, (taskOf v 2).st) = (4, 3, 0, 4) := by decide +kernel
/-- R155 and 04's example: policy EXTEND moves the deadline by one period and skips the next instance. -/
theorem test_extend : let k := taskOf (nxt (exec (.deadlineMiss 2) (fl (fun k => { k with pol := 1, dueAt := 600000 })))) 2
    (k.inFlight, k.extended, k.skipNext, k.dueAt) = (true, true, 1, 1600000) := by decide +kernel
/-- R172: a write of ones to CYC_TASK_FAULT clears those faults. -/
theorem test_fault_clear : (nxt (exec (.cycFaultClear .m 6 0) (cyw (fun c => { c with taskFault := 7 }) ac))).cyc.taskFault = 1 := by decide +kernel
/-- R177: migrations above the swap bound are refused at the end of measuring with 0x2307. -/
theorem test_swap_refused : let t := nxt (exec .measuringEnd (ch (fun c => { c with st := .measuring, measured := 2000, new := some prg }) ac))
    (t.chg.st, t.chg.lastAbort) = (.refused, 0x2307) := by decide +kernel
/-- R202 and FPT_FCSERR: a frame with a wrong FCS counts there. -/
theorem test_fcs : let t := nxt (exec (.folmonetFrameDiscard 1 .fcs 7) (prt (fun p => { p with up := true }) ac))
    ((t.fol.cnts.getD 1 {}).fcsErr, (t.fol.cnts.getD 1 {}).rx) = (1, 0) := by decide +kernel
/-- R212: the input data of a station lands at its place of the receive copy. -/
theorem test_input : readBytes (nxt (exec (.stationInput 1 (fh 8) inp) (sta id))).mem (rxBase + 0x100) 5 = [5, 6, 7, 8, 0] := by decide +kernel
/-- R241: the request door takes the next number in machine mode, and refuses another. -/
theorem test_req_door : ((nxt (exec (.reqDoor (.core 2) .m 1) cb)).cord.busy, (nxt (exec (.reqDoor (.core 2) .m 2) cb)).cord.busy) = (true, false) := by decide +kernel
/-- 07, the example after R264: entry 9,409 of the trail, byte for byte as its table gives it, without PREV and the time. -/
theorem test_audit_entry_example :
    let s := aud (fun a => { a with used := 9408, sealNo := 417 }) (cor (fun c => { c with legalId := [0x3A, 0x7C, 0x91, 0xF0], sess := some { handle := 1, slot := 2, actor := 2 } })
      (chn 12 .test (leg (fun l => putLegal l 0x7184 2 2000) vs)))
    let t := nxt (exec (.objWrite (mq 0x718402 0 (le8 2500))) s)
    let a := entryAddr 9409
    (t.aud.used, t.aud.sealNo, leNat (readBytes t.mem a 4), leNat (readBytes t.mem (a + 60) 4)) = (9409, 418, 0x24C1, 0x5A17E7A1) ∧
      readBytes t.mem (a + 4) 2 ++ readBytes t.mem (a + 8) 4 ++ readBytes t.mem (a + 12) 3 = [0x01, 0x0C, 0xA2, 0x01, 0, 0, 0x84, 0x71, 0x02] ∧
      readBytes t.mem (a + 24) 16 = [0xD0, 7, 0, 0, 0, 0, 0, 0, 0xC4, 9, 0, 0, 0, 0, 0, 0] ∧ readBytes t.mem (a + 44) 4 = [0x3A, 0x7C, 0x91, 0xF0] := by
  decide +kernel
/-- R248: the opened switch ends verification mode and the session at once. -/
theorem test_switch_opens : let t := nxt (exec (.verificationSwitchChange false) vs); (t.cord.vmode, t.cord.sess, t.cord.changes) = (false, none, 1) := by decide +kernel
/-- R288: ties go toward positive infinity, with e = 20. -/
theorem test_round_half_up : (roundTo (fOfInt 41230) 20, roundTo (fOfInt 41229) 20, roundTo (fOfInt (-10)) 20) = (some 41240, some 41220, some 0) := by decide +kernel
/-- R286: a zero on an unstable channel is answered with result 1 and changes no zero. -/
theorem test_zero_unstable : let c := scCh (nxt (exec (.zero 4) (sc 1 1 0 (fun c => { c with stable := false })))) 6
    (c.cresult, c.cseq, c.z == fOfInt 10) = (1, 5, true) := by decide +kernel
/-- R287: a tare of 60 is the gross value (70 less the zero of 10) rounded to the tare interval. -/
theorem test_tare : (scCh (nxt (exec (.semiAutomaticTare 4) (sc 1 2 0 id))) 6).tare = 60 := by decide +kernel
/-- R325, step 5: a write by a session below the entry's level is refused with 0x0603. -/
theorem test_level_refused : checkAccess (writer 0x1710 2 (q [])) true [0x0E, 0x10] (opn 2 ac) = 0x0603 := by decide +kernel
/-- R320: a session ends with its connection. -/
theorem test_connection_end : let t := nxt (exec (.serviceConnectionEnd 3) (opn 2 ac)); (t.od.conns, t.od.sessions.length) = ([], 0) := by decide +kernel
/-- R351: the loss of the crystal holds the module with its regions in reset, LASTFAIL 1. -/
theorem test_clock_hold : let t := nxt (exec (.clockSourceFailure .xt1) ac)
    (t.pair.role, t.pair.driving, t.sup.kilnHeld, t.clk.lastFail) = (.clockHold, false, true, 1) := by decide +kernel
/-- R356: the increment of 10's example lies within the hardware's clamp and stands as written; only M mode writes it. -/
theorem test_increment_example : ((nxt (exec (.timIncr .m 0x7FFF97247) ac)).tim.incr, (nxt (exec (.timIncr .s 0x7FFF97247) ac)).tim.incr) =
    (0x7FFF97247, ac.tim.incr) := by decide +kernel
/-- R355: the trim moves by one step towards 48 MHz when a window misses it by more than four counts. -/
theorem test_trim : let f (n : Nat) := fld (nxt (exec (.fircTrimWindow n) (ck (fun c => { c with trim := 0x40000005 }) ac))).clk.trim 0 10
    (f 47995, f 47996, f 48004, f 48005) = (6, 5, 5, 4) := by decide +kernel
/-- R372: the durable count follows the commit record, which stands in the log segment. -/
theorem test_durable : let t := nxt (exec .commitDurable (jr (fun j => { j with segs := sg0, logSeg := some 5, pending := [pd true] }) ac))
    (t.jrn.durable, (t.jrn.segs.getD 5 {}).recs.length, t.jrn.pending.length) = (1, 2, 0) := by decide +kernel
/-- R386: the 65th waiting event is lost and counted. -/
theorem test_event_lost : let t := nxt (exec (.eventPosting 2 .s 0x123) (ev (fun e => { e with queue := List.replicate 64 { code := 9, block := 0, cont := false, data := [] } }) ac))
    (t.evr.queue.length, t.evr.lost) = (64, 1) := by decide +kernel
/-- R382: record s lies at slot s mod 131,072 and begins with its number and its code. -/
theorem test_event_record : let t := nxt (exec .eventRecordWritten (ev (fun e => { e with queue := [{ code := 0x123, block := 0, cont := false, data := [] }], head := 131075 }) ac))
    (leNat (readBytes t.mem (0x3C000000 + 96) 6), leNat (readBytes t.mem (0x3C000000 + 102) 2), t.evr.head) = (131075, 0x123, 131076) := by decide +kernel
/-- 12, its example: the narrowed rule 1.1 comes into force with epoch 0x2B; another number than the next is ignored. -/
theorem test_gate_example :
    let s := gt (fun g => { g with epoch := 0x2A, active := putAt g.active 17 { addr := 0x83F000018, perm := 0x80000600 }, staged := putAt g.staged 17 { addr := 0x83F000017, perm := 0x80000600 } }) ac
    let t := nxt (exec (.gateCommit .m 0x2B) s)
    (t.gate.epoch, (t.gate.active.getD 17 {}).addr, (nxt (exec (.gateCommit .m 0x2D) s)).gate.epoch) = (0x2B, 0x83F000017, 0x2A) := by decide +kernel
/-- R420 and 13's example: source 82 is bit 18 of word 2. -/
theorem test_doorbell_82 : fld (nxt (exec (.dicDoorbell 82) ac)).dic.pend 64 32 = 0x00040000 := by decide +kernel
/-- R435: a sleep asked for outside RESERVE is refused with result 4. -/
theorem test_sleep_refused : let t := nxt (exec (.embSleep 0 .m 0xE3B00001) ac); (t.emb.state, t.emb.result) = (.run, 4) := by decide +kernel
/-- R452 and 14's example: the trip of group 0 switches output 0 off first; the others follow one slot at a time. -/
theorem test_trip_example : let s := li (fun l => { l with latch := 0x0B }) lg
    let t := nxt (exec (.supplyTrip 0 1600) s)
    ((lioGroup t.lio 0).st, (lioGroup t.lio 0).nextOff, bit (nxt (exec (.tripSwitchOff 0 0) t)).lio.off 0, bit (nxt (exec (.tripSwitchOff 0 0) t)).lio.off 1) =
      (.tripped, 0, true, false) := by decide +kernel
/-- R472: power fail ends the module's drive at once and leaves its claim epoch. -/
theorem test_power_fail : let t := nxt (exec .powerFail ac); (t.pair.driving, t.hw.powerDown, t.pair.epoch) = (false, true, 9) := by decide +kernel
/-- R518: a discard empties the staging area. -/
theorem test_update_discard : let t := nxt (exec (.updateDiscard (q [3])) (up_ (fun u => { u with staged := img, st := .failed }) off))
    (t.upd.st, t.upd.staged) = (.idle, []) := by decide +kernel
/-- 0x280B and R520: a selected slot that holds a key is not written over; RESULT is 1, refused. -/
theorem test_slot_in_use : let t := nxt (exec .ksCmdEnrol (ks (putKsData (enr 9 2)) (ks (fun k => { k with sel := 0x1006 }) (crd 6 1 off))))
    (t.ks.result, t.ks.creds.length) = (1, 1) := by decide +kernel
/-- R511: zeroising drops the device key and the key records, and keeps the credentials. -/
theorem test_zeroise : let t := nxt (exec .ksCmdZeroise (ks (fun k => { k with dev := some 0 }) (crd 6 1 off)))
    (t.ks.dev, t.ks.creds.length, t.ks.zeroised) = (none, 1, true) := by decide +kernel
/-- The check value of CRC-32C over the nine digits, from its definition (log 5). -/
theorem test_crc32c : crc32c [0x31, 0x32, 0x33, 0x34, 0x35, 0x36, 0x37, 0x38, 0x39] = 0xE3069283#32 := by decide +kernel
/-- The queue: the front command runs, the rest waits. -/
theorem test_queue : (nxt (step { ac with pending := [.wfi 3, .wfi 4] })).pending = [.wfi 4] := by decide +kernel
/-- The opcode table gives no bits, so no word spells a command. -/
theorem test_no_words : decodeTableWord 32 0 = none := rfl

-- well-formedness: one ill-formed command for each check ------------------------------------------------------------------------------

def bus (m : Master) (a n : Nat) (d : List Byte) : BusReq := { master := m, level := .m, op := .write, addr := a, len := n, data := d, cell := .none, busy := false }
def long (n : Nat) : List Byte := List.replicate n 0
/-- Each command breaks one check of `wellFormed`. -/
def bad : List Instr := [
  .busRequest (bus (.core 8) 0 1 [0]), .busRequest (bus (.port 4) 0 1 [0]), .busRequest (bus (.flue 2) 0 1 [0]), .busRequest (bus (.core 0) 0 0 []),
  .busRequest (bus (.core 0) 0 65 (long 65)), .busRequest (bus (.port 0) 0 257 (long 257)), .busRequest (bus (.core 0) 60 8 (long 8)),
  .busRequest (bus (.port 0) (2 ^ 36 - 1) 2 (long 2)), .busRequest (bus (.core 0) 0 2 [0]), .supFailSilent 8 .m 0, .startWindowClose 4,
  .statusFrame 2 (hd 9) { role := .active, sub := .none, key := .run, flags := 0, beat := 0, beatTime := 0, progid := 0 },
  .imageFrame 0 (hd 9) { task := 80, part := 0, parts := 1, inst := 0, offset := 0, body := [] },
  .imageFrame 0 (hd 9) { task := 0, part := 1, parts := 1, inst := 0, offset := 0, body := [] },
  .imageFrame 0 (hd 9) { task := 0, part := 0, parts := 65536, inst := 0, offset := 0, body := [] },
  .imageFrame 0 (hd 9) { task := 0, part := 0, parts := 1, inst := 0, offset := 0, body := long 1465 },
  .digestFrame 0 (hd 9) { dg 5 0 with task := 80 }, .digestFrame 0 (hd 9) (dg 5 4), .relayOutFrame 0 (hd 9) [{ port := 4, flags := 0, toff := 0, frame := [] }],
  .relayInFrame 0 (hd 9) [{ port := 0, flags := 0, toff := 0, frame := long 1500 }], .relayOutTransmit 4 true,
  .claimFrame 0 (hd 9) { epoch := 9, slot := .b, reason := 0, members := 3, rept := 0, time := 0 },
  .claimFrame 0 (hd 9) { epoch := 9, slot := .b, reason := 6, members := 3, rept := 0, time := 0 },
  .claimFrame 0 (hd 9) { epoch := 9, slot := .b, reason := 1, members := 3, rept := 9, time := 0 },
  .joinFrame 0 (hd 9) { slot := .b, epoch := 9, progid := 0, pairCompat := 0, legalId := long 33, legalCfg := [], holders := [] },
  .joinFrame 0 (hd 9) { slot := .b, epoch := 9, progid := 0, pairCompat := 0, legalId := [], legalCfg := [], holders := List.replicate 4 (1, .b, 0) },
  .promoteToStandby 0 (hd 9) { target := .a, action := 2, epoch := 9 }, .resyncDataFrame 0 (hd 9) { addr := 0, data := long 1473 },
  .resyncDataFrame 0 (hd 9) { addr := 2 ^ 36, data := [] }, .resyncCtrlFrame 0 (hd 9) { phase := 1, task := 80, arg := 0, beat := 0 },
  .kindleGo 0 (hd 9) { kp 0 with data := long 1457 }, .objwriteAck 0 (hd 9) (pp 0 0 0 0 []), .objwriteAck 0 (hd 9) (pp 6 0 0 0 []),
  .objwriteApply 0 (hd 9) (pp 1 0 0 0 [{ index := 0, sub := 0, typ := 0, value := long 1500 }]), .slotCForward 2 fl1,
  .slotCForward 0 ⟨hd 9, .promote { target := .a, action := 2, epoch := 9 }⟩, .imageLagTimeout 80, .cycDone 0 .m 0 [{ offset := 0, data := [] }],
  .cycWdog 8 .m 0, .kindleData (msg 0 0 (long 32769)) (q []), .portUp 4, .folmonetFrameDiscard 0 .fcs 2048, .stationInput 0 { fh 8 with seg := 4 } inp,
  .stationInput 0 { fh 8 with station := 2048 } inp, .stationInput 0 (fh 8) { inp with data := long 1465 },
  .probeResp 0 { station := 2048, epoch := 0, fromEnd := 0, roundTrip := 0, turnaround := 0, typeid := 0, cfgid := 0, serial := 0 },
  .probeResp 0 { station := 0, epoch := 0, fromEnd := 2, roundTrip := 0, turnaround := 0, typeid := 0, cfgid := 0, serial := 0 },
  .stationAbsent 2048, .segmentStart 4 (.reg (.core 0) .m 0), .segmentStart 0 (.reg (.core 8) .m 0), .reqDoor (.core 8) .m 0, .ident (mq 0 0 (long 32481)),
  .legalIdRecheck [], .statusRepublish 2, .zero 128, .sessionOpen (.folmonet 4 0 0) 0 0, .sessionOpen (.folmonet 0 2048 0) 0 0, .sessionOpen (.folmonet 0 0 2) 0 0,
  .sessionProve (.service 0) 0 0 0 [], .sessionClose (.service 0) 0 65536, .restore { q [] with session := 65536 },
  .hostwrite 0 (.service 0) 0 [{ symid := 0, value := long 65536 }], .eventPosting 3 .m 0, .dicDoorbell 1024, .dicRelRead 8, .wakeCondition (.watch 32),
  .supplyLow 2 0, .tripSwitchOff 0 4, .currentLimitLong 8, .reorderHoldExpiry 12, .registerWrite (.core 0) .m 2 false 0, .stationWriteResp 2048 0 0 0]
theorem test_ill_formed_refused : bad.all (fun c => !wellFormed c) = true := by decide +kernel
theorem test_well_formed : [Instr.busRequest (bus (.core 7) 64 64 (long 64)), .supFailSilent 7 .m 0, .imageFrame 1 (hd 9) { task := 79, part := 0, parts := 1, inst := 0, offset := 0, body := long 1464 },
    .zero 127, .stationInput 3 { fh 8 with seg := 3, station := 0xFFFF } inp, .registerWrite (.core 0) .m 4 true 0].all wellFormed = true := by decide +kernel

end Sys2Proof.Tests
end

/-! PROOF. Architecture (01): the request to go fail-silent (R28) and the reload of the Rick processor (R33). -/

namespace Sys2Proof.Laws

open Sys2Proof Sys2Proof.Machine Sys2Proof.Safety

-- the fields of a fault word (R39) -------------------------------------------------------------------------------------------

/-- The low bits of a register are its lowest field. -/
theorem setWidth_eq_iff_fld {n k : Nat} (w : BitVec n) (v : BitVec k) : w.setWidth k = v ↔ fld w 0 k = v.toNat := by
  rw [BitVec.toNat_eq, BitVec.toNat_setWidth, fld, Nat.shiftRight_zero]

/-- A fault word's bits in the upper half of a register stand 32 bits higher. -/
theorem fld_upper (w : Word) (lo len : Nat) : fld (w.setWidth 64 <<< 32) (32 + lo) len = fld w lo len := by
  have h : (w.setWidth 64 <<< 32).toNat = w.toNat <<< 32 := by
    rw [BitVec.toNat_shiftLeft, BitVec.toNat_setWidth, Nat.mod_eq_of_lt (a := w.toNat) (by omega)]
    exact Nat.mod_eq_of_lt (by rw [Nat.shiftLeft_eq]; omega)
  rw [fld, h, Nat.shiftRight_add, Nat.shiftLeft_shiftRight, fld]

/-- The fields of a fault word do not overlap, so they add up. -/
theorem faultWord_toNat (level cause : Nat) (block : Byte) (cell : Nat) :
    (faultWord level cause block cell).toNat = level % 4 * 2 ^ 30 + (cause % 64 * 2 ^ 24 + (block.toNat * 2 ^ 16 + cell % 65536)) := by
  have hb : block.toNat < 2 ^ 8 := block.isLt
  have hcell : cell % 65536 < 2 ^ 16 := Nat.mod_lt _ (by decide)
  have hblock : block.toNat <<< 16 + cell % 65536 < 2 ^ 24 := by rw [Nat.shiftLeft_eq]; omega
  have hcause : (cause % 64) <<< 24 + (block.toNat <<< 16 + cell % 65536) < 2 ^ 30 := by
    rw [Nat.shiftLeft_eq (cause % 64)]; omega
  simp only [faultWord, pack, List.foldl, Nat.zero_or, Nat.shiftLeft_zero, Nat.lor_assoc]
  rw [← Nat.shiftLeft_add_eq_or_of_lt hcell, ← Nat.shiftLeft_add_eq_or_of_lt hblock, ← Nat.shiftLeft_add_eq_or_of_lt hcause]
  simp only [Nat.shiftLeft_eq, BitVec.toNat_ofNat]
  omega

theorem faultWord_level (level cause : Nat) (block : Byte) (cell : Nat) : fld (faultWord level cause block cell) 30 2 = level % 4 := by
  have hb : block.toNat < 2 ^ 8 := block.isLt
  rw [fld, faultWord_toNat, Nat.shiftRight_eq_div_pow]; omega

theorem faultWord_cause (level cause : Nat) (block : Byte) (cell : Nat) : fld (faultWord level cause block cell) 24 6 = cause % 64 := by
  have hb : block.toNat < 2 ^ 8 := block.isLt
  rw [fld, faultWord_toNat, Nat.shiftRight_eq_div_pow]; omega

theorem faultWord_block (level cause : Nat) (block : Byte) (cell : Nat) :
    fld (faultWord level cause block cell) 16 8 = block.toNat := by
  have hb : block.toNat < 2 ^ 8 := block.isLt
  rw [fld, faultWord_toNat, Nat.shiftRight_eq_div_pow]; omega

theorem faultWord_cell (level cause : Nat) (block : Byte) (cell : Nat) :
    fld (faultWord level cause block cell) 0 16 = cell % 65536 := by
  rw [fld, faultWord_toNat, Nat.shiftRight_zero]; omega

-- fail-silent (R25, R28) -------------------------------------------------------------------------------------------------------

/-- The first error that passes to the chip makes the module fail-silent. -/
theorem chipError_loud {s : State} (h : s.sup.failSilent = false) (cause : Nat) (block : Byte) (cell : Nat) :
    chipError cause block cell s = failSilent cause block cell s := by simp [chipError, h]

@[simp] theorem failSilent_fsCause (cause : Nat) (block : Byte) (cell : Nat) (s : State) :
    (failSilent cause block cell s).sup.fsCause = (faultWord 3 cause block cell).setWidth 64 <<< 32 := rfl

/-- The levels of a fail-silent module: it drives nothing, Kiln, Rick and Cord are held in reset. -/
theorem settle_failSilentHolds (s : State) : FailSilentHolds (settle s) := by
  intro h
  have hs : s.sup.failSilent = true := by simpa using h
  simp [settle, hs, Silent, silence]

/-- The machine mode's write of the key is an error that passes to the chip. -/
theorem supFailSilent_key (core : Nat) {level : Level} {word : Word} (s : State) (h : level = .m ∧ word.setWidth 16 = 0xD1E5#16) :
    supFailSilent core level word s = chipError 0x07 0x05 core s :=
  if_pos ⟨h.1, (setWidth_eq_iff_fld word _).mp h.2⟩

/-- Every other write is ignored. -/
theorem supFailSilent_ignored (core : Nat) {level : Level} {word : Word} (s : State)
    (h : level ≠ .m ∨ word.setWidth 16 ≠ 0xD1E5#16) : supFailSilent core level word s = s := by
  refine if_neg ?_
  rintro ⟨hlevel, hkey⟩
  exact h.elim (· hlevel) (· ((setWidth_eq_iff_fld word _).mpr hkey))

-- the reload of the Rick processor (R33) -------------------------------------------------------------------------------------

/-- In OFFLINE and UPDATE the NOR's image is checked and runs, or has failed to load. -/
theorem rickReload_taken {s : State} (h : s.pair.role = .offline ∨ s.pair.role = .update) :
    rickReload s =
      (if imageCheck s 2 false (norHeader s 2) (norBody s 2) = 0
        then setFw 2 (fwOf (norHeader s 2)) { s with sup := { s.sup with rickUp := true } }
        else componentFailed 2 { s with sup := { s.sup with rickUp := false } }, 0) := by
  unfold rickReload
  rw [if_neg (by tauto)]
  by_cases hc : imageCheck s 2 false (norHeader s 2) (norBody s 2) = 0
  · rw [if_pos hc]; exact if_neg (not_not.mpr hc)
  · rw [if_neg hc]; exact if_pos hc

/-- In every other role the reload is refused and does nothing. -/
theorem rickReload_refused {s : State} (h : s.pair.role ≠ .offline ∧ s.pair.role ≠ .update) : rickReload s = (s, 0x2107) := if_pos h

/-- The answer on service path 0 to a reload request. -/
def rickAnswer (tid : Byte) (op : Byte) (code : Nat) : OutMsg :=
  .reply (.service 0)
    { op := op, tid := tid, index := 0, sub := 0, sflags := 0, session := 0, arg := BitVec.ofNat 32 code, data := [] }

/-- A live runtime reloads and answers: done, or the abort code. -/
theorem exec_rickResetReload {s : State} (tid : Byte) (h : runtimeLive s = true) :
    exec (.rickResetReload tid) s =
      .next (settle (send (rickAnswer tid (if (rickReload s).2 = 0 then 4 else 5) (rickReload s).2) (rickReload s).1)) := by
  change finish (if !runtimeLive s then s else _) = _
  rw [h]; rfl

end Sys2Proof.Laws

namespace Sys2Proof.Proofs

open Sys2Proof Sys2Proof.Machine Sys2Proof.Safety Sys2Proof.Laws

/-- Settles O3: the key's write is the chip-level error of R25 with the cause word of R28; any other write leaves the state as it is. -/
theorem failSilentRequest : Obligations.FailSilentRequest := by
  intro core level word s hrun hcore
  constructor
  · intro hkey
    have hexec : exec (.supFailSilent core level word) s = .next (settle (failSilent 0x07 0x05 core s)) := by
      rw [← chipError_loud hrun.loud, ← supFailSilent_key core s hkey]; rfl
    have hfs : (settle (failSilent 0x07 0x05 core s)).sup.failSilent = true := settle_sup_failSilent _
    have hword : (settle (failSilent 0x07 0x05 core s)).sup.fsCause = (faultWord 3 0x07 0x05 core).setWidth 64 <<< 32 := by simp
    obtain ⟨hsilent, hkiln, hrick, hcord⟩ := settle_failSilentHolds _ hfs
    refine ⟨_, hexec, ?levelField, ?causeField, ?blockField, ?cellField, hfs, hkiln, hrick, hcord, ?drain, hsilent, ?unchanged⟩
    case levelField => rw [hword, fld_upper _ 30, faultWord_level]
    case causeField => rw [hword, fld_upper _ 24, faultWord_cause]
    case blockField => rw [hword, fld_upper _ 16, faultWord_block]; rfl
    case cellField => rw [hword, fld_upper _ 0, faultWord_cell]; exact Nat.mod_eq_of_lt (by omega)
    case drain => simp [failSilent]
    case unchanged => simp [failSilent]
  · intro hother
    calc exec (.supFailSilent core level word) s
      _ = .next (settle (supFailSilent core level word s)) := rfl
      _ = .next { s with dic := leaveIdle s.dic } := by rw [supFailSilent_ignored core s hother, settle_loud hrun.loud]

/-- Settles O5: by the role, the request is taken with the NOR's image checked, or refused. -/
theorem rickReload : Obligations.RickReload := by
  intro tid s hrun
  constructor
  · intro hrole
    rw [exec_rickResetReload tid (running_runtimeLive hrun), rickReload_taken hrole]; rfl
  · intro hrole
    rw [exec_rickResetReload tid (running_runtimeLive hrun), rickReload_refused hrole,
      settle_loud (s := send _ s) hrun.loud]; rfl

end Sys2Proof.Proofs

/-! PROOF. Pair roles and claims (02): MAKE_OFFLINE and the outcome of a command in PAIR_CMD_STATUS (R92, R94). -/

namespace Sys2Proof.Laws

open Sys2Proof Sys2Proof.Machine Sys2Proof.Safety

-- the outcome of a command (R94) ---------------------------------------------------------------------------------------------

@[simp] theorem pairInt_pair (b : Nat) (s : State) :
    (pairInt b s).pair = { s.pair with intStatus := setBit s.pair.intStatus b } := by
  unfold pairInt; simp

@[simp] theorem pairInt_flu (b : Nat) (s : State) : (pairInt b s).flu = s.flu := by
  unfold pairInt; simp

/-- A command other than SWITCHOVER that meets no refusal is done. -/
theorem cmdStatus_done {cmd : Nat} (h : cmd ≠ 1) (s : State) :
    cmdStatus cmd (s, 0) =
      (pairInt 0 { s with pair := { s.pair with cmdLast := BitVec.ofNat 8 cmd, cmdState := 2, cmdAbort := 0 } }, 0) := by
  simp [cmdStatus, h]

/-- A command other than SWITCHOVER that is refused keeps the code and posts nothing. -/
theorem cmdStatus_refused {cmd code : Nat} (h : cmd ≠ 1) (hc : code ≠ 0) (s : State) :
    cmdStatus cmd (s, code) =
      (pairInt 0 { s with pair := { s.pair with cmdLast := BitVec.ofNat 8 cmd, cmdState := 3, cmdAbort := BitVec.ofNat 16 code } },
        code) := by
  simp [cmdStatus, h, hc]

-- leaving the executing roles ------------------------------------------------------------------------------------------------

@[simp] theorem releaseToken_flu (p : Holder → Bool) (s : State) : (releaseToken p s).flu = s.flu := by
  unfold releaseToken
  refine List.foldlRecOn (motive := fun t : State => t.flu = s.flu) _ _ rfl ?_
  intro t ht _ _
  rw [post_flu, ht]

@[simp] theorem endChange_flu (st : ChgSt) (code : Nat) (s : State) : (endChange st code s).flu = s.flu := by
  simp [endChange, chgPost, trackOff]

@[simp] theorem leaveChange_flu (s : State) : (leaveChange s).flu = s.flu := rfl

@[simp] theorem leaveRoles_role (s : State) : (leaveRoles s).pair.role = .offline := rfl

/-- The twin of a module that leaves ends, the divergences it has counted do not. -/
@[simp] theorem leaveRoles_divLife (s : State) : (leaveRoles s).flu.divLife = s.flu.divLife := by
  change (if changeIdle s then s else if s.pair.role = .active then endChange .abandoned 0 s else leaveChange s).flu.divLife = _
  split
  · rfl
  · split
    · rw [endChange_flu]
    · rw [leaveChange_flu]

-- MAKE_OFFLINE (R92) -----------------------------------------------------------------------------------------------------------

/-- An ACTIVE unit with a standby refuses and stays as it is. -/
theorem makeOffline_refused {s : State} (h : s.pair.role = .active ∧ (standbySlot s).isSome = true) :
    makeOffline s = (s, 0x2203) := if_pos h

/-- The state that an accepted MAKE_OFFLINE leaves, before its outcome is noted: a fence mark still goes to the claim record. -/
def takenOffline (s : State) : State :=
  let t := clearDivergence (leaveRoles s)
  { t with pair := { t.pair with fenceMark := false, recBusy := t.pair.recBusy || s.pair.fenceMark } }

/-- Every other unit accepts. -/
theorem makeOffline_accepted {s : State} (h : ¬ (s.pair.role = .active ∧ (standbySlot s).isSome = true)) :
    makeOffline s = (takenOffline s, 0) := if_neg h

@[simp] theorem takenOffline_role (s : State) : (takenOffline s).pair.role = .offline := leaveRoles_role s

theorem takenOffline_divergence (s : State) :
    (takenOffline s).flu.divHold = false ∧ (takenOffline s).flu.divTimes = [] ∧ (takenOffline s).flu.divLife = s.flu.divLife :=
  ⟨rfl, rfl, leaveRoles_divLife s⟩

/-- The runtime of a running module carries out PAIR_CMD 2 and notes its outcome. -/
theorem exec_makeOffline_reg {s : State} (m : Master) (h : Running s) :
    exec (.makeOffline (.reg m .m 0xC1A10002#32)) s = .next (settle (cmdStatus 2 (makeOffline s)).1) := by
  have hcmd : pairCmd .m 0xC1A10002#32 s = (cmdStatus 2 (makeOffline s)).1 :=
    if_neg (by simp [fld, running_runtimeLive h, running_rickLive h])
  calc exec (.makeOffline (.reg m .m 0xC1A10002#32)) s
    _ = .next (settle (pairCmd .m 0xC1A10002#32 s)) := rfl
    _ = .next (settle (cmdStatus 2 (makeOffline s)).1) := by rw [hcmd]

end Sys2Proof.Laws

namespace Sys2Proof.Proofs

open Sys2Proof Sys2Proof.Machine Sys2Proof.Safety Sys2Proof.Laws

/-- Settles O12: an ACTIVE unit with a standby refuses with its state kept; any other leaves its role and clears the divergence. -/
theorem makeOfflineRule : Obligations.MakeOfflineRule := by
  intro m s hrun
  constructor
  · intro hpaired
    rw [exec_makeOffline_reg m hrun, makeOffline_refused hpaired, cmdStatus_refused (by decide) (by decide)]; rfl
  · intro hfree
    obtain ⟨hhold, htimes, hlife⟩ := takenOffline_divergence s
    refine ⟨_, exec_makeOffline_reg m hrun, ?_⟩
    rw [makeOffline_accepted hfree, cmdStatus_done (by decide)]
    simp [hhold, htimes, hlife]

end Sys2Proof.Proofs

/-! PROOF. Interrupts and power states (13): a read of DIC_CLAIMt (R426), by way of a core's register read (R9, R396). -/

namespace Sys2Proof.Laws

open Sys2Proof Sys2Proof.Machine Sys2Proof.Safety

-- the fields of a claim word (R426) ------------------------------------------------------------------------------------------

/-- DIC_CLAIMt with VALID set. -/
def claimWord (prio src : Nat) : Word := pack 32 [(31, 1), (16, prio), (0, src)]

/-- Its fields do not overlap, so they add up. -/
theorem claimWord_toNat {prio src : Nat} (hp : prio < 16) (hs : src < 1024) :
    (claimWord prio src).toNat = 2 ^ 31 + (prio * 2 ^ 16 + src) := by
  have hsrc : src < 2 ^ 16 := by omega
  have hprio : prio <<< 16 + src < 2 ^ 31 := by rw [Nat.shiftLeft_eq]; omega
  simp only [claimWord, pack, List.foldl, Nat.zero_or, Nat.shiftLeft_zero, Nat.lor_assoc]
  rw [← Nat.shiftLeft_add_eq_or_of_lt hsrc, ← Nat.shiftLeft_add_eq_or_of_lt hprio]
  simp only [Nat.shiftLeft_eq, BitVec.toNat_ofNat]
  omega

theorem claimWord_valid {prio src : Nat} (hp : prio < 16) (hs : src < 1024) : bit (claimWord prio src) 31 = true := by
  rw [bit, claimWord_toNat hp hs, Nat.testBit_eq_decide_div_mod_eq, decide_eq_true_eq]; omega

theorem claimWord_prio {prio src : Nat} (hp : prio < 16) (hs : src < 1024) : fld (claimWord prio src) 16 4 = prio := by
  rw [fld, claimWord_toNat hp hs, Nat.shiftRight_eq_div_pow]; omega

theorem claimWord_src {prio src : Nat} (hp : prio < 16) (hs : src < 1024) : fld (claimWord prio src) 0 10 = src := by
  rw [fld, claimWord_toNat hp hs, Nat.shiftRight_zero]; omega

-- the scan for the claimed source (R426) ----------------------------------------------------------------------------------------

/-- PRIO of a source. -/
def prioOf (d : Dic) (src : Nat) : Nat := fld (routeOf d src) 8 4

theorem prioOf_lt (d : Dic) (src : Nat) : prioOf d src < 16 := Nat.mod_lt _ (by decide)

/-- One source's turn in the scan: a deliverable source takes the place of one of lower priority, or of none. -/
def claimStep (d : Dic) (t : Nat) (best : Option (Nat × Nat)) (src : Nat) : Option (Nat × Nat) :=
  if deliverable d t src then
    match best with
    | some (q, _) => if q < prioOf d src then some (prioOf d src, src) else best
    | none => some (prioOf d src, src)
  else best

/-- What the scan of the sources below `n` has found: priority and number. -/
def claimScan (d : Dic) (t n : Nat) : Option (Nat × Nat) := (List.range n).foldl (claimStep d t) none

theorem claimScan_succ (d : Dic) (t n : Nat) : claimScan d t (n + 1) = claimStep d t (claimScan d t n) n := by
  simp [claimScan, List.range_succ]

/-- The word shows what the scan of all sources finds. -/
theorem claimOf_eq (d : Dic) (t : Nat) : claimOf d t = ((claimScan d t 1024).map fun b => claimWord b.1 b.2).getD 0 := by
  have hscan : claimOf d t = match claimScan d t 1024 with
      | some (p, src) => claimWord p src
      | none => 0 := by
    unfold claimOf claimScan
    generalize List.range 1024 = sources
    rfl
  rw [hscan]
  cases claimScan d t 1024 <;> rfl

/-- Of the sources below `n`, `src` comes first for target `t`: none deliverable has a higher priority, none of the same a lower number. -/
structure First (d : Dic) (t n src : Nat) : Prop where
  known : src < n
  delivers : deliverable d t src = true
  leads : ∀ x < n, deliverable d t x = true → prioOf d x < prioOf d src ∨ (prioOf d x = prioOf d src ∧ src ≤ x)

/-- What a scan of the sources below `n` may find: nothing where none is deliverable, or the first one with its priority. -/
inductive Finds (d : Dic) (t n : Nat) : Option (Nat × Nat) → Prop where
  | nothing (idle : ∀ x < n, deliverable d t x = false) : Finds d t n none
  | source {src : Nat} (first : First d t n src) : Finds d t n (some (prioOf d src, src))

/-- The next source takes the lead if all deliverable ones before it have lower priorities. -/
theorem First.of_lowerBefore {d : Dic} {t n : Nat} (hn : deliverable d t n = true)
    (hlow : ∀ x < n, deliverable d t x = true → prioOf d x < prioOf d n) : First d t (n + 1) n where
  known := Nat.lt_succ_self n
  delivers := hn
  leads x hx hdx := by
    obtain hlt | rfl := Nat.lt_succ_iff_lt_or_eq.mp hx
    · exact .inl (hlow x hlt hdx)
    · exact .inr ⟨rfl, le_rfl⟩

/-- The lead stands if the next source, where it is deliverable, has no higher priority: its number is higher. -/
theorem First.succ {d : Dic} {t n src : Nat} (h : First d t n src)
    (hn : deliverable d t n = true → prioOf d n ≤ prioOf d src) : First d t (n + 1) src where
  known := Nat.lt_succ_of_lt h.known
  delivers := h.delivers
  leads x hx hdx := by
    obtain hlt | rfl := Nat.lt_succ_iff_lt_or_eq.mp hx
    · exact h.leads x hlt hdx
    · obtain hless | heq := (hn hdx).lt_or_eq
      · exact .inl hless
      · exact .inr ⟨heq, h.known.le⟩

/-- A turn keeps the finding right. -/
theorem Finds.step {d : Dic} {t n : Nat} {best : Option (Nat × Nat)} (h : Finds d t n best) :
    Finds d t (n + 1) (claimStep d t best n) := by
  by_cases hn : deliverable d t n = true
  · cases h with
    | nothing idle =>
      have hstep : claimStep d t none n = some (prioOf d n, n) := if_pos hn
      exact hstep ▸ .source (First.of_lowerBefore hn fun x hx hdx => by simp [idle x hx] at hdx)
    | @source src first =>
      have hstep : claimStep d t (some (prioOf d src, src)) n =
          if prioOf d src < prioOf d n then some (prioOf d n, n) else some (prioOf d src, src) := if_pos hn
      rw [hstep]
      split
      case isTrue hlow => exact .source (First.of_lowerBefore hn fun x hx hdx => by have := first.leads x hx hdx; omega)
      case isFalse hhigh => exact .source (first.succ fun _ => not_lt.mp hhigh)
  · have hstep : claimStep d t best n = best := if_neg hn
    rw [hstep]
    cases h with
    | nothing idle =>
      refine .nothing fun x hx => ?_
      obtain hlt | rfl := Nat.lt_succ_iff_lt_or_eq.mp hx
      · exact idle x hlt
      · exact Bool.eq_false_of_not_eq_true hn
    | source first => exact .source (first.succ fun hdn => absurd hdn hn)

theorem claimScan_finds (d : Dic) (t n : Nat) : Finds d t n (claimScan d t n) := by
  induction n with
  | zero => exact .nothing fun x hx => absurd hx (Nat.not_lt_zero x)
  | succ n ih => rw [claimScan_succ]; exact ih.step

/-- With no source deliverable the word is 0; otherwise it names the first one. -/
theorem claimOf_cases (d : Dic) (t : Nat) :
    ((∀ x < 1024, deliverable d t x = false) ∧ claimOf d t = 0) ∨
      ∃ src, First d t 1024 src ∧ claimOf d t = claimWord (prioOf d src) src := by
  have hfinds := claimScan_finds d t 1024
  rw [claimOf_eq]
  generalize claimScan d t 1024 = found at hfinds
  cases hfinds with
  | nothing idle => exact .inl ⟨idle, rfl⟩
  | source first => exact .inr ⟨_, first, rfl⟩

-- a core's request on its way (R21, R24, R396, R402) ------------------------------------------------------------------------------

/-- With no request outstanding neither the limits nor the credits hold one back. -/
theorem mustWait_noneOutstanding {s : State} (h : s.bus.retries = []) (r : BusReq) : mustWait s r = false := by
  have hlimit : 0 < masterLimit r.master := by cases r.master <;> simp [masterLimit]
  have hcredits : 0 < creditsFor (masterRegion r.master) (targetRegion r.addr) := by unfold creditsFor; split <;> decide
  simp [mustWait, h, Nat.ne_of_gt hlimit, Nat.ne_of_gt hcredits]

/-- A request that stays within one page is one part. -/
theorem partsOf_onePage {a len : Nat} (h : a % 4096 + len ≤ 4096) : partsOf a len = [(a, len)] := by
  have hfirst : min len (4096 - a % 4096) = len := by omega
  simp [partsOf, hfirst]

/-- A request whose one part passes the Gate is offered to its target. -/
theorem checked_passed {r : BusReq} {level : Level} {s : State} (hpage : r.addr % 4096 + r.len ≤ 4096)
    (hpass : partCheck s r level (r.addr, r.len) = .pass) : checked r level s = offer r level s := by
  simp [checked, partsOf_onePage hpage, hpass]

/-- The read that a core makes of `len` bytes at `a` when nothing disturbs it. -/
def coreRead (c a len : Nat) : BusReq :=
  { master := .core c, level := .m, op := .read, addr := a, len := len, data := [], cell := .none, busy := false }

/-- A core's read within a page that passes the Gate is offered to its target. -/
theorem busRequest_coreRead {s : State} {c a len : Nat} (hrun : Running s) (hidle : s.bus.retries = []) (hlen : len ≠ 0)
    (hpage : a % 4096 + len ≤ 4096) (hpass : checkPart s.gate .m (tagOf s.gate (.core c)) .read a = .pass) :
    busRequest (coreRead c a len) s = offer (coreRead c a len) .m s := by
  have hlive : masterLive s (.core c) = true := by simp [masterLive, hrun.kiln]
  calc busRequest (coreRead c a len) s
    _ = checked (coreRead c a len) .m s := by
      simp [busRequest, mustWait_noneOutstanding hidle, coreRead, hlive, hlen, insideCord, mramPort, levelAt, parityFirst]
    _ = offer (coreRead c a len) .m s := checked_passed hpage hpass

/-- A live register block answers an aligned read of 4 bytes with what stands there. -/
theorem offer_coreRead_reg {s : State} {c a o : Nat} {b : Blk} (hlive : targetLive s a = true) (hblk : blkAt a = some (b, o))
    (halign : a % 4 = 0) :
    offer (coreRead c a 4) .m s =
      send (.bus { master := .core c, how := .done (le4 (read32 (.core c) b (a - o) o s).2.toNat) false })
        (read32 (.core c) b (a - o) o s).1 := by
  simp [offer, serve, serveReg, regAligned, readReg, reportCell, answer, masterEnd, coreRead, hlive, hblk, halign]

-- the registers of the DIC ---------------------------------------------------------------------------------------------------------

/-- The DIC's registers stand from 0x12400000 on. -/
theorem blkAt_dic {o : Nat} (h : o < 0x10000) : blkAt (0x12400000 + o) = some (.dic, o) := by
  simp [blkAt, blkMap]
  omega

/-- The DIC of a running module answers. -/
theorem targetLive_dic {s : State} (hrun : Running s) {o : Nat} (h : o < 0x10000) : targetLive s (0x12400000 + o) = true := by
  have hblock : targetBlock (0x12400000 + o) = some 0x49#8 := by simp [targetBlock, blkAt_dic h, blkId]
  have hregion : blockRegion 0x49#8 = 2 := by decide
  have hclock : clockGated 0x49#8 = false := by decide
  simp [targetLive, hblock, hregion, hclock, running_isolated hrun, running_hearthOn hrun, running_rickLive hrun]

/-- The claim stands at its target's offset. -/
theorem dicReg_claim {t : Nat} (ht : t < 9) (s : State) : dicReg (0x304 + 16 * t) s = (claimOf s.dic t).toNat := by
  have htarget : (0x304 + 16 * t - 0x304) / 16 = t := by omega
  simp only [dicReg]
  split
  case h_5 =>
    rw [if_neg (by omega), if_neg (by omega), if_pos (by omega), if_neg (by omega), if_pos (by omega), htarget]
  all_goals omega

/-- A 32-bit read of DIC_CLAIMt changes nothing. -/
theorem read32_claim {t : Nat} (ht : t < 9) (m : Master) (base : Nat) (s : State) :
    read32 m .dic base (0x304 + 16 * t) s = (s, claimOf s.dic t) := by
  have hrel : relAt .dic (0x304 + 16 * t) = none := if_neg (by omega)
  have hnarrow : wideAt .dic (0x304 + 16 * t) = false := by simp [wideAt, regWide]; omega
  have hreg : regRead .dic (0x304 + 16 * t) s = (claimOf s.dic t).toNat := dicReg_claim ht s
  simp [read32, hrel, hnarrow, hreg]

/-- A core's read of DIC_CLAIMt that the Gate passes: the claim leaves as its answer, and nothing else happens. -/
theorem exec_claimRead {s : State} {c t : Nat} (hrun : Running s) (hidle : s.bus.retries = []) (ht : t < 9)
    (hpass : checkPart s.gate .m (tagOf s.gate (.core c)) .read (0x12400304 + 16 * t) = .pass) :
    exec (.busRequest (coreRead c (0x12400304 + 16 * t) 4)) s =
      .next { s with
        dic := leaveIdle s.dic
        out := s.out ++ [.bus { master := .core c, how := .done (le4 (claimOf s.dic t).toNat) false }] } := by
  have haddr : 0x12400304 + 16 * t = 0x12400000 + (0x304 + 16 * t) := by omega
  have hoff : 0x304 + 16 * t < 0x10000 := by omega
  have hlive : targetLive s (0x12400304 + 16 * t) = true := haddr ▸ targetLive_dic hrun hoff
  have hblk : blkAt (0x12400304 + 16 * t) = some (.dic, 0x304 + 16 * t) := haddr ▸ blkAt_dic hoff
  calc exec (.busRequest (coreRead c (0x12400304 + 16 * t) 4)) s
    _ = .next (settle (busRequest (coreRead c (0x12400304 + 16 * t) 4) s)) := rfl
    _ = .next (settle (send (.bus { master := .core c, how := .done (le4 (claimOf s.dic t).toNat) false }) s)) := by
      rw [busRequest_coreRead hrun hidle (by decide) (by omega) hpass, offer_coreRead_reg hlive hblk (by omega), read32_claim ht]
    _ = _ := by rw [settle_loud (s := send _ s) hrun.loud]; rfl

end Sys2Proof.Laws

namespace Sys2Proof.Proofs

open Sys2Proof Sys2Proof.Machine Sys2Proof.Safety Sys2Proof.Laws

/-- Settles O33: the word that the read answers is the one of the scan over all sources, which finds the first deliverable one. -/
theorem claimRead : Obligations.ClaimRead := by
  intro c t s hrun hidle ht a hpass
  refine ⟨claimOf s.dic t, exec_claimRead hrun hidle ht hpass, ?_⟩
  obtain ⟨hnone, hword⟩ | ⟨src, ⟨hknown, hdel, hleads⟩, hword⟩ := claimOf_cases s.dic t
  · exact ⟨fun _ => hword, fun ⟨x, hx, hdx⟩ => by simp [hnone x hx] at hdx⟩
  · have hp := prioOf_lt s.dic src
    rw [hword, claimWord_valid hp hknown, claimWord_prio hp hknown, claimWord_src hp hknown]
    exact ⟨fun hnone => by simp [hnone src hknown] at hdel, fun _ => ⟨rfl, hdel, rfl, hleads⟩⟩

end Sys2Proof.Proofs

/-! PROOF. Module hardware and hot swap (15): a change of feed state (R470) and a module that is safe to remove (R475). -/

namespace Sys2Proof.Laws

open Sys2Proof Sys2Proof.Machine Sys2Proof.Safety

-- a posting of a running module (R386) ---------------------------------------------------------------------------------------

/-- A posting of a running module touches the recorder and the DIC only. -/
theorem settle_running_post {s : State} (hrun : Running s) (code : Nat) (block : Byte) (data : List Byte) :
    ∃ d, settle (post code block data s) =
      { s with evr := evrTake s.evr s.now code (evRecs code block data), dic := d } := by
  rw [settle_loud (by rw [running_post hrun]; exact hrun.loud), running_post hrun]
  exact ⟨_, rfl⟩

-- a change of feed state (R470) --------------------------------------------------------------------------------------------

/-- The hardware registers with the new state of one feed. -/
def putFeed (b : Bool) (f : FeedSt) (h : Hw) : Hw := if b then { h with feedB := f } else { h with feedA := f }

/-- Both feeds are LOST. -/
def bothFeedsLost (h : Hw) : Bool := h.feedA.st == .lost && h.feedB.st == .lost

/-- The hardware registers when a feed's new state stands in them: the hold-up time runs while both feeds are LOST (R472). -/
def feedStored (b : Bool) (f : FeedSt) (now : Nat) (h : Hw) : Hw :=
  { putFeed b f h with
    bothLost :=
      if bothFeedsLost (putFeed b f h) then
        (if (putFeed b f h).bothLost.isSome then (putFeed b f h).bothLost else some now)
      else none
    powerDown := (putFeed b f h).powerDown && bothFeedsLost (putFeed b f h) }

/-- The hardware registers with the change flagged, and counted where the feed became LOST. -/
def feedNoted (b : Bool) (st : Feed) (h : Hw) : Hw :=
  { h with
    cntFeedLoss := if st = .lost then satInc h.cntFeedLoss else h.cntFeedLoss
    flags := setBit h.flags (b2n b) }

/-- The data of event 0x0C00: the feed and both states. -/
def feedData (b : Bool) (h : Hw) : List Byte := u8 (b2n b) ++ u8 (feedNo h.feedA.st) ++ u8 (feedNo h.feedB.st)

/-- The new state is stored in any case; a change is noted and told while Hearth works. -/
theorem feedChange_eq (b : Bool) (st : Feed) (mv : Half) (s : State) :
    feedChange b st mv s =
      let t := { s with hw := feedStored b ⟨st, mv⟩ s.now s.hw }
      if (feedOf s b).st = st ∨ !hearthOn t then t
      else post 0x0C00 0x01 (feedData b t.hw) { t with hw := feedNoted b st t.hw } := by
  by_cases hlost : st = .lost
  · subst hlost; rfl
  · simp only [feedChange, feedNoted, if_neg hlost]; rfl

/-- The hardware registers after a change of one feed while the other is GOOD. -/
def feedChanged (b : Bool) (f : FeedSt) (h : Hw) : Hw :=
  feedNoted b f.st { putFeed b f h with bothLost := none, powerDown := false }

/-- While the other feed is GOOD no hold-up time runs and power stands. -/
theorem feedStored_otherGood {b : Bool} {s : State} (hgood : (feedOf s (!b)).st = .good) (f : FeedSt) (now : Nat) :
    feedStored b f now s.hw = { putFeed b f s.hw with bothLost := none, powerDown := false } := by
  have hfed : bothFeedsLost (putFeed b f s.hw) = false := by
    cases b
    case false => simp [bothFeedsLost, putFeed, show s.hw.feedB.st = .good from hgood]
    case true => simp [bothFeedsLost, putFeed, show s.hw.feedA.st = .good from hgood]
  simp [feedStored, hfed]

@[simp] theorem putFeed_porReleased (b : Bool) (f : FeedSt) (h : Hw) : (putFeed b f h).porReleased = h.porReleased := by
  cases b <;> rfl

@[simp] theorem putFeed_cntFeedLoss (b : Bool) (f : FeedSt) (h : Hw) : (putFeed b f h).cntFeedLoss = h.cntFeedLoss := by
  cases b <;> rfl

/-- A running module notes and tells a change of one feed while the other is GOOD. -/
theorem feedChange_told {b : Bool} {st : Feed} {s : State} (hrun : Running s) (hgood : (feedOf s (!b)).st = .good)
    (hnew : (feedOf s b).st ≠ st) (mv : Half) :
    feedChange b st mv s =
      post 0x0C00 0x01 (feedData b (feedChanged b ⟨st, mv⟩ s.hw)) { s with hw := feedChanged b ⟨st, mv⟩ s.hw } := by
  rw [feedChange_eq, feedStored_otherGood hgood]
  exact if_neg (by simp [hnew, hearthOn, hrun.reset])

/-- The command's next state: besides the hardware registers only the recorder and the DIC change. -/
theorem exec_feedStateChange_told {b : Bool} {st : Feed} {s : State} (hrun : Running s) (hgood : (feedOf s (!b)).st = .good)
    (hnew : (feedOf s b).st ≠ st) (mv : Half) :
    ∃ d, exec (.feedStateChange b st mv) s =
      .next { s with
        hw := feedChanged b ⟨st, mv⟩ s.hw
        evr := evrTake s.evr s.now 0x0C00 (evRecs 0x0C00 0x01 (feedData b (feedChanged b ⟨st, mv⟩ s.hw)))
        dic := d } := by
  have hrun' : Running { s with hw := feedChanged b ⟨st, mv⟩ s.hw } :=
    { hrun with power := rfl, reset := (putFeed_porReleased b ⟨st, mv⟩ s.hw).trans hrun.reset }
  obtain ⟨d, hsettle⟩ := settle_running_post hrun' 0x0C00 0x01 (feedData b (feedChanged b ⟨st, mv⟩ s.hw))
  refine ⟨d, ?_⟩
  calc exec (.feedStateChange b st mv) s
    _ = .next (settle (feedChange b st mv s)) := rfl
    _ = _ := by rw [feedChange_told hrun hgood hnew, hsettle]

/-- The feed that changed stands in its new state. -/
theorem feedOf_feedChanged_same {b : Bool} {f : FeedSt} {s t : State} (ht : t.hw = feedChanged b f s.hw) : feedOf t b = f := by
  cases b <;> simp [feedOf, ht, feedChanged, feedNoted, putFeed]

/-- The other feed stands as it was. -/
theorem feedOf_feedChanged_other {b : Bool} {f : FeedSt} {s t : State} (ht : t.hw = feedChanged b f s.hw) :
    feedOf t (!b) = feedOf s (!b) := by
  cases b <;> simp [feedOf, ht, feedChanged, feedNoted, putFeed]

/-- The flag of the feed that changed is set. -/
theorem feedChanged_flag (b : Bool) (f : FeedSt) (h : Hw) : bit (feedChanged b f h).flags (b2n b) = true :=
  bit_setBit_same _ (by cases b <;> decide)

/-- A feed that becomes LOST is counted, any other change is not. -/
theorem feedChanged_cntFeedLoss (b : Bool) (f : FeedSt) (h : Hw) :
    (feedChanged b f h).cntFeedLoss = if f.st = .lost then satInc h.cntFeedLoss else h.cntFeedLoss := by
  simp [feedChanged, feedNoted]

end Sys2Proof.Laws

namespace Sys2Proof.Proofs

open Sys2Proof Sys2Proof.Machine Sys2Proof.Safety Sys2Proof.Laws

/-- Settles O36: the change is noted in the hardware registers and told to the recorder, and nothing else moves. -/
theorem feedChanges : Obligations.FeedChanges := by
  intro b st mv s hrun hgood hnew
  obtain ⟨d, hexec⟩ := exec_feedStateChange_told hrun hgood hnew mv
  exact ⟨_, hexec, feedOf_feedChanged_same rfl, feedOf_feedChanged_other rfl, feedChanged_flag b ⟨st, mv⟩ s.hw,
    feedChanged_cntFeedLoss b ⟨st, mv⟩ s.hw, rfl, rfl, rfl, rfl⟩

end Sys2Proof.Proofs

namespace Sys2Proof.Laws

open Sys2Proof Sys2Proof.Machine Sys2Proof.Safety

-- the bits of a register packed from fields ----------------------------------------------------------------------------------

/-- A bit of a register packed from fields is the bit of every field that reaches it. -/
theorem bit_pack {n : Nat} (fs : List (Nat × Nat)) {i : Nat} (h : i < n) :
    bit (pack n fs) i = fs.any fun f => decide (f.1 ≤ i) && f.2.testBit (i - f.1) := by
  have hfold (acc : Nat) : (fs.foldl (fun acc f => acc ||| (f.2 <<< f.1)) acc).testBit i =
      (acc.testBit i || fs.any fun f => decide (f.1 ≤ i) && f.2.testBit (i - f.1)) := by
    induction fs generalizing acc with
    | nil => simp
    | cons f fs ih => simp [ih, Nat.testBit_shiftLeft, Bool.or_assoc]
  rw [bit, pack, BitVec.toNat_ofNat, Nat.testBit_mod_two_pow, hfold]
  simp [h]

/-- A flag is bit 0 of its field. -/
theorem b2n_testBit (b : Bool) (i : Nat) : (b2n b).testBit i = (decide (i = 0) && b) := by
  cases b
  case false => simp [b2n]
  case true => rw [Bool.eq_iff_iff]; simp [b2n, Nat.testBit_one_eq_true_iff_self_eq_zero]

theorem feedNo_lt (f : Feed) : feedNo f < 4 := by cases f <;> decide

theorem slotNo_lt (x : Slot) : slotNo x < 4 := by cases x <;> decide

/-- A field of two bits reaches no higher bit. -/
theorem testBit_eq_false_of_lt_four {v i : Nat} (hv : v < 4) (hi : 2 ≤ i) : v.testBit i = false :=
  Nat.testBit_lt_two_pow (hv.trans_le (Nat.pow_le_pow_right (n := 2) (by decide) hi))

-- a module that is safe to remove (R475) ------------------------------------------------------------------------------------

/-- R475 in words: the lever is open and the role gives up nothing. -/
theorem safe_iff (s : State) :
    safe s = true ↔
      s.hw.ejectOpen = true ∧
        (s.pair.role = .offline ∨ s.pair.role = .fenced ∨ s.pair.role = .clockHold ∨ s.sup.failSilent = true) := by
  simp [safe, or_assoc]

/-- HPW_STATUS.SAFE stands above the other fields of its register. -/
theorem hpwReg_status_safe (s : State) : (hpwReg 0x008 s).testBit 15 = safe s := by
  have hslot : (if slotErr s then 3 else slotNo (mySlot s)).testBit 5 = false := by
    refine testBit_eq_false_of_lt_four ?_ (by decide)
    split
    · decide
    · exact slotNo_lt _
  have hfeedB : (feedNo s.hw.feedB.st).testBit 9 = false := testBit_eq_false_of_lt_four (feedNo_lt _) (by decide)
  have hfeedA : (feedNo s.hw.feedA.st).testBit 11 = false := testBit_eq_false_of_lt_four (feedNo_lt _) (by decide)
  change bit (pack 32 _) 15 = safe s
  rw [bit_pack _ (by decide)]
  simp [hslot, hfeedA, hfeedB, b2n_testBit, -Nat.testBit_zero]

/-- The first row of R483 for PWR shows a module that is safe to remove. -/
theorem ledPwr_safe {s : State} (h : safe s = true) : ledPwr s = .flash .amber 2000 := by
  obtain ⟨hopen, -⟩ := (safe_iff s).mp h
  simp [ledPwr, h, hopen]

end Sys2Proof.Laws

namespace Sys2Proof.Proofs

open Sys2Proof Sys2Proof.Machine Sys2Proof.Safety Sys2Proof.Laws

/-- Settles O37: SAFE and the indicator both show `safe`. -/
theorem safeToRemove : Obligations.SafeToRemove := by
  intro s
  refine ⟨?_, fun h => ledPwr_safe ((safe_iff s).mpr h)⟩
  rw [hpwReg_status_safe, safe_iff]

end Sys2Proof.Proofs

/-! PROOF. The whole block (01, 12, 13): the queue, the levels that each command settles, and the laws that every step keeps. -/

namespace Sys2Proof.Laws

open Sys2Proof Sys2Proof.Machine Sys2Proof.Safety

-- the cores whose line is high (R425, R432) --------------------------------------------------------------------------------

/-- A cleared bit leaves the others. -/
theorem bit_clrBit_other {n : Nat} (w : BitVec n) {i j : Nat} (h : i ≠ j) : bit (clrBit w i) j = bit w j := by
  rw [bit, bit, clrBit, ← BitVec.getLsbD.eq_1, ← BitVec.getLsbD.eq_1, BitVec.getLsbD_and, BitVec.getLsbD_not, BitVec.getLsbD_ofNat,
    Nat.testBit_two_pow_of_ne h]
  by_cases hj : j < n
  · simp [hj]
  · simp [BitVec.getLsbD_of_ge w j (by omega)]

/-- Clearing the listed bits that satisfy `p`, one after the other. -/
theorem bit_foldl_clr {n : Nat} (p : Nat → Bool) (cs : List Nat) (w : BitVec n) (k : Nat) :
    bit (cs.foldl (fun i c => if bit i c && p c then clrBit i c else i) w) k = (bit w k && !(cs.contains k && p k)) := by
  induction cs generalizing w with
  | nil => simp
  | cons c cs ih =>
    rw [List.foldl_cons, ih, List.contains_cons]
    by_cases hk : k = c
    · subst hk
      cases hp : p k <;> cases hb : bit w k <;> simp [hb, bit_clrBit_same]
    · have hbit : bit (if (bit w c && p c) = true then clrBit w c else w) k = bit w k := by
        split
        · exact bit_clrBit_other w (Ne.symm hk)
        · rfl
      rw [hbit, beq_false_of_ne hk, Bool.false_or]

/-- The line of a target depends on no core's sleep. -/
theorem lineHigh_leaveIdle (d : Dic) (t : Nat) : lineHigh (leaveIdle d) t = lineHigh d t := rfl

/-- A core sleeps on where its line is low. -/
theorem leaveIdle_idle (d : Dic) {c : Nat} (hc : c < 8) : bit (leaveIdle d).idle c = (bit d.idle c && !lineHigh d c) := by
  have hmem : (List.range 8).contains c = true := by simpa using hc
  rw [leaveIdle, bit_foldl_clr, hmem, Bool.true_and]

theorem leaveIdle_noSleeper (d : Dic) : NoSleeper (leaveIdle d) := by
  intro c hc hhigh
  rw [lineHigh_leaveIdle] at hhigh
  rw [leaveIdle_idle d hc, hhigh, Bool.not_true, Bool.and_false]

/-- With no core in IDLE none sleeps. -/
theorem noSleeper_of_awake {d : Dic} (h : d.idle = 0) : NoSleeper d := fun c _ _ => by
  rw [h, bit, show (0 : BitVec 8).toNat = 0 from rfl, Nat.zero_testBit]

/-- A Damper that is not armed keeps its law where it is not driven. -/
theorem driveLaw_of_silent {p : Pair} (hd : p.driving = false) (ho : p.outEn = false) (ha : p.armed = false) : DriveLaw p :=
  ⟨by simp [hd], by simp [ho], by simp [ha]⟩

/-- The levels at the end of every meaning. -/
theorem settle_levels (s : State) : FailSilentHolds (settle s) ∧ NoSleeper (settle s).dic :=
  ⟨settle_failSilentHolds s, leaveIdle_noSleeper s.dic⟩

-- every step ----------------------------------------------------------------------------------------------------------------

/-- A steady state is sound. -/
theorem sound_of_steady {s : State} (h : Steady s) : Sound s.pending s := ⟨rfl, h.mem, h.events, h.mopen, h.drive, h.vmode⟩

/-- A sound state whose levels are settled is steady. -/
theorem steady_of_sound {qs : List Instr} {s : State} (h : Sound qs s) (levels : FailSilentHolds s ∧ NoSleeper s.dic) : Steady s :=
  ⟨h.mem, h.events, h.mopen, levels.1, levels.2, h.drive, h.vmode⟩

/-- With nothing waiting a step is the tick. -/
theorem step_idle {s : State} (h : s.pending = []) : step s = finish (tick s) := by
  unfold step; rw [h]

/-- With a command in front a step is its meaning with the rest waiting. -/
theorem step_front {s : State} {c : Instr} {rest : List Instr} (h : s.pending = c :: rest) :
    step s = exec c { s with pending := rest } := by
  unfold step; rw [h]

/-- Taking the front command leaves all else. -/
theorem sound_take {s : State} (h : Steady s) (rest : List Instr) : Sound rest { s with pending := rest } :=
  ⟨rfl, h.mem, h.events, h.mopen, h.drive, h.vmode⟩

/-- The next state of a command from a sound state is sound. -/
theorem exec_next_sound {c : Instr} {s t : State} (h : Sound s.pending s) (e : exec c s = .next t) : Sound s.pending t := by
  have hgives := exec_sound c s h
  rw [e] at hgives
  exact hgives

end Sys2Proof.Laws

namespace Sys2Proof.Proofs

open Sys2Proof Sys2Proof.Machine Sys2Proof.Safety Sys2Proof.Laws

/-- Settles O48: every command ends by settling the levels. -/
theorem levelsAfterEveryCommand : Obligations.LevelsAfterEveryCommand := by
  intro c s t hexec
  obtain ⟨u, hu⟩ := exec_ends c s
  rw [hu, finish_next] at hexec
  rw [← Host.Outcome.next.inj hexec]
  exact settle_levels u

/-- Settles O47: the front command, or the tick, keeps a sound state sound and settles its levels. -/
theorem stepKeepsSteady : Obligations.StepKeepsSteady := by
  intro s t hs hstep
  cases hq : s.pending with
  | nil =>
    rw [step_idle hq, finish_next] at hstep
    rw [← Host.Outcome.next.inj hstep]
    exact steady_of_sound (settle_sound _ (tick_sound s (sound_of_steady hs))) (settle_levels _)
  | cons c rest =>
    rw [step_front hq] at hstep
    exact steady_of_sound (exec_next_sound (sound_take hs rest) hstep) (levelsAfterEveryCommand c _ t hstep)

/-- Settles O1: both cases of the step. -/
theorem stepRunsFrontCommand : Obligations.StepRunsFrontCommand := by
  intro c qs s
  obtain ⟨u, hu⟩ := exec_ends c { s with pending := qs }
  exact ⟨rfl, ⟨settle u, hu⟩, rfl⟩

/-- Settles O46: at reset the module is silent, no core sleeps and no session is open. -/
theorem steadyAtReset : Obligations.SteadyAtReset :=
  have hloud : State.reset.sup.failSilent = false := rfl
  have hmode : State.reset.cord.vmode = false := rfl
  { mem := rfl
    events := Nat.zero_le 64
    mopen := fun _ => rfl
    silent := fun h => absurd h (by rw [hloud]; exact Bool.false_ne_true)
    awake := noSleeper_of_awake rfl
    drive := driveLaw_of_silent rfl rfl rfl
    vmode := fun h => absurd h (by rw [hmode]; exact Bool.false_ne_true) }

end Sys2Proof.Proofs

/-! PROOF. The addressed memory (00 R35): what reads alike is equal. -/

namespace Sys2Proof.Laws

open Sys2Proof Sys2Proof.Machine Sys2Proof.Safety

/-- The listed byte at the lowest address reads as it is listed. -/
theorem readByte_front (a : Nat) (b : Byte) (m : Memory) : readByte ((a, b) :: m) a = b := if_pos rfl

/-- Another address reads behind it. -/
theorem readByte_behind {a x : Nat} (h : a ≠ x) (b : Byte) (m : Memory) : readByte ((a, b) :: m) x = readByte m x := if_neg h

theorem wfFrom_cons {lo a : Nat} {b : Byte} {m : Memory} :
    Memory.wfFrom lo ((a, b) :: m) = true ↔ (lo ≤ a ∧ b ≠ unlisted) ∧ Memory.wfFrom (a + 1) m = true := by
  simp [Memory.wfFrom]

/-- Where two memories read alike, a listed byte of the one is no lower than the lowest of the other. -/
theorem front_le {a c : Nat} {b d : Byte} {m n : Memory} (hm : Memory.wfFrom a ((a, b) :: m) = true) (hn : Memory.wfFrom c ((c, d) :: n) = true)
    (heq : ∀ x, readByte ((a, b) :: m) x = readByte ((c, d) :: n) x) : c ≤ a := by
  by_contra hlt
  have hread := heq a
  rw [readByte_front, readByte_below hn (by omega)] at hread
  exact (wfFrom_cons.mp hm).1.2 hread

/-- Memories of canonical form that read alike are equal. -/
theorem memory_ext {lo : Nat} {m n : Memory} (hm : Memory.wfFrom lo m = true) (hn : Memory.wfFrom lo n = true)
    (heq : ∀ a, readByte m a = readByte n a) : m = n := by
  induction m generalizing lo n with
  | nil =>
    cases n with
    | nil => rfl
    | cons e n =>
      have hread := heq e.1
      rw [readByte_front e.1 e.2 n] at hread
      exact absurd hread.symm (wfFrom_cons.mp hn).1.2
  | cons c m ih =>
    obtain ⟨a, b⟩ := c
    obtain ⟨⟨-, hb⟩, hm'⟩ := wfFrom_cons.mp hm
    cases n with
    | nil => exact absurd ((readByte_front a b m).symm.trans (heq a)) hb
    | cons e n =>
      obtain ⟨a', b'⟩ := e
      obtain ⟨⟨-, hb'⟩, hn'⟩ := wfFrom_cons.mp hn
      have haddr : a = a' := Nat.le_antisymm
        (front_le (wfFrom_cons.mpr ⟨⟨le_rfl, hb'⟩, hn'⟩) (wfFrom_cons.mpr ⟨⟨le_rfl, hb⟩, hm'⟩) fun x => (heq x).symm)
        (front_le (wfFrom_cons.mpr ⟨⟨le_rfl, hb⟩, hm'⟩) (wfFrom_cons.mpr ⟨⟨le_rfl, hb'⟩, hn'⟩) heq)
      subst haddr
      have hbyte : b = b' := by simpa [readByte_front] using heq a
      have hrest : m = n := by
        refine ih hm' hn' fun x => ?_
        by_cases hx : x < a + 1
        · rw [readByte_below hm' hx, readByte_below hn' hx]
        · simpa [readByte_behind (show a ≠ x by omega)] using heq x
      rw [hbyte, hrest]

end Sys2Proof.Laws

namespace Sys2Proof.Proofs

open Sys2Proof Sys2Proof.Machine Sys2Proof.Safety Sys2Proof.Laws

/-- Settles O49: writes and reads of the canonical memory. -/
theorem memoryReadsBack : Obligations.MemoryReadsBack :=
  ⟨fun _ a bs h => ⟨readBytes_writeBytes h a bs, wf_writeBytes h a bs, fun _ hb => readByte_writeBytes_other _ bs hb⟩,
    fun _ _ hm hn heq => memory_ext hm hn heq⟩

end Sys2Proof.Proofs

/-! PROOF. Command registers below machine mode (12, 17) and the registers at reset. -/

namespace Sys2Proof.Laws

open Sys2Proof Sys2Proof.Machine Sys2Proof.Safety

section

-- what a write below machine mode does: nothing

variable {level : Level} (w : Word) (s : State) (h : level ≠ .m)

include h

theorem dmpArm_below : dmpArm level w s = s := if_pos (.inl h)
theorem pairCmd_below : pairCmd level w s = s := if_pos (.inl h)
theorem cycCmd_below : cycCmd level w s = s := if_pos (.inl h)
theorem fptCmd_below (n : Nat) : fptCmd n level w s = s := if_pos (.inl h)
theorem faultClear_below (mask : BitVec 16) (evs : DWord) : faultClear level mask evs s = s := if_pos (.inl h)
theorem cycWdog_below (n : Nat) : cycWdog n level w s = s := if_neg fun k => h k.1
theorem cycDone_below (n : Nat) (ds : List Delta) : cycDone n level w ds s = s := if_pos h
theorem embSleep_below : embSleep level w s = s := if_pos (.inl h)
theorem kdvTarget_below : kdvTarget level w s = s := if_pos (.inl h)
theorem gateCommit_below : gateCommit level w s = s := if_pos (.inl h)
theorem lioRearm_below : lioRearm level w s = s := if_neg fun k => h k.1
theorem fijComm_below : fijComm level w s = s := if_pos (.inl h)
theorem fijCmd_below : fijCmd level w s = s := if_pos (.inl h)
theorem fijClear_below : fijClear level w s = s := if_pos (.inl h)

end

/-- Window 0 belongs to machine mode. -/
theorem exec_eventPosting_below {level : Level} (w : Word) (s : State) (h : level ≠ .m) :
    exec (.eventPosting 0 level w) s = .next (settle s) :=
  congrArg finish (if_pos (.inl ⟨rfl, h⟩))

end Sys2Proof.Laws

namespace Sys2Proof.Proofs

open Sys2Proof Sys2Proof.Machine Sys2Proof.Safety Sys2Proof.Laws

/-- Settles O44: every keyed register looks at the level first. -/
theorem belowMachineModeNoEffect : Obligations.BelowMachineModeNoEffect := by
  intro level m n w mask evs s h
  have ends {c : Instr} {u : State} (hc : exec c s = finish u) (hu : u = s) : exec c s = .next (settle s) := by
    rw [hc, hu, finish_next]
  simp only [List.forall_mem_cons, List.not_mem_nil, false_imp_iff, implies_true, and_true]
  exact ⟨ends rfl (dmpArm_below w s h), ends rfl (pairCmd_below w s h), ends rfl (pairCmd_below w s h),
    ends rfl (pairCmd_below w s h), ends rfl (cycCmd_below w s h), ends rfl (cycCmd_below w s h), ends rfl (cycCmd_below w s h),
    ends rfl (fptCmd_below w s h n), ends rfl (fptCmd_below w s h n), ends rfl (fptCmd_below w s h n),
    ends rfl (faultClear_below s h mask evs), ends rfl (cycWdog_below w s h n), ends rfl (cycDone_below w s h n []),
    ends rfl (embSleep_below w s h), ends rfl (kdvTarget_below w s h), ends rfl (gateCommit_below w s h),
    ends rfl (lioRearm_below w s h), exec_eventPosting_below w s h, ends rfl (fijComm_below w s h),
    ends rfl (fijCmd_below w s h), ends rfl (fijCmd_below w s h), ends rfl (fijClear_below w s h)⟩

/-- Settles O45: each register of the reset state is evaluated. -/
theorem resetRegisters : Obligations.ResetRegisters := by
  refine ⟨rfl, rfl, rfl, ⟨rfl, rfl, rfl⟩, rfl, rfl, rfl, rfl, ?_, ?_⟩
  · decide
  · decide

end Sys2Proof.Proofs

/-! SUPPORT. What the operations leave alone: the queue, the memory, the module hardware, the registers of the pair, and that a module has not
failed silent. One lemma for each operation, over all that it keeps. -/

namespace Sys2Proof.Laws

open Sys2Proof Sys2Proof.Machine Sys2Proof.Safety

@[simp] theorem foldl_pending {α : Type} {f : State → α → State} (hf : ∀ s x, (f s x).pending = s.pending) (xs : List α) (s : State) :
    (xs.foldl f s).pending = s.pending := by
  induction xs generalizing s with
  | nil => rfl
  | cons x xs ih => exact (ih _).trans (hf s x)
@[simp] theorem ite_pending (c : Prop) [Decidable c] (s t : State) : (if c then s else t).pending = if c then s.pending else t.pending := by
  split <;> rfl
@[simp] theorem foldl_mem {α : Type} {f : State → α → State} (hf : ∀ s x, (f s x).mem = s.mem) (xs : List α) (s : State) :
    (xs.foldl f s).mem = s.mem := by
  induction xs generalizing s with
  | nil => rfl
  | cons x xs ih => exact (ih _).trans (hf s x)
@[simp] theorem ite_mem (c : Prop) [Decidable c] (s t : State) : (if c then s else t).mem = if c then s.mem else t.mem := by
  split <;> rfl
@[simp] theorem foldl_hw {α : Type} {f : State → α → State} (hf : ∀ s x, (f s x).hw = s.hw) (xs : List α) (s : State) :
    (xs.foldl f s).hw = s.hw := by
  induction xs generalizing s with
  | nil => rfl
  | cons x xs ih => exact (ih _).trans (hf s x)
@[simp] theorem ite_hw (c : Prop) [Decidable c] (s t : State) : (if c then s else t).hw = if c then s.hw else t.hw := by
  split <;> rfl
@[simp] theorem foldl_sup_failSilent {α : Type} {f : State → α → State} (hf : ∀ s x, (f s x).sup.failSilent = s.sup.failSilent) (xs : List α) (s : State) :
    (xs.foldl f s).sup.failSilent = s.sup.failSilent := by
  induction xs generalizing s with
  | nil => rfl
  | cons x xs ih => exact (ih _).trans (hf s x)
@[simp] theorem ite_sup_failSilent (c : Prop) [Decidable c] (s t : State) : (if c then s else t).sup.failSilent = if c then s.sup.failSilent else t.sup.failSilent := by
  split <;> rfl
@[simp] theorem ite_unit_sup_failSilent (c : Prop) [Decidable c] (a b : Sup) : (if c then a else b).failSilent = if c then a.failSilent else b.failSilent := by
  split <;> rfl
@[simp] theorem foldl_pair {α : Type} {f : State → α → State} (hf : ∀ s x, (f s x).pair = s.pair) (xs : List α) (s : State) :
    (xs.foldl f s).pair = s.pair := by
  induction xs generalizing s with
  | nil => rfl
  | cons x xs ih => exact (ih _).trans (hf s x)
@[simp] theorem ite_pair (c : Prop) [Decidable c] (s t : State) : (if c then s else t).pair = if c then s.pair else t.pair := by
  split <;> rfl
@[simp] theorem foldl_pair_role {α : Type} {f : State → α → State} (hf : ∀ s x, (f s x).pair.role = s.pair.role) (xs : List α) (s : State) :
    (xs.foldl f s).pair.role = s.pair.role := by
  induction xs generalizing s with
  | nil => rfl
  | cons x xs ih => exact (ih _).trans (hf s x)
@[simp] theorem ite_pair_role (c : Prop) [Decidable c] (s t : State) : (if c then s else t).pair.role = if c then s.pair.role else t.pair.role := by
  split <;> rfl
@[simp] theorem ite_unit_pair_role (c : Prop) [Decidable c] (a b : Pair) : (if c then a else b).role = if c then a.role else b.role := by
  split <;> rfl
@[simp] theorem foldl_pair_epoch {α : Type} {f : State → α → State} (hf : ∀ s x, (f s x).pair.epoch = s.pair.epoch) (xs : List α) (s : State) :
    (xs.foldl f s).pair.epoch = s.pair.epoch := by
  induction xs generalizing s with
  | nil => rfl
  | cons x xs ih => exact (ih _).trans (hf s x)
@[simp] theorem ite_pair_epoch (c : Prop) [Decidable c] (s t : State) : (if c then s else t).pair.epoch = if c then s.pair.epoch else t.pair.epoch := by
  split <;> rfl
@[simp] theorem ite_unit_pair_epoch (c : Prop) [Decidable c] (a b : Pair) : (if c then a else b).epoch = if c then a.epoch else b.epoch := by
  split <;> rfl
@[simp] theorem ring_sup_failSilent_pair_role_pair_epoch (src : Nat) (s : State) :
    (ring src s).sup.failSilent = s.sup.failSilent ∧ (ring src s).pair.role = s.pair.role ∧ (ring src s).pair.epoch = s.pair.epoch := by
  refine ⟨?_, ?_, ?_⟩ <;> (unfold ring; rfl)
@[simp] theorem ringIf_sup_failSilent_pair_role_pair_epoch (c : Bool) (src : Nat) (s : State) :
    (ringIf c src s).sup.failSilent = s.sup.failSilent ∧ (ringIf c src s).pair.role = s.pair.role ∧ (ringIf c src s).pair.epoch = s.pair.epoch := by
  unfold ringIf; simp
@[simp] theorem postRecs_pair_role_pair_epoch (code : Nat) (rs : List EvRec) (s : State) :
    (postRecs code rs s).pair.role = s.pair.role ∧ (postRecs code rs s).pair.epoch = s.pair.epoch := by
  unfold postRecs; simp
@[simp] theorem post_pair_role_pair_epoch (code : Nat) (block : Byte) (data : List Byte) (s : State) :
    (post code block data s).pair.role = s.pair.role ∧ (post code block data s).pair.epoch = s.pair.epoch := by
  unfold post; simp
@[simp] theorem postIf_pair_role_pair_epoch (c : Bool) (code : Nat) (block : Byte) (data : List Byte) (s : State) :
    (postIf c code block data s).pair.role = s.pair.role ∧ (postIf c code block data s).pair.epoch = s.pair.epoch := by
  unfold postIf; simp
@[simp] theorem supPost_pair_role_pair_epoch (code : Nat) (data : List Byte) (s : State) :
    (supPost code data s).pair.role = s.pair.role ∧ (supPost code data s).pair.epoch = s.pair.epoch := by
  unfold supPost; simp
@[simp] theorem send_sup_failSilent_pair_role_pair_epoch (m : OutMsg) (s : State) :
    (send m s).sup.failSilent = s.sup.failSilent ∧ (send m s).pair.role = s.pair.role ∧ (send m s).pair.epoch = s.pair.epoch := by
  refine ⟨?_, ?_, ?_⟩ <;> (unfold send; rfl)
@[simp] theorem failSilent_pending_mem_hw_pair_role_pair_epoch (cause : Nat) (block : Byte) (cell : Nat) (s : State) :
    (failSilent cause block cell s).pending = s.pending ∧ (failSilent cause block cell s).mem = s.mem ∧ (failSilent cause block cell s).hw = s.hw ∧ (failSilent cause block cell s).pair.role = s.pair.role ∧ (failSilent cause block cell s).pair.epoch = s.pair.epoch := by
  refine ⟨?_, ?_, ?_, ?_, ?_⟩ <;> (unfold failSilent; rfl)
@[simp] theorem chipError_pending_mem_hw_pair_role_pair_epoch (cause : Nat) (block : Byte) (cell : Nat) (s : State) :
    (chipError cause block cell s).pending = s.pending ∧ (chipError cause block cell s).mem = s.mem ∧ (chipError cause block cell s).hw = s.hw ∧ (chipError cause block cell s).pair.role = s.pair.role ∧ (chipError cause block cell s).pair.epoch = s.pair.epoch := by
  unfold chipError; simp
@[simp] theorem recordFault_sup_failSilent_pair_role_pair_epoch (level code cause : Nat) (block : Byte) (cell : Nat) (s : State) :
    (recordFault level code cause block cell s).sup.failSilent = s.sup.failSilent ∧ (recordFault level code cause block cell s).pair.role = s.pair.role ∧ (recordFault level code cause block cell s).pair.epoch = s.pair.epoch := by
  unfold recordFault; simp
@[simp] theorem noteRegion_sup_failSilent_pair_role_pair_epoch (r : Nat) (s : State) :
    (noteRegion r s).sup.failSilent = s.sup.failSilent ∧ (noteRegion r s).pair.role = s.pair.role ∧ (noteRegion r s).pair.epoch = s.pair.epoch := by
  unfold noteRegion; simp
@[simp] theorem isolateEffects_pending_mem_hw_sup_failSilent_pair (block : Byte) (s : State) :
    (isolateEffects block s).pending = s.pending ∧ (isolateEffects block s).mem = s.mem ∧ (isolateEffects block s).hw = s.hw ∧ (isolateEffects block s).sup.failSilent = s.sup.failSilent ∧ (isolateEffects block s).pair = s.pair := by
  unfold isolateEffects; simp
@[simp] theorem isolate_pending_mem_hw_pair_role_pair_epoch (cause : Nat) (block : Byte) (cell : Nat) (s : State) :
    (isolate cause block cell s).pending = s.pending ∧ (isolate cause block cell s).mem = s.mem ∧ (isolate cause block cell s).hw = s.hw ∧ (isolate cause block cell s).pair.role = s.pair.role ∧ (isolate cause block cell s).pair.epoch = s.pair.epoch := by
  unfold isolate; simp
@[simp] theorem blockFault_sup_failSilent_pair_role_pair_epoch (cause : Nat) (block : Byte) (cell : Nat) (s : State) :
    (blockFault cause block cell s).sup.failSilent = s.sup.failSilent ∧ (blockFault cause block cell s).pair.role = s.pair.role ∧ (blockFault cause block cell s).pair.epoch = s.pair.epoch := by
  unfold blockFault; simp
@[simp] theorem blockFails_pending_mem_hw_pair_role_pair_epoch (cause : Nat) (block : Byte) (cell : Nat) (s : State) :
    (blockFails cause block cell s).pending = s.pending ∧ (blockFails cause block cell s).mem = s.mem ∧ (blockFails cause block cell s).hw = s.hw ∧ (blockFails cause block cell s).pair.role = s.pair.role ∧ (blockFails cause block cell s).pair.epoch = s.pair.epoch := by
  unfold blockFails; simp
@[simp] theorem pairInt_pending_mem_hw_sup_failSilent_pair_role_pair_epoch (b : Nat) (s : State) :
    (pairInt b s).pending = s.pending ∧ (pairInt b s).mem = s.mem ∧ (pairInt b s).hw = s.hw ∧ (pairInt b s).sup.failSilent = s.sup.failSilent ∧ (pairInt b s).pair.role = s.pair.role ∧ (pairInt b s).pair.epoch = s.pair.epoch := by
  unfold pairInt; simp
@[simp] theorem fluInt_pending_mem_hw_sup_failSilent_pair (b : Nat) (s : State) :
    (fluInt b s).pending = s.pending ∧ (fluInt b s).mem = s.mem ∧ (fluInt b s).hw = s.hw ∧ (fluInt b s).sup.failSilent = s.sup.failSilent ∧ (fluInt b s).pair = s.pair := by
  unfold fluInt; simp
@[simp] theorem cycInt_pending_mem_hw_sup_failSilent_pair (b : Nat) (s : State) :
    (cycInt b s).pending = s.pending ∧ (cycInt b s).mem = s.mem ∧ (cycInt b s).hw = s.hw ∧ (cycInt b s).sup.failSilent = s.sup.failSilent ∧ (cycInt b s).pair = s.pair := by
  unfold cycInt; simp
@[simp] theorem laneSend_pending_mem_hw_sup_failSilent_pair (n : Nat) (f : FlueFrame) (s : State) :
    (laneSend n f s).pending = s.pending ∧ (laneSend n f s).mem = s.mem ∧ (laneSend n f s).hw = s.hw ∧ (laneSend n f s).sup.failSilent = s.sup.failSilent ∧ (laneSend n f s).pair = s.pair := by
  refine ⟨?_, ?_, ?_, ?_, ?_⟩ <;> (unfold laneSend; rfl)
@[simp] theorem sendFlueF_pending_mem_hw_sup_failSilent_pair (flags : Byte) (dst : Option Slot) (body : FlueBody) (s : State) :
    (sendFlueF flags dst body s).pending = s.pending ∧ (sendFlueF flags dst body s).mem = s.mem ∧ (sendFlueF flags dst body s).hw = s.hw ∧ (sendFlueF flags dst body s).sup.failSilent = s.sup.failSilent ∧ (sendFlueF flags dst body s).pair = s.pair := by
  unfold sendFlueF; simp
@[simp] theorem sendFlue_pending_mem_hw_sup_failSilent_pair (dst : Option Slot) (body : FlueBody) (s : State) :
    (sendFlue dst body s).pending = s.pending ∧ (sendFlue dst body s).mem = s.mem ∧ (sendFlue dst body s).hw = s.hw ∧ (sendFlue dst body s).sup.failSilent = s.sup.failSilent ∧ (sendFlue dst body s).pair = s.pair := by
  unfold sendFlue; simp
@[simp] theorem sendTwin_pending_mem_hw_sup_failSilent_pair (body : FlueBody) (s : State) :
    (sendTwin body s).pending = s.pending ∧ (sendTwin body s).mem = s.mem ∧ (sendTwin body s).hw = s.hw ∧ (sendTwin body s).sup.failSilent = s.sup.failSilent ∧ (sendTwin body s).pair = s.pair := by
  unfold sendTwin; split <;> simp
@[simp] theorem noteEpoch_pending_mem_hw_sup_failSilent_pair_role_pair_epoch (e : Word) (s : State) :
    (noteEpoch e s).pending = s.pending ∧ (noteEpoch e s).mem = s.mem ∧ (noteEpoch e s).hw = s.hw ∧ (noteEpoch e s).sup.failSilent = s.sup.failSilent ∧ (noteEpoch e s).pair.role = s.pair.role ∧ (noteEpoch e s).pair.epoch = s.pair.epoch := by
  refine ⟨?_, ?_, ?_, ?_, ?_, ?_⟩ <;> (unfold noteEpoch; rfl)
@[simp] theorem noteStationEpoch_pending_mem_hw_sup_failSilent_pair_role_pair_epoch (e : Word) (s : State) :
    (noteStationEpoch e s).pending = s.pending ∧ (noteStationEpoch e s).mem = s.mem ∧ (noteStationEpoch e s).hw = s.hw ∧ (noteStationEpoch e s).sup.failSilent = s.sup.failSilent ∧ (noteStationEpoch e s).pair.role = s.pair.role ∧ (noteStationEpoch e s).pair.epoch = s.pair.epoch := by
  refine ⟨?_, ?_, ?_, ?_, ?_, ?_⟩ <;> (unfold noteStationEpoch; rfl)
@[simp] theorem issueRecord_pending_mem_hw_sup_failSilent_pair_role_pair_epoch (s : State) :
    (issueRecord s).pending = s.pending ∧ (issueRecord s).mem = s.mem ∧ (issueRecord s).hw = s.hw ∧ (issueRecord s).sup.failSilent = s.sup.failSilent ∧ (issueRecord s).pair.role = s.pair.role ∧ (issueRecord s).pair.epoch = s.pair.epoch := by
  refine ⟨?_, ?_, ?_, ?_, ?_, ?_⟩ <;> (unfold issueRecord; rfl)
@[simp] theorem takeEpoch_pending_mem_hw_sup_failSilent_pair_role (e : Word) (reason : Nat) (members : BitVec 3) (s : State) :
    (takeEpoch e reason members s).pending = s.pending ∧ (takeEpoch e reason members s).mem = s.mem ∧ (takeEpoch e reason members s).hw = s.hw ∧ (takeEpoch e reason members s).sup.failSilent = s.sup.failSilent ∧ (takeEpoch e reason members s).pair.role = s.pair.role := by
  unfold takeEpoch; simp
@[simp] theorem adoptEpoch_pending_mem_hw_sup_failSilent_pair_role (e : Word) (s : State) :
    (adoptEpoch e s).pending = s.pending ∧ (adoptEpoch e s).mem = s.mem ∧ (adoptEpoch e s).hw = s.hw ∧ (adoptEpoch e s).sup.failSilent = s.sup.failSilent ∧ (adoptEpoch e s).pair.role = s.pair.role := by
  unfold adoptEpoch; simp
@[simp] theorem releaseToken_pending_mem_hw_sup_failSilent_pair (p : Holder → Bool) (s : State) :
    (releaseToken p s).pending = s.pending ∧ (releaseToken p s).mem = s.mem ∧ (releaseToken p s).hw = s.hw ∧ (releaseToken p s).sup.failSilent = s.sup.failSilent ∧ (releaseToken p s).pair = s.pair := by
  unfold releaseToken; simp
@[simp] theorem flushHeldTx_pending_mem_hw_sup_failSilent_pair (s : State) :
    (flushHeldTx s).pending = s.pending ∧ (flushHeldTx s).mem = s.mem ∧ (flushHeldTx s).hw = s.hw ∧ (flushHeldTx s).sup.failSilent = s.sup.failSilent ∧ (flushHeldTx s).pair = s.pair := by
  refine ⟨?_, ?_, ?_, ?_, ?_⟩
  · unfold flushHeldTx; rw [foldl_pending (fun s x => by (repeat' split) <;> simp)]
  · unfold flushHeldTx; rw [foldl_mem (fun s x => by (repeat' split) <;> simp)]
  · unfold flushHeldTx; rw [foldl_hw (fun s x => by (repeat' split) <;> simp)]
  · unfold flushHeldTx; rw [foldl_sup_failSilent (fun s x => by (repeat' split) <;> simp)]
  · unfold flushHeldTx; rw [foldl_pair (fun s x => by (repeat' split) <;> simp)]
@[simp] theorem fijStopRun_pending_mem_hw_sup_failSilent_pair (cause : Nat) (s : State) :
    (fijStopRun cause s).pending = s.pending ∧ (fijStopRun cause s).mem = s.mem ∧ (fijStopRun cause s).hw = s.hw ∧ (fijStopRun cause s).sup.failSilent = s.sup.failSilent ∧ (fijStopRun cause s).pair = s.pair := by
  unfold fijStopRun; simp
@[simp] theorem setRole_pending_mem_hw_sup_failSilent_pair_epoch (r : Role) (sub : Sub) (s : State) :
    (setRole r sub s).pending = s.pending ∧ (setRole r sub s).mem = s.mem ∧ (setRole r sub s).hw = s.hw ∧ (setRole r sub s).sup.failSilent = s.sup.failSilent ∧ (setRole r sub s).pair.epoch = s.pair.epoch := by
  unfold setRole; simp
@[simp] theorem openOutputs_pending_mem_hw_sup_failSilent_pair_role_pair_epoch (s : State) :
    (openOutputs s).pending = s.pending ∧ (openOutputs s).mem = s.mem ∧ (openOutputs s).hw = s.hw ∧ (openOutputs s).sup.failSilent = s.sup.failSilent ∧ (openOutputs s).pair.role = s.pair.role ∧ (openOutputs s).pair.epoch = s.pair.epoch := by
  refine ⟨?_, ?_, ?_, ?_, ?_, ?_⟩ <;> (unfold openOutputs; rfl)
@[simp] theorem clearTwin_pending_mem_hw_sup_failSilent_pair (s : State) :
    (clearTwin s).pending = s.pending ∧ (clearTwin s).mem = s.mem ∧ (clearTwin s).hw = s.hw ∧ (clearTwin s).sup.failSilent = s.sup.failSilent ∧ (clearTwin s).pair = s.pair := by
  refine ⟨?_, ?_, ?_, ?_, ?_⟩ <;> (unfold clearTwin; rfl)
@[simp] theorem fence_pending_mem_hw_sup_failSilent_pair_epoch (heardE : Word) (path : Nat) (sender : List Byte) (s : State) :
    (fence heardE path sender s).pending = s.pending ∧ (fence heardE path sender s).mem = s.mem ∧ (fence heardE path sender s).hw = s.hw ∧ (fence heardE path sender s).sup.failSilent = s.sup.failSilent ∧ (fence heardE path sender s).pair.epoch = s.pair.epoch := by
  unfold fence; simp
@[simp] theorem enterResync_pending_mem_hw_sup_failSilent_pair_role_pair_epoch (byDiv : Bool) (s : State) :
    (enterResync byDiv s).pending = s.pending ∧ (enterResync byDiv s).mem = s.mem ∧ (enterResync byDiv s).hw = s.hw ∧ (enterResync byDiv s).sup.failSilent = s.sup.failSilent ∧ (enterResync byDiv s).pair.role = s.pair.role ∧ (enterResync byDiv s).pair.epoch = s.pair.epoch := by
  unfold enterResync; simp
@[simp] theorem endFolSessions_pending_mem_hw_sup_failSilent_pair (s : State) :
    (endFolSessions s).pending = s.pending ∧ (endFolSessions s).mem = s.mem ∧ (endFolSessions s).hw = s.hw ∧ (endFolSessions s).sup.failSilent = s.sup.failSilent ∧ (endFolSessions s).pair = s.pair := by
  unfold endFolSessions; simp
@[simp] theorem takeToken_pending_mem_hw_sup_failSilent_pair (h : Holder) (s : State) :
    (takeToken h s).pending = s.pending ∧ (takeToken h s).mem = s.mem ∧ (takeToken h s).hw = s.hw ∧ (takeToken h s).sup.failSilent = s.sup.failSilent ∧ (takeToken h s).pair = s.pair := by
  unfold takeToken; simp
@[simp] theorem tokenBusy_pending_mem_hw_sup_failSilent_pair (h : Holder) (s : State) :
    (tokenBusy h s).pending = s.pending ∧ (tokenBusy h s).mem = s.mem ∧ (tokenBusy h s).hw = s.hw ∧ (tokenBusy h s).sup.failSilent = s.sup.failSilent ∧ (tokenBusy h s).pair = s.pair := by
  unfold tokenBusy; simp
@[simp] theorem jrnInt_pending_mem_hw_sup_failSilent_pair (b : Nat) (s : State) :
    (jrnInt b s).pending = s.pending ∧ (jrnInt b s).mem = s.mem ∧ (jrnInt b s).hw = s.hw ∧ (jrnInt b s).sup.failSilent = s.sup.failSilent ∧ (jrnInt b s).pair = s.pair := by
  unfold jrnInt; simp
@[simp] theorem lowSegs_pending_mem_hw_sup_failSilent_pair (before : Nat) (s : State) :
    (lowSegs before s).pending = s.pending ∧ (lowSegs before s).mem = s.mem ∧ (lowSegs before s).hw = s.hw ∧ (lowSegs before s).sup.failSilent = s.sup.failSilent ∧ (lowSegs before s).pair = s.pair := by
  unfold lowSegs; simp
@[simp] theorem startPass_pending_mem_hw_sup_failSilent_pair (s : State) :
    (startPass s).pending = s.pending ∧ (startPass s).mem = s.mem ∧ (startPass s).hw = s.hw ∧ (startPass s).sup.failSilent = s.sup.failSilent ∧ (startPass s).pair = s.pair := by
  refine ⟨?_, ?_, ?_, ?_, ?_⟩ <;> (unfold startPass; rfl)
@[simp] theorem autoPass_pending_mem_hw_sup_failSilent_pair (s : State) :
    (autoPass s).pending = s.pending ∧ (autoPass s).mem = s.mem ∧ (autoPass s).hw = s.hw ∧ (autoPass s).sup.failSilent = s.sup.failSilent ∧ (autoPass s).pair = s.pair := by
  unfold autoPass; simp
@[simp] theorem numberCommit_pending_mem_hw_sup_failSilent_pair (task inst : Nat) (ds : List Delta) (draw : Nat) (s : State) :
    (numberCommit task inst ds draw s).pending = s.pending ∧ (numberCommit task inst ds draw s).mem = s.mem ∧ (numberCommit task inst ds draw s).hw = s.hw ∧ (numberCommit task inst ds draw s).sup.failSilent = s.sup.failSilent ∧ (numberCommit task inst ds draw s).pair = s.pair := by
  refine ⟨?_, ?_, ?_, ?_, ?_⟩ <;> (unfold numberCommit; rfl)
@[simp] theorem jrnCommit_pending_mem_hw_sup_failSilent_pair (task inst : Nat) (ds : List Delta) (s : State) :
    (jrnCommit task inst ds s).pending = s.pending ∧ (jrnCommit task inst ds s).mem = s.mem ∧ (jrnCommit task inst ds s).hw = s.hw ∧ (jrnCommit task inst ds s).sup.failSilent = s.sup.failSilent ∧ (jrnCommit task inst ds s).pair = s.pair := by
  unfold jrnCommit; simp
@[simp] theorem flushBuffer_pending_mem_hw_sup_failSilent_pair (s : State) :
    (flushBuffer s).pending = s.pending ∧ (flushBuffer s).mem = s.mem ∧ (flushBuffer s).hw = s.hw ∧ (flushBuffer s).sup.failSilent = s.sup.failSilent ∧ (flushBuffer s).pair = s.pair := by
  unfold flushBuffer; simp
@[simp] theorem jrnSwap_pending_mem_hw_sup_failSilent_pair (newId oldId base : Nat) (s : State) :
    (jrnSwap newId oldId base s).pending = s.pending ∧ (jrnSwap newId oldId base s).mem = s.mem ∧ (jrnSwap newId oldId base s).hw = s.hw ∧ (jrnSwap newId oldId base s).sup.failSilent = s.sup.failSilent ∧ (jrnSwap newId oldId base s).pair = s.pair := by
  unfold jrnSwap; simp
@[simp] theorem snapshotDone_pending_mem_hw_sup_failSilent_pair (base : Nat) (drop : JSeg → Bool) (s : State) :
    (snapshotDone base drop s).pending = s.pending ∧ (snapshotDone base drop s).mem = s.mem ∧ (snapshotDone base drop s).hw = s.hw ∧ (snapshotDone base drop s).sup.failSilent = s.sup.failSilent ∧ (snapshotDone base drop s).pair = s.pair := by
  unfold snapshotDone; simp
@[simp] theorem replay_pending_hw_sup_failSilent_pair (s : State) :
    (replay s).1.pending = s.pending ∧ (replay s).1.hw = s.hw ∧ (replay s).1.sup.failSilent = s.sup.failSilent ∧ (replay s).1.pair = s.pair := by
  unfold replay; split <;> simp
@[simp] theorem coldSnapshot_pending_mem_hw_sup_failSilent_pair (s : State) :
    (coldSnapshot s).pending = s.pending ∧ (coldSnapshot s).mem = s.mem ∧ (coldSnapshot s).hw = s.hw ∧ (coldSnapshot s).sup.failSilent = s.sup.failSilent ∧ (coldSnapshot s).pair = s.pair := by
  unfold coldSnapshot; simp
@[simp] theorem writeEvent_pending_hw_sup_failSilent_pair (r : EvRec) (s : State) :
    (writeEvent r s).pending = s.pending ∧ (writeEvent r s).hw = s.hw ∧ (writeEvent r s).sup.failSilent = s.sup.failSilent ∧ (writeEvent r s).pair = s.pair := by
  refine ⟨?_, ?_, ?_, ?_⟩ <;> (unfold writeEvent; rfl)
@[simp] theorem ringScan_pending_mem_hw_sup_failSilent_pair (s : State) :
    (ringScan s).pending = s.pending ∧ (ringScan s).mem = s.mem ∧ (ringScan s).hw = s.hw ∧ (ringScan s).sup.failSilent = s.sup.failSilent ∧ (ringScan s).pair = s.pair := by
  unfold ringScan; simp
@[simp] theorem anchor_pending_mem_hw_sup_failSilent_pair (s : State) :
    (anchor s).pending = s.pending ∧ (anchor s).mem = s.mem ∧ (anchor s).hw = s.hw ∧ (anchor s).sup.failSilent = s.sup.failSilent ∧ (anchor s).pair = s.pair := by
  unfold anchor; simp
@[simp] theorem lossRecord_pending_mem_hw_sup_failSilent_pair (s : State) :
    (lossRecord s).pending = s.pending ∧ (lossRecord s).mem = s.mem ∧ (lossRecord s).hw = s.hw ∧ (lossRecord s).sup.failSilent = s.sup.failSilent ∧ (lossRecord s).pair = s.pair := by
  unfold lossRecord; simp
@[simp] theorem setBucket_pending_mem_hw_sup_failSilent_pair (code : Nat) (cfg : Word) (s : State) :
    (setBucket code cfg s).pending = s.pending ∧ (setBucket code cfg s).mem = s.mem ∧ (setBucket code cfg s).hw = s.hw ∧ (setBucket code cfg s).sup.failSilent = s.sup.failSilent ∧ (setBucket code cfg s).pair = s.pair := by
  refine ⟨?_, ?_, ?_, ?_, ?_⟩ <;> (unfold setBucket; rfl)
@[simp] theorem bucketObj_pending_mem_hw_sup_failSilent_pair (v : List Byte) (s : State) :
    (bucketObj v s).pending = s.pending ∧ (bucketObj v s).mem = s.mem ∧ (bucketObj v s).hw = s.hw ∧ (bucketObj v s).sup.failSilent = s.sup.failSilent ∧ (bucketObj v s).pair = s.pair := by
  refine ⟨?_, ?_, ?_, ?_, ?_⟩ <;> (unfold bucketObj; rfl)
@[simp] theorem seasonPauseTo_pending_mem_hw_sup_failSilent_pair (p : Bool) (s : State) :
    (seasonPauseTo p s).pending = s.pending ∧ (seasonPauseTo p s).mem = s.mem ∧ (seasonPauseTo p s).hw = s.hw ∧ (seasonPauseTo p s).sup.failSilent = s.sup.failSilent ∧ (seasonPauseTo p s).pair = s.pair := by
  unfold seasonPauseTo; simp
@[simp] theorem doorbell_pending_mem_hw_sup_failSilent_pair (src : Nat) (s : State) :
    (doorbell src s).pending = s.pending ∧ (doorbell src s).mem = s.mem ∧ (doorbell src s).hw = s.hw ∧ (doorbell src s).sup.failSilent = s.sup.failSilent ∧ (doorbell src s).pair = s.pair := by
  unfold doorbell; simp
@[simp] theorem placeRel_pending_mem_hw_sup_failSilent_pair (c op task : Nat) (s : State) :
    (placeRel c op task s).pending = s.pending ∧ (placeRel c op task s).mem = s.mem ∧ (placeRel c op task s).hw = s.hw ∧ (placeRel c op task s).sup.failSilent = s.sup.failSilent ∧ (placeRel c op task s).pair = s.pair := by
  refine ⟨?_, ?_, ?_, ?_, ?_⟩ <;> (unfold placeRel; rfl)
@[simp] theorem embInt_pending_mem_hw_sup_failSilent_pair (b : Nat) (s : State) :
    (embInt b s).pending = s.pending ∧ (embInt b s).mem = s.mem ∧ (embInt b s).hw = s.hw ∧ (embInt b s).sup.failSilent = s.sup.failSilent ∧ (embInt b s).pair = s.pair := by
  unfold embInt; simp
@[simp] theorem recordCause_pending_mem_hw_sup_failSilent_pair (c : BitVec 5) (s : State) :
    (recordCause c s).pending = s.pending ∧ (recordCause c s).mem = s.mem ∧ (recordCause c s).hw = s.hw ∧ (recordCause c s).sup.failSilent = s.sup.failSilent ∧ (recordCause c s).pair = s.pair := by
  refine ⟨?_, ?_, ?_, ?_, ?_⟩ <;> (unfold recordCause; rfl)
@[simp] theorem endRequest_pending_mem_hw_sup_failSilent_pair (result : Nat) (s : State) :
    (endRequest result s).pending = s.pending ∧ (endRequest result s).mem = s.mem ∧ (endRequest result s).hw = s.hw ∧ (endRequest result s).sup.failSilent = s.sup.failSilent ∧ (endRequest result s).pair = s.pair := by
  refine ⟨?_, ?_, ?_, ?_, ?_⟩ <;> (unfold endRequest; rfl)
@[simp] theorem sleepAbort_pending_mem_hw_sup_failSilent_pair (c : BitVec 5) (s : State) :
    (sleepAbort c s).pending = s.pending ∧ (sleepAbort c s).mem = s.mem ∧ (sleepAbort c s).hw = s.hw ∧ (sleepAbort c s).sup.failSilent = s.sup.failSilent ∧ (sleepAbort c s).pair = s.pair := by
  unfold sleepAbort; simp
@[simp] theorem sleepRefuse_pending_mem_hw_sup_failSilent_pair (result : Nat) (s : State) :
    (sleepRefuse result s).pending = s.pending ∧ (sleepRefuse result s).mem = s.mem ∧ (sleepRefuse result s).hw = s.hw ∧ (sleepRefuse result s).sup.failSilent = s.sup.failSilent ∧ (sleepRefuse result s).pair = s.pair := by
  unfold sleepRefuse; simp
@[simp] theorem kilnOff_pending_mem_hw_sup_failSilent_pair (s : State) :
    (kilnOff s).pending = s.pending ∧ (kilnOff s).mem = s.mem ∧ (kilnOff s).hw = s.hw ∧ (kilnOff s).sup.failSilent = s.sup.failSilent ∧ (kilnOff s).pair = s.pair := by
  refine ⟨?_, ?_, ?_, ?_, ?_⟩ <;> (unfold kilnOff; rfl)
@[simp] theorem startWaking_pending_mem_hw_sup_failSilent_pair (c : BitVec 5) (s : State) :
    (startWaking c s).pending = s.pending ∧ (startWaking c s).mem = s.mem ∧ (startWaking c s).hw = s.hw ∧ (startWaking c s).sup.failSilent = s.sup.failSilent ∧ (startWaking c s).pair = s.pair := by
  refine ⟨?_, ?_, ?_, ?_, ?_⟩ <;> (unfold startWaking; rfl)
@[simp] theorem embSleep_pending_mem_hw_sup_failSilent_pair (level : Level) (word : Word) (s : State) :
    (embSleep level word s).pending = s.pending ∧ (embSleep level word s).mem = s.mem ∧ (embSleep level word s).hw = s.hw ∧ (embSleep level word s).sup.failSilent = s.sup.failSilent ∧ (embSleep level word s).pair = s.pair := by
  unfold embSleep; simp
@[simp] theorem respond_pending_mem_hw_sup_failSilent_pair (c : Client) (op : Byte) (arg : Nat) (data : List Byte) (s : State) :
    (respond c op arg data s).pending = s.pending ∧ (respond c op arg data s).mem = s.mem ∧ (respond c op arg data s).hw = s.hw ∧ (respond c op arg data s).sup.failSilent = s.sup.failSilent ∧ (respond c op arg data s).pair = s.pair := by
  refine ⟨?_, ?_, ?_, ?_, ?_⟩ <;> (unfold respond; rfl)
@[simp] theorem cfgDraw_pending_mem_hw_sup_failSilent_pair (s : State) :
    (cfgDraw s).pending = s.pending ∧ (cfgDraw s).mem = s.mem ∧ (cfgDraw s).hw = s.hw ∧ (cfgDraw s).sup.failSilent = s.sup.failSilent ∧ (cfgDraw s).pair = s.pair := by
  refine ⟨?_, ?_, ?_, ?_, ?_⟩ <;> (unfold cfgDraw; rfl)
@[simp] theorem retireRow_pending_mem_hw_pair (block : Byte) (cell row : Nat) (s : State) :
    (retireRow block cell row s).pending = s.pending ∧ (retireRow block cell row s).mem = s.mem ∧ (retireRow block cell row s).hw = s.hw ∧ (retireRow block cell row s).pair = s.pair := by
  refine ⟨?_, ?_, ?_, ?_⟩ <;> (unfold retireRow; rfl)
@[simp] theorem corrected_pending_mem_hw_pair (block : Byte) (cell row : Nat) (s : State) :
    (corrected block cell row s).pending = s.pending ∧ (corrected block cell row s).mem = s.mem ∧ (corrected block cell row s).hw = s.hw ∧ (corrected block cell row s).pair = s.pair := by
  unfold corrected; simp
@[simp] theorem uncorrectable_pending_mem_hw_pair_role_pair_epoch (block : Byte) (cell row : Nat) (s : State) :
    (uncorrectable block cell row s).pending = s.pending ∧ (uncorrectable block cell row s).mem = s.mem ∧ (uncorrectable block cell row s).hw = s.hw ∧ (uncorrectable block cell row s).pair.role = s.pair.role ∧ (uncorrectable block cell row s).pair.epoch = s.pair.epoch := by
  unfold uncorrectable; split <;> simp
@[simp] theorem bankReset_pending_mem_hw_sup_failSilent_pair (s : State) :
    (bankReset s).pending = s.pending ∧ (bankReset s).mem = s.mem ∧ (bankReset s).hw = s.hw ∧ (bankReset s).sup.failSilent = s.sup.failSilent ∧ (bankReset s).pair = s.pair := by
  unfold bankReset; simp
@[simp] theorem supFailSilent_pending_mem_hw_pair_role_pair_epoch (core : Nat) (level : Level) (word : Word) (s : State) :
    (supFailSilent core level word s).pending = s.pending ∧ (supFailSilent core level word s).mem = s.mem ∧ (supFailSilent core level word s).hw = s.hw ∧ (supFailSilent core level word s).pair.role = s.pair.role ∧ (supFailSilent core level word s).pair.epoch = s.pair.epoch := by
  unfold supFailSilent; simp
@[simp] theorem responseTimeout_pending_mem_hw_pair_role_pair_epoch (block : Byte) (cell : Nat) (master : Master) (s : State) :
    (responseTimeout block cell master s).pending = s.pending ∧ (responseTimeout block cell master s).mem = s.mem ∧ (responseTimeout block cell master s).hw = s.hw ∧ (responseTimeout block cell master s).pair.role = s.pair.role ∧ (responseTimeout block cell master s).pair.epoch = s.pair.epoch := by
  unfold responseTimeout; simp
@[simp] theorem gateInt_pending_mem_hw_sup_failSilent_pair (b : Nat) (s : State) :
    (gateInt b s).pending = s.pending ∧ (gateInt b s).mem = s.mem ∧ (gateInt b s).hw = s.hw ∧ (gateInt b s).sup.failSilent = s.sup.failSilent ∧ (gateInt b s).pair = s.pair := by
  unfold gateInt; simp
@[simp] theorem gateFault_pending_mem_hw_sup_failSilent_pair (m : Master) (level : Level) (op : BusOp) (a : Nat) (split fixed parity : Bool) (gate : Nat) (s : State) :
    (gateFault m level op a split fixed parity gate s).pending = s.pending ∧ (gateFault m level op a split fixed parity gate s).mem = s.mem ∧ (gateFault m level op a split fixed parity gate s).hw = s.hw ∧ (gateFault m level op a split fixed parity gate s).sup.failSilent = s.sup.failSilent ∧ (gateFault m level op a split fixed parity gate s).pair = s.pair := by
  unfold gateFault; simp
@[simp] theorem gateCommit_pending_mem_hw_sup_failSilent_pair (level : Level) (epoch : Word) (s : State) :
    (gateCommit level epoch s).pending = s.pending ∧ (gateCommit level epoch s).mem = s.mem ∧ (gateCommit level epoch s).hw = s.hw ∧ (gateCommit level epoch s).sup.failSilent = s.sup.failSilent ∧ (gateCommit level epoch s).pair = s.pair := by
  unfold gateCommit; dsimp only; (repeat' split) <;> simp
@[simp] theorem markRange_pending_mem_hw_sup_failSilent_pair (a len : Nat) (s : State) :
    (markRange a len s).pending = s.pending ∧ (markRange a len s).mem = s.mem ∧ (markRange a len s).hw = s.hw ∧ (markRange a len s).sup.failSilent = s.sup.failSilent ∧ (markRange a len s).pair = s.pair := by
  refine ⟨?_, ?_, ?_, ?_, ?_⟩ <;> (unfold markRange; rfl)
@[simp] theorem trkCtrl_pending_mem_hw_sup_failSilent_pair (word : Word) (s : State) :
    (trkCtrl word s).pending = s.pending ∧ (trkCtrl word s).mem = s.mem ∧ (trkCtrl word s).hw = s.hw ∧ (trkCtrl word s).sup.failSilent = s.sup.failSilent ∧ (trkCtrl word s).pair = s.pair := by
  unfold trkCtrl; simp
@[simp] theorem trackError_pending_mem_hw_sup_failSilent_pair (word : Nat) (s : State) :
    (trackError word s).pending = s.pending ∧ (trackError word s).mem = s.mem ∧ (trackError word s).hw = s.hw ∧ (trackError word s).sup.failSilent = s.sup.failSilent ∧ (trackError word s).pair = s.pair := by
  unfold trackError; simp
@[simp] theorem ruleParity_pending_mem_hw_pair_role_pair_epoch (gate rule : Nat) (s : State) :
    (ruleParity gate rule s).pending = s.pending ∧ (ruleParity gate rule s).mem = s.mem ∧ (ruleParity gate rule s).hw = s.hw ∧ (ruleParity gate rule s).pair.role = s.pair.role ∧ (ruleParity gate rule s).pair.epoch = s.pair.epoch := by
  unfold ruleParity; simp
@[simp] theorem reportCell_pending_mem_hw_pair_role_pair_epoch (e : CellEvent) (s : State) :
    (reportCell e s).pending = s.pending ∧ (reportCell e s).mem = s.mem ∧ (reportCell e s).hw = s.hw ∧ (reportCell e s).pair.role = s.pair.role ∧ (reportCell e s).pair.epoch = s.pair.epoch := by
  unfold reportCell; split <;> simp
@[simp] theorem gatePop_pending_mem_hw_sup_failSilent_pair (level : Level) (word : Word) (s : State) :
    (gatePop level word s).pending = s.pending ∧ (gatePop level word s).mem = s.mem ∧ (gatePop level word s).hw = s.hw ∧ (gatePop level word s).sup.failSilent = s.sup.failSilent ∧ (gatePop level word s).pair = s.pair := by
  unfold gatePop; simp
@[simp] theorem setTask_pending_mem_hw_sup_failSilent_pair (t : Nat) (f : Task → Task) (s : State) :
    (setTask t f s).pending = s.pending ∧ (setTask t f s).mem = s.mem ∧ (setTask t f s).hw = s.hw ∧ (setTask t f s).sup.failSilent = s.sup.failSilent ∧ (setTask t f s).pair = s.pair := by
  refine ⟨?_, ?_, ?_, ?_, ?_⟩ <;> (unfold setTask; rfl)
@[simp] theorem applyForces_pending_hw_sup_failSilent_pair (t : Nat) (sel : Sym → Bool) (s : State) :
    (applyForces t sel s).pending = s.pending ∧ (applyForces t sel s).hw = s.hw ∧ (applyForces t sel s).sup.failSilent = s.sup.failSilent ∧ (applyForces t sel s).pair = s.pair := by
  unfold applyForces; split <;> simp
@[simp] theorem reinitTask_pending_hw_sup_failSilent_pair (t : Nat) (s : State) :
    (reinitTask t s).pending = s.pending ∧ (reinitTask t s).hw = s.hw ∧ (reinitTask t s).sup.failSilent = s.sup.failSilent ∧ (reinitTask t s).pair = s.pair := by
  unfold reinitTask; split <;> simp
@[simp] theorem stopThreads_pending_mem_hw_sup_failSilent_pair (t : Nat) (cores : BitVec 8) (s : State) :
    (stopThreads t cores s).pending = s.pending ∧ (stopThreads t cores s).mem = s.mem ∧ (stopThreads t cores s).hw = s.hw ∧ (stopThreads t cores s).sup.failSilent = s.sup.failSilent ∧ (stopThreads t cores s).pair = s.pair := by
  unfold stopThreads; simp
@[simp] theorem faultTask_pending_mem_hw_sup_failSilent_pair (t cause : Nat) (s : State) :
    (faultTask t cause s).pending = s.pending ∧ (faultTask t cause s).mem = s.mem ∧ (faultTask t cause s).hw = s.hw ∧ (faultTask t cause s).sup.failSilent = s.sup.failSilent ∧ (faultTask t cause s).pair = s.pair := by
  unfold faultTask; simp
@[simp] theorem endFaulted_pending_mem_hw_sup_failSilent_pair (t : Nat) (s : State) :
    (endFaulted t s).pending = s.pending ∧ (endFaulted t s).mem = s.mem ∧ (endFaulted t s).hw = s.hw ∧ (endFaulted t s).sup.failSilent = s.sup.failSilent ∧ (endFaulted t s).pair = s.pair := by
  unfold endFaulted; simp
@[simp] theorem stopAndFault_pending_mem_hw_sup_failSilent_pair (t cause : Nat) (s : State) :
    (stopAndFault t cause s).pending = s.pending ∧ (stopAndFault t cause s).mem = s.mem ∧ (stopAndFault t cause s).hw = s.hw ∧ (stopAndFault t cause s).sup.failSilent = s.sup.failSilent ∧ (stopAndFault t cause s).pair = s.pair := by
  unfold stopAndFault; simp
@[simp] theorem resumeTask_pending_mem_hw_sup_failSilent_pair (t : Nat) (s : State) :
    (resumeTask t s).pending = s.pending ∧ (resumeTask t s).mem = s.mem ∧ (resumeTask t s).hw = s.hw ∧ (resumeTask t s).sup.failSilent = s.sup.failSilent ∧ (resumeTask t s).pair = s.pair := by
  refine ⟨?_, ?_, ?_, ?_, ?_⟩ <;> (unfold resumeTask; rfl)
@[simp] theorem skipInstance_pending_mem_hw_sup_failSilent_pair (t : Nat) (s : State) :
    (skipInstance t s).pending = s.pending ∧ (skipInstance t s).mem = s.mem ∧ (skipInstance t s).hw = s.hw ∧ (skipInstance t s).sup.failSilent = s.sup.failSilent ∧ (skipInstance t s).pair = s.pair := by
  unfold skipInstance; simp
@[simp] theorem release_pending_hw_sup_failSilent_pair (t origin inst : Nat) (s : State) :
    (release t origin inst s).pending = s.pending ∧ (release t origin inst s).hw = s.hw ∧ (release t origin inst s).sup.failSilent = s.sup.failSilent ∧ (release t origin inst s).pair = s.pair := by
  unfold release; simp
@[simp] theorem carryWrites_pending_mem_hw_sup_failSilent_pair (t : Nat) (s : State) :
    (carryWrites t s).pending = s.pending ∧ (carryWrites t s).mem = s.mem ∧ (carryWrites t s).hw = s.hw ∧ (carryWrites t s).sup.failSilent = s.sup.failSilent ∧ (carryWrites t s).pair = s.pair := by
  refine ⟨?_, ?_, ?_, ?_, ?_⟩ <;> (unfold carryWrites; rfl)
@[simp] theorem dropForce_pending_mem_hw_sup_failSilent_pair (id : Word) (s : State) :
    (dropForce id s).pending = s.pending ∧ (dropForce id s).mem = s.mem ∧ (dropForce id s).hw = s.hw ∧ (dropForce id s).sup.failSilent = s.sup.failSilent ∧ (dropForce id s).pair = s.pair := by
  refine ⟨?_, ?_, ?_, ?_, ?_⟩ <;> (unfold dropForce; rfl)
@[simp] theorem forceWrite_pending_mem_hw_sup_failSilent_pair (sub : Nat) (v : List Byte) (s : State) :
    (forceWrite sub v s).pending = s.pending ∧ (forceWrite sub v s).mem = s.mem ∧ (forceWrite sub v s).hw = s.hw ∧ (forceWrite sub v s).sup.failSilent = s.sup.failSilent ∧ (forceWrite sub v s).pair = s.pair := by
  unfold forceWrite; split <;> simp
@[simp] theorem writeVar_pending_hw_sup_failSilent_pair (t : Nat) (id : Word) (elem : Nat) (v : List Byte) (s : State) :
    (writeVar t id elem v s).pending = s.pending ∧ (writeVar t id elem v s).hw = s.hw ∧ (writeVar t id elem v s).sup.failSilent = s.sup.failSilent ∧ (writeVar t id elem v s).pair = s.pair := by
  unfold writeVar; split <;> simp
@[simp] theorem takeWrite_pending_hw_sup_failSilent_pair (t : Nat) (w : ProgW) (s : State) :
    (takeWrite t w s).pending = s.pending ∧ (takeWrite t w s).hw = s.hw ∧ (takeWrite t w s).sup.failSilent = s.sup.failSilent ∧ (takeWrite t w s).pair = s.pair := by
  unfold takeWrite; (repeat' split) <;> simp
@[simp] theorem takeWrites_pending_hw_sup_failSilent_pair (t : Nat) (s : State) :
    (takeWrites t s).pending = s.pending ∧ (takeWrites t s).hw = s.hw ∧ (takeWrites t s).sup.failSilent = s.sup.failSilent ∧ (takeWrites t s).pair = s.pair := by
  unfold takeWrites; simp
@[simp] theorem sendImage_pending_mem_hw_sup_failSilent_pair (t inst : Nat) (body : List Byte) (s : State) :
    (sendImage t inst body s).pending = s.pending ∧ (sendImage t inst body s).mem = s.mem ∧ (sendImage t inst body s).hw = s.hw ∧ (sendImage t inst body s).sup.failSilent = s.sup.failSilent ∧ (sendImage t inst body s).pair = s.pair := by
  unfold sendImage; simp
@[simp] theorem evalTriggers_pending_mem_hw_sup_failSilent_pair (t : Nat) (s : State) :
    (evalTriggers t s).1.pending = s.pending ∧ (evalTriggers t s).1.mem = s.mem ∧ (evalTriggers t s).1.hw = s.hw ∧ (evalTriggers t s).1.sup.failSilent = s.sup.failSilent ∧ (evalTriggers t s).1.pair = s.pair := by
  refine ⟨?_, ?_, ?_, ?_, ?_⟩ <;> (unfold evalTriggers; rfl)
@[simp] theorem copyTrigger_pending_hw_sup_failSilent_pair (e : Nat) (s : State) :
    (copyTrigger e s).pending = s.pending ∧ (copyTrigger e s).hw = s.hw ∧ (copyTrigger e s).sup.failSilent = s.sup.failSilent ∧ (copyTrigger e s).pair = s.pair := by
  refine ⟨?_, ?_, ?_, ?_⟩ <;> (unfold copyTrigger; rfl)
@[simp] theorem copyExchange_pending_hw_sup_failSilent_pair (t : Nat) (s : State) (x : Nat × Nat × Nat) :
    (copyExchange t s x).pending = s.pending ∧ (copyExchange t s x).hw = s.hw ∧ (copyExchange t s x).sup.failSilent = s.sup.failSilent ∧ (copyExchange t s x).pair = s.pair := by
  unfold copyExchange; simp
@[simp] theorem copyExchanges_pending_hw_sup_failSilent_pair (t : Nat) (s : State) :
    (copyExchanges t s).pending = s.pending ∧ (copyExchanges t s).hw = s.hw ∧ (copyExchanges t s).sup.failSilent = s.sup.failSilent ∧ (copyExchanges t s).pair = s.pair := by
  unfold copyExchanges; simp
@[simp] theorem releaseEvent_pending_hw_sup_failSilent_pair (t : Nat) (s : State) :
    (releaseEvent t s).pending = s.pending ∧ (releaseEvent t s).hw = s.hw ∧ (releaseEvent t s).sup.failSilent = s.sup.failSilent ∧ (releaseEvent t s).pair = s.pair := by
  unfold releaseEvent; simp
@[simp] theorem releasePending_pending_hw_sup_failSilent_pair (t : Nat) (s : State) :
    (releasePending t s).pending = s.pending ∧ (releasePending t s).hw = s.hw ∧ (releasePending t s).sup.failSilent = s.sup.failSilent ∧ (releasePending t s).pair = s.pair := by
  unfold releasePending; simp
@[simp] theorem lioFlag_pending_mem_hw_sup_failSilent_pair (b : Nat) (s : State) :
    (lioFlag b s).pending = s.pending ∧ (lioFlag b s).mem = s.mem ∧ (lioFlag b s).hw = s.hw ∧ (lioFlag b s).sup.failSilent = s.sup.failSilent ∧ (lioFlag b s).pair = s.pair := by
  refine ⟨?_, ?_, ?_, ?_, ?_⟩ <;> (unfold lioFlag; rfl)
@[simp] theorem readMark_pending_hw_sup_failSilent_pair (inputs : Half) (s : State) :
    (readMark inputs s).pending = s.pending ∧ (readMark inputs s).hw = s.hw ∧ (readMark inputs s).sup.failSilent = s.sup.failSilent ∧ (readMark inputs s).pair = s.pair := by
  unfold readMark; simp
@[simp] theorem markGroup_pending_mem_hw_sup_failSilent_pair (g : Nat) (s : State) :
    (markGroup g s).pending = s.pending ∧ (markGroup g s).mem = s.mem ∧ (markGroup g s).hw = s.hw ∧ (markGroup g s).sup.failSilent = s.sup.failSilent ∧ (markGroup g s).pair = s.pair := by
  unfold markGroup; simp
@[simp] theorem markLatch_pending_mem_hw_sup_failSilent_pair (s : State) :
    (markLatch s).pending = s.pending ∧ (markLatch s).mem = s.mem ∧ (markLatch s).hw = s.hw ∧ (markLatch s).sup.failSilent = s.sup.failSilent ∧ (markLatch s).pair = s.pair := by
  unfold markLatch; simp
@[simp] theorem writeMark_pending_mem_hw_sup_failSilent_pair (cool : Byte) (s : State) :
    (writeMark cool s).pending = s.pending ∧ (writeMark cool s).mem = s.mem ∧ (writeMark cool s).hw = s.hw ∧ (writeMark cool s).sup.failSilent = s.sup.failSilent ∧ (writeMark cool s).pair = s.pair := by
  unfold writeMark; simp
@[simp] theorem reEnable_pending_mem_hw_sup_failSilent_pair (g : Nat) (s : State) :
    (reEnable g s).pending = s.pending ∧ (reEnable g s).mem = s.mem ∧ (reEnable g s).hw = s.hw ∧ (reEnable g s).sup.failSilent = s.sup.failSilent ∧ (reEnable g s).pair = s.pair := by
  unfold reEnable; simp
@[simp] theorem reEnables_pending_mem_hw_sup_failSilent_pair (mask : Nat) (s : State) :
    (reEnables mask s).pending = s.pending ∧ (reEnables mask s).mem = s.mem ∧ (reEnables mask s).hw = s.hw ∧ (reEnables mask s).sup.failSilent = s.sup.failSilent ∧ (reEnables mask s).pair = s.pair := by
  unfold reEnables; simp
@[simp] theorem lioCommit_pending_mem_hw_sup_failSilent_pair (t : Nat) (s : State) :
    (lioCommit t s).pending = s.pending ∧ (lioCommit t s).mem = s.mem ∧ (lioCommit t s).hw = s.hw ∧ (lioCommit t s).sup.failSilent = s.sup.failSilent ∧ (lioCommit t s).pair = s.pair := by
  unfold lioCommit; simp
@[simp] theorem trip_pending_mem_hw_sup_failSilent_pair (g : Nat) (mv : Half) (s : State) :
    (trip g mv s).pending = s.pending ∧ (trip g mv s).mem = s.mem ∧ (trip g mv s).hw = s.hw ∧ (trip g mv s).sup.failSilent = s.sup.failSilent ∧ (trip g mv s).pair = s.pair := by
  unfold trip; simp
@[simp] theorem lioRearm_pending_mem_hw_sup_failSilent_pair (level : Level) (word : Word) (s : State) :
    (lioRearm level word s).pending = s.pending ∧ (lioRearm level word s).mem = s.mem ∧ (lioRearm level word s).hw = s.hw ∧ (lioRearm level word s).sup.failSilent = s.sup.failSilent ∧ (lioRearm level word s).pair = s.pair := by
  unfold lioRearm; simp
@[simp] theorem hckInt_pending_mem_hw_sup_failSilent_pair (b : Nat) (s : State) :
    (hckInt b s).pending = s.pending ∧ (hckInt b s).mem = s.mem ∧ (hckInt b s).hw = s.hw ∧ (hckInt b s).sup.failSilent = s.sup.failSilent ∧ (hckInt b s).pair = s.pair := by
  unfold hckInt; simp
@[simp] theorem rtcIntBit_pending_mem_hw_sup_failSilent_pair (b : Nat) (s : State) :
    (rtcIntBit b s).pending = s.pending ∧ (rtcIntBit b s).mem = s.mem ∧ (rtcIntBit b s).hw = s.hw ∧ (rtcIntBit b s).sup.failSilent = s.sup.failSilent ∧ (rtcIntBit b s).pair = s.pair := by
  unfold rtcIntBit; simp
@[simp] theorem holdRegions_pending_mem_hw_sup_failSilent_pair (s : State) :
    (holdRegions s).pending = s.pending ∧ (holdRegions s).mem = s.mem ∧ (holdRegions s).hw = s.hw ∧ (holdRegions s).sup.failSilent = s.sup.failSilent ∧ (holdRegions s).pair = s.pair := by
  refine ⟨?_, ?_, ?_, ?_, ?_⟩ <;> (unfold holdRegions; rfl)
@[simp] theorem enterClockHold_pending_mem_hw_sup_failSilent (code : Nat) (s : State) :
    (enterClockHold code s).pending = s.pending ∧ (enterClockHold code s).mem = s.mem ∧ (enterClockHold code s).hw = s.hw ∧ (enterClockHold code s).sup.failSilent = s.sup.failSilent := by
  unfold enterClockHold; simp
@[simp] theorem sourceFails_pending_mem_hw_sup_failSilent (src : Source) (s : State) :
    (sourceFails src s).pending = s.pending ∧ (sourceFails src s).mem = s.mem ∧ (sourceFails src s).hw = s.hw ∧ (sourceFails src s).sup.failSilent = s.sup.failSilent := by
  unfold sourceFails; simp
@[simp] theorem sourceJudged_pending_mem_hw_sup_failSilent_pair (src : Source) (s : State) :
    (sourceJudged src s).pending = s.pending ∧ (sourceJudged src s).mem = s.mem ∧ (sourceJudged src s).hw = s.hw ∧ (sourceJudged src s).sup.failSilent = s.sup.failSilent ∧ (sourceJudged src s).pair = s.pair := by
  unfold sourceJudged; split <;> simp
@[simp] theorem kdvTarget_pending_mem_hw_sup_failSilent_pair (level : Level) (word : Word) (s : State) :
    (kdvTarget level word s).pending = s.pending ∧ (kdvTarget level word s).mem = s.mem ∧ (kdvTarget level word s).hw = s.hw ∧ (kdvTarget level word s).sup.failSilent = s.sup.failSilent ∧ (kdvTarget level word s).pair = s.pair := by
  unfold kdvTarget; simp
@[simp] theorem dvfsDone_pending_mem_hw_sup_failSilent_pair (s : State) :
    (dvfsDone s).pending = s.pending ∧ (dvfsDone s).mem = s.mem ∧ (dvfsDone s).hw = s.hw ∧ (dvfsDone s).sup.failSilent = s.sup.failSilent ∧ (dvfsDone s).pair = s.pair := by
  unfold dvfsDone; split <;> simp
@[simp] theorem trimWindow_pending_mem_hw_sup_failSilent_pair (count : Nat) (s : State) :
    (trimWindow count s).pending = s.pending ∧ (trimWindow count s).mem = s.mem ∧ (trimWindow count s).hw = s.hw ∧ (trimWindow count s).sup.failSilent = s.sup.failSilent ∧ (trimWindow count s).pair = s.pair := by
  unfold trimWindow; simp
@[simp] theorem servoStep_pending_mem_hw_sup_failSilent_pair (s : State) :
    (servoStep s).pending = s.pending ∧ (servoStep s).mem = s.mem ∧ (servoStep s).hw = s.hw ∧ (servoStep s).sup.failSilent = s.sup.failSilent ∧ (servoStep s).pair = s.pair := by
  refine ⟨?_, ?_, ?_, ?_, ?_⟩ <;> (unfold servoStep; rfl)
@[simp] theorem followTime_pending_mem_hw_sup_failSilent_pair (s : State) :
    (followTime s).pending = s.pending ∧ (followTime s).mem = s.mem ∧ (followTime s).hw = s.hw ∧ (followTime s).sup.failSilent = s.sup.failSilent ∧ (followTime s).pair = s.pair := by
  refine ⟨?_, ?_, ?_, ?_, ?_⟩ <;> (unfold followTime; rfl)
@[simp] theorem masterLost_pending_mem_hw_sup_failSilent_pair (m : Option DWord) (s : State) :
    (masterLost m s).pending = s.pending ∧ (masterLost m s).mem = s.mem ∧ (masterLost m s).hw = s.hw ∧ (masterLost m s).sup.failSilent = s.sup.failSilent ∧ (masterLost m s).pair = s.pair := by
  unfold masterLost; simp
@[simp] theorem ptpMessage_pending_mem_hw_sup_failSilent_pair (m : PtpMsg) (s : State) :
    (ptpMessage m s).pending = s.pending ∧ (ptpMessage m s).mem = s.mem ∧ (ptpMessage m s).hw = s.hw ∧ (ptpMessage m s).sup.failSilent = s.sup.failSilent ∧ (ptpMessage m s).pair = s.pair := by
  unfold ptpMessage; (repeat' split) <;> simp
@[simp] theorem rtcSet_pending_mem_hw_sup_failSilent_pair (v : DWord) (s : State) :
    (rtcSet v s).pending = s.pending ∧ (rtcSet v s).mem = s.mem ∧ (rtcSet v s).hw = s.hw ∧ (rtcSet v s).sup.failSilent = s.sup.failSilent ∧ (rtcSet v s).pair = s.pair := by
  unfold rtcSet; simp
@[simp] theorem timSet_pending_mem_hw_sup_failSilent_pair (level : Level) (v : DWord) (s : State) :
    (timSet level v s).pending = s.pending ∧ (timSet level v s).mem = s.mem ∧ (timSet level v s).hw = s.hw ∧ (timSet level v s).sup.failSilent = s.sup.failSilent ∧ (timSet level v s).pair = s.pair := by
  unfold timSet; simp
@[simp] theorem timIncr_pending_mem_hw_sup_failSilent_pair (level : Level) (v : DWord) (s : State) :
    (timIncr level v s).pending = s.pending ∧ (timIncr level v s).mem = s.mem ∧ (timIncr level v s).hw = s.hw ∧ (timIncr level v s).sup.failSilent = s.sup.failSilent ∧ (timIncr level v s).pair = s.pair := by
  unfold timIncr; simp
@[simp] theorem audInt_pending_mem_hw_sup_failSilent_pair (b : Nat) (s : State) :
    (audInt b s).pending = s.pending ∧ (audInt b s).mem = s.mem ∧ (audInt b s).hw = s.hw ∧ (audInt b s).sup.failSilent = s.sup.failSilent ∧ (audInt b s).pair = s.pair := by
  refine ⟨?_, ?_, ?_, ?_, ?_⟩ <;> (unfold audInt; rfl)
@[simp] theorem cordPost_pending_mem_hw_sup_failSilent_pair (code : Nat) (data : List Byte) (s : State) :
    (cordPost code data s).pending = s.pending ∧ (cordPost code data s).mem = s.mem ∧ (cordPost code data s).hw = s.hw ∧ (cordPost code data s).sup.failSilent = s.sup.failSilent ∧ (cordPost code data s).pair = s.pair := by
  unfold cordPost; simp
@[simp] theorem audWrite_pending_hw_pair_role_pair_epoch (stage : List Byte) (mramOk : Bool) (s : State) :
    (audWrite stage mramOk s).1.pending = s.pending ∧ (audWrite stage mramOk s).1.hw = s.hw ∧ (audWrite stage mramOk s).1.pair.role = s.pair.role ∧ (audWrite stage mramOk s).1.pair.epoch = s.pair.epoch := by
  unfold audWrite; dsimp only; (repeat' split) <;> simp
@[simp] theorem audLevels_pending_hw_pair_role_pair_epoch (before : Nat) (s : State) :
    (audLevels before s).pending = s.pending ∧ (audLevels before s).hw = s.hw ∧ (audLevels before s).pair.role = s.pair.role ∧ (audLevels before s).pair.epoch = s.pair.epoch := by
  unfold audLevels; simp
@[simp] theorem cordAppend_pending_hw_pair_role_pair_epoch (kind ch index sub typ old new actor : Nat) (s : State) :
    (cordAppend kind ch index sub typ old new actor s).1.pending = s.pending ∧ (cordAppend kind ch index sub typ old new actor s).1.hw = s.hw ∧ (cordAppend kind ch index sub typ old new actor s).1.pair.role = s.pair.role ∧ (cordAppend kind ch index sub typ old new actor s).1.pair.epoch = s.pair.epoch := by
  unfold cordAppend; split <;> simp
@[simp] theorem putUnit_pending_hw_sup_failSilent_pair (a : Nat) (body : List Byte) (s : State) :
    (putUnit a body s).pending = s.pending ∧ (putUnit a body s).hw = s.hw ∧ (putUnit a body s).sup.failSilent = s.sup.failSilent ∧ (putUnit a body s).pair = s.pair := by
  refine ⟨?_, ?_, ?_, ?_⟩ <;> (unfold putUnit; rfl)
@[simp] theorem republish_pending_hw_sup_failSilent_pair (n : Nat) (s : State) :
    (republish n s).pending = s.pending ∧ (republish n s).hw = s.hw ∧ (republish n s).sup.failSilent = s.sup.failSilent ∧ (republish n s).pair = s.pair := by
  refine ⟨?_, ?_, ?_, ?_⟩ <;> (unfold republish; rfl)
@[simp] theorem setFw_pending_mem_hw_sup_failSilent_pair (comp : Nat) (f : FwRun) (s : State) :
    (setFw comp f s).pending = s.pending ∧ (setFw comp f s).mem = s.mem ∧ (setFw comp f s).hw = s.hw ∧ (setFw comp f s).sup.failSilent = s.sup.failSilent ∧ (setFw comp f s).pair = s.pair := by
  refine ⟨?_, ?_, ?_, ?_, ?_⟩ <;> (unfold setFw; rfl)
@[simp] theorem advanceArb_pending_mem_hw_sup_failSilent_pair (comp : Nat) (s : State) :
    (advanceArb comp s).pending = s.pending ∧ (advanceArb comp s).mem = s.mem ∧ (advanceArb comp s).hw = s.hw ∧ (advanceArb comp s).sup.failSilent = s.sup.failSilent ∧ (advanceArb comp s).pair = s.pair := by
  unfold advanceArb; simp
@[simp] theorem svnAuto_pending_mem_hw_sup_failSilent_pair (s : State) :
    (svnAuto s).pending = s.pending ∧ (svnAuto s).mem = s.mem ∧ (svnAuto s).hw = s.hw ∧ (svnAuto s).sup.failSilent = s.sup.failSilent ∧ (svnAuto s).pair = s.pair := by
  unfold svnAuto; simp
@[simp] theorem storeProgram_pending_hw_sup_failSilent_pair (b : List Byte) (s : State) :
    (storeProgram b s).pending = s.pending ∧ (storeProgram b s).hw = s.hw ∧ (storeProgram b s).sup.failSilent = s.sup.failSilent ∧ (storeProgram b s).pair = s.pair := by
  unfold storeProgram; simp
@[simp] theorem ksPost_pending_mem_hw_sup_failSilent_pair (code : Nat) (data : List Byte) (s : State) :
    (ksPost code data s).pending = s.pending ∧ (ksPost code data s).mem = s.mem ∧ (ksPost code data s).hw = s.hw ∧ (ksPost code data s).sup.failSilent = s.sup.failSilent ∧ (ksPost code data s).pair = s.pair := by
  unfold ksPost; simp
@[simp] theorem zeroise_pending_mem_hw_sup_failSilent_pair (s : State) :
    (zeroise s).pending = s.pending ∧ (zeroise s).mem = s.mem ∧ (zeroise s).hw = s.hw ∧ (zeroise s).sup.failSilent = s.sup.failSilent ∧ (zeroise s).pair = s.pair := by
  unfold zeroise; simp
@[simp] theorem generateKeys_pending_mem_hw_sup_failSilent_pair (s : State) :
    (generateKeys s).pending = s.pending ∧ (generateKeys s).mem = s.mem ∧ (generateKeys s).hw = s.hw ∧ (generateKeys s).sup.failSilent = s.sup.failSilent ∧ (generateKeys s).pair = s.pair := by
  unfold generateKeys; split <;> simp
@[simp] theorem verifierEntry_pending_hw_pair_role_pair_epoch (s : State) (old new : List Byte) :
    (verifierEntry s old new).1.pending = s.pending ∧ (verifierEntry s old new).1.hw = s.hw ∧ (verifierEntry s old new).1.pair.role = s.pair.role ∧ (verifierEntry s old new).1.pair.epoch = s.pair.epoch := by
  unfold verifierEntry; simp
@[simp] theorem revokeSessions_pending_mem_hw_sup_failSilent_pair (slot : Nat) (s : State) :
    (revokeSessions slot s).pending = s.pending ∧ (revokeSessions slot s).mem = s.mem ∧ (revokeSessions slot s).hw = s.hw ∧ (revokeSessions slot s).sup.failSilent = s.sup.failSilent ∧ (revokeSessions slot s).pair = s.pair := by
  refine ⟨?_, ?_, ?_, ?_, ?_⟩ <;> (unfold revokeSessions; rfl)
@[simp] theorem ksLoad_pending_mem_hw_sup_failSilent_pair (b : List Byte) (s : State) :
    (ksLoad b s).1.pending = s.pending ∧ (ksLoad b s).1.mem = s.mem ∧ (ksLoad b s).1.hw = s.hw ∧ (ksLoad b s).1.sup.failSilent = s.sup.failSilent ∧ (ksLoad b s).1.pair = s.pair := by
  unfold ksLoad; dsimp only; (repeat' split) <;> simp
@[simp] theorem ksDone_pending_mem_hw_sup_failSilent_pair (cmd result : Nat) (s : State) :
    (ksDone cmd result s).pending = s.pending ∧ (ksDone cmd result s).mem = s.mem ∧ (ksDone cmd result s).hw = s.hw ∧ (ksDone cmd result s).sup.failSilent = s.sup.failSilent ∧ (ksDone cmd result s).pair = s.pair := by
  refine ⟨?_, ?_, ?_, ?_, ?_⟩ <;> (unfold ksDone; rfl)
@[simp] theorem sclInt_pending_mem_hw_sup_failSilent_pair (b : Nat) (s : State) :
    (sclInt b s).pending = s.pending ∧ (sclInt b s).mem = s.mem ∧ (sclInt b s).hw = s.hw ∧ (sclInt b s).sup.failSilent = s.sup.failSilent ∧ (sclInt b s).pair = s.pair := by
  refine ⟨?_, ?_, ?_, ?_, ?_⟩ <;> (unfold sclInt; rfl)
@[simp] theorem putCh_pending_mem_hw_sup_failSilent_pair (p : Nat) (c : ScCh) (s : State) :
    (putCh p c s).pending = s.pending ∧ (putCh p c s).mem = s.mem ∧ (putCh p c s).hw = s.hw ∧ (putCh p c s).sup.failSilent = s.sup.failSilent ∧ (putCh p c s).pair = s.pair := by
  refine ⟨?_, ?_, ?_, ?_, ?_⟩ <;> (unfold putCh; rfl)
@[simp] theorem mapRecords_pending_hw_sup_failSilent_pair (t : Nat) (s : State) :
    (mapRecords t s).pending = s.pending ∧ (mapRecords t s).hw = s.hw ∧ (mapRecords t s).sup.failSilent = s.sup.failSilent ∧ (mapRecords t s).pair = s.pair := by
  unfold mapRecords; simp
@[simp] theorem putStatus_pending_hw_sup_failSilent_pair (n p : Nat) (s : State) :
    (putStatus n p s).pending = s.pending ∧ (putStatus n p s).hw = s.hw ∧ (putStatus n p s).sup.failSilent = s.sup.failSilent ∧ (putStatus n p s).pair = s.pair := by
  unfold putStatus; simp
@[simp] theorem putRecord_pending_hw_sup_failSilent_pair (n : Nat) (r : List Byte) (s : State) :
    (putRecord n r s).pending = s.pending ∧ (putRecord n r s).hw = s.hw ∧ (putRecord n r s).sup.failSilent = s.sup.failSilent ∧ (putRecord n r s).pair = s.pair := by
  unfold putRecord; simp
@[simp] theorem spareMove_pending_hw_pair_role_pair_epoch (n p : Nat) (s : State) :
    (spareMove n p s).pending = s.pending ∧ (spareMove n p s).hw = s.hw ∧ (spareMove n p s).pair.role = s.pair.role ∧ (spareMove n p s).pair.epoch = s.pair.epoch := by
  unfold spareMove; dsimp only; (repeat' split) <;> simp
@[simp] theorem selfCheckFailed_pending_hw_pair_role_pair_epoch (n p : Nat) (s : State) :
    (selfCheckFailed n p s).pending = s.pending ∧ (selfCheckFailed n p s).hw = s.hw ∧ (selfCheckFailed n p s).pair.role = s.pair.role ∧ (selfCheckFailed n p s).pair.epoch = s.pair.epoch := by
  unfold selfCheckFailed; simp
@[simp] theorem takeOut_pending_hw_pair_role_pair_epoch (n p : Nat) (soft keyed : Bool) (o : ScOut) (s : State) :
    (takeOut n p soft keyed o s).pending = s.pending ∧ (takeOut n p soft keyed o s).hw = s.hw ∧ (takeOut n p soft keyed o s).pair.role = s.pair.role ∧ (takeOut n p soft keyed o s).pair.epoch = s.pair.epoch := by
  unfold takeOut; simp
@[simp] theorem handChannel_pending_hw_pair_role_pair_epoch (tag : Nat) (time : DWord) (n : Nat) (s : State) :
    (handChannel tag time n s).pending = s.pending ∧ (handChannel tag time n s).hw = s.hw ∧ (handChannel tag time n s).pair.role = s.pair.role ∧ (handChannel tag time n s).pair.epoch = s.pair.epoch := by
  unfold handChannel; split <;> simp
@[simp] theorem takeSlot_pending_hw_sup_failSilent_pair (n : Nat) (k : ScaleCmd) (s : State) :
    (takeSlot n k s).pending = s.pending ∧ (takeSlot n k s).hw = s.hw ∧ (takeSlot n k s).sup.failSilent = s.sup.failSilent ∧ (takeSlot n k s).pair = s.pair := by
  unfold takeSlot; (repeat' split) <;> simp
@[simp] theorem handSlots_pending_hw_sup_failSilent_pair (t tag : Nat) (s : State) :
    (handSlots t tag s).pending = s.pending ∧ (handSlots t tag s).hw = s.hw ∧ (handSlots t tag s).sup.failSilent = s.sup.failSilent ∧ (handSlots t tag s).pair = s.pair := by
  unfold handSlots; simp
@[simp] theorem discardPending_pending_mem_hw_sup_failSilent_pair (n p : Nat) (s : State) :
    (discardPending n p s).pending = s.pending ∧ (discardPending n p s).mem = s.mem ∧ (discardPending n p s).hw = s.hw ∧ (discardPending n p s).sup.failSilent = s.sup.failSilent ∧ (discardPending n p s).pair = s.pair := by
  unfold discardPending; simp
@[simp] theorem startLogical_pending_hw_sup_failSilent_pair (n : Nat) (s : State) :
    (startLogical n s).pending = s.pending ∧ (startLogical n s).hw = s.hw ∧ (startLogical n s).sup.failSilent = s.sup.failSilent ∧ (startLogical n s).pair = s.pair := by
  unfold startLogical; split <;> simp
@[simp] theorem applyFront_pending_hw_sup_failSilent_pair (cmd channel : Nat) (s : State) :
    (applyFront cmd channel s).pending = s.pending ∧ (applyFront cmd channel s).hw = s.hw ∧ (applyFront cmd channel s).sup.failSilent = s.sup.failSilent ∧ (applyFront cmd channel s).pair = s.pair := by
  unfold applyFront; dsimp only; (repeat' split) <;> simp
@[simp] theorem sclStart_pending_mem_hw_sup_failSilent_pair (s : State) :
    (sclStart s).pending = s.pending ∧ (sclStart s).mem = s.mem ∧ (sclStart s).hw = s.hw ∧ (sclStart s).sup.failSilent = s.sup.failSilent ∧ (sclStart s).pair = s.pair := by
  unfold sclStart; simp
@[simp] theorem sclStop_pending_mem_hw_sup_failSilent_pair (s : State) :
    (sclStop s).pending = s.pending ∧ (sclStop s).mem = s.mem ∧ (sclStop s).hw = s.hw ∧ (sclStop s).sup.failSilent = s.sup.failSilent ∧ (sclStop s).pair = s.pair := by
  unfold sclStop; simp
@[simp] theorem sclAdopt_pending_mem_hw_sup_failSilent_pair (s : State) :
    (sclAdopt s).pending = s.pending ∧ (sclAdopt s).mem = s.mem ∧ (sclAdopt s).hw = s.hw ∧ (sclAdopt s).sup.failSilent = s.sup.failSilent ∧ (sclAdopt s).pair = s.pair := by
  refine ⟨?_, ?_, ?_, ?_, ?_⟩ <;> (unfold sclAdopt; rfl)
@[simp] theorem sclRetire_pending_mem_hw_sup_failSilent_pair (s : State) :
    (sclRetire s).pending = s.pending ∧ (sclRetire s).mem = s.mem ∧ (sclRetire s).hw = s.hw ∧ (sclRetire s).sup.failSilent = s.sup.failSilent ∧ (sclRetire s).pair = s.pair := by
  refine ⟨?_, ?_, ?_, ?_, ?_⟩ <;> (unfold sclRetire; rfl)
@[simp] theorem crdInt_pending_mem_hw_sup_failSilent_pair (b : Nat) (s : State) :
    (crdInt b s).pending = s.pending ∧ (crdInt b s).mem = s.mem ∧ (crdInt b s).hw = s.hw ∧ (crdInt b s).sup.failSilent = s.sup.failSilent ∧ (crdInt b s).pair = s.pair := by
  refine ⟨?_, ?_, ?_, ?_, ?_⟩ <;> (unfold crdInt; rfl)
@[simp] theorem fails_pending_mem_hw_sup_failSilent_pair (code : Nat) (s : State) :
    (fails code s).1.pending = s.pending ∧ (fails code s).1.mem = s.mem ∧ (fails code s).1.hw = s.hw ∧ (fails code s).1.sup.failSilent = s.sup.failSilent ∧ (fails code s).1.pair = s.pair := by
  refine ⟨?_, ?_, ?_, ?_, ?_⟩ <;> (unfold fails; rfl)
@[simp] theorem okay_pending_mem_hw_sup_failSilent_pair (s : State) :
    (okay s).1.pending = s.pending ∧ (okay s).1.mem = s.mem ∧ (okay s).1.hw = s.hw ∧ (okay s).1.sup.failSilent = s.sup.failSilent ∧ (okay s).1.pair = s.pair := by
  refine ⟨?_, ?_, ?_, ?_, ?_⟩ <;> (unfold okay; rfl)
@[simp] theorem reqDoor_pending_mem_hw_sup_failSilent_pair (master : Master) (level : Level) (seq : Word) (s : State) :
    (reqDoor master level seq s).pending = s.pending ∧ (reqDoor master level seq s).mem = s.mem ∧ (reqDoor master level seq s).hw = s.hw ∧ (reqDoor master level seq s).sup.failSilent = s.sup.failSilent ∧ (reqDoor master level seq s).pair = s.pair := by
  unfold reqDoor; simp
@[simp] theorem mbxRsp_pending_mem_hw_sup_failSilent_pair (seq : Word) (s : State) :
    (mbxRsp seq s).pending = s.pending ∧ (mbxRsp seq s).mem = s.mem ∧ (mbxRsp seq s).hw = s.hw ∧ (mbxRsp seq s).sup.failSilent = s.sup.failSilent ∧ (mbxRsp seq s).pair = s.pair := by
  unfold mbxRsp; simp
@[simp] theorem componentFailed_pending_mem_hw_sup_failSilent_pair (comp : Nat) (s : State) :
    (componentFailed comp s).pending = s.pending ∧ (componentFailed comp s).mem = s.mem ∧ (componentFailed comp s).hw = s.hw ∧ (componentFailed comp s).sup.failSilent = s.sup.failSilent ∧ (componentFailed comp s).pair = s.pair := by
  unfold componentFailed; simp
@[simp] theorem startFirmware_pending_mem_hw_sup_failSilent_pair (h body : List Byte) (s : State) :
    (startFirmware h body s).pending = s.pending ∧ (startFirmware h body s).mem = s.mem ∧ (startFirmware h body s).hw = s.hw ∧ (startFirmware h body s).sup.failSilent = s.sup.failSilent ∧ (startFirmware h body s).pair = s.pair := by
  refine ⟨?_, ?_, ?_, ?_, ?_⟩ <;> (unfold startFirmware; rfl)
@[simp] theorem startMicrocode_pending_mem_hw_sup_failSilent_pair (h body : List Byte) (s : State) :
    (startMicrocode h body s).pending = s.pending ∧ (startMicrocode h body s).mem = s.mem ∧ (startMicrocode h body s).hw = s.hw ∧ (startMicrocode h body s).sup.failSilent = s.sup.failSilent ∧ (startMicrocode h body s).pair = s.pair := by
  refine ⟨?_, ?_, ?_, ?_, ?_⟩ <;> (unfold startMicrocode; rfl)
@[simp] theorem opLoadBegin_pending_mem_hw_sup_failSilent_pair (m : MbxRq) (s : State) :
    (opLoadBegin m s).1.pending = s.pending ∧ (opLoadBegin m s).1.mem = s.mem ∧ (opLoadBegin m s).1.hw = s.hw ∧ (opLoadBegin m s).1.sup.failSilent = s.sup.failSilent ∧ (opLoadBegin m s).1.pair = s.pair := by
  unfold opLoadBegin; dsimp only; (repeat' split) <;> simp
@[simp] theorem opLoadData_pending_mem_hw_sup_failSilent_pair (m : MbxRq) (s : State) :
    (opLoadData m s).1.pending = s.pending ∧ (opLoadData m s).1.mem = s.mem ∧ (opLoadData m s).1.hw = s.hw ∧ (opLoadData m s).1.sup.failSilent = s.sup.failSilent ∧ (opLoadData m s).1.pair = s.pair := by
  unfold opLoadData; (repeat' split) <;> simp
@[simp] theorem opLoadEnd_pending_mem_hw_sup_failSilent_pair (m : MbxRq) (s : State) :
    (opLoadEnd m s).1.pending = s.pending ∧ (opLoadEnd m s).1.mem = s.mem ∧ (opLoadEnd m s).1.hw = s.hw ∧ (opLoadEnd m s).1.sup.failSilent = s.sup.failSilent ∧ (opLoadEnd m s).1.pair = s.pair := by
  unfold opLoadEnd; dsimp only; (repeat' split) <;> simp
@[simp] theorem opObjRead_pending_mem_hw_sup_failSilent_pair (m : MbxRq) (s : State) :
    (opObjRead m s).1.pending = s.pending ∧ (opObjRead m s).1.mem = s.mem ∧ (opObjRead m s).1.hw = s.hw ∧ (opObjRead m s).1.sup.failSilent = s.sup.failSilent ∧ (opObjRead m s).1.pair = s.pair := by
  unfold opObjRead; dsimp only; (repeat' split) <;> simp
@[simp] theorem afterLegal_pending_hw_sup_failSilent_pair (n : Nat) (s : State) :
    (afterLegal n s).pending = s.pending ∧ (afterLegal n s).hw = s.hw ∧ (afterLegal n s).sup.failSilent = s.sup.failSilent ∧ (afterLegal n s).pair = s.pair := by
  unfold afterLegal; simp
@[simp] theorem clearVmode_pending_mem_hw_sup_failSilent_pair (s : State) :
    (clearVmode s).pending = s.pending ∧ (clearVmode s).mem = s.mem ∧ (clearVmode s).hw = s.hw ∧ (clearVmode s).sup.failSilent = s.sup.failSilent ∧ (clearVmode s).pair = s.pair := by
  unfold clearVmode; simp
@[simp] theorem closeVerifier_pending_hw_pair_role_pair_epoch (reason : Nat) (s : State) :
    (closeVerifier reason s).pending = s.pending ∧ (closeVerifier reason s).hw = s.hw ∧ (closeVerifier reason s).pair.role = s.pair.role ∧ (closeVerifier reason s).pair.epoch = s.pair.epoch := by
  unfold closeVerifier; split <;> simp
@[simp] theorem proofFails_pending_mem_hw_sup_failSilent_pair (s : State) :
    (proofFails s).1.pending = s.pending ∧ (proofFails s).1.mem = s.mem ∧ (proofFails s).1.hw = s.hw ∧ (proofFails s).1.sup.failSilent = s.sup.failSilent ∧ (proofFails s).1.pair = s.pair := by
  unfold proofFails; simp
@[simp] theorem opClose_pending_hw_pair_role_pair_epoch (m : MbxRq) (s : State) :
    (opClose m s).1.pending = s.pending ∧ (opClose m s).1.hw = s.hw ∧ (opClose m s).1.pair.role = s.pair.role ∧ (opClose m s).1.pair.epoch = s.pair.epoch := by
  unfold opClose; split <;> simp
@[simp] theorem opAuditRead_pending_mem_hw_sup_failSilent_pair (m : MbxRq) (s : State) :
    (opAuditRead m s).1.pending = s.pending ∧ (opAuditRead m s).1.mem = s.mem ∧ (opAuditRead m s).1.hw = s.hw ∧ (opAuditRead m s).1.sup.failSilent = s.sup.failSilent ∧ (opAuditRead m s).1.pair = s.pair := by
  unfold opAuditRead; dsimp only; (repeat' split) <;> simp
@[simp] theorem opUpdBegin_pending_mem_hw_sup_failSilent_pair (m : MbxRq) (s : State) :
    (opUpdBegin m s).1.pending = s.pending ∧ (opUpdBegin m s).1.mem = s.mem ∧ (opUpdBegin m s).1.hw = s.hw ∧ (opUpdBegin m s).1.sup.failSilent = s.sup.failSilent ∧ (opUpdBegin m s).1.pair = s.pair := by
  unfold opUpdBegin; dsimp only; (repeat' split) <;> simp
@[simp] theorem opUpdData_pending_mem_hw_sup_failSilent_pair (m : MbxRq) (s : State) :
    (opUpdData m s).1.pending = s.pending ∧ (opUpdData m s).1.mem = s.mem ∧ (opUpdData m s).1.hw = s.hw ∧ (opUpdData m s).1.sup.failSilent = s.sup.failSilent ∧ (opUpdData m s).1.pair = s.pair := by
  unfold opUpdData; (repeat' split) <;> simp
@[simp] theorem judgeId_pending_mem_hw_sup_failSilent_pair (s : State) :
    (judgeId s).pending = s.pending ∧ (judgeId s).mem = s.mem ∧ (judgeId s).hw = s.hw ∧ (judgeId s).sup.failSilent = s.sup.failSilent ∧ (judgeId s).pair = s.pair := by
  unfold judgeId; simp
@[simp] theorem opKsSign_pending_mem_hw_sup_failSilent_pair (m : MbxRq) (s : State) :
    (opKsSign m s).1.pending = s.pending ∧ (opKsSign m s).1.mem = s.mem ∧ (opKsSign m s).1.hw = s.hw ∧ (opKsSign m s).1.sup.failSilent = s.sup.failSilent ∧ (opKsSign m s).1.pair = s.pair := by
  unfold opKsSign; (repeat' split) <;> simp
@[simp] theorem opArbAdvance_pending_mem_hw_sup_failSilent_pair (m : MbxRq) (s : State) :
    (opArbAdvance m s).1.pending = s.pending ∧ (opArbAdvance m s).1.mem = s.mem ∧ (opArbAdvance m s).1.hw = s.hw ∧ (opArbAdvance m s).1.sup.failSilent = s.sup.failSilent ∧ (opArbAdvance m s).1.pair = s.pair := by
  unfold opArbAdvance; split <;> simp
@[simp] theorem debugPort_pending_mem_hw_sup_failSilent_pair (s : State) :
    (debugPort s).pending = s.pending ∧ (debugPort s).mem = s.mem ∧ (debugPort s).hw = s.hw ∧ (debugPort s).sup.failSilent = s.sup.failSilent ∧ (debugPort s).pair = s.pair := by
  refine ⟨?_, ?_, ?_, ?_, ?_⟩ <;> (unfold debugPort; rfl)
@[simp] theorem opDebugUnlock_pending_mem_hw_sup_failSilent_pair (m : MbxRq) (s : State) :
    (opDebugUnlock m s).1.pending = s.pending ∧ (opDebugUnlock m s).1.mem = s.mem ∧ (opDebugUnlock m s).1.hw = s.hw ∧ (opDebugUnlock m s).1.sup.failSilent = s.sup.failSilent ∧ (opDebugUnlock m s).1.pair = s.pair := by
  unfold opDebugUnlock; dsimp only; (repeat' split) <;> simp
@[simp] theorem audInit_pending_mem_hw_sup_failSilent_pair (v : DWord) (s : State) :
    (audInit v s).pending = s.pending ∧ (audInit v s).mem = s.mem ∧ (audInit v s).hw = s.hw ∧ (audInit v s).sup.failSilent = s.sup.failSilent ∧ (audInit v s).pair = s.pair := by
  unfold audInit; simp
@[simp] theorem audErase_pending_hw_sup_failSilent_pair (s : State) :
    (audErase s).pending = s.pending ∧ (audErase s).hw = s.hw ∧ (audErase s).sup.failSilent = s.sup.failSilent ∧ (audErase s).pair = s.pair := by
  unfold audErase; simp
@[simp] theorem startChannels_pending_hw_sup_failSilent_pair (s : State) :
    (startChannels s).pending = s.pending ∧ (startChannels s).hw = s.hw ∧ (startChannels s).sup.failSilent = s.sup.failSilent ∧ (startChannels s).pair = s.pair := by
  unfold startChannels; simp
@[simp] theorem startScan_pending_hw_pair_role_pair_epoch (s : State) :
    (startScan s).pending = s.pending ∧ (startScan s).hw = s.hw ∧ (startScan s).pair.role = s.pair.role ∧ (startScan s).pair.epoch = s.pair.epoch := by
  unfold startScan; dsimp only; (repeat' split) <;> simp
@[simp] theorem trackOn_pending_mem_hw_sup_failSilent_pair (s : State) :
    (trackOn s).pending = s.pending ∧ (trackOn s).mem = s.mem ∧ (trackOn s).hw = s.hw ∧ (trackOn s).sup.failSilent = s.sup.failSilent ∧ (trackOn s).pair = s.pair := by
  refine ⟨?_, ?_, ?_, ?_, ?_⟩ <;> (unfold trackOn; rfl)
@[simp] theorem trackOff_pending_mem_hw_sup_failSilent_pair (s : State) :
    (trackOff s).pending = s.pending ∧ (trackOff s).mem = s.mem ∧ (trackOff s).hw = s.hw ∧ (trackOff s).sup.failSilent = s.sup.failSilent ∧ (trackOff s).pair = s.pair := by
  refine ⟨?_, ?_, ?_, ?_, ?_⟩ <;> (unfold trackOff; rfl)
@[simp] theorem takeDirty_pending_mem_hw_sup_failSilent_pair (s : State) :
    (takeDirty s).pending = s.pending ∧ (takeDirty s).mem = s.mem ∧ (takeDirty s).hw = s.hw ∧ (takeDirty s).sup.failSilent = s.sup.failSilent ∧ (takeDirty s).pair = s.pair := by
  refine ⟨?_, ?_, ?_, ?_, ?_⟩ <;> (unfold takeDirty; rfl)
@[simp] theorem chgPost_pending_mem_hw_sup_failSilent_pair (code : Nat) (data : List Byte) (s : State) :
    (chgPost code data s).pending = s.pending ∧ (chgPost code data s).mem = s.mem ∧ (chgPost code data s).hw = s.hw ∧ (chgPost code data s).sup.failSilent = s.sup.failSilent ∧ (chgPost code data s).pair = s.pair := by
  unfold chgPost; simp
@[simp] theorem endChange_pending_mem_hw_sup_failSilent_pair (st : ChgSt) (code : Nat) (s : State) :
    (endChange st code s).pending = s.pending ∧ (endChange st code s).mem = s.mem ∧ (endChange st code s).hw = s.hw ∧ (endChange st code s).sup.failSilent = s.sup.failSilent ∧ (endChange st code s).pair = s.pair := by
  unfold endChange; simp
@[simp] theorem sendKindle_pending_mem_hw_sup_failSilent_pair (op flags : Nat) (arg aux : Nat) (data : List Byte) (s : State) :
    (sendKindle op flags arg aux data s).pending = s.pending ∧ (sendKindle op flags arg aux data s).mem = s.mem ∧ (sendKindle op flags arg aux data s).hw = s.hw ∧ (sendKindle op flags arg aux data s).sup.failSilent = s.sup.failSilent ∧ (sendKindle op flags arg aux data s).pair = s.pair := by
  unfold sendKindle; simp
@[simp] theorem placeNew_pending_hw_sup_failSilent_pair (b : List Byte) (s : State) :
    (placeNew b s).pending = s.pending ∧ (placeNew b s).hw = s.hw ∧ (placeNew b s).sup.failSilent = s.sup.failSilent ∧ (placeNew b s).pair = s.pair := by
  unfold placeNew; split <;> simp
@[simp] theorem beginMeasuring_pending_mem_hw_sup_failSilent_pair (s : State) :
    (beginMeasuring s).pending = s.pending ∧ (beginMeasuring s).mem = s.mem ∧ (beginMeasuring s).hw = s.hw ∧ (beginMeasuring s).sup.failSilent = s.sup.failSilent ∧ (beginMeasuring s).pair = s.pair := by
  unfold beginMeasuring; simp
@[simp] theorem loadingDone_pending_mem_hw_sup_failSilent_pair (s : State) :
    (loadingDone s).pending = s.pending ∧ (loadingDone s).mem = s.mem ∧ (loadingDone s).hw = s.hw ∧ (loadingDone s).sup.failSilent = s.sup.failSilent ∧ (loadingDone s).pair = s.pair := by
  unfold loadingDone; (repeat' split) <;> simp
@[simp] theorem sendKindleImage_pending_mem_hw_sup_failSilent_pair (b : List Byte) (s : State) :
    (sendKindleImage b s).pending = s.pending ∧ (sendKindleImage b s).mem = s.mem ∧ (sendKindleImage b s).hw = s.hw ∧ (sendKindleImage b s).sup.failSilent = s.sup.failSilent ∧ (sendKindleImage b s).pair = s.pair := by
  unfold sendKindleImage; simp
@[simp] theorem changeStart_pending_hw_sup_failSilent_pair (session : Nat) (s : State) :
    (changeStart session s).1.pending = s.pending ∧ (changeStart session s).1.hw = s.hw ∧ (changeStart session s).1.sup.failSilent = s.sup.failSilent ∧ (changeStart session s).1.pair = s.pair := by
  unfold changeStart; dsimp only; (repeat' split) <;> simp
@[simp] theorem changeAbandon_pending_mem_hw_sup_failSilent_pair (s : State) :
    (changeAbandon s).1.pending = s.pending ∧ (changeAbandon s).1.mem = s.mem ∧ (changeAbandon s).1.hw = s.hw ∧ (changeAbandon s).1.sup.failSilent = s.sup.failSilent ∧ (changeAbandon s).1.pair = s.pair := by
  unfold changeAbandon; (repeat' split) <;> simp
@[simp] theorem announceSwap_pending_mem_hw_sup_failSilent_pair (s : State) :
    (announceSwap s).pending = s.pending ∧ (announceSwap s).mem = s.mem ∧ (announceSwap s).hw = s.hw ∧ (announceSwap s).sup.failSilent = s.sup.failSilent ∧ (announceSwap s).pair = s.pair := by
  unfold announceSwap; split <;> simp
@[simp] theorem closeTasks_pending_mem_hw_sup_failSilent_pair (s : State) :
    (closeTasks s).pending = s.pending ∧ (closeTasks s).mem = s.mem ∧ (closeTasks s).hw = s.hw ∧ (closeTasks s).sup.failSilent = s.sup.failSilent ∧ (closeTasks s).pair = s.pair := by
  refine ⟨?_, ?_, ?_, ?_, ?_⟩ <;> (unfold closeTasks; rfl)
@[simp] theorem restoreMasks_pending_mem_hw_sup_failSilent_pair (s : State) :
    (restoreMasks s).pending = s.pending ∧ (restoreMasks s).mem = s.mem ∧ (restoreMasks s).hw = s.hw ∧ (restoreMasks s).sup.failSilent = s.sup.failSilent ∧ (restoreMasks s).pair = s.pair := by
  refine ⟨?_, ?_, ?_, ?_, ?_⟩ <;> (unfold restoreMasks; rfl)
@[simp] theorem postpone_pending_mem_hw_sup_failSilent_pair (s : State) :
    (postpone s).pending = s.pending ∧ (postpone s).mem = s.mem ∧ (postpone s).hw = s.hw ∧ (postpone s).sup.failSilent = s.sup.failSilent ∧ (postpone s).pair = s.pair := by
  unfold postpone; simp
@[simp] theorem tryQuiesce_pending_mem_hw_sup_failSilent_pair (s : State) :
    (tryQuiesce s).pending = s.pending ∧ (tryQuiesce s).mem = s.mem ∧ (tryQuiesce s).hw = s.hw ∧ (tryQuiesce s).sup.failSilent = s.sup.failSilent ∧ (tryQuiesce s).pair = s.pair := by
  unfold tryQuiesce; simp
@[simp] theorem rebindForces_pending_mem_hw_sup_failSilent_pair (new : Prog) (s : State) :
    (rebindForces new s).pending = s.pending ∧ (rebindForces new s).mem = s.mem ∧ (rebindForces new s).hw = s.hw ∧ (rebindForces new s).sup.failSilent = s.sup.failSilent ∧ (rebindForces new s).pair = s.pair := by
  unfold rebindForces; simp
@[simp] theorem nextMasks_pending_mem_hw_sup_failSilent_pair (en : BitVec 16) (ev : BitVec 64) (s : State) :
    (nextMasks en ev s).pending = s.pending ∧ (nextMasks en ev s).mem = s.mem ∧ (nextMasks en ev s).hw = s.hw ∧ (nextMasks en ev s).sup.failSilent = s.sup.failSilent ∧ (nextMasks en ev s).pair = s.pair := by
  refine ⟨?_, ?_, ?_, ?_, ?_⟩ <;> (unfold nextMasks; rfl)
@[simp] theorem reopenNext_pending_mem_hw_sup_failSilent_pair (r : Option Nat) (s : State) :
    (reopenNext r s).pending = s.pending ∧ (reopenNext r s).mem = s.mem ∧ (reopenNext r s).hw = s.hw ∧ (reopenNext r s).sup.failSilent = s.sup.failSilent ∧ (reopenNext r s).pair = s.pair := by
  unfold reopenNext; simp
@[simp] theorem swapMem_pending_hw_sup_failSilent_pair (old new : Prog) (s : State) :
    (swapMem old new s).pending = s.pending ∧ (swapMem old new s).hw = s.hw ∧ (swapMem old new s).sup.failSilent = s.sup.failSilent ∧ (swapMem old new s).pair = s.pair := by
  unfold swapMem; simp
@[simp] theorem swapJournal_pending_mem_hw_sup_failSilent_pair (old new : Prog) (s : State) :
    (swapJournal old new s).pending = s.pending ∧ (swapJournal old new s).mem = s.mem ∧ (swapJournal old new s).hw = s.hw ∧ (swapJournal old new s).sup.failSilent = s.sup.failSilent ∧ (swapJournal old new s).pair = s.pair := by
  unfold swapJournal; simp
@[simp] theorem carryTriggers_pending_mem_hw_sup_failSilent_pair (new : Prog) (s : State) :
    (carryTriggers new s).pending = s.pending ∧ (carryTriggers new s).mem = s.mem ∧ (carryTriggers new s).hw = s.hw ∧ (carryTriggers new s).sup.failSilent = s.sup.failSilent ∧ (carryTriggers new s).pair = s.pair := by
  refine ⟨?_, ?_, ?_, ?_, ?_⟩ <;> (unfold carryTriggers; rfl)
@[simp] theorem swapNames_pending_mem_hw_sup_failSilent_pair (new : Prog) (en : BitVec 16) (ev : BitVec 64) (s : State) :
    (swapNames new en ev s).pending = s.pending ∧ (swapNames new en ev s).mem = s.mem ∧ (swapNames new en ev s).hw = s.hw ∧ (swapNames new en ev s).sup.failSilent = s.sup.failSilent ∧ (swapNames new en ev s).pair = s.pair := by
  refine ⟨?_, ?_, ?_, ?_, ?_⟩ <;> (unfold swapNames; rfl)
@[simp] theorem swapCopyDone_pending_hw_sup_failSilent_pair (s : State) :
    (swapCopyDone s).pending = s.pending ∧ (swapCopyDone s).hw = s.hw ∧ (swapCopyDone s).sup.failSilent = s.sup.failSilent ∧ (swapCopyDone s).pair = s.pair := by
  unfold swapCopyDone; split <;> simp
@[simp] theorem swapMissed_pending_mem_hw_sup_failSilent_pair_role_pair_epoch (s : State) :
    (swapMissed s).pending = s.pending ∧ (swapMissed s).mem = s.mem ∧ (swapMissed s).hw = s.hw ∧ (swapMissed s).sup.failSilent = s.sup.failSilent ∧ (swapMissed s).pair.role = s.pair.role ∧ (swapMissed s).pair.epoch = s.pair.epoch := by
  unfold swapMissed; simp
@[simp] theorem reopenSwap_pending_hw_sup_failSilent_pair (s : State) :
    (reopenSwap s).pending = s.pending ∧ (reopenSwap s).hw = s.hw ∧ (reopenSwap s).sup.failSilent = s.sup.failSilent ∧ (reopenSwap s).pair = s.pair := by
  unfold reopenSwap; simp
@[simp] theorem leaveChange_pending_mem_hw_sup_failSilent_pair (s : State) :
    (leaveChange s).pending = s.pending ∧ (leaveChange s).mem = s.mem ∧ (leaveChange s).hw = s.hw ∧ (leaveChange s).sup.failSilent = s.sup.failSilent ∧ (leaveChange s).pair = s.pair := by
  refine ⟨?_, ?_, ?_, ?_, ?_⟩ <;> (unfold leaveChange; rfl)
@[simp] theorem changeBeat_pending_hw_sup_failSilent_pair_role_pair_epoch (s : State) :
    (changeBeat s).pending = s.pending ∧ (changeBeat s).hw = s.hw ∧ (changeBeat s).sup.failSilent = s.sup.failSilent ∧ (changeBeat s).pair.role = s.pair.role ∧ (changeBeat s).pair.epoch = s.pair.epoch := by
  unfold changeBeat; dsimp only; (repeat' split) <;> simp
@[simp] theorem changeTakeover_pending_mem_hw_sup_failSilent_pair (s : State) :
    (changeTakeover s).pending = s.pending ∧ (changeTakeover s).mem = s.mem ∧ (changeTakeover s).hw = s.hw ∧ (changeTakeover s).sup.failSilent = s.sup.failSilent ∧ (changeTakeover s).pair = s.pair := by
  unfold changeTakeover; simp
@[simp] theorem clearForces_pending_mem_hw_sup_failSilent_pair (s : State) :
    (clearForces s).pending = s.pending ∧ (clearForces s).mem = s.mem ∧ (clearForces s).hw = s.hw ∧ (clearForces s).sup.failSilent = s.sup.failSilent ∧ (clearForces s).pair = s.pair := by
  unfold clearForces; simp
@[simp] theorem measuringEnd_pending_mem_hw_sup_failSilent_pair (s : State) :
    (measuringEnd s).pending = s.pending ∧ (measuringEnd s).mem = s.mem ∧ (measuringEnd s).hw = s.hw ∧ (measuringEnd s).sup.failSilent = s.sup.failSilent ∧ (measuringEnd s).pair = s.pair := by
  unfold measuringEnd; simp
@[simp] theorem precopyRound_pending_hw_sup_failSilent_pair (s : State) :
    (precopyRound s).pending = s.pending ∧ (precopyRound s).hw = s.hw ∧ (precopyRound s).sup.failSilent = s.sup.failSilent ∧ (precopyRound s).pair = s.pair := by
  unfold precopyRound; split <;> simp
@[simp] theorem onKindleData_pending_hw_sup_failSilent_pair (p : KindleP) (s : State) :
    (onKindleData p s).pending = s.pending ∧ (onKindleData p s).hw = s.hw ∧ (onKindleData p s).sup.failSilent = s.sup.failSilent ∧ (onKindleData p s).pair = s.pair := by
  unfold onKindleData; simp
@[simp] theorem onKindleLoaded_pending_mem_hw_sup_failSilent_pair (p : KindleP) (s : State) :
    (onKindleLoaded p s).pending = s.pending ∧ (onKindleLoaded p s).mem = s.mem ∧ (onKindleLoaded p s).hw = s.hw ∧ (onKindleLoaded p s).sup.failSilent = s.sup.failSilent ∧ (onKindleLoaded p s).pair = s.pair := by
  unfold onKindleLoaded; simp
@[simp] theorem onKindleGo_pending_mem_hw_sup_failSilent_pair (p : KindleP) (s : State) :
    (onKindleGo p s).pending = s.pending ∧ (onKindleGo p s).mem = s.mem ∧ (onKindleGo p s).hw = s.hw ∧ (onKindleGo p s).sup.failSilent = s.sup.failSilent ∧ (onKindleGo p s).pair = s.pair := by
  unfold onKindleGo; simp
@[simp] theorem onKindleGoAck_pending_mem_hw_sup_failSilent_pair (p : KindleP) (s : State) :
    (onKindleGoAck p s).pending = s.pending ∧ (onKindleGoAck p s).mem = s.mem ∧ (onKindleGoAck p s).hw = s.hw ∧ (onKindleGoAck p s).sup.failSilent = s.sup.failSilent ∧ (onKindleGoAck p s).pair = s.pair := by
  unfold onKindleGoAck; simp
@[simp] theorem onKindleDone_pending_mem_hw_sup_failSilent_pair_role_pair_epoch (p : KindleP) (s : State) :
    (onKindleDone p s).pending = s.pending ∧ (onKindleDone p s).mem = s.mem ∧ (onKindleDone p s).hw = s.hw ∧ (onKindleDone p s).sup.failSilent = s.sup.failSilent ∧ (onKindleDone p s).pair.role = s.pair.role ∧ (onKindleDone p s).pair.epoch = s.pair.epoch := by
  unfold onKindleDone; simp
@[simp] theorem onKindleAbandon_pending_mem_hw_sup_failSilent_pair (p : KindleP) (s : State) :
    (onKindleAbandon p s).pending = s.pending ∧ (onKindleAbandon p s).mem = s.mem ∧ (onKindleAbandon p s).hw = s.hw ∧ (onKindleAbandon p s).sup.failSilent = s.sup.failSilent ∧ (onKindleAbandon p s).pair = s.pair := by
  unfold onKindleAbandon; simp
@[simp] theorem kindleData_pending_mem_hw_sup_failSilent_pair (v : List Byte) (s : State) :
    (kindleData v s).1.pending = s.pending ∧ (kindleData v s).1.mem = s.mem ∧ (kindleData v s).1.hw = s.hw ∧ (kindleData v s).1.sup.failSilent = s.sup.failSilent ∧ (kindleData v s).1.pair = s.pair := by
  unfold kindleData; split <;> simp
@[simp] theorem setPort_pending_mem_hw_sup_failSilent_pair (n : Nat) (f : Port → Port) (s : State) :
    (setPort n f s).pending = s.pending ∧ (setPort n f s).mem = s.mem ∧ (setPort n f s).hw = s.hw ∧ (setPort n f s).sup.failSilent = s.sup.failSilent ∧ (setPort n f s).pair = s.pair := by
  refine ⟨?_, ?_, ?_, ?_, ?_⟩ <;> (unfold setPort; rfl)
@[simp] theorem setCnt_pending_mem_hw_sup_failSilent_pair (n : Nat) (f : PortCnt → PortCnt) (s : State) :
    (setCnt n f s).pending = s.pending ∧ (setCnt n f s).mem = s.mem ∧ (setCnt n f s).hw = s.hw ∧ (setCnt n f s).sup.failSilent = s.sup.failSilent ∧ (setCnt n f s).pair = s.pair := by
  refine ⟨?_, ?_, ?_, ?_, ?_⟩ <;> (unfold setCnt; rfl)
@[simp] theorem setSeg_pending_mem_hw_sup_failSilent_pair (n : Nat) (f : Seg → Seg) (s : State) :
    (setSeg n f s).pending = s.pending ∧ (setSeg n f s).mem = s.mem ∧ (setSeg n f s).hw = s.hw ∧ (setSeg n f s).sup.failSilent = s.sup.failSilent ∧ (setSeg n f s).pair = s.pair := by
  refine ⟨?_, ?_, ?_, ?_, ?_⟩ <;> (unfold setSeg; rfl)
@[simp] theorem fptInt_pending_mem_hw_sup_failSilent_pair (n b : Nat) (s : State) :
    (fptInt n b s).pending = s.pending ∧ (fptInt n b s).mem = s.mem ∧ (fptInt n b s).hw = s.hw ∧ (fptInt n b s).sup.failSilent = s.sup.failSilent ∧ (fptInt n b s).pair = s.pair := by
  unfold fptInt; simp
@[simp] theorem fptPost_pending_mem_hw_sup_failSilent_pair (n code : Nat) (data : List Byte) (s : State) :
    (fptPost n code data s).pending = s.pending ∧ (fptPost n code data s).mem = s.mem ∧ (fptPost n code data s).hw = s.hw ∧ (fptPost n code data s).sup.failSilent = s.sup.failSilent ∧ (fptPost n code data s).pair = s.pair := by
  unfold fptPost; simp
@[simp] theorem portSend_pending_mem_hw_sup_failSilent_pair (n : Nat) (f : FolFrame) (s : State) :
    (portSend n f s).pending = s.pending ∧ (portSend n f s).mem = s.mem ∧ (portSend n f s).hw = s.hw ∧ (portSend n f s).sup.failSilent = s.sup.failSilent ∧ (portSend n f s).pair = s.pair := by
  unfold portSend; simp
@[simp] theorem sendRelays_pending_mem_hw_sup_failSilent_pair (es : List RelayE) (s : State) :
    (sendRelays es s).pending = s.pending ∧ (sendRelays es s).mem = s.mem ∧ (sendRelays es s).hw = s.hw ∧ (sendRelays es s).sup.failSilent = s.sup.failSilent ∧ (sendRelays es s).pair = s.pair := by
  unfold sendRelays; simp
@[simp] theorem endSend_pending_mem_hw_sup_failSilent_pair (n end_ : Nat) (f : FolFrame) (s : State) :
    (endSend n end_ f s).pending = s.pending ∧ (endSend n end_ f s).mem = s.mem ∧ (endSend n end_ f s).hw = s.hw ∧ (endSend n end_ f s).sup.failSilent = s.sup.failSilent ∧ (endSend n end_ f s).pair = s.pair := by
  unfold endSend; simp
@[simp] theorem windowSend_pending_mem_hw_sup_failSilent_pair (n end_ : Nat) (f : FolFrame) (s : State) :
    (windowSend n end_ f s).pending = s.pending ∧ (windowSend n end_ f s).mem = s.mem ∧ (windowSend n end_ f s).hw = s.hw ∧ (windowSend n end_ f s).sup.failSilent = s.sup.failSilent ∧ (windowSend n end_ f s).pair = s.pair := by
  unfold windowSend; simp
@[simp] theorem svcToStation_pending_mem_hw_sup_failSilent_pair (n end_ station : Nat) (op : Byte) (index sub : Nat) (data : List Byte) (s : State) :
    (svcToStation n end_ station op index sub data s).pending = s.pending ∧ (svcToStation n end_ station op index sub data s).mem = s.mem ∧ (svcToStation n end_ station op index sub data s).hw = s.hw ∧ (svcToStation n end_ station op index sub data s).sup.failSilent = s.sup.failSilent ∧ (svcToStation n end_ station op index sub data s).pair = s.pair := by
  unfold svcToStation; simp
@[simp] theorem relayCycleStarts_pending_mem_hw_sup_failSilent_pair (s : State) :
    (relayCycleStarts s).pending = s.pending ∧ (relayCycleStarts s).mem = s.mem ∧ (relayCycleStarts s).hw = s.hw ∧ (relayCycleStarts s).sup.failSilent = s.sup.failSilent ∧ (relayCycleStarts s).pair = s.pair := by
  unfold relayCycleStarts; simp
@[simp] theorem loadStations_pending_mem_hw_sup_failSilent_pair (n : Nat) (s : State) :
    (loadStations n s).pending = s.pending ∧ (loadStations n s).mem = s.mem ∧ (loadStations n s).hw = s.hw ∧ (loadStations n s).sup.failSilent = s.sup.failSilent ∧ (loadStations n s).pair = s.pair := by
  refine ⟨?_, ?_, ?_, ?_, ?_⟩ <;> (unfold loadStations; rfl)
@[simp] theorem putStation_pending_hw_sup_failSilent_pair (x : Station) (s : State) :
    (putStation x s).pending = s.pending ∧ (putStation x s).hw = s.hw ∧ (putStation x s).sup.failSilent = s.sup.failSilent ∧ (putStation x s).pair = s.pair := by
  refine ⟨?_, ?_, ?_, ?_⟩ <;> (unfold putStation; rfl)
@[simp] theorem stationWrite_pending_hw_sup_failSilent_pair (x : Nat) (index sub : Nat) (data : List Byte) (s : State) :
    (stationWrite x index sub data s).pending = s.pending ∧ (stationWrite x index sub data s).hw = s.hw ∧ (stationWrite x index sub data s).sup.failSilent = s.sup.failSilent ∧ (stationWrite x index sub data s).pair = s.pair := by
  unfold stationWrite; (repeat' split) <;> simp
@[simp] theorem becomePresent_pending_hw_sup_failSilent_pair (x : Station) (s : State) :
    (becomePresent x s).pending = s.pending ∧ (becomePresent x s).hw = s.hw ∧ (becomePresent x s).sup.failSilent = s.sup.failSilent ∧ (becomePresent x s).pair = s.pair := by
  unfold becomePresent; simp
@[simp] theorem raiseEpoch_pending_mem_hw_sup_failSilent_pair_role (reason : Nat) (s : State) :
    (raiseEpoch reason s).pending = s.pending ∧ (raiseEpoch reason s).mem = s.mem ∧ (raiseEpoch reason s).hw = s.hw ∧ (raiseEpoch reason s).sup.failSilent = s.sup.failSilent ∧ (raiseEpoch reason s).pair.role = s.pair.role := by
  unfold raiseEpoch; simp
@[simp] theorem higherEpoch_pending_mem_hw_sup_failSilent (e : Word) (path : Nat) (sender : List Byte) (s : State) :
    (higherEpoch e path sender s).pending = s.pending ∧ (higherEpoch e path sender s).mem = s.mem ∧ (higherEpoch e path sender s).hw = s.hw ∧ (higherEpoch e path sender s).sup.failSilent = s.sup.failSilent := by
  unfold higherEpoch; (repeat' split) <;> simp
@[simp] theorem topEpoch_pending_mem_hw_sup_failSilent_pair (n : Nat) (s : State) :
    (topEpoch n s).pending = s.pending ∧ (topEpoch n s).mem = s.mem ∧ (topEpoch n s).hw = s.hw ∧ (topEpoch n s).sup.failSilent = s.sup.failSilent ∧ (topEpoch n s).pair = s.pair := by
  unfold topEpoch; simp
@[simp] theorem stationEpochs_pending_mem_hw_sup_failSilent (n station : Nat) (e gate : Word) (path : Nat) (s : State) :
    (stationEpochs n station e gate path s).1.pending = s.pending ∧ (stationEpochs n station e gate path s).1.mem = s.mem ∧ (stationEpochs n station e gate path s).1.hw = s.hw ∧ (stationEpochs n station e gate path s).1.sup.failSilent = s.sup.failSilent := by
  unfold stationEpochs; dsimp only; (repeat' split) <;> simp
@[simp] theorem inputReports_pending_mem_hw_sup_failSilent_pair (old new : Station) (s : State) :
    (inputReports old new s).pending = s.pending ∧ (inputReports old new s).mem = s.mem ∧ (inputReports old new s).hw = s.hw ∧ (inputReports old new s).sup.failSilent = s.sup.failSilent ∧ (inputReports old new s).pair = s.pair := by
  unfold inputReports; simp
@[simp] theorem relayIn_pending_mem_hw_sup_failSilent_pair (n : Nat) (f : FolFrame) (s : State) :
    (relayIn n f s).pending = s.pending ∧ (relayIn n f s).mem = s.mem ∧ (relayIn n f s).hw = s.hw ∧ (relayIn n f s).sup.failSilent = s.sup.failSilent ∧ (relayIn n f s).pair = s.pair := by
  unfold relayIn; simp
@[simp] theorem probe_pending_mem_hw_sup_failSilent_pair (x : Station) (e : Nat) (s : State) :
    (probe x e s).pending = s.pending ∧ (probe x e s).mem = s.mem ∧ (probe x e s).hw = s.hw ∧ (probe x e s).sup.failSilent = s.sup.failSilent ∧ (probe x e s).pair = s.pair := by
  unfold probe; simp
@[simp] theorem writeAnswer_pending_hw_sup_failSilent (n station : Nat) (epoch : Word) (tid : Byte) (code path : Nat) (s : State) :
    (writeAnswer n station epoch tid code path s).pending = s.pending ∧ (writeAnswer n station epoch tid code path s).hw = s.hw ∧ (writeAnswer n station epoch tid code path s).sup.failSilent = s.sup.failSilent := by
  unfold writeAnswer; dsimp only; (repeat' split) <;> simp
@[simp] theorem noteHyper_pending_mem_hw_sup_failSilent_pair (s : State) :
    (noteHyper s).pending = s.pending ∧ (noteHyper s).mem = s.mem ∧ (noteHyper s).hw = s.hw ∧ (noteHyper s).sup.failSilent = s.sup.failSilent ∧ (noteHyper s).pair = s.pair := by
  refine ⟨?_, ?_, ?_, ?_, ?_⟩ <;> (unfold noteHyper; rfl)
@[simp] theorem wakeAll_pending_mem_hw_sup_failSilent_pair (n : Nat) (s : State) :
    (wakeAll n s).pending = s.pending ∧ (wakeAll n s).mem = s.mem ∧ (wakeAll n s).hw = s.hw ∧ (wakeAll n s).sup.failSilent = s.sup.failSilent ∧ (wakeAll n s).pair = s.pair := by
  unfold wakeAll; simp
@[simp] theorem segRunning_pending_mem_hw_sup_failSilent_pair (n : Nat) (s : State) :
    (segRunning n s).pending = s.pending ∧ (segRunning n s).mem = s.mem ∧ (segRunning n s).hw = s.hw ∧ (segRunning n s).sup.failSilent = s.sup.failSilent ∧ (segRunning n s).pair = s.pair := by
  unfold segRunning; simp
@[simp] theorem emitCycleStart_pending_mem_hw_sup_failSilent_pair (n : Nat) (s : State) :
    (emitCycleStart n s).pending = s.pending ∧ (emitCycleStart n s).mem = s.mem ∧ (emitCycleStart n s).hw = s.hw ∧ (emitCycleStart n s).sup.failSilent = s.sup.failSilent ∧ (emitCycleStart n s).pair = s.pair := by
  unfold emitCycleStart; split <;> simp
@[simp] theorem emitStations_pending_hw_sup_failSilent_pair (n flags oflags : Nat) (xs : List Station) (s : State) :
    (emitStations n flags oflags xs s).pending = s.pending ∧ (emitStations n flags oflags xs s).hw = s.hw ∧ (emitStations n flags oflags xs s).sup.failSilent = s.sup.failSilent ∧ (emitStations n flags oflags xs s).pair = s.pair := by
  unfold emitStations; split <;> simp
@[simp] theorem emitCommit_pending_hw_sup_failSilent_pair (t : Nat) (s : State) :
    (emitCommit t s).pending = s.pending ∧ (emitCommit t s).hw = s.hw ∧ (emitCommit t s).sup.failSilent = s.sup.failSilent ∧ (emitCommit t s).pair = s.pair := by
  unfold emitCommit; simp
@[simp] theorem emitOff_pending_hw_sup_failSilent_pair (n : Nat) (s : State) :
    (emitOff n s).pending = s.pending ∧ (emitOff n s).hw = s.hw ∧ (emitOff n s).sup.failSilent = s.sup.failSilent ∧ (emitOff n s).pair = s.pair := by
  unfold emitOff; (repeat' split) <;> simp
@[simp] theorem resend_pending_hw_sup_failSilent_pair (s : State) :
    (resend s).pending = s.pending ∧ (resend s).hw = s.hw ∧ (resend s).sup.failSilent = s.sup.failSilent ∧ (resend s).pair = s.pair := by
  unfold resend; simp
@[simp] theorem folRxRule_pending_mem_hw_sup_failSilent_pair (n : Nat) (f : FolFrame) (s : State) :
    (folRxRule n f s).1.pending = s.pending ∧ (folRxRule n f s).1.mem = s.mem ∧ (folRxRule n f s).1.hw = s.hw ∧ (folRxRule n f s).1.sup.failSilent = s.sup.failSilent ∧ (folRxRule n f s).1.pair = s.pair := by
  unfold folRxRule; dsimp only; (repeat' split) <;> simp
@[simp] theorem countRx_pending_mem_hw_sup_failSilent_pair (n : Nat) (s : State) :
    (countRx n s).pending = s.pending ∧ (countRx n s).mem = s.mem ∧ (countRx n s).hw = s.hw ∧ (countRx n s).sup.failSilent = s.sup.failSilent ∧ (countRx n s).pair = s.pair := by
  refine ⟨?_, ?_, ?_, ?_, ?_⟩ <;> (unfold countRx; rfl)
@[simp] theorem countCrc_pending_hw_sup_failSilent_pair (n station : Nat) (s : State) :
    (countCrc n station s).pending = s.pending ∧ (countCrc n station s).hw = s.hw ∧ (countCrc n station s).sup.failSilent = s.sup.failSilent ∧ (countCrc n station s).pair = s.pair := by
  unfold countCrc; dsimp only; (repeat' split) <;> simp
@[simp] theorem countOther_pending_mem_hw_sup_failSilent_pair (n : Nat) (s : State) :
    (countOther n s).pending = s.pending ∧ (countOther n s).mem = s.mem ∧ (countOther n s).hw = s.hw ∧ (countOther n s).sup.failSilent = s.sup.failSilent ∧ (countOther n s).pair = s.pair := by
  refine ⟨?_, ?_, ?_, ?_, ?_⟩ <;> (unfold countOther; rfl)
@[simp] theorem moduleFrame_pending_mem_hw_sup_failSilent (n : Nat) (f : FolFrame) (s : State) :
    (moduleFrame n f s).pending = s.pending ∧ (moduleFrame n f s).mem = s.mem ∧ (moduleFrame n f s).hw = s.hw ∧ (moduleFrame n f s).sup.failSilent = s.sup.failSilent := by
  unfold moduleFrame; (repeat' split) <;> simp
@[simp] theorem fptClear_pending_mem_hw_sup_failSilent_pair (port : Nat) (level : Level) (word : Word) (s : State) :
    (fptClear port level word s).pending = s.pending ∧ (fptClear port level word s).mem = s.mem ∧ (fptClear port level word s).hw = s.hw ∧ (fptClear port level word s).sup.failSilent = s.sup.failSilent ∧ (fptClear port level word s).pair = s.pair := by
  unfold fptClear; simp
@[simp] theorem noteDivergence_pending_mem_hw_sup_failSilent_pair (own peer : DigestP) (s : State) :
    (noteDivergence own peer s).pending = s.pending ∧ (noteDivergence own peer s).mem = s.mem ∧ (noteDivergence own peer s).hw = s.hw ∧ (noteDivergence own peer s).sup.failSilent = s.sup.failSilent ∧ (noteDivergence own peer s).pair = s.pair := by
  unfold noteDivergence; simp
@[simp] theorem divergenceLimit_pending_mem_hw_sup_failSilent_pair_epoch (s : State) :
    (divergenceLimit s).pending = s.pending ∧ (divergenceLimit s).mem = s.mem ∧ (divergenceLimit s).hw = s.hw ∧ (divergenceLimit s).sup.failSilent = s.sup.failSilent ∧ (divergenceLimit s).pair.epoch = s.pair.epoch := by
  unfold divergenceLimit; simp
@[simp] theorem diverge_pending_mem_hw_sup_failSilent_pair_epoch (own peer : DigestP) (s : State) :
    (diverge own peer s).pending = s.pending ∧ (diverge own peer s).mem = s.mem ∧ (diverge own peer s).hw = s.hw ∧ (diverge own peer s).sup.failSilent = s.sup.failSilent ∧ (diverge own peer s).pair.epoch = s.pair.epoch := by
  unfold diverge; simp
@[simp] theorem clearDivergence_pending_mem_hw_sup_failSilent_pair (s : State) :
    (clearDivergence s).pending = s.pending ∧ (clearDivergence s).mem = s.mem ∧ (clearDivergence s).hw = s.hw ∧ (clearDivergence s).sup.failSilent = s.sup.failSilent ∧ (clearDivergence s).pair = s.pair := by
  refine ⟨?_, ?_, ?_, ?_, ?_⟩ <;> (unfold clearDivergence; rfl)
@[simp] theorem becomeSynchronised_pending_mem_hw_sup_failSilent_pair_role_pair_epoch (s : State) :
    (becomeSynchronised s).pending = s.pending ∧ (becomeSynchronised s).mem = s.mem ∧ (becomeSynchronised s).hw = s.hw ∧ (becomeSynchronised s).sup.failSilent = s.sup.failSilent ∧ (becomeSynchronised s).pair.role = s.pair.role ∧ (becomeSynchronised s).pair.epoch = s.pair.epoch := by
  unfold becomeSynchronised; simp
@[simp] theorem agree_pending_mem_hw_sup_failSilent_pair_role_pair_epoch (s : State) :
    (agree s).pending = s.pending ∧ (agree s).mem = s.mem ∧ (agree s).hw = s.hw ∧ (agree s).sup.failSilent = s.sup.failSilent ∧ (agree s).pair.role = s.pair.role ∧ (agree s).pair.epoch = s.pair.epoch := by
  unfold agree; simp
@[simp] theorem compareDigests_pending_mem_hw_sup_failSilent_pair_epoch (own peer : DigestP) (s : State) :
    (compareDigests own peer s).pending = s.pending ∧ (compareDigests own peer s).mem = s.mem ∧ (compareDigests own peer s).hw = s.hw ∧ (compareDigests own peer s).sup.failSilent = s.sup.failSilent ∧ (compareDigests own peer s).pair.epoch = s.pair.epoch := by
  unfold compareDigests; simp
@[simp] theorem ownDigest_pending_mem_hw_sup_failSilent_pair_epoch (p : DigestP) (s : State) :
    (ownDigest p s).pending = s.pending ∧ (ownDigest p s).mem = s.mem ∧ (ownDigest p s).hw = s.hw ∧ (ownDigest p s).sup.failSilent = s.sup.failSilent ∧ (ownDigest p s).pair.epoch = s.pair.epoch := by
  unfold ownDigest; split <;> simp
@[simp] theorem settleDigests_pending_mem_hw_sup_failSilent_pair_epoch (s : State) :
    (settleDigests s).pending = s.pending ∧ (settleDigests s).mem = s.mem ∧ (settleDigests s).hw = s.hw ∧ (settleDigests s).sup.failSilent = s.sup.failSilent ∧ (settleDigests s).pair.epoch = s.pair.epoch := by
  refine ⟨?_, ?_, ?_, ?_, ?_⟩
  · unfold settleDigests; rw [foldl_pending (fun s x => by (repeat' split) <;> simp)]
  · unfold settleDigests; rw [foldl_mem (fun s x => by (repeat' split) <;> simp)]
  · unfold settleDigests; rw [foldl_hw (fun s x => by (repeat' split) <;> simp)]
  · unfold settleDigests; rw [foldl_sup_failSilent (fun s x => by (repeat' split) <;> simp)]
  · unfold settleDigests; rw [foldl_pair_epoch (fun s x => by (repeat' split) <;> simp)]
@[simp] theorem digestMissed_pending_mem_hw_sup_failSilent_pair_role_pair_epoch (t : Nat) (s : State) :
    (digestMissed t s).pending = s.pending ∧ (digestMissed t s).mem = s.mem ∧ (digestMissed t s).hw = s.hw ∧ (digestMissed t s).sup.failSilent = s.sup.failSilent ∧ (digestMissed t s).pair.role = s.pair.role ∧ (digestMissed t s).pair.epoch = s.pair.epoch := by
  unfold digestMissed; split <;> simp
@[simp] theorem lagged_pending_mem_hw_sup_failSilent_pair_role_pair_epoch (s : State) :
    (lagged s).pending = s.pending ∧ (lagged s).mem = s.mem ∧ (lagged s).hw = s.hw ∧ (lagged s).sup.failSilent = s.sup.failSilent ∧ (lagged s).pair.role = s.pair.role ∧ (lagged s).pair.epoch = s.pair.epoch := by
  unfold lagged; simp
@[simp] theorem handCommit_pending_hw_sup_failSilent_pair (t : Nat) (s : State) :
    (handCommit t s).pending = s.pending ∧ (handCommit t s).hw = s.hw ∧ (handCommit t s).sup.failSilent = s.sup.failSilent ∧ (handCommit t s).pair = s.pair := by
  unfold handCommit; simp
@[simp] theorem partnerOutcome_pending_hw_sup_failSilent_pair (p : DigestP) (s : State) :
    (partnerOutcome p s).pending = s.pending ∧ (partnerOutcome p s).hw = s.hw ∧ (partnerOutcome p s).sup.failSilent = s.sup.failSilent ∧ (partnerOutcome p s).pair = s.pair := by
  unfold partnerOutcome; simp
@[simp] theorem onDigest_pending_hw_sup_failSilent_pair_epoch (p : DigestP) (s : State) :
    (onDigest p s).pending = s.pending ∧ (onDigest p s).hw = s.hw ∧ (onDigest p s).sup.failSilent = s.sup.failSilent ∧ (onDigest p s).pair.epoch = s.pair.epoch := by
  unfold onDigest; dsimp only; (repeat' split) <;> simp
@[simp] theorem takeRuntimeBlock_pending_mem_hw_sup_failSilent_pair (s : State) :
    (takeRuntimeBlock s).pending = s.pending ∧ (takeRuntimeBlock s).mem = s.mem ∧ (takeRuntimeBlock s).hw = s.hw ∧ (takeRuntimeBlock s).sup.failSilent = s.sup.failSilent ∧ (takeRuntimeBlock s).pair = s.pair := by
  refine ⟨?_, ?_, ?_, ?_, ?_⟩ <;> (unfold takeRuntimeBlock; rfl)
@[simp] theorem sendPage_pending_mem_hw_sup_failSilent_pair (s : State) (p : Nat) :
    (sendPage s p).pending = s.pending ∧ (sendPage s p).mem = s.mem ∧ (sendPage s p).hw = s.hw ∧ (sendPage s p).sup.failSilent = s.sup.failSilent ∧ (sendPage s p).pair = s.pair := by
  unfold sendPage; simp
@[simp] theorem sendPages_pending_mem_hw_sup_failSilent_pair (ps : List Nat) (s : State) :
    (sendPages ps s).pending = s.pending ∧ (sendPages ps s).mem = s.mem ∧ (sendPages ps s).hw = s.hw ∧ (sendPages ps s).sup.failSilent = s.sup.failSilent ∧ (sendPages ps s).pair = s.pair := by
  unfold sendPages; simp
@[simp] theorem setResync_pending_mem_hw_sup_failSilent_pair (f : Resync → Resync) (s : State) :
    (setResync f s).pending = s.pending ∧ (setResync f s).mem = s.mem ∧ (setResync f s).hw = s.hw ∧ (setResync f s).sup.failSilent = s.sup.failSilent ∧ (setResync f s).pair = s.pair := by
  refine ⟨?_, ?_, ?_, ?_, ?_⟩ <;> (unfold setResync; rfl)
@[simp] theorem sendCtrl_pending_mem_hw_sup_failSilent_pair (phase task : Nat) (arg : Word) (s : State) :
    (sendCtrl phase task arg s).pending = s.pending ∧ (sendCtrl phase task arg s).mem = s.mem ∧ (sendCtrl phase task arg s).hw = s.hw ∧ (sendCtrl phase task arg s).sup.failSilent = s.sup.failSilent ∧ (sendCtrl phase task arg s).pair = s.pair := by
  unfold sendCtrl; simp
@[simp] theorem beginBulk_pending_mem_hw_sup_failSilent_pair (s : State) :
    (beginBulk s).pending = s.pending ∧ (beginBulk s).mem = s.mem ∧ (beginBulk s).hw = s.hw ∧ (beginBulk s).sup.failSilent = s.sup.failSilent ∧ (beginBulk s).pair = s.pair := by
  refine ⟨?_, ?_, ?_, ?_, ?_⟩ <;> (unfold beginBulk; rfl)
@[simp] theorem markSet_pending_mem_hw_sup_failSilent_pair (task : Nat) (s : State) :
    (markSet task s).pending = s.pending ∧ (markSet task s).mem = s.mem ∧ (markSet task s).hw = s.hw ∧ (markSet task s).sup.failSilent = s.sup.failSilent ∧ (markSet task s).pair = s.pair := by
  unfold markSet; simp
@[simp] theorem closing_pending_hw_sup_failSilent_pair (s : State) :
    (closing s).pending = s.pending ∧ (closing s).hw = s.hw ∧ (closing s).sup.failSilent = s.sup.failSilent ∧ (closing s).pair = s.pair := by
  unfold closing; simp
@[simp] theorem trailTask_pending_mem_hw_sup_failSilent_pair (t : Nat) (s : State) :
    (trailTask t s).pending = s.pending ∧ (trailTask t s).mem = s.mem ∧ (trailTask t s).hw = s.hw ∧ (trailTask t s).sup.failSilent = s.sup.failSilent ∧ (trailTask t s).pair = s.pair := by
  unfold trailTask; simp
@[simp] theorem beginTwin_pending_mem_hw_sup_failSilent_pair (t : Nat) (s : State) :
    (beginTwin t s).pending = s.pending ∧ (beginTwin t s).mem = s.mem ∧ (beginTwin t s).hw = s.hw ∧ (beginTwin t s).sup.failSilent = s.sup.failSilent ∧ (beginTwin t s).pair = s.pair := by
  unfold beginTwin; simp
@[simp] theorem resyncBeat_pending_hw_sup_failSilent_pair (s : State) :
    (resyncBeat s).pending = s.pending ∧ (resyncBeat s).hw = s.hw ∧ (resyncBeat s).sup.failSilent = s.sup.failSilent ∧ (resyncBeat s).pair = s.pair := by
  unfold resyncBeat; dsimp only; (repeat' split) <;> simp
@[simp] theorem answerSet_pending_mem_hw_sup_failSilent_pair (m : Nat × Word) (s : State) :
    (answerSet m s).pending = s.pending ∧ (answerSet m s).mem = s.mem ∧ (answerSet m s).hw = s.hw ∧ (answerSet m s).sup.failSilent = s.sup.failSilent ∧ (answerSet m s).pair = s.pair := by
  unfold answerSet; simp
@[simp] theorem answerSets_pending_mem_hw_sup_failSilent_pair (s : State) :
    (answerSets s).pending = s.pending ∧ (answerSets s).mem = s.mem ∧ (answerSets s).hw = s.hw ∧ (answerSets s).sup.failSilent = s.sup.failSilent ∧ (answerSets s).pair = s.pair := by
  unfold answerSets; simp
@[simp] theorem onResyncData_pending_hw_sup_failSilent_pair_role_pair_epoch (p : ResyncDataP) (s : State) :
    (onResyncData p s).pending = s.pending ∧ (onResyncData p s).hw = s.hw ∧ (onResyncData p s).sup.failSilent = s.sup.failSilent ∧ (onResyncData p s).pair.role = s.pair.role ∧ (onResyncData p s).pair.epoch = s.pair.epoch := by
  unfold onResyncData; simp
@[simp] theorem closingBegins_pending_mem_hw_sup_failSilent_pair (task : Nat) (s : State) :
    (closingBegins task s).pending = s.pending ∧ (closingBegins task s).mem = s.mem ∧ (closingBegins task s).hw = s.hw ∧ (closingBegins task s).sup.failSilent = s.sup.failSilent ∧ (closingBegins task s).pair = s.pair := by
  unfold closingBegins; simp
@[simp] theorem onResyncCtrl_pending_mem_hw_sup_failSilent_pair_role_pair_epoch (p : ResyncCtrlP) (s : State) :
    (onResyncCtrl p s).pending = s.pending ∧ (onResyncCtrl p s).mem = s.mem ∧ (onResyncCtrl p s).hw = s.hw ∧ (onResyncCtrl p s).sup.failSilent = s.sup.failSilent ∧ (onResyncCtrl p s).pair.role = s.pair.role ∧ (onResyncCtrl p s).pair.epoch = s.pair.epoch := by
  unfold onResyncCtrl; simp
@[simp] theorem endResync_pending_mem_hw_sup_failSilent_pair (s : State) :
    (endResync s).pending = s.pending ∧ (endResync s).mem = s.mem ∧ (endResync s).hw = s.hw ∧ (endResync s).sup.failSilent = s.sup.failSilent ∧ (endResync s).pair = s.pair := by
  unfold endResync; simp
@[simp] theorem drainEvents_pending_hw_sup_failSilent_pair (s : State) :
    (drainEvents s).pending = s.pending ∧ (drainEvents s).hw = s.hw ∧ (drainEvents s).sup.failSilent = s.sup.failSilent ∧ (drainEvents s).pair = s.pair := by
  unfold drainEvents; simp
@[simp] theorem selfTestDone_pending_hw_pair_role_pair_epoch (passed : Bool) (s : State) :
    (selfTestDone passed s).pending = s.pending ∧ (selfTestDone passed s).hw = s.hw ∧ (selfTestDone passed s).pair.role = s.pair.role ∧ (selfTestDone passed s).pair.epoch = s.pair.epoch := by
  unfold selfTestDone; simp
@[simp] theorem fluClear_pending_mem_hw_sup_failSilent_pair (word : Word) (s : State) :
    (fluClear word s).pending = s.pending ∧ (fluClear word s).mem = s.mem ∧ (fluClear word s).hw = s.hw ∧ (fluClear word s).sup.failSilent = s.sup.failSilent ∧ (fluClear word s).pair = s.pair := by
  refine ⟨?_, ?_, ?_, ?_, ?_⟩ <;> (unfold fluClear; rfl)
@[simp] theorem cycPost_pending_mem_hw_sup_failSilent_pair (code : Nat) (data : List Byte) (s : State) :
    (cycPost code data s).pending = s.pending ∧ (cycPost code data s).mem = s.mem ∧ (cycPost code data s).hw = s.hw ∧ (cycPost code data s).sup.failSilent = s.sup.failSilent ∧ (cycPost code data s).pair = s.pair := by
  unfold cycPost; simp
@[simp] theorem startTask_pending_mem_hw_sup_failSilent_pair (s : State) (t : Nat) :
    (startTask s t).pending = s.pending ∧ (startTask s t).mem = s.mem ∧ (startTask s t).hw = s.hw ∧ (startTask s t).sup.failSilent = s.sup.failSilent ∧ (startTask s t).pair = s.pair := by
  unfold startTask; simp
@[simp] theorem latchPages_pending_hw_sup_failSilent_pair (t : Nat) (s : State) :
    (latchPages t s).pending = s.pending ∧ (latchPages t s).hw = s.hw ∧ (latchPages t s).sup.failSilent = s.sup.failSilent ∧ (latchPages t s).pair = s.pair := by
  unfold latchPages; simp
@[simp] theorem takeSection_pending_hw_sup_failSilent_pair (t : Nat) (s : State) (x : Nat × List Byte) :
    (takeSection t s x).pending = s.pending ∧ (takeSection t s x).hw = s.hw ∧ (takeSection t s x).sup.failSilent = s.sup.failSilent ∧ (takeSection t s x).pair = s.pair := by
  unfold takeSection; split <;> simp
@[simp] theorem followTwin_pending_mem_hw_sup_failSilent_pair (t : Nat) (s : State) :
    (followTwin t s).pending = s.pending ∧ (followTwin t s).mem = s.mem ∧ (followTwin t s).hw = s.hw ∧ (followTwin t s).sup.failSilent = s.sup.failSilent ∧ (followTwin t s).pair = s.pair := by
  refine ⟨?_, ?_, ?_, ?_, ?_⟩ <;> (unfold followTwin; rfl)
@[simp] theorem earlyOutcome_pending_hw_sup_failSilent_pair (t : Nat) (s : State) :
    (earlyOutcome t s).pending = s.pending ∧ (earlyOutcome t s).hw = s.hw ∧ (earlyOutcome t s).sup.failSilent = s.sup.failSilent ∧ (earlyOutcome t s).pair = s.pair := by
  unfold earlyOutcome; split <;> simp
@[simp] theorem checkRunning_pending_mem_hw_sup_failSilent_pair (s : State) :
    (checkRunning s).pending = s.pending ∧ (checkRunning s).mem = s.mem ∧ (checkRunning s).hw = s.hw ∧ (checkRunning s).sup.failSilent = s.sup.failSilent ∧ (checkRunning s).pair = s.pair := by
  unfold checkRunning; simp
@[simp] theorem commitPages_pending_hw_sup_failSilent_pair (t : Nat) (s : State) :
    (commitPages t s).pending = s.pending ∧ (commitPages t s).hw = s.hw ∧ (commitPages t s).sup.failSilent = s.sup.failSilent ∧ (commitPages t s).pair = s.pair := by
  unfold commitPages; simp
@[simp] theorem handOver_pending_hw_sup_failSilent_pair (t : Nat) (s : State) :
    (handOver t s).pending = s.pending ∧ (handOver t s).hw = s.hw ∧ (handOver t s).sup.failSilent = s.sup.failSilent ∧ (handOver t s).pair = s.pair := by
  unfold handOver; (repeat' split) <;> simp
@[simp] theorem noteMiss_pending_mem_hw_sup_failSilent_pair (t : Nat) (s : State) :
    (noteMiss t s).pending = s.pending ∧ (noteMiss t s).mem = s.mem ∧ (noteMiss t s).hw = s.hw ∧ (noteMiss t s).sup.failSilent = s.sup.failSilent ∧ (noteMiss t s).pair = s.pair := by
  unfold noteMiss; simp
@[simp] theorem cmdRefused_pending_mem_hw_sup_failSilent_pair (cmd code : Nat) (s : State) :
    (cmdRefused cmd code s).1.pending = s.pending ∧ (cmdRefused cmd code s).1.mem = s.mem ∧ (cmdRefused cmd code s).1.hw = s.hw ∧ (cmdRefused cmd code s).1.sup.failSilent = s.sup.failSilent ∧ (cmdRefused cmd code s).1.pair = s.pair := by
  refine ⟨?_, ?_, ?_, ?_, ?_⟩ <;> (unfold cmdRefused; rfl)
@[simp] theorem cmdTaken_pending_mem_hw_sup_failSilent_pair (cmd : Nat) (s : State) :
    (cmdTaken cmd s).pending = s.pending ∧ (cmdTaken cmd s).mem = s.mem ∧ (cmdTaken cmd s).hw = s.hw ∧ (cmdTaken cmd s).sup.failSilent = s.sup.failSilent ∧ (cmdTaken cmd s).pair = s.pair := by
  unfold cmdTaken; simp
@[simp] theorem programCommand_pending_mem_hw_sup_failSilent_pair (cmd session : Nat) (s : State) :
    (programCommand cmd session s).1.pending = s.pending ∧ (programCommand cmd session s).1.mem = s.mem ∧ (programCommand cmd session s).1.hw = s.hw ∧ (programCommand cmd session s).1.sup.failSilent = s.sup.failSilent ∧ (programCommand cmd session s).1.pair = s.pair := by
  unfold programCommand; dsimp only; (repeat' split) <;> simp
@[simp] theorem stopAll_pending_mem_hw_sup_failSilent_pair (s : State) :
    (stopAll s).pending = s.pending ∧ (stopAll s).mem = s.mem ∧ (stopAll s).hw = s.hw ∧ (stopAll s).sup.failSilent = s.sup.failSilent ∧ (stopAll s).pair = s.pair := by
  unfold stopAll; simp
@[simp] theorem programStopped_pending_mem_hw_sup_failSilent_pair (s : State) :
    (programStopped s).pending = s.pending ∧ (programStopped s).mem = s.mem ∧ (programStopped s).hw = s.hw ∧ (programStopped s).sup.failSilent = s.sup.failSilent ∧ (programStopped s).pair = s.pair := by
  unfold programStopped; simp
@[simp] theorem stopBeat_pending_mem_hw_sup_failSilent_pair (s : State) :
    (stopBeat s).pending = s.pending ∧ (stopBeat s).mem = s.mem ∧ (stopBeat s).hw = s.hw ∧ (stopBeat s).sup.failSilent = s.sup.failSilent ∧ (stopBeat s).pair = s.pair := by
  unfold stopBeat; simp
@[simp] theorem restartImages_pending_hw_sup_failSilent_pair (s : State) :
    (restartImages s).pending = s.pending ∧ (restartImages s).hw = s.hw ∧ (restartImages s).sup.failSilent = s.sup.failSilent ∧ (restartImages s).pair = s.pair := by
  refine ⟨?_, ?_, ?_, ?_⟩ <;> (unfold restartImages; rfl)
@[simp] theorem restartTasks_pending_mem_hw_sup_failSilent_pair (s : State) :
    (restartTasks s).pending = s.pending ∧ (restartTasks s).mem = s.mem ∧ (restartTasks s).hw = s.hw ∧ (restartTasks s).sup.failSilent = s.sup.failSilent ∧ (restartTasks s).pair = s.pair := by
  refine ⟨?_, ?_, ?_, ?_, ?_⟩ <;> (unfold restartTasks; rfl)
@[simp] theorem restartBegin_pending_hw_sup_failSilent_pair (r : Restart) (s : State) :
    (restartBegin r s).pending = s.pending ∧ (restartBegin r s).hw = s.hw ∧ (restartBegin r s).sup.failSilent = s.sup.failSilent ∧ (restartBegin r s).pair = s.pair := by
  unfold restartBegin; simp
@[simp] theorem nameB0_pending_mem_hw_sup_failSilent_pair (s : State) :
    (nameB0 s).pending = s.pending ∧ (nameB0 s).mem = s.mem ∧ (nameB0 s).hw = s.hw ∧ (nameB0 s).sup.failSilent = s.sup.failSilent ∧ (nameB0 s).pair = s.pair := by
  unfold nameB0; split <;> simp
@[simp] theorem restartInit_pending_hw_sup_failSilent_pair (s : State) :
    (restartInit s).pending = s.pending ∧ (restartInit s).hw = s.hw ∧ (restartInit s).sup.failSilent = s.sup.failSilent ∧ (restartInit s).pair = s.pair := by
  unfold restartInit; split <;> simp
@[simp] theorem restartSnap_pending_mem_hw_sup_failSilent_pair (s : State) :
    (restartSnap s).pending = s.pending ∧ (restartSnap s).mem = s.mem ∧ (restartSnap s).hw = s.hw ∧ (restartSnap s).sup.failSilent = s.sup.failSilent ∧ (restartSnap s).pair = s.pair := by
  unfold restartSnap; split <;> simp
@[simp] theorem restartBeat_pending_hw_sup_failSilent_pair (s : State) :
    (restartBeat s).pending = s.pending ∧ (restartBeat s).hw = s.hw ∧ (restartBeat s).sup.failSilent = s.sup.failSilent ∧ (restartBeat s).pair = s.pair := by
  unfold restartBeat; (repeat' split) <;> simp
@[simp] theorem startProgram_pending_mem_hw_sup_failSilent_pair (mode : Nat) (s : State) :
    (startProgram mode s).pending = s.pending ∧ (startProgram mode s).mem = s.mem ∧ (startProgram mode s).hw = s.hw ∧ (startProgram mode s).sup.failSilent = s.sup.failSilent ∧ (startProgram mode s).pair = s.pair := by
  unfold startProgram; split <;> simp
@[simp] theorem setEnable_pending_mem_hw_sup_failSilent_pair (t : Nat) (on : Bool) (s : State) :
    (setEnable t on s).pending = s.pending ∧ (setEnable t on s).mem = s.mem ∧ (setEnable t on s).hw = s.hw ∧ (setEnable t on s).sup.failSilent = s.sup.failSilent ∧ (setEnable t on s).pair = s.pair := by
  unfold setEnable; simp
@[simp] theorem taskEntry_pending_hw_sup_failSilent_pair (t sub v : Nat) (s : State) :
    (taskEntry t sub v s).pending = s.pending ∧ (taskEntry t sub v s).hw = s.hw ∧ (taskEntry t sub v s).sup.failSilent = s.sup.failSilent ∧ (taskEntry t sub v s).pair = s.pair := by
  unfold taskEntry; (repeat' split) <;> simp
@[simp] theorem placeProgram_pending_hw_sup_failSilent_pair (b : List Byte) (s : State) :
    (placeProgram b s).pending = s.pending ∧ (placeProgram b s).hw = s.hw ∧ (placeProgram b s).sup.failSilent = s.sup.failSilent ∧ (placeProgram b s).pair = s.pair := by
  unfold placeProgram; simp
@[simp] theorem programLoad_pending_hw_sup_failSilent_pair (b : List Byte) (s : State) :
    (programLoad b s).pending = s.pending ∧ (programLoad b s).hw = s.hw ∧ (programLoad b s).sup.failSilent = s.sup.failSilent ∧ (programLoad b s).pair = s.pair := by
  unfold programLoad; simp
@[simp] theorem faultClear_pending_mem_hw_sup_failSilent_pair (level : Level) (tasks : BitVec 16) (events : DWord) (s : State) :
    (faultClear level tasks events s).pending = s.pending ∧ (faultClear level tasks events s).mem = s.mem ∧ (faultClear level tasks events s).hw = s.hw ∧ (faultClear level tasks events s).sup.failSilent = s.sup.failSilent ∧ (faultClear level tasks events s).pair = s.pair := by
  unfold faultClear; simp
@[simp] theorem cycWdog_pending_mem_hw_sup_failSilent_pair (core : Nat) (level : Level) (word : Word) (s : State) :
    (cycWdog core level word s).pending = s.pending ∧ (cycWdog core level word s).mem = s.mem ∧ (cycWdog core level word s).hw = s.hw ∧ (cycWdog core level word s).sup.failSilent = s.sup.failSilent ∧ (cycWdog core level word s).pair = s.pair := by
  unfold cycWdog; simp
@[simp] theorem pairPost_pending_mem_hw_sup_failSilent_pair (code : Nat) (data : List Byte) (s : State) :
    (pairPost code data s).pending = s.pending ∧ (pairPost code data s).mem = s.mem ∧ (pairPost code data s).hw = s.hw ∧ (pairPost code data s).sup.failSilent = s.sup.failSilent ∧ (pairPost code data s).pair = s.pair := by
  unfold pairPost; simp
@[simp] theorem gateOutputs_pending_mem_hw_sup_failSilent_pair_role_pair_epoch (s : State) :
    (gateOutputs s).pending = s.pending ∧ (gateOutputs s).mem = s.mem ∧ (gateOutputs s).hw = s.hw ∧ (gateOutputs s).sup.failSilent = s.sup.failSilent ∧ (gateOutputs s).pair.role = s.pair.role ∧ (gateOutputs s).pair.epoch = s.pair.epoch := by
  refine ⟨?_, ?_, ?_, ?_, ?_, ?_⟩ <;> (unfold gateOutputs; rfl)
@[simp] theorem tellTakeover_pending_mem_hw_sup_failSilent_pair_role_pair_epoch (s : State) :
    (tellTakeover s).pending = s.pending ∧ (tellTakeover s).mem = s.mem ∧ (tellTakeover s).hw = s.hw ∧ (tellTakeover s).sup.failSilent = s.sup.failSilent ∧ (tellTakeover s).pair.role = s.pair.role ∧ (tellTakeover s).pair.epoch = s.pair.epoch := by
  unfold tellTakeover; split <;> simp
@[simp] theorem takeoverLate_pending_mem_hw_sup_failSilent_pair_role_pair_epoch (s : State) :
    (takeoverLate s).pending = s.pending ∧ (takeoverLate s).mem = s.mem ∧ (takeoverLate s).hw = s.hw ∧ (takeoverLate s).sup.failSilent = s.sup.failSilent ∧ (takeoverLate s).pair.role = s.pair.role ∧ (takeoverLate s).pair.epoch = s.pair.epoch := by
  unfold takeoverLate; split <;> simp
@[simp] theorem notePeerId_pending_mem_hw_sup_failSilent_pair_role (x : Slot) (compat : Half) (lid lcfg : List Byte) (s : State) :
    (notePeerId x compat lid lcfg s).pending = s.pending ∧ (notePeerId x compat lid lcfg s).mem = s.mem ∧ (notePeerId x compat lid lcfg s).hw = s.hw ∧ (notePeerId x compat lid lcfg s).sup.failSilent = s.sup.failSilent ∧ (notePeerId x compat lid lcfg s).pair.role = s.pair.role := by
  unfold notePeerId; simp
@[simp] theorem sendOwnId_pending_mem_hw_sup_failSilent_pair (x : Slot) (s : State) :
    (sendOwnId x s).pending = s.pending ∧ (sendOwnId x s).mem = s.mem ∧ (sendOwnId x s).hw = s.hw ∧ (sendOwnId x s).sup.failSilent = s.sup.failSilent ∧ (sendOwnId x s).pair = s.pair := by
  unfold sendOwnId; simp
@[simp] theorem sendJoin_pending_mem_hw_sup_failSilent_pair_role_pair_epoch (s : State) :
    (sendJoin s).pending = s.pending ∧ (sendJoin s).mem = s.mem ∧ (sendJoin s).hw = s.hw ∧ (sendJoin s).sup.failSilent = s.sup.failSilent ∧ (sendJoin s).pair.role = s.pair.role ∧ (sendJoin s).pair.epoch = s.pair.epoch := by
  unfold sendJoin; split <;> simp
@[simp] theorem enterStandby_pending_mem_hw_sup_failSilent_pair_epoch (s : State) :
    (enterStandby s).pending = s.pending ∧ (enterStandby s).mem = s.mem ∧ (enterStandby s).hw = s.hw ∧ (enterStandby s).sup.failSilent = s.sup.failSilent ∧ (enterStandby s).pair.epoch = s.pair.epoch := by
  unfold enterStandby; simp
@[simp] theorem bank_pending_mem_hw_sup_failSilent_pair (s : State) :
    (bank s).pending = s.pending ∧ (bank s).mem = s.mem ∧ (bank s).hw = s.hw ∧ (bank s).sup.failSilent = s.sup.failSilent ∧ (bank s).pair = s.pair := by
  unfold bank; simp
@[simp] theorem enterReserve_pending_mem_hw_sup_failSilent_pair_epoch (s : State) :
    (enterReserve s).pending = s.pending ∧ (enterReserve s).mem = s.mem ∧ (enterReserve s).hw = s.hw ∧ (enterReserve s).sup.failSilent = s.sup.failSilent ∧ (enterReserve s).pair.epoch = s.pair.epoch := by
  unfold enterReserve; simp
@[simp] theorem tryJoin_pending_mem_hw_sup_failSilent_pair_epoch (s : State) :
    (tryJoin s).pending = s.pending ∧ (tryJoin s).mem = s.mem ∧ (tryJoin s).hw = s.hw ∧ (tryJoin s).sup.failSilent = s.sup.failSilent ∧ (tryJoin s).pair.epoch = s.pair.epoch := by
  unfold tryJoin; simp
@[simp] theorem probeAll_pending_mem_hw_sup_failSilent_pair (n : Nat) (s : State) :
    (probeAll n s).pending = s.pending ∧ (probeAll n s).mem = s.mem ∧ (probeAll n s).hw = s.hw ∧ (probeAll n s).sup.failSilent = s.sup.failSilent ∧ (probeAll n s).pair = s.pair := by
  unfold probeAll; split <;> simp
@[simp] theorem openWindows_pending_mem_hw_sup_failSilent_pair (s : State) :
    (openWindows s).pending = s.pending ∧ (openWindows s).mem = s.mem ∧ (openWindows s).hw = s.hw ∧ (openWindows s).sup.failSilent = s.sup.failSilent ∧ (openWindows s).pair = s.pair := by
  unfold openWindows; simp
@[simp] theorem startAlone_pending_mem_hw_sup_failSilent (s : State) :
    (startAlone s).pending = s.pending ∧ (startAlone s).mem = s.mem ∧ (startAlone s).hw = s.hw ∧ (startAlone s).sup.failSilent = s.sup.failSilent := by
  unfold startAlone; simp
@[simp] theorem takeoverWrites_pending_mem_hw_sup_failSilent_pair (s : State) :
    (takeoverWrites s).pending = s.pending ∧ (takeoverWrites s).mem = s.mem ∧ (takeoverWrites s).hw = s.hw ∧ (takeoverWrites s).sup.failSilent = s.sup.failSilent ∧ (takeoverWrites s).pair = s.pair := by
  refine ⟨?_, ?_, ?_, ?_, ?_⟩ <;> (unfold takeoverWrites; rfl)
@[simp] theorem rebuildToken_pending_mem_hw_sup_failSilent_pair (byCmd : Bool) (s : State) :
    (rebuildToken byCmd s).pending = s.pending ∧ (rebuildToken byCmd s).mem = s.mem ∧ (rebuildToken byCmd s).hw = s.hw ∧ (rebuildToken byCmd s).sup.failSilent = s.sup.failSilent ∧ (rebuildToken byCmd s).pair = s.pair := by
  unfold rebuildToken; simp
@[simp] theorem catchUp_pending_mem_hw_sup_failSilent_pair (s : State) :
    (catchUp s).pending = s.pending ∧ (catchUp s).mem = s.mem ∧ (catchUp s).hw = s.hw ∧ (catchUp s).sup.failSilent = s.sup.failSilent ∧ (catchUp s).pair = s.pair := by
  unfold catchUp; simp
@[simp] theorem handWaiting_pending_hw_sup_failSilent_pair (s : State) :
    (handWaiting s).pending = s.pending ∧ (handWaiting s).hw = s.hw ∧ (handWaiting s).sup.failSilent = s.sup.failSilent ∧ (handWaiting s).pair = s.pair := by
  unfold handWaiting; simp
@[simp] theorem warmTakeover_pending_hw_sup_failSilent_pair (s : State) :
    (warmTakeover s).pending = s.pending ∧ (warmTakeover s).hw = s.hw ∧ (warmTakeover s).sup.failSilent = s.sup.failSilent ∧ (warmTakeover s).pair = s.pair := by
  unfold warmTakeover; simp
@[simp] theorem takeoverCommon_pending_mem_hw_sup_failSilent_pair (s : State) :
    (takeoverCommon s).pending = s.pending ∧ (takeoverCommon s).mem = s.mem ∧ (takeoverCommon s).hw = s.hw ∧ (takeoverCommon s).sup.failSilent = s.sup.failSilent ∧ (takeoverCommon s).pair = s.pair := by
  unfold takeoverCommon; simp
@[simp] theorem releaseHeard_pending_hw_sup_failSilent_pair (s : State) :
    (releaseHeard s).pending = s.pending ∧ (releaseHeard s).hw = s.hw ∧ (releaseHeard s).sup.failSilent = s.sup.failSilent ∧ (releaseHeard s).pair = s.pair := by
  unfold releaseHeard; simp
@[simp] theorem takeOver_pending_hw_sup_failSilent (lost : Slot) (at_ : Nat) (s : State) :
    (takeOver lost at_ s).pending = s.pending ∧ (takeOver lost at_ s).hw = s.hw ∧ (takeOver lost at_ s).sup.failSilent = s.sup.failSilent := by
  unfold takeOver; simp
@[simp] theorem switchOver_pending_hw_sup_failSilent (old : Slot) (epoch : Word) (s : State) :
    (switchOver old epoch s).pending = s.pending ∧ (switchOver old epoch s).hw = s.hw ∧ (switchOver old epoch s).sup.failSilent = s.sup.failSilent := by
  unfold switchOver; simp
@[simp] theorem standbyLoss_pending_hw_sup_failSilent (x : Slot) (s : State) :
    (standbyLoss x s).pending = s.pending ∧ (standbyLoss x s).hw = s.hw ∧ (standbyLoss x s).sup.failSilent = s.sup.failSilent := by
  unfold standbyLoss; (repeat' split) <;> simp
@[simp] theorem damperToggling_pending_mem_hw_sup_failSilent_pair_role (x : Slot) (s : State) :
    (damperToggling x s).pending = s.pending ∧ (damperToggling x s).mem = s.mem ∧ (damperToggling x s).hw = s.hw ∧ (damperToggling x s).sup.failSilent = s.sup.failSilent ∧ (damperToggling x s).pair.role = s.pair.role := by
  unfold damperToggling; simp
@[simp] theorem damperLost_pending_hw_sup_failSilent (x : Slot) (s : State) :
    (damperLost x s).pending = s.pending ∧ (damperLost x s).hw = s.hw ∧ (damperLost x s).sup.failSilent = s.sup.failSilent := by
  unfold damperLost; simp
@[simp] theorem damperEdge_pending_mem_hw_sup_failSilent_pair_role (x : Slot) (ns : Nat) (s : State) :
    (damperEdge x ns s).pending = s.pending ∧ (damperEdge x ns s).mem = s.mem ∧ (damperEdge x ns s).hw = s.hw ∧ (damperEdge x ns s).sup.failSilent = s.sup.failSilent ∧ (damperEdge x ns s).pair.role = s.pair.role := by
  unfold damperEdge; simp
@[simp] theorem foreignFence_pending_mem_hw_sup_failSilent_pair_epoch (s : State) :
    (foreignFence s).pending = s.pending ∧ (foreignFence s).mem = s.mem ∧ (foreignFence s).hw = s.hw ∧ (foreignFence s).sup.failSilent = s.sup.failSilent ∧ (foreignFence s).pair.epoch = s.pair.epoch := by
  unfold foreignFence; split <;> simp
@[simp] theorem roleMismatch_pending_mem_hw_sup_failSilent_pair_role (x : Slot) (s : State) :
    (roleMismatch x s).pending = s.pending ∧ (roleMismatch x s).mem = s.mem ∧ (roleMismatch x s).hw = s.hw ∧ (roleMismatch x s).sup.failSilent = s.sup.failSilent ∧ (roleMismatch x s).pair.role = s.pair.role := by
  unfold roleMismatch; simp
@[simp] theorem ackSwitch_pending_mem_hw_sup_failSilent_pair_role_pair_epoch (s : State) :
    (ackSwitch s).pending = s.pending ∧ (ackSwitch s).mem = s.mem ∧ (ackSwitch s).hw = s.hw ∧ (ackSwitch s).sup.failSilent = s.sup.failSilent ∧ (ackSwitch s).pair.role = s.pair.role ∧ (ackSwitch s).pair.epoch = s.pair.epoch := by
  unfold ackSwitch; split <;> simp
@[simp] theorem recordDone_pending_hw_sup_failSilent_pair_role_pair_epoch (ok : Bool) (s : State) :
    (recordDone ok s).pending = s.pending ∧ (recordDone ok s).hw = s.hw ∧ (recordDone ok s).sup.failSilent = s.sup.failSilent ∧ (recordDone ok s).pair.role = s.pair.role ∧ (recordDone ok s).pair.epoch = s.pair.epoch := by
  unfold recordDone; simp
@[simp] theorem sendPromote_pending_mem_hw_sup_failSilent_pair (action : Nat) (s : State) :
    (sendPromote action s).pending = s.pending ∧ (sendPromote action s).mem = s.mem ∧ (sendPromote action s).hw = s.hw ∧ (sendPromote action s).sup.failSilent = s.sup.failSilent ∧ (sendPromote action s).pair = s.pair := by
  unfold sendPromote; simp
@[simp] theorem deadEpoch_pending_mem_hw_sup_failSilent_pair_role (x : Slot) (s : State) :
    (deadEpoch x s).pending = s.pending ∧ (deadEpoch x s).mem = s.mem ∧ (deadEpoch x s).hw = s.hw ∧ (deadEpoch x s).sup.failSilent = s.sup.failSilent ∧ (deadEpoch x s).pair.role = s.pair.role := by
  unfold deadEpoch; simp
@[simp] theorem partnerDead_pending_mem_hw_sup_failSilent_pair_role (x : Slot) (s : State) :
    (partnerDead x s).pending = s.pending ∧ (partnerDead x s).mem = s.mem ∧ (partnerDead x s).hw = s.hw ∧ (partnerDead x s).sup.failSilent = s.sup.failSilent ∧ (partnerDead x s).pair.role = s.pair.role := by
  unfold partnerDead; simp
@[simp] theorem promoteReserve_pending_mem_hw_sup_failSilent_pair (s : State) :
    (promoteReserve s).1.pending = s.pending ∧ (promoteReserve s).1.mem = s.mem ∧ (promoteReserve s).1.hw = s.hw ∧ (promoteReserve s).1.sup.failSilent = s.sup.failSilent ∧ (promoteReserve s).1.pair = s.pair := by
  unfold promoteReserve; (repeat' split) <;> simp
@[simp] theorem selfTestEnd_pending_mem_hw_sup_failSilent_pair_role_pair_epoch (s : State) :
    (selfTestEnd s).pending = s.pending ∧ (selfTestEnd s).mem = s.mem ∧ (selfTestEnd s).hw = s.hw ∧ (selfTestEnd s).sup.failSilent = s.sup.failSilent ∧ (selfTestEnd s).pair.role = s.pair.role ∧ (selfTestEnd s).pair.epoch = s.pair.epoch := by
  unfold selfTestEnd; simp
@[simp] theorem beginSwitch_pending_mem_hw_sup_failSilent_pair_role_pair_epoch (service : Bool) (s : State) :
    (beginSwitch service s).pending = s.pending ∧ (beginSwitch service s).mem = s.mem ∧ (beginSwitch service s).hw = s.hw ∧ (beginSwitch service s).sup.failSilent = s.sup.failSilent ∧ (beginSwitch service s).pair.role = s.pair.role ∧ (beginSwitch service s).pair.epoch = s.pair.epoch := by
  unfold beginSwitch; dsimp only; (repeat' split) <;> simp
@[simp] theorem requestSwitch_pending_mem_hw_sup_failSilent_pair_role_pair_epoch (session : Nat) (service : Bool) (s : State) :
    (requestSwitch session service s).1.pending = s.pending ∧ (requestSwitch session service s).1.mem = s.mem ∧ (requestSwitch session service s).1.hw = s.hw ∧ (requestSwitch session service s).1.sup.failSilent = s.sup.failSilent ∧ (requestSwitch session service s).1.pair.role = s.pair.role ∧ (requestSwitch session service s).1.pair.epoch = s.pair.epoch := by
  unfold requestSwitch; dsimp only; (repeat' split) <;> simp
@[simp] theorem cancelSwitch_pending_mem_hw_sup_failSilent_pair_role_pair_epoch (s : State) :
    (cancelSwitch s).pending = s.pending ∧ (cancelSwitch s).mem = s.mem ∧ (cancelSwitch s).hw = s.hw ∧ (cancelSwitch s).sup.failSilent = s.sup.failSilent ∧ (cancelSwitch s).pair.role = s.pair.role ∧ (cancelSwitch s).pair.epoch = s.pair.epoch := by
  unfold cancelSwitch; simp
@[simp] theorem switchNoAck_pending_mem_hw_sup_failSilent_pair_role_pair_epoch (s : State) :
    (switchNoAck s).pending = s.pending ∧ (switchNoAck s).mem = s.mem ∧ (switchNoAck s).hw = s.hw ∧ (switchNoAck s).sup.failSilent = s.sup.failSilent ∧ (switchNoAck s).pair.role = s.pair.role ∧ (switchNoAck s).pair.epoch = s.pair.epoch := by
  unfold switchNoAck; split <;> simp
@[simp] theorem twinAll_pending_mem_hw_sup_failSilent_pair (s : State) :
    (twinAll s).pending = s.pending ∧ (twinAll s).mem = s.mem ∧ (twinAll s).hw = s.hw ∧ (twinAll s).sup.failSilent = s.sup.failSilent ∧ (twinAll s).pair = s.pair := by
  refine ⟨?_, ?_, ?_, ?_, ?_⟩ <;> (unfold twinAll; rfl)
@[simp] theorem switchPoint_pending_mem_hw_sup_failSilent_pair_epoch (s : State) :
    (switchPoint s).pending = s.pending ∧ (switchPoint s).mem = s.mem ∧ (switchPoint s).hw = s.hw ∧ (switchPoint s).sup.failSilent = s.sup.failSilent ∧ (switchPoint s).pair.epoch = s.pair.epoch := by
  unfold switchPoint; split <;> simp
@[simp] theorem leaveRoles_pending_mem_hw_sup_failSilent_pair_epoch (s : State) :
    (leaveRoles s).pending = s.pending ∧ (leaveRoles s).mem = s.mem ∧ (leaveRoles s).hw = s.hw ∧ (leaveRoles s).sup.failSilent = s.sup.failSilent ∧ (leaveRoles s).pair.epoch = s.pair.epoch := by
  unfold leaveRoles; simp
@[simp] theorem switchDone_pending_mem_hw_sup_failSilent_pair_epoch (s : State) :
    (switchDone s).pending = s.pending ∧ (switchDone s).mem = s.mem ∧ (switchDone s).hw = s.hw ∧ (switchDone s).sup.failSilent = s.sup.failSilent ∧ (switchDone s).pair.epoch = s.pair.epoch := by
  unfold switchDone; simp
@[simp] theorem makeOffline_pending_mem_hw_sup_failSilent_pair_epoch (s : State) :
    (makeOffline s).1.pending = s.pending ∧ (makeOffline s).1.mem = s.mem ∧ (makeOffline s).1.hw = s.hw ∧ (makeOffline s).1.sup.failSilent = s.sup.failSilent ∧ (makeOffline s).1.pair.epoch = s.pair.epoch := by
  unfold makeOffline; split <;> simp
@[simp] theorem tellEject_pending_mem_sup_failSilent_pair (s : State) :
    (tellEject s).pending = s.pending ∧ (tellEject s).mem = s.mem ∧ (tellEject s).sup.failSilent = s.sup.failSilent ∧ (tellEject s).pair = s.pair := by
  unfold tellEject; simp
@[simp] theorem serviceBeat_pending_mem_sup_failSilent_pair_epoch (s : State) :
    (serviceBeat s).pending = s.pending ∧ (serviceBeat s).mem = s.mem ∧ (serviceBeat s).sup.failSilent = s.sup.failSilent ∧ (serviceBeat s).pair.epoch = s.pair.epoch := by
  unfold serviceBeat; dsimp only; (repeat' split) <;> simp
@[simp] theorem dmpArm_pending_mem_hw_sup_failSilent_pair_role_pair_epoch (level : Level) (word : Word) (s : State) :
    (dmpArm level word s).pending = s.pending ∧ (dmpArm level word s).mem = s.mem ∧ (dmpArm level word s).hw = s.hw ∧ (dmpArm level word s).sup.failSilent = s.sup.failSilent ∧ (dmpArm level word s).pair.role = s.pair.role ∧ (dmpArm level word s).pair.epoch = s.pair.epoch := by
  unfold dmpArm; simp
@[simp] theorem regionsReset_pending_mem_hw_sup_failSilent (s : State) :
    (regionsReset s).pending = s.pending ∧ (regionsReset s).mem = s.mem ∧ (regionsReset s).hw = s.hw ∧ (regionsReset s).sup.failSilent = s.sup.failSilent := by
  refine ⟨?_, ?_, ?_, ?_⟩ <;> (unfold regionsReset; rfl)
@[simp] theorem restReset_pending_mem_hw_sup_failSilent_pair (s : State) :
    (restReset s).pending = s.pending ∧ (restReset s).mem = s.mem ∧ (restReset s).hw = s.hw ∧ (restReset s).sup.failSilent = s.sup.failSilent ∧ (restReset s).pair = s.pair := by
  refine ⟨?_, ?_, ?_, ?_, ?_⟩ <;> (unfold restReset; rfl)
@[simp] theorem restart_pending_mem (cause : Nat) (s : State) :
    (restart cause s).pending = s.pending ∧ (restart cause s).mem = s.mem := by
  refine ⟨?_, ?_⟩ <;> (unfold restart; rfl)
@[simp] theorem railsFall_pending_sup_failSilent_pair (s : State) :
    (railsFall s).pending = s.pending ∧ (railsFall s).sup.failSilent = s.sup.failSilent ∧ (railsFall s).pair = s.pair := by
  refine ⟨?_, ?_, ?_⟩ <;> (unfold railsFall; rfl)
@[simp] theorem powerOn_pending_mem (s : State) :
    (powerOn s).pending = s.pending ∧ (powerOn s).mem = s.mem := by
  refine ⟨?_, ?_⟩ <;> (unfold powerOn; rfl)
@[simp] theorem updateData_pending_mem_hw_sup_failSilent_pair (v : List Byte) (s : State) :
    (updateData v s).1.pending = s.pending ∧ (updateData v s).1.mem = s.mem ∧ (updateData v s).1.hw = s.hw ∧ (updateData v s).1.sup.failSilent = s.sup.failSilent ∧ (updateData v s).1.pair = s.pair := by
  unfold updateData; split <;> simp
@[simp] theorem updateCheck_pending_mem_hw_sup_failSilent_pair (s : State) :
    (updateCheck s).1.pending = s.pending ∧ (updateCheck s).1.mem = s.mem ∧ (updateCheck s).1.hw = s.hw ∧ (updateCheck s).1.sup.failSilent = s.sup.failSilent ∧ (updateCheck s).1.pair = s.pair := by
  unfold updateCheck; dsimp only; (repeat' split) <;> simp
@[simp] theorem inLoader_pending_mem_hw_sup_failSilent_pair_epoch (s : State) :
    (inLoader s).pending = s.pending ∧ (inLoader s).mem = s.mem ∧ (inLoader s).hw = s.hw ∧ (inLoader s).sup.failSilent = s.sup.failSilent ∧ (inLoader s).pair.epoch = s.pair.epoch := by
  refine ⟨?_, ?_, ?_, ?_, ?_⟩ <;> (unfold inLoader; rfl)
@[simp] theorem enterUpdate_pending (s : State) : (enterUpdate s).pending = s.pending := by
  unfold enterUpdate; simp
@[simp] theorem updateDiscard_pending_mem_hw_sup_failSilent_pair (s : State) :
    (updateDiscard s).1.pending = s.pending ∧ (updateDiscard s).1.mem = s.mem ∧ (updateDiscard s).1.hw = s.hw ∧ (updateDiscard s).1.sup.failSilent = s.sup.failSilent ∧ (updateDiscard s).1.pair = s.pair := by
  unfold updateDiscard; split <;> simp
@[simp] theorem programRegion_pending_hw_sup_failSilent_pair (comp : Nat) (h body : List Byte) (s : State) :
    (programRegion comp h body s).pending = s.pending ∧ (programRegion comp h body s).hw = s.hw ∧ (programRegion comp h body s).sup.failSilent = s.sup.failSilent ∧ (programRegion comp h body s).pair = s.pair := by
  refine ⟨?_, ?_, ?_, ?_⟩ <;> (unfold programRegion; rfl)
@[simp] theorem closeUpdate_pending_mem_hw_sup_failSilent_pair (result : Nat) (newVer : Word) (s : State) :
    (closeUpdate result newVer s).pending = s.pending ∧ (closeUpdate result newVer s).mem = s.mem ∧ (closeUpdate result newVer s).hw = s.hw ∧ (closeUpdate result newVer s).sup.failSilent = s.sup.failSilent ∧ (closeUpdate result newVer s).pair = s.pair := by
  refine ⟨?_, ?_, ?_, ?_, ?_⟩ <;> (unfold closeUpdate; rfl)
@[simp] theorem loaderUpdate_pending (readbackOk : Bool) (s : State) : (loaderUpdate readbackOk s).pending = s.pending := by
  unfold loaderUpdate; simp
@[simp] theorem recoveryImage_pending (image : List Byte) (s : State) : (recoveryImage image s).pending = s.pending := by
  unfold recoveryImage; simp
@[simp] theorem fijPost_pending_mem_hw_sup_failSilent_pair (code : Nat) (data : List Byte) (s : State) :
    (fijPost code data s).pending = s.pending ∧ (fijPost code data s).mem = s.mem ∧ (fijPost code data s).hw = s.hw ∧ (fijPost code data s).sup.failSilent = s.sup.failSilent ∧ (fijPost code data s).pair = s.pair := by
  unfold fijPost; simp
@[simp] theorem setCommission_pending_mem_hw_sup_failSilent_pair (on : Bool) (s : State) :
    (setCommission on s).pending = s.pending ∧ (setCommission on s).mem = s.mem ∧ (setCommission on s).hw = s.hw ∧ (setCommission on s).sup.failSilent = s.sup.failSilent ∧ (setCommission on s).pair = s.pair := by
  unfold setCommission; simp
@[simp] theorem fijComm_pending_mem_hw_sup_failSilent_pair (level : Level) (word : Word) (s : State) :
    (fijComm level word s).pending = s.pending ∧ (fijComm level word s).mem = s.mem ∧ (fijComm level word s).hw = s.hw ∧ (fijComm level word s).sup.failSilent = s.sup.failSilent ∧ (fijComm level word s).pair = s.pair := by
  unfold fijComm; simp
@[simp] theorem fijRun_pending_mem_hw_sup_failSilent_pair (s : State) :
    (fijRun s).pending = s.pending ∧ (fijRun s).mem = s.mem ∧ (fijRun s).hw = s.hw ∧ (fijRun s).sup.failSilent = s.sup.failSilent ∧ (fijRun s).pair = s.pair := by
  unfold fijRun; simp
@[simp] theorem fijStart_pending_mem_hw_sup_failSilent_pair (session : Nat) (s : State) :
    (fijStart session s).1.pending = s.pending ∧ (fijStart session s).1.mem = s.mem ∧ (fijStart session s).1.hw = s.hw ∧ (fijStart session s).1.sup.failSilent = s.sup.failSilent ∧ (fijStart session s).1.pair = s.pair := by
  unfold fijStart; dsimp only; (repeat' split) <;> simp
@[simp] theorem fijCmd_pending_mem_hw_sup_failSilent_pair (level : Level) (word : Word) (s : State) :
    (fijCmd level word s).pending = s.pending ∧ (fijCmd level word s).mem = s.mem ∧ (fijCmd level word s).hw = s.hw ∧ (fijCmd level word s).sup.failSilent = s.sup.failSilent ∧ (fijCmd level word s).pair = s.pair := by
  unfold fijCmd; (repeat' split) <;> simp
@[simp] theorem fijClear_pending_mem_hw_sup_failSilent_pair (level : Level) (word : Word) (s : State) :
    (fijClear level word s).pending = s.pending ∧ (fijClear level word s).mem = s.mem ∧ (fijClear level word s).hw = s.hw ∧ (fijClear level word s).sup.failSilent = s.sup.failSilent ∧ (fijClear level word s).pair = s.pair := by
  unfold fijClear; simp
@[simp] theorem storeVal_pending_mem_hw_sup_failSilent_pair (idx sub : Nat) (v : List Byte) (s : State) :
    (storeVal idx sub v s).pending = s.pending ∧ (storeVal idx sub v s).mem = s.mem ∧ (storeVal idx sub v s).hw = s.hw ∧ (storeVal idx sub v s).sup.failSilent = s.sup.failSilent ∧ (storeVal idx sub v s).pair = s.pair := by
  refine ⟨?_, ?_, ?_, ?_, ?_⟩ <;> (unfold storeVal; rfl)
@[simp] theorem pairField_pending_mem_hw_sup_failSilent_pair_role_pair_epoch (lo len v : Nat) (s : State) :
    (pairField lo len v s).pending = s.pending ∧ (pairField lo len v s).mem = s.mem ∧ (pairField lo len v s).hw = s.hw ∧ (pairField lo len v s).sup.failSilent = s.sup.failSilent ∧ (pairField lo len v s).pair.role = s.pair.role ∧ (pairField lo len v s).pair.epoch = s.pair.epoch := by
  refine ⟨?_, ?_, ?_, ?_, ?_, ?_⟩ <;> (unfold pairField; rfl)
@[simp] theorem fluField_pending_mem_hw_sup_failSilent_pair (lo len v : Nat) (s : State) :
    (fluField lo len v s).pending = s.pending ∧ (fluField lo len v s).mem = s.mem ∧ (fluField lo len v s).hw = s.hw ∧ (fluField lo len v s).sup.failSilent = s.sup.failSilent ∧ (fluField lo len v s).pair = s.pair := by
  refine ⟨?_, ?_, ?_, ?_, ?_⟩ <;> (unfold fluField; rfl)
@[simp] theorem cycField_pending_mem_hw_sup_failSilent_pair (lo len v : Nat) (s : State) :
    (cycField lo len v s).pending = s.pending ∧ (cycField lo len v s).mem = s.mem ∧ (cycField lo len v s).hw = s.hw ∧ (cycField lo len v s).sup.failSilent = s.sup.failSilent ∧ (cycField lo len v s).pair = s.pair := by
  refine ⟨?_, ?_, ?_, ?_, ?_⟩ <;> (unfold cycField; rfl)
@[simp] theorem lioField_pending_mem_hw_sup_failSilent_pair (lo len v : Nat) (s : State) :
    (lioField lo len v s).pending = s.pending ∧ (lioField lo len v s).mem = s.mem ∧ (lioField lo len v s).hw = s.hw ∧ (lioField lo len v s).sup.failSilent = s.sup.failSilent ∧ (lioField lo len v s).pair = s.pair := by
  refine ⟨?_, ?_, ?_, ?_, ?_⟩ <;> (unfold lioField; rfl)
@[simp] theorem applyPair_pending_mem_hw_sup_failSilent_pair_role_pair_epoch (sub v : Nat) (s : State) :
    (applyPair sub v s).pending = s.pending ∧ (applyPair sub v s).mem = s.mem ∧ (applyPair sub v s).hw = s.hw ∧ (applyPair sub v s).sup.failSilent = s.sup.failSilent ∧ (applyPair sub v s).pair.role = s.pair.role ∧ (applyPair sub v s).pair.epoch = s.pair.epoch := by
  unfold applyPair; split <;> simp
@[simp] theorem segField_pending_mem_hw_sup_failSilent_pair (n lo len v : Nat) (s : State) :
    (segField n lo len v s).pending = s.pending ∧ (segField n lo len v s).mem = s.mem ∧ (segField n lo len v s).hw = s.hw ∧ (segField n lo len v s).sup.failSilent = s.sup.failSilent ∧ (segField n lo len v s).pair = s.pair := by
  refine ⟨?_, ?_, ?_, ?_, ?_⟩ <;> (unfold segField; rfl)
@[simp] theorem applySegment_pending_mem_hw_sup_failSilent_pair (n sub v : Nat) (s : State) :
    (applySegment n sub v s).pending = s.pending ∧ (applySegment n sub v s).mem = s.mem ∧ (applySegment n sub v s).hw = s.hw ∧ (applySegment n sub v s).sup.failSilent = s.sup.failSilent ∧ (applySegment n sub v s).pair = s.pair := by
  unfold applySegment; split <;> simp
@[simp] theorem applyProgram_pending_mem_hw_sup_failSilent_pair (sub v : Nat) (s : State) :
    (applyProgram sub v s).pending = s.pending ∧ (applyProgram sub v s).mem = s.mem ∧ (applyProgram sub v s).hw = s.hw ∧ (applyProgram sub v s).sup.failSilent = s.sup.failSilent ∧ (applyProgram sub v s).pair = s.pair := by
  unfold applyProgram; split <;> simp
@[simp] theorem applyTime_pending_mem_hw_sup_failSilent_pair (sub v : Nat) (s : State) :
    (applyTime sub v s).pending = s.pending ∧ (applyTime sub v s).mem = s.mem ∧ (applyTime sub v s).hw = s.hw ∧ (applyTime sub v s).sup.failSilent = s.sup.failSilent ∧ (applyTime sub v s).pair = s.pair := by
  unfold applyTime; split <;> simp
@[simp] theorem applyStore_pending_mem_hw_sup_failSilent_pair (sub v : Nat) (s : State) :
    (applyStore sub v s).pending = s.pending ∧ (applyStore sub v s).mem = s.mem ∧ (applyStore sub v s).hw = s.hw ∧ (applyStore sub v s).sup.failSilent = s.sup.failSilent ∧ (applyStore sub v s).pair = s.pair := by
  unfold applyStore; split <;> simp
@[simp] theorem applyLio_pending_hw_sup_failSilent_pair (sub v : Nat) (s : State) :
    (applyLio sub v s).pending = s.pending ∧ (applyLio sub v s).hw = s.hw ∧ (applyLio sub v s).sup.failSilent = s.sup.failSilent ∧ (applyLio sub v s).pair = s.pair := by
  unfold applyLio; split <;> simp
@[simp] theorem applyFij_pending_mem_hw_sup_failSilent_pair (idx sub : Nat) (v : List Byte) (s : State) :
    (applyFij idx sub v s).pending = s.pending ∧ (applyFij idx sub v s).mem = s.mem ∧ (applyFij idx sub v s).hw = s.hw ∧ (applyFij idx sub v s).sup.failSilent = s.sup.failSilent ∧ (applyFij idx sub v s).pair = s.pair := by
  unfold applyFij; simp
@[simp] theorem applyMode_pending_mem_hw_sup_failSilent_pair (sub v : Nat) (s : State) :
    (applyMode sub v s).pending = s.pending ∧ (applyMode sub v s).mem = s.mem ∧ (applyMode sub v s).hw = s.hw ∧ (applyMode sub v s).sup.failSilent = s.sup.failSilent ∧ (applyMode sub v s).pair = s.pair := by
  unfold applyMode; split <;> simp
@[simp] theorem applyStation_pending_hw_sup_failSilent_pair (x k sub : Nat) (v : List Byte) (s : State) :
    (applyStation x k sub v s).pending = s.pending ∧ (applyStation x k sub v s).hw = s.hw ∧ (applyStation x k sub v s).sup.failSilent = s.sup.failSilent ∧ (applyStation x k sub v s).pair = s.pair := by
  unfold applyStation; dsimp only; (repeat' split) <;> simp
@[simp] theorem applyVal_pending_hw_sup_failSilent_pair_role_pair_epoch (idx sub : Nat) (v : List Byte) (s : State) :
    (applyVal idx sub v s).pending = s.pending ∧ (applyVal idx sub v s).hw = s.hw ∧ (applyVal idx sub v s).sup.failSilent = s.sup.failSilent ∧ (applyVal idx sub v s).pair.role = s.pair.role ∧ (applyVal idx sub v s).pair.epoch = s.pair.epoch := by
  unfold applyVal; simp
@[simp] theorem takeNext_pending_mem_hw_sup_failSilent_pair_role_pair_epoch (s : State) :
    (takeNext s).pending = s.pending ∧ (takeNext s).mem = s.mem ∧ (takeNext s).hw = s.hw ∧ (takeNext s).sup.failSilent = s.sup.failSilent ∧ (takeNext s).pair.role = s.pair.role ∧ (takeNext s).pair.epoch = s.pair.epoch := by
  refine ⟨?_, ?_, ?_, ?_, ?_, ?_⟩ <;> (unfold takeNext; rfl)
@[simp] theorem applyStoreAtStart_pending_hw_sup_failSilent_pair_role_pair_epoch (s : State) :
    (applyStoreAtStart s).pending = s.pending ∧ (applyStoreAtStart s).hw = s.hw ∧ (applyStoreAtStart s).sup.failSilent = s.sup.failSilent ∧ (applyStoreAtStart s).pair.role = s.pair.role ∧ (applyStoreAtStart s).pair.epoch = s.pair.epoch := by
  unfold applyStoreAtStart; simp
@[simp] theorem readClaim_pending_mem_hw_sup_failSilent_pair_role (s : State) :
    (readClaim s).pending = s.pending ∧ (readClaim s).mem = s.mem ∧ (readClaim s).hw = s.hw ∧ (readClaim s).sup.failSilent = s.sup.failSilent ∧ (readClaim s).pair.role = s.pair.role := by
  unfold readClaim; split <;> simp
@[simp] theorem startTime_pending_mem_hw_sup_failSilent_pair (s : State) :
    (startTime s).pending = s.pending ∧ (startTime s).mem = s.mem ∧ (startTime s).hw = s.hw ∧ (startTime s).sup.failSilent = s.sup.failSilent ∧ (startTime s).pair = s.pair := by
  unfold startTime; simp
@[simp] theorem startFaults_pending_mem_hw_sup_failSilent_pair (s : State) :
    (startFaults s).pending = s.pending ∧ (startFaults s).mem = s.mem ∧ (startFaults s).hw = s.hw ∧ (startFaults s).sup.failSilent = s.sup.failSilent ∧ (startFaults s).pair = s.pair := by
  unfold startFaults; dsimp only; (repeat' split) <;> simp
@[simp] theorem startEvents_pending_mem_hw_sup_failSilent_pair (s : State) :
    (startEvents s).pending = s.pending ∧ (startEvents s).mem = s.mem ∧ (startEvents s).hw = s.hw ∧ (startEvents s).sup.failSilent = s.sup.failSilent ∧ (startEvents s).pair = s.pair := by
  unfold startEvents; simp
@[simp] theorem startStore_pending_hw_sup_failSilent_pair_role_pair_epoch (s : State) :
    (startStore s).pending = s.pending ∧ (startStore s).hw = s.hw ∧ (startStore s).sup.failSilent = s.sup.failSilent ∧ (startStore s).pair.role = s.pair.role ∧ (startStore s).pair.epoch = s.pair.epoch := by
  unfold startStore; simp
@[simp] theorem startRole_pending_mem_hw_sup_failSilent (s : State) :
    (startRole s).pending = s.pending ∧ (startRole s).mem = s.mem ∧ (startRole s).hw = s.hw ∧ (startRole s).sup.failSilent = s.sup.failSilent := by
  unfold startRole; dsimp only; (repeat' split) <;> simp
@[simp] theorem startGate_pending_mem_hw_sup_failSilent_pair (s : State) :
    (startGate s).pending = s.pending ∧ (startGate s).mem = s.mem ∧ (startGate s).hw = s.hw ∧ (startGate s).sup.failSilent = s.sup.failSilent ∧ (startGate s).pair = s.pair := by
  unfold startGate; simp
@[simp] theorem startProgramImage_pending_hw_sup_failSilent_pair (s : State) :
    (startProgramImage s).pending = s.pending ∧ (startProgramImage s).hw = s.hw ∧ (startProgramImage s).sup.failSilent = s.sup.failSilent ∧ (startProgramImage s).pair = s.pair := by
  unfold startProgramImage; split <;> simp
@[simp] theorem loadMicrocode_pending_hw_sup_failSilent_pair (s : State) :
    (loadMicrocode s).pending = s.pending ∧ (loadMicrocode s).hw = s.hw ∧ (loadMicrocode s).sup.failSilent = s.sup.failSilent ∧ (loadMicrocode s).pair = s.pair := by
  unfold loadMicrocode; simp
@[simp] theorem loadCord_pending_hw_sup_failSilent_pair (s : State) :
    (loadCord s).pending = s.pending ∧ (loadCord s).hw = s.hw ∧ (loadCord s).sup.failSilent = s.sup.failSilent ∧ (loadCord s).pair = s.pair := by
  unfold loadCord; simp
@[simp] theorem loadRick_pending_hw_sup_failSilent_pair (s : State) :
    (loadRick s).pending = s.pending ∧ (loadRick s).hw = s.hw ∧ (loadRick s).sup.failSilent = s.sup.failSilent ∧ (loadRick s).pair = s.pair := by
  unfold loadRick; simp
@[simp] theorem startRuntime_pending_hw_sup_failSilent (s : State) :
    (startRuntime s).pending = s.pending ∧ (startRuntime s).hw = s.hw ∧ (startRuntime s).sup.failSilent = s.sup.failSilent := by
  unfold startRuntime; simp
@[simp] theorem enterRecovery_pending_mem_hw_sup_failSilent_pair_epoch (s : State) :
    (enterRecovery s).pending = s.pending ∧ (enterRecovery s).mem = s.mem ∧ (enterRecovery s).hw = s.hw ∧ (enterRecovery s).sup.failSilent = s.sup.failSilent ∧ (enterRecovery s).pair.epoch = s.pair.epoch := by
  refine ⟨?_, ?_, ?_, ?_, ?_⟩ <;> (unfold enterRecovery; rfl)
@[simp] theorem openRecord_pending_mem_hw_sup_failSilent_pair (s : State) :
    (openRecord s).pending = s.pending ∧ (openRecord s).mem = s.mem ∧ (openRecord s).hw = s.hw ∧ (openRecord s).sup.failSilent = s.sup.failSilent ∧ (openRecord s).pair = s.pair := by
  unfold openRecord; simp
@[simp] theorem loadFirst_pending_hw_sup_failSilent (s : State) :
    (loadFirst s).pending = s.pending ∧ (loadFirst s).hw = s.hw ∧ (loadFirst s).sup.failSilent = s.sup.failSilent := by
  unfold loadFirst; simp
@[simp] theorem startSequence_pending (s : State) : (startSequence s).pending = s.pending := by
  unfold startSequence; simp
@[simp] theorem autoRestart_pending_mem (s : State) :
    (autoRestart s).pending = s.pending ∧ (autoRestart s).mem = s.mem := by
  unfold autoRestart; simp
@[simp] theorem manualRestart_pending_mem (s : State) :
    (manualRestart s).pending = s.pending ∧ (manualRestart s).mem = s.mem := by
  refine ⟨?_, ?_⟩ <;> (unfold manualRestart; rfl)
@[simp] theorem seated_pending_mem (s : State) :
    (seated s).pending = s.pending ∧ (seated s).mem = s.mem := by
  unfold seated; simp
@[simp] theorem rickReload_pending_mem_hw_sup_failSilent_pair (s : State) :
    (rickReload s).1.pending = s.pending ∧ (rickReload s).1.mem = s.mem ∧ (rickReload s).1.hw = s.hw ∧ (rickReload s).1.sup.failSilent = s.sup.failSilent ∧ (rickReload s).1.pair = s.pair := by
  unfold rickReload; dsimp only; (repeat' split) <;> simp
@[simp] theorem wakeComplete_pending_mem_hw_sup_failSilent_pair_role_pair_epoch (s : State) :
    (wakeComplete s).pending = s.pending ∧ (wakeComplete s).mem = s.mem ∧ (wakeComplete s).hw = s.hw ∧ (wakeComplete s).sup.failSilent = s.sup.failSilent ∧ (wakeComplete s).pair.role = s.pair.role ∧ (wakeComplete s).pair.epoch = s.pair.epoch := by
  unfold wakeComplete; simp
@[simp] theorem hwPost_pending_mem_hw_sup_failSilent_pair (code : Nat) (data : List Byte) (s : State) :
    (hwPost code data s).pending = s.pending ∧ (hwPost code data s).mem = s.mem ∧ (hwPost code data s).hw = s.hw ∧ (hwPost code data s).sup.failSilent = s.sup.failSilent ∧ (hwPost code data s).pair = s.pair := by
  unfold hwPost; simp
@[simp] theorem hwFlag_pending_mem_sup_failSilent_pair (b : Nat) (s : State) :
    (hwFlag b s).pending = s.pending ∧ (hwFlag b s).mem = s.mem ∧ (hwFlag b s).sup.failSilent = s.sup.failSilent ∧ (hwFlag b s).pair = s.pair := by
  refine ⟨?_, ?_, ?_, ?_⟩ <;> (unfold hwFlag; rfl)
@[simp] theorem feedChange_pending_mem_sup_failSilent_pair (feedB : Bool) (st : Feed) (mv : Half) (s : State) :
    (feedChange feedB st mv s).pending = s.pending ∧ (feedChange feedB st mv s).mem = s.mem ∧ (feedChange feedB st mv s).sup.failSilent = s.sup.failSilent ∧ (feedChange feedB st mv s).pair = s.pair := by
  unfold feedChange; simp
@[simp] theorem writeAhead_pending_hw_sup_failSilent_pair (code : Nat) (block : Byte) (data : List Byte) (s : State) :
    (writeAhead code block data s).pending = s.pending ∧ (writeAhead code block data s).hw = s.hw ∧ (writeAhead code block data s).sup.failSilent = s.sup.failSilent ∧ (writeAhead code block data s).pair = s.pair := by
  unfold writeAhead; simp
@[simp] theorem regionsLost_pending_mem_hw_sup_failSilent_pair (s : State) :
    (regionsLost s).pending = s.pending ∧ (regionsLost s).mem = s.mem ∧ (regionsLost s).hw = s.hw ∧ (regionsLost s).sup.failSilent = s.sup.failSilent ∧ (regionsLost s).pair = s.pair := by
  refine ⟨?_, ?_, ?_, ?_, ?_⟩ <;> (unfold regionsLost; rfl)
@[simp] theorem finishClaim_pending_hw_sup_failSilent_pair_role_pair_epoch (s : State) :
    (finishClaim s).pending = s.pending ∧ (finishClaim s).hw = s.hw ∧ (finishClaim s).sup.failSilent = s.sup.failSilent ∧ (finishClaim s).pair.role = s.pair.role ∧ (finishClaim s).pair.epoch = s.pair.epoch := by
  unfold finishClaim; simp
@[simp] theorem powerFail_pending_sup_failSilent (s : State) :
    (powerFail s).pending = s.pending ∧ (powerFail s).sup.failSilent = s.sup.failSilent := by
  unfold powerFail; simp
@[simp] theorem unseated_pending_sup_failSilent (s : State) :
    (unseated s).pending = s.pending ∧ (unseated s).sup.failSilent = s.sup.failSilent := by
  unfold unseated; simp
@[simp] theorem tempWarning_pending_mem_sup_failSilent_pair (junction : Half) (s : State) :
    (tempWarning junction s).pending = s.pending ∧ (tempWarning junction s).mem = s.mem ∧ (tempWarning junction s).sup.failSilent = s.sup.failSilent ∧ (tempWarning junction s).pair = s.pair := by
  unfold tempWarning; simp
@[simp] theorem overTemperature_pending_mem_pair_role_pair_epoch (junction : Half) (s : State) :
    (overTemperature junction s).pending = s.pending ∧ (overTemperature junction s).mem = s.mem ∧ (overTemperature junction s).pair.role = s.pair.role ∧ (overTemperature junction s).pair.epoch = s.pair.epoch := by
  unfold overTemperature; simp
@[simp] theorem serviceBegins_pending_mem_sup_failSilent_pair_epoch (s : State) :
    (serviceBegins s).pending = s.pending ∧ (serviceBegins s).mem = s.mem ∧ (serviceBegins s).sup.failSilent = s.sup.failSilent ∧ (serviceBegins s).pair.epoch = s.pair.epoch := by
  unfold serviceBegins; simp
@[simp] theorem serviceEnds_pending_mem_sup_failSilent_pair_epoch (s : State) :
    (serviceEnds s).pending = s.pending ∧ (serviceEnds s).mem = s.mem ∧ (serviceEnds s).sup.failSilent = s.sup.failSilent ∧ (serviceEnds s).pair.epoch = s.pair.epoch := by
  unfold serviceEnds; simp
@[simp] theorem keyChange_pending_mem (pos : KeyPos) (s : State) :
    (keyChange pos s).pending = s.pending ∧ (keyChange pos s).mem = s.mem := by
  unfold keyChange; simp
@[simp] theorem eject_pending_mem_sup_failSilent_pair_epoch (opened : Bool) (s : State) :
    (eject opened s).pending = s.pending ∧ (eject opened s).mem = s.mem ∧ (eject opened s).sup.failSilent = s.sup.failSilent ∧ (eject opened s).pair.epoch = s.pair.epoch := by
  unfold eject; simp
@[simp] theorem abort_pending_mem_hw_sup_failSilent_pair (c : Client) (code : Nat) (s : State) :
    (abort c code s).pending = s.pending ∧ (abort c code s).mem = s.mem ∧ (abort c code s).hw = s.hw ∧ (abort c code s).sup.failSilent = s.sup.failSilent ∧ (abort c code s).pair = s.pair := by
  refine ⟨?_, ?_, ?_, ?_, ?_⟩ <;> (unfold abort; rfl)
@[simp] theorem respondSeg_pending_mem_hw_sup_failSilent_pair (c : Client) (off : Nat) (more : Bool) (data : List Byte) (s : State) :
    (respondSeg c off more data s).pending = s.pending ∧ (respondSeg c off more data s).mem = s.mem ∧ (respondSeg c off more data s).hw = s.hw ∧ (respondSeg c off more data s).sup.failSilent = s.sup.failSilent ∧ (respondSeg c off more data s).pair = s.pair := by
  refine ⟨?_, ?_, ?_, ?_, ?_⟩ <;> (unfold respondSeg; rfl)
@[simp] theorem putSession_pending_mem_hw_sup_failSilent_pair (x : Session) (s : State) :
    (putSession x s).pending = s.pending ∧ (putSession x s).mem = s.mem ∧ (putSession x s).hw = s.hw ∧ (putSession x s).sup.failSilent = s.sup.failSilent ∧ (putSession x s).pair = s.pair := by
  refine ⟨?_, ?_, ?_, ?_, ?_⟩ <;> (unfold putSession; rfl)
@[simp] theorem modSession_pending_mem_hw_sup_failSilent_pair (h : Nat) (f : Session → Session) (s : State) :
    (modSession h f s).pending = s.pending ∧ (modSession h f s).mem = s.mem ∧ (modSession h f s).hw = s.hw ∧ (modSession h f s).sup.failSilent = s.sup.failSilent ∧ (modSession h f s).pair = s.pair := by
  refine ⟨?_, ?_, ?_, ?_, ?_⟩ <;> (unfold modSession; rfl)
@[simp] theorem tellOpened_pending_mem_hw_sup_failSilent_pair (x : Session) (s : State) :
    (tellOpened x s).pending = s.pending ∧ (tellOpened x s).mem = s.mem ∧ (tellOpened x s).hw = s.hw ∧ (tellOpened x s).sup.failSilent = s.sup.failSilent ∧ (tellOpened x s).pair = s.pair := by
  unfold tellOpened; simp
@[simp] theorem sessionOpen_pending_mem_hw_sup_failSilent_pair (p : Path) (tid : Byte) (level : Nat) (s : State) :
    (sessionOpen p tid level s).pending = s.pending ∧ (sessionOpen p tid level s).mem = s.mem ∧ (sessionOpen p tid level s).hw = s.hw ∧ (sessionOpen p tid level s).sup.failSilent = s.sup.failSilent ∧ (sessionOpen p tid level s).pair = s.pair := by
  unfold sessionOpen; simp
@[simp] theorem proveFails_pending_mem_hw_sup_failSilent_pair (c : Client) (s : State) :
    (proveFails c s).pending = s.pending ∧ (proveFails c s).mem = s.mem ∧ (proveFails c s).hw = s.hw ∧ (proveFails c s).sup.failSilent = s.sup.failSilent ∧ (proveFails c s).pair = s.pair := by
  unfold proveFails; simp
@[simp] theorem sessionProve_pending_mem_hw_sup_failSilent_pair (p : Path) (tid : Byte) (h slot : Nat) (sig : List Byte) (s : State) :
    (sessionProve p tid h slot sig s).pending = s.pending ∧ (sessionProve p tid h slot sig s).mem = s.mem ∧ (sessionProve p tid h slot sig s).hw = s.hw ∧ (sessionProve p tid h slot sig s).sup.failSilent = s.sup.failSilent ∧ (sessionProve p tid h slot sig s).pair = s.pair := by
  unfold sessionProve; split <;> simp
@[simp] theorem sessionKeep_pending_mem_hw_sup_failSilent_pair (p : Path) (tid : Byte) (h : Nat) (s : State) :
    (sessionKeep p tid h s).pending = s.pending ∧ (sessionKeep p tid h s).mem = s.mem ∧ (sessionKeep p tid h s).hw = s.hw ∧ (sessionKeep p tid h s).sup.failSilent = s.sup.failSilent ∧ (sessionKeep p tid h s).pair = s.pair := by
  unfold sessionKeep; split <;> simp
@[simp] theorem checkHalt_pending_mem_hw_sup_failSilent_pair (idx sub : Nat) (m : Meta) (v : List Byte) (s : State) :
    (checkHalt idx sub m v s).1.pending = s.pending ∧ (checkHalt idx sub m v s).1.mem = s.mem ∧ (checkHalt idx sub m v s).1.hw = s.hw ∧ (checkHalt idx sub m v s).1.sup.failSilent = s.sup.failSilent ∧ (checkHalt idx sub m v s).1.pair = s.pair := by
  unfold checkHalt; (repeat' split) <;> simp
@[simp] theorem areaWrite_pending_mem_hw_sup_failSilent_pair (s : State) :
    (areaWrite s).1.pending = s.pending ∧ (areaWrite s).1.mem = s.mem ∧ (areaWrite s).1.hw = s.hw ∧ (areaWrite s).1.sup.failSilent = s.sup.failSilent ∧ (areaWrite s).1.pair = s.pair := by
  unfold areaWrite; (repeat' split) <;> simp
@[simp] theorem tellAsker_pending_mem_hw_sup_failSilent_pair (a : Asker) (code : Nat) (s : State) :
    (tellAsker a code s).pending = s.pending ∧ (tellAsker a code s).mem = s.mem ∧ (tellAsker a code s).hw = s.hw ∧ (tellAsker a code s).sup.failSilent = s.sup.failSilent ∧ (tellAsker a code s).pair = s.pair := by
  unfold tellAsker; (repeat' split) <;> simp
@[simp] theorem sendEntries_pending_mem_hw_sup_failSilent_pair (dst : Slot) (op : Nat) (txn : Word) (beat : DWord) (es : List ObjE) (s : State) :
    (sendEntries dst op txn beat es s).pending = s.pending ∧ (sendEntries dst op txn beat es s).mem = s.mem ∧ (sendEntries dst op txn beat es s).hw = s.hw ∧ (sendEntries dst op txn beat es s).sup.failSilent = s.sup.failSilent ∧ (sendEntries dst op txn beat es s).pair = s.pair := by
  unfold sendEntries; simp
@[simp] theorem copiedState_pending_mem_hw_sup_failSilent_pair (a : Asker) (idx sub : Nat) (s : State) :
    (copiedState a idx sub s).1.pending = s.pending ∧ (copiedState a idx sub s).1.mem = s.mem ∧ (copiedState a idx sub s).1.hw = s.hw ∧ (copiedState a idx sub s).1.sup.failSilent = s.sup.failSilent ∧ (copiedState a idx sub s).1.pair = s.pair := by
  unfold copiedState; dsimp only; (repeat' split) <;> simp
@[simp] theorem copiedAccept_pending_mem_hw_sup_failSilent_pair (a : Asker) (idx sub : Nat) (v : List Byte) (s : State) :
    (copiedAccept a idx sub v s).pending = s.pending ∧ (copiedAccept a idx sub v s).mem = s.mem ∧ (copiedAccept a idx sub v s).hw = s.hw ∧ (copiedAccept a idx sub v s).sup.failSilent = s.sup.failSilent ∧ (copiedAccept a idx sub v s).pair = s.pair := by
  unfold copiedAccept; dsimp only; (repeat' split) <;> simp
@[simp] theorem applyEntry_pending_hw_sup_failSilent_pair_role_pair_epoch (s : State) (e : ObjE) :
    (applyEntry s e).pending = s.pending ∧ (applyEntry s e).hw = s.hw ∧ (applyEntry s e).sup.failSilent = s.sup.failSilent ∧ (applyEntry s e).pair.role = s.pair.role ∧ (applyEntry s e).pair.epoch = s.pair.epoch := by
  unfold applyEntry; simp
@[simp] theorem visibleState_pending_mem_hw_sup_failSilent_pair (idx sub : Nat) (v : List Byte) (s : State) :
    (visibleState idx sub v s).1.pending = s.pending ∧ (visibleState idx sub v s).1.mem = s.mem ∧ (visibleState idx sub v s).1.hw = s.hw ∧ (visibleState idx sub v s).1.sup.failSilent = s.sup.failSilent ∧ (visibleState idx sub v s).1.pair = s.pair := by
  unfold visibleState; dsimp only; (repeat' split) <;> simp
@[simp] theorem gateResetGo_pending_mem_hw_sup_failSilent_pair (a : Asker) (idx : Nat) (s : State) :
    (gateResetGo a idx s).pending = s.pending ∧ (gateResetGo a idx s).mem = s.mem ∧ (gateResetGo a idx s).hw = s.hw ∧ (gateResetGo a idx s).sup.failSilent = s.sup.failSilent ∧ (gateResetGo a idx s).pair = s.pair := by
  unfold gateResetGo; (repeat' split) <;> simp
@[simp] theorem dropXfer_pending_mem_hw_sup_failSilent_pair (h : Nat) (s : State) :
    (dropXfer h s).pending = s.pending ∧ (dropXfer h s).mem = s.mem ∧ (dropXfer h s).hw = s.hw ∧ (dropXfer h s).sup.failSilent = s.sup.failSilent ∧ (dropXfer h s).pair = s.pair := by
  refine ⟨?_, ?_, ?_, ?_, ?_⟩ <;> (unfold dropXfer; rfl)
@[simp] theorem putXfer_pending_mem_hw_sup_failSilent_pair (h : Nat) (t : Xfer) (s : State) :
    (putXfer h t s).pending = s.pending ∧ (putXfer h t s).mem = s.mem ∧ (putXfer h t s).hw = s.hw ∧ (putXfer h t s).sup.failSilent = s.sup.failSilent ∧ (putXfer h t s).pair = s.pair := by
  refine ⟨?_, ?_, ?_, ?_, ?_⟩ <;> (unfold putXfer; rfl)
@[simp] theorem readSeg_pending_mem_hw_sup_failSilent_pair (c : Client) (m : SvcMsg) (s : State) :
    (readSeg c m s).pending = s.pending ∧ (readSeg c m s).mem = s.mem ∧ (readSeg c m s).hw = s.hw ∧ (readSeg c m s).sup.failSilent = s.sup.failSilent ∧ (readSeg c m s).pair = s.pair := by
  unfold readSeg; dsimp only; (repeat' split) <;> simp
@[simp] theorem hostWrite_pending_mem_hw_sup_failSilent_pair (p : Path) (tid : Byte) (session : Nat) (es : List HostE) (s : State) :
    (hostWrite p tid session es s).pending = s.pending ∧ (hostWrite p tid session es s).mem = s.mem ∧ (hostWrite p tid session es s).hw = s.hw ∧ (hostWrite p tid session es s).sup.failSilent = s.sup.failSilent ∧ (hostWrite p tid session es s).pair = s.pair := by
  unfold hostWrite; dsimp only; (repeat' split) <;> simp
@[simp] theorem sendResult_pending_mem_hw_sup_failSilent_pair (n : Word) (code : Nat) (s : State) :
    (sendResult n code s).pending = s.pending ∧ (sendResult n code s).mem = s.mem ∧ (sendResult n code s).hw = s.hw ∧ (sendResult n code s).sup.failSilent = s.sup.failSilent ∧ (sendResult n code s).pair = s.pair := by
  unfold sendResult; simp
@[simp] theorem applyTxn_pending_hw_sup_failSilent_pair_role_pair_epoch (s : State) (t : Txn) :
    (applyTxn s t).pending = s.pending ∧ (applyTxn s t).hw = s.hw ∧ (applyTxn s t).sup.failSilent = s.sup.failSilent ∧ (applyTxn s t).pair.role = s.pair.role ∧ (applyTxn s t).pair.epoch = s.pair.epoch := by
  unfold applyTxn; (repeat' split) <;> simp
@[simp] theorem storeEntries_pending_mem_hw_sup_failSilent_pair (es : List ObjE) (s : State) :
    (storeEntries es s).pending = s.pending ∧ (storeEntries es s).mem = s.mem ∧ (storeEntries es s).hw = s.hw ∧ (storeEntries es s).sup.failSilent = s.sup.failSilent ∧ (storeEntries es s).pair = s.pair := by
  unfold storeEntries; simp
@[simp] theorem wholeSet_pending_mem_hw_sup_failSilent_pair (es : List ObjE) (s : State) :
    (wholeSet es s).1.pending = s.pending ∧ (wholeSet es s).1.mem = s.mem ∧ (wholeSet es s).1.hw = s.hw ∧ (wholeSet es s).1.sup.failSilent = s.sup.failSilent ∧ (wholeSet es s).1.pair = s.pair := by
  refine ⟨?_, ?_, ?_, ?_, ?_⟩ <;> (unfold wholeSet; rfl)
@[simp] theorem nackApply_pending_mem_hw_sup_failSilent_pair_role_pair_epoch (p : ObjWriteP) (code : Nat) (s : State) :
    (nackApply p code s).pending = s.pending ∧ (nackApply p code s).mem = s.mem ∧ (nackApply p code s).hw = s.hw ∧ (nackApply p code s).sup.failSilent = s.sup.failSilent ∧ (nackApply p code s).pair.role = s.pair.role ∧ (nackApply p code s).pair.epoch = s.pair.epoch := by
  unfold nackApply; simp
@[simp] theorem takePeerId_pending_mem_hw_sup_failSilent_pair_role (src : Slot) (es : List ObjE) (s : State) :
    (takePeerId src es s).pending = s.pending ∧ (takePeerId src es s).mem = s.mem ∧ (takePeerId src es s).hw = s.hw ∧ (takePeerId src es s).sup.failSilent = s.sup.failSilent ∧ (takePeerId src es s).pair.role = s.pair.role := by
  unfold takePeerId; simp
@[simp] theorem onAck_pending_mem_hw_sup_failSilent_pair (p : ObjWriteP) (s : State) :
    (onAck p s).pending = s.pending ∧ (onAck p s).mem = s.mem ∧ (onAck p s).hw = s.hw ∧ (onAck p s).sup.failSilent = s.sup.failSilent ∧ (onAck p s).pair = s.pair := by
  unfold onAck; simp
@[simp] theorem onNack_pending_mem_hw_sup_failSilent_pair (p : ObjWriteP) (s : State) :
    (onNack p s).pending = s.pending ∧ (onNack p s).mem = s.mem ∧ (onNack p s).hw = s.hw ∧ (onNack p s).sup.failSilent = s.sup.failSilent ∧ (onNack p s).pair = s.pair := by
  unfold onNack; simp
@[simp] theorem grantToken_pending_mem_hw_sup_failSilent_pair (k : Nat) (a : Asker) (idx : Nat) (s : State) :
    (grantToken k a idx s).pending = s.pending ∧ (grantToken k a idx s).mem = s.mem ∧ (grantToken k a idx s).hw = s.hw ∧ (grantToken k a idx s).sup.failSilent = s.sup.failSilent ∧ (grantToken k a idx s).pair = s.pair := by
  unfold grantToken; simp
@[simp] theorem forwardTimeout_pending_mem_hw_sup_failSilent_pair_role_pair_epoch (n : Word) (s : State) :
    (forwardTimeout n s).pending = s.pending ∧ (forwardTimeout n s).mem = s.mem ∧ (forwardTimeout n s).hw = s.hw ∧ (forwardTimeout n s).sup.failSilent = s.sup.failSilent ∧ (forwardTimeout n s).pair.role = s.pair.role ∧ (forwardTimeout n s).pair.epoch = s.pair.epoch := by
  unfold forwardTimeout; (repeat' split) <;> simp
@[simp] theorem gather_pending_mem_hw_sup_failSilent_pair (p : ObjWriteP) (more : Bool) (s : State) :
    (gather p more s).1.pending = s.pending ∧ (gather p more s).1.mem = s.mem ∧ (gather p more s).1.hw = s.hw ∧ (gather p more s).1.sup.failSilent = s.sup.failSilent ∧ (gather p more s).1.pair = s.pair := by
  unfold gather; split <;> simp
@[simp] theorem sendWholeSet_pending_mem_hw_sup_failSilent_pair (s : State) :
    (sendWholeSet s).pending = s.pending ∧ (sendWholeSet s).mem = s.mem ∧ (sendWholeSet s).hw = s.hw ∧ (sendWholeSet s).sup.failSilent = s.sup.failSilent ∧ (sendWholeSet s).pair = s.pair := by
  unfold sendWholeSet; (repeat' split) <;> simp
@[simp] theorem cycCmd_pending_mem_hw_sup_failSilent_pair (level : Level) (word : Word) (s : State) :
    (cycCmd level word s).pending = s.pending ∧ (cycCmd level word s).mem = s.mem ∧ (cycCmd level word s).hw = s.hw ∧ (cycCmd level word s).sup.failSilent = s.sup.failSilent ∧ (cycCmd level word s).pair = s.pair := by
  unfold cycCmd; simp
@[simp] theorem setPath_pending_mem_hw_sup_failSilent_pair (p : Nat) (s : State) :
    (setPath p s).pending = s.pending ∧ (setPath p s).mem = s.mem ∧ (setPath p s).hw = s.hw ∧ (setPath p s).sup.failSilent = s.sup.failSilent ∧ (setPath p s).pair = s.pair := by
  unfold setPath; simp
@[simp] theorem choosePath_pending_mem_hw_sup_failSilent_pair (s : State) :
    (choosePath s).pending = s.pending ∧ (choosePath s).mem = s.mem ∧ (choosePath s).hw = s.hw ∧ (choosePath s).sup.failSilent = s.sup.failSilent ∧ (choosePath s).pair = s.pair := by
  unfold choosePath; simp
@[simp] theorem laneArrival_pending_mem_hw_sup_failSilent_pair (n : Nat) (s : State) :
    (laneArrival n s).pending = s.pending ∧ (laneArrival n s).mem = s.mem ∧ (laneArrival n s).hw = s.hw ∧ (laneArrival n s).sup.failSilent = s.sup.failSilent ∧ (laneArrival n s).pair = s.pair := by
  unfold laneArrival; simp
@[simp] theorem laneDown_pending_mem_hw_sup_failSilent_pair (n : Nat) (s : State) :
    (laneDown n s).pending = s.pending ∧ (laneDown n s).mem = s.mem ∧ (laneDown n s).hw = s.hw ∧ (laneDown n s).sup.failSilent = s.sup.failSilent ∧ (laneDown n s).pair = s.pair := by
  unfold laneDown; simp
@[simp] theorem laneCrc_pending_mem_hw_sup_failSilent_pair (n : Nat) (s : State) :
    (laneCrc n s).pending = s.pending ∧ (laneCrc n s).mem = s.mem ∧ (laneCrc n s).hw = s.hw ∧ (laneCrc n s).sup.failSilent = s.sup.failSilent ∧ (laneCrc n s).pair = s.pair := by
  refine ⟨?_, ?_, ?_, ?_, ?_⟩ <;> (unfold laneCrc; rfl)
@[simp] theorem onNak_pending_mem_hw_sup_failSilent_pair (lane : Nat) (src : Slot) (p : NakP) (s : State) :
    (onNak lane src p s).pending = s.pending ∧ (onNak lane src p s).mem = s.mem ∧ (onNak lane src p s).hw = s.hw ∧ (onNak lane src p s).sup.failSilent = s.sup.failSilent ∧ (onNak lane src p s).pair = s.pair := by
  refine ⟨?_, ?_, ?_, ?_, ?_⟩
  · unfold onNak; rw [foldl_pending (fun s x => by (repeat' split) <;> simp)]
  · unfold onNak; rw [foldl_mem (fun s x => by (repeat' split) <;> simp)]
  · unfold onNak; rw [foldl_hw (fun s x => by (repeat' split) <;> simp)]
  · unfold onNak; rw [foldl_sup_failSilent (fun s x => by (repeat' split) <;> simp)]
  · unfold onNak; rw [foldl_pair (fun s x => by (repeat' split) <;> simp)]
@[simp] theorem returnRequest_pending_mem_hw_sup_failSilent_pair_role_pair_epoch (x : Slot) (p : StatusP) (s : State) :
    (returnRequest x p s).pending = s.pending ∧ (returnRequest x p s).mem = s.mem ∧ (returnRequest x p s).hw = s.hw ∧ (returnRequest x p s).sup.failSilent = s.sup.failSilent ∧ (returnRequest x p s).pair.role = s.pair.role ∧ (returnRequest x p s).pair.epoch = s.pair.epoch := by
  unfold returnRequest; simp
@[simp] theorem updateEnded_pending_mem_hw_sup_failSilent_pair (old : Option Role) (x : Slot) (seq : Word) (p : StatusP) (s : State) :
    (updateEnded old x seq p s).pending = s.pending ∧ (updateEnded old x seq p s).mem = s.mem ∧ (updateEnded old x seq p s).hw = s.hw ∧ (updateEnded old x seq p s).sup.failSilent = s.sup.failSilent ∧ (updateEnded old x seq p s).pair = s.pair := by
  unfold updateEnded; simp
@[simp] theorem alignTo_pending_mem_hw_sup_failSilent_pair (p : StatusP) (s : State) :
    (alignTo p s).pending = s.pending ∧ (alignTo p s).mem = s.mem ∧ (alignTo p s).hw = s.hw ∧ (alignTo p s).sup.failSilent = s.sup.failSilent ∧ (alignTo p s).pair = s.pair := by
  unfold alignTo; simp
@[simp] theorem onStatus_pending_mem_hw_sup_failSilent (h : FlueHdr) (p : StatusP) (s : State) :
    (onStatus h p s).pending = s.pending ∧ (onStatus h p s).mem = s.mem ∧ (onStatus h p s).hw = s.hw ∧ (onStatus h p s).sup.failSilent = s.sup.failSilent := by
  unfold onStatus; simp
@[simp] theorem onClaim_pending_mem_hw_sup_failSilent (lane : Nat) (x : Slot) (p : ClaimP) (s : State) :
    (onClaim lane x p s).pending = s.pending ∧ (onClaim lane x p s).mem = s.mem ∧ (onClaim lane x p s).hw = s.hw ∧ (onClaim lane x p s).sup.failSilent = s.sup.failSilent := by
  unfold onClaim; dsimp only; (repeat' split) <;> simp
@[simp] theorem answerJoin_pending_mem_hw_sup_failSilent_pair_role (x : Slot) (e : Word) (s : State) :
    (answerJoin x e s).pending = s.pending ∧ (answerJoin x e s).mem = s.mem ∧ (answerJoin x e s).hw = s.hw ∧ (answerJoin x e s).sup.failSilent = s.sup.failSilent ∧ (answerJoin x e s).pair.role = s.pair.role := by
  unfold answerJoin; simp
@[simp] theorem onJoin_pending_mem_hw_sup_failSilent_pair_role (x : Slot) (p : JoinP) (s : State) :
    (onJoin x p s).pending = s.pending ∧ (onJoin x p s).mem = s.mem ∧ (onJoin x p s).hw = s.hw ∧ (onJoin x p s).sup.failSilent = s.sup.failSilent ∧ (onJoin x p s).pair.role = s.pair.role := by
  unfold onJoin; simp
@[simp] theorem onPromote_pending_mem_hw_sup_failSilent_pair_epoch (p : PromoteP) (s : State) :
    (onPromote p s).pending = s.pending ∧ (onPromote p s).mem = s.mem ∧ (onPromote p s).hw = s.hw ∧ (onPromote p s).sup.failSilent = s.sup.failSilent ∧ (onPromote p s).pair.epoch = s.pair.epoch := by
  unfold onPromote; simp
@[simp] theorem onSwitch_pending_mem_hw_sup_failSilent_pair_role_pair_epoch (x : Slot) (p : SwitchP) (s : State) :
    (onSwitch x p s).pending = s.pending ∧ (onSwitch x p s).mem = s.mem ∧ (onSwitch x p s).hw = s.hw ∧ (onSwitch x p s).sup.failSilent = s.sup.failSilent ∧ (onSwitch x p s).pair.role = s.pair.role ∧ (onSwitch x p s).pair.epoch = s.pair.epoch := by
  unfold onSwitch; simp
@[simp] theorem onSwitchAck_pending_mem_hw_sup_failSilent_pair_role_pair_epoch (p : SwitchP) (s : State) :
    (onSwitchAck p s).pending = s.pending ∧ (onSwitchAck p s).mem = s.mem ∧ (onSwitchAck p s).hw = s.hw ∧ (onSwitchAck p s).sup.failSilent = s.sup.failSilent ∧ (onSwitchAck p s).pair.role = s.pair.role ∧ (onSwitchAck p s).pair.epoch = s.pair.epoch := by
  unfold onSwitchAck; split <;> simp
@[simp] theorem relayLate_pending_mem_hw_sup_failSilent_pair (n : Nat) (s : State) :
    (relayLate n s).pending = s.pending ∧ (relayLate n s).mem = s.mem ∧ (relayLate n s).hw = s.hw ∧ (relayLate n s).sup.failSilent = s.sup.failSilent ∧ (relayLate n s).pair = s.pair := by
  unfold relayLate; simp
@[simp] theorem mirrorSegment_pending_mem_hw_sup_failSilent_pair (n : Nat) (s : State) :
    (mirrorSegment n s).pending = s.pending ∧ (mirrorSegment n s).mem = s.mem ∧ (mirrorSegment n s).hw = s.hw ∧ (mirrorSegment n s).sup.failSilent = s.sup.failSilent ∧ (mirrorSegment n s).pair = s.pair := by
  unfold mirrorSegment; simp
@[simp] theorem takeRelay_pending_mem_hw_sup_failSilent_pair (s : State) (e : RelayE) :
    (takeRelay s e).pending = s.pending ∧ (takeRelay s e).mem = s.mem ∧ (takeRelay s e).hw = s.hw ∧ (takeRelay s e).sup.failSilent = s.sup.failSilent ∧ (takeRelay s e).pair = s.pair := by
  unfold takeRelay; split <;> simp
@[simp] theorem onRelayOut_pending_mem_hw_sup_failSilent_pair (es : List RelayE) (s : State) :
    (onRelayOut es s).pending = s.pending ∧ (onRelayOut es s).mem = s.mem ∧ (onRelayOut es s).hw = s.hw ∧ (onRelayOut es s).sup.failSilent = s.sup.failSilent ∧ (onRelayOut es s).pair = s.pair := by
  unfold onRelayOut; simp
@[simp] theorem relaySent_pending_hw_sup_failSilent_pair (n : Nat) (f : FolFrame) (s : State) :
    (relaySent n f s).pending = s.pending ∧ (relaySent n f s).hw = s.hw ∧ (relaySent n f s).sup.failSilent = s.sup.failSilent ∧ (relaySent n f s).pair = s.pair := by
  unfold relaySent; (repeat' split) <;> simp
@[simp] theorem relayTransmit_pending_hw_sup_failSilent_pair (n : Nat) (late : Bool) (s : State) :
    (relayTransmit n late s).pending = s.pending ∧ (relayTransmit n late s).hw = s.hw ∧ (relayTransmit n late s).sup.failSilent = s.sup.failSilent ∧ (relayTransmit n late s).pair = s.pair := by
  unfold relayTransmit; (repeat' split) <;> simp
@[simp] theorem frameEpoch_pending_mem_hw_sup_failSilent (lane : Nat) (f : FlueFrame) (s : State) :
    (frameEpoch lane f s).pending = s.pending ∧ (frameEpoch lane f s).mem = s.mem ∧ (frameEpoch lane f s).hw = s.hw ∧ (frameEpoch lane f s).sup.failSilent = s.sup.failSilent := by
  unfold frameEpoch; simp
@[simp] theorem countPayload_pending_mem_hw_sup_failSilent_pair (f : FlueFrame) (s : State) :
    (countPayload f s).pending = s.pending ∧ (countPayload f s).mem = s.mem ∧ (countPayload f s).hw = s.hw ∧ (countPayload f s).sup.failSilent = s.sup.failSilent ∧ (countPayload f s).pair = s.pair := by
  unfold countPayload; simp
@[simp] theorem flueRxRule_pending_mem_hw_sup_failSilent_pair (lane : Nat) (f : FlueFrame) (s : State) :
    (flueRxRule lane f s).1.pending = s.pending ∧ (flueRxRule lane f s).1.mem = s.mem ∧ (flueRxRule lane f s).1.hw = s.hw ∧ (flueRxRule lane f s).1.sup.failSilent = s.sup.failSilent ∧ (flueRxRule lane f s).1.pair = s.pair := by
  unfold flueRxRule; dsimp only; (repeat' split) <;> simp
@[simp] theorem flueDiscard_pending_mem_hw_sup_failSilent_pair_role (lane : Nat) (why : FlueBad) (src : Slot) (s : State) :
    (flueDiscard lane why src s).pending = s.pending ∧ (flueDiscard lane why src s).mem = s.mem ∧ (flueDiscard lane why src s).hw = s.hw ∧ (flueDiscard lane why src s).sup.failSilent = s.sup.failSilent ∧ (flueDiscard lane why src s).pair.role = s.pair.role := by
  unfold flueDiscard; (repeat' split) <;> simp
@[simp] theorem slotCForward_pending_mem_hw_sup_failSilent_pair (lane : Nat) (f : FlueFrame) (s : State) :
    (slotCForward lane f s).pending = s.pending ∧ (slotCForward lane f s).mem = s.mem ∧ (slotCForward lane f s).hw = s.hw ∧ (slotCForward lane f s).sup.failSilent = s.sup.failSilent ∧ (slotCForward lane f s).pair = s.pair := by
  unfold slotCForward; simp
@[simp] theorem blockLock_pending_mem_hw_sup_failSilent_pair (lane : Nat) (locked : Bool) (s : State) :
    (blockLock lane locked s).pending = s.pending ∧ (blockLock lane locked s).mem = s.mem ∧ (blockLock lane locked s).hw = s.hw ∧ (blockLock lane locked s).sup.failSilent = s.sup.failSilent ∧ (blockLock lane locked s).pair = s.pair := by
  unfold blockLock; simp
@[simp] theorem pairReturn_pending_mem_hw_sup_failSilent_pair (s : State) :
    (pairReturn s).pending = s.pending ∧ (pairReturn s).mem = s.mem ∧ (pairReturn s).hw = s.hw ∧ (pairReturn s).sup.failSilent = s.sup.failSilent ∧ (pairReturn s).pair = s.pair := by
  unfold pairReturn; simp
@[simp] theorem sendStatus_pending_mem_hw_sup_failSilent_pair (s : State) :
    (sendStatus s).pending = s.pending ∧ (sendStatus s).mem = s.mem ∧ (sendStatus s).hw = s.hw ∧ (sendStatus s).sup.failSilent = s.sup.failSilent ∧ (sendStatus s).pair = s.pair := by
  unfold sendStatus; simp
@[simp] theorem countBeat_pending_mem_hw_sup_failSilent_pair (s : State) :
    (countBeat s).pending = s.pending ∧ (countBeat s).mem = s.mem ∧ (countBeat s).hw = s.hw ∧ (countBeat s).sup.failSilent = s.sup.failSilent ∧ (countBeat s).pair = s.pair := by
  refine ⟨?_, ?_, ?_, ?_, ?_⟩ <;> (unfold countBeat; rfl)
@[simp] theorem closeBudget_pending_mem_hw_sup_failSilent_pair (s : State) :
    (closeBudget s).pending = s.pending ∧ (closeBudget s).mem = s.mem ∧ (closeBudget s).hw = s.hw ∧ (closeBudget s).sup.failSilent = s.sup.failSilent ∧ (closeBudget s).pair = s.pair := by
  unfold closeBudget; simp
@[simp] theorem setStale_pending_mem_hw_sup_failSilent_pair (t : Nat) (on : Bool) (s : State) :
    (setStale t on s).pending = s.pending ∧ (setStale t on s).mem = s.mem ∧ (setStale t on s).hw = s.hw ∧ (setStale t on s).sup.failSilent = s.sup.failSilent ∧ (setStale t on s).pair = s.pair := by
  unfold setStale; simp
@[simp] theorem descBeat_pending_mem_hw_sup_failSilent_pair (s : State) (t : Nat) :
    (descBeat s t).pending = s.pending ∧ (descBeat s t).mem = s.mem ∧ (descBeat s t).hw = s.hw ∧ (descBeat s t).sup.failSilent = s.sup.failSilent ∧ (descBeat s t).pair = s.pair := by
  unfold descBeat; simp
@[simp] theorem descsBeat_pending_mem_hw_sup_failSilent_pair (s : State) :
    (descsBeat s).pending = s.pending ∧ (descsBeat s).mem = s.mem ∧ (descsBeat s).hw = s.hw ∧ (descsBeat s).sup.failSilent = s.sup.failSilent ∧ (descsBeat s).pair = s.pair := by
  unfold descsBeat; simp
@[simp] theorem takeMasks_pending_mem_hw_sup_failSilent_pair (s : State) :
    (takeMasks s).pending = s.pending ∧ (takeMasks s).mem = s.mem ∧ (takeMasks s).hw = s.hw ∧ (takeMasks s).sup.failSilent = s.sup.failSilent ∧ (takeMasks s).pair = s.pair := by
  refine ⟨?_, ?_, ?_, ?_, ?_⟩ <;> (unfold takeMasks; rfl)
@[simp] theorem retryRecord_pending_mem_hw_sup_failSilent_pair_role_pair_epoch (s : State) :
    (retryRecord s).pending = s.pending ∧ (retryRecord s).mem = s.mem ∧ (retryRecord s).hw = s.hw ∧ (retryRecord s).sup.failSilent = s.sup.failSilent ∧ (retryRecord s).pair.role = s.pair.role ∧ (retryRecord s).pair.epoch = s.pair.epoch := by
  unfold retryRecord; simp
@[simp] theorem repeatClaim_pending_mem_hw_sup_failSilent_pair_role_pair_epoch (s : State) :
    (repeatClaim s).pending = s.pending ∧ (repeatClaim s).mem = s.mem ∧ (repeatClaim s).hw = s.hw ∧ (repeatClaim s).sup.failSilent = s.sup.failSilent ∧ (repeatClaim s).pair.role = s.pair.role ∧ (repeatClaim s).pair.epoch = s.pair.epoch := by
  unfold repeatClaim; simp
@[simp] theorem dropSwitchSeen_pending_mem_hw_sup_failSilent_pair_role_pair_epoch (s : State) :
    (dropSwitchSeen s).pending = s.pending ∧ (dropSwitchSeen s).mem = s.mem ∧ (dropSwitchSeen s).hw = s.hw ∧ (dropSwitchSeen s).sup.failSilent = s.sup.failSilent ∧ (dropSwitchSeen s).pair.role = s.pair.role ∧ (dropSwitchSeen s).pair.epoch = s.pair.epoch := by
  unfold dropSwitchSeen; split <;> simp
@[simp] theorem pairBeat_pending_mem_sup_failSilent_pair_epoch (s : State) :
    (pairBeat s).pending = s.pending ∧ (pairBeat s).mem = s.mem ∧ (pairBeat s).sup.failSilent = s.sup.failSilent ∧ (pairBeat s).pair.epoch = s.pair.epoch := by
  unfold pairBeat; simp
@[simp] theorem newMask_pending_mem_hw_sup_failSilent_pair (status old new : Word) (src : Nat) (s : State) :
    (newMask status old new src s).pending = s.pending ∧ (newMask status old new src s).mem = s.mem ∧ (newMask status old new src s).hw = s.hw ∧ (newMask status old new src s).sup.failSilent = s.sup.failSilent ∧ (newMask status old new src s).pair = s.pair := by
  unfold newMask; simp
@[simp] theorem supWrite_pending_mem_hw_pair_role_pair_epoch (o core : Nat) (level : Level) (w : Word) (s : State) :
    (supWrite o core level w s).pending = s.pending ∧ (supWrite o core level w s).mem = s.mem ∧ (supWrite o core level w s).hw = s.hw ∧ (supWrite o core level w s).pair.role = s.pair.role ∧ (supWrite o core level w s).pair.epoch = s.pair.epoch := by
  unfold supWrite; split <;> simp
@[simp] theorem trimWrite_pending_mem_hw_sup_failSilent_pair (w : Word) (s : State) :
    (trimWrite w s).pending = s.pending ∧ (trimWrite w s).mem = s.mem ∧ (trimWrite w s).hw = s.hw ∧ (trimWrite w s).sup.failSilent = s.sup.failSilent ∧ (trimWrite w s).pair = s.pair := by
  refine ⟨?_, ?_, ?_, ?_, ?_⟩ <;> (unfold trimWrite; rfl)
@[simp] theorem hckWrite_pending_mem_hw_sup_failSilent_pair (o : Nat) (w : Word) (s : State) :
    (hckWrite o w s).pending = s.pending ∧ (hckWrite o w s).mem = s.mem ∧ (hckWrite o w s).hw = s.hw ∧ (hckWrite o w s).sup.failSilent = s.sup.failSilent ∧ (hckWrite o w s).pair = s.pair := by
  unfold hckWrite; split <;> simp
@[simp] theorem rtcWrite_pending_mem_hw_sup_failSilent_pair (o : Nat) (w : Word) (s : State) :
    (rtcWrite o w s).pending = s.pending ∧ (rtcWrite o w s).mem = s.mem ∧ (rtcWrite o w s).hw = s.hw ∧ (rtcWrite o w s).sup.failSilent = s.sup.failSilent ∧ (rtcWrite o w s).pair = s.pair := by
  unfold rtcWrite; split <;> simp
@[simp] theorem embWrite_pending_mem_hw_sup_failSilent_pair (o : Nat) (level : Level) (w : Word) (s : State) :
    (embWrite o level w s).pending = s.pending ∧ (embWrite o level w s).mem = s.mem ∧ (embWrite o level w s).hw = s.hw ∧ (embWrite o level w s).sup.failSilent = s.sup.failSilent ∧ (embWrite o level w s).pair = s.pair := by
  unfold embWrite; (repeat' split) <;> simp
@[simp] theorem embWrite64_pending_mem_hw_sup_failSilent_pair (o : Nat) (level : Level) (v : DWord) (s : State) :
    (embWrite64 o level v s).pending = s.pending ∧ (embWrite64 o level v s).mem = s.mem ∧ (embWrite64 o level v s).hw = s.hw ∧ (embWrite64 o level v s).sup.failSilent = s.sup.failSilent ∧ (embWrite64 o level v s).pair = s.pair := by
  unfold embWrite64; simp
@[simp] theorem fluCfg_pending_mem_hw_sup_failSilent_pair (w : Word) (s : State) :
    (fluCfg w s).pending = s.pending ∧ (fluCfg w s).mem = s.mem ∧ (fluCfg w s).hw = s.hw ∧ (fluCfg w s).sup.failSilent = s.sup.failSilent ∧ (fluCfg w s).pair = s.pair := by
  refine ⟨?_, ?_, ?_, ?_, ?_⟩ <;> (unfold fluCfg; rfl)
@[simp] theorem fluWrite_pending_mem_hw_sup_failSilent_pair (o : Nat) (w : Word) (s : State) :
    (fluWrite o w s).pending = s.pending ∧ (fluWrite o w s).mem = s.mem ∧ (fluWrite o w s).hw = s.hw ∧ (fluWrite o w s).sup.failSilent = s.sup.failSilent ∧ (fluWrite o w s).pair = s.pair := by
  unfold fluWrite; split <;> simp
@[simp] theorem segWrite_pending_mem_hw_sup_failSilent_pair (n : Nat) (w : Word) (s : State) :
    (segWrite n w s).pending = s.pending ∧ (segWrite n w s).mem = s.mem ∧ (segWrite n w s).hw = s.hw ∧ (segWrite n w s).sup.failSilent = s.sup.failSilent ∧ (segWrite n w s).pair = s.pair := by
  unfold segWrite; simp
@[simp] theorem cycWrite64_pending_mem_hw_sup_failSilent_pair (o : Nat) (level : Level) (v : DWord) (s : State) :
    (cycWrite64 o level v s).pending = s.pending ∧ (cycWrite64 o level v s).mem = s.mem ∧ (cycWrite64 o level v s).hw = s.hw ∧ (cycWrite64 o level v s).sup.failSilent = s.sup.failSilent ∧ (cycWrite64 o level v s).pair = s.pair := by
  unfold cycWrite64; split <;> simp
@[simp] theorem fptHalt_pending_mem_hw_sup_failSilent_pair (n : Nat) (f : Port → Port) (s : State) :
    (fptHalt n f s).pending = s.pending ∧ (fptHalt n f s).mem = s.mem ∧ (fptHalt n f s).hw = s.hw ∧ (fptHalt n f s).sup.failSilent = s.sup.failSilent ∧ (fptHalt n f s).pair = s.pair := by
  unfold fptHalt; simp
@[simp] theorem lioHalt_pending_mem_hw_sup_failSilent_pair (f : Lio → Lio) (s : State) :
    (lioHalt f s).pending = s.pending ∧ (lioHalt f s).mem = s.mem ∧ (lioHalt f s).hw = s.hw ∧ (lioHalt f s).sup.failSilent = s.sup.failSilent ∧ (lioHalt f s).pair = s.pair := by
  unfold lioHalt; simp
@[simp] theorem lioWrite_pending_mem_hw_sup_failSilent_pair (o : Nat) (level : Level) (w : Word) (s : State) :
    (lioWrite o level w s).pending = s.pending ∧ (lioWrite o level w s).mem = s.mem ∧ (lioWrite o level w s).hw = s.hw ∧ (lioWrite o level w s).sup.failSilent = s.sup.failSilent ∧ (lioWrite o level w s).pair = s.pair := by
  unfold lioWrite; split <;> simp
@[simp] theorem lioWrite64_pending_mem_hw_sup_failSilent_pair (o : Nat) (v : DWord) (s : State) :
    (lioWrite64 o v s).pending = s.pending ∧ (lioWrite64 o v s).mem = s.mem ∧ (lioWrite64 o v s).hw = s.hw ∧ (lioWrite64 o v s).sup.failSilent = s.sup.failSilent ∧ (lioWrite64 o v s).pair = s.pair := by
  unfold lioWrite64; split <;> simp
@[simp] theorem dicWrite_pending_mem_hw_sup_failSilent_pair (o : Nat) (w : Word) (s : State) :
    (dicWrite o w s).pending = s.pending ∧ (dicWrite o w s).mem = s.mem ∧ (dicWrite o w s).hw = s.hw ∧ (dicWrite o w s).sup.failSilent = s.sup.failSilent ∧ (dicWrite o w s).pair = s.pair := by
  unfold dicWrite; simp
@[simp] theorem fijHalt_pending_mem_hw_sup_failSilent_pair (f : Mnt → Mnt) (s : State) :
    (fijHalt f s).pending = s.pending ∧ (fijHalt f s).mem = s.mem ∧ (fijHalt f s).hw = s.hw ∧ (fijHalt f s).sup.failSilent = s.sup.failSilent ∧ (fijHalt f s).pair = s.pair := by
  unfold fijHalt; simp
@[simp] theorem fijWrite_pending_mem_hw_sup_failSilent_pair (o : Nat) (level : Level) (w : Word) (s : State) :
    (fijWrite o level w s).pending = s.pending ∧ (fijWrite o level w s).mem = s.mem ∧ (fijWrite o level w s).hw = s.hw ∧ (fijWrite o level w s).sup.failSilent = s.sup.failSilent ∧ (fijWrite o level w s).pair = s.pair := by
  unfold fijWrite; split <;> simp
@[simp] theorem jrnCfg_pending_mem_hw_sup_failSilent_pair (w : Word) (s : State) :
    (jrnCfg w s).pending = s.pending ∧ (jrnCfg w s).mem = s.mem ∧ (jrnCfg w s).hw = s.hw ∧ (jrnCfg w s).sup.failSilent = s.sup.failSilent ∧ (jrnCfg w s).pair = s.pair := by
  unfold jrnCfg; simp
@[simp] theorem evrCfg_pending_mem_hw_sup_failSilent_pair (w : Word) (s : State) :
    (evrCfg w s).pending = s.pending ∧ (evrCfg w s).mem = s.mem ∧ (evrCfg w s).hw = s.hw ∧ (evrCfg w s).sup.failSilent = s.sup.failSilent ∧ (evrCfg w s).pair = s.pair := by
  refine ⟨?_, ?_, ?_, ?_, ?_⟩ <;> (unfold evrCfg; rfl)
@[simp] theorem windowData_pending_mem_hw_sup_failSilent_pair (win k : Nat) (level : Level) (w : Word) (s : State) :
    (windowData win k level w s).pending = s.pending ∧ (windowData win k level w s).mem = s.mem ∧ (windowData win k level w s).hw = s.hw ∧ (windowData win k level w s).sup.failSilent = s.sup.failSilent ∧ (windowData win k level w s).pair = s.pair := by
  unfold windowData; simp
@[simp] theorem sclCtrl_pending_mem_hw_sup_failSilent_pair (w : Word) (s : State) :
    (sclCtrl w s).pending = s.pending ∧ (sclCtrl w s).mem = s.mem ∧ (sclCtrl w s).hw = s.hw ∧ (sclCtrl w s).sup.failSilent = s.sup.failSilent ∧ (sclCtrl w s).pair = s.pair := by
  refine ⟨?_, ?_, ?_, ?_, ?_⟩ <;> (unfold sclCtrl; rfl)
@[simp] theorem sclChCmd_pending_mem_hw_sup_failSilent_pair (w : Word) (s : State) :
    (sclChCmd w s).pending = s.pending ∧ (sclChCmd w s).mem = s.mem ∧ (sclChCmd w s).hw = s.hw ∧ (sclChCmd w s).sup.failSilent = s.sup.failSilent ∧ (sclChCmd w s).pair = s.pair := by
  unfold sclChCmd; (repeat' split) <;> simp
@[simp] theorem sclHaltWr_pending_mem_hw_sup_failSilent_pair (s : State) :
    (sclHaltWr s).pending = s.pending ∧ (sclHaltWr s).mem = s.mem ∧ (sclHaltWr s).hw = s.hw ∧ (sclHaltWr s).sup.failSilent = s.sup.failSilent ∧ (sclHaltWr s).pair = s.pair := by
  unfold sclHaltWr; simp
@[simp] theorem sclMap_pending_mem_hw_sup_failSilent_pair (n : Nat) (w : Word) (s : State) :
    (sclMap n w s).pending = s.pending ∧ (sclMap n w s).mem = s.mem ∧ (sclMap n w s).hw = s.hw ∧ (sclMap n w s).sup.failSilent = s.sup.failSilent ∧ (sclMap n w s).pair = s.pair := by
  unfold sclMap; simp
@[simp] theorem sclParam_pending_mem_hw_sup_failSilent_pair (j sub : Nat) (v : DWord) (s : State) :
    (sclParam j sub v s).pending = s.pending ∧ (sclParam j sub v s).mem = s.mem ∧ (sclParam j sub v s).hw = s.hw ∧ (sclParam j sub v s).sup.failSilent = s.sup.failSilent ∧ (sclParam j sub v s).pair = s.pair := by
  unfold sclParam; split <;> simp
@[simp] theorem sclWrite_pending_mem_hw_sup_failSilent_pair (o : Nat) (w : Word) (s : State) :
    (sclWrite o w s).pending = s.pending ∧ (sclWrite o w s).mem = s.mem ∧ (sclWrite o w s).hw = s.hw ∧ (sclWrite o w s).sup.failSilent = s.sup.failSilent ∧ (sclWrite o w s).pair = s.pair := by
  unfold sclWrite; split <;> simp
@[simp] theorem sclWrite64_pending_mem_hw_sup_failSilent_pair (o : Nat) (v : DWord) (s : State) :
    (sclWrite64 o v s).pending = s.pending ∧ (sclWrite64 o v s).mem = s.mem ∧ (sclWrite64 o v s).hw = s.hw ∧ (sclWrite64 o v s).sup.failSilent = s.sup.failSilent ∧ (sclWrite64 o v s).pair = s.pair := by
  unfold sclWrite64; simp
@[simp] theorem gateWrite_pending_mem_hw_sup_failSilent_pair (o : Nat) (level : Level) (w : Word) (s : State) :
    (gateWrite o level w s).pending = s.pending ∧ (gateWrite o level w s).mem = s.mem ∧ (gateWrite o level w s).hw = s.hw ∧ (gateWrite o level w s).sup.failSilent = s.sup.failSilent ∧ (gateWrite o level w s).pair = s.pair := by
  unfold gateWrite; split <;> simp
@[simp] theorem gateWrite64_pending_mem_hw_sup_failSilent_pair (o : Nat) (v : DWord) (s : State) :
    (gateWrite64 o v s).pending = s.pending ∧ (gateWrite64 o v s).mem = s.mem ∧ (gateWrite64 o v s).hw = s.hw ∧ (gateWrite64 o v s).sup.failSilent = s.sup.failSilent ∧ (gateWrite64 o v s).pair = s.pair := by
  unfold gateWrite64; simp
@[simp] theorem regWrite64_pending_mem_hw_sup_failSilent_pair (b : Blk) (o : Nat) (level : Level) (v : DWord) (s : State) :
    (regWrite64 b o level v s).pending = s.pending ∧ (regWrite64 b o level v s).mem = s.mem ∧ (regWrite64 b o level v s).hw = s.hw ∧ (regWrite64 b o level v s).sup.failSilent = s.sup.failSilent ∧ (regWrite64 b o level v s).pair = s.pair := by
  unfold regWrite64; split <;> simp
@[simp] theorem dropLatch_pending_mem_hw_sup_failSilent_pair (m : Master) (s : State) :
    (dropLatch m s).pending = s.pending ∧ (dropLatch m s).mem = s.mem ∧ (dropLatch m s).hw = s.hw ∧ (dropLatch m s).sup.failSilent = s.sup.failSilent ∧ (dropLatch m s).pair = s.pair := by
  refine ⟨?_, ?_, ?_, ?_, ?_⟩ <;> (unfold dropLatch; rfl)
@[simp] theorem doorRead_pending_mem_hw_sup_failSilent_pair (m : Master) (a len : Nat) (s : State) :
    (doorRead m a len s).pending = s.pending ∧ (doorRead m a len s).mem = s.mem ∧ (doorRead m a len s).hw = s.hw ∧ (doorRead m a len s).sup.failSilent = s.sup.failSilent ∧ (doorRead m a len s).pair = s.pair := by
  unfold doorRead; simp
@[simp] theorem memPut_pending_hw_sup_failSilent_pair (a : Nat) (bs : List Byte) (s : State) :
    (memPut a bs s).pending = s.pending ∧ (memPut a bs s).hw = s.hw ∧ (memPut a bs s).sup.failSilent = s.sup.failSilent ∧ (memPut a bs s).pair = s.pair := by
  refine ⟨?_, ?_, ?_, ?_⟩ <;> (unfold memPut; rfl)
@[simp] theorem countMbx_pending_mem_hw_sup_failSilent_pair (c : Bool) (s : State) :
    (countMbx c s).pending = s.pending ∧ (countMbx c s).mem = s.mem ∧ (countMbx c s).hw = s.hw ∧ (countMbx c s).sup.failSilent = s.sup.failSilent ∧ (countMbx c s).pair = s.pair := by
  unfold countMbx; simp
@[simp] theorem mailboxWrite_pending_hw_sup_failSilent_pair (m : Master) (level : Level) (a : Nat) (bs : List Byte) (s : State) :
    (mailboxWrite m level a bs s).pending = s.pending ∧ (mailboxWrite m level a bs s).hw = s.hw ∧ (mailboxWrite m level a bs s).sup.failSilent = s.sup.failSilent ∧ (mailboxWrite m level a bs s).pair = s.pair := by
  unfold mailboxWrite; simp
@[simp] theorem read32_pending_mem_hw_sup_failSilent_pair (m : Master) (b : Blk) (base o : Nat) (s : State) :
    (read32 m b base o s).1.pending = s.pending ∧ (read32 m b base o s).1.mem = s.mem ∧ (read32 m b base o s).1.hw = s.hw ∧ (read32 m b base o s).1.sup.failSilent = s.sup.failSilent ∧ (read32 m b base o s).1.pair = s.pair := by
  unfold read32; (repeat' split) <;> simp
@[simp] theorem readReg_pending_mem_hw_sup_failSilent_pair (m : Master) (b : Blk) (base o len : Nat) (s : State) :
    (readReg m b base o len s).1.pending = s.pending ∧ (readReg m b base o len s).1.mem = s.mem ∧ (readReg m b base o len s).1.hw = s.hw ∧ (readReg m b base o len s).1.sup.failSilent = s.sup.failSilent ∧ (readReg m b base o len s).1.pair = s.pair := by
  unfold readReg; dsimp only; (repeat' split) <;> simp
@[simp] theorem servePart_pending_hw_sup_failSilent_pair (r : BusReq) (level : Level) (s : State) (p : Nat × Nat) :
    (servePart r level s p).1.pending = s.pending ∧ (servePart r level s p).1.hw = s.hw ∧ (servePart r level s p).1.sup.failSilent = s.sup.failSilent ∧ (servePart r level s p).1.pair = s.pair := by
  unfold servePart; (repeat' split) <;> simp
@[simp] theorem masterEnd_pending_mem_hw_sup_failSilent_pair (m : Master) (e : BusEnd) (s : State) :
    (masterEnd m e s).pending = s.pending ∧ (masterEnd m e s).mem = s.mem ∧ (masterEnd m e s).hw = s.hw ∧ (masterEnd m e s).sup.failSilent = s.sup.failSilent ∧ (masterEnd m e s).pair = s.pair := by
  unfold masterEnd; (repeat' split) <;> simp
@[simp] theorem answer_pending_mem_hw_sup_failSilent_pair (m : Master) (e : BusEnd) (s : State) :
    (answer m e s).pending = s.pending ∧ (answer m e s).mem = s.mem ∧ (answer m e s).hw = s.hw ∧ (answer m e s).sup.failSilent = s.sup.failSilent ∧ (answer m e s).pair = s.pair := by
  unfold answer; simp
@[simp] theorem refuse_pending_mem_hw_sup_failSilent_pair (r : BusReq) (level : Level) (a : Nat) (split fixed parity : Bool) (gate : Nat) (s : State) :
    (refuse r level a split fixed parity gate s).pending = s.pending ∧ (refuse r level a split fixed parity gate s).mem = s.mem ∧ (refuse r level a split fixed parity gate s).hw = s.hw ∧ (refuse r level a split fixed parity gate s).sup.failSilent = s.sup.failSilent ∧ (refuse r level a split fixed parity gate s).pair = s.pair := by
  unfold refuse; simp
@[simp] theorem cordPut_pending_hw_sup_failSilent_pair (a : Nat) (bs : List Byte) (s : State) :
    (cordPut a bs s).pending = s.pending ∧ (cordPut a bs s).hw = s.hw ∧ (cordPut a bs s).sup.failSilent = s.sup.failSilent ∧ (cordPut a bs s).pair = s.pair := by
  unfold cordPut; simp
@[simp] theorem parityFirst_pending_mem_hw_pair_role_pair_epoch (r : BusReq) (s : State) :
    (parityFirst r s).1.pending = s.pending ∧ (parityFirst r s).1.mem = s.mem ∧ (parityFirst r s).1.hw = s.hw ∧ (parityFirst r s).1.pair.role = s.pair.role ∧ (parityFirst r s).1.pair.epoch = s.pair.epoch := by
  unfold parityFirst; split <;> simp
@[simp] theorem retryAgain_pending_mem_hw_pair_role_pair_epoch (x : Retry) (s : State) :
    (retryAgain x s).pending = s.pending ∧ (retryAgain x s).mem = s.mem ∧ (retryAgain x s).hw = s.hw ∧ (retryAgain x s).pair.role = s.pair.role ∧ (retryAgain x s).pair.epoch = s.pair.epoch := by
  unfold retryAgain; simp
@[simp] theorem clockTick_pending_mem_sup_failSilent_pair (s : State) :
    (clockTick s).pending = s.pending ∧ (clockTick s).mem = s.mem ∧ (clockTick s).sup.failSilent = s.sup.failSilent ∧ (clockTick s).pair = s.pair := by
  refine ⟨?_, ?_, ?_, ?_⟩ <;> (unfold clockTick; rfl)
@[simp] theorem laneTick_pending_mem_hw_sup_failSilent_pair (s : State) (n : Nat) :
    (laneTick s n).pending = s.pending ∧ (laneTick s n).mem = s.mem ∧ (laneTick s n).hw = s.hw ∧ (laneTick s n).sup.failSilent = s.sup.failSilent ∧ (laneTick s n).pair = s.pair := by
  unfold laneTick; dsimp only; (repeat' split) <;> simp
@[simp] theorem portTick_pending_mem_hw_sup_failSilent_pair (s : State) (n : Nat) :
    (portTick s n).pending = s.pending ∧ (portTick s n).mem = s.mem ∧ (portTick s n).hw = s.hw ∧ (portTick s n).sup.failSilent = s.sup.failSilent ∧ (portTick s n).pair = s.pair := by
  unfold portTick; simp
@[simp] theorem windowTick_pending_mem_hw_sup_failSilent_pair (s : State) (n : Nat) :
    (windowTick s n).pending = s.pending ∧ (windowTick s n).mem = s.mem ∧ (windowTick s n).hw = s.hw ∧ (windowTick s n).sup.failSilent = s.sup.failSilent ∧ (windowTick s n).pair = s.pair := by
  unfold windowTick; split <;> simp
@[simp] theorem deliver_pending_mem_hw_sup_failSilent_pair (s : State) (m : OutMsg) :
    (deliver s m).pending = s.pending ∧ (deliver s m).mem = s.mem ∧ (deliver s m).hw = s.hw ∧ (deliver s m).sup.failSilent = s.sup.failSilent ∧ (deliver s m).pair = s.pair := by
  unfold deliver; split <;> simp
@[simp] theorem deliverAll_pending_mem_hw_sup_failSilent_pair (s : State) :
    (deliverAll s).pending = s.pending ∧ (deliverAll s).mem = s.mem ∧ (deliverAll s).hw = s.hw ∧ (deliverAll s).sup.failSilent = s.sup.failSilent ∧ (deliverAll s).pair = s.pair := by
  unfold deliverAll; simp
@[simp] theorem dueRestart_pending_mem (s : State) :
    (dueRestart s).pending = s.pending ∧ (dueRestart s).mem = s.mem := by
  unfold dueRestart; split <;> simp
@[simp] theorem ksEnrol_pending_hw_pair_role_pair_epoch (d : List Byte) (s : State) :
    (ksEnrol d s).1.pending = s.pending ∧ (ksEnrol d s).1.hw = s.hw ∧ (ksEnrol d s).1.pair.role = s.pair.role ∧ (ksEnrol d s).1.pair.epoch = s.pair.epoch := by
  unfold ksEnrol; dsimp only; (repeat' split) <;> (try (rename_i h; obtain ⟨rfl, -⟩ := Prod.ext_iff.mp h)) <;> simp
@[simp] theorem ksRevoke_pending_hw_pair_role_pair_epoch (cls idx : Nat) (s : State) :
    (ksRevoke cls idx s).1.pending = s.pending ∧ (ksRevoke cls idx s).1.hw = s.hw ∧ (ksRevoke cls idx s).1.pair.role = s.pair.role ∧ (ksRevoke cls idx s).1.pair.epoch = s.pair.epoch := by
  unfold ksRevoke; dsimp only; (repeat' split) <;> (try (rename_i h; obtain ⟨rfl, -⟩ := Prod.ext_iff.mp h)) <;> simp
@[simp] theorem opObjWrite_pending_hw_pair_role_pair_epoch (m : MbxRq) (s : State) :
    (opObjWrite m s).1.pending = s.pending ∧ (opObjWrite m s).1.hw = s.hw ∧ (opObjWrite m s).1.pair.role = s.pair.role ∧ (opObjWrite m s).1.pair.epoch = s.pair.epoch := by
  unfold opObjWrite; dsimp only; (repeat' split) <;> (try (rename_i h; obtain ⟨rfl, -⟩ := Prod.ext_iff.mp h)) <;> simp
@[simp] theorem opChallenge_pending_mem_hw_sup_failSilent_pair (x00 : MbxRq) (s : State) :
    (opChallenge x00 s).1.pending = s.pending ∧ (opChallenge x00 s).1.mem = s.mem ∧ (opChallenge x00 s).1.hw = s.hw ∧ (opChallenge x00 s).1.sup.failSilent = s.sup.failSilent ∧ (opChallenge x00 s).1.pair = s.pair := by
  unfold opChallenge; split <;> simp
@[simp] theorem moveChannel_pending_hw_pair_role_pair_epoch (kind n : Nat) (next : ChSt) (s : State) :
    (moveChannel kind n next s).1.pending = s.pending ∧ (moveChannel kind n next s).1.hw = s.hw ∧ (moveChannel kind n next s).1.pair.role = s.pair.role ∧ (moveChannel kind n next s).1.pair.epoch = s.pair.epoch := by
  unfold moveChannel; split <;> rename_i h <;> obtain ⟨rfl, -⟩ := Prod.ext_iff.mp h <;> simp
@[simp] theorem opIdent_pending_mem_hw_sup_failSilent_pair (x00 : MbxRq) (s : State) :
    (opIdent x00 s).1.pending = s.pending ∧ (opIdent x00 s).1.mem = s.mem ∧ (opIdent x00 s).1.hw = s.hw ∧ (opIdent x00 s).1.sup.failSilent = s.sup.failSilent ∧ (opIdent x00 s).1.pair = s.pair := by
  refine ⟨?_, ?_, ?_, ?_, ?_⟩ <;> (unfold opIdent; rfl)
@[simp] theorem opUpdEnd_pending_hw_pair_role_pair_epoch (m : MbxRq) (s : State) :
    (opUpdEnd m s).1.pending = s.pending ∧ (opUpdEnd m s).1.hw = s.hw ∧ (opUpdEnd m s).1.pair.role = s.pair.role ∧ (opUpdEnd m s).1.pair.epoch = s.pair.epoch := by
  unfold opUpdEnd; dsimp only; (repeat' split) <;> (try (rename_i h; obtain ⟨rfl, -⟩ := Prod.ext_iff.mp h)) <;> simp
@[simp] theorem opKsInfo_pending_mem_hw_sup_failSilent_pair (x00 : MbxRq) (s : State) :
    (opKsInfo x00 s).1.pending = s.pending ∧ (opKsInfo x00 s).1.mem = s.mem ∧ (opKsInfo x00 s).1.hw = s.hw ∧ (opKsInfo x00 s).1.sup.failSilent = s.sup.failSilent ∧ (opKsInfo x00 s).1.pair = s.pair := by
  refine ⟨?_, ?_, ?_, ?_, ?_⟩ <;> (unfold opKsInfo; rfl)
@[simp] theorem opZeroise_pending_mem_hw_sup_failSilent_pair (x00 : MbxRq) (s : State) :
    (opZeroise x00 s).1.pending = s.pending ∧ (opZeroise x00 s).1.mem = s.mem ∧ (opZeroise x00 s).1.hw = s.hw ∧ (opZeroise x00 s).1.sup.failSilent = s.sup.failSilent ∧ (opZeroise x00 s).1.pair = s.pair := by
  unfold opZeroise; split <;> simp
@[simp] theorem opDebugChallenge_pending_mem_hw_sup_failSilent_pair (x00 : MbxRq) (s : State) :
    (opDebugChallenge x00 s).1.pending = s.pending ∧ (opDebugChallenge x00 s).1.mem = s.mem ∧ (opDebugChallenge x00 s).1.hw = s.hw ∧ (opDebugChallenge x00 s).1.sup.failSilent = s.sup.failSilent ∧ (opDebugChallenge x00 s).1.pair = s.pair := by
  refine ⟨?_, ?_, ?_, ?_, ?_⟩ <;> (unfold opDebugChallenge; rfl)
@[simp] theorem putQuality_pending_hw_sup_failSilent_pair (x : Station) (s : State) :
    (putQuality x s).pending = s.pending ∧ (putQuality x s).hw = s.hw ∧ (putQuality x s).sup.failSilent = s.sup.failSilent ∧ (putQuality x s).pair = s.pair := by
  refine ⟨?_, ?_, ?_, ?_⟩ <;> (unfold putQuality; rfl)
@[simp] theorem configure_pending_hw_sup_failSilent_pair (x : Station) (s : State) :
    (configure x s).pending = s.pending ∧ (configure x s).hw = s.hw ∧ (configure x s).sup.failSilent = s.sup.failSilent ∧ (configure x s).pair = s.pair := by
  unfold configure; simp
@[simp] theorem becomeAbsent_pending_hw_sup_failSilent_pair (x : Station) (s : State) :
    (becomeAbsent x s).pending = s.pending ∧ (becomeAbsent x s).hw = s.hw ∧ (becomeAbsent x s).sup.failSilent = s.sup.failSilent ∧ (becomeAbsent x s).pair = s.pair := by
  unfold becomeAbsent; simp
@[simp] theorem becomeMismatch_pending_hw_sup_failSilent_pair (x : Station) (s : State) :
    (becomeMismatch x s).pending = s.pending ∧ (becomeMismatch x s).hw = s.hw ∧ (becomeMismatch x s).sup.failSilent = s.sup.failSilent ∧ (becomeMismatch x s).pair = s.pair := by
  unfold becomeMismatch; simp
@[simp] theorem putInput_pending_hw_sup_failSilent_pair (x : Station) (p : InputP) (s : State) :
    (putInput x p s).pending = s.pending ∧ (putInput x p s).hw = s.hw ∧ (putInput x p s).sup.failSilent = s.sup.failSilent ∧ (putInput x p s).pair = s.pair := by
  unfold putInput; simp
@[simp] theorem acceptInput_pending_hw_sup_failSilent_pair (n end_ : Nat) (lead : Bool) (h : FolHdr) (p : InputP) (s : State) :
    (acceptInput n end_ lead h p s).pending = s.pending ∧ (acceptInput n end_ lead h p s).hw = s.hw ∧ (acceptInput n end_ lead h p s).sup.failSilent = s.sup.failSilent ∧ (acceptInput n end_ lead h p s).pair = s.pair := by
  unfold acceptInput; (repeat' split) <;> simp
@[simp] theorem rxInput_pending_hw_sup_failSilent (n : Nat) (end_ path : Nat) (own : Bool) (h : FolHdr) (p : InputP) (s : State) :
    (rxInput n end_ path own h p s).pending = s.pending ∧ (rxInput n end_ path own h p s).hw = s.hw ∧ (rxInput n end_ path own h p s).sup.failSilent = s.sup.failSilent := by
  unfold rxInput; dsimp only; (repeat' split) <;> simp
@[simp] theorem probeAnswer_pending_hw_sup_failSilent (n station end_ : Nat) (epoch : Word) (roundTrip turnaround : Nat) (typeid : Word) (path : Nat) (s : State) :
    (probeAnswer n station end_ epoch roundTrip turnaround typeid path s).pending = s.pending ∧ (probeAnswer n station end_ epoch roundTrip turnaround typeid path s).hw = s.hw ∧ (probeAnswer n station end_ epoch roundTrip turnaround typeid path s).sup.failSilent = s.sup.failSilent := by
  unfold probeAnswer; dsimp only; (repeat' split) <;> simp
@[simp] theorem segCommand_pending_hw_sup_failSilent_pair (n cmd session : Nat) (s : State) :
    (segCommand n cmd session s).1.pending = s.pending ∧ (segCommand n cmd session s).1.hw = s.hw ∧ (segCommand n cmd session s).1.sup.failSilent = s.sup.failSilent ∧ (segCommand n cmd session s).1.pair = s.pair := by
  unfold segCommand; dsimp only; (repeat' split) <;> simp
@[simp] theorem stationBoundary_pending_hw_sup_failSilent_pair (had : Bool) (s : State) (x : Station) :
    (stationBoundary had s x).pending = s.pending ∧ (stationBoundary had s x).hw = s.hw ∧ (stationBoundary had s x).sup.failSilent = s.sup.failSilent ∧ (stationBoundary had s x).pair = s.pair := by
  unfold stationBoundary; simp
@[simp] theorem segBoundary_pending_hw_sup_failSilent_pair (n : Nat) (s : State) :
    (segBoundary n s).pending = s.pending ∧ (segBoundary n s).hw = s.hw ∧ (segBoundary n s).sup.failSilent = s.sup.failSilent ∧ (segBoundary n s).pair = s.pair := by
  unfold segBoundary; simp
@[simp] theorem folRxBody_pending_hw_sup_failSilent (n : Nat) (f : FolFrame) (s : State) :
    (folRxBody n f s).pending = s.pending ∧ (folRxBody n f s).hw = s.hw ∧ (folRxBody n f s).sup.failSilent = s.sup.failSilent := by
  unfold folRxBody; split <;> simp
@[simp] theorem folRx_pending_hw_sup_failSilent (n : Nat) (f : FolFrame) (s : State) :
    (folRx n f s).pending = s.pending ∧ (folRx n f s).hw = s.hw ∧ (folRx n f s).sup.failSilent = s.sup.failSilent := by
  unfold folRx; dsimp only; (repeat' split) <;> simp
@[simp] theorem fptCmd_pending_hw_sup_failSilent_pair (n : Nat) (level : Level) (word : Word) (s : State) :
    (fptCmd n level word s).pending = s.pending ∧ (fptCmd n level word s).hw = s.hw ∧ (fptCmd n level word s).sup.failSilent = s.sup.failSilent ∧ (fptCmd n level word s).pair = s.pair := by
  unfold fptCmd; simp
@[simp] theorem segBeat_pending_hw_sup_failSilent_pair (s : State) (n : Nat) :
    (segBeat s n).pending = s.pending ∧ (segBeat s n).hw = s.hw ∧ (segBeat s n).sup.failSilent = s.sup.failSilent ∧ (segBeat s n).pair = s.pair := by
  unfold segBeat; (repeat' split) <;> simp
@[simp] theorem segsBeat_pending_hw_sup_failSilent_pair_role_pair_epoch (s : State) :
    (segsBeat s).pending = s.pending ∧ (segsBeat s).hw = s.hw ∧ (segsBeat s).sup.failSilent = s.sup.failSilent ∧ (segsBeat s).pair.role = s.pair.role ∧ (segsBeat s).pair.epoch = s.pair.epoch := by
  unfold segsBeat; simp
@[simp] theorem fptWrite_pending_hw_sup_failSilent_pair (n o : Nat) (level : Level) (w : Word) (s : State) :
    (fptWrite n o level w s).pending = s.pending ∧ (fptWrite n o level w s).hw = s.hw ∧ (fptWrite n o level w s).sup.failSilent = s.sup.failSilent ∧ (fptWrite n o level w s).pair = s.pair := by
  unfold fptWrite; split <;> simp

end Sys2Proof.Laws

/-! PROOF. Pair roles and claims (02): Damper lines and outputs (R55 to R59), the takeover (R70, R71). -/

namespace Sys2Proof.Laws

open Sys2Proof Sys2Proof.Machine Sys2Proof.Safety

-- the ends of the meanings -------------------------------------------------------------------------------------------------

/-- The end of a meaning in a module that has not failed silent. -/
theorem finish_of_eq {u v : State} (h : u = v) (hloud : v.sup.failSilent = false) : finish u = .next { v with dic := leaveIdle v.dic } := by
  rw [h, finish_next, settle_loud hloud]

/-- What holds of the loud end of a meaning. -/
theorem answers_loud {u : State} {post : State → Prop} (hloud : u.sup.failSilent = false) (h : post { u with dic := leaveIdle u.dic }) :
    Answers (finish u) post :=
  ⟨_, finish_of_eq rfl hloud, h⟩

/-- The same, with the state of the end written out. -/
theorem answers_of_eq {u v : State} {post : State → Prop} (heq : u = v) (hloud : v.sup.failSilent = false)
    (h : post { v with dic := leaveIdle v.dic }) : Answers (finish u) post :=
  answers_loud (heq ▸ hloud) (heq ▸ h)

-- interrupts of the blocks ------------------------------------------------------------------------------------------------

/-- The DIC after a conditional ring. -/
def rungDic (c : Bool) (src : Nat) (s : State) : Dic := if c && !s.sup.rickHeld then dicAccept s.dic s.now src else s.dic

/-- A ring touches the DIC only. -/
theorem ringIf_eq (c : Bool) (src : Nat) (s : State) : ringIf c src s = { s with dic := rungDic c src s } := by
  cases c
  · rfl
  · cases h : s.sup.rickHeld <;> simp [ringIf, ring, rungDic, h]

/-- A bit of PAIR_INT_STATUS: the pair's register and the DIC. -/
theorem pairInt_eq (b : Nat) (s : State) :
    pairInt b s = { s with
      pair := { s.pair with intStatus := setBit s.pair.intStatus b }
      dic := rungDic (rings s.pair.intStatus (setBit s.pair.intStatus b) s.pair.intMask) 64 s } :=
  ringIf_eq _ _ _

-- the lines of the other slots -----------------------------------------------------------------------------------------------

theorem mem_others {s : State} {x : Slot} : x ∈ others s ↔ x ≠ mySlot s := by
  cases x <;> simp [others, bne_iff_ne]

theorem damperLive_iff {s : State} {x : Slot} : damperLive s x = true ↔ s.sup.rickHeld = false ∧ s.sup.failSilent = false ∧ x ≠ mySlot s := by
  simp [damperLive, rickLive, and_assoc]

theorem running_damperLive {s : State} {x : Slot} (hrun : Running s) (hx : x ≠ mySlot s) : damperLive s x = true :=
  damperLive_iff.mpr ⟨hrun.rick, hrun.loud, hx⟩

@[simp] theorem setPeer_lossCount (p : Pair) (x : Slot) (q : Peer) : (setPeer p x q).lossCount = p.lossCount := by cases x <;> rfl
@[simp] theorem setPeer_takeover (p : Pair) (x : Slot) (q : Peer) : (setPeer p x q).takeover = p.takeover := by cases x <;> rfl
@[simp] theorem setPeer_intStatus (p : Pair) (x : Slot) (q : Peer) : (setPeer p x q).intStatus = p.intStatus := by cases x <;> rfl
theorem peerOf_setPeer_other (p : Pair) {x y : Slot} (q : Peer) (h : y ≠ x) : peerOf (setPeer p x q) y = peerOf p y := by
  cases x <;> cases y <;> simp_all [peerOf, setPeer]

/-- The pair's registers when another slot's line is recognised as toggling (R56, R57): the outputs close. -/
def lineToggles (x : Slot) (now : Nat) (p : Pair) : Pair :=
  { setPeer p x { peerOf p x with toggling := true, togAt := now, misTold := false, busyAt := some now } with
    intStatus := setBit p.intStatus 1, lossAt := none, outEn := false }

theorem peerOf_lineToggles (x : Slot) (now : Nat) (p : Pair) : (peerOf (lineToggles x now p) x).toggling = true := by
  cases x <;> rfl

/-- While another line toggles the outputs are closed (R56). -/
theorem gateOutputs_closed {s : State} {x : Slot} (hx : x ∈ others s) (htog : (peerOf s.pair x).toggling = true) :
    gateOutputs s = { s with pair := { s.pair with outEn := false } } := by
  have hall : (others s).all (fun y => !(peerOf s.pair y).toggling) = false := by
    rw [List.all_eq_false]; exact ⟨x, hx, by simp [htog]⟩
  simp [gateOutputs, hall]

/-- A recognition touches the pair's registers and the DIC only. -/
theorem damperToggling_eq {x : Slot} {s : State} (hlive : damperLive s x = true) (hquiet : (peerOf s.pair x).toggling = false) :
    ∃ d, damperToggling x s = { s with pair := lineToggles x s.now s.pair, dic := d } := by
  have hx : x ∈ others s := mem_others.mpr (damperLive_iff.mp hlive).2.2
  unfold damperToggling
  simp only [hlive, hquiet, Bool.not_true, Bool.or_false, Bool.false_eq_true, if_false, pairInt_eq]
  rw [gateOutputs_closed (x := x)]
  · simp only [setPeer_intStatus]
    exact ⟨_, rfl⟩
  · exact hx
  · cases x <;> rfl

/-- In a running module. -/
theorem exec_damperToggleRecognised {x : Slot} {s : State} (hrun : Running s) (hx : x ≠ mySlot s) (hquiet : (peerOf s.pair x).toggling = false) :
    ∃ d, exec (.damperToggleRecognised x) s = .next { s with pair := lineToggles x s.now s.pair, dic := d } := by
  obtain ⟨d, hd⟩ := damperToggling_eq (running_damperLive hrun hx) hquiet
  refine ⟨leaveIdle d, ?_⟩
  calc exec (.damperToggleRecognised x) s
    _ = .next (settle (damperToggling x s)) := rfl
    _ = _ := by rw [hd, settle_loud (by exact hrun.loud)]

/-- The outputs as R56 allows them on another pair of registers of the same module. -/
def outputsOpen (s : State) (p : Pair) : Bool := p.role == .active && p.driving && (others s).all fun y => !(peerOf p y).toggling

theorem tellTakeover_none {s : State} (h : s.pair.takeover = none) : tellTakeover s = s := by
  unfold tellTakeover; rw [h]

/-- The pair's registers when another slot's line is lost (R57). -/
def lineLost (x : Slot) (p : Pair) : Pair :=
  { setPeer p x { peerOf p x with toggling := false, edges := 0, misTold := false } with lossCount := satInc p.lossCount }

/-- Without the lost line the others decide on the outputs. -/
theorem others_toggling_lineLost {s : State} (x : Slot) :
    ((others s).all fun y => !(peerOf (lineLost x s.pair) y).toggling) = (others s).all fun y => y == x || !(peerOf s.pair y).toggling := by
  congr 1
  funext y
  by_cases h : y = x
  · subst h; cases y <;> simp [lineLost, peerOf, setPeer]
  · have hp : peerOf (lineLost x s.pair) y = peerOf s.pair y := peerOf_setPeer_other s.pair _ h
    rw [hp, beq_false_of_ne h, Bool.false_or]

/-- An ACTIVE module counts the loss and opens its outputs where nothing else toggles. -/
theorem exec_lossOfToggle_active {x : Slot} {s : State} (hrun : Running s) (hx : x ≠ mySlot s) (htog : (peerOf s.pair x).toggling = true)
    (hrole : s.pair.role = .active) (htake : s.pair.takeover = none) :
    exec (.lossOfToggle x) s = .next { s with
      dic := leaveIdle s.dic
      pair := { lineLost x s.pair with
        outEn := s.pair.driving && (others s).all fun y => y == x || !(peerOf s.pair y).toggling } } := by
  have hlost : damperLost x s = gateOutputs { s with pair := lineLost x s.pair } := by
    unfold damperLost
    simp only [running_damperLive hrun hx, htog, Bool.not_true, Bool.or_false, Bool.false_eq_true, if_false]
    rw [if_pos (by simpa using hrole), tellTakeover_none (by simpa [gateOutputs] using htake)]
    rfl
  have hgate := others_toggling_lineLost (s := s) x
  have hactive : (lineLost x s.pair).role = .active := by simpa [lineLost] using hrole
  have hdrive : (lineLost x s.pair).driving = s.pair.driving := by simp [lineLost]
  calc exec (.lossOfToggle x) s
    _ = .next (settle (gateOutputs { s with pair := lineLost x s.pair })) := by rw [← hlost]; rfl
    _ = _ := by
      rw [settle_loud (by exact hrun.loud), gateOutputs]
      simp only [hactive, hdrive, BEq.rfl, Bool.true_and]
      rw [← hgate]
      rfl

/-- A recognition (R56, R57). -/
theorem damperToggleRecognised_complete {x : Slot} {s : State} (hrun : Running s) (hx : x ≠ mySlot s) (hquiet : (peerOf s.pair x).toggling = false) :
    Answers (exec (.damperToggleRecognised x) s) fun t =>
      (peerOf t.pair x).toggling = true ∧ t.pair.outEn = false ∧ bit t.pair.intStatus 1 = true ∧ t.pair.driving = s.pair.driving ∧
      t.pair.role = s.pair.role ∧ t.pair.epoch = s.pair.epoch ∧ { t with pair := s.pair, dic := s.dic } = s := by
  obtain ⟨d, hexec⟩ := exec_damperToggleRecognised hrun hx hquiet
  refine ⟨_, hexec, peerOf_lineToggles x s.now s.pair, rfl, bit_setBit_same _ (by decide), ?_, ?_, ?_, rfl⟩ <;>
    simp [lineToggles, setPeer_epoch]

-- the takeover (R50, R70, R71) --------------------------------------------------------------------------------------------

/-- The registers of the pair after a change of role (R48, R55). -/
@[simp] theorem setRole_pair (r : Role) (sub : Sub) (s : State) :
    (setRole r sub s).pair = { s.pair with
      role := r, sub := sub, armed := s.pair.armed && runsTasks r, driving := s.pair.driving && r == .active
      outEn := s.pair.outEn && r == .active, switch := if r = .active then s.pair.switch else none
      switchSeen := if r = .standby then s.pair.switchSeen else none } := by
  unfold setRole; dsimp only; split
  · rfl
  · simp

/-- A new epoch (R50): the register, its claim message and its record. -/
@[simp] theorem takeEpoch_pair (e : Word) (reason : Nat) (members : BitVec 3) (s : State) :
    (takeEpoch e reason members s).pair = { s.pair with
      epoch := e, claimed := e :: s.pair.claimed, epochAt := s.now, recBusy := true
      claimLeft := 8, claimReason := reason, claimMembers := members, intStatus := setBit s.pair.intStatus 2 } := by
  simp [takeEpoch]

/-- Only the takeover's own note changes when it is told. -/
theorem tellTakeover_pair (s : State) : ∃ k, (tellTakeover s).pair = { s.pair with takeover := k } := by
  unfold tellTakeover
  split
  · exact ⟨_, rfl⟩
  · split
    · exact ⟨_, rfl⟩
    · exact ⟨none, by simp⟩

@[simp] theorem tellTakeover_registers (s : State) :
    (tellTakeover s).pair.role = s.pair.role ∧ (tellTakeover s).pair.sub = s.pair.sub ∧ (tellTakeover s).pair.epoch = s.pair.epoch ∧
      (tellTakeover s).pair.driving = s.pair.driving ∧ (tellTakeover s).pair.outEn = s.pair.outEn ∧
      (tellTakeover s).pair.recBusy = s.pair.recBusy ∧ (tellTakeover s).pair.takeCount = s.pair.takeCount := by
  obtain ⟨k, hk⟩ := tellTakeover_pair s
  simp [hk]

@[simp] theorem openOutputs_pair (s : State) :
    (openOutputs s).pair = { s.pair with
      driving := s.pair.role == .active && s.pair.armed
      outEn := s.pair.role == .active && s.pair.armed && (others s).all fun x => !(peerOf s.pair x).toggling } := rfl

/-- A module's slot is wired. -/
theorem others_congr {s t : State} (h : t.hw = s.hw) : others t = others s := by simp [others, mySlot, h]

/-- The pair's registers that a takeover settles. -/
theorem takeOver_registers {lost : Slot} {at_ : Nat} {s : State} (hepoch : epochExhausted s = false) (hcold : (s.pair.sub == .resync) = false)
    (harm : s.pair.armed = true) :
    let t := takeOver lost at_ s
    t.pair.role = .active ∧ t.pair.sub = .none ∧ t.pair.epoch = nextEpoch s ∧ t.pair.driving = true ∧ t.pair.recBusy = true ∧
      t.pair.takeCount = satInc s.pair.takeCount ∧ t.pair.outEn = (others s).all fun y => !(peerOf s.pair y).toggling := by
  have hnext : nextEpoch (setRole .active .none s) = nextEpoch s := by simp [nextEpoch, heardEpoch]
  simp only [takeOver, hepoch, hcold, Bool.false_eq_true, if_false]
  simp [harm, hnext, runsTasks]
  rw [others_congr (s := s) (by simp)]
  exact congrArg (others s).all (funext fun y => by cases y <;> rfl)

/-- With an epoch left the next one is one above all that are known (R50). -/
theorem nextEpoch_toNat {s : State} (h : epochExhausted s = false) :
    (nextEpoch s).toNat = max s.pair.epoch.toNat (max s.pair.epochSeen.toNat s.pair.stationEpoch.toNat) + 1 := by
  have hmax (a b : Word) : (maxW a b).toNat = max a.toNat b.toNat := by unfold maxW; split <;> omega
  have hroom : (maxW s.pair.epoch (heardEpoch s)).toNat < 0xFFFFFFFE := by simpa [epochExhausted] using h
  simp only [nextEpoch, BitVec.toNat_add, hmax, heardEpoch] at hroom ⊢
  rw [Nat.mod_eq_of_lt]
  · rfl
  · have : (1 : Word).toNat = 1 := rfl
    omega

/-- A synchronised standby with its arm set is a candidate (R70). -/
theorem candidate_of_ready {s : State} (hrole : s.pair.role = .standby) (hsub : s.pair.sub = .synchronised) (harm : s.pair.armed = true)
    (hdiv : s.flu.divHold = false) : candidate s = true := by
  simp [candidate, hrole, hsub, harm, hdiv]

/-- A standby that hears the loss of the active's line away from a switch point goes on by its slot (R70). -/
theorem damperLost_standby {x : Slot} {s : State} (hlive : damperLive s x = true) (htog : (peerOf s.pair x).toggling = true)
    (hrole : s.pair.role = .standby) (hact : activeSlot s = some x) (hswitch : s.pair.switchSeen = none)
    (hcand : candidate s = true) :
    damperLost x s =
      let u := { s with pair := lineLost x s.pair }
      if mySlot s = .c then { u with pair := { u.pair with lossAt := some s.now } } else takeOver x s.now u := by
  have hcand' : candidate { s with pair := lineLost x s.pair } = true := by
    have hkeep : candidate { s with pair := lineLost x s.pair } = candidate s := by cases x <;> rfl
    rw [hkeep, hcand]
  have hno : atSwitch { s with pair := lineLost x s.pair } = none := by
    have hseen : (lineLost x s.pair).switchSeen = none := by cases x <;> exact hswitch
    simp [atSwitch, hseen]
  unfold damperLost
  simp only [hlive, htog, hact, Bool.not_true, Bool.or_false, Bool.false_eq_true, if_false, BEq.rfl, if_true]
  rw [if_neg (by simp [hrole])]
  show standbyLoss x { s with pair := lineLost x s.pair } = _
  unfold standbyLoss
  rw [hcand', hno]
  rfl

end Sys2Proof.Laws

namespace Sys2Proof.Proofs

open Sys2Proof Sys2Proof.Machine Sys2Proof.Safety Sys2Proof.Laws

/-- Settles O9: what each line event leaves of the pair's registers, and that nothing else moves. -/
theorem dampersComplete : Obligations.DampersComplete := by
  refine ⟨?recognised, ?lost, ?glitch, ?edge, ?readback, ?mismatch, ?arm, ?disarm, ?noArm, ?presence⟩
  case recognised =>
    intro x s hrun hx hquiet
    obtain ⟨d, hexec⟩ := exec_damperToggleRecognised hrun hx hquiet
    refine ⟨_, hexec, peerOf_lineToggles x s.now s.pair, rfl, bit_setBit_same _ (by decide), ?_, ?_, ?_, rfl⟩ <;>
      simp [lineToggles, setPeer_epoch]
  case lost =>
    intro x s hrun hx htog hrole htake
    refine ⟨_, exec_lossOfToggle_active hrun hx htog hrole htake, ?_, ?_, rfl, ?_, ?_, rfl, rfl⟩
    · cases x <;> rfl
    · simp [lineLost]
    · simpa [lineLost] using hrole
    · simp [lineLost, setPeer_epoch]
  case glitch =>
    intro x ns s hrun hx hns
    have hglitch : damperEdge x ns s = { s with pair := { s.pair with glitchCount := satInc s.pair.glitchCount } } := by
      unfold damperEdge
      rw [running_damperLive hrun hx, if_neg (by simp), if_pos hns]
    exact finish_of_eq hglitch hrun.loud
  case edge =>
    intro x ns s hrun hx hns hquiet hedges hlast
    let u : State := { s with pair := setPeer s.pair x { peerOf s.pair x with edges := 4, lastEdge := s.now } }
    have hedge : damperEdge x ns s = damperToggling x u := by
      unfold damperEdge
      rw [running_damperLive hrun hx]
      simp [Nat.not_lt.mpr hns, hedges, hlast, u]
    obtain ⟨d, hd⟩ := damperToggling_eq (s := u) (x := x) (running_damperLive (s := s) hrun hx) (by
      show (peerOf (setPeer s.pair x _) x).toggling = false
      rw [peerOf_setPeer]; exact hquiet)
    exact answers_of_eq (hedge.trans hd) hrun.loud ⟨peerOf_lineToggles x s.now u.pair, rfl, by simp [lineToggles, u], rfl⟩
  case readback =>
    intro s hrun hdrive
    show Host.Outcome.next (settle (if _ then _ else _)) = _
    rw [if_pos (by simp [running_rickLive hrun, hdrive]), settle_loud (by exact hrun.loud)]
  case mismatch =>
    intro x s hrun hx htog hmis hrole hclaim
    show Host.Outcome.next (settle (roleMismatch x s)) = _
    simp [roleMismatch, running_damperLive hrun hx, htog, hmis, hrole, hclaim, noClaimSince, pairPost]
  case arm =>
    intro s hrun hrole
    have harm : dmpArm .m 0xA5C30001#32 s = { s with pair := { s.pair with armed := true } } := by
      simp [dmpArm, fld, bit, running_rickLive hrun, hrole, runsTasks]
    exact finish_of_eq harm hrun.loud
  case disarm =>
    intro s hrun
    have hdisarm : dmpArm .m 0xA5C30000#32 s = { s with pair := { s.pair with armed := false, driving := false, outEn := false } } := by
      simp [dmpArm, fld, bit, running_rickLive hrun]
    exact finish_of_eq hdisarm hrun.loud
  case noArm =>
    intro level w s hrun h
    have hkeep : dmpArm level w s = s := by
      rcases h with hlevel | ⟨hset, hrole⟩
      · exact dmpArm_below w s hlevel
      · simp [dmpArm, hset, hrole]
    exact finish_of_eq hkeep hrun.loud
  case presence =>
    intro x b s hrun hx
    show Host.Outcome.next (settle (if _ then _ else _)) = _
    rw [if_pos (running_damperLive hrun hx), settle_loud (by exact hrun.loud)]

/-- Settles O10: the loss of the active's line makes a synchronised candidate take over, in slot C after its wait. -/
theorem takeoverComplete : Obligations.TakeoverComplete := by
  unfold Obligations.TakeoverComplete
  intro ready taken
  refine ⟨?loss, ?lossC, ?waitEnd⟩
  case loss =>
    rintro x s ⟨hrun, hrole, hsub, harm, hdiv, hepoch⟩ hslot hact htog hswitch
    have hx : x ≠ mySlot s := mem_others.mp (List.mem_of_find?_eq_some hact)
    have hlost := damperLost_standby (running_damperLive hrun hx) htog hrole hact hswitch (candidate_of_ready hrole hsub harm hdiv)
    rw [if_neg hslot] at hlost
    obtain ⟨harm', hsub', hepoch', hnext'⟩ : (lineLost x s.pair).armed = true ∧ (lineLost x s.pair).sub = .synchronised ∧
        epochExhausted { s with pair := lineLost x s.pair } = false ∧ nextEpoch { s with pair := lineLost x s.pair } = nextEpoch s := by
      cases x <;> exact ⟨harm, hsub, hepoch, rfl⟩
    obtain ⟨trole, tsub, tepoch, tdrive, trec, tcount, tout⟩ :=
      takeOver_registers (lost := x) (at_ := s.now) hepoch' (by rw [hsub']; rfl) harm'
    refine answers_of_eq hlost (by simpa using hrun.loud) ⟨⟨trole, tsub, ?_, tdrive, trec, ?_⟩, ?_⟩
    · dsimp only; rw [tepoch, hnext', nextEpoch_toNat hepoch]
    · dsimp only; rw [tcount]; cases x <;> rfl
    · dsimp only; rw [tout]; exact others_toggling_lineLost (s := s) x
  case lossC =>
    rintro x s ⟨hrun, hrole, hsub, harm, hdiv, hepoch⟩ hslot hact htog hswitch
    have hx : x ≠ mySlot s := mem_others.mp (List.mem_of_find?_eq_some hact)
    have hlost := damperLost_standby (running_damperLive hrun hx) htog hrole hact hswitch (candidate_of_ready hrole hsub harm hdiv)
    rw [if_pos hslot] at hlost
    exact answers_of_eq hlost hrun.loud ⟨by simpa [lineLost] using hrole, by simp [lineLost, setPeer_epoch], rfl, rfl⟩
  case waitEnd =>
    rintro at_ s ⟨hrun, hrole, hsub, harm, hdiv, hepoch⟩ hslot hloss
    let u := { s with pair := { s.pair with lossAt := none } }
    have hcand : candidate u = true := candidate_of_ready hrole hsub harm hdiv
    have hlive : rickLive u = true := running_rickLive (s := s) hrun
    obtain ⟨trole, tsub, tepoch, tdrive, trec, tcount, -⟩ :=
      takeOver_registers (s := u) (lost := (activeSlot u).getD .a) (at_ := at_) hepoch (by rw [show u.pair.sub = _ from hsub]; rfl) harm
    refine answers_of_eq (v := takeOver ((activeSlot u).getD .a) at_ u) ?_ (by simpa using hrun.loud)
      ⟨trole, tsub, (congrArg BitVec.toNat tepoch).trans (nextEpoch_toNat (s := s) hepoch), tdrive, trec, tcount⟩
    simp only [hloss]
    rw [if_pos (by rw [hlive, hcand]; rfl)]

end Sys2Proof.Proofs

/-! PROOF. Clocks and time (10): operating points (R347), the FIRC's trim (R349), TIME and its discipline (R356 to R361), the RTC (R366 to R368). -/

namespace Sys2Proof.Laws

open Sys2Proof Sys2Proof.Machine Sys2Proof.Safety

-- fields of registers ---------------------------------------------------------------------------------------------------------

/-- A field's bits are bits of its register. -/
theorem testBit_fld {n : Nat} (w : BitVec n) (lo len i : Nat) : (fld w lo len).testBit i = (decide (i < len) && bit w (lo + i)) := by
  rw [fld, Nat.testBit_mod_two_pow, Nat.testBit_shiftRight, bit]

/-- The bits of a register with one field replaced. -/
theorem bit_setFld {n : Nat} (w : BitVec n) {lo len : Nat} (v i : Nat) (h : lo + len ≤ n) :
    bit (setFld w lo len v) i = if lo ≤ i ∧ i < lo + len then v.testBit (i - lo) else bit w i := by
  have hmask (j : Nat) : ((2 ^ len - 1) <<< lo).testBit j = (decide (lo ≤ j) && decide (j - lo < len)) := by
    rw [Nat.testBit_shiftLeft, Nat.testBit_two_pow_sub_one]
  have hval (j : Nat) : ((v % 2 ^ len) <<< lo).testBit j = (decide (lo ≤ j) && (decide (j - lo < len) && v.testBit (j - lo))) := by
    rw [Nat.testBit_shiftLeft, Nat.testBit_mod_two_pow]
  by_cases hi : i < n
  · simp only [bit, setFld, ← BitVec.getLsbD.eq_1, BitVec.getLsbD_or, BitVec.getLsbD_and, BitVec.getLsbD_not, BitVec.getLsbD_ofNat, hmask, hval,
      hi, decide_true, Bool.true_and]
    by_cases hlo : lo ≤ i
    · by_cases hlen : i < lo + len
      · simp [hlo, hlen, show i - lo < len by omega]
      · simp [hlo, hlen, show ¬ i - lo < len by omega]
    · simp [hlo]
  · rw [if_neg (by omega), bit, bit, Nat.testBit_lt_two_pow, Nat.testBit_lt_two_pow]
    · exact w.isLt.trans_le (Nat.pow_le_pow_right (by decide) (by omega))
    · exact (setFld w lo len v).isLt.trans_le (Nat.pow_le_pow_right (by decide) (by omega))

/-- The field that was replaced. -/
theorem fld_setFld_same {n : Nat} (w : BitVec n) {lo len : Nat} (v : Nat) (h : lo + len ≤ n) : fld (setFld w lo len v) lo len = v % 2 ^ len := by
  refine Nat.eq_of_testBit_eq fun i => ?_
  rw [testBit_fld, bit_setFld w v _ h, Nat.testBit_mod_two_pow]
  by_cases hi : i < len
  · simp [hi]
  · simp [hi]

/-- A field that lies outside it. -/
theorem fld_setFld_other {n : Nat} (w : BitVec n) {lo len lo' len' : Nat} (v : Nat) (h : lo + len ≤ n) (hd : lo + len ≤ lo' ∨ lo' + len' ≤ lo) :
    fld (setFld w lo len v) lo' len' = fld w lo' len' := by
  refine Nat.eq_of_testBit_eq fun i => ?_
  rw [testBit_fld, testBit_fld, bit_setFld w v _ h]
  by_cases hi : i < len'
  · rw [if_neg (by omega)]
  · simp [hi]

/-- The count of a trim window as HCK_FIRC_CNT shows it. -/
theorem fircCnt_fields {n : Nat} (h : n < 16777216) :
    fld (pack 32 [(31, 1), (0, n % 2 ^ 24)]) 0 24 = n ∧ bit (pack 32 [(31, 1), (0, n % 2 ^ 24)]) 31 = true := by
  constructor
  · refine Nat.eq_of_testBit_eq fun i => ?_
    rw [testBit_fld]
    by_cases hi : i < 24
    · rw [bit_pack _ (by omega)]
      simp [hi, show ¬ 31 ≤ i by omega, Nat.mod_eq_of_lt (show n < 16777216 from h)]
    · rw [Nat.testBit_lt_two_pow (x := n)]
      · simp [hi]
      · exact lt_of_lt_of_le h (Nat.pow_le_pow_right (n := 2) (by decide) (not_lt.mp hi))
  · rw [bit_pack _ (by decide)]
    simp

-- interrupts of the clock generator and the RTC ---------------------------------------------------------------------------------------------------

theorem hckInt_eq (b : Nat) (s : State) :
    hckInt b s = { s with
      clk := { s.clk with hckInt := setBit s.clk.hckInt b }
      dic := rungDic (rings s.clk.hckInt (setBit s.clk.hckInt b) s.clk.hckMask) 74 s } :=
  ringIf_eq _ _ _

theorem rtcIntBit_eq (b : Nat) (s : State) :
    rtcIntBit b s = { s with
      tim := { s.tim with rtcInt := setBit s.tim.rtcInt b }
      dic := rungDic (rings s.tim.rtcInt (setBit s.tim.rtcInt b) s.tim.rtcMask) 76 s } :=
  ringIf_eq _ _ _

-- what an isolated block leaves to the module ---------------------------------------------------------------------------------------

@[simp] theorem ite_now (c : Prop) [Decidable c] (s t : State) : (if c then s else t).now = if c then s.now else t.now := by
  split <;> rfl
@[simp] theorem ite_freeCtr (c : Prop) [Decidable c] (s t : State) : (if c then s else t).freeCtr = if c then s.freeCtr else t.freeCtr := by
  split <;> rfl
@[simp] theorem ite_clk (c : Prop) [Decidable c] (s t : State) : (if c then s else t).clk = if c then s.clk else t.clk := by
  split <;> rfl
@[simp] theorem ite_tim (c : Prop) [Decidable c] (s t : State) : (if c then s else t).tim = if c then s.tim else t.tim := by
  split <;> rfl
@[simp] theorem ite_fluq (c : Prop) [Decidable c] (s t : State) : (if c then s else t).fluq = if c then s.fluq else t.fluq := by
  split <;> rfl
@[simp] theorem ite_cyc (c : Prop) [Decidable c] (s t : State) : (if c then s else t).cyc = if c then s.cyc else t.cyc := by
  split <;> rfl
@[simp] theorem ite_run (c : Prop) [Decidable c] (s t : State) : (if c then s else t).run = if c then s.run else t.run := by
  split <;> rfl
@[simp] theorem ite_chg (c : Prop) [Decidable c] (s t : State) : (if c then s else t).chg = if c then s.chg else t.chg := by
  split <;> rfl
@[simp] theorem ite_cord (c : Prop) [Decidable c] (s t : State) : (if c then s else t).cord = if c then s.cord else t.cord := by
  split <;> rfl
@[simp] theorem ite_legal (c : Prop) [Decidable c] (s t : State) : (if c then s else t).legal = if c then s.legal else t.legal := by
  split <;> rfl
@[simp] theorem ite_aud (c : Prop) [Decidable c] (s t : State) : (if c then s else t).aud = if c then s.aud else t.aud := by
  split <;> rfl
@[simp] theorem ite_scl (c : Prop) [Decidable c] (s t : State) : (if c then s else t).scl = if c then s.scl else t.scl := by
  split <;> rfl
@[simp] theorem ite_od (c : Prop) [Decidable c] (s t : State) : (if c then s else t).od = if c then s.od else t.od := by
  split <;> rfl
@[simp] theorem ite_upd (c : Prop) [Decidable c] (s t : State) : (if c then s else t).upd = if c then s.upd else t.upd := by
  split <;> rfl
@[simp] theorem ite_ks (c : Prop) [Decidable c] (s t : State) : (if c then s else t).ks = if c then s.ks else t.ks := by
  split <;> rfl
@[simp] theorem ite_jrn (c : Prop) [Decidable c] (s t : State) : (if c then s else t).jrn = if c then s.jrn else t.jrn := by
  split <;> rfl
@[simp] theorem ite_gate (c : Prop) [Decidable c] (s t : State) : (if c then s else t).gate = if c then s.gate else t.gate := by
  split <;> rfl
@[simp] theorem ite_emb (c : Prop) [Decidable c] (s t : State) : (if c then s else t).emb = if c then s.emb else t.emb := by
  split <;> rfl
@[simp] theorem ite_lio (c : Prop) [Decidable c] (s t : State) : (if c then s else t).lio = if c then s.lio else t.lio := by
  split <;> rfl
@[simp] theorem ite_bus (c : Prop) [Decidable c] (s t : State) : (if c then s else t).bus = if c then s.bus else t.bus := by
  split <;> rfl
@[simp] theorem failSilent_now_freeCtr_clk_tim_fluq_cyc_run_chg_cord_legal_aud_scl_od_upd_ks_jrn_gate_emb_lio_bus (cause : Nat) (block : Byte) (cell : Nat) (s : State) :
    (failSilent cause block cell s).now = s.now ∧ (failSilent cause block cell s).freeCtr = s.freeCtr ∧ (failSilent cause block cell s).clk = s.clk ∧ (failSilent cause block cell s).tim = s.tim ∧ (failSilent cause block cell s).fluq = s.fluq ∧ (failSilent cause block cell s).cyc = s.cyc ∧ (failSilent cause block cell s).run = s.run ∧ (failSilent cause block cell s).chg = s.chg ∧ (failSilent cause block cell s).cord = s.cord ∧ (failSilent cause block cell s).legal = s.legal ∧ (failSilent cause block cell s).aud = s.aud ∧ (failSilent cause block cell s).scl = s.scl ∧ (failSilent cause block cell s).od = s.od ∧ (failSilent cause block cell s).upd = s.upd ∧ (failSilent cause block cell s).ks = s.ks ∧ (failSilent cause block cell s).jrn = s.jrn ∧ (failSilent cause block cell s).gate = s.gate ∧ (failSilent cause block cell s).emb = s.emb ∧ (failSilent cause block cell s).lio = s.lio ∧ (failSilent cause block cell s).bus = s.bus := by
  refine ⟨?_, ?_, ?_, ?_, ?_, ?_, ?_, ?_, ?_, ?_, ?_, ?_, ?_, ?_, ?_, ?_, ?_, ?_, ?_, ?_⟩ <;> (unfold failSilent; rfl)
@[simp] theorem chipError_now_freeCtr_clk_tim_fluq_cyc_run_chg_cord_legal_aud_scl_od_upd_ks_jrn_gate_emb_lio_bus (cause : Nat) (block : Byte) (cell : Nat) (s : State) :
    (chipError cause block cell s).now = s.now ∧ (chipError cause block cell s).freeCtr = s.freeCtr ∧ (chipError cause block cell s).clk = s.clk ∧ (chipError cause block cell s).tim = s.tim ∧ (chipError cause block cell s).fluq = s.fluq ∧ (chipError cause block cell s).cyc = s.cyc ∧ (chipError cause block cell s).run = s.run ∧ (chipError cause block cell s).chg = s.chg ∧ (chipError cause block cell s).cord = s.cord ∧ (chipError cause block cell s).legal = s.legal ∧ (chipError cause block cell s).aud = s.aud ∧ (chipError cause block cell s).scl = s.scl ∧ (chipError cause block cell s).od = s.od ∧ (chipError cause block cell s).upd = s.upd ∧ (chipError cause block cell s).ks = s.ks ∧ (chipError cause block cell s).jrn = s.jrn ∧ (chipError cause block cell s).gate = s.gate ∧ (chipError cause block cell s).emb = s.emb ∧ (chipError cause block cell s).lio = s.lio ∧ (chipError cause block cell s).bus = s.bus := by
  unfold chipError; simp
@[simp] theorem isolateEffects_now_freeCtr_clk_tim_fluq_cyc_run_chg_cord_legal_aud_scl_od_upd_ks_jrn_gate_emb_lio_bus (block : Byte) (s : State) :
    (isolateEffects block s).now = s.now ∧ (isolateEffects block s).freeCtr = s.freeCtr ∧ (isolateEffects block s).clk = s.clk ∧ (isolateEffects block s).tim = s.tim ∧ (isolateEffects block s).fluq = s.fluq ∧ (isolateEffects block s).cyc = s.cyc ∧ (isolateEffects block s).run = s.run ∧ (isolateEffects block s).chg = s.chg ∧ (isolateEffects block s).cord = s.cord ∧ (isolateEffects block s).legal = s.legal ∧ (isolateEffects block s).aud = s.aud ∧ (isolateEffects block s).scl = s.scl ∧ (isolateEffects block s).od = s.od ∧ (isolateEffects block s).upd = s.upd ∧ (isolateEffects block s).ks = s.ks ∧ (isolateEffects block s).jrn = s.jrn ∧ (isolateEffects block s).gate = s.gate ∧ (isolateEffects block s).emb = s.emb ∧ (isolateEffects block s).lio = s.lio ∧ (isolateEffects block s).bus = s.bus := by
  unfold isolateEffects; simp
@[simp] theorem isolate_now_freeCtr_clk_tim_fluq_cyc_run_chg_cord_legal_aud_scl_od_upd_ks_jrn_gate_emb_lio_bus (cause : Nat) (block : Byte) (cell : Nat) (s : State) :
    (isolate cause block cell s).now = s.now ∧ (isolate cause block cell s).freeCtr = s.freeCtr ∧ (isolate cause block cell s).clk = s.clk ∧ (isolate cause block cell s).tim = s.tim ∧ (isolate cause block cell s).fluq = s.fluq ∧ (isolate cause block cell s).cyc = s.cyc ∧ (isolate cause block cell s).run = s.run ∧ (isolate cause block cell s).chg = s.chg ∧ (isolate cause block cell s).cord = s.cord ∧ (isolate cause block cell s).legal = s.legal ∧ (isolate cause block cell s).aud = s.aud ∧ (isolate cause block cell s).scl = s.scl ∧ (isolate cause block cell s).od = s.od ∧ (isolate cause block cell s).upd = s.upd ∧ (isolate cause block cell s).ks = s.ks ∧ (isolate cause block cell s).jrn = s.jrn ∧ (isolate cause block cell s).gate = s.gate ∧ (isolate cause block cell s).emb = s.emb ∧ (isolate cause block cell s).lio = s.lio ∧ (isolate cause block cell s).bus = s.bus := by
  unfold isolate; simp
@[simp] theorem blockFails_now_freeCtr_clk_tim_fluq_cyc_run_chg_cord_legal_aud_scl_od_upd_ks_jrn_gate_emb_lio_bus (cause : Nat) (block : Byte) (cell : Nat) (s : State) :
    (blockFails cause block cell s).now = s.now ∧ (blockFails cause block cell s).freeCtr = s.freeCtr ∧ (blockFails cause block cell s).clk = s.clk ∧ (blockFails cause block cell s).tim = s.tim ∧ (blockFails cause block cell s).fluq = s.fluq ∧ (blockFails cause block cell s).cyc = s.cyc ∧ (blockFails cause block cell s).run = s.run ∧ (blockFails cause block cell s).chg = s.chg ∧ (blockFails cause block cell s).cord = s.cord ∧ (blockFails cause block cell s).legal = s.legal ∧ (blockFails cause block cell s).aud = s.aud ∧ (blockFails cause block cell s).scl = s.scl ∧ (blockFails cause block cell s).od = s.od ∧ (blockFails cause block cell s).upd = s.upd ∧ (blockFails cause block cell s).ks = s.ks ∧ (blockFails cause block cell s).jrn = s.jrn ∧ (blockFails cause block cell s).gate = s.gate ∧ (blockFails cause block cell s).emb = s.emb ∧ (blockFails cause block cell s).lio = s.lio ∧ (blockFails cause block cell s).bus = s.bus := by
  unfold blockFails; simp

/-- The cut-off of a block's lanes, ports or injector leaves the supervisor's registers. -/
@[simp] theorem isolateEffects_sup (block : Byte) (s : State) : (isolateEffects block s).sup = s.sup := by
  unfold isolateEffects; (repeat' split) <;> rfl

-- a degraded block's failure -----------------------------------------------------------------------------------------------------------

/-- Where a degraded block is isolated: it is in the list, its fault the last one; nothing else of the module goes. -/
theorem isolate_degraded {block : Byte} (h : degraded block = true) (cause cell : Nat) (s : State) :
    (isolate cause block cell s).sup.isolated = (if s.sup.isolated.contains block then s.sup.isolated else block :: s.sup.isolated) ∧
      (isolate cause block cell s).sup.lastFault = (faultWord 2 cause block cell).setWidth 64 <<< 32 ∧
      (isolate cause block cell s).sup.failSilent = s.sup.failSilent ∧ (isolate cause block cell s).pair = s.pair := by
  simp [isolate, h, noteRegion, recordFault]

/-- A degraded block that fails is isolated, and the module goes on. -/
theorem blockFails_degraded {block : Byte} (h : degraded block = true) (cause cell : Nat) {s : State} (hwhole : s.sup.isolated = []) :
    (blockFails cause block cell s).sup.isolated = [block] ∧
      (blockFails cause block cell s).sup.lastFault = (faultWord 2 cause block cell).setWidth 64 <<< 32 ∧
      (blockFails cause block cell s).sup.failSilent = s.sup.failSilent ∧ (blockFails cause block cell s).pair = s.pair := by
  have hiso := isolate_degraded h cause cell (blockFault cause block cell s)
  simpa [blockFails, blockFault, recordFault, hwhole] using hiso


-- the trim window and the servo ---------------------------------------------------------------------------------------------------------

/-- The window's count as the registers keep it. -/
def counted (n : Nat) (s : State) : State := { s with clk := { s.clk with fircCnt := pack 32 [(31, 1), (0, n % 2 ^ 24)] } }

/-- A window of XT1: inside 0.01 percent the trim stays, at its limit the limit is told, else it moves by one step. -/
theorem trimWindow_xt1 {n : Nat} {s : State} (hsel : fld s.clk.trim 30 2 = 1) (hhost : s.clk.trimHost = false) :
    trimWindow n s =
      if 47996 ≤ n ∧ n ≤ 48004 then counted n s
      else if (n < 48000 ∧ fld s.clk.trim 0 10 = 0x3FF) ∨ (48000 < n ∧ fld s.clk.trim 0 10 = 0) then hckInt 1 (post 0x0708 0x00 [] (counted n s))
      else { counted n s with
        clk := { (counted n s).clk with
          trim := setFld s.clk.trim 0 10 (if n < 48000 then fld s.clk.trim 0 10 + 1 else fld s.clk.trim 0 10 - 1) } } := by
  have hexp : trimExpected s = 48000 := by simp [trimExpected, trimSrc, hsel]
  have hoff : (if n < 48000 then 48000 - n else n - 48000) * 10000 ≤ 48000 ↔ 47996 ≤ n ∧ n ≤ 48004 := by split <;> omega
  unfold trimWindow
  simp only [hexp, hoff, hhost, counted, Bool.false_or, decide_eq_true_eq, if_neg (show ¬ (48000 : Nat) = 0 by decide)]

/-- TIME locked to the master. -/
def lockedBySync (s : State) : State := { s with tim := { s.tim with locked := true, source := 1 } }

/-- The least and the greatest step of TIM_INCR under the servo. -/
theorem servoStep_incr (s : State) : 34358020382 ≤ (servoStep s).tim.incr.toNat ∧ (servoStep s).tim.incr.toNat ≤ 34361456354 := by
  have hclamp (v : Nat) : 34358020382 ≤ clamp50 v ∧ clamp50 v ≤ 34361456354 := by unfold clamp50; omega
  obtain ⟨hlow, hhigh⟩ := hclamp (s.tim.incr.toNat + Config.freeNat s.freeCtr % (2 * (34360 * (s.now - s.tim.incrAt) / 1000000000) + 1) -
    34360 * (s.now - s.tim.incrAt) / 1000000000)
  have hincr : (servoStep s).tim.incr.toNat = clamp50 (s.tim.incr.toNat + Config.freeNat s.freeCtr %
      (2 * (34360 * (s.now - s.tim.incrAt) / 1000000000) + 1) - 34360 * (s.now - s.tim.incrAt) / 1000000000) :=
    Nat.mod_eq_of_lt (by omega)
  exact ⟨hincr ▸ hlow, hincr ▸ hhigh⟩

end Sys2Proof.Laws

namespace Sys2Proof.Proofs

open Sys2Proof Sys2Proof.Machine Sys2Proof.Safety Sys2Proof.Laws

/-- Settles O29: each command of the chapter, by the branch of its meaning that the premises choose. -/
theorem timeComplete : Obligations.TimeComplete := by
  refine ⟨?target, ?noTarget, ?powerGood, ?stepDone, ?noPower, ?trim, ?set, ?incr, ?announce, ?sync, ?silence, ?rtcSet, ?alarm, ?hourly⟩
  case target =>
    intro w s hrun hkey htime hstep
    have htarget : kdvTarget .m w s = { s with clk := dvfsNext { s.clk with target := fld w 0 2 } } := by
      simp [kdvTarget, hkey, hrun.kiln, running_isolated hrun]
    refine answers_of_eq htarget hrun.loud ?_
    simp only [dvfsNext, htime, hstep]
    by_cases heq : s.clk.op = fld w 0 2
    · simp [heq]
    · rcases Nat.lt_or_gt_of_ne heq with hlt | hgt
      · simp [heq, hlt]
      · simp [heq, hgt, Nat.not_lt.mpr hgt.le]
  case noTarget =>
    intro level w s hrun h
    have hkeep : kdvTarget level w s = s := if_pos (h.imp_right .inl)
    exact finish_of_eq hkeep hrun.loud
  case powerGood =>
    intro s hrun hstep
    exact finish_of_eq (if_pos hstep) hrun.loud
  case stepDone =>
    intro n s hrun hstep hready htime
    have hdone : dvfsDone s = { s with
        clk := dvfsNext { s.clk with op := n, stepTo := none, supplyUp := false, kdvSteps := satInc s.clk.kdvSteps } } := by
      simp [dvfsDone, hstep, hready]
    refine answers_of_eq hdone hrun.loud ?_
    simp only [dvfsNext, htime]
    by_cases heq : n = s.clk.target
    · simp [heq]
    · rcases Nat.lt_or_gt_of_ne heq with hlt | hgt
      · simp [heq, hlt]
      · simp [heq, hgt, Nat.not_lt.mpr hgt.le]
  case noPower =>
    intro s hrun hstep hdown
    have htold : { s with clk := { s.clk with stepTo := none, dvfsTimeout := true } }.sup.isolated = [] := hrun.intact
    have hfail : exec .powerGoodTimeout s = finish (blockFails 0x05 0x23 0 (post 0x0707 0x23 []
        { s with clk := { s.clk with stepTo := none, dvfsTimeout := true } })) :=
      congrArg finish (if_pos (by simp [hstep, hdown]))
    obtain ⟨hiso, hlast, hloud, hpair⟩ := blockFails_degraded (block := 0x23) rfl 0x05 0
      (s := post 0x0707 0x23 [] { s with clk := { s.clk with stepTo := none, dvfsTimeout := true } }) (by simpa using htold)
    have hstill := hloud.trans ((post_sup_failSilent ..).trans hrun.loud)
    rw [hfail]
    exact answers_loud hstill
      ⟨by simp, by simp, by simp, hiso, hstill, hlast, hpair.trans (post_pair ..), by simp⟩
  case trim =>
    intro n s hrun hsel hhost hn
    obtain ⟨hcnt, hdone⟩ := fircCnt_fields hn
    have hkept (v : Nat) : fld (setFld s.clk.trim 0 10 v) 10 22 = fld s.clk.trim 10 22 := fld_setFld_other _ _ (by decide) (.inl (by decide))
    by_cases hin : 47996 ≤ n ∧ n ≤ 48004
    · refine answers_of_eq ((trimWindow_xt1 hsel hhost).trans (if_pos hin)) hrun.loud ⟨hcnt, hdone, (if_pos hin).symm, rfl, ?_, rfl, rfl⟩
      omega
    by_cases hlimit : (n < 48000 ∧ fld s.clk.trim 0 10 = 0x3FF) ∨ (48000 < n ∧ fld s.clk.trim 0 10 = 0)
    · have hwin := (trimWindow_xt1 hsel hhost).trans ((if_neg hin).trans (if_pos hlimit))
      refine ⟨_, congrArg finish hwin, ?_⟩
      have hstay : fld s.clk.trim 0 10 = if n < 48000 then (if fld s.clk.trim 0 10 = 0x3FF then fld s.clk.trim 0 10 else fld s.clk.trim 0 10 + 1)
          else (if fld s.clk.trim 0 10 = 0 then fld s.clk.trim 0 10 else fld s.clk.trim 0 10 - 1) := by
        rcases hlimit with ⟨hlt, hmax⟩ | ⟨hgt, hzero⟩
        · rw [if_pos hlt, if_pos hmax]
        · rw [if_neg (by omega), if_pos hzero]
      simpa [hckInt, counted, hcnt, hdone, hin, hrun.loud, bit_setBit_same] using ⟨hcnt, hdone, hstay⟩
    · refine answers_of_eq ((trimWindow_xt1 hsel hhost).trans ((if_neg hin).trans (if_neg hlimit))) hrun.loud
        ⟨hcnt, hdone, ?_, hkept _, by omega, rfl, rfl⟩
      have hfld : fld s.clk.trim 0 10 < 1024 := Nat.mod_lt _ (by decide)
      refine (fld_setFld_same s.clk.trim _ (by decide)).trans ?_
      rw [if_neg hin]
      split
      · rw [if_neg (by omega)]; exact Nat.mod_eq_of_lt (by omega)
      · rw [if_neg (by omega)]; exact Nat.mod_eq_of_lt (by omega)
  case set =>
    intro level v s hrun
    by_cases h : level = .m ∧ s.pair.role = .offline
    · rw [if_pos h]; exact finish_of_eq (if_pos h) hrun.loud
    · rw [if_neg h]; exact finish_of_eq (if_neg h) hrun.loud
  case incr =>
    intro level v s hrun
    by_cases h : level = .m
    · refine answers_of_eq (if_pos h) hrun.loud ⟨?_, rfl, rfl⟩
      rw [if_pos h]
      exact Nat.mod_eq_of_lt (by unfold clampIncr; omega)
    · exact answers_of_eq (if_neg h) hrun.loud ⟨(if_neg h).symm, rfl, rfl⟩
  case announce =>
    intro id better s hrun hrole hptp hmaster
    have hnew : ptpMessage (.announce id better) s = { s with tim := { s.tim with master := some id, agreeing := 0 } } := by
      simp [ptpMessage, hrole, hptp, running_runtimeLive hrun, hmaster]
    exact finish_of_eq hnew hrun.loud
  case sync =>
    intro id off s hrun hrole hptp hmaster hfree hagree hnear hnear'
    have hsync : ptpMessage (.sync id off) s = servoStep (post 0x0705 0x04 [] (lockedBySync
        (postIf (decide (1000000 < off ∨ off < -1000000)) 0x0709 0x04 [] { s with tim := { s.tim with lastOffset := off, agreeing := 8 } }))) := by
      simp [ptpMessage, hrole, hptp, running_runtimeLive hrun, hmaster, hfree, hagree, hnear, hnear', lockedBySync]
    have hrate := servoStep_incr (post 0x0705 0x04 [] (lockedBySync
        (postIf (decide (1000000 < off ∨ off < -1000000)) 0x0709 0x04 [] { s with tim := { s.tim with lastOffset := off, agreeing := 8 } })))
    refine ⟨_, congrArg finish hsync, ?_⟩
    simpa [servoStep, lockedBySync, hrun.loud] using hrate
  case silence =>
    intro id s hrun hrole hmaster
    exact congrArg (fun u => finish u) (if_pos ⟨hrole, by rw [hmaster]; rfl, running_runtimeLive hrun⟩)
  case rtcSet =>
    intro v s hrun
    exact finish_of_eq (if_neg (by simp [running_isolated hrun])) hrun.loud
  case alarm =>
    intro s hrun halarm
    have hring : (if s.tim.alarm = 0 ∨ isolated s 0x02 then s else rtcIntBit 0 s) = rtcIntBit 0 s := by
      refine if_neg ?_
      rintro (hzero | hiso)
      · exact halarm hzero
      · exact absurd ((running_isolated hrun _).symm.trans hiso) (by decide)
    refine answers_of_eq (hring.trans (rtcIntBit_eq 0 s)) hrun.loud ⟨bit_setBit_same _ (by decide), rfl, rfl⟩
  case hourly =>
    intro s hrun hsource
    have hset : (if runtimeLive s ∧ (s.tim.source = 1 ∨ s.tim.source = 3) then rtcSet s.tim.time s else s) =
        { s with tim := { s.tim with rtc := s.tim.time, rtcFrac := 0, rtcLost := false } } := by
      simp [rtcSet, running_runtimeLive hrun, hsource, running_isolated hrun]
    exact finish_of_eq hset hrun.loud

end Sys2Proof.Proofs

/-! PROOF. The Gate (12): rule commits (R398), fault records, dirty tracking (R406, R407), the cores' tags (R394). -/

namespace Sys2Proof.Laws

open Sys2Proof Sys2Proof.Machine Sys2Proof.Safety

theorem gateInt_eq (b : Nat) (s : State) :
    gateInt b s = { s with
      gate := { s.gate with intStatus := setBit s.gate.intStatus b }
      dic := rungDic (rings s.gate.intStatus (setBit s.gate.intStatus b) s.gate.intMask) 77 s } :=
  ringIf_eq _ _ _

/-- The word that gathers the dirty pages of one index keeps the bits it began with. -/
theorem bit_gather (i j : Nat) (hj : j < 64) (pages : List Nat) (w : DWord) :
    bit (pages.foldl (fun w p => if p / 64 = i then setBit w (p % 64) else w) w) j = (bit w j || pages.contains (64 * i + j)) := by
  induction pages generalizing w with
  | nil => simp
  | cons p ps ih =>
    rw [List.foldl_cons, ih, List.contains_cons]
    by_cases hp : p = 64 * i + j
    · have hdiv : p / 64 = i := by omega
      have hmod : p % 64 = j := by omega
      simp [hdiv, hmod, ← hp, bit_setBit_same w hj]
    · have hne : (64 * i + j == p) = false := by simpa using Ne.symm hp
      rw [hne, Bool.false_or]
      split
      · rw [bit_setBit_other w (show p % 64 ≠ j by omega)]
      · rfl

/-- The tracking word at an index: a bit for each of its 64 pages. -/
theorem bit_trkWord (g : Gate) (i : Nat) {j : Nat} (hj : j < 64) : bit (trkWord g i) j = g.dirty.contains (64 * i + j) := by
  rw [trkWord, bit_gather i j hj, show bit (0 : DWord) j = false by simp [bit], Bool.false_or]

/-- What the search for a bad rule finds: the first. -/
theorem find_firstBad {staged : List GateRule} {i : Nat} (hi : i < 96) (hbad : ruleBad (staged.getD i {}) = true)
    (hfirst : ∀ j < i, ruleBad (staged.getD j {}) = false) :
    (List.range 96).find? (fun i => ruleBad (staged.getD i {})) = some i := by
  rw [List.find?_range_eq_some]
  exact ⟨hbad, List.mem_range.mpr hi, fun j hj => by simpa using hfirst j hj⟩

/-- No rule is bad. -/
theorem find_noBad {staged : List GateRule} (hgood : ∀ i < 96, ruleBad (staged.getD i {}) = false) :
    (List.range 96).find? (fun i => ruleBad (staged.getD i {})) = none := by
  rw [List.find?_eq_none]
  intro i hi
  rw [hgood i (List.mem_range.mp hi)]
  decide

end Sys2Proof.Laws

namespace Sys2Proof.Proofs

open Sys2Proof Sys2Proof.Machine Sys2Proof.Safety Sys2Proof.Laws

/-- Settles O32: the commit by what the search for a bad rule finds, the other registers by their tests. -/
theorem gateComplete : Obligations.GateComplete := by
  refine ⟨?good, ?bad, ?ignored, ?pop, ?harvest, ?lower, ?clear, ?done, ?tag⟩
  case good =>
    intro e s hrun he hgood
    refine congrArg finish (?_ : gateCommit .m e s = _)
    unfold gateCommit
    rw [if_neg (by simp [he])]
    simp only [find_noBad hgood]
  case bad =>
    intro e i s hrun he hi hbad hfirst
    have hcommit : gateCommit .m e s = post 0x0903 0x07 (u8 (i / 16) ++ u8 (i % 16))
        (gateInt 3 { s with gate := { s.gate with badRule := true, badGate := i / 16, badRuleNo := i % 16 } }) := by
      unfold gateCommit
      rw [if_neg (by simp [he])]
      simp only [find_firstBad hi hbad hfirst]
    refine answers_of_eq hcommit (by simp [gateInt_eq, hrun.loud]) ?_
    simp [gateInt_eq, bit_setBit_same]
  case ignored =>
    intro level e s hrun h
    exact finish_of_eq (if_pos h) hrun.loud
  case pop =>
    intro level w s hrun
    by_cases h : level = .m ∧ bit w 0 = true
    · rw [if_pos h]; exact finish_of_eq (if_pos h) hrun.loud
    · rw [if_neg h]; exact finish_of_eq (if_neg h) hrun.loud
  case harvest =>
    intro s hrun hi
    have hmin : min s.gate.trkIndex 24575 = s.gate.trkIndex := by omega
    refine answers_of_eq rfl hrun.loud ⟨⟨_, rfl, fun j hj => ?_⟩, fun p => ?_, ?_, rfl⟩
    · rw [hmin]; exact bit_trkWord _ _ hj
    · refine Bool.eq_iff_iff.mpr ?_
      simp [trkHarvest, hmin]
    · simp [trkHarvest, hmin]
  case lower =>
    intro level s hrun h
    exact ⟨finish_of_eq (if_pos h) hrun.loud, finish_of_eq (if_neg h) hrun.loud⟩
  case clear =>
    intro s hrun
    cases hen : s.gate.trkEn
    · have hclear : trkCtrl 2 s = { s with gate := { s.gate with dirty := [], trkBusy := true } } := by
        simp [trkCtrl, hen, bit, Nat.testBit]
      exact finish_of_eq hclear hrun.loud
    · have hstop : trkCtrl 2 s = { s with gate := { s.gate with trkEn := false } } := by simp [trkCtrl, hen, bit, Nat.testBit]
      exact finish_of_eq hstop hrun.loud
  case done =>
    intro s hrun hbusy
    exact finish_of_eq (if_pos hbusy) hrun.loud
  case tag =>
    intro c level v s hrun
    by_cases h : level = .m
    · rw [if_pos h]; exact finish_of_eq (if_pos (by simp [h, hrun.kiln])) hrun.loud
    · rw [if_neg h]; exact finish_of_eq (if_neg (by simp [h])) hrun.loud

end Sys2Proof.Proofs

/-! PROOF. Power states (13): a full doorbell queue posts an event (R423), whose own interrupt rings another source. -/

namespace Sys2Proof.Laws

open Sys2Proof Sys2Proof.Machine Sys2Proof.Safety

/-- No bit of the word 0 is set. -/
theorem bit_zero (n i : Nat) : bit (0 : BitVec n) i = false := by simp [bit]

/-- A module that runs, as the start sequence leaves it: released, judged, powered; all else as after reset. -/
def started : State :=
  { State.reset with
    sup := { State.reset.sup with kilnHeld := false, rickHeld := false, bankHeld := false, cordHeld := false, runtimeUp := true, rickUp := true }
    hw := { State.reset.hw with powerDown := false, porReleased := true }
    clk := { State.reset.clk with phase := .run } }

theorem running_started : Running started := ⟨rfl, rfl, rfl, rfl, rfl, rfl, rfl, rfl, rfl, rfl, rfl, rfl⟩

/-- A running module whose doorbell queue is full, whose global event bucket is empty, and whose interrupt of a lost posting is unmasked. -/
def fullDoorbells : State :=
  { started with
    dic := { started.dic with queueLen := 32 }
    evr := { started.evr with rlen := false, gNano := 0, intMask := 4 } }

/-- The doorbell there: source 5 is rung, the stall's event is lost for want of a token, and the loss rings source 78. -/
theorem doorbell_fullDoorbells : doorbell 5 fullDoorbells =
    { fullDoorbells with
      dic := dicAccept (dicAccept fullDoorbells.dic 0 5) 0 78
      evr := { fullDoorbells.evr with lossCount := 1, intStatus := setBit 0 2 } } := by rfl

end Sys2Proof.Laws

namespace Sys2Proof.Proofs

open Sys2Proof Sys2Proof.Machine Sys2Proof.Safety Sys2Proof.Laws

/-- Refutes O34: with the doorbell queue full and the global event bucket empty, the event of the stall is lost, and the loss's interrupt sets the
recorder's pending bit 78 besides the doorbell's own. -/
theorem not_powerStatesComplete : ¬ Obligations.PowerStatesComplete := by
  intro h
  obtain ⟨t, hnext, hpend, -⟩ := h.1 5 fullDoorbells ⟨rfl, rfl, rfl, rfl, rfl, rfl, rfl, rfl, rfl, rfl, rfl, rfl⟩ (by decide)
  have ht : t = settle { fullDoorbells with
      dic := dicAccept (dicAccept fullDoorbells.dic 0 5) 0 78
      evr := { fullDoorbells.evr with lossCount := 1, intStatus := setBit 0 2 } } :=
    (Host.Outcome.next.inj ((congrArg finish doorbell_fullDoorbells).symm.trans hnext)).symm
  have hrung : bit t.dic.pend 78 = true := by
    rw [ht, settle_dic, leaveIdle_pend]
    exact bit_setBit_same _ (by decide)
  have hclear : bit fullDoorbells.dic.pend 78 = false := bit_zero 1024 78
  have hkept := hpend 78 (by decide)
  rw [hrung, hclear] at hkept
  exact absurd hkept (by decide)

end Sys2Proof.Proofs

/-! PROOF. The key store's commands (16 R507 to R510): the data registers as bytes, then each command by its branch. -/

namespace Sys2Proof.Laws

open Sys2Proof Sys2Proof.Machine Sys2Proof.Safety

-- little-endian bytes ----------------------------------------------------------------------------------------------------------------

@[simp] theorem length_leBytes (k v : Nat) : (leBytes k v).length = k := by
  induction k generalizing v with
  | zero => rfl
  | succ k ih => rw [leBytes, List.length_cons, ih]

/-- Bytes read as a number are written back as they were. -/
theorem leBytes_leNat (bs : List Byte) : leBytes bs.length (leNat bs) = bs := by
  induction bs with
  | nil => rfl
  | cons b bs ih =>
    have hb := b.isLt
    have hlow : (b.toNat + 256 * leNat bs) % 256 = b.toNat := by omega
    have hhigh : (b.toNat + 256 * leNat bs) / 256 = leNat bs := by omega
    rw [List.length_cons, leNat, leBytes, hlow, hhigh, ih]
    simp

/-- A number written as bytes reads back, as far as the bytes hold it. -/
theorem leNat_leBytes (k v : Nat) : leNat (leBytes k v) = v % 256 ^ k := by
  induction k generalizing v with
  | zero => simp [leBytes, leNat, Nat.mod_one]
  | succ k ih =>
    rw [leBytes, leNat, ih, Nat.pow_succ', Nat.mod_mul]
    simp

theorem leNat_lt (bs : List Byte) : leNat bs < 256 ^ bs.length := by
  induction bs with
  | nil => decide
  | cons b bs ih =>
    have hb := b.isLt
    rw [leNat, List.length_cons, Nat.pow_succ']
    omega

@[simp] theorem length_fit (n : Nat) (bs : List Byte) : (fit n bs).length = n := by
  simp [fit, zeros]; omega

/-- What has the length already is kept. -/
theorem fit_of_length {n : Nat} {bs : List Byte} (h : bs.length = n) : fit n bs = bs := by
  rw [fit, ← h, Nat.sub_self, List.take_length]
  simp [zeros]

-- one entry of a list ------------------------------------------------------------------------------------------------------------------

theorem getD_modAt {α : Type} (l : List α) (i j : Nat) (f : α → α) (d : α) :
    (modAt l i f).getD j d = if j = i ∧ j < l.length then f (l.getD j d) else l.getD j d := by
  rw [modAt, List.getD_eq_getElem?_getD, List.getD_eq_getElem?_getD, List.getElem?_mapIdx]
  by_cases hj : j < l.length
  · rw [List.getElem?_eq_getElem hj]
    simp only [hj, and_true, Option.map_some, Option.getD_some]
  · rw [List.getElem?_eq_none (not_lt.mp hj)]
    simp [hj]

theorem getD_putAt_same {α : Type} {l : List α} {i : Nat} (v d : α) (h : i < l.length) : (putAt l i v).getD i d = v := by
  rw [putAt, getD_modAt, if_pos ⟨rfl, h⟩]

theorem getD_putAt_other {α : Type} (l : List α) {i j : Nat} (v d : α) (h : j ≠ i) : (putAt l i v).getD j d = l.getD j d := by
  rw [putAt, getD_modAt, if_neg (fun hc => h hc.1)]

-- the data registers ----------------------------------------------------------------------------------------------------------------------

/-- The 4 bytes from an offset, through a register of 32 bits. -/
theorem le4_leAt {bs : List Byte} {off : Nat} (h : off + 4 ≤ bs.length) : le4 (BitVec.ofNat 32 (leAt bs off 4)).toNat = slice bs off 4 := by
  have hlen : (slice bs off 4).length = 4 := by simp [slice]; omega
  have hlt : leNat (slice bs off 4) < 4294967296 := by simpa [hlen] using leNat_lt (slice bs off 4)
  have hword : (BitVec.ofNat 32 (leAt bs off 4)).toNat = leNat (slice bs off 4) := Nat.mod_eq_of_lt hlt
  have hback := leBytes_leNat (slice bs off 4)
  rw [hlen] at hback
  rw [hword, le4, hback]

/-- A list of bytes as its groups of 4. -/
theorem flatMap_slice4 (bs : List Byte) (n : Nat) : (List.range n).flatMap (fun i => slice bs (4 * i) 4) = bs.take (4 * n) := by
  induction n with
  | zero => rfl
  | succ n ih =>
    rw [List.range_succ, List.flatMap_append, ih, List.flatMap_singleton, slice, show 4 * (n + 1) = 4 * n + 4 by ring, List.take_add]

/-- The bytes that were put into the data registers, filled up with zeros. -/
theorem ksData_putKsData (bs : List Byte) (k : Ks) : ksData (putKsData bs k) = fit 128 bs := by
  have hregs : ksData (putKsData bs k) = (List.range 32).flatMap (fun i => slice (fit 128 bs) (4 * i) 4) := by
    rw [ksData, putKsData, List.flatMap_map]
    refine List.flatMap_congr fun i hi => le4_leAt ?_
    have := List.mem_range.mp hi
    rw [length_fit]
    omega
  rw [hregs, flatMap_slice4, List.take_of_length_le (by simp)]

theorem length_ksData {k : Ks} (h : k.data.length = 32) : (ksData k).length = 128 := by
  simp [ksData, List.length_flatMap, le4, h]

-- the key store ---------------------------------------------------------------------------------------------------------------------------

theorem running_ksLive {s : State} (h : Running s) : ksLive s = true := by simp [ksLive, running_cordLive h, running_isolated h]

/-- The 32 credential slots. -/
theorem selIndex_cred {k : Ks} (h : selClass k = 1) : selIndex k < 32 := by
  simp only [selIndex, h]
  simp

/-- A field behind the first byte does not see that byte replaced. -/
theorem slice_replaceFirst (v : Nat) (bs : List Byte) {off : Nat} (len : Nat) (h : 0 < off) :
    slice (u8 v ++ bs.drop 1) off len = slice bs off len := by
  obtain ⟨n, rfl⟩ := Nat.exists_eq_add_of_lt h
  simp [slice, u8]

/-- The byte in its place. -/
theorem leAt_replaceFirst {v : Nat} (bs : List Byte) (h : v < 256) : leAt (u8 v ++ bs.drop 1) 0 1 = v := by
  simpa [leAt, slice, u8, leNat] using h

/-- A credential of level 1, 2 or 4 fills an empty slot, a filled one refuses it (R509). -/
theorem ksEnrol_cred {e : List Byte} (s : State) (hlen : e.length = 36) (hzero : leAt e 3 1 = 0) (hslot : leAt e 0 1 < 32)
    (hlevel : leAt e 1 1 = 1 ∨ leAt e 1 1 = 2 ∨ leAt e 1 1 = 4) :
    ksEnrol e s =
      if credAt s.ks (leAt e 0 1) = none then
        (ksPost 0x0D07 (u8 1 ++ u8 (leAt e 0 1)) { s with ks := { s.ks with
          creds := { slot := leAt e 0 1, key := slice e 4 32, level := leAt e 1 1, debug := leAt e 2 1 % 2 == 1 } :: s.ks.creds } }, 0)
      else (s, 0x280B) := by
  have hlevels : leAt e 1 1 ≠ 0 ∧ leAt e 1 1 ≠ 3 ∧ ¬ 4 < leAt e 1 1 := by omega
  obtain ⟨hnonzero, hnot3, hmax⟩ := hlevels
  cases hempty : credAt s.ks (leAt e 0 1)
  · simp [ksEnrol, hlen, hzero, hnonzero, hnot3, hmax, hempty, not_le.mpr hslot]
  · simp [ksEnrol, hlen, hzero, hnonzero, hnot3, hmax, hempty, not_le.mpr hslot]

/-- An answer whose meaning has been brought to its end. -/
theorem answers_of_finish {o : Host.Outcome State Fault Refusal} {u : State} {post : State → Prop} (h : o = finish u) (hloud : u.sup.failSilent = false)
    (hpost : post { u with dic := leaveIdle u.dic }) : Answers o post :=
  h ▸ answers_loud hloud hpost

end Sys2Proof.Laws

namespace Sys2Proof.Proofs

open Sys2Proof Sys2Proof.Machine Sys2Proof.Safety Sys2Proof.Laws

/-- Settles O42: each command by the branch that its premises choose. -/
theorem keyStoreCommandsComplete : Obligations.KeyStoreCommandsComplete := by
  unfold Obligations.KeyStoreCommandsComplete
  intro result
  refine ⟨?generate, ?sign, ?noSign, ?unwrap, ?enrol, ?revoke, ?revokeVendor, ?verify, ?zeroise, ?arb, ?permit⟩
  case generate =>
    intro s hrun
    refine ⟨fun hnone => ?_, fun hsome => ?_⟩
    · have hgen : (if ksLive s && s.ks.dev.isNone then ksDone 1 0 (generateKeys s) else s) = ksDone 1 0 (ksPost 0x0D0B []
          { s with ks := { s.ks with dev := some s.ks.gens, gens := s.ks.gens + 1, zeroised := false } }) := by
        simp [running_ksLive hrun, hnone, generateKeys]
      exact answers_of_eq hgen (by simp [ksDone, ksPost, hrun.loud]) ⟨by simp [ksDone, ksPost, result], by simp [ksDone, ksPost]⟩
    · exact congrArg finish (if_neg (by simp [hsome]))
  case sign =>
    intro n s hrun hclass hdev
    have hsign : execKsCmdSign s = finish (ksDone 2 0
        { s with ks := putKsData (fit 64 (Config.deviceSign n (certVerify ((ksData s.ks).take 32)))) s.ks }) := by
      simp [execKsCmdSign, running_ksLive hrun, hclass, hdev, deviceSig]
    refine answers_of_finish hsign hrun.loud ⟨rfl, ?_⟩
    refine (congrArg (List.take 64) (ksData_putKsData _ s.ks)).trans ?_
    rw [fit]
    simp
  case noSign =>
    intro s hrun h
    refine congrArg finish (?_ : _ = ksDone 2 (if selClass s.ks = 5 then 2 else 1) s)
    by_cases hclass : selClass s.ks = 5
    · have hdev : s.ks.dev = none := h.resolve_left (fun k => k hclass)
      simp [running_ksLive hrun, hclass, hdev]
    · simp [running_ksLive hrun, hclass]
  case unwrap =>
    intro n s hrun hdev hdata b hserial hcls hidx hsel hselIdx
    have hlen : b.length = 72 := by simp [b, length_ksData hdata]
    have hload : execKsCmdUnwrap s = finish (ksDone 3 (ksResult false (ksLoad b s).2) (ksLoad b s).1) := by
      simp [execKsCmdUnwrap, running_ksLive hrun, hsel, hselIdx, hcls, b]
    cases hkey : Config.unwrapBlob n b with
    | none =>
      have hbad : ksLoad b s = (s, 0x280C) := by simp [ksLoad, hdev, hkey]
      rw [hbad] at hload
      exact answers_of_finish hload hrun.loud rfl
    | some k =>
      have hgood : ksLoad b s = (ksPost 0x0D08 (le2 (leAt b 2 2) ++ fpBytes (fit 16 k)) { s with
          ks := { s.ks with records := { idx := leAt b 2 2, key := fit 16 k, digid := 0 } :: dropRec s.ks.records (leAt b 2 2) } }, 0) := by
        simp [ksLoad, hdev, hkey, hlen, hserial, hcls, hidx]
      rw [hgood] at hload
      exact answers_of_finish hload (by simp [ksDone, ksPost, hrun.loud]) (by simp [ksDone, ksPost, ksResult, result])
  case enrol =>
    intro s hrun hdata d cred hsel hzero hlevel
    have hslot := selIndex_cred hsel
    have hlen : (u8 (selIndex s.ks) ++ d.drop 1).length = 36 := by simp [d, u8, length_ksData hdata]
    have hfirst : leAt (u8 (selIndex s.ks) ++ d.drop 1) 0 1 = selIndex s.ks := leAt_replaceFirst d (by omega)
    have hfield (off len : Nat) (h : 0 < off) : leAt (u8 (selIndex s.ks) ++ d.drop 1) off len = leAt d off len :=
      congrArg leNat (slice_replaceFirst _ d len h)
    have hkey : slice (u8 (selIndex s.ks) ++ d.drop 1) 4 32 = slice d 4 32 := slice_replaceFirst _ d 32 (by decide)
    have hnonzero : leAt d 1 1 ≠ 0 := by omega
    have hadd := ksEnrol_cred s hlen ((hfield 3 1 (by decide)).trans hzero) (hfirst.trans_lt hslot) (by rwa [hfield 1 1 (by decide)])
    rw [hfirst, hfield 1 1 (by decide), hfield 2 1 (by decide), hkey] at hadd
    have henrol : execKsCmdEnrol s = finish (ksDone 4 (ksResult false (ksEnrol (u8 (selIndex s.ks) ++ d.drop 1) s).2)
        (ksEnrol (u8 (selIndex s.ks) ++ d.drop 1) s).1) :=
      congrArg finish ((if_neg (by simp [running_ksLive hrun])).trans (if_pos (.inl ⟨hsel, hnonzero⟩)))
    rw [hadd] at henrol
    by_cases hempty : credAt s.ks (selIndex s.ks) = none
    · rw [if_pos hempty] at henrol ⊢
      exact answers_of_finish henrol (by simp [ksDone, ksPost, hrun.loud]) (by simp [ksDone, ksPost, ksResult, result, cred])
    · rw [if_neg hempty] at henrol ⊢
      exact answers_of_finish henrol hrun.loud ⟨rfl, rfl⟩
  case revoke =>
    intro s hrun hsel
    cases hslot : recAt s.ks.progs (selIndex s.ks) with
    | none =>
      have hnone : execKsCmdRevoke s = finish (ksDone 5 2 s) := by
        simp [execKsCmdRevoke, running_ksLive hrun, hsel, ksRevoke, slotEmpty, hslot, ksResult]
      exact answers_of_finish hnone hrun.loud ⟨rfl, rfl⟩
    | some r =>
      have hdrop : execKsCmdRevoke s = finish (ksDone 5 0 (ksPost 0x0D07 (u8 2 ++ u8 (selIndex s.ks))
          { s with ks := { s.ks with progs := dropRec s.ks.progs (selIndex s.ks) } })) := by
        simp [execKsCmdRevoke, running_ksLive hrun, hsel, ksRevoke, hslot, ksResult]
      exact answers_of_finish hdrop (by simp [ksDone, ksPost, hrun.loud]) (by simp [ksDone, ksPost, result])
  case revokeVendor =>
    intro s hrun hsel
    have hvendor : execKsCmdRevoke s = finish (ksDone 5 0 (postIf (!bit s.upd.revKs (selIndex s.ks)) 0x0D06 0x83 []
        { s with upd := { s.upd with revKs := setBit s.upd.revKs (selIndex s.ks) } })) := by
      simp [execKsCmdRevoke, running_ksLive hrun, hsel]
    exact answers_of_finish hvendor (by simp [ksDone, hrun.loud]) (by simp [ksDone, result])
  case verify =>
    intro key s hrun hkey
    have hverify : execKsCmdVerify s =
        finish (ksDone 6 (if Config.ed25519Verify key ((ksData s.ks).drop 64) ((ksData s.ks).take 64) then 0 else 3) s) := by
      simp [execKsCmdVerify, running_ksLive hrun, hkey]
    exact hverify
  case zeroise =>
    intro s hrun
    refine answers_of_eq (if_pos (running_ksLive hrun)) (by simp [ksDone, zeroise, ksPost, hrun.loud]) ?_
    simp [ksDone, zeroise, ksPost, result]
  case arb =>
    intro s hrun harb comp v
    have hcomp : comp = 3 ∨ comp = 4 := by unfold comp; split <;> simp
    by_cases hv : v ≤ 64
    · have hraise : execKsCmdArbAdvance s = finish (ksDone 8 0
          { s with upd := { s.upd with arb := putAt s.upd.arb (comp - 1) (max (arbOf s comp) v) } }) := by
        exact congrArg finish ((if_neg (by simp [running_ksLive hrun])).trans (if_neg (not_lt.mpr hv)))
      refine answers_of_finish hraise hrun.loud ⟨?_, by simp [hv, ksDone, result], fun k hk hne => ?_⟩
      · rw [if_pos hv]
        exact getD_putAt_same _ _ (by rw [harb]; omega)
      · exact getD_putAt_other _ _ _ (by omega)
    · have hfull : execKsCmdArbAdvance s = finish (ksDone 8 4 s) := by
        exact congrArg finish ((if_neg (by simp [running_ksLive hrun])).trans (if_pos (not_le.mp hv)))
      exact answers_of_finish hfull hrun.loud ⟨(if_neg hv).symm, by simp [hv, ksDone, result], fun k _ _ => rfl⟩
  case permit =>
    intro s hrun
    refine ⟨fun hz hoff => congrArg finish (if_pos ?_), fun h => congrArg finish (if_neg ?_)⟩
    · simp [running_ksLive hrun, hz, hoff]
    · rcases h with h | h
      · simp [h]
      · simp [h]

end Sys2Proof.Proofs

/-! PROOF. Clock sources (10 R342 to R345): starts, CLOCK-HOLD, the slow sources. -/

namespace Sys2Proof.Laws

open Sys2Proof Sys2Proof.Machine Sys2Proof.Safety

-- what the end of a role leaves ------------------------------------------------------------------------------------------------------------

@[simp] theorem foldl_clk {α : Type} {f : State → α → State} (hf : ∀ s x, (f s x).clk = s.clk) (xs : List α) (s : State) :
    (xs.foldl f s).clk = s.clk := by
  induction xs generalizing s with
  | nil => rfl
  | cons x xs ih => exact (ih _).trans (hf s x)
@[simp] theorem foldl_jrn {α : Type} {f : State → α → State} (hf : ∀ s x, (f s x).jrn = s.jrn) (xs : List α) (s : State) :
    (xs.foldl f s).jrn = s.jrn := by
  induction xs generalizing s with
  | nil => rfl
  | cons x xs ih => exact (ih _).trans (hf s x)
@[simp] theorem foldl_od {α : Type} {f : State → α → State} (hf : ∀ s x, (f s x).od = s.od) (xs : List α) (s : State) :
    (xs.foldl f s).od = s.od := by
  induction xs generalizing s with
  | nil => rfl
  | cons x xs ih => exact (ih _).trans (hf s x)
@[simp] theorem foldl_ks {α : Type} {f : State → α → State} (hf : ∀ s x, (f s x).ks = s.ks) (xs : List α) (s : State) :
    (xs.foldl f s).ks = s.ks := by
  induction xs generalizing s with
  | nil => rfl
  | cons x xs ih => exact (ih _).trans (hf s x)
@[simp] theorem foldl_aud {α : Type} {f : State → α → State} (hf : ∀ s x, (f s x).aud = s.aud) (xs : List α) (s : State) :
    (xs.foldl f s).aud = s.aud := by
  induction xs generalizing s with
  | nil => rfl
  | cons x xs ih => exact (ih _).trans (hf s x)
@[simp] theorem foldl_upd {α : Type} {f : State → α → State} (hf : ∀ s x, (f s x).upd = s.upd) (xs : List α) (s : State) :
    (xs.foldl f s).upd = s.upd := by
  induction xs generalizing s with
  | nil => rfl
  | cons x xs ih => exact (ih _).trans (hf s x)
@[simp] theorem foldl_gate {α : Type} {f : State → α → State} (hf : ∀ s x, (f s x).gate = s.gate) (xs : List α) (s : State) :
    (xs.foldl f s).gate = s.gate := by
  induction xs generalizing s with
  | nil => rfl
  | cons x xs ih => exact (ih _).trans (hf s x)
@[simp] theorem foldl_scl {α : Type} {f : State → α → State} (hf : ∀ s x, (f s x).scl = s.scl) (xs : List α) (s : State) :
    (xs.foldl f s).scl = s.scl := by
  induction xs generalizing s with
  | nil => rfl
  | cons x xs ih => exact (ih _).trans (hf s x)
@[simp] theorem foldl_lio {α : Type} {f : State → α → State} (hf : ∀ s x, (f s x).lio = s.lio) (xs : List α) (s : State) :
    (xs.foldl f s).lio = s.lio := by
  induction xs generalizing s with
  | nil => rfl
  | cons x xs ih => exact (ih _).trans (hf s x)
@[simp] theorem foldl_emb {α : Type} {f : State → α → State} (hf : ∀ s x, (f s x).emb = s.emb) (xs : List α) (s : State) :
    (xs.foldl f s).emb = s.emb := by
  induction xs generalizing s with
  | nil => rfl
  | cons x xs ih => exact (ih _).trans (hf s x)
@[simp] theorem foldl_legal {α : Type} {f : State → α → State} (hf : ∀ s x, (f s x).legal = s.legal) (xs : List α) (s : State) :
    (xs.foldl f s).legal = s.legal := by
  induction xs generalizing s with
  | nil => rfl
  | cons x xs ih => exact (ih _).trans (hf s x)
@[simp] theorem foldl_chg {α : Type} {f : State → α → State} (hf : ∀ s x, (f s x).chg = s.chg) (xs : List α) (s : State) :
    (xs.foldl f s).chg = s.chg := by
  induction xs generalizing s with
  | nil => rfl
  | cons x xs ih => exact (ih _).trans (hf s x)
@[simp] theorem foldl_now {α : Type} {f : State → α → State} (hf : ∀ s x, (f s x).now = s.now) (xs : List α) (s : State) :
    (xs.foldl f s).now = s.now := by
  induction xs generalizing s with
  | nil => rfl
  | cons x xs ih => exact (ih _).trans (hf s x)
@[simp] theorem releaseToken_clk_jrn_od_ks_aud_upd_gate_scl_lio_emb_legal_chg_now (p : Holder → Bool) (s : State) :
    (releaseToken p s).clk = s.clk ∧ (releaseToken p s).jrn = s.jrn ∧ (releaseToken p s).od = s.od ∧ (releaseToken p s).ks = s.ks ∧ (releaseToken p s).aud = s.aud ∧ (releaseToken p s).upd = s.upd ∧ (releaseToken p s).gate = s.gate ∧ (releaseToken p s).scl = s.scl ∧ (releaseToken p s).lio = s.lio ∧ (releaseToken p s).emb = s.emb ∧ (releaseToken p s).legal = s.legal ∧ (releaseToken p s).chg = s.chg ∧ (releaseToken p s).now = s.now := by
  unfold releaseToken; simp
@[simp] theorem flushHeldTx_clk_jrn_od_ks_aud_upd_gate_scl_lio_emb_legal_chg_now (s : State) :
    (flushHeldTx s).clk = s.clk ∧ (flushHeldTx s).jrn = s.jrn ∧ (flushHeldTx s).od = s.od ∧ (flushHeldTx s).ks = s.ks ∧ (flushHeldTx s).aud = s.aud ∧ (flushHeldTx s).upd = s.upd ∧ (flushHeldTx s).gate = s.gate ∧ (flushHeldTx s).scl = s.scl ∧ (flushHeldTx s).lio = s.lio ∧ (flushHeldTx s).emb = s.emb ∧ (flushHeldTx s).legal = s.legal ∧ (flushHeldTx s).chg = s.chg ∧ (flushHeldTx s).now = s.now := by
  refine ⟨?_, ?_, ?_, ?_, ?_, ?_, ?_, ?_, ?_, ?_, ?_, ?_, ?_⟩
  · unfold flushHeldTx; rw [foldl_clk (fun s x => by (repeat' split) <;> simp)]
  · unfold flushHeldTx; rw [foldl_jrn (fun s x => by (repeat' split) <;> simp)]
  · unfold flushHeldTx; rw [foldl_od (fun s x => by (repeat' split) <;> simp)]
  · unfold flushHeldTx; rw [foldl_ks (fun s x => by (repeat' split) <;> simp)]
  · unfold flushHeldTx; rw [foldl_aud (fun s x => by (repeat' split) <;> simp)]
  · unfold flushHeldTx; rw [foldl_upd (fun s x => by (repeat' split) <;> simp)]
  · unfold flushHeldTx; rw [foldl_gate (fun s x => by (repeat' split) <;> simp)]
  · unfold flushHeldTx; rw [foldl_scl (fun s x => by (repeat' split) <;> simp)]
  · unfold flushHeldTx; rw [foldl_lio (fun s x => by (repeat' split) <;> simp)]
  · unfold flushHeldTx; rw [foldl_emb (fun s x => by (repeat' split) <;> simp)]
  · unfold flushHeldTx; rw [foldl_legal (fun s x => by (repeat' split) <;> simp)]
  · unfold flushHeldTx; rw [foldl_chg (fun s x => by (repeat' split) <;> simp)]
  · unfold flushHeldTx; rw [foldl_now (fun s x => by (repeat' split) <;> simp)]
@[simp] theorem fijStopRun_clk_jrn_od_ks_aud_upd_gate_scl_lio_emb_legal_chg_now (cause : Nat) (s : State) :
    (fijStopRun cause s).clk = s.clk ∧ (fijStopRun cause s).jrn = s.jrn ∧ (fijStopRun cause s).od = s.od ∧ (fijStopRun cause s).ks = s.ks ∧ (fijStopRun cause s).aud = s.aud ∧ (fijStopRun cause s).upd = s.upd ∧ (fijStopRun cause s).gate = s.gate ∧ (fijStopRun cause s).scl = s.scl ∧ (fijStopRun cause s).lio = s.lio ∧ (fijStopRun cause s).emb = s.emb ∧ (fijStopRun cause s).legal = s.legal ∧ (fijStopRun cause s).chg = s.chg ∧ (fijStopRun cause s).now = s.now := by
  unfold fijStopRun; simp
@[simp] theorem setRole_clk_jrn_od_ks_aud_upd_gate_scl_lio_emb_legal_chg_now (r : Role) (sub : Sub) (s : State) :
    (setRole r sub s).clk = s.clk ∧ (setRole r sub s).jrn = s.jrn ∧ (setRole r sub s).od = s.od ∧ (setRole r sub s).ks = s.ks ∧ (setRole r sub s).aud = s.aud ∧ (setRole r sub s).upd = s.upd ∧ (setRole r sub s).gate = s.gate ∧ (setRole r sub s).scl = s.scl ∧ (setRole r sub s).lio = s.lio ∧ (setRole r sub s).emb = s.emb ∧ (setRole r sub s).legal = s.legal ∧ (setRole r sub s).chg = s.chg ∧ (setRole r sub s).now = s.now := by
  unfold setRole; simp

/-- A switched role is the one that was named, and only an ACTIVE module drives. -/
theorem setRole_role (r : Role) (sub : Sub) (s : State) : (setRole r sub s).pair.role = r := by
  rw [setRole_pair]

/-- What CLOCK-HOLD leaves: role and regions silent, the sources unjudged, the entry counted (R344, R345). -/
def HeldAs (code : Nat) (s t : State) : Prop :=
    t.pair.role = .clockHold ∧ Silent t ∧ t.sup.kilnHeld = true ∧ t.sup.rickHeld = true ∧ t.sup.bankHeld = true ∧ t.sup.cordHeld = true ∧
    t.clk.lastFail = code ∧ t.clk.phase = .xt1 ∧ t.clk.xt1 = {} ∧ t.clk.pllc = {} ∧ t.clk.pllf = {} ∧ t.clk.plln = {} ∧
    t.clk.holdCount = satInc s.clk.holdCount ∧ t.clk.holds = s.now :: s.clk.holds.filter (fun x => decide (s.now - x < 3600000000000)) ∧
    (s.clk.holdLimit = false → t.clk.holdLimit = decide (3 ≤ t.clk.holds.length)) ∧
    t.pair.epoch = s.pair.epoch ∧ t.mem = s.mem ∧ t.jrn.segs = s.jrn.segs ∧ t.od.vals = s.od.vals ∧ t.ks = s.ks ∧ t.aud = s.aud ∧
    t.hw = s.hw ∧ t.upd = s.upd ∧ t.gate = s.gate

theorem heldAs_settle {code : Nat} {s u : State} (h : HeldAs code s u) : HeldAs code s (settle u) := by
  obtain ⟨hrole, ⟨hdriving, harmed, hout⟩, hkiln, hrick, hbank, hcord, hrest⟩ := h
  cases hfs : u.sup.failSilent
  · rw [settle_loud hfs]
    exact ⟨hrole, ⟨hdriving, harmed, hout⟩, hkiln, hrick, hbank, hcord, hrest⟩
  · have hstopped : settle u = { u with
        dic := leaveIdle u.dic, pair := silence u.pair, sup := { u.sup with kilnHeld := true, rickHeld := true, cordHeld := true } } := by
      simp [settle, hfs]
    rw [hstopped]
    exact ⟨hrole, ⟨rfl, rfl, rfl⟩, rfl, rfl, hbank, rfl, hrest⟩

/-- An answer judged on its settled end. -/
theorem answers_settled {o : Host.Outcome State Fault Refusal} {u : State} {post : State → Prop} (h : o = finish u) (hpost : post (settle u)) :
    Answers o post :=
  ⟨_, h, hpost⟩

theorem enterClockHold_held (code : Nat) (s : State) : HeldAs code s (settle (enterClockHold code s)) := by
  refine heldAs_settle ?_
  simp only [HeldAs, Silent]
  simp +contextual [enterClockHold, holdRegions, silence, within60]

/-- The last loop judged makes the start sequence ready. -/
theorem sourceJudged_lastLoop {s : State} (hphase : s.clk.phase = .loops) (hxt1 : s.clk.xt1.judged = true) (hpllc : s.clk.pllc.judged = true)
    (hpllf : s.clk.pllf.judged = true) :
    sourceJudged .plln s = { s with
      clk := { s.clk with phase := .ready, plln := { judged := true } }
      sup := if s.pair.role = .clockHold then
          { s.sup with atStart := s.sup.atStart ++ evRecs (if s.clk.holdLimit then 0x0702 else 0x0701) 0x00 [] }
        else s.sup } := by
  unfold sourceJudged
  simp only [hphase, hxt1, hpllc, hpllf, Bool.not_true, Bool.false_eq_true, if_false, Bool.and_self, and_self, if_true]
  by_cases hrole : s.pair.role = .clockHold
  · rw [if_pos hrole, if_pos hrole]
  · rw [if_neg hrole, if_neg hrole]

end Sys2Proof.Laws

namespace Sys2Proof.Proofs

open Sys2Proof Sys2Proof.Machine Sys2Proof.Safety Sys2Proof.Laws

/-- Settles O28: each command by its branch; every way into CLOCK-HOLD is `enterClockHold`. -/
theorem clockSourcesComplete : Obligations.ClockSourcesComplete := by
  unfold Obligations.ClockSourcesComplete
  intro held
  have hheld : held = HeldAs := rfl
  clear_value held
  subst hheld
  refine ⟨?seated, ?xt1, ?loops, ?timeout, ?fails, ?slowXt2, ?slowSirc, ?back⟩
  case seated =>
    intro s hpor hpower
    have hseated : seated s = { powerOn s with
        hw := { (powerOn s).hw with
          seated := true, seatChanged := false
          cntInsert := if s.hw.seatChanged then satInc (powerOn s).hw.cntInsert else (powerOn s).hw.cntInsert }
        sup := { (powerOn s).sup with
          atStart := if s.hw.seatChanged then (powerOn s).sup.atStart ++ evRecs 0x0C02 0x01 [] else (powerOn s).sup.atStart } } :=
      if_neg (by simp [hpor, hpower])
    exact answers_of_eq hseated rfl ⟨rfl, rfl, rfl, rfl, rfl, ⟨rfl, rfl, rfl⟩, rfl, rfl, rfl⟩
  case xt1 =>
    intro s hphase
    exact congrArg finish (if_pos hphase)
  case loops =>
    intro s hphase hxt1 hpllc hpllf
    exact congrArg finish (sourceJudged_lastLoop hphase hxt1 hpllc hpllf)
  case timeout =>
    intro s hphase hrole
    have henter : execXt1StartTimeout s = finish (enterClockHold 1 s) := congrArg finish (if_pos ⟨hphase, hrole⟩)
    exact answers_settled henter (enterClockHold_held 1 s)
  case fails =>
    intro src s hrun hrole hxt2 hsirc
    have henter (h : sourceNo src ≠ 0) : sourceFails src s = enterClockHold (sourceNo src) s := by
      simp [sourceFails, hrun.clocks, h, hrole, running_banked hrun]
    have hheld (h : sourceNo src ≠ 0) : Answers (exec (.clockSourceFailure src) s) fun t => HeldAs (sourceNo src) s t :=
      answers_settled (congrArg finish (henter h)) (enterClockHold_held _ s)
    cases src with
    | xt1 => exact hheld (by decide)
    | xt2 => exact absurd rfl hxt2
    | firc => exact hheld (by decide)
    | sirc => exact absurd rfl hsirc
    | pllc => exact hheld (by decide)
    | pllf => exact hheld (by decide)
    | plln => exact hheld (by decide)
  case slowXt2 =>
    intro s hrun
    refine answers_of_finish (u := hckInt 0 _) rfl (by simp [hckInt_eq, rtcIntBit_eq, hrun.loud]) ?_
    simp [hckInt_eq, rtcIntBit_eq, bit_setBit_same, hrun.clocks]
  case slowSirc =>
    intro s hrun
    refine answers_of_finish (u := hckInt 0 _) rfl (by simp [hckInt_eq, hrun.loud]) ?_
    simp [hckInt_eq, bit_setBit_same, hrun.clocks]
  case back =>
    intro s hrun hsirc
    have hback : sourceJudged .xt2 s = hckInt 0 (post 0x0703 0x00 [] (rtcIntBit 1
        { s with clk := { s.clk with xt2 := { judged := true } }, tim := { s.tim with onSirc := false } })) := if_pos hsirc
    refine answers_of_eq hback (by simp [hckInt_eq, rtcIntBit_eq, hrun.loud]) ?_
    simp [hckInt_eq, rtcIntBit_eq, bit_setBit_same]

end Sys2Proof.Proofs

/-! PROOF. The dictionary's writes (09 R315 to R325): a whole write that passes steps 1 to 8 reaches its meaning. -/

namespace Sys2Proof.Laws

open Sys2Proof Sys2Proof.Machine Sys2Proof.Safety

theorem writer_index {idx : Nat} (h : idx < 65536) (sub : Nat) (rq : Rq) : (writer idx sub rq).index = idx := by
  simpa [writer, clientOf, objMsg] using h

theorem writer_sub (idx : Nat) {sub : Nat} (h : sub < 256) (rq : Rq) : (writer idx sub rq).sub = sub := by
  simpa [writer, clientOf, objMsg] using h

@[simp] theorem writer_path (idx sub : Nat) (rq : Rq) : (writer idx sub rq).path = rq.path := rfl
@[simp] theorem writer_tid (idx sub : Nat) (rq : Rq) : (writer idx sub rq).tid = rq.tid := rfl

/-- Where no session holds a transfer there is none to drop. -/
theorem dropXfer_none {s : State} (h : ∀ x ∈ s.od.sessions, x.xfer = none) (n : Nat) : dropXfer n s = s := by
  have hmap : s.od.sessions.map (fun y => if y.handle = n then { y with xfer := none } else y) = s.od.sessions := by
    refine (List.map_congr_left (g := id) fun y hy => ?_).trans (List.map_id _)
    have hfree := h y hy
    split
    · show { y with xfer := none } = y
      rw [← hfree]
    · rfl
  simp [dropXfer, modSession, hmap]

/-- Where no session is revoked none is closed. -/
theorem closeRevoked_none {s : State} (h : ∀ x ∈ s.od.sessions, x.revoked = false) : closeRevoked s = s := by
  have hnone : s.od.sessions.filter (fun x => x.revoked) = [] := List.filter_eq_nil_iff.mpr (fun x hx => by simp [h x hx])
  rw [closeRevoked, closeWhere, hnone, List.foldl_nil]

/-- A request over an open connection of the service port is served. -/
theorem enter_service {p : Path} {m : SvcMsg} {f : State → State} {s : State} (hrun : Running s)
    (hconn : ∃ n, p = .service n ∧ s.od.conns.contains n = true) (hlen : m.data.length ≤ 32768) : enter p m f s = closeRevoked (f s) := by
  obtain ⟨n, rfl, hn⟩ := hconn
  simp only [enter, running_runtimeLive hrun, running_isolated hrun, hn, Bool.not_true, Bool.false_eq_true, or_self, if_false, if_neg (not_lt.mpr hlen)]

/-- A message of a whole write that passes steps 1 to 8 goes to the unit that decides it. -/
theorem svcWrite_accepted {idx sub : Nat} {rq : Rq} {e : Meta} {s : State} (hidx : idx < 65536) (hsub : sub < 256) (h : Accepted idx sub rq e s) :
    svcWrite rq.path (objMsg idx sub rq) s = routed (writer idx sub rq) e rq.value s := by
  have hentry : entryOf (writer idx sub rq).index (writer idx sub rq).sub s = some e := by
    rw [writer_index hidx, writer_sub idx hsub]; exact h.entry
  have hvalue : checkValue (writer idx sub rq).index (writer idx sub rq).sub e rq.value s = 0 := by
    rw [writer_index hidx, writer_sub idx hsub]; exact h.value
  have haccess : checkAccess (writer idx sub rq) true (objMsg idx sub rq).data s = 0 := h.access
  have hdrop : dropXfer (writer idx sub rq).session s = s := dropXfer_none (fun x hx => (h.free x hx).1) _
  have hwhole : wholeWrite (writer idx sub rq) rq.value s = routed (writer idx sub rq) e rq.value s := by
    simp only [wholeWrite, hentry, hvalue, ne_eq, not_true_eq_false, if_false]
  have hdef : svcWrite rq.path (objMsg idx sub rq) s =
      if checkAccess (writer idx sub rq) true (objMsg idx sub rq).data s ≠ 0 then
        abort (writer idx sub rq) (checkAccess (writer idx sub rq) true (objMsg idx sub rq).data s) (dropXfer (writer idx sub rq).session s)
      else match entryOf (writer idx sub rq).index (writer idx sub rq).sub s with
        | none => abort (writer idx sub rq) 0x0602 s
        | some e => writeSeg (writer idx sub rq) (objMsg idx sub rq)
            (if bit (objMsg idx sub rq).sflags 0 ∨ (objMsg idx sub rq).arg ≠ 0 then entryMax e else (objMsg idx sub rq).data.length) s := rfl
  rw [hdef, if_neg (by simp [haccess]), hentry]
  simp only [writeSeg, hdrop]
  simp [objMsg, bit, hwhole]

/-- A whole write that passes steps 1 to 8 over the service port reaches the unit that decides it. -/
theorem objCmd_accepted {idx sub : Nat} {rq : Rq} {e : Meta} {s : State} (hrun : Running s) (hidx : idx < 65536) (hsub : sub < 256)
    (h : Accepted idx sub rq e s) : objCmd idx sub rq s = closeRevoked (routed (writer idx sub rq) e rq.value s) := by
  rw [← svcWrite_accepted hidx hsub h]
  exact enter_service hrun h.conn h.length

/-- The client's DONE. -/
theorem respond_done (c : Client) (s : State) : ∃ m, (respond c 4 0 [] s).out = s.out ++ [.reply c.path m] ∧ m.op = 4 ∧ m.tid = c.tid :=
  ⟨_, rfl, rfl, rfl⟩

/-- A command entry below the exports goes to its command. -/
theorem objCmd_command {idx sub : Nat} {rq : Rq} {e : Meta} {s : State} (hrun : Running s) (hidx : idx < 0x6000) (hsub : sub < 256)
    (hvisible : visible idx sub = false) (hresume : isResume idx sub = false) (hcopied : e.copied = false) (hread : e.rd = none)
    (h : Accepted idx sub rq e s) : objCmd idx sub rq s = closeRevoked (command (askOf s (writer idx sub rq)) idx sub rq.value s) := by
  have hlow : ¬ (0x7000 ≤ idx ∧ idx ≤ 0x7FFF) := by omega
  rw [objCmd_accepted hrun (by omega) hsub h]
  simp [routed, decided, writer_index (show idx < 65536 by omega), writer_sub idx hsub, hvisible, hresume, hcopied, hread, hlow]

/-- A command that no activity and no waiting boundary holds up is done at once, and the client is told. -/
theorem objCmd_plain {idx sub : Nat} {rq : Rq} {e : Meta} {s : State} (hrun : Running s) (hidx : idx < 0x6000) (hsub : sub < 256)
    (hvisible : visible idx sub = false) (hresume : isResume idx sub = false) (hcopied : e.copied = false) (hread : e.rd = none)
    (hact : activityOf idx sub rq.value = none) (hwait : waitsFor idx sub rq.value s = none) (h : Accepted idx sub rq e s) :
    objCmd idx sub rq s = closeRevoked (tellR (askOf s (writer idx sub rq)) (plainCmd (askOf s (writer idx sub rq)).session idx sub rq.value s)) := by
  rw [objCmd_command hrun hidx hsub hvisible hresume hcopied hread h]
  simp only [command, hact, hwait]

/-- The client of an own request is told that it is done. -/
theorem tellR_done (c : Client) (s t : State) : tellR (askOf s c) (t, 0) = respond c 4 0 [] t := rfl

/-- The client of an own request is told that it is refused. -/
theorem tellR_refused (c : Client) (s t : State) {code : Nat} (h : code ≠ 0) : tellR (askOf s c) (t, code) = abort c code t := by
  simp [tellR, tellAsker, askOf, h]

end Sys2Proof.Laws

/-! PROOF. Events (11 R385 to R391): the recorder's admission, the ring in MRAM, time anchors, buckets. -/

namespace Sys2Proof.Laws

open Sys2Proof Sys2Proof.Machine Sys2Proof.Safety

-- parts of what was read ------------------------------------------------------------------------------------------------------------------

@[simp] theorem length_readBytes (m : Memory) (a n : Nat) : (readBytes m a n).length = n := by
  induction n generalizing a with
  | zero => rfl
  | succ n ih => rw [readBytes, List.length_cons, ih]

/-- Bytes read in the midst of others. -/
theorem slice_readBytes (m : Memory) (a : Nat) {off len k : Nat} (h : off + len ≤ k) : slice (readBytes m a k) off len = readBytes m (a + off) len := by
  induction k generalizing a off len with
  | zero =>
    obtain ⟨rfl, rfl⟩ : off = 0 ∧ len = 0 := by omega
    rfl
  | succ k ih =>
    cases off with
    | zero =>
      cases len with
      | zero => rfl
      | succ len =>
        have hrest := ih (a + 1) (off := 0) (len := len) (by omega)
        simp only [slice, List.drop_zero, Nat.add_zero] at hrest ⊢
        rw [readBytes, readBytes, List.take_succ_cons, hrest]
    | succ off =>
      have hrest := ih (a + 1) (off := off) (len := len) (by omega)
      simp only [slice] at hrest ⊢
      rw [readBytes, List.drop_succ_cons, hrest, show a + 1 + off = a + (off + 1) by omega]

/-- The sequence number and the code stand in front of an event's bytes. -/
theorem slice_evBytes_seq (seq : Nat) (comm : Bool) (r : EvRec) (rest : List Byte) : slice (evBytes seq comm r ++ rest) 0 6 = leBytes 6 seq := by
  simp [slice, evBytes]

theorem slice_evBytes_code (seq : Nat) (comm : Bool) (r : EvRec) (rest : List Byte) :
    slice (evBytes seq comm r ++ rest) 6 2 = leBytes 2 r.code.toNat := by
  simp [slice, evBytes, le2]

-- the buckets -----------------------------------------------------------------------------------------------------------------------------

/-- A bucket that is looked up bears its code. -/
theorem bucketOf_code (e : Evr) (code : Nat) : (bucketOf e code).code = code := by
  unfold bucketOf
  split
  next b hb => simpa using List.find?_some hb
  next => rfl

/-- The bucket that was put stands for its code. -/
theorem bucketOf_putBucket {e f : Evr} {b : Bucket} {code : Nat} (h : f.buckets = putBucket e b) (hcode : b.code = code) : bucketOf f code = b := by
  simp [bucketOf, h, putBucket, hcode]

/-- BURST, RATE and unlimited as 0x1502.01 sets them, cut to the fields that the register has. -/
theorem bucketCfg_fields {rate burst : Nat} (hr : rate < 256) (hb : burst < 256) (unlimited : Bool) :
    let c : Word := pack 32 [(31, b2n unlimited), (8, burst), (0, rate)] &&& 0x8000FFFF
    fld c 0 8 = rate ∧ fld c 8 8 = burst ∧ bit c 31 = unlimited ∧ fld (pack 32 [(31, b2n unlimited), (8, burst), (0, rate)]) 8 8 = burst := by
  intro c
  have hhigh {v i : Nat} (hv : v < 256) (hi : 8 ≤ i) : v.testBit i = false :=
    Nat.testBit_lt_two_pow (hv.trans_le (Nat.pow_le_pow_right (n := 2) (by decide) hi))
  have hmask : ∀ i < 16, bit (0x8000FFFF : Word) i = true := by decide
  have hand (i : Nat) : bit c i = (bit (pack 32 [(31, b2n unlimited), (8, burst), (0, rate)]) i && bit (0x8000FFFF : Word) i) := by
    simp only [c, bit, BitVec.toNat_and, Nat.testBit_and]
  have hburst : fld (pack 32 [(31, b2n unlimited), (8, burst), (0, rate)]) 8 8 = burst := by
    refine Nat.eq_of_testBit_eq fun i => ?_
    rw [testBit_fld]
    by_cases hi : i < 8
    · rw [bit_pack _ (by omega)]
      simp [hi, show ¬ 31 ≤ 8 + i by omega, hhigh hr (show 8 ≤ 8 + i by omega)]
    · simp [hi, hhigh hb (not_lt.mp hi)]
  refine ⟨Nat.eq_of_testBit_eq fun i => ?_, (Nat.eq_of_testBit_eq fun i => ?_ : fld c 8 8 = fld _ 8 8).trans hburst, ?_, hburst⟩
  · rw [testBit_fld]
    by_cases hi : i < 8
    · rw [hand, hmask _ (by omega), bit_pack _ (by omega)]
      simp [hi, show ¬ 31 ≤ i by omega, show ¬ 8 ≤ i by omega]
    · simp [hi, hhigh hr (not_lt.mp hi)]
  · rw [testBit_fld, testBit_fld]
    by_cases hi : i < 8
    · rw [hand, hmask _ (by omega), Bool.and_true]
    · simp [hi]
  · rw [hand, bit_pack _ (by decide), show bit (0x8000FFFF : Word) 31 = true by decide]
    simp [b2n_testBit, hhigh hr, hhigh hb, -Nat.testBit_zero]

/-- A bucket whose configuration is set keeps its tokens, cut to the new BURST. -/
def rebuilt (b : Bucket) (cfg : Word) (now : Nat) : Bucket :=
  { b with cfg := cfg &&& 0x8000FFFF, nano := min (bucketNano b now) (burstOf cfg * 1000000000), at_ := now }

theorem rebuilt_suppressed (b : Bucket) (cfg : Word) (now : Nat) : (rebuilt b cfg now).suppressed = b.suppressed := rfl

theorem bucketNano_rebuilt {b : Bucket} {cfg : Word} (now : Nat) (h : fld (cfg &&& 0x8000FFFF) 8 8 = fld cfg 8 8) :
    bucketNano (rebuilt b cfg now) now = min (bucketNano b now) (burstOf cfg * 1000000000) := by
  have hburst : burstOf (cfg &&& 0x8000FFFF) = burstOf cfg := by rw [burstOf, burstOf, h]
  have hcut : bucketNano (rebuilt b cfg now) now = min (burstOf (cfg &&& 0x8000FFFF) * 1000000000)
      (min (bucketNano b now) (burstOf cfg * 1000000000) + fld (cfg &&& 0x8000FFFF) 0 8 * (now - now)) := rfl
  rw [hcut, hburst, Nat.sub_self, Nat.mul_zero, Nat.add_zero]
  omega

/-- What 0x1502.01 does to the bucket of its code. -/
theorem bucketOf_bucketObj {v : List Byte} {code rate : Nat} {burst : Byte} (s : State) (hcode : leAt v 0 2 = code) (hrate : leAt v 2 1 = rate)
    (hburst : leAt v 3 1 = burst.toNat) :
    bucketOf (bucketObj v s).evr code =
      rebuilt (bucketOf s.evr code) (pack 32 [(31, b2n (burst == 0)), (8, burst.toNat), (0, rate)]) s.now := by
  have hzero : (burst.toNat == 0) = (burst == 0) := by
    rw [Bool.eq_iff_iff, beq_iff_eq, beq_iff_eq]
    exact ⟨fun h => BitVec.eq_of_toNat_eq h, fun h => congrArg BitVec.toNat h⟩
  rw [bucketObj, hcode, hrate, hburst, hzero]
  exact bucketOf_putBucket (e := s.evr) rfl (bucketOf_code _ _)

/-- The registers of that bucket. -/
theorem bucketObj_fields {v : List Byte} {code rate : Nat} {burst : Byte} (s : State) (hcode : leAt v 0 2 = code) (hrate : leAt v 2 1 = rate)
    (hr : rate < 256) (hburst : leAt v 3 1 = burst.toNat) :
    fld (bucketOf (bucketObj v s).evr code).cfg 0 8 = rate ∧ fld (bucketOf (bucketObj v s).evr code).cfg 8 8 = burst.toNat ∧
      bit (bucketOf (bucketObj v s).evr code).cfg 31 = (burst == 0) ∧
      bucketNano (bucketOf (bucketObj v s).evr code) s.now = min (bucketNano (bucketOf s.evr code) s.now) (max 1 burst.toNat * 1000000000) ∧
      (bucketOf (bucketObj v s).evr code).suppressed = (bucketOf s.evr code).suppressed := by
  obtain ⟨hrateIn, hburstIn, hunlimited, hpacked⟩ := bucketCfg_fields hr burst.isLt (burst == 0)
  have htokens := bucketNano_rebuilt (b := bucketOf s.evr code) s.now (hburstIn.trans hpacked.symm)
  rw [burstOf, hpacked] at htokens
  rw [bucketOf_bucketObj s hcode hrate hburst]
  exact ⟨hrateIn, hburstIn, hunlimited, htokens, rfl⟩

-- the admission -----------------------------------------------------------------------------------------------------------------------------

/-- A record that both buckets and the queue have room for. -/
theorem evrTake_room {e : Evr} {now code : Nat} (r : EvRec) (hcode : 1000000000 ≤ bucketNano (bucketOf e code) now)
    (hglobal : 1000000000 ≤ globalNano e now) (hroom : e.queue.length < 64) :
    (evrTake e now code [r]).queue = e.queue ++ [r] ∧ (evrTake e now code [r]).lost = e.lost ∧
      (evrTake e now code [r]).suppressed = e.suppressed ∧ (evrTake e now code [r]).head = e.head ∧
      (evrTake e now code [r]).lossCount = e.lossCount ∧
      (evrTake e now code [r]).gNano = globalNano e now - (if evFree code then 0 else 1000000000) := by
  have hroom' : ¬ 64 < e.queue.length + 1 := by omega
  cases hfree : evFree code
  · simp [evrTake, hfree, not_lt.mpr hcode, not_lt.mpr hglobal, hroom']
  · simp [evrTake, hfree, hroom']

/-- A record that no bucket limits, where the queue has room. -/
theorem evrTake_free {e : Evr} {now code : Nat} (r : EvRec) (hfree : evFree code = true) (hroom : e.queue.length < 64) :
    evrTake e now code [r] = { e with gNano := globalNano e now, gAt := now, queue := e.queue ++ [r] } := by
  simp [evrTake, hfree, show ¬ 64 < e.queue.length + 1 by omega]

/-- A record whose code has no token. -/
theorem evrTake_suppressed {e : Evr} {now code : Nat} (r : EvRec) (hrlen : e.rlen = true) (hfree : evFree code = false)
    (hlimited : bit (bucketOf e code).cfg 31 = false) (hempty : bucketNano (bucketOf e code) now < 1000000000) :
    evrTake e now code [r] =
      { e with
        buckets := putBucket e { bucketOf e code with
          nano := bucketNano (bucketOf e code) now, at_ := now, suppressed := (bucketOf e code).suppressed + 1 }
        suppressed := satAdd e.suppressed 1
        intStatus := setBit e.intStatus 0 } := by
  simp [evrTake, hrlen, hfree, hlimited, hempty]

/-- A record that finds the queue full. -/
theorem evrTake_full {e : Evr} {now code : Nat} (r : EvRec) (hcode : 1000000000 ≤ bucketNano (bucketOf e code) now)
    (hglobal : 1000000000 ≤ globalNano e now) (hfull : e.queue.length = 64) :
    (evrTake e now code [r]).queue = e.queue ∧ (evrTake e now code [r]).lost = satAdd e.lost 1 ∧
      bit (evrTake e now code [r]).intStatus 1 = true := by
  simp [evrTake, not_lt.mpr hcode, not_lt.mpr hglobal, hfull, bit_setBit_same]

theorem satAdd_one {n : Nat} (w : BitVec n) : satAdd w 1 = satInc w := by
  have hw := w.isLt
  by_cases hmax : w = BitVec.allOnes n
  · rw [satAdd, satInc, if_pos hmax, if_neg, hmax]
    rw [hmax, BitVec.toNat_allOnes]
    omega
  · have hne : w.toNat ≠ 2 ^ n - 1 := fun h => hmax (BitVec.eq_of_toNat_eq (h.trans BitVec.toNat_allOnes.symm))
    rw [satAdd, satInc, if_neg hmax, if_pos (by omega)]
    exact BitVec.eq_of_toNat_eq (by simp)

/-- Data of one record. -/
theorem evRecs_short (code : Nat) (block : Byte) {data : List Byte} (h : data.length ≤ 14) :
    evRecs code block data = [{ code := BitVec.ofNat 16 code, block := block, cont := false, data := fit 14 data }] := by
  have hdata : slice data (14 * 0) 14 = data := by simp [slice, List.take_of_length_le h]
  have hlong : data.length ≤ 28 := by omega
  simp only [evRecs, hdata, h, hlong, if_true, List.append_nil]

/-- Interrupt bits that stay ring nothing. -/
theorem rings_same (w mask : Word) : rings w w mask = false := by
  have hnone : w &&& mask &&& ~~~w = 0 := by
    rw [BitVec.and_comm w mask, BitVec.and_assoc, BitVec.and_not_self]
    exact BitVec.and_zero
  simp [rings, hnone]

/-- A posting through a window in a running module goes to the recorder's admission. -/
theorem running_postRecs {s : State} (h : Running s) (code : Nat) (rs : List EvRec) :
    postRecs code rs s = { s with
      evr := evrTake s.evr s.now code rs
      dic := if rings s.evr.intStatus (evrTake s.evr s.now code rs).intStatus (evrTake s.evr s.now code rs).intMask
        then dicAccept s.dic s.now 78 else s.dic } := by
  simp [postRecs, h.bank, h.rick, running_isolated h]

/-- The record that a window posts. -/
def windowRec (w : Nat) (word : Word) (s : State) : EvRec :=
  { code := BitVec.ofNat 16 (fld word 0 16), block := if w = 1 then 0x4A else if w = 2 then 0x80 else BitVec.ofNat 8 (fld word 16 8)
    cont := bit word 31, data := ((s.evr.windows.getD w {}).data.flatMap (fun x => le4 x.toNat)).take 14 }

/-- A posting through a window that its level and its code allow. -/
theorem execEventPosting_allowed {w : Nat} {level : Level} {word : Word} (s : State) (hlevel : w = 0 → level = .m) (hw : w ≤ 2)
    (hcode : fld word 0 16 ≤ 0x0FFF) : execEventPosting w level word s = finish (postRecs (fld word 0 16) [windowRec w word s] s) := by
  refine congrArg finish (if_neg ?_)
  rintro (⟨hzero, hnotM⟩ | hhigh | hlarge)
  · exact hnotM (hlevel hzero)
  · omega
  · omega

end Sys2Proof.Laws

namespace Sys2Proof.Proofs

open Sys2Proof Sys2Proof.Machine Sys2Proof.Safety Sys2Proof.Laws

/-- Settles O31: the postings by what the recorder's admission does with them, the ring by the write of its slot, 0x1502.01 through the dictionary. -/
theorem eventsComplete : Obligations.EventsComplete := by
  unfold Obligations.EventsComplete
  intro record limited
  refine ⟨?taken, ?suppressed, ?lost, ?ignored, ?written, ?anchored, ?bucket⟩
  case taken =>
    intro w level word s hrun hlevel hw hcode htokens hglobal hroom
    have hpost := (execEventPosting_allowed s hlevel hw hcode).trans (congrArg finish (running_postRecs hrun _ _))
    refine answers_of_finish hpost hrun.loud ?_
    obtain ⟨hqueue, hlost, hsuppressed, hhead, -, hnano⟩ := evrTake_room (windowRec w word s) htokens hglobal hroom
    exact ⟨hqueue, hlost, hsuppressed, hhead, hnano, rfl⟩
  case suppressed =>
    intro level word s hrun hcode ⟨hrlen, hfree, hlimited⟩ hempty
    have hpost := (execEventPosting_allowed (w := 1) (level := level) s (fun h => absurd h (by decide)) (by decide) hcode).trans
      (congrArg finish (running_postRecs hrun _ _))
    rw [evrTake_suppressed (windowRec 1 word s) hrlen hfree hlimited hempty] at hpost
    refine answers_of_finish hpost hrun.loud ⟨rfl, satAdd_one _, bit_setBit_same _ (by decide), ?_, rfl, rfl, rfl⟩
    exact congrArg Bucket.suppressed (bucketOf_putBucket (e := s.evr) (b := { bucketOf s.evr (fld word 0 16) with
      nano := bucketNano (bucketOf s.evr (fld word 0 16)) s.now, at_ := s.now
      suppressed := (bucketOf s.evr (fld word 0 16)).suppressed + 1 }) rfl (bucketOf_code _ _))
  case lost =>
    intro level word s hrun hcode htokens hglobal hfull
    have hpost := (execEventPosting_allowed (w := 2) (level := level) s (fun h => absurd h (by decide)) (by decide) hcode).trans
      (congrArg finish (running_postRecs hrun _ _))
    obtain ⟨hqueue, hlost, hint⟩ := evrTake_full (windowRec 2 word s) htokens hglobal hfull
    exact answers_of_finish hpost hrun.loud ⟨hqueue, hlost.trans (satAdd_one _), hint, rfl⟩
  case ignored =>
    intro w level word s hrun h
    refine finish_of_eq (if_pos ?_) hrun.loud
    rcases h with h | h
    · exact .inl h
    · exact .inr (.inr h)
  case written =>
    intro r rs s hrun hsup hqueue h1 h2 h3
    have hwrite : execEventRecordWritten s = finish (writeEvent r { s with evr := { s.evr with queue := rs } }) := by
      simp [execEventRecordWritten, hrun.bank, running_isolated hrun, hsup, hqueue]
    have hsupKept : writeEvent r { s with evr := { s.evr with queue := rs } } = { s with
        mem := writeBytes s.mem (slotAddr s.evr.head) (evBytes s.evr.head s.mnt.comm r ++ le4 evValid)
        evr := { s.evr with queue := rs, head := (s.evr.head + 1) % 2 ^ 48 } } := by
      simp only [writeEvent, h1, h2, h3, or_self, if_false]
    rw [hsupKept] at hwrite
    have hlen : (evBytes s.evr.head s.mnt.comm r ++ le4 evValid).length = 32 := by
      simp [evBytes, le2, le4, u8]
    refine answers_of_finish hwrite hrun.loud ⟨rfl, fun hwf => ?_, fun b hb => ?_, rfl⟩
    · have hback := readBytes_writeBytes hwf (slotAddr s.evr.head) (evBytes s.evr.head s.mnt.comm r ++ le4 evValid)
      rw [hlen] at hback
      have hseq := slice_readBytes (writeBytes s.mem (slotAddr s.evr.head) (evBytes s.evr.head s.mnt.comm r ++ le4 evValid)) (slotAddr s.evr.head)
        (off := 0) (len := 6) (k := 32) (by decide)
      have hcode := slice_readBytes (writeBytes s.mem (slotAddr s.evr.head) (evBytes s.evr.head s.mnt.comm r ++ le4 evValid)) (slotAddr s.evr.head)
        (off := 6) (len := 2) (k := 32) (by decide)
      rw [hback, slice_evBytes_seq] at hseq
      rw [hback, slice_evBytes_code] at hcode
      refine ⟨hback, ?_, ?_⟩
      · exact (congrArg leNat hseq.symm).trans (leNat_leBytes _ _)
      · refine (congrArg leNat hcode.symm).trans ((leNat_leBytes _ _).trans ?_)
        exact Nat.mod_eq_of_lt r.code.isLt
    · exact readByte_writeBytes_other s.mem _ (by rw [hlen]; exact hb)
  case anchored =>
    intro s hrun hcodes hloss hroom
    have hanchor : anchor s = { s with
        evr := { s.evr with gNano := globalNano s.evr s.now, gAt := s.now, queue := s.evr.queue ++
          [{ code := 0x0010, block := 0x63, cont := false, data := fit 14 (le8 s.tim.time.toNat ++ u8 s.tim.source) }] } } := by
      have hrecs := evRecs_short 0x0010 0x63 (data := le8 s.tim.time.toNat ++ u8 s.tim.source) (by simp [le8, u8])
      rw [anchor, running_post hrun, hrecs, evrTake_free _ rfl hroom, rings_same]
      rfl
    have hdone : execTimeAnchor s = finish (anchor s) := by
      refine congrArg finish ((if_neg (by simp [hrun.bank, running_isolated hrun])).trans ?_)
      have hsame : suppressedCodes (anchor s).evr = [] := by rw [hanchor]; exact hcodes
      have hnoloss : (anchor s).evr.lossCount = 0 := by rw [hanchor]; exact hloss
      show lossRecord (suppress 64 (suppressedCodes (anchor s).evr) (anchor s)) = anchor s
      rw [hsame]
      exact if_pos (.inl hnoloss)
    rw [hanchor] at hdone
    exact answers_of_finish hdone hrun.loud ⟨rfl, rfl, rfl, rfl⟩
  case bucket =>
    intro rq mt lo hi rate burst s hrun hacc hvalue
    have hmeta : mt = { ty := .oct 4, rd := none, wr := some 2, lo := 0, hi := 0 } := Option.some.inj (hacc.entry.symm.trans rfl)
    have hset : objCmd 0x1502 1 rq s = respond (writer 0x1502 1 rq) 4 0 [] (bucketObj rq.value s) := by
      rw [objCmd_plain hrun (by decide) (by decide) rfl rfl (by rw [hmeta]) (by rw [hmeta]) rfl rfl hacc]
      exact closeRevoked_none fun x hx => (hacc.free x hx).2
    have hvals : leAt rq.value 0 2 = lo.toNat + 256 * hi.toNat ∧ leAt rq.value 2 1 = rate.toNat ∧ leAt rq.value 3 1 = burst.toNat := by
      simp [hvalue, leAt, slice, leNat]
    obtain ⟨hcode, hrate, hburst⟩ := hvals
    obtain ⟨hrateIs, hburstIs, hunlimited, htokens, hsuppressed⟩ := bucketObj_fields s hcode hrate rate.isLt hburst
    exact answers_of_eq hset hrun.loud ⟨hrateIs, hburstIs, hunlimited, htokens, hsuppressed, rfl, respond_done _ _⟩

end Sys2Proof.Proofs

/-! PROOF. Cord's mailbox (07 R240 to R252): the frame of every operation, and the order of checks of OBJ_WRITE. -/

namespace Sys2Proof.Laws

open Sys2Proof Sys2Proof.Machine Sys2Proof.Safety

-- the frame of an operation -------------------------------------------------------------------------------------------------------------

/-- The state in which an operation runs: its request is the one taken, or else the next (R241). -/
def mbxTaken (s : State) : State :=
  { s with cord := { s.cord with
      reqDoor := if s.cord.busy then s.cord.reqDoor else mbxSeq s
      busy := true
      mbxReq := mbxSeq s } }

/-- The answer to what an operation has left: header and data in the mailbox, the door, source 72. -/
def mbxReplied (op : Nat) (r : MbxRes) (t : State) : State :=
  ring 72 { t with
    mem := writeBytes t.mem (mbxBase + 0x8000) (mbxReply t.cord.mbxReq op r)
    cord := { t.cord with rspDoor := t.cord.mbxReq, busy := false, rspUnread := true } }

/-- Of the request nothing else depends than door and number. -/
theorem mbxTaken_of_busy {s : State} (h : s.cord.busy = true) : mbxTaken s = s := by
  have hseq : mbxSeq s = s.cord.mbxReq := if_pos h
  simp only [mbxTaken, hseq, h, if_true]
  rw [← h]

theorem mbxTaken_of_idle {s : State} (h : s.cord.busy = false) :
    mbxTaken s = { s with cord := { s.cord with reqDoor := s.cord.rspDoor + 1, busy := true, mbxReq := s.cord.rspDoor + 1 } } := by
  simp [mbxTaken, mbxSeq, h]

/-- An operation of a live Cord that leaves the request taken is answered. -/
theorem mbxExec_replied {op : Nat} {f : MbxRq → State → State × MbxRes} {m : MbxRq} {s t : State} {r : MbxRes} (hlive : cordLive s = true)
    (hf : f m (mbxTaken s) = (t, r)) (hbusy : t.cord.busy = true) : mbxExec op f m s = mbxReplied op r t := by
  have htaken : (if s.cord.busy then s
      else { s with cord := { s.cord with reqDoor := s.cord.rspDoor + 1, busy := true, mbxReq := s.cord.rspDoor + 1 } }) = mbxTaken s := by
    split
    next h => exact (mbxTaken_of_busy h).symm
    next h => exact (mbxTaken_of_idle (Bool.eq_false_of_not_eq_true h)).symm
  simp only [mbxExec, hlive, if_true, mbxRun, htaken, hf, mbxRsp, hbusy, true_and]
  rfl

theorem mbxDone_eq (op : Nat) (r : MbxRes) (u : State) : mbxDone op r u = mbxReplied op r (mbxTaken u) := by
  unfold mbxDone mbxReplied mbxTaken
  dsimp only

/-- An operation that acts beside the mailbox. -/
theorem mbxExec_done {op : Nat} {f : MbxRq → State → State × MbxRes} {m : MbxRq} {s u : State} {r : MbxRes} (hlive : cordLive s = true)
    (hf : f m (mbxTaken s) = (mbxTaken u, r)) : mbxExec op f m s = mbxDone op r u := by
  rw [mbxExec_replied hlive hf rfl, mbxDone_eq]

/-- The answer stands in the mailbox under its number. -/
theorem mbxReplied_answered {op : Nat} {r : MbxRes} {s t : State} {d : Dic} (hreq : t.cord.mbxReq = mbxSeq s) (hwf : s.mem.wf = true → t.mem.wf = true) :
    MbxAnswered op r s { mbxReplied op r t with dic := d } := by
  have hlen : (mbxReply t.cord.mbxReq op r).length = 32 + r.data.length := by
    simp [mbxReply, le2, le4, le8, zeros]
    omega
  have hback (h : s.mem.wf = true) := readBytes_writeBytes (hwf h) (mbxBase + 0x8000) (mbxReply t.cord.mbxReq op r)
  rw [hlen] at hback
  rw [hreq] at hback
  have hmem : ({ mbxReplied op r t with dic := d } : State).mem = writeBytes t.mem (mbxBase + 0x8000) (mbxReply (mbxSeq s) op r) := by
    simp only [mbxReplied, ring_mem, hreq]
  refine ⟨rfl, hreq, rfl, fun h => ?_⟩
  rw [hmem]
  exact hback h

theorem mbxReplied_loud {op : Nat} {r : MbxRes} {t : State} (h : t.sup.failSilent = false) : (mbxReplied op r t).sup.failSilent = false := h

/-- Cord's firmware runs, so the operation is done. -/
theorem booted_running {f : MbxRq → State → State × MbxRes} {m : MbxRq} {s : State} (h : s.cord.ilock = true) :
    booted f m (mbxTaken s) = f m (mbxTaken s) := if_pos h

/-- An operation of Cord's firmware that has left `t` with answer `r`, and what then holds. -/
theorem answers_booted {op : Nat} {f : MbxRq → State → State × MbxRes} {m : MbxRq} {s t : State} {r : MbxRes} {post : State → Prop}
    {o : Host.Outcome State Fault Refusal} (ho : o = finish (mbxExec op (booted f) m s)) (hrun : Running s) (hilock : s.cord.ilock = true)
    (hf : f m (mbxTaken s) = (t, r)) (hbusy : t.cord.busy = true) (hloud : t.sup.failSilent = false)
    (hpost : post { mbxReplied op r t with dic := leaveIdle (mbxReplied op r t).dic }) : Answers o post := by
  refine answers_of_finish (ho.trans (congrArg finish ?_)) (mbxReplied_loud hloud) hpost
  exact mbxExec_replied (running_cordLive hrun) ((booted_running hilock).trans hf) hbusy

-- OBJ_WRITE ------------------------------------------------------------------------------------------------------------------------------

/-- The checks of OBJ_WRITE past the session's (R252): the object, its channel, the value, the trail. -/
def objectCode (m : MbxRq) (s : State) : Nat :=
  match legalAt (m.arg0.toNat / 256) (m.arg0.toNat % 256) with
  | none => 0x2507
  | some (n, j, mt) =>
    if chanSt s n = .inService then 0x2107
    else if m.data.length ≠ 8 ∨ legalFits j (m.arg0.toNat % 256) mt (leAt m.data 0 8) = false then 0x0609
    else if 4 ≤ audState s ∨ s.aud.inited = false then 0x2503
    else if 2 ≤ audState s then 0x2502 else 0

/-- The session's checks in their order. -/
theorem gateVerifier_code (m : MbxRq) (s : State) :
    gateVerifier m s = if s.cord.sess.map (fun v => v.handle) ≠ some m.session then 0x2505
      else if serviceOnly s then 0x0603 else if s.cord.vmode = false then 0x2501 else 0 := by
  unfold gateVerifier
  cases s.cord.vmode <;> rfl

/-- A refused OBJ_WRITE leaves legal objects and audit trail, mailbox and memory. -/
structure Untouched (s u : State) : Prop where
  legal : u.legal = s.legal
  aud : u.aud = s.aud
  cord : u.cord = s.cord
  mem : u.mem = s.mem
  sup : u.sup.failSilent = s.sup.failSilent

theorem Untouched.refl (s : State) : Untouched s s := ⟨rfl, rfl, rfl, rfl, rfl⟩

/-- The first failing check past the session's is the status. -/
theorem opObjWrite_object {m : MbxRq} {s : State} (hgate : gateVerifier m s = 0) (h : objectCode m s ≠ 0) :
    ∃ u, opObjWrite m s = (u, { status := objectCode m s }) ∧ Untouched s u := by
  unfold objectCode at h ⊢
  unfold opObjWrite
  rw [if_neg (not_not.mpr hgate)]
  cases hlegal : legalAt (m.arg0.toNat / 256) (m.arg0.toNat % 256) with
  | none => exact ⟨s, rfl, .refl s⟩
  | some x =>
    obtain ⟨n, j, mt⟩ := x
    simp only [hlegal] at h ⊢
    by_cases hservice : chanSt s n = .inService
    · simp only [if_pos hservice]
      exact ⟨_, rfl, by simp [cordPost], by simp [cordPost], by simp [cordPost], by simp [cordPost], by simp [cordPost]⟩
    simp only [if_neg hservice] at h ⊢
    by_cases hfits : m.data.length ≠ 8 ∨ legalFits j (m.arg0.toNat % 256) mt (leAt m.data 0 8) = false
    · have hbad : m.data.length ≠ 8 ∨ (!legalFits j (m.arg0.toNat % 256) mt (leAt m.data 0 8)) = true := by simpa using hfits
      simp only [if_pos hfits, if_pos hbad]
      exact ⟨s, rfl, .refl s⟩
    · have hgood : ¬ (m.data.length ≠ 8 ∨ (!legalFits j (m.arg0.toNat % 256) mt (leAt m.data 0 8)) = true) := by simpa using hfits
      have htrail : trailTakes s = if 4 ≤ audState s ∨ s.aud.inited = false then 0x2503 else if 2 ≤ audState s then 0x2502 else 0 := by
        simp [trailTakes]
      simp only [if_neg hfits, if_neg hgood, ← htrail] at h ⊢
      rw [if_pos h]
      exact ⟨s, rfl, .refl s⟩

/-- What passes all of these checks. -/
theorem objectCode_passed {m : MbxRq} {s : State} (h : objectCode m s = 0) :
    ∃ n j mt, legalAt (m.arg0.toNat / 256) (m.arg0.toNat % 256) = some (n, j, mt) ∧ chanSt s n ≠ .inService ∧ m.data.length = 8 ∧
      legalFits j (m.arg0.toNat % 256) mt (leAt m.data 0 8) = true ∧ trailTakes s = 0 := by
  unfold objectCode at h
  cases hlegal : legalAt (m.arg0.toNat / 256) (m.arg0.toNat % 256) with
  | none => simp [hlegal] at h
  | some x =>
    obtain ⟨n, j, mt⟩ := x
    simp only [hlegal] at h
    by_cases hservice : chanSt s n = .inService
    · simp [hservice] at h
    by_cases hfits : m.data.length ≠ 8 ∨ legalFits j (m.arg0.toNat % 256) mt (leAt m.data 0 8) = false
    · simp [hservice, hfits] at h
    · simp only [if_neg hservice, if_neg hfits] at h
      rw [not_or, not_not, Bool.not_eq_false] at hfits
      exact ⟨n, j, mt, rfl, hservice, hfits.1, hfits.2, by simpa [trailTakes] using h⟩

/-- A write of the value held passes all checks and is answered with RES0 1. -/
theorem opObjWrite_same {m : MbxRq} {s : State} (hgate : gateVerifier m s = 0) (h : objectCode m s = 0)
    (hsame : legalVal s.legal (m.arg0.toNat / 256) (m.arg0.toNat % 256) = leAt m.data 0 8) :
    opObjWrite m s = (s, { status := 0, res0 := 1 }) := by
  obtain ⟨n, j, mt, hlegal, hservice, hlen, hfits, htrail⟩ := objectCode_passed h
  simp [opObjWrite, hgate, hlegal, hservice, hlen, hfits, htrail, hsame]

/-- The session's checks see nothing of the request. -/
theorem gateVerifier_taken (m : MbxRq) (s : State) : gateVerifier m (mbxTaken s) = gateVerifier m s := rfl

theorem objectCode_taken (m : MbxRq) (s : State) : objectCode m (mbxTaken s) = objectCode m s := rfl

end Sys2Proof.Laws

namespace Sys2Proof.Proofs

open Sys2Proof Sys2Proof.Machine Sys2Proof.Safety Sys2Proof.Laws

/-- Settles O50: the session's checks come first, then the object's; what they refuse is answered with their code. -/
theorem legalWriteOrder : Obligations.LegalWriteOrder := by
  intro m s hrun hilock index sub code
  have hcode : code = if gateVerifier m s ≠ 0 then gateVerifier m s else objectCode m s := by
    have hgate := gateVerifier_code m s
    by_cases hsess : s.cord.sess.map (fun v => v.handle) ≠ some m.session
    · rw [if_pos hsess] at hgate
      refine (if_pos hsess).trans ?_
      rw [hgate]
      rfl
    rw [if_neg hsess] at hgate
    refine (if_neg hsess).trans ?_
    by_cases hservice : serviceOnly s = true
    · rw [if_pos hservice] at hgate
      refine (if_pos hservice).trans ?_
      rw [hgate]
      rfl
    rw [if_neg hservice] at hgate
    refine (if_neg hservice).trans ?_
    by_cases hvmode : s.cord.vmode = false
    · rw [if_pos hvmode] at hgate
      refine (if_pos hvmode).trans ?_
      rw [hgate]
      rfl
    rw [if_neg hvmode] at hgate
    refine (if_neg hvmode).trans ?_
    rw [hgate]
    rfl
  clear_value code
  subst hcode
  have hanswer {u : State} {r : MbxRes} (hop : opObjWrite m (mbxTaken s) = (u, r)) (hu : Untouched (mbxTaken s) u) :
      Answers (exec (.objWrite m) s) fun t => MbxAnswered 0x0012 r s t ∧ t.legal = s.legal ∧ t.aud = s.aud := by
    refine answers_booted (o := exec (.objWrite m) s) rfl hrun hilock hop ?_ (hu.sup.trans hrun.loud) ⟨mbxReplied_answered ?_ fun h => ?_, ?_, ?_⟩
    · rw [hu.cord]; rfl
    · rw [hu.cord]; rfl
    · rw [hu.mem]; exact h
    · exact (by simp [mbxReplied] : (mbxReplied 0x0012 r u).legal = u.legal).trans hu.legal
    · exact (by simp [mbxReplied] : (mbxReplied 0x0012 r u).aud = u.aud).trans hu.aud
  refine ⟨fun h => ?_, fun h hsame => ?_⟩
  · by_cases hgate : gateVerifier m s = 0
    · rw [if_neg (not_not.mpr hgate)] at h ⊢
      obtain ⟨u, hop, hu⟩ := opObjWrite_object (s := mbxTaken s) hgate h
      exact hanswer hop hu
    · rw [if_pos hgate] at h ⊢
      exact hanswer (if_pos hgate) (.refl _)
  · have hgate : gateVerifier m s = 0 := by
      by_contra hne
      rw [if_pos hne] at h
      exact hne h
    rw [if_neg (not_not.mpr hgate)] at h
    exact hanswer (opObjWrite_same (s := mbxTaken s) hgate h hsame) (.refl _)

end Sys2Proof.Proofs

/-! PROOF. Cord's mailbox (07): a write by a Verifier while the audit trail is damaged. -/

namespace Sys2Proof.Laws

open Sys2Proof Sys2Proof.Machine Sys2Proof.Safety

/-- A running module with Cord's firmware, a Verifier session in verification mode, and an audit trail that is initialised but damaged. -/
def damagedTrail : State :=
  { started with
    cord := { started.cord with ilock := true, session := true, vmode := true, switchSet := true, sess := some { handle := 1, slot := 0, actor := 5 } }
    aud := { started.aud with inited := true, damaged := true } }

theorem running_damagedTrail : Running damagedTrail := ⟨rfl, rfl, rfl, rfl, rfl, rfl, rfl, rfl, rfl, rfl, rfl, rfl⟩

/-- The Verifier writes 3 to entry 0x7000.02. -/
def verifierWrite : MbxRq := { session := 1, arg0 := 0x700002, arg1 := 0, data := [3, 0, 0, 0, 0, 0, 0, 0] }

end Sys2Proof.Laws

namespace Sys2Proof.Proofs

open Sys2Proof Sys2Proof.Machine Sys2Proof.Safety Sys2Proof.Laws

/-- Refutes O23: a trail that is initialised and takes entries may still be damaged, and then OBJ_WRITE is refused with 0x2503 and appends nothing. -/
theorem not_mailboxComplete : ¬ Obligations.MailboxComplete := by
  intro h
  obtain ⟨-, -, -, -, -, -, -, -, hwrite, -⟩ := h
  obtain ⟨t, ht, -, -, hused, -⟩ := hwrite verifierWrite 0 0 _ damagedTrail ⟨running_damagedTrail, rfl⟩ rfl rfl (by decide) rfl (by decide)
    ⟨by decide, by decide⟩ (by decide)
  obtain ⟨u, hu, -, -, haud⟩ := (legalWriteOrder verifierWrite damagedTrail running_damagedTrail rfl).1 (by decide)
  obtain rfl : t = u := Host.Outcome.next.inj (ht.symm.trans hu)
  rw [haud] at hused
  exact absurd hused (by decide)

end Sys2Proof.Proofs

/-! PROOF. The audit engine (07 R255 to R269): an append taken, an append refused, the levels of R261. -/

namespace Sys2Proof.Laws

open Sys2Proof Sys2Proof.Machine Sys2Proof.Safety

/-- The state after the append of a staged entry: the entry in its slot, the engine's registers moved on. -/
def audEntered (stage : List Byte) (s : State) : State :=
  let e := entryBytes stage (s.aud.used + 1) (s.aud.sealNo.toNat + b2n (counts (leAt stage 4 1))) (timeNs s) s.aud.lastCrc.toNat
  { s with
    mem := writeBytes s.mem (entryAddr (s.aud.used + 1)) e
    aud := { s.aud with
      used := s.aud.used + 1
      sealNo := BitVec.ofNat 32 (s.aud.sealNo.toNat + b2n (counts (leAt stage 4 1)))
      lastCrc := BitVec.ofNat 32 (leAt e 56 4)
      result := 0
      intStatus := setBit s.aud.intStatus 0 } }

/-- An append that no rule refuses. -/
theorem audWrite_open {stage : List Byte} {s : State} (h : TrailOpen (leAt stage 4 1) s) : audWrite stage true s = (audEntered stage s, 0) := by
  simp only [audWrite, h.1]
  rfl

/-- An append that a rule refuses stores nothing. -/
theorem audWrite_refused {stage : List Byte} {s : State} (mramOk : Bool) (h : audRefuse (leAt stage 4 1) s ≠ 0) :
    audWrite stage mramOk s = ({ s with aud := { s.aud with
      result := audRefuse (leAt stage 4 1) s, intStatus := setBit s.aud.intStatus 0 } }, audRefuse (leAt stage 4 1) s) := by
  unfold audWrite
  dsimp only
  split
  next hzero => exact absurd hzero h
  next => rfl

/-- Below the levels of R261 nothing is posted. -/
theorem audLevels_low {s : State} (before : Nat) (h : s.aud.used < 124519) : audLevels before s = s := by
  have hmax : audMax = 131072 := rfl
  simp only [audLevels, if_neg (show ¬ (before < 124519 ∧ 124519 ≤ s.aud.used) by omega),
    if_neg (show ¬ (before < 130816 ∧ 130816 ≤ s.aud.used) by omega), if_neg (show ¬ (before < audMax ∧ s.aud.used = audMax) by omega)]

/-- Where the trail has not grown no level is passed. -/
theorem audLevels_same {s : State} {before : Nat} (h : before = s.aud.used) : audLevels before s = s := by
  simp only [audLevels, if_neg (show ¬ (before < 124519 ∧ 124519 ≤ s.aud.used) by omega),
    if_neg (show ¬ (before < 130816 ∧ 130816 ≤ s.aud.used) by omega), if_neg (show ¬ (before < audMax ∧ s.aud.used = audMax) by omega)]

/-- The kind of an entry that Cord stages. -/
theorem stageOf_kind (s : State) {kind : Nat} (hk : kind < 256) (ch index sub typ old new actor : Nat) :
    leAt (stageOf s kind ch index sub typ old new actor) 4 1 = kind := by
  simpa [stageOf, leAt, slice, zeros, u8, leNat] using hk

/-- Cord's own entry where the trail is open. -/
theorem cordAppend_open {kind : Nat} {s : State} (hk : kind < 256) (h : TrailOpen kind s) (ch index sub typ old new actor : Nat) :
    cordAppend kind ch index sub typ old new actor s = (audEntered (stageOf s kind ch index sub typ old new actor) s, 0) := by
  have hopen : TrailOpen (leAt (stageOf s kind ch index sub typ old new actor) 4 1) s := by rwa [stageOf_kind s hk]
  have hlow := h.2
  have hfull : ¬ (s.cord.session = true ∧ kind ≠ 5 ∧ s.aud.used + 1 = audMax) := by
    have hmax : audMax = 131072 := rfl
    omega
  rw [cordAppend, if_neg hfull, audWrite_open hopen]
  dsimp only
  rw [audLevels_low]
  show s.aud.used + 1 < 124519
  omega

@[simp] theorem audEntered_used (stage : List Byte) (s : State) : (audEntered stage s).aud.used = s.aud.used + 1 := rfl

@[simp] theorem audEntered_ks (stage : List Byte) (s : State) : (audEntered stage s).ks = s.ks := rfl
@[simp] theorem audEntered_cord (stage : List Byte) (s : State) : (audEntered stage s).cord = s.cord := rfl
@[simp] theorem audEntered_sup (stage : List Byte) (s : State) : (audEntered stage s).sup = s.sup := rfl
@[simp] theorem audEntered_od (stage : List Byte) (s : State) : (audEntered stage s).od = s.od := rfl
@[simp] theorem audEntered_upd (stage : List Byte) (s : State) : (audEntered stage s).upd = s.upd := rfl
@[simp] theorem audEntered_legal (stage : List Byte) (s : State) : (audEntered stage s).legal = s.legal := rfl
@[simp] theorem audEntered_pair (stage : List Byte) (s : State) : (audEntered stage s).pair = s.pair := rfl
@[simp] theorem audEntered_out (stage : List Byte) (s : State) : (audEntered stage s).out = s.out := rfl

theorem audEntered_wf (stage : List Byte) {s : State} (h : s.mem.wf = true) : (audEntered stage s).mem.wf = true := wf_writeBytes h _ _

/-- An append touches memory and the engine's registers only. -/
theorem audWrite_frame (stage : List Byte) (s : State) : ∃ m a, (audWrite stage true s).1 = { s with mem := m, aud := a } := by
  by_cases h : audRefuse (leAt stage 4 1) s = 0
  · simp only [audWrite, h]
    exact ⟨_, _, rfl⟩
  · rw [audWrite_refused true h]
    exact ⟨s.mem, _, rfl⟩

@[simp] theorem audWrite_cord (stage : List Byte) (s : State) : (audWrite stage true s).1.cord = s.cord := by
  obtain ⟨m, a, h⟩ := audWrite_frame stage s
  rw [h]

@[simp] theorem audWrite_legal (stage : List Byte) (s : State) : (audWrite stage true s).1.legal = s.legal := by
  obtain ⟨m, a, h⟩ := audWrite_frame stage s
  rw [h]

@[simp] theorem audLevels_cord (before : Nat) (s : State) : (audLevels before s).cord = s.cord := by
  simp [audLevels, audInt, cordPost]

@[simp] theorem audLevels_legal (before : Nat) (s : State) : (audLevels before s).legal = s.legal := by
  simp [audLevels, audInt, cordPost]

@[simp] theorem cordAppend_cord (kind ch index sub typ old new actor : Nat) (s : State) :
    (cordAppend kind ch index sub typ old new actor s).1.cord = s.cord := by
  unfold cordAppend
  split
  · rfl
  · simp

@[simp] theorem cordAppend_legal (kind ch index sub typ old new actor : Nat) (s : State) :
    (cordAppend kind ch index sub typ old new actor s).1.legal = s.legal := by
  unfold cordAppend
  split
  · rfl
  · simp

@[simp] theorem foldl_cord {α : Type} {f : State → α → State} (hf : ∀ s x, (f s x).cord = s.cord) (xs : List α) (s : State) :
    (xs.foldl f s).cord = s.cord := by
  induction xs generalizing s with
  | nil => rfl
  | cons x xs ih => exact (ih _).trans (hf s x)
@[simp] theorem cordPost_cord_legal_aud_scl (code : Nat) (data : List Byte) (s : State) :
    (cordPost code data s).cord = s.cord ∧ (cordPost code data s).legal = s.legal ∧ (cordPost code data s).aud = s.aud ∧ (cordPost code data s).scl = s.scl := by
  unfold cordPost; simp
@[simp] theorem putCh_cord_legal_aud (p : Nat) (c : ScCh) (s : State) :
    (putCh p c s).cord = s.cord ∧ (putCh p c s).legal = s.legal ∧ (putCh p c s).aud = s.aud := by
  refine ⟨?_, ?_, ?_⟩ <;> (unfold putCh; rfl)
@[simp] theorem discardPending_cord_legal_aud (n p : Nat) (s : State) :
    (discardPending n p s).cord = s.cord ∧ (discardPending n p s).legal = s.legal ∧ (discardPending n p s).aud = s.aud := by
  unfold discardPending; simp
@[simp] theorem judgeId_legal_aud_scl (s : State) :
    (judgeId s).legal = s.legal ∧ (judgeId s).aud = s.aud ∧ (judgeId s).scl = s.scl := by
  unfold judgeId; simp
@[simp] theorem audInit_cord_legal_scl (v : DWord) (s : State) :
    (audInit v s).cord = s.cord ∧ (audInit v s).legal = s.legal ∧ (audInit v s).scl = s.scl := by
  unfold audInit; simp
@[simp] theorem audErase_cord_legal_aud_scl (s : State) :
    (audErase s).cord = s.cord ∧ (audErase s).legal = s.legal ∧ (audErase s).aud = s.aud ∧ (audErase s).scl = s.scl := by
  unfold audErase; simp

@[simp] theorem putUnit_cord (a : Nat) (body : List Byte) (s : State) : (putUnit a body s).cord = s.cord := rfl
@[simp] theorem putUnit_legal (a : Nat) (body : List Byte) (s : State) : (putUnit a body s).legal = s.legal := rfl
@[simp] theorem putUnit_aud (a : Nat) (body : List Byte) (s : State) : (putUnit a body s).aud = s.aud := rfl

@[simp] theorem putStatus_cord_legal_aud (n p : Nat) (s : State) :
    (putStatus n p s).cord = s.cord ∧ (putStatus n p s).legal = s.legal ∧ (putStatus n p s).aud = s.aud := by
  unfold putStatus
  split
  · simp
  · simp

/-- A channel's start leaves Cord's registers, the legal objects and the trail. -/
@[simp] theorem startLogical_cord_legal_aud (n : Nat) (s : State) :
    (startLogical n s).cord = s.cord ∧ (startLogical n s).legal = s.legal ∧ (startLogical n s).aud = s.aud := by
  unfold startLogical
  split
  · exact ⟨rfl, rfl, rfl⟩
  · dsimp only
    split <;> simp

@[simp] theorem startChannels_cord (s : State) : (startChannels s).cord = s.cord := by
  unfold startChannels
  rw [foldl_cord (fun s n => by simp)]

@[simp] theorem judgeId_running (s : State) : (judgeId s).cord.running = s.cord.running := by simp [judgeId]

/-- The start scan ends with Cord running, whether the trail is sound or damaged. -/
theorem startScan_running (s : State) : (startScan s).cord.running = true := by
  unfold startScan
  dsimp only
  split
  · simp [cordPost]
  · simp [cordPost]

-- the end of a Verifier session (R248, R250) ------------------------------------------------------------------------------------------

theorem clearVmode_cord (s : State) : (clearVmode s).cord.vmode = false ∧ (clearVmode s).cord.sess = s.cord.sess ∧
    (clearVmode s).cord.session = s.cord.session ∧ (clearVmode s).cord.switchSet = s.cord.switchSet ∧
    (clearVmode s).cord.changes = s.cord.changes ∧ (clearVmode s).legal = s.legal := by
  unfold clearVmode
  cases h : s.cord.vmode
  · simp [h]
  · simp [crdInt]

@[simp] theorem releaseToken_cord (p : Holder → Bool) (s : State) : (releaseToken p s).cord = s.cord := by
  unfold releaseToken
  rw [foldl_cord (fun s x => by simp)]

@[simp] theorem releaseToken_legal (p : Holder → Bool) (s : State) : (releaseToken p s).legal = s.legal := by simp

/-- The session's end: no session, no verification mode; switch and legal objects stay. -/
theorem closeVerifier_ends {v : VSess} {s : State} (reason : Nat) (h : s.cord.sess = some v) :
    (closeVerifier reason s).cord.sess = none ∧ (closeVerifier reason s).cord.session = false ∧ (closeVerifier reason s).cord.vmode = false ∧
      (closeVerifier reason s).cord.switchSet = s.cord.switchSet ∧ (closeVerifier reason s).cord.changes = s.cord.changes ∧
      (closeVerifier reason s).legal = s.legal := by
  unfold closeVerifier
  rw [h]
  simp only [cordPost, releaseToken_cord, releaseToken_legal, post_cord, post_legal]
  obtain ⟨hvmode, hsess, hsession, hswitch, hchanges, hlegal⟩ := clearVmode_cord
    { (cordAppend 5 0xFF 0 0 0 0 reason v.actor.toNat s).1 with
      cord := { (cordAppend 5 0xFF 0 0 0 0 reason v.actor.toNat s).1.cord with sess := none, session := false } }
  refine ⟨hsess, hsession, hvmode, hswitch.trans ?_, hchanges.trans ?_, hlegal.trans ?_⟩
  · simp
  · simp
  · simp

-- errors that pass to the chip -----------------------------------------------------------------------------------------------------------

/-- A module that had not failed silent is stopped by the error. -/
theorem chipError_stopped {s : State} {cause : Nat} (block : Byte) (cell : Nat) (h : s.sup.failSilent = false) (hc : cause < 64) :
    StoppedBy cause block.toNat (settle (chipError cause block cell s)) := by
  rw [chipError_loud h]
  have hfs : (settle (failSilent cause block cell s)).sup.fsCause = (faultWord 3 cause block cell).setWidth 64 <<< 32 := by simp
  have hholds := settle_failSilentHolds (failSilent cause block cell s)
  have hstopped : (settle (failSilent cause block cell s)).sup.failSilent = true := by simp [failSilent]
  refine ⟨hstopped, ?_, ?_, ?_, (hholds hstopped).1⟩
  · rw [hfs]; exact (fld_upper _ 30 2).trans (faultWord_level ..)
  · rw [hfs]; exact (fld_upper _ 24 6).trans ((faultWord_cause ..).trans (Nat.mod_eq_of_lt hc))
  · rw [hfs]; exact (fld_upper _ 16 8).trans (faultWord_block ..)

/-- So is a module in which a block fails that is not degraded. -/
theorem blockFails_stopped {s : State} {cause : Nat} {block : Byte} (cell : Nat) (hblock : degraded block = false) (h : s.sup.failSilent = false)
    (hc : cause < 64) : StoppedBy cause block.toNat (settle (blockFails cause block cell s)) := by
  have hchip : blockFails cause block cell s = chipError cause block cell
      (isolateEffects block (noteRegion (blockRegion block)
        { recordFault 2 2 cause block cell (blockFault cause block cell s) with
          sup := { (recordFault 2 2 cause block cell (blockFault cause block cell s)).sup with
            isolated := if (recordFault 2 2 cause block cell (blockFault cause block cell s)).sup.isolated.contains block
              then (recordFault 2 2 cause block cell (blockFault cause block cell s)).sup.isolated
              else block :: (recordFault 2 2 cause block cell (blockFault cause block cell s)).sup.isolated } })) := by
    simp only [blockFails, isolate, hblock, Bool.false_eq_true, if_false]
  rw [hchip]
  refine chipError_stopped block cell ?_ hc
  simp [noteRegion, recordFault, blockFault, h]

end Sys2Proof.Laws

/-! PROOF. Cord's blocks (07): identification, status units, verification, audit engine, watchdog. -/

namespace Sys2Proof.Laws

open Sys2Proof Sys2Proof.Machine Sys2Proof.Safety

@[simp] theorem length_slice {bs : List Byte} {off len : Nat} (h : off + len ≤ bs.length) : (slice bs off len).length = len := by
  simp [slice]
  omega

/-- A staged entry of 64 bytes makes an entry of 64 bytes. -/
theorem length_entryBytes {stage : List Byte} (h : stage.length = 64) (n sl time prev : Nat) : (entryBytes stage n sl time prev).length = 64 := by
  simp [entryBytes, le4, le8, h]

/-- 32-bit registers as bytes. -/
theorem length_words (ws : List Word) : (ws.flatMap (fun w => le4 w.toNat)).length = 4 * ws.length := by
  simp [List.length_flatMap, le4, Nat.mul_comm]

theorem audEntered_mem (stage : List Byte) (s : State) : (audEntered stage s).mem = writeBytes s.mem (entryAddr (s.aud.used + 1))
    (entryBytes stage (s.aud.used + 1) (s.aud.sealNo.toNat + b2n (counts (leAt stage 4 1))) (timeNs s) s.aud.lastCrc.toNat) := rfl

/-- The entry stands in its slot, and no other byte has changed. -/
theorem audEntered_stored {stage : List Byte} (h : stage.length = 64) (s : State) :
    (s.mem.wf = true → readBytes (audEntered stage s).mem (entryAddr (s.aud.used + 1)) 64 =
      entryBytes stage (s.aud.used + 1) (s.aud.sealNo.toNat + b2n (counts (leAt stage 4 1))) (timeNs s) s.aud.lastCrc.toNat) ∧
      ∀ b, b < entryAddr (s.aud.used + 1) ∨ entryAddr (s.aud.used + 1) + 64 ≤ b → readByte (audEntered stage s).mem b = readByte s.mem b := by
  have hlen := length_entryBytes h (s.aud.used + 1) (s.aud.sealNo.toNat + b2n (counts (leAt stage 4 1))) (timeNs s) s.aud.lastCrc.toNat
  rw [audEntered_mem]
  refine ⟨fun hwf => ?_, fun b hb => readByte_writeBytes_other s.mem _ (by rwa [hlen])⟩
  have hback := readBytes_writeBytes hwf (entryAddr (s.aud.used + 1))
    (entryBytes stage (s.aud.used + 1) (s.aud.sealNo.toNat + b2n (counts (leAt stage 4 1))) (timeNs s) s.aud.lastCrc.toNat)
  rwa [hlen] at hback

/-- Nothing else has. -/
theorem audEntered_frame (stage : List Byte) (s : State) (d : Dic) :
    { ({ audEntered stage s with dic := d } : State) with aud := s.aud, mem := s.mem, dic := s.dic } = s := by
  unfold audEntered
  dsimp only

/-- A unit in the read window has its count at both ends. -/
theorem length_unit (c : Nat) (body : List Byte) : (le4 c ++ fit 56 body ++ le4 c).length = 64 := by
  simp [le4]

end Sys2Proof.Laws

namespace Sys2Proof.Proofs

open Sys2Proof Sys2Proof.Machine Sys2Proof.Safety Sys2Proof.Laws

/-- Settles O24: each command of Cord's blocks by its branch. -/
theorem cordBlocksComplete : Obligations.CordBlocksComplete := by
  refine ⟨?recheck, ?republish, ?switchOn, ?switchOff, ?timeout, ?mode, ?append, ?init, ?erase, ?scan, ?wdog, ?expiry, ?notify⟩
  case recheck =>
    intro id s hrun hilock hid
    have hfail : execLegalIdRecheck id s = finish (blockFails 0x03 0x80 0 (cordPost 0x050B [] s)) :=
      congrArg finish (if_pos ⟨running_cordLive hrun, hilock, hid⟩)
    refine answers_settled hfail ⟨blockFails_stopped 0 rfl ?_ (by decide), ?_, ?_⟩
    · simp [cordPost, hrun.loud]
    · simp
    · simp [cordPost]
  case republish =>
    intro unit s hrun hilock hunit hwf a c
    have hput : execStatusRepublish unit s = finish (republish unit s) := congrArg finish (if_pos ⟨running_cordLive hrun, hilock, hunit⟩)
    have hlen := length_unit c (if unit = 0 then unit0 s else unit1 s)
    have hmem : (republish unit s).mem = writeBytes s.mem a (le4 c ++ fit 56 (if unit = 0 then unit0 s else unit1 s) ++ le4 c) := by
      simp [republish, putUnit, a, c]
    refine answers_settled hput ⟨?_, fun b hb => ?_, ?_, ?_⟩
    · rw [settle_mem, hmem, ← hlen]
      exact readBytes_writeBytes hwf _ _
    · rw [settle_mem, hmem]
      exact readByte_writeBytes_other s.mem _ (by rw [hlen]; exact hb)
    · simp [republish, putUnit]
    · simp [republish, putUnit]
  case switchOn =>
    intro s hrun hset
    have hon : execVerificationSwitchChange true s = finish (crdInt 2 { s with
        cord := { s.cord with switchRaw := true, switchSet := true, changes := min 65535 (s.cord.changes + 1) } }) := by
      simp [execVerificationSwitchChange, running_cordLive hrun, hset]
    exact answers_of_finish hon hrun.loud ⟨rfl, rfl, rfl, rfl, rfl⟩
  case switchOff =>
    intro s hrun hset
    have hoff : execVerificationSwitchChange false s = finish (closeVerifier 2 (clearVmode (crdInt 2 { s with
        cord := { s.cord with switchRaw := false, switchSet := false, changes := min 65535 (s.cord.changes + 1) } }))) := by
      simp [execVerificationSwitchChange, running_cordLive hrun, hset]
    obtain ⟨hvmode, hsess, hsession, hswitch, hchanges, hlegal⟩ := clearVmode_cord (crdInt 2 { s with
        cord := { s.cord with switchRaw := false, switchSet := false, changes := min 65535 (s.cord.changes + 1) } })
    cases hv : (clearVmode (crdInt 2 { s with
        cord := { s.cord with switchRaw := false, switchSet := false, changes := min 65535 (s.cord.changes + 1) } })).cord.sess with
    | none =>
      simp only [closeVerifier, hv] at hoff
      refine answers_settled hoff ?_
      simp only [settle_cord, settle_legal]
      exact ⟨hswitch, hchanges, hvmode, hv, hlegal⟩
    | some v =>
      obtain ⟨hsess', hsession', hvmode', hswitch', hchanges', hlegal'⟩ := closeVerifier_ends 2 hv
      refine answers_settled hoff ?_
      simp only [settle_cord, settle_legal]
      exact ⟨hswitch'.trans hswitch, hchanges'.trans hchanges, hvmode', hsess', hlegal'.trans hlegal⟩
  case timeout =>
    intro v s hrun hv
    have hclose : execVerifierSessionTimeout s = finish (closeVerifier 3 s) := congrArg finish (if_pos (running_cordLive hrun))
    obtain ⟨hsess, hsession, hvmode, -, -, hlegal⟩ := closeVerifier_ends 3 hv
    refine answers_settled hclose ?_
    simp only [settle_cord, settle_legal]
    exact ⟨hsess, hsession, hvmode, hlegal⟩
  case mode =>
    intro word s hrun hkey h0 h1 hswitch
    have hmode : execCrdMode word s = finish { s with cord := { s.cord with session := true, vmode := true } } := by
      simp [execCrdMode, running_cordLive hrun, hkey, h0, h1, hswitch]
    exact hmode.trans (finish_of_eq rfl hrun.loud)
  case append =>
    intro word s hrun hkey stage kind n sl
    have hkeyed : execAudAppend word true s = finish (audLevels s.aud.used (audWrite stage true s).1) := by
      simp [execAudAppend, running_cordLive hrun, hkey, stage]
    refine ⟨fun hopen hstage => ?_, fun hrefused => ?_⟩
    · obtain ⟨hstored, hother⟩ := audEntered_stored (stage := stage) (by rw [length_words, hstage]) s
      have hlow : (audEntered stage s).aud.used < 124519 := by
        have := hopen.2
        rw [audEntered_used]
        omega
      rw [audWrite_open hopen, audLevels_low _ hlow] at hkeyed
      exact answers_of_finish hkeyed hrun.loud ⟨rfl, rfl, rfl, bit_setBit_same _ (by decide), hstored, hother, audEntered_frame ..⟩
    · rw [audWrite_refused true hrefused] at hkeyed
      refine (hkeyed.trans (congrArg finish (audLevels_same ?_))).trans (finish_of_eq rfl hrun.loud)
      rfl
  case init =>
    intro v s hrun hinit
    have hon : execAudInit v s = finish (audInit v s) := congrArg finish (if_pos (running_cordLive hrun))
    refine answers_of_finish (hon.trans (congrArg finish (if_neg (by simp [hinit])))) hrun.loud ⟨rfl, rfl, rfl, rfl⟩
  case erase =>
    intro word s hrun hword hroom hvalid
    have herase : execAudErase word s = finish (audErase s) := congrArg finish (if_pos ⟨running_cordLive hrun, hword⟩)
    exact herase.trans (finish_of_eq (if_pos (by simp [hroom, hvalid])) hrun.loud)
  case scan =>
    intro s hrun hilock hidle
    have hscan : execCordStartScan s = finish (startScan s) := congrArg finish (if_pos ⟨running_cordLive hrun, hilock, by simp [hidle]⟩)
    refine answers_settled hscan ⟨?_, ?_⟩
    · rw [settle_cord, startScan_running]
    · simp
  case wdog =>
    intro word s hrun hkey
    exact finish_of_eq (if_pos ⟨running_cordLive hrun, hkey⟩) hrun.loud
  case expiry =>
    intro s hrun harmed
    have hfail : execCordWatchdogExpiry s = finish (blockFails 0x05 0x80 0 s) := congrArg finish (if_pos ⟨running_cordLive hrun, harmed⟩)
    refine answers_settled hfail ⟨blockFails_stopped 0 rfl hrun.loud (by decide), ?_, ?_⟩
    · simp
    · simp
  case notify =>
    intro word s hrun hword
    refine congrArg finish ?_
    rw [running_cordLive hrun, hword]
    rfl

end Sys2Proof.Proofs

/-! PROOF. The mailbox's operations for update and keys (16 R500 to R512). -/

namespace Sys2Proof.Laws

open Sys2Proof Sys2Proof.Machine Sys2Proof.Safety

/-- An operation of Cord's firmware that acts beside the mailbox. -/
theorem exec_booted_done {op : Nat} {f : MbxRq → State → State × MbxRes} {m : MbxRq} {s u : State} {r : MbxRes}
    {o : Host.Outcome State Fault Refusal} (ho : o = finish (mbxExec op (booted f) m s)) (hrun : Running s) (hilock : s.cord.ilock = true)
    (hf : f m (mbxTaken s) = (mbxTaken u, r)) : o = .next (settle (mbxDone op r u)) :=
  ho.trans (congrArg finish (mbxExec_done (running_cordLive hrun) ((booted_running hilock).trans hf)))

/-- The request's number is the one of the state in which the operation runs. -/
@[simp] theorem mbxTaken_mbxReq (s : State) : (mbxTaken s).cord.mbxReq = mbxSeq s := rfl
@[simp] theorem mbxTaken_busy (s : State) : (mbxTaken s).cord.busy = true := rfl
@[simp] theorem mbxTaken_mem (s : State) : (mbxTaken s).mem = s.mem := rfl
@[simp] theorem mbxTaken_sup (s : State) : (mbxTaken s).sup = s.sup := rfl
@[simp] theorem mbxTaken_ks (s : State) : (mbxTaken s).ks = s.ks := rfl
@[simp] theorem mbxTaken_upd (s : State) : (mbxTaken s).upd = s.upd := rfl
@[simp] theorem mbxTaken_legal (s : State) : (mbxTaken s).legal = s.legal := rfl
@[simp] theorem mbxTaken_aud (s : State) : (mbxTaken s).aud = s.aud := rfl
@[simp] theorem mbxTaken_od (s : State) : (mbxTaken s).od = s.od := rfl
@[simp] theorem mbxTaken_pair (s : State) : (mbxTaken s).pair = s.pair := rfl
@[simp] theorem mbxTaken_vmode (s : State) : (mbxTaken s).cord.vmode = s.cord.vmode := rfl
@[simp] theorem mbxTaken_sess (s : State) : (mbxTaken s).cord.sess = s.cord.sess := rfl
@[simp] theorem mbxTaken_session (s : State) : (mbxTaken s).cord.session = s.cord.session := rfl
@[simp] theorem mbxTaken_ilock (s : State) : (mbxTaken s).cord.ilock = s.cord.ilock := rfl
@[simp] theorem mbxTaken_firmware (s : State) : (mbxTaken s).cord.firmware = s.cord.firmware := rfl
@[simp] theorem serviceOnly_taken (s : State) : serviceOnly (mbxTaken s) = serviceOnly s := rfl
@[simp] theorem updRole_taken (s : State) : updRole (mbxTaken s) = updRole s := rfl
@[simp] theorem imageCheck_taken (s : State) (comp : Nat) (cord : Bool) (h body : List Byte) :
    imageCheck (mbxTaken s) comp cord h body = imageCheck s comp cord h body := rfl
@[simp] theorem idWith_taken (s : State) (comp : Nat) (h body : List Byte) : idWith (mbxTaken s) comp h body = idWith s comp h body := rfl
@[simp] theorem arbOf_taken (s : State) (comp : Nat) : arbOf (mbxTaken s) comp = arbOf s comp := rfl
theorem trailOpen_taken {kind : Nat} {s : State} (h : TrailOpen kind s) : TrailOpen kind (mbxTaken s) := h

@[simp] theorem mbxReplied_ks (op : Nat) (r : MbxRes) (t : State) : (mbxReplied op r t).ks = t.ks := by simp [mbxReplied]
@[simp] theorem mbxReplied_upd (op : Nat) (r : MbxRes) (t : State) : (mbxReplied op r t).upd = t.upd := by simp [mbxReplied]
@[simp] theorem mbxReplied_legal (op : Nat) (r : MbxRes) (t : State) : (mbxReplied op r t).legal = t.legal := by simp [mbxReplied]
@[simp] theorem mbxReplied_aud (op : Nat) (r : MbxRes) (t : State) : (mbxReplied op r t).aud = t.aud := by simp [mbxReplied]
@[simp] theorem mbxReplied_od (op : Nat) (r : MbxRes) (t : State) : (mbxReplied op r t).od = t.od := by simp [mbxReplied]
@[simp] theorem mbxReplied_firmware (op : Nat) (r : MbxRes) (t : State) : (mbxReplied op r t).cord.firmware = t.cord.firmware := by
  simp [mbxReplied]

theorem arbOf_replied (op : Nat) (r : MbxRes) (t : State) (d : Dic) (k : Nat) : arbOf { mbxReplied op r t with dic := d } k = arbOf t k := by
  simp [arbOf, mbxReplied]

/-- What an operation leaves of the request: it stands taken, in a module that has not failed silent, the memory in its form. -/
structure Serving (s t : State) : Prop where
  busy : t.cord.busy = true
  number : t.cord.mbxReq = mbxSeq s
  loud : t.sup.failSilent = false
  wf : s.mem.wf = true → t.mem.wf = true

/-- An operation of Cord's firmware, answered, and what else holds of the state it has left. -/
theorem answers_op {op : Nat} {f : MbxRq → State → State × MbxRes} {m : MbxRq} {s t : State} {r : MbxRes} {post : State → Prop}
    {o : Host.Outcome State Fault Refusal} (ho : o = finish (mbxExec op (booted f) m s)) (hrun : Running s) (hilock : s.cord.ilock = true)
    (hf : f m (mbxTaken s) = (t, r)) (hserving : Serving s t)
    (hpost : ∀ d, MbxAnswered op r s { mbxReplied op r t with dic := d } → post { mbxReplied op r t with dic := d }) : Answers o post :=
  answers_booted ho hrun hilock hf hserving.busy hserving.loud (hpost _ (mbxReplied_answered hserving.number hserving.wf))

/-- ARB_ADVANCE raises its component's counter to the SVN of what runs, up to 64, and no other. -/
theorem advanceArb_arb {comp : Nat} {s : State} (hcomp : 1 ≤ comp) (hlen : comp ≤ s.upd.arb.length) :
    arbOf (advanceArb comp s) comp =
        (if (s.upd.fw.getD (comp - 1) {}).valid then max (arbOf s comp) (min 64 (s.upd.fw.getD (comp - 1) {}).svn) else arbOf s comp) ∧
      ∀ k, 1 ≤ k → k ≠ comp → arbOf (advanceArb comp s) k = arbOf s k := by
  by_cases h : (s.upd.fw.getD (comp - 1) {}).valid = true ∧ arbOf s comp < min 64 (s.upd.fw.getD (comp - 1) {}).svn
  · have harb : (advanceArb comp s).upd.arb = putAt s.upd.arb (comp - 1) (min 64 (s.upd.fw.getD (comp - 1) {}).svn) := by
      simp only [advanceArb, if_pos h, postIf_upd, post_upd]
    obtain ⟨hvalid, hless⟩ := h
    refine ⟨?_, fun k hk hne => ?_⟩
    · rw [if_pos hvalid, max_eq_right hless.le, arbOf, harb]
      exact getD_putAt_same _ _ (by omega)
    · rw [arbOf, harb, arbOf]
      exact getD_putAt_other _ _ _ (by omega)
  · have hsame : advanceArb comp s = s := if_neg h
    rw [hsame]
    refine ⟨?_, fun k _ _ => rfl⟩
    split
    next hvalid => exact (max_eq_left (not_lt.mp fun hless => h ⟨hvalid, hless⟩)).symm
    next => rfl

/-- What else it leaves: the NOR's revocations stay, as comp is Cord's. -/
theorem advanceArb_keeps {comp : Nat} (hcomp : 2 < comp) (s : State) :
    (advanceArb comp s).upd.revNor = s.upd.revNor ∧ (advanceArb comp s).ks = s.ks ∧ (advanceArb comp s).cord = s.cord ∧
      (advanceArb comp s).mem = s.mem ∧ (advanceArb comp s).sup.failSilent = s.sup.failSilent := by
  unfold advanceArb
  dsimp only
  split
  · simp [not_le.mpr hcomp]
  · exact ⟨rfl, rfl, rfl, rfl, rfl⟩

-- the key store's operations (R508 to R510) ---------------------------------------------------------------------------------------------

/-- The entry that a change of level-3 credentials appends. -/
def verifierEntered (old new : List Byte) (s : State) : State :=
  audEntered (stageOf s 3 0xFF 0 0 0 (leNat old) (leNat new) ((s.cord.sess.map (fun v => v.actor.toNat)).getD actorCord)) s

theorem verifierEntry_open {s : State} (h : TrailOpen 3 s) (old new : List Byte) : verifierEntry s old new = (verifierEntered old new s, 0) :=
  cordAppend_open (by decide) h _ _ _ _ _ _ _

@[simp] theorem verifierEntered_ks (old new : List Byte) (s : State) : (verifierEntered old new s).ks = s.ks := by
  simp [verifierEntered]
@[simp] theorem verifierEntered_cord (old new : List Byte) (s : State) : (verifierEntered old new s).cord = s.cord := by
  simp [verifierEntered]
@[simp] theorem verifierEntered_sup (old new : List Byte) (s : State) : (verifierEntered old new s).sup = s.sup := by
  simp [verifierEntered]
@[simp] theorem verifierEntered_od (old new : List Byte) (s : State) : (verifierEntered old new s).od = s.od := by
  simp [verifierEntered]
@[simp] theorem verifierEntered_used (old new : List Byte) (s : State) : (verifierEntered old new s).aud.used = s.aud.used + 1 := by
  simp [verifierEntered]
theorem verifierEntered_wf (old new : List Byte) {s : State} (h : s.mem.wf = true) : (verifierEntered old new s).mem.wf = true := audEntered_wf _ h

/-- A program key fills an empty slot. -/
theorem ksEnrol_prog {e : List Byte} {s : State} (hlen : e.length = 36) (hzero : leAt e 3 1 = 0) (hlevel : leAt e 1 1 = 0) (hslot : leAt e 0 1 < 4)
    (hempty : recAt s.ks.progs (leAt e 0 1) = none) :
    ksEnrol e s = (ksPost 0x0D07 (u8 2 ++ u8 (leAt e 0 1))
      { s with ks := { s.ks with progs := { idx := leAt e 0 1, key := slice e 4 32, digid := 0 } :: s.ks.progs } }, 0) := by
  simp [ksEnrol, hlen, hzero, hlevel, not_le.mpr hslot, hempty]

/-- A Verifier's credential does so in verification mode, with its entry. -/
theorem ksEnrol_verifier {e : List Byte} {s : State} (hlen : e.length = 36) (hzero : leAt e 3 1 = 0) (hlevel : leAt e 1 1 = 3)
    (hslot : leAt e 0 1 < 32) (hempty : credAt s.ks (leAt e 0 1) = none) (hvmode : s.cord.vmode = true) (hopen : TrailOpen 3 s) :
    ksEnrol e s = (ksPost 0x0D07 (u8 1 ++ u8 (leAt e 0 1)) { verifierEntered (zeros 8) (fpBytes (slice e 4 32)) s with
      ks := { s.ks with
        creds := { slot := leAt e 0 1, key := slice e 4 32, level := leAt e 1 1, debug := leAt e 2 1 % 2 == 1 } :: s.ks.creds } }, 0) := by
  simp [ksEnrol, hlen, hzero, hlevel, not_le.mpr hslot, hempty, hvmode, verifierEntry_open hopen]

/-- A credential's slot is emptied, and its sessions end after their answer. -/
def credentialGone (slot : Nat) (s : State) : State :=
  ksPost 0x0D07 (u8 1 ++ u8 slot) (revokeSessions slot { s with ks := { s.ks with creds := s.ks.creds.filter (fun x => x.slot != slot) } })

@[simp] theorem credentialGone_keeps (slot : Nat) (s : State) :
    (credentialGone slot s).cord = s.cord ∧ (credentialGone slot s).sup.failSilent = s.sup.failSilent ∧ (credentialGone slot s).mem = s.mem ∧
      (credentialGone slot s).aud = s.aud ∧ (credentialGone slot s).ks = { s.ks with creds := s.ks.creds.filter (fun x => x.slot != slot) } := by
  simp [credentialGone, ksPost, revokeSessions]

/-- Its sessions are revoked. -/
theorem credentialGone_revokes {slot : Nat} {s : State} {x : Session} (h : x ∈ (credentialGone slot s).od.sessions) (hx : x.cred = some slot) :
    x.revoked = true := by
  have hmem : x ∈ s.od.sessions.map (fun x => if x.cred = some slot then { x with revoked := true } else x) := by
    simpa [credentialGone, ksPost, revokeSessions] using h
  obtain ⟨y, -, rfl⟩ := List.mem_map.mp hmem
  by_cases hy : y.cred = some slot
  · rw [if_pos hy]
  · rw [if_neg hy] at hx
    exact absurd hx hy

/-- The trail notes a Verifier's credential that goes. -/
def revocationNoted (c : Cred) (s : State) : State := if c.level = 3 then verifierEntered (fpBytes c.key) (zeros 8) s else s

@[simp] theorem revocationNoted_keeps (c : Cred) (s : State) :
    (revocationNoted c s).cord = s.cord ∧ (revocationNoted c s).sup = s.sup ∧ (revocationNoted c s).ks = s.ks ∧
      (revocationNoted c s).aud.used = s.aud.used + (if c.level = 3 then 1 else 0) := by
  unfold revocationNoted
  split
  · simp
  · simp

theorem revocationNoted_wf (c : Cred) {s : State} (h : s.mem.wf = true) : (revocationNoted c s).mem.wf = true := by
  unfold revocationNoted
  split
  · exact verifierEntered_wf _ _ h
  · exact h

/-- The revocation of a credential that is not the last of level 4. -/
theorem ksRevoke_cred {slot : Nat} {c : Cred} {s : State} (hcred : credAt s.ks slot = some c)
    (hlast : c.level = 4 → (s.ks.creds.filter (fun x => x.level == 4)).length ≠ 1) (hverifier : c.level = 3 → s.cord.vmode = true ∧ TrailOpen 3 s) :
    ksRevoke 1 slot s = (credentialGone slot (revocationNoted c s), 0) := by
  have hkept : (c.level == 4 && (s.ks.creds.filter (fun x => x.level == 4)).length == 1) = false := by
    rw [Bool.and_eq_false_iff, beq_eq_false_iff_ne, beq_eq_false_iff_ne]
    exact or_iff_not_imp_left.mpr fun h => hlast (not_not.mp h)
  by_cases h3 : c.level = 3
  · obtain ⟨hvmode, hopen⟩ := hverifier h3
    simp [ksRevoke, hcred, h3, hvmode, verifierEntry_open hopen, credentialGone, revocationNoted]
  · simp [ksRevoke, hcred, hkept, h3, credentialGone, revocationNoted]

/-- What KS_LOAD stores of a blob that the device key unwraps. -/
def keyLoaded (b key : List Byte) (k : Ks) : Ks :=
  if leAt b 0 1 = 3 then { k with records := { idx := leAt b 2 2, key := fit 16 key, digid := 0 } :: dropRec k.records (leAt b 2 2) }
  else { k with pairings :=
    { idx := leAt b 2 2, key := fit 16 key, digid := BitVec.ofNat 32 (leAt b 8 4) } :: dropRec k.pairings (leAt b 2 2) }

theorem ksLoad_wrapped {b : List Byte} {n : Nat} {s : State} (hdev : s.ks.dev = some n) (hlen : b.length = 72) (hserial : leAt b 4 4 = Config.serial.toNat)
    (hrange : (leAt b 0 1 = 3 ∧ leAt b 2 2 < 128) ∨ (leAt b 0 1 = 4 ∧ leAt b 2 2 < 1024)) :
    ksLoad b s = match Config.unwrapBlob n b with
      | none => (s, 0x280C)
      | some key => (ksPost 0x0D08 (le2 (leAt b 2 2) ++ fpBytes (fit 16 key)) { s with ks := keyLoaded b key s.ks }, 0) := by
  have hok : (b.length == 72 && leAt b 4 4 == Config.serial.toNat &&
      ((leAt b 0 1 == 3 && decide (leAt b 2 2 < 128)) || (leAt b 0 1 == 4 && decide (leAt b 2 2 < 1024)))) = true := by
    simpa [hlen, hserial] using hrange
  simp only [ksLoad, hdev, hok, if_true]
  cases Config.unwrapBlob n b with
  | none => rfl
  | some key =>
    rcases hrange with ⟨h3, -⟩ | ⟨h4, -⟩
    · simp [keyLoaded, h3, hdev]
    · simp [keyLoaded, h4, hdev]

/-- UPD_END of a whole image that passes the checks: an entry in the trail, the new identification told. -/
theorem opUpdEnd_taken {m : MbxRq} {u : CordUpd} {s : State} (hu : s.legal.upd = some u) (hvmode : s.cord.vmode = true) (hrole : updRole s = true)
    (hm : m.data.length = 128) (hlen : hdrLen m.data = u.len) (hwhole : u.data.length = u.len) (hopen : TrailOpen 2 s)
    (hc : imageCheck s u.comp true m.data u.data = 0) :
    opUpdEnd m s = (judgeId (cordPost 0x050C ((idWith s u.comp m.data u.data).take 4)
        { audEntered (stageOf s 2 0xFF 0 0 0 (leNat (legalId4 s)) (leNat ((idWith s u.comp m.data u.data).take 4)) (actorOf s)) s with
          legal := { s.legal with upd := none } }), { status := 0, res0 := leNat ((idWith s u.comp m.data u.data).take 8) }) := by
  have hfit : fit 128 m.data = m.data := fit_of_length hm
  simp [opUpdEnd, hu, hvmode, hrole, hm, hfit, hlen, hwhole, hc, cordAppend_open (by decide) hopen]

end Sys2Proof.Laws

namespace Sys2Proof.Proofs

open Sys2Proof Sys2Proof.Machine Sys2Proof.Safety Sys2Proof.Laws

/-- Settles O40: each operation by its branch, in the mailbox's frame. -/
theorem keyMailboxComplete : Obligations.KeyMailboxComplete := by
  unfold Obligations.KeyMailboxComplete
  intro ready done
  refine ⟨?begin, ?data, ?finished, ?enrol, ?revoke, ?revokeProg, ?load, ?info, ?sign, ?arb, ?zeroise⟩
  case begin =>
    intro m s ⟨hrun, hilock⟩ hvmode hservice hrole hcomp hlen
    refine exec_booted_done (o := exec (.updBegin m) s) rfl hrun hilock ?_
    rcases hcomp with h | h
    · simp [opUpdBegin, hvmode, hservice, hrole, h, bodyMax, not_lt.mpr hlen, okay]
      rfl
    · simp [opUpdBegin, hvmode, hservice, hrole, h, bodyMax, not_lt.mpr hlen, okay]
      rfl
  case data =>
    intro m u s ⟨hrun, hilock⟩ hu hlen
    refine exec_booted_done (o := exec (.updData m) s) rfl hrun hilock ?_
    simp [opUpdData, hu, not_lt.mpr hlen, okay]
    rfl
  case finished =>
    intro m u s ⟨hrun, hilock⟩ hu hvmode hrole hm hlen hwhole hopen c
    have hfit : fit 128 m.data = m.data := fit_of_length hm
    by_cases hc : c = 0
    · simp only [if_pos hc]
      have hop := opUpdEnd_taken (m := m) (s := mbxTaken s) hu hvmode hrole hm hlen hwhole (trailOpen_taken hopen) hc
      refine answers_op (o := exec (.updEnd m) s) rfl hrun hilock hop ⟨?_, ?_, ?_, fun h => ?_⟩ fun d hd => ⟨hd, ?_, ?_, ?_⟩
      case refine_4 => simpa [judgeId, cordPost] using audEntered_wf _ (s := mbxTaken s) h
      all_goals simp [judgeId, cordPost, hrun.loud]
    · simp only [if_neg hc]
      have hop : opUpdEnd m (mbxTaken s) = (mbxTaken s, { status := c }) := by
        simp [opUpdEnd, hu, hvmode, hrole, hm, hfit, hlen, hwhole, fails, show imageCheck s u.comp true m.data u.data ≠ 0 from hc, c]
      refine answers_op (o := exec (.updEnd m) s) rfl hrun hilock hop ⟨rfl, rfl, hrun.loud, id⟩ fun d hd => ⟨hd, ?_, ?_⟩
      all_goals simp
  case enrol =>
    intro m s ⟨hrun, hilock⟩ hservice hlen hzero slot level cred
    have hop : opKsEnrol m (mbxTaken s) = ofStatus (ksEnrol m.data (mbxTaken s)) := by simp [opKsEnrol, hservice]
    refine ⟨fun hlevel hslot hempty => ?_, fun hlevel hslot hempty => ?_, fun hlevel hslot hempty hvmode hopen => ?_⟩
    · rw [ksEnrol_prog (s := mbxTaken s) hlen hzero hlevel hslot hempty] at hop
      refine answers_op (o := exec (.ksEnrol m) s) rfl hrun hilock hop ⟨?_, ?_, ?_, ?_⟩ fun d hd => ⟨hd, ?_, ?_⟩
      all_goals simp [ksPost, hrun.loud, slot]
    · rw [ksEnrol_cred _ hlen hzero hslot hlevel, if_pos (by exact hempty)] at hop
      refine answers_op (o := exec (.ksEnrol m) s) rfl hrun hilock hop ⟨?_, ?_, ?_, ?_⟩ fun d hd => ⟨hd, ?_, ?_⟩
      all_goals simp [ksPost, hrun.loud, cred, slot, level]
    · rw [ksEnrol_verifier (s := mbxTaken s) hlen hzero hlevel hslot hempty hvmode hopen] at hop
      refine answers_op (o := exec (.ksEnrol m) s) rfl hrun hilock hop ⟨?_, ?_, ?_, fun h => ?_⟩ fun d hd => ⟨hd, ?_, ?_⟩
      case refine_4 => simpa [ksPost] using verifierEntered_wf (s := mbxTaken s) _ _ h
      all_goals simp [ksPost, hrun.loud, cred, slot, level]
  case revoke =>
    intro m c s ⟨hrun, hilock⟩ hservice hcls hcred hlast hverifier
    have hop : opKsRevoke m (mbxTaken s) = ofStatus (ksRevoke 1 m.arg1.toNat (mbxTaken s)) := by simp [opKsRevoke, hservice, hcls]
    rw [ksRevoke_cred (s := mbxTaken s) hcred hlast hverifier] at hop
    refine answers_op (o := exec (.ksRevoke m) s) rfl hrun hilock hop ⟨?_, ?_, ?_, fun h => ?_⟩ fun d hd => ⟨hd, ?_, ?_, fun x hx hslot => ?_⟩
    case refine_7 =>
      rw [mbxReplied_od] at hx
      exact credentialGone_revokes hx hslot
    case refine_4 => simpa using revocationNoted_wf c (s := mbxTaken s) h
    all_goals simp [hrun.loud]
  case revokeProg =>
    intro m r s ⟨hrun, hilock⟩ hservice hcls hrec
    have hop : opKsRevoke m (mbxTaken s) = (ksPost 0x0D07 (u8 2 ++ u8 m.arg1.toNat)
        { mbxTaken s with ks := { s.ks with progs := dropRec s.ks.progs m.arg1.toNat } }, { status := 0 }) := by
      simp [opKsRevoke, hservice, hcls, ksRevoke, hrec, ofStatus]
    refine answers_op (o := exec (.ksRevoke m) s) rfl hrun hilock hop ⟨?_, ?_, ?_, ?_⟩ fun d hd => ⟨hd, ?_, ?_⟩
    all_goals simp [ksPost, hrun.loud]
  case load =>
    intro m n s ⟨hrun, hilock⟩ hdev hlen hserial idx cls hrange
    have hop : opKsLoad m (mbxTaken s) = ofStatus (ksLoad m.data (mbxTaken s)) := rfl
    rw [ksLoad_wrapped (s := mbxTaken s) hdev hlen hserial hrange] at hop
    cases hkey : Config.unwrapBlob n m.data with
    | none =>
      rw [hkey] at hop
      refine answers_op (o := exec (.ksLoad m) s) rfl hrun hilock hop ⟨rfl, rfl, hrun.loud, id⟩ fun d hd => ⟨hd, ?_⟩
      simp
    | some k =>
      rw [hkey] at hop
      refine answers_op (o := exec (.ksLoad m) s) rfl hrun hilock hop ⟨?_, ?_, ?_, ?_⟩ fun d hd => ⟨hd, ?_⟩
      case refine_5 =>
        by_cases h3 : cls = 3
        · rw [if_pos h3]
          simp [ksPost, keyLoaded, show leAt m.data 0 1 = 3 from h3, idx]
        · rw [if_neg h3]
          simp [ksPost, keyLoaded, show ¬ leAt m.data 0 1 = 3 from h3, idx]
      all_goals simp [ksPost, hrun.loud]
  case info =>
    intro m s ⟨hrun, hilock⟩
    exact exec_booted_done (o := exec (.ksInfo m) s) rfl hrun hilock rfl
  case sign =>
    intro m n s ⟨hrun, hilock⟩ hdev hlen
    refine exec_booted_done (o := exec (.ksSign m) s) rfl hrun hilock ?_
    simp [opKsSign, hdev, hlen, deviceSig]
  case arb =>
    intro m s ⟨hrun, hilock⟩ hcomp hlen comp f
    have hop : opArbAdvance m (mbxTaken s) = (advanceArb comp (mbxTaken s), { status := 0 }) := by
      rcases hcomp with h | h
      · simp [opArbAdvance, h, okay, comp]
      · simp [opArbAdvance, h, okay, comp]
    have hrange : comp = 3 ∨ comp = 4 := hcomp.imp (congrArg BitVec.toNat) (congrArg BitVec.toNat)
    obtain ⟨hraised, hother⟩ := advanceArb_arb (comp := comp) (s := mbxTaken s) (by omega) (by rw [mbxTaken_upd, hlen]; omega)
    obtain ⟨hnor, hks, hcord, hmem, hfs⟩ := advanceArb_keeps (comp := comp) (by omega) (mbxTaken s)
    refine answers_op (o := exec (.arbAdvance m) s) rfl hrun hilock hop ⟨?_, ?_, ?_, ?_⟩ fun d hd => ⟨hd, ?_, ?_, ?_, ?_⟩
    · rw [hcord]; rfl
    · rw [hcord]; rfl
    · rw [hfs]; exact hrun.loud
    · rw [hmem]; exact id
    · rw [arbOf_replied]; exact hraised
    · rw [mbxReplied_upd]; exact hnor
    · rw [mbxReplied_ks]; exact hks
    · intro k hk hne
      rw [arbOf_replied]
      exact hother k hk hne
  case zeroise =>
    intro ma level word s ⟨hrun, hilock⟩ hrole
    have hop : opZeroise (mbxOf s 0 0 []) (mbxTaken s) = (zeroise (mbxTaken s), { status := 0 }) := by simp [opZeroise, hrole, okay]
    refine answers_op (o := exec (.zeroise (.reg ma level word)) s) rfl hrun hilock hop ⟨?_, ?_, ?_, ?_⟩ fun d hd => ⟨hd, ?_, ?_⟩
    all_goals simp [zeroise, ksPost, hrun.loud]

end Sys2Proof.Proofs

/-! PROOF. Key entries of the dictionary (16 R508 to R514): a Verifier who revokes the own credential. -/

namespace Sys2Proof.Laws

open Sys2Proof Sys2Proof.Machine Sys2Proof.Safety

-- the runtime as the mailbox's host -------------------------------------------------------------------------------------------------------

/-- An operation's run, its answer read. -/
theorem mbxRun_replied {op : Nat} {f : MbxRq → State → State × MbxRes} {m : MbxRq} {s t : State} {r : MbxRes}
    (hf : f m (mbxTaken s) = (t, r)) (hbusy : t.cord.busy = true) : mbxRun op f m s = (mbxReplied op r t, r) := by
  have htaken : (if s.cord.busy then s
      else { s with cord := { s.cord with reqDoor := s.cord.rspDoor + 1, busy := true, mbxReq := s.cord.rspDoor + 1 } }) = mbxTaken s := by
    split
    next h => exact (mbxTaken_of_busy h).symm
    next h => exact (mbxTaken_of_idle (Bool.eq_false_of_not_eq_true h)).symm
  simp only [mbxRun, htaken, hf, mbxRsp, hbusy, true_and]
  rfl

/-- The answer to what an operation has left, as the runtime has read it. -/
def mbxRead (op : Nat) (r : MbxRes) (t : State) : State :=
  { mbxReplied op r t with cord := { (mbxReplied op r t).cord with rspUnread := false } }

/-- The runtime's request while the mailbox is free and Cord's firmware runs. -/
theorem viaMbx_free {op : Nat} {f : MbxRq → State → State × MbxRes} {m : MbxRq} {s t : State} {r : MbxRes} (hrun : Running s)
    (hilock : s.cord.ilock = true) (hfree : s.cord.busy = false) (hf : f m (mbxTaken s) = (t, r)) (hbusy : t.cord.busy = true) :
    viaMbx op f m s = (mbxRead op r t, r.status, r) := by
  have hreplied : mbxRun op (booted f) m s = (mbxReplied op r t, r) := mbxRun_replied ((booted_running hilock).trans hf) hbusy
  unfold viaMbx
  rw [if_neg (by simp [running_cordLive hrun, hfree]), hreplied]
  rfl

theorem mbxCode_free {op : Nat} {f : MbxRq → State → State × MbxRes} {arg0 arg1 : Nat} {data : List Byte} {s t : State} {r : MbxRes}
    (hrun : Running s) (hilock : s.cord.ilock = true) (hfree : s.cord.busy = false) (hf : f (mbxOf s arg0 arg1 data) (mbxTaken s) = (t, r))
    (hbusy : t.cord.busy = true) : mbxCode op f arg0 arg1 data s = (mbxRead op r t, r.status) := by
  unfold mbxCode
  rw [viaMbx_free hrun hilock hfree hf hbusy]

@[simp] theorem mbxRead_ks (op : Nat) (r : MbxRes) (t : State) : (mbxRead op r t).ks = t.ks := by simp [mbxRead]
@[simp] theorem mbxRead_upd (op : Nat) (r : MbxRes) (t : State) : (mbxRead op r t).upd = t.upd := by simp [mbxRead]
@[simp] theorem mbxRead_aud (op : Nat) (r : MbxRes) (t : State) : (mbxRead op r t).aud = t.aud := by simp [mbxRead]
@[simp] theorem mbxRead_od (op : Nat) (r : MbxRes) (t : State) : (mbxRead op r t).od = t.od := by simp [mbxRead]
@[simp] theorem mbxRead_out (op : Nat) (r : MbxRes) (t : State) : (mbxRead op r t).out = t.out := by simp [mbxRead, mbxReplied]
@[simp] theorem mbxRead_sup (op : Nat) (r : MbxRes) (t : State) : (mbxRead op r t).sup = t.sup := by simp [mbxRead, mbxReplied]

@[simp] theorem mbxRead_cord (op : Nat) (r : MbxRes) (t : State) :
    (mbxRead op r t).cord = { t.cord with rspDoor := t.cord.mbxReq, busy := false, rspUnread := false } := by simp [mbxRead, mbxReplied]

theorem mbxRead_mem (op : Nat) (r : MbxRes) (t : State) :
    (mbxRead op r t).mem = writeBytes t.mem (mbxBase + 0x8000) (mbxReply t.cord.mbxReq op r) := by simp [mbxRead, mbxReplied]

-- a Verifier at work -----------------------------------------------------------------------------------------------------------------------

/-- Bytes that two memories hold alike. -/
theorem readBytes_congr {m n : Memory} {a k : Nat} (h : ∀ b, a ≤ b → b < a + k → readByte m b = readByte n b) : readBytes m a k = readBytes n a k := by
  induction k generalizing a with
  | zero => rfl
  | succ k ih => rw [readBytes, readBytes, h a le_rfl (by omega), ih fun b hb hlt => h b (by omega) (by omega)]

/-- Cord's session ends with an entry where the trail is open. -/
theorem closeVerifier_used {v : VSess} {s : State} (reason : Nat) (h : s.cord.sess = some v) (hopen : TrailOpen 5 s) :
    (closeVerifier reason s).aud.used = s.aud.used + 1 := by
  have hclear (t : State) : (clearVmode t).aud = t.aud := by
    unfold clearVmode
    split
    · rfl
    · rfl
  simp only [closeVerifier, h, cordAppend_open (by decide) hopen]
  simp [hclear]

theorem closeVerifier_busy (reason : Nat) {s : State} (h : s.cord.busy = true) : (closeVerifier reason s).cord.busy = true := by
  have hclear (t : State) : (clearVmode t).cord.busy = t.cord.busy := by
    unfold clearVmode
    split
    · rfl
    · rfl
  cases hsess : s.cord.sess with
  | none => simp [closeVerifier, hsess, h]
  | some v => simp [closeVerifier, hsess, cordPost, hclear, h]

/-- The credential of a Verifier. -/
def ownCred : Cred := { slot := 2, key := zeros 32, level := 3, debug := false }

/-- A running module whose Verifier, credential 2, has session 17 over connection 3 and, by the proof of it, Cord's session 1. -/
def verifierAtWork : State :=
  { started with
    cord := { started.cord with ilock := true, session := true, vmode := true, switchSet := true, sess := some { handle := 1, slot := 2, actor := 5 } }
    aud := { started.aud with inited := true }
    ks := { started.ks with creds := [ownCred] }
    od := { started.od with
      conns := [3]
      sessions := [{ handle := 17, level := 3, proven := true, challenge := [], openedAt := 0, cred := some 2, path := .service 3, xfer := none
                     cord := some 1 }] } }

/-- Over that session the Verifier revokes the credential 2. -/
def revokeItself : Rq := { path := .service 3, session := 17, tid := 9, value := [2] }

theorem running_verifierAtWork : Running verifierAtWork := ⟨rfl, rfl, rfl, rfl, rfl, rfl, rfl, rfl, rfl, rfl, rfl, rfl⟩

theorem revokeItself_accepted :
    Accepted 0x1730 0x0C revokeItself { ty := .u 1, rd := none, wr := some 3, fol := false, lo := 0, hi := 31 } verifierAtWork where
  conn := ⟨3, rfl, rfl⟩
  length := by decide
  access := by decide +kernel
  entry := rfl
  value := by decide +kernel
  free := by decide

/-- What KS_REVOKE leaves there: the credential gone, its entry in the trail. -/
def ownGone : State := credentialGone 2 (revocationNoted ownCred (mbxTaken verifierAtWork))

theorem opKsRevoke_own : opKsRevoke (mbxOf verifierAtWork 1 2 []) (mbxTaken verifierAtWork) = (ownGone, { status := 0 }) := by
  have hrevoke := ksRevoke_cred (slot := 2) (c := ownCred) (s := mbxTaken verifierAtWork) rfl (by decide) fun _ => ⟨rfl, by decide, by decide⟩
  have hop : opKsRevoke (mbxOf verifierAtWork 1 2 []) (mbxTaken verifierAtWork) = ofStatus (ksRevoke 1 2 (mbxTaken verifierAtWork)) := rfl
  rw [hop, hrevoke]
  rfl

/-- The client is told before its session closes. -/
def ownTold : State := respond (writer 0x1730 0x0C revokeItself) 4 0 [] (mbxRead 0x0044 { status := 0 } ownGone)

theorem objCmd_revokeItself : objCmd 0x1730 0x0C revokeItself verifierAtWork = closeRevoked ownTold := by
  have hread : mbxCode 0x0044 opKsRevoke 1 2 [] verifierAtWork = (mbxRead 0x0044 { status := 0 } ownGone, 0) :=
    mbxCode_free running_verifierAtWork rfl rfl opKsRevoke_own (by simp [ownGone])
  have hcmd : plainCmd (askOf verifierAtWork (writer 0x1730 0x0C revokeItself)).session 0x1730 0x0C revokeItself.value verifierAtWork =
      mbxCode 0x0044 opKsRevoke 1 2 [] verifierAtWork := rfl
  rw [objCmd_plain running_verifierAtWork (by decide) (by decide) rfl rfl rfl rfl rfl rfl revokeItself_accepted, hcmd, hread, tellR_done]
  rfl

/-- The session as the revocation leaves it. -/
def ownSession : Session :=
  { handle := 17, level := 3, proven := true, challenge := [], openedAt := 0, cred := some 2, path := .service 3, xfer := none, cord := some 1
    revoked := true }

/-- The one session is revoked and closes, and with it the session of Cord that it had opened. -/
def ownClosing : State := post 0x0601 0x06 (le2 17 ++ u8 0) { ownTold with od := { ownTold.od with sessions := [] } }

theorem closeRevoked_own : closeRevoked ownTold =
    (viaMbx 0x0022 opClose { session := 1, arg0 := 0, arg1 := 0, data := [] } ownClosing).1 := by
  have hsessions : ownTold.od.sessions = [ownSession] := by
    simp [ownTold, respond, ownGone, credentialGone, ksPost, revokeSessions, revocationNoted, ownCred, verifierAtWork, ownSession]
  have hrevoked : ownTold.od.sessions.filter (fun x => x.revoked) = ownTold.od.sessions := by rw [hsessions]; rfl
  rw [closeRevoked, closeWhere, hrevoked, hsessions]
  show closeSession 17 0 ownTold = _
  simp only [closeSession, hsessions]
  rfl

/-- Cord's registers then: its session still open, the mailbox free. -/
theorem ownClosing_cord : ownClosing.cord.sess = some { handle := 1, slot := 2, actor := 5 } ∧ ownClosing.cord.ilock = true ∧
    ownClosing.cord.busy = false := by
  simp [ownClosing, ownTold, respond, ownGone, verifierAtWork]

/-- The trail then has one entry, and the memory that entry and the answer. -/
theorem ownClosing_trail : ownClosing.sup.isolated = [] ∧ ownClosing.aud.used = 1 ∧ ownClosing.aud.inited = true ∧
    ownClosing.mem = writeBytes (verifierEntered (fpBytes (zeros 32)) (zeros 8) (mbxTaken verifierAtWork)).mem (mbxBase + 0x8000)
      (mbxReply (mbxSeq verifierAtWork) 0x0044 { status := 0 }) := by
  have haud : ownClosing.aud = (verifierEntered (fpBytes (zeros 32)) (zeros 8) (mbxTaken verifierAtWork)).aud := by
    simp [ownClosing, ownTold, ownGone, respond, revocationNoted, ownCred]
  refine ⟨?_, ?_, ?_, ?_⟩
  · simp [ownClosing, ownTold, ownGone, respond, credentialGone, ksPost, revokeSessions, running_verifierAtWork.intact]
  · rw [haud, verifierEntered_used, mbxTaken_aud]
    rfl
  · rw [haud]
    rfl
  · simp [ownClosing, ownTold, ownGone, respond, revocationNoted, ownCred, mbxRead_mem]

/-- The entry leaves the units alone that the module runs on. -/
theorem audEntered_emb_hw_clk (stage : List Byte) (s : State) :
    (audEntered stage s).emb = s.emb ∧ (audEntered stage s).hw = s.hw ∧ (audEntered stage s).clk = s.clk := ⟨rfl, rfl, rfl⟩

theorem verifierEntered_emb_hw_clk (old new : List Byte) (s : State) : (verifierEntered old new s).emb = s.emb ∧
    (verifierEntered old new s).hw = s.hw ∧ (verifierEntered old new s).clk = s.clk := audEntered_emb_hw_clk ..

theorem mbxTaken_emb_hw_clk (s : State) : (mbxTaken s).emb = s.emb ∧ (mbxTaken s).hw = s.hw ∧ (mbxTaken s).clk = s.clk := by
  unfold mbxTaken
  split
  · exact ⟨rfl, rfl, rfl⟩
  · exact ⟨rfl, rfl, rfl⟩

theorem running_ownClosing : Running ownClosing := by
  have h := running_verifierAtWork
  constructor
  all_goals simp [ownClosing, ownTold, ownGone, respond, credentialGone, ksPost, revokeSessions, revocationNoted, ownCred, mbxRead, mbxReplied,
    verifierEntered_emb_hw_clk, mbxTaken_emb_hw_clk, h.kiln, h.rick, h.bank, h.cord, h.intact, h.runtime, h.rickUp, h.loud, h.ember, h.power, h.reset, h.clocks]

theorem length_entryBytes_le (stage : List Byte) (n sl time prev : Nat) : (entryBytes stage n sl time prev).length ≤ 64 := by
  simp [entryBytes, slice, le4, le8]
  omega

/-- An entry changes no byte behind its slot. -/
theorem readByte_audEntered_after (stage : List Byte) {s : State} {b : Nat} (h : entryAddr (s.aud.used + 1) + 64 ≤ b) :
    readByte (audEntered stage s).mem b = readByte s.mem b := by
  rw [audEntered_mem]
  refine readByte_writeBytes_other s.mem _ (Or.inr (le_trans (Nat.add_le_add_left (length_entryBytes_le ..) _) h))

theorem entryAddr_one : entryAddr (verifierAtWork.aud.used + 1) = audBase := rfl

/-- Slot 2 of the trail is still empty. -/
theorem slotValid_ownClosing : slotValid ownClosing.mem 2 = false := by
  obtain ⟨-, -, -, hmem⟩ := ownClosing_trail
  have hreply : (mbxReply (mbxSeq verifierAtWork) 0x0044 { status := 0 }).length = 32 := by simp [mbxReply, le2, le4, le8, zeros]
  have hempty (b : Nat) (h : entryAddr 2 + 60 ≤ b) (hlt : b < entryAddr 2 + 60 + 4) : readByte ownClosing.mem b = readByte verifierAtWork.mem b := by
    simp only [entryAddr, audBase] at h hlt
    have hentry : readByte (verifierEntered (fpBytes (zeros 32)) (zeros 8) (mbxTaken verifierAtWork)).mem b = readByte verifierAtWork.mem b := by
      rw [verifierEntered, readByte_audEntered_after _ (by rw [mbxTaken_aud, entryAddr_one, audBase]; omega), mbxTaken_mem]
    rw [hmem, readByte_writeBytes_other _ _ (by rw [hreply, mbxBase]; omega)]
    exact hentry
  rw [slotValid, readLe, readBytes_congr hempty]
  decide

theorem trailOpen_ownClosing : TrailOpen 5 ownClosing := by
  obtain ⟨hisolated, hused, hinited, -⟩ := ownClosing_trail
  have hvmode : ownClosing.cord.vmode = true := by
    simp [ownClosing, ownTold, ownGone, respond, verifierAtWork]
  refine ⟨?_, by rw [hused]; decide⟩
  simp [audRefuse, hinited, isolated, hisolated, hvmode, hused, slotValid_ownClosing, audMax]

end Sys2Proof.Laws

namespace Sys2Proof.Proofs

open Sys2Proof Sys2Proof.Machine Sys2Proof.Safety Sys2Proof.Laws

/-- Refutes O41: where a Verifier revokes the credential of the own session, the session's end closes Cord's session too, and the trail takes a second entry. -/
theorem not_keyEntriesComplete : ¬ Obligations.KeyEntriesComplete := by
  intro h
  obtain ⟨-, -, -, -, -, -, hrevoke, -⟩ := h
  obtain ⟨t, ht, -, hused, -⟩ := hrevoke revokeItself _ ownCred verifierAtWork ⟨running_verifierAtWork, rfl, rfl, revokeItself_accepted⟩ rfl rfl rfl rfl
    ⟨by decide, by decide⟩
  obtain ⟨hsess, hilock, hfree⟩ := ownClosing_cord
  obtain ⟨-, hone, -, -⟩ := ownClosing_trail
  have hclosed : opClose { session := 1, arg0 := 0, arg1 := 0, data := [] } (mbxTaken ownClosing) =
      (closeVerifier 1 (mbxTaken ownClosing), { status := 0 }) := by
    simp [opClose, hsess, okay]
  have hvia := viaMbx_free (op := 0x0022) running_ownClosing hilock hfree hclosed (closeVerifier_busy 1 (by simp))
  have hexec : exec (.verifierRevoke revokeItself) verifierAtWork = finish (mbxRead 0x0022 { status := 0 } (closeVerifier 1 (mbxTaken ownClosing))) := by
    refine congrArg finish (?_ : objCmd 0x1730 0x0C revokeItself verifierAtWork = _)
    rw [objCmd_revokeItself, closeRevoked_own, hvia]
  obtain rfl : t = settle (mbxRead 0x0022 { status := 0 } (closeVerifier 1 (mbxTaken ownClosing))) := Host.Outcome.next.inj (ht.symm.trans hexec)
  have htwice := closeVerifier_used (v := { handle := 1, slot := 2, actor := 5 }) (s := mbxTaken ownClosing) 1 hsess (trailOpen_taken trailOpen_ownClosing)
  rw [settle_aud, mbxRead_aud, htwice, mbxTaken_aud, hone] at hused
  exact absurd hused (by decide)

end Sys2Proof.Proofs

/-! PROOF. Cell errors, missed response bounds and Bank's reset (01 R15 to R25, 17 R523). -/

namespace Sys2Proof.Laws

open Sys2Proof Sys2Proof.Machine Sys2Proof.Safety

/-- The DRAM controller has no spare rows. -/
theorem spares_dram (p : Sup) (cell : Nat) : spares p 0x60#8 cell = none := by simp [spares]

theorem corrected_dram (cell row : Nat) (s : State) : corrected 0x60#8 cell row s = { s with
    sup := { s.sup with
      ceCount := satInc s.sup.ceCount
      ceHist := { block := 0x60#8, cell := cell, row := row, time := timeNs s } ::
        s.sup.ceHist.filter (fun h => decide (timeNs s - h.time ≤ 86400000000000)) } } := by
  unfold corrected
  dsimp only
  rw [if_neg (by rw [spares_dram]; exact fun h => absurd h.2 (by decide))]

theorem uncorrectable_dram (cell row : Nat) (s : State) : uncorrectable 0x60#8 cell row s = blockFault 0x01 0x60#8 cell s := by
  simp [uncorrectable, spares_dram]

/-- The supervisor's queue takes the records while Bank is up and its own block is whole. -/
theorem supPost_evr {s : State} (code : Nat) (data : List Byte) (hbank : s.sup.bankHeld = false) (h : isolated s 0x63#8 = false) :
    (supPost code data s).evr = { s.evr with supQueue := s.evr.supQueue ++ evRecs code 0x05 data } := by
  simp [supPost, hbank, h]

@[simp] theorem isolateEffects_evr_out (block : Byte) (s : State) :
    (isolateEffects block s).evr = s.evr ∧ (isolateEffects block s).out = s.out := by
  unfold isolateEffects
  (repeat' split) <;> exact ⟨rfl, rfl⟩

@[simp] theorem noteRegion_evr_out (r : Nat) (s : State) : (noteRegion r s).evr = s.evr ∧ (noteRegion r s).out = s.out := by
  unfold noteRegion ringIf
  split
  · simp
  · simp

/-- A degraded block lies in one of the five regions. -/
theorem degraded_region : ∀ block : Byte, degraded block = true → blockRegion block < 5 := by decide

/-- A degraded block that fails: its fault and its isolation are queued, its region told, nothing sent. -/
theorem blockFails_told {block : Byte} (h : degraded block = true) (cause cell : Nat) {s : State} (hrun : Running s) :
    (blockFails cause block cell s).evr.supQueue = s.evr.supQueue ++ evRecs 1 0x05 (le4 (faultWord 1 cause block cell).toNat) ++
        evRecs 2 0x05 (le4 (faultWord 2 cause block cell).toNat) ∧
      bit (blockFails cause block cell s).sup.regionFault (blockRegion block) = true ∧ (blockFails cause block cell s).out = s.out := by
  have hwhole := running_isolated hrun 0x63#8
  have hregion := degraded_region block h
  simp [blockFails, isolate, h, blockFault, recordFault, supPost, isolated, hrun.intact, hrun.bank, noteRegion, bit_setBit_same _ hregion]

end Sys2Proof.Laws

namespace Sys2Proof.Proofs

open Sys2Proof Sys2Proof.Machine Sys2Proof.Safety Sys2Proof.Laws

/-- Settles O6: each command by its branch. -/
theorem cellAndBlockFaults : Obligations.CellAndBlockFaults := by
  refine ⟨?corrected, ?uncorrectable, ?timeout, ?reset⟩
  case corrected =>
    intro b c r s hrun
    have hscrub : execDramPatrolScrub [.corrected b c r] s = finish (corrected 0x60#8 c r s) :=
      congrArg finish (if_neg (by simp [hrun.bank]))
    rw [corrected_dram] at hscrub
    refine answers_of_finish hscrub hrun.loud ⟨rfl, hrun.intact, rfl, rfl, rfl, rfl⟩
  case uncorrectable =>
    intro b c r s hrun
    have hscrub : execDramPatrolScrub [.uncorrectable b c r] s = finish (uncorrectable 0x60#8 c r s) :=
      congrArg finish (if_neg (by simp [hrun.bank]))
    rw [uncorrectable_dram] at hscrub
    exact hscrub
  case timeout =>
    intro b c m s hrun hb
    obtain ⟨hisolated, hlast, hloud, -⟩ := blockFails_degraded hb 0x05 c hrun.intact
    obtain ⟨hqueue, hregion, hout⟩ := blockFails_told hb 0x05 c hrun
    have htimeout : execBlockResponseTimeout b c m s = finish (responseTimeout b c m s) := rfl
    refine answers_of_finish htimeout (hloud.trans hrun.loud) ⟨hisolated, hlast, ?_, hloud.trans hrun.loud, ?_, ?_, ?_⟩
    · exact hregion
    · show (blockFails 0x05 b c s).out ++ _ = _
      rw [hout]
    · simp [responseTimeout]
    · exact hqueue
  case reset =>
    intro s hdrain hbusy
    have hreset : execBankResetAfterBurst s = finish _ := congrArg finish (if_pos (by simp [hdrain, hbusy]))
    exact answers_settled hreset ⟨by simp, by simp, rfl, rfl, rfl, rfl, rfl, rfl⟩

end Sys2Proof.Proofs

/-! PROOF. Bus requests, register writes and RETRY (00 R9, 01 R35, 12 R396 to R402, 17 R525). -/

namespace Sys2Proof.Laws

open Sys2Proof Sys2Proof.Machine Sys2Proof.Safety

-- a core's request on its way ----------------------------------------------------------------------------------------------------------------

/-- A core's request within a page that passes the Gate, nothing waiting, is offered to its target. -/
theorem busRequest_core {r : BusReq} {c : Nat} {s : State} (hrun : Running s) (hidle : s.bus.retries = []) (hm : r.master = .core c)
    (hcell : r.cell = .none) (hlen : r.len ≠ 0) (hpage : r.addr % 4096 + r.len ≤ 4096)
    (hpass : checkPart s.gate r.level (tagOf s.gate (.core c)) r.op r.addr = .pass) : busRequest r s = offer r r.level s := by
  have hlive : masterLive s (.core c) = true := by simp [masterLive, hrun.kiln]
  calc busRequest r s
    _ = checked r r.level s := by
      simp [busRequest, mustWait_noneOutstanding hidle, hm, hcell, hlive, hlen, insideCord, mramPort, levelAt, parityFirst]
    _ = offer r r.level s := checked_passed hpage (by rw [partCheck, hm]; exact hpass)

/-- A live target that is not busy serves what it is offered. -/
theorem offer_served {r : BusReq} {level : Level} {s t : State} {e : BusEnd} (hbusy : r.busy = false)
    (hserve : serve r level (partsOf r.addr r.len) s = (t, e)) : offer r level s = answer r.master e t := by
  simp [offer, hbusy, hserve]

-- the DRAM ------------------------------------------------------------------------------------------------------------------------------------

theorem blkAt_dram {a : Nat} (h : 0x800000000 ≤ a) : blkAt a = none := by
  simp [blkAt, blkMap]
  omega

theorem targetLive_dram {a : Nat} {s : State} (hrun : Running s) (h : 0x800000000 ≤ a) : targetLive s a = true := by
  have hblock : targetBlock a = some 0x60#8 := by
    simp only [targetBlock, blkAt_dram h]
    rw [if_neg (by omega), if_neg (by omega), if_neg (by omega), if_neg (by omega), if_neg (by omega), if_pos h]
    rfl
  have hregion : blockRegion 0x60#8 = 3 := by decide
  simp [targetLive, hblock, hregion, running_isolated hrun, running_hearthOn hrun, running_bankLive hrun]

theorem statusAt_dram {a : Nat} (h : 0x800000000 ≤ a) : statusAt a = none := if_neg (by simp only [trigBase]; omega)

theorem memByte_dram {a : Nat} (s : State) (h : 0x800000000 ≤ a) : memByte s a = readByte s.mem a := by
  unfold memByte
  rw [if_neg (by omega), if_neg (by simp only [mbxBase]; omega), if_neg (by omega), statusAt_dram h]

/-- The bytes of a range, one after the other. -/
theorem readBytes_map (m : Memory) (a n : Nat) : readBytes m a n = (List.range n).map (fun k => readByte m (a + k)) := by
  induction n generalizing a with
  | zero => rfl
  | succ n ih =>
    rw [readBytes, ih, List.range_succ_eq_map, List.map_cons, List.map_map, Nat.add_zero]
    exact congrArg _ (List.map_congr_left fun k _ => by simp [Nat.add_assoc, Nat.add_comm 1 k])

theorem memBytes_dram {a n : Nat} (s : State) (h : 0x800000000 ≤ a) : memBytes s a n = readBytes s.mem a n := by
  rw [readBytes_map]
  exact List.map_congr_left fun k _ => memByte_dram s (by omega)

/-- Bytes written at their offsets are the bytes written in a row. -/
theorem foldl_writeByte (bs : List Byte) (m : Memory) (a k : Nat) :
    (bs.zip (List.range' k bs.length)).foldl (fun m x => writeByte m (a + x.2) x.1) m = writeBytes m (a + k) bs := by
  induction bs generalizing m k with
  | nil => rfl
  | cons b bs ih => simpa [List.range'_succ, writeBytes, Nat.add_assoc] using ih (writeByte m (a + k) b) (k + 1)

theorem memPut_dram {a : Nat} {bs : List Byte} (s : State) (h : 0x800000000 ≤ a) :
    memPut a bs s = markRange a bs.length { s with mem := writeBytes s.mem a bs } := by
  have hplain (m : Memory) (x : Byte × Nat) : (if (statusAt (a + x.2)).isSome then m else writeByte m (a + x.2) x.1) = writeByte m (a + x.2) x.1 := by
    rw [statusAt_dram (by omega)]
    rfl
  have hfold := foldl_writeByte bs s.mem a 0
  rw [← List.range_eq_range', Nat.add_zero] at hfold
  simp only [memPut, hplain, hfold]

/-- DRAM takes a core's write. -/
theorem serve_dramWrite {c a : Nat} {level l : Level} {data : List Byte} {s : State} (hrun : Running s) (h : 0x800000000 ≤ a) (hpage : a % 4096 + data.length ≤ 4096) :
    serve { master := .core c, level := l, op := .write, addr := a, len := data.length, data := data, cell := .none, busy := false } level
        (partsOf a data.length) s =
      (markRange a data.length { s with mem := writeBytes s.mem a data }, .done [] false) := by
  have hfar : ¬ (mbxBase ≤ a ∧ a < mbxBase + 0x10000) := by simp only [mbxBase]; omega
  simp [serve, targetLive_dram hrun h, reportCell, blkAt_dram h, partsOf_onePage hpage, serveParts, servePart, hfar, memPut_dram s h, fit_of_length, poisoned]

/-- DRAM answers a core's read. -/
theorem serve_dramRead {c a n : Nat} {level l : Level} {busy : Bool} {s : State} (hrun : Running s) (h : 0x800000000 ≤ a) (hpage : a % 4096 + n ≤ 4096) :
    serve { master := .core c, level := l, op := .read, addr := a, len := n, data := [], cell := .none, busy := busy } level (partsOf a n) s =
      (s, .done (readBytes s.mem a n) false) := by
  have hfar : ¬ (a < mbxBase + 8 ∧ mbxBase + 4 < a + n) := by simp only [mbxBase]; omega
  simp [serve, targetLive_dram hrun h, reportCell, blkAt_dram h, partsOf_onePage hpage, serveParts, servePart, hfar, memBytes_dram s h, doorRead, poisoned]

-- the registers of Ember ------------------------------------------------------------------------------------------------------------------------

theorem blkAt_emb {a : Nat} (h : 0x10003000 ≤ a) (hlt : a < 0x10004000) : blkAt a = some (.emb, a - 0x10003000) := by
  simp [blkAt, blkMap]
  omega

theorem targetLive_emb {a : Nat} {s : State} (hrun : Running s) (h : 0x10003000 ≤ a) (hlt : a < 0x10004000) : targetLive s a = true := by
  have hblock : targetBlock a = some (blkId .emb) := by simp [targetBlock, blkAt_emb h hlt]
  have hregion : blockRegion (blkId .emb) = 0 := by decide
  simp [targetLive, hblock, hregion, running_isolated hrun, running_hearthOn hrun]

/-- The write that a core makes of `len` bytes to a register at `a` in machine mode. -/
def coreWrite (c a len v : Nat) : BusReq :=
  { master := .core c, level := .m, op := .write, addr := a, len := len, data := leBytes len v, cell := .none, busy := false }

/-- A core's machine-mode write of EMB_WAKE_EN. -/
theorem write32_wakeEn {c : Nat} {w : Word} {s : State} (hlatch : s.bus.latches = []) :
    write32 (.core c) .m .emb 0x10003000 0x018 w s = { s with emb := { s.emb with wakeEn := w &&& 0x1F } } := by
  have hnarrow : wideAt .emb 0x018 = false := by decide
  have hdrop : dropLatch (.core c) s = s := by
    unfold dropLatch
    rw [hlatch]
    exact congrArg (fun l => { s with bus := { s.bus with latches := l } }) hlatch.symm
  simp only [write32, hnarrow, hdrop, Bool.not_false, if_true]
  rfl

/-- The bytes of a word, read again as a number. -/
theorem leNat_fit_leBytes (v : DWord) : BitVec.ofNat 32 (leNat (fit 4 (leBytes 4 v.toNat))) = v.setWidth 32 := by
  rw [fit_of_length (length_leBytes 4 _), leNat_leBytes]
  exact BitVec.eq_of_toNat_eq (by simp)

/-- A live block takes a core's aligned write of 4 bytes. -/
theorem serve_coreWrite {c a o v : Nat} {b : Blk} {s : State} (ps : List (Nat × Nat)) (hlive : targetLive s a = true) (hblk : blkAt a = some (b, o))
    (halign : a % 4 = 0) :
    serve (coreWrite c a 4 v) .m ps s =
      (write32 (.core c) .m b (a - o) o (BitVec.ofNat 32 (leNat (fit 4 (leBytes 4 v)))) s, .done [] false) := by
  simp [coreWrite, serve, hlive, hblk, reportCell, serveReg, regAligned, halign, writeReg]

theorem serve_wakeEn {c : Nat} {v : DWord} {s : State} (hrun : Running s) (hlatch : s.bus.latches = []) :
    serve (coreWrite c 0x10003018 4 v.toNat) .m (partsOf 0x10003018 4) s =
      ({ s with emb := { s.emb with wakeEn := v.setWidth 32 &&& 0x1F } }, .done [] false) := by
  have hblk : blkAt 0x10003018 = some (.emb, 0x018) := blkAt_emb (by decide) (by decide)
  rw [serve_coreWrite _ (targetLive_emb hrun (by decide) (by decide)) hblk (by decide), leNat_fit_leBytes]
  exact congrArg (fun t => (t, BusEnd.done [] false)) (write32_wakeEn hlatch)

/-- A register access that is not aligned ends with an access fault. -/
theorem serve_misaligned {r : BusReq} {level : Level} {b : Blk} {o : Nat} {s : State} (ps : List (Nat × Nat)) (hlive : targetLive s r.addr = true)
    (hblk : blkAt r.addr = some (b, o)) (hcell : r.cell = .none) (h : r.addr % r.len ≠ 0) : serve r level ps s = (s, .accessFault) := by
  simp [serve, hlive, hblk, hcell, reportCell, serveReg, regAligned, h]

/-- Neither the waiting requests nor the Gate's count of them matter to a module that runs. -/
theorem running_retries {s : State} (h : Running s) (xs : List Retry) (n : Nat) :
    Running { s with bus := { s.bus with retries := xs }, gate := { s.gate with oldPending := n } } :=
  ⟨h.kiln, h.rick, h.bank, h.cord, h.intact, h.runtime, h.rickUp, h.loud, h.ember, h.power, h.reset, h.clocks⟩

end Sys2Proof.Laws

namespace Sys2Proof.Proofs

open Sys2Proof Sys2Proof.Machine Sys2Proof.Safety Sys2Proof.Laws

/-- Settles O7: a core's request as its target serves it. -/
theorem busRequestsComplete : Obligations.BusRequestsComplete := by
  refine ⟨?write, ?read, ?wakeEn, ?misaligned, ?retry⟩
  case write =>
    intro c a level data s hrun hidle hdata hlo _ hpage hpass
    have hserved := (busRequest_core (r := { master := .core c, level := level, op := .write, addr := a, len := data.length, data := data, cell := .none, busy := false }) hrun hidle rfl rfl (by simpa using hdata) hpage hpass).trans
      (offer_served rfl (serve_dramWrite hrun hlo hpage))
    refine answers_of_finish (congrArg finish hserved) hrun.loud ⟨?_, ?_, rfl, rfl, rfl, rfl⟩
    · exact fun hwf => readBytes_writeBytes hwf a data
    · exact fun b hb => readByte_writeBytes_other s.mem data hb
  case read =>
    intro c a n level s hrun hidle hn hlo _ hpage hpass
    have hserved := (busRequest_core (r := { master := .core c, level := level, op := .read, addr := a, len := n, data := [], cell := .none, busy := false }) hrun hidle rfl rfl hn.ne' hpage hpass).trans
      (offer_served rfl (serve_dramRead hrun hlo hpage))
    exact (congrArg finish hserved).trans (finish_of_eq rfl hrun.loud)
  case wakeEn =>
    intro c v s hrun hidle hlatch hpass
    have hserved := (busRequest_core (r := coreWrite c 0x10003018 4 v.toNat) hrun hidle rfl rfl (Nat.succ_ne_zero 3) (by simp [coreWrite]) hpass).trans
      (offer_served rfl (serve_wakeEn hrun hlatch))
    have hwrite : registerWrite (.core c) .m 0x10003018 false v s = busRequest (coreWrite c 0x10003018 4 v.toNat) s := by
      simp only [registerWrite, coreWrite, Bool.false_eq_true, if_false]
    exact (congrArg finish (hwrite.trans hserved)).trans (finish_of_eq rfl hrun.loud)
  case misaligned =>
    intro c a wide v s hrun hidle hlo hhi hodd hpass
    have hsize : (if wide then 8 else 4) ≤ 8 ∧ 0 < (if wide then 8 else 4) := by cases wide <;> decide
    generalize hlen : (if wide then 8 else 4) = len at hsize hodd
    have hlast : a < 0x10004000 := by omega
    have hfault := serve_misaligned (r := coreWrite c a len v.toNat) (level := .m) (partsOf a len) (targetLive_emb hrun hlo hlast) (blkAt_emb hlo hlast) rfl hodd
    have hserved := (busRequest_core (r := coreWrite c a len v.toNat) hrun hidle rfl rfl hsize.2.ne' (by simp only [coreWrite]; omega) hpass).trans
      (offer_served rfl hfault)
    have hwrite : registerWrite (.core c) .m a wide v s = busRequest (coreWrite c a len v.toNat) s := by
      simp only [registerWrite, hlen, coreWrite]
    have hexec : exec (.registerWrite (.core c) .m a wide v) s = finish _ := congrArg finish (hwrite.trans hserved)
    exact hexec.trans (finish_of_eq rfl hrun.loud)
  case retry =>
    intro c a n k busy s hrun hn hk hlo _ hpage r hwaits
    have htake : takeRetry (.core c) s = some ({ req := r, retries := k }, { s with
        bus := { s.bus with retries := [] }, gate := { s.gate with oldPending := s.gate.oldPending - 1 } }) := by
      simp [takeRetry, hwaits, r]
    have hlive : masterLive s (.core c) = true := by simp [masterLive, hrun.kiln]
    cases busy with
    | true =>
      have hretry : retryReissue (.core c) true s = retryAgain { req := r, retries := k } s := by
        simp [retryReissue, htake, hlive, r, targetLive_dram hrun hlo]
      have hagain : retryAgain { req := r, retries := k } s = answer (.core c) (.retry (min 512 (16 * 2 ^ k)))
          { s with bus := { s.bus with retries := [{ req := r, retries := k + 1 }] } } := by
        simp [retryAgain, hk, hwaits, modAt, holdOff, r]
      exact (congrArg finish (hretry.trans hagain)).trans (finish_of_eq rfl hrun.loud)
    | false =>
      have hserve := serve_dramRead (c := c) (level := .s) (l := .s) (busy := true) (running_retries hrun [] (s.gate.oldPending - 1)) hlo hpage
      have hserved : retryReissue (.core c) false s = answer (.core c) (.done (readBytes s.mem a n) false)
          { s with bus := { s.bus with retries := [] }, gate := { s.gate with oldPending := s.gate.oldPending - 1 } } := by
        simp only [retryReissue, htake, hlive, Bool.not_true, Bool.false_and, Bool.false_eq_true, if_false]
        exact congrArg (fun x : State × BusEnd => answer (.core c) x.2 x.1) hserve
      exact (congrArg finish hserved).trans (finish_of_eq rfl hrun.loud)

end Sys2Proof.Proofs

/-! PROOF. The journal engine (11 R370 to R393) and the local writes of the dictionary (09 R327). -/

namespace Sys2Proof.Laws

open Sys2Proof Sys2Proof.Machine Sys2Proof.Safety

-- entries at their places ---------------------------------------------------------------------------------------------------------------------

theorem getElem?_modAt {α : Type} (l : List α) (i j : Nat) (f : α → α) : (modAt l i f)[j]? = if j = i then l[j]?.map f else l[j]? := by
  rw [modAt, List.getElem?_mapIdx]
  split
  · rfl
  · simp

theorem getElem?_putAt_other {α : Type} (l : List α) {i j : Nat} (v : α) (h : j ≠ i) : (putAt l i v)[j]? = l[j]? := by
  rw [putAt, getElem?_modAt, if_neg h]

@[simp] theorem length_modAt {α : Type} (l : List α) (i : Nat) (f : α → α) : (modAt l i f).length = l.length := List.length_mapIdx

@[simp] theorem length_putAt {α : Type} (l : List α) (i : Nat) (v : α) : (putAt l i v).length = l.length := length_modAt ..

theorem modAt_putAt {α : Type} (l : List α) (i : Nat) (v : α) (f : α → α) : modAt (putAt l i v) i f = putAt l i (f v) := by
  refine List.ext_getElem? fun j => ?_
  rw [putAt, putAt, getElem?_modAt, getElem?_modAt, getElem?_modAt]
  split
  · simp [Function.comp_def]
  · rfl

/-- A change that keeps what `p` reads keeps how many entries satisfy it. -/
theorem length_filter_modAt {α : Type} {p : α → Bool} {f : α → α} (h : ∀ x, p (f x) = p x) (l : List α) (i : Nat) :
    ((modAt l i f).filter p).length = (l.filter p).length := by
  have hmap : (modAt l i f).map p = l.map p := by
    refine List.ext_getElem? fun j => ?_
    rw [List.getElem?_map, List.getElem?_map, getElem?_modAt]
    split
    · simp [Function.comp_def, h]
    · rfl
  rw [← List.countP_eq_length_filter, ← List.countP_eq_length_filter]
  simpa [List.countP_map, Function.comp_def] using congrArg (List.countP id) hmap

-- records (R371, R374) ----------------------------------------------------------------------------------------------------------------------------

@[simp] theorem freeSegs_appendRec (j : Jrn) (k : Nat) (r : JRec) : freeSegs (appendRec j k r) = freeSegs j :=
  length_filter_modAt (p := fun g : JSeg => g.kind == .free) (f := fun g => { g with used := g.used + recBytes r, recs := g.recs ++ [r] }) (fun _ => rfl) j.segs k

/-- A record goes into the log segment in use where it has room. -/
theorem logRec_room {j : Jrn} {k : Nat} {r : JRec} (layout : Nat) (h : j.logSeg = some k) (hroom : hasRoom j k r = true) :
    logRec layout j r = appendRec j k r := by
  simp [logRec, h, hroom]

/-- Without one it begins the next free segment. -/
theorem logRec_next {j : Jrn} {k : Nat} {r : JRec} (layout : Nat) (h : j.logSeg = none) (hfree : nextFree j = some k) :
    logRec layout j r = { j with
      gen := j.gen + 1, lastSeg := k, dirCopy := !j.dirCopy, logSeg := some k
      segs := putAt j.segs k { kind := .log, gen := j.gen + 1, first := recCommit r, layout := layout, used := 64 + recBytes r, recs := [r] } } := by
  simp [logRec, h, allocSeg, hfree, appendRec, modAt_putAt]

@[simp] theorem jrnInt_jrn (b : Nat) (s : State) : (jrnInt b s).jrn = { s.jrn with intStatus := setBit s.jrn.intStatus b } := by
  unfold jrnInt ringIf
  dsimp only
  split
  · simp
  · rfl

@[simp] theorem jrnInt_sup_out (b : Nat) (s : State) : (jrnInt b s).sup = s.sup ∧ (jrnInt b s).out = s.out := by
  unfold jrnInt ringIf
  dsimp only
  split
  · simp
  · exact ⟨rfl, rfl⟩

/-- Where 8 segments are free after a record nothing is told and no pause ends. -/
theorem lowSegs_enough {s : State} (before : Nat) (h : 8 ≤ freeSegs s.jrn) : lowSegs before s = s := by
  unfold lowSegs
  rw [if_neg (by omega), if_neg (by omega)]

/-- Otherwise the pause ends, and the interrupt may be set: nothing else of the journal changes. -/
theorem lowSegs_jrn (before : Nat) (s : State) : ∃ st p, (lowSegs before s).jrn = { s.jrn with paused := p, intStatus := st } := by
  unfold lowSegs
  (repeat' split)
  · exact ⟨setBit s.jrn.intStatus 3, false, by simp⟩
  · exact ⟨s.jrn.intStatus, false, rfl⟩
  · exact ⟨s.jrn.intStatus, s.jrn.paused, rfl⟩

/-- A pass may begin by itself. -/
theorem autoPass_pass (s : State) : ∃ p, autoPass s = { s with jrn := { s.jrn with pass := p } } := by
  unfold autoPass
  split
  · exact ⟨_, rfl⟩
  · exact ⟨s.jrn.pass, rfl⟩

-- the end of a pass (R377) -------------------------------------------------------------------------------------------------------------------------

/-- The next free segment is free. -/
theorem nextFree_free {j : Jrn} {k : Nat} (h : nextFree j = some k) : (j.segs.getD k {}).kind = .free := by
  simpa using List.find?_some h

/-- An allocation writes another segment than one in use. -/
theorem allocSeg_keeps {j : Jrn} {k : Nat} {g : JSeg} (hg : g.kind = .log) (h : j.segs[k]? = some g) (kind : SegKind) (first layout : Nat) :
    (allocSeg j kind first layout).1.segs[k]? = some g ∧ (allocSeg j kind first layout).2 ≠ some k := by
  unfold allocSeg
  split
  next => exact ⟨h, by simp⟩
  next n hn =>
    have hne : k ≠ n := by
      rintro rfl
      have hfree := nextFree_free hn
      rw [List.getD_eq_getElem?_getD, h, Option.getD_some, hg] at hfree
      exact absurd hfree (by decide)
    exact ⟨(getElem?_putAt_other _ _ hne).trans h, by simpa using hne.symm⟩

theorem appendRec_keeps {j : Jrn} {k n : Nat} {g : JSeg} (r : JRec) (hn : k ≠ n) (h : j.segs[k]? = some g) : (appendRec j n r).segs[k]? = some g := by
  rw [appendRec, getElem?_modAt, if_neg hn, h]

/-- A log segment stays as it is while a snapshot is written to others. -/
theorem snapRecs_keeps {base layout k : Nat} {g : JSeg} (hg : g.kind = .log) (rs : List JRec) (j : Jrn) (o : Option Nat) (ho : o ≠ some k)
    (h : j.segs[k]? = some g) : (snapRecs base layout j o rs).segs[k]? = some g := by
  induction rs generalizing j o with
  | nil => simpa [snapRecs] using h
  | cons r rs ih =>
    obtain ⟨hkeep, hne⟩ := allocSeg_keeps hg h .snapshot base layout
    rcases hal : allocSeg j .snapshot base layout with ⟨j', o'⟩
    rw [hal] at hkeep hne
    have hfresh : ((match o' with
        | some n => snapRecs base layout (appendRec j' n r) (some n) rs
        | none => j') : Jrn).segs[k]? = some g := by
      cases o' with
      | none => exact hkeep
      | some n => exact ih _ _ hne (appendRec_keeps r (fun hc => hne (congrArg some hc.symm)) hkeep)
    cases o with
    | none => cases o' <;> simpa only [snapRecs, hal] using hfresh
    | some n =>
      simp only [snapRecs]
      split
      · exact ih _ _ ho (appendRec_keeps r (fun hc => ho (congrArg some hc.symm)) h)
      · cases o' <;> simpa only [hal] using hfresh

/-- An allocation changes the segments and what counts them. -/
def SegsOnly (j t : Jrn) : Prop := ∃ segs gen last dir, t = { j with segs := segs, gen := gen, lastSeg := last, dirCopy := dir }

theorem SegsOnly.trans {j t u : Jrn} (h : SegsOnly j t) (h' : SegsOnly t u) : SegsOnly j u := by
  obtain ⟨_, _, _, _, rfl⟩ := h
  obtain ⟨segs, gen, last, dir, rfl⟩ := h'
  exact ⟨segs, gen, last, dir, rfl⟩

theorem allocSeg_segsOnly (j : Jrn) (kind : SegKind) (first layout : Nat) : SegsOnly j (allocSeg j kind first layout).1 := by
  unfold allocSeg
  split
  · exact ⟨j.segs, j.gen, j.lastSeg, j.dirCopy, rfl⟩
  · exact ⟨_, _, _, _, rfl⟩

theorem appendRec_segsOnly (j : Jrn) (k : Nat) (r : JRec) : SegsOnly j (appendRec j k r) := ⟨_, j.gen, j.lastSeg, j.dirCopy, rfl⟩

theorem snapRecs_segsOnly (base layout : Nat) (rs : List JRec) (j : Jrn) (o : Option Nat) : SegsOnly j (snapRecs base layout j o rs) := by
  induction rs generalizing j o with
  | nil => exact ⟨j.segs, j.gen, j.lastSeg, j.dirCopy, by simp [snapRecs]⟩
  | cons r rs ih =>
    have halloc := allocSeg_segsOnly j .snapshot base layout
    rcases hal : allocSeg j .snapshot base layout with ⟨j', o'⟩
    rw [hal] at halloc
    have hnext (n : Nat) : SegsOnly j (snapRecs base layout (appendRec j' n r) (some n) rs) :=
      halloc.trans ((appendRec_segsOnly j' n r).trans (ih _ _))
    cases o with
    | none =>
      cases o' with
      | none => simpa only [snapRecs, hal] using halloc
      | some n => simpa only [snapRecs, hal] using hnext n
    | some n =>
      simp only [snapRecs]
      split
      · exact (appendRec_segsOnly j n r).trans (ih _ _)
      · cases o' with
        | none => simpa only [hal] using halloc
        | some n => simpa only [hal] using hnext n

/-- The journal with a snapshot written and the old segments released. -/
def snapped (base : Nat) (drop : JSeg → Bool) (s : State) : Jrn :=
  let j := snapRecs base (progId s) (releaseSegs s.jrn drop) none (snapshotOf s.mem (retBase s) (retLen s) base)
  { j with snapBase := base, wear := satAdd j.wear (retLen s), pass := none }

theorem snapped_fields (base : Nat) (drop : JSeg → Bool) (s : State) :
    (snapped base drop s).snapBase = base ∧ (snapped base drop s).wear = satAdd s.jrn.wear (retLen s) ∧
      (snapped base drop s).durable = s.jrn.durable ∧ (snapped base drop s).given = s.jrn.given ∧ (snapped base drop s).passes = s.jrn.passes := by
  obtain ⟨segs, gen, last, dir, hrecs⟩ := snapRecs_segsOnly base (progId s) (snapshotOf s.mem (retBase s) (retLen s) base) (releaseSegs s.jrn drop) none
  have hwear := congrArg Jrn.wear hrecs
  have hdurable := congrArg Jrn.durable hrecs
  have hgiven := congrArg Jrn.given hrecs
  have hpasses := congrArg Jrn.passes hrecs
  exact ⟨rfl, congrArg (satAdd · (retLen s)) hwear, hdurable, hgiven, hpasses⟩

theorem snapped_keeps {base k : Nat} {drop : JSeg → Bool} {g : JSeg} {s : State} (h : s.jrn.segs[k]? = some g) (hg : g.kind = .log)
    (hdrop : drop g = false) : (snapped base drop s).segs[k]? = some g :=
  snapRecs_keeps hg _ _ none (by simp) (by simp [releaseSegs, h, hdrop])

/-- The journal after a snapshot has become durable. -/
theorem snapshotDone_jrn (base : Nat) (drop : JSeg → Bool) (s : State) :
    ∃ st p, (snapshotDone base drop s).jrn = { snapped base drop s with paused := p, intStatus := st } :=
  lowSegs_jrn _ _

-- local writes (R327) ----------------------------------------------------------------------------------------------------------------------------------

/-- A value stored is the value that is configured. -/
theorem find_insertVal (x : CfgVal) (xs : List CfgVal) :
    (insertVal x xs).find? (fun v => v.index == x.index && v.sub == x.sub) = some x := by
  induction xs with
  | nil => simp [insertVal]
  | cons y ys ih =>
    unfold insertVal
    split
    · simp
    split
    next h =>
      have hkey : ¬ (y.index = x.index ∧ y.sub = x.sub) := by
        rintro ⟨hi, hs⟩
        simp [valBefore, hi, hs] at h
      rw [List.find?_cons_of_neg (by simpa using hkey), ih]
    · simp

theorem cfgVal_of_insertVal {t : State} {idx sub : Nat} {v : List Byte} {xs : List CfgVal} (h : t.od.vals = insertVal { index := idx, sub := sub, val := v } xs) :
    cfgVal t idx sub = v := by
  have hfind := find_insertVal { index := idx, sub := sub, val := v } xs
  simp only [cfgVal, h, hfind]

/-- The configuration area takes a write while Bank is up and its bucket holds a token. -/
theorem areaWrite_open {s : State} (hrun : Running s) (h : AreaOpen s) : areaWrite s = (cfgDraw s, 0) := by
  unfold areaWrite
  rw [if_neg (by simp [running_isolated hrun, hrun.bank]), if_neg (not_lt.mpr h)]

/-- A local entry below the exports, whose change waits for nothing, is decided here. -/
theorem objCmd_local {idx sub : Nat} {rq : Rq} {e : Meta} {s : State} (hrun : Running s) (hidx : idx < 0x6000) (hsub : sub < 256)
    (hvisible : visible idx sub = false) (hresume : isResume idx sub = false) (hcopied : e.copied = false) (hread : e.rd ≠ none)
    (h : Accepted idx sub rq e s) : objCmd idx sub rq s = closeRevoked (localWrite (askOf s (writer idx sub rq)) idx sub e rq.value s) := by
  have hlow : ¬ (0x7000 ≤ idx ∧ idx ≤ 0x7FFF) := by omega
  rw [objCmd_accepted hrun (by omega) hsub h]
  simp [routed, decided, writer_index (show idx < 65536 by omega), writer_sub idx hsub, hvisible, hresume, hcopied, hread, hlow]

/-- The client of an own request is told at once. -/
theorem tellAsker_own (c : Client) (s t : State) (code : Nat) : tellAsker (askOf s c) code t = if code = 0 then respond c 4 0 [] t else abort c code t := rfl

end Sys2Proof.Laws

/-! PROOF. The journal's commands (11 R370 to R393). -/

namespace Sys2Proof.Laws

open Sys2Proof Sys2Proof.Machine Sys2Proof.Safety

/-- The journal with a commit's closing record in its segment (R372). -/
def commitWritten (k : Nat) (r : JRec) (commit : Nat) (rest : List JPending) (bytes : Nat) (s : State) : State :=
  { s with jrn := { appendRec s.jrn k r with
      pending := rest, durable := commit, since := s.jrn.since + bytes, wear := satAdd s.jrn.wear bytes } }

/-- SEASON_PAUSE stored and in effect (R378). -/
def pauseStored (s : State) : State :=
  let t := storeVal 0x1500 8 [1] (cfgDraw s)
  { t with jrn := { t.jrn with paused := true } }

/-- The segments that the end of a pass releases (R377). -/
def releasedBy (p : JPass) (g : JSeg) : Bool := g.kind == .snapshot || g.recs.all (fun r => decide (recCommit r ≤ p.base))

/-- The journal once the pass's snapshot is durable and counted. -/
def passEnded (p : JPass) (s : State) : State :=
  let since := ((logRecs s.jrn).filter (fun r => decide (p.base < recCommit r))).map recBytes
  let t := snapshotDone p.base (releasedBy p) s
  { t with jrn := { t.jrn with passes := satInc t.jrn.passes, since := since.sum } }

theorem passEnded_jrn (p : JPass) (s : State) :
    (passEnded p s).jrn.snapBase = p.base ∧ (passEnded p s).jrn.wear = satAdd s.jrn.wear (retLen s) ∧ (passEnded p s).jrn.durable = s.jrn.durable ∧
      (passEnded p s).jrn.given = s.jrn.given ∧ (passEnded p s).jrn.passes = satInc s.jrn.passes ∧
      (∀ (k : Nat) (g : JSeg), s.jrn.segs[k]? = some g → g.kind = .log → (∃ r ∈ g.recs, p.base < recCommit r) → (passEnded p s).jrn.segs[k]? = some g) ∧
      (passEnded p s).mem = s.mem := by
  obtain ⟨st, pause, hdone⟩ := snapshotDone_jrn p.base (releasedBy p) s
  obtain ⟨hbase, hwear, hdurable, hgiven, hpasses⟩ := snapped_fields p.base (releasedBy p) s
  simp only [passEnded, hdone]
  refine ⟨hbase, hwear, hdurable, hgiven, congrArg satInc hpasses, ?_, by simp⟩
  intro k g h hg ⟨r, hr, hlt⟩
  refine snapped_keeps h hg ?_
  have hlater : ¬ ∀ x ∈ g.recs, recCommit x ≤ p.base := fun hall => absurd (hall r hr) (not_le.mpr hlt)
  simpa [releasedBy, hg] using hlater

end Sys2Proof.Laws

namespace Sys2Proof.Proofs

open Sys2Proof Sys2Proof.Machine Sys2Proof.Safety Sys2Proof.Laws

/-- Settles O30: each command by its branch. -/
theorem journalComplete : Obligations.JournalComplete := by
  refine ⟨?deltas, ?segment, ?durable, ?early, ?flush, ?leave, ?cmd, ?done, ?pause, ?error, ?third, ?claim⟩
  case deltas =>
    intro k p rest s hrun hpending hdeltas hds hseg hroom hfree hrest
    have hmarked : s.jrn.pending.map (fun q => if q.commit = p.commit then { q with deltas := true } else q) = { p with deltas := true } :: rest := by
      have hlater : rest.map (fun q => if q.commit = p.commit then { q with deltas := true } else q) = rest :=
        (List.map_congr_left (g := id) fun q hq => if_neg (hrest q hq)).trans (List.map_id rest)
      rw [hpending, List.map_cons, if_pos rfl, hlater]
    have hexec : execDeltasComplete s = finish { s with
        jrn := { appendRec s.jrn k (.delta p.task p.commit p.ds) with pending := { p with deltas := true } :: rest } } := by
      have hfind : s.jrn.pending.find? (fun p => !p.deltas) = some p := by simp [hpending, hdeltas]
      have hlog := logRec_room (r := .delta p.task p.commit p.ds) (progId s) hseg hroom
      simp only [execDeltasComplete, hfind, List.isEmpty_eq_false_iff.mpr hds, Bool.false_eq_true, if_false, hlog]
      rw [lowSegs_enough]
      · exact congrArg (fun l => finish { s with jrn := { appendRec s.jrn k (.delta p.task p.commit p.ds) with pending := l } }) hmarked
      · exact hfree.trans (freeSegs_appendRec ..).ge
    exact hexec.trans (finish_of_eq rfl hrun.loud)
  case segment =>
    intro k p rest s hrun hpending hdeltas hds hseg hfree _
    have hfind : s.jrn.pending.find? (fun p => !p.deltas) = some p := by simp [hpending, hdeltas]
    have hlog := logRec_next (r := .delta p.task p.commit p.ds) (progId s) hseg hfree
    have hexec : execDeltasComplete s = finish (lowSegs (freeSegs s.jrn) { s with jrn := { logRec (progId s) s.jrn (.delta p.task p.commit p.ds) with
        pending := (logRec (progId s) s.jrn (.delta p.task p.commit p.ds)).pending.map
          (fun q => if q.commit = p.commit then { q with deltas := true } else q) } }) := by
      simp only [execDeltasComplete, hfind, List.isEmpty_eq_false_iff.mpr hds, Bool.false_eq_true, if_false]
    obtain ⟨st, pause, hlow⟩ := lowSegs_jrn (freeSegs s.jrn) { s with jrn := { logRec (progId s) s.jrn (.delta p.task p.commit p.ds) with
        pending := (logRec (progId s) s.jrn (.delta p.task p.commit p.ds)).pending.map
          (fun q => if q.commit = p.commit then { q with deltas := true } else q) } }
    refine answers_settled hexec ?_
    rw [settle_jrn, hlow, hlog, settle_mem]
    simp [recCommit]
  case durable =>
    intro k p rest s hrun hpending hdeltas hswap hseg hlen hk r bytes hroom
    have hlog := logRec_room (progId s) hseg hroom
    have hexec : execCommitDurable s = finish (autoPass (lowSegs (freeSegs s.jrn) (commitWritten k r p.commit rest bytes s))) := by
      rw [execCommitDurable, hpending]
      simp only [hdeltas, hswap, Bool.not_true, Bool.false_eq_true, if_false]
      rw [show JRec.commit p.task p.commit p.inst (p.ds.map deltaBytes).sum = r from rfl, hlog]
      rfl
    obtain ⟨st, pause, hlow⟩ := lowSegs_jrn (freeSegs s.jrn) (commitWritten k r p.commit rest bytes s)
    obtain ⟨pass, hauto⟩ := autoPass_pass (lowSegs (freeSegs s.jrn) (commitWritten k r p.commit rest bytes s))
    rw [hauto] at hexec
    have hk' : k < s.jrn.segs.length := hlen ▸ hk
    refine answers_settled hexec ?_
    rw [settle_jrn, settle_mem]
    simp only [hlow]
    refine ⟨rfl, rfl, rfl, rfl, rfl, ?_, ?_, by simp [commitWritten]⟩
    · show ((modAt s.jrn.segs k _).getD k {}).recs = _
      rw [getD_modAt, if_pos ⟨rfl, hk'⟩]
    · intro j hj
      show (modAt s.jrn.segs k _).getD j {} = _
      rw [getD_modAt, if_neg (fun h => hj h.1)]
  case early =>
    intro p rest s hrun hpending hdeltas
    have hexec : execCommitDurable s = finish s := by simp [execCommitDurable, hpending, hdeltas]
    exact hexec.trans (finish_of_eq rfl hrun.loud)
  case flush =>
    intro s hrun hcoalescing hbuffer n hn
    have hexec : execCoalesceFlush s = finish (flushBuffer s) := congrArg finish (if_pos (by rw [hcoalescing, Bool.true_and]; exact decide_eq_true hn))
    have hflush : flushBuffer s = { numberCommit 0xFF 0 s.jrn.buffer n s with
        jrn := { (numberCommit 0xFF 0 s.jrn.buffer n s).jrn with buffer := [], maxLag := max s.jrn.maxLag (jrnLag s.jrn s.now) } } := by
      simp only [flushBuffer, List.isEmpty_eq_false_iff.mpr hbuffer, Bool.false_eq_true, if_false, ← show n = byteTokens (commitBytes s.jrn.buffer) from rfl, min_eq_right hn]
      rfl
    rw [hflush] at hexec
    exact answers_of_finish hexec hrun.loud ⟨rfl, hcoalescing, rfl, rfl, rfl, rfl⟩
  case leave =>
    intro s hrun hcoalescing hbuffer hfull
    have hflush : flushBuffer s = s := if_pos (by simp [hbuffer])
    have hexec : execCoalescingLeave s = finish (post 0x0801 0x61 (le4 s.jrn.maxLag) (jrnInt 1 { s with jrn := { s.jrn with coalescing := false } })) := by
      simp only [execCoalescingLeave, hcoalescing, hfull, decide_true, Bool.and_self, if_true, hflush]
    exact answers_settled hexec (by simp [bit_setBit_same])
  case cmd =>
    intro s hrun
    have hexec : execJrnCmdStartPass 0x5EA50001 s = finish (if s.jrn.host && passDue s && !s.jrn.paused then startPass { s with jrn := { s.jrn with cmdErr := false } }
        else { s with jrn := { s.jrn with cmdErr := true } }) :=
      congrArg finish (if_neg (by simp [hrun.bank, running_isolated hrun]; decide))
    have hstarted : (if s.jrn.host && passDue s && !s.jrn.paused then startPass { s with jrn := { s.jrn with cmdErr := false } }
        else { s with jrn := { s.jrn with cmdErr := true } }) = { s with
          jrn := if s.jrn.host = true ∧ passDue s = true ∧ s.jrn.paused = false
            then { s.jrn with cmdErr := false, pass := some { base := s.jrn.given, size := retLen s, cold := false } }
            else { s.jrn with cmdErr := true } } := by
      by_cases h : s.jrn.host = true ∧ passDue s = true ∧ s.jrn.paused = false
      · rw [if_pos h, if_pos (by simp [h])]
        rfl
      · rw [if_neg h, if_neg (by simpa [and_assoc] using h)]
    exact hexec.trans (finish_of_eq hstarted hrun.loud)
  case done =>
    intro p s hrun hpass hpaused
    obtain ⟨crossed, told, hexec⟩ : ∃ crossed told, execSeasoningPassDone s = finish (autoPass (postIf crossed 0x0809 0x61 []
        (post 0x0802 0x61 told (jrnInt 2 (passEnded p s))))) := by
      simp only [execSeasoningPassDone, hpass, hpaused, Bool.false_eq_true, if_false]
      exact ⟨_, _, rfl⟩
    obtain ⟨pass, hauto⟩ := autoPass_pass (postIf crossed 0x0809 0x61 [] (post 0x0802 0x61 told (jrnInt 2 (passEnded p s))))
    rw [hauto] at hexec
    obtain ⟨hbase, hwear, hdurable, hgiven, hpasses, hsegs, hmem⟩ := passEnded_jrn p s
    refine answers_settled hexec ?_
    simp only [settle_jrn, settle_mem, postIf_jrn, post_jrn, jrnInt_jrn, postIf_mem, post_mem]
    refine ⟨hbase, hpasses, bit_setBit_same _ (by decide), hwear, hdurable, hgiven, ?_, hsegs⟩
    simpa using hmem
  case pause =>
    intro rq mt s hrun hacc harea hv
    have hmeta : entryOf 0x1500 8 s = some { ty := .bool, wr := some 2, chg := .free, lo := 0, hi := 1, dflt := u8 0 } := rfl
    obtain rfl := Option.some.inj (hacc.entry.symm.trans hmeta)
    have hlocal := objCmd_local hrun (by decide) (by decide) rfl rfl rfl (by simp) hacc
    rw [hv] at hlocal
    refine ⟨fun hfree => ?_, fun hfree => ?_⟩
    · have hpause : applyVal 0x1500 8 [1#8] (storeVal 0x1500 8 [1#8] (cfgDraw s)) = pauseStored s := if_neg (not_lt.mpr hfree)
      have hwrite : localWrite (askOf s (writer 0x1500 8 rq)) 0x1500 8 { ty := .bool, wr := some 2, chg := .free, lo := 0, hi := 1, dflt := u8 0 } [1] s =
          respond (writer 0x1500 8 rq) 4 0 [] (pauseStored s) := by
        have hroom : ¬ (freeSegs s.jrn < 8) := not_lt.mpr hfree
        simp [localWrite, checkHalt, hroom, areaWrite_open hrun harea, hpause, afterLocal, tellAsker_own]
      have hexec : exec (.seasonPause rq) s = finish (respond (writer 0x1500 8 rq) 4 0 [] (pauseStored s)) := by
        refine congrArg finish (hlocal.trans ?_)
        rw [hwrite]
        exact closeRevoked_none fun x hx => (hacc.free x hx).2
      exact answers_of_finish hexec hrun.loud ⟨rfl, rfl, cfgVal_of_insertVal rfl, _, rfl, rfl, rfl⟩
    · have hwrite : localWrite (askOf s (writer 0x1500 8 rq)) 0x1500 8 { ty := .bool, wr := some 2, chg := .free, lo := 0, hi := 1, dflt := u8 0 } [1] s =
          abort (writer 0x1500 8 rq) 0x2702 s := by
        have hone : beNat [1#8] = 1 := rfl
        simp [localWrite, checkHalt, hfree, hone, tellAsker_own]
      have hexec : exec (.seasonPause rq) s = finish (abort (writer 0x1500 8 rq) 0x2702 s) := by
        refine congrArg finish (hlocal.trans ?_)
        rw [hwrite]
        exact closeRevoked_none fun x hx => (hacc.free x hx).2
      exact answers_of_finish hexec hrun.loud ⟨rfl, rfl, _, rfl, rfl, rfl⟩
  case error =>
    intro block s hrun
    have hexec : execMramWriteError block false s = finish (post 0x0805 0x61 [] (jrnInt 0 { s with
        jrn := { s.jrn with retries := s.jrn.retries + 1, wrErr := satInc s.jrn.wrErr } })) := by
      simp [execMramWriteError, hrun.bank]
    refine answers_settled hexec ?_
    have hwhole : isolated (jrnInt 0 { s with jrn := { s.jrn with retries := s.jrn.retries + 1, wrErr := satInc s.jrn.wrErr } }) 0x63#8 = false := by
      simp [isolated, hrun.intact]
    rw [settle_sup_loud (by simp [hrun.loud]), post_sup_whole _ _ _ hwhole]
    simp [bit_setBit_same]
  case third =>
    intro block s hrun hblock
    have hne : block ≠ 0x4B#8 := by rintro rfl; exact absurd hblock (by decide)
    have hexec : execMramWriteError block true s = finish (blockFails 0x01 block 0 { s with jrn := { s.jrn with retries := 0 } }) := by
      simp [execMramWriteError, hrun.bank, hne]
    obtain ⟨hisolated, hlast, hloud, -⟩ := blockFails_degraded hblock 0x01 0 (s := { s with jrn := { s.jrn with retries := 0 } }) hrun.intact
    refine answers_of_finish hexec (hloud.trans hrun.loud) ⟨?_, hisolated, hloud.trans hrun.loud, hlast, ?_⟩
    · simp
    · simp
  case claim =>
    intro s hrun
    have hexec : execMramWriteError 0x4B true s = finish { s with jrn := { s.jrn with retries := 0 } } := by
      simp [execMramWriteError, hrun.bank]
    exact hexec.trans (finish_of_eq rfl hrun.loud)

end Sys2Proof.Proofs

/-! PROOF. Local inputs and outputs (14 R446 to R462). -/

namespace Sys2Proof.Laws

open Sys2Proof Sys2Proof.Machine Sys2Proof.Safety

-- bits ------------------------------------------------------------------------------------------------------------------------------------------------

theorem bit_and {n : Nat} (v w : BitVec n) (i : Nat) : bit (v &&& w) i = (bit v i && bit w i) := by simp [bit, Nat.testBit_and]

theorem bit_or {n : Nat} (v w : BitVec n) (i : Nat) : bit (v ||| w) i = (bit v i || bit w i) := by simp [bit, Nat.testBit_or]

theorem bit_not {n : Nat} (w : BitVec n) {i : Nat} (h : i < n) : bit (~~~w) i = !bit w i := by
  rw [bit, bit, ← BitVec.getLsbD.eq_1, ← BitVec.getLsbD.eq_1, BitVec.getLsbD_not]
  simp [h]

theorem bit_ofNat {n : Nat} (v : Nat) {i : Nat} (h : i < n) : bit (BitVec.ofNat n v) i = v.testBit i := by
  simp [bit, Nat.testBit_mod_two_pow, h]

/-- A sum of the powers that `p` names has just those bits. -/
theorem sumBits_spec (p : Nat → Bool) (n : Nat) :
    (List.range n).foldl (fun a k => a + (if p k then 2 ^ k else 0)) 0 < 2 ^ n ∧
      ∀ k < n, ((List.range n).foldl (fun a k => a + (if p k then 2 ^ k else 0)) 0).testBit k = p k := by
  induction n with
  | zero => simp
  | succ n ih =>
    obtain ⟨hlt, hbits⟩ := ih
    rw [List.range_succ, List.foldl_append, List.foldl_cons, List.foldl_nil]
    generalize (List.range n).foldl (fun a k => a + (if p k then 2 ^ k else 0)) 0 = a at hlt hbits
    refine ⟨?_, fun k hk => ?_⟩
    · rw [Nat.pow_succ]
      split <;> omega
    · rcases Nat.lt_succ_iff_lt_or_eq.mp hk with hk | rfl
      · cases p n with
        | false => exact hbits k hk
        | true => rw [if_pos rfl, Nat.add_comm, Nat.testBit_two_pow_add_gt hk, hbits k hk]
      · cases p k with
        | false => exact Nat.testBit_lt_two_pow hlt
        | true => rw [if_pos rfl, Nat.add_comm, Nat.testBit_two_pow_add_eq, Nat.testBit_lt_two_pow hlt]; rfl

/-- The byte of the outputs that conduct. -/
theorem bit_onByte (s : State) {k : Nat} (h : k < 8) : bit (BitVec.ofNat 8 (onByte s)) k = conducts s k := by
  rw [bit_ofNat _ h]
  exact (sumBits_spec (conducts s) 8).2 k h

-- groups ----------------------------------------------------------------------------------------------------------------------------------------------

@[simp] theorem lioGroup_setGroup_same (l : Lio) (k : Nat) (x : LioGroup) : lioGroup (setGroup l k x) k = x := by
  unfold lioGroup setGroup
  split <;> rfl

theorem lioGroup_setGroup_other (l : Lio) {k i : Nat} (hk : k < 2) (hi : i < 2) (h : i ≠ k) (x : LioGroup) :
    lioGroup (setGroup l k x) i = lioGroup l i := by
  unfold lioGroup setGroup
  split <;> split <;> first | rfl | omega

/-- Setting a group leaves the registers beside it. -/
theorem setGroup_keeps (l : Lio) (k : Nat) (x : LioGroup) : (setGroup l k x).off = l.off ∧ (setGroup l k x).latch = l.latch ∧
    (setGroup l k x).thermal = l.thermal ∧ (setGroup l k x).tripCount = l.tripCount ∧ (setGroup l k x).flags = l.flags := by
  unfold setGroup
  split <;> exact ⟨rfl, rfl, rfl, rfl, rfl⟩

@[simp] theorem lioFlag_lio (b : Nat) (s : State) : (lioFlag b s).lio = { s.lio with flags := setBit s.lio.flags b } := rfl

/-- What a group keeps of its state, both groups keep. -/
theorem lioGroup_setGroup_st (l : Lio) {k i : Nat} (hk : k < 2) (hi : i < 2) (x : LioGroup) (h : x.st = (lioGroup l k).st) :
    (lioGroup (setGroup l k x) i).st = (lioGroup l i).st := by
  by_cases hik : i = k
  · rw [hik, lioGroup_setGroup_same, h]
  · rw [lioGroup_setGroup_other l hk hi hik]

theorem lioGroup_off (l : Lio) (o : Byte) (k : Nat) : lioGroup { l with off := o } k = lioGroup l k := rfl

/-- Whether a channel conducts is told by what drives it. -/
theorem conducts_congr {s t : State} {i : Nat} (hout : t.pair.outEn = s.pair.outEn) (hlatch : t.lio.latch = s.lio.latch)
    (hoff : bit t.lio.off i = bit s.lio.off i) (hthermal : t.lio.thermal = s.lio.thermal) (hst : (lioGroup t.lio (i / 4)).st = (lioGroup s.lio (i / 4)).st) :
    conducts t i = conducts s i := by
  simp only [conducts, hout, hlatch, hoff, hthermal, hst]

/-- The channels of a group, as a byte. -/
def groupByte (k : Nat) : Byte := if k = 0 then 0x0F else 0xF0

theorem bit_groupByte {k j : Nat} (hk : k < 2) (hj : j < 4) : bit (groupByte k) (4 * k + j) = true ∧ bit (groupByte k) (4 * (1 - k) + j) = false := by
  interval_cases k <;> interval_cases j <;> decide

/-- A group as a trip leaves it. -/
def tripping (mv : Half) (x : LioGroup) : LioGroup :=
  { x with st := .tripped, mv10 := mv, missing := decide (mv.toNat < 500), recover := false, reEnable := false, nextOff := 0 }

/-- A trip of a group that was not tripped. -/
theorem trip_lio {k : Nat} {mv : Half} {s : State} (hst : (lioGroup s.lio k).st ≠ .tripped) (hmissing : (lioGroup s.lio k).missing = false) :
    ∃ f, bit f 1 = true ∧ (trip k mv s).lio = { setGroup s.lio k (tripping mv (lioGroup s.lio k)) with
      off := s.lio.off ||| (groupByte k &&& ~~~(BitVec.ofNat 8 (onByte s))), tripCount := satInc s.lio.tripCount, flags := f } := by
  unfold trip
  dsimp only
  rw [if_neg hst, hmissing]
  simp only [Bool.false_or, Bool.not_false, Bool.and_true]
  split
  · refine ⟨setBit (setBit (setGroup s.lio k (tripping mv (lioGroup s.lio k))).flags 1) 2, ?_, by simp [tripping, groupByte]⟩
    rw [bit_setBit_other _ (by decide), bit_setBit_same _ (by decide)]
  · exact ⟨setBit (setGroup s.lio k (tripping mv (lioGroup s.lio k))).flags 1, bit_setBit_same _ (by decide), by simp [tripping, groupByte]⟩

-- the local cycle (R446, R449) ----------------------------------------------------------------------------------------------------------------------

/-- The input area of a read mark (R447). -/
def inputArea (inputs : Half) (s : State) : List Byte :=
  u8 (heldBits s.lio.g0 (fld inputs 0 8)) ++ u8 (heldBits s.lio.g1 (fld inputs 8 8)) ++ u8 (groupQ s.lio.g0) ++ u8 (groupQ s.lio.g1) ++ u8 (onByte s) ++
    u8 (s.lio.limit ||| s.lio.thermal).toNat ++ u8 (groupNo s.lio.g0.st + 4 * groupNo s.lio.g1.st) ++ [0]

/-- The registers after a read mark. -/
def inputsRead (inputs : Half) (l : Lio) : Lio :=
  { l with
    inputs := inputs
    g0 := { l.g0 with held := heldBits l.g0 (fld inputs 0 8) }
    g1 := { l.g1 with held := heldBits l.g1 (fld inputs 8 8) } }

theorem readMark_cycle {inputs : Half} {s : State} (h : fld s.lio.cycle 0 3 ≠ 7) : readMark inputs s =
    { s with lio := inputsRead inputs s.lio, mem := writeBytes s.mem (rxBase + lioIn s.lio) (inputArea inputs s) } := by
  have hconducts : conducts { s with lio := inputsRead inputs s.lio } = conducts s := funext fun i =>
    conducts_congr rfl rfl rfl rfl (by unfold lioGroup inputsRead; split <;> rfl)
  have hon : onByte { s with lio := inputsRead inputs s.lio } = onByte s := by rw [onByte, hconducts, onByte]
  refine (if_neg h).trans ?_
  show { s with
      lio := inputsRead inputs s.lio
      mem := writeBytes s.mem (rxBase + lioIn s.lio) (u8 (heldBits s.lio.g0 (fld inputs 0 8)) ++ u8 (heldBits s.lio.g1 (fld inputs 8 8)) ++
        u8 (groupQ s.lio.g0) ++ u8 (groupQ s.lio.g1) ++ u8 (onByte { s with lio := inputsRead inputs s.lio }) ++
        u8 (s.lio.limit ||| s.lio.thermal).toNat ++ u8 (groupStates s.lio) ++ [0]) } = _
  rw [hon]
  rfl

theorem length_inputArea (inputs : Half) (s : State) : (inputArea inputs s).length = 8 := rfl

/-- The latch at a write mark leaves the groups, the protection and the memory. -/
theorem markLatch_keeps (s : State) : (markLatch s).lio.g0 = s.lio.g0 ∧ (markLatch s).lio.g1 = s.lio.g1 ∧ (markLatch s).lio.thermal = s.lio.thermal ∧
    (markLatch s).mem = s.mem ∧ (markLatch s).sup.failSilent = s.sup.failSilent := by
  unfold markLatch
  dsimp only
  (repeat' split) <;> simp

/-- A committed run fills the latch. -/
theorem markLatch_committed {s : State} (hcycle : fld s.lio.cycle 0 3 ≠ 7) (hp : s.cyc.pstate = .running) (h : s.lio.committed = true) :
    (markLatch s).lio = { s.lio with latch := readByte s.mem (emBase + lioOut s.lio), missed := 0, subst := false, committed := false } := by
  simp [markLatch, hcycle, hp, h]

/-- A mark missed below SUBST_COUNT is counted, and the latch holds. -/
theorem markLatch_held {s : State} (hcycle : fld s.lio.cycle 0 3 ≠ 7) (hp : s.cyc.pstate = .running) (h : s.lio.committed = false)
    (hfew : s.lio.missed + 1 < max 1 (fld s.lio.policy 12 4)) :
    (markLatch s).lio = { s.lio with missed := s.lio.missed + 1, missedCnt := satInc s.lio.missedCnt } := by
  have hbelow : ¬ (fld s.lio.policy 12 4 ≤ s.lio.missed + 1) := by omega
  simp [markLatch, hcycle, hp, h, substCount, hbelow]

/-- At SUBST_COUNT the latch takes the substitute byte. -/
theorem markLatch_substituted {s : State} (hcycle : fld s.lio.cycle 0 3 ≠ 7) (hp : s.cyc.pstate = .running) (h : s.lio.committed = false)
    (hmany : max 1 (fld s.lio.policy 12 4) ≤ s.lio.missed + 1) :
    (markLatch s).lio = { s.lio with
      missed := s.lio.missed + 1, missedCnt := satInc s.lio.missedCnt, latch := readByte s.mem (substBase + lioOut s.lio), subst := true
      flags := setBit s.lio.flags 4 } := by
  have hreached : fld s.lio.policy 12 4 ≤ s.lio.missed + 1 := by omega
  simp [markLatch, hcycle, hp, h, substCount, hreached, substByte, lioOut]

/-- A group that is GOOD stays as it is at a write mark. -/
theorem markGroup_good {k : Nat} {s : State} (h : (lioGroup s.lio k).st = .good) : markGroup k s = s := by
  simp [markGroup, h]

theorem writeMark_good {s : State} (cool : Byte) (h0 : s.lio.g0.st = .good) (h1 : s.lio.g1.st = .good) :
    writeMark cool s = { markLatch s with lio := { (markLatch s).lio with
      thermal := (markLatch s).lio.thermal &&& ((markLatch s).lio.latch ||| ~~~cool), limit := (markLatch s).lio.limit &&& (markLatch s).lio.latch } } := by
  obtain ⟨hg0, hg1, -⟩ := markLatch_keeps s
  unfold writeMark
  dsimp only
  rw [markGroup_good (k := 0), markGroup_good (k := 1)]
  · exact (congrArg LioGroup.st hg1).trans h1
  · exact (congrArg LioGroup.st hg0).trans h0

end Sys2Proof.Laws

namespace Sys2Proof.Proofs

open Sys2Proof Sys2Proof.Machine Sys2Proof.Safety Sys2Proof.Laws

/-- Settles O35: each command by its branch. -/
theorem localIoComplete : Obligations.LocalIoComplete := by
  unfold Obligations.LocalIoComplete
  intro g
  refine ⟨?read, ?write, ?low, ?trip, ?off, ?good, ?recovered, ?rearm, ?lioCmd, ?lioNone, ?limit, ?thermal⟩
  case read =>
    intro inputs s hrun hcycle
    have hexec : execLocalReadMark inputs s = finish (readMark inputs s) := congrArg finish (if_pos (running_rickFull hrun))
    rw [readMark_cycle hcycle] at hexec
    refine answers_of_finish hexec hrun.loud ⟨rfl, rfl, rfl, fun hwf => ?_, fun b hb => ?_, rfl⟩
    · exact readBytes_writeBytes hwf (rxBase + lioIn s.lio) (inputArea inputs s)
    · exact readByte_writeBytes_other s.mem (inputArea inputs s) hb
  case write =>
    intro cool s hrun hcycle hp h0 h1
    have hexec : execLocalWriteMark cool s = finish (writeMark cool s) := congrArg finish (if_pos (running_rickFull hrun))
    obtain ⟨hg0, hg1, hthermal, hmem, hloud⟩ := markLatch_keeps s
    rw [writeMark_good cool h0 h1] at hexec
    refine answers_of_finish hexec (hloud.trans hrun.loud) ⟨fun hc => ?_, fun hc hfew => ?_, fun hc hmany => ?_, fun k hk => ?_, hg0, hg1, hmem⟩
    · rw [markLatch_committed hcycle hp hc]
      exact ⟨rfl, rfl, rfl, rfl⟩
    · rw [markLatch_held hcycle hp hc hfew]
      exact ⟨rfl, rfl, rfl⟩
    · rw [markLatch_substituted hcycle hp hc hmany]
      exact ⟨rfl, rfl, bit_setBit_same _ (by decide)⟩
    · show bit ((markLatch s).lio.thermal &&& ((markLatch s).lio.latch ||| ~~~cool)) k = _
      rw [bit_and, bit_or, bit_not _ hk, hthermal]
  case low =>
    intro k mv s hrun hk hst
    exact congrArg finish (if_pos ⟨running_rickLive hrun, hk, hst⟩)
  case trip =>
    intro k mv s hrun hk hst hmissing
    have hexec : execSupplyTrip k mv s = finish (trip k mv s) := congrArg finish (if_pos ⟨running_rickLive hrun, hk⟩)
    obtain ⟨f, hf, hlio⟩ := trip_lio (mv := mv) hst hmissing
    have hloud : (trip k mv s).sup.failSilent = false := by simp [hrun.loud]
    obtain ⟨-, hlatch, -⟩ := setGroup_keeps s.lio k (tripping mv (lioGroup s.lio k))
    have hgroup : lioGroup (trip k mv s).lio k = tripping mv (lioGroup s.lio k) := by
      rw [hlio]
      exact lioGroup_setGroup_same ..
    have hother : lioGroup (trip k mv s).lio (1 - k) = lioGroup s.lio (1 - k) := by
      rw [hlio]
      exact lioGroup_setGroup_other s.lio hk (by omega) (by omega) _
    have hoff (i : Nat) (hi : i < 8) : bit (trip k mv s).lio.off i = (bit s.lio.off i || (bit (groupByte k) i && !conducts s i)) := by
      rw [hlio]
      show bit (s.lio.off ||| (groupByte k &&& ~~~(BitVec.ofNat 8 (onByte s)))) i = _
      rw [bit_or, bit_and, bit_not _ hi, bit_onByte s hi]
    refine answers_of_finish hexec hloud ⟨?_, ?_, ?_, ?_, hother, ?_, ?_, ?_, ?_, ?_, ?_⟩
    · exact congrArg LioGroup.st hgroup
    · exact congrArg LioGroup.mv10 hgroup
    · exact congrArg LioGroup.nextOff hgroup
    · exact congrArg LioGroup.missing hgroup
    · intro j hj
      exact (hoff _ (by omega)).trans (by rw [(bit_groupByte hk hj).1, Bool.true_and])
    · intro j hj
      exact (hoff _ (by omega)).trans (by rw [(bit_groupByte hk hj).2, Bool.false_and, Bool.or_false])
    · exact congrArg Lio.tripCount hlio
    · exact (congrArg (bit · 1) (congrArg Lio.flags hlio)).trans hf
    · exact (congrArg Lio.latch hlio).trans hlatch
    · simp
  case off =>
    intro k j s hrun hk hj hnext
    have hexec : execTripSwitchOff k j s = finish { s with
        lio := { setGroup s.lio k { g s k with nextOff := j + 1 } with off := setBit s.lio.off (4 * k + j) } } :=
      congrArg finish (if_pos ⟨running_rickLive hrun, hk, hj, hnext⟩)
    obtain ⟨-, hlatch, hthermal, -, -⟩ := setGroup_keeps s.lio k { g s k with nextOff := j + 1 }
    have hgroup := lioGroup_setGroup_same s.lio k { g s k with nextOff := j + 1 }
    have hnextOff : (lioGroup (setGroup s.lio k { g s k with nextOff := j + 1 }) k).nextOff = j + 1 := congrArg LioGroup.nextOff hgroup
    have hst : (lioGroup (setGroup s.lio k { g s k with nextOff := j + 1 }) k).st = (g s k).st := by rw [hgroup]
    refine answers_of_finish hexec hrun.loud ⟨?_, hnextOff, hst, ?_, rfl⟩
    · simp [conducts, bit_setBit_same s.lio.off (show 4 * k + j < 8 by omega)]
    · intro i hi hne
      exact conducts_congr rfl hlatch (bit_setBit_other _ hne.symm) hthermal (lioGroup_setGroup_st s.lio hk (by omega) _ rfl)
  case good =>
    intro k mv s hrun hk hst
    have hexec : execSupplyGood k mv s = finish { s with lio := setGroup s.lio k { lioGroup s.lio k with st := .good, mv10 := mv } } :=
      congrArg finish (if_pos ⟨running_rickLive hrun, hk, hst⟩)
    exact hexec.trans (finish_of_eq rfl hrun.loud)
  case recovered =>
    intro k mv s hrun hk hst hnext
    refine (congrArg finish (if_pos ⟨running_rickLive hrun, hk, hst, hnext⟩)).trans ?_
    refine congrArg finish ?_
    simp only [autoGroup, Bool.or_eq_true]
    rfl
  case rearm =>
    intro rq mt s hrun hacc
    have hmeta : entryOf 0x1600 5 s = some { ty := .u 1, rd := none, wr := some 1, lo := 1, hi := 3 } := rfl
    obtain rfl := Option.some.inj (hacc.entry.symm.trans hmeta)
    have hrouted (t : State) (ht : visibleWrite (askOf s (writer 0x1600 5 rq)) 0x1600 5 rq.value s = t) (hsessions : t.od.sessions = s.od.sessions) :
        exec (.rearm rq) s = finish t := by
      refine congrArg finish ((objCmd_accepted hrun (by decide) (by decide) hacc).trans ?_)
      have hdecided : routed (writer 0x1600 5 rq) { ty := .u 1, rd := none, wr := some 1, lo := 1, hi := 3 } rq.value s = visibleWrite (askOf s (writer 0x1600 5 rq)) 0x1600 5 rq.value s := by
        simp [routed, decided, writer_index, writer_sub, visible, isResume]
      rw [hdecided, ht]
      exact closeRevoked_none fun x hx => (hacc.free x (hsessions ▸ hx)).2
    have hbad (hrole : s.pair.role = .active) : visibleWrite (askOf s (writer 0x1600 5 rq)) 0x1600 5 rq.value s =
        if rearmBad (beNat rq.value) s then abort (writer 0x1600 5 rq) 0x2A01 s
        else { s with od := { s.od with progWs := s.od.progWs ++ [{ sym := 0, elem := 4, value := rq.value, entry := some (entryE 0x1600 5 rq.value)
                                                                    client := some (writer 0x1600 5 rq), carried := false }] } } := by
      unfold visibleWrite
      rw [if_neg (not_not.mpr hrole)]
      cases hrearm : rearmBad (beNat rq.value) s with
      | true => simp [visibleState, hrearm, tellR_refused]
      | false => simp [visibleState, hrearm, exportSym, askOf]
    refine ⟨fun hrole hgood => ?_, fun hrole hrefused => ?_, fun hrole => ?_⟩
    · exact answers_of_finish (hrouted _ ((hbad hrole).trans (if_neg (by simp [hgood]))) rfl) hrun.loud ⟨rfl, rfl, rfl⟩
    · exact answers_of_finish (hrouted _ ((hbad hrole).trans (if_pos hrefused)) rfl) hrun.loud ⟨rfl, rfl, _, rfl, rfl, rfl⟩
    · have hrefused : visibleWrite (askOf s (writer 0x1600 5 rq)) 0x1600 5 rq.value s = abort (writer 0x1600 5 rq) 0x2203 s := if_pos hrole
      exact answers_of_finish (hrouted _ hrefused rfl) hrun.loud ⟨rfl, rfl, _, rfl, rfl, rfl⟩
  case lioCmd =>
    intro s hrun h0 h1
    have hexec : exec (.lioRearm .m 0x1A0E0003) s = finish (reEnables 3 s) := congrArg finish (if_pos ⟨rfl, by decide, running_rickLive hrun⟩)
    have hboth : reEnables 3 s = { s with lio := { s.lio with g0 := { s.lio.g0 with reEnable := true }, g1 := { s.lio.g1 with reEnable := true } } } := by
      simp [reEnables, Nat.testBit, reEnable, lioGroup, setGroup, h0, h1]
    exact hexec.trans (finish_of_eq hboth hrun.loud)
  case lioNone =>
    intro level w s hrun h
    have hexec : exec (.lioRearm level w) s = finish s :=
      congrArg finish (if_neg (fun hc => h.elim (fun hl => hl hc.1) (fun hw => hw hc.2.1)))
    exact hexec.trans (finish_of_eq rfl hrun.loud)
  case limit =>
    intro k s hrun hk hcond
    have hexec : execCurrentLimitLong k s = finish (lioFlag 5 (post 0x0B05 0x48 [] { s with lio := { s.lio with limit := setBit s.lio.limit k } })) :=
      congrArg finish (if_pos ⟨running_rickLive hrun, hk, hcond⟩)
    refine answers_of_finish hexec (by simp [hrun.loud]) ⟨?_, ?_, ?_, ?_, ?_⟩
    · simp [bit_setBit_same _ hk]
    · simp [bit_setBit_same]
    · simpa [conducts, lioGroup] using hcond
    · simp
    · simp
  case thermal =>
    intro k s hrun hk
    have hexec : execThermalShutdown k s = finish (lioFlag 6 (post 0x0B06 0x48 [] { s with lio := { s.lio with
        thermal := setBit s.lio.thermal k, limit := clrBit s.lio.limit k } })) :=
      congrArg finish (if_pos ⟨running_rickLive hrun, hk⟩)
    refine answers_of_finish hexec (by simp [hrun.loud]) ⟨?_, ?_, ?_, ?_, ?_, ?_⟩
    · simp [bit_setBit_same _ hk]
    · simp [bit_clrBit_same]
    · simp [bit_setBit_same]
    · simp [conducts, bit_setBit_same _ hk]
    · simp
    · simp

end Sys2Proof.Proofs

/-! PROOF. Module hardware (15 R469 to R489): power fail, withdrawal, the lever, temperatures. -/

namespace Sys2Proof.Laws

open Sys2Proof Sys2Proof.Machine Sys2Proof.Safety

/-- The memory that keeps its bytes without power is the MRAM (log 4). -/
theorem readByte_poweredOff (m : Memory) (a : Nat) :
    readByte (poweredOff m) a = if 0x20000000 ≤ a ∧ a < 0x40000000 then readByte m a else 0 := by
  induction m with
  | nil => simp [poweredOff, readByte, unlisted]
  | cons c m ih =>
    obtain ⟨a', b⟩ := c
    have hfilter : poweredOff ((a', b) :: m) = if 0x20000000 ≤ a' ∧ a' < 0x40000000 then (a', b) :: poweredOff m else poweredOff m := by
      simp only [poweredOff, List.filter_cons, decide_eq_true_eq]
    rw [hfilter]
    split
    next hin =>
      by_cases ha : a' = a
      · subst ha
        simp [readByte, hin]
      · simp only [readByte, if_neg ha, ih]
    next hout =>
      rw [ih]
      by_cases ha : a' = a
      · subst ha
        simp [hout]
      · simp only [readByte, if_neg ha]

/-- A record that the supervisor writes ahead while Bank is up. -/
theorem writeAhead_up {s : State} (code : Nat) (block : Byte) (hbank : s.sup.bankHeld = false) (h : isolated s 0x63#8 = false) :
    writeAhead code block [] s = writeEvent { code := BitVec.ofNat 16 code, block := block, cont := false, data := zeros 14 } s := by
  have hrecs : evRecs code block [] = [{ code := BitVec.ofNat 16 code, block := block, cont := false, data := zeros 14 }] := rfl
  unfold writeAhead
  rw [if_neg (by simp [hbank]), if_neg (by simpa using h), hrecs]
  rfl

/-- With no claim record waiting there is none to complete. -/
theorem finishClaim_idle {s : State} (h : s.pair.recBusy = false) : finishClaim s = s := if_neg (by simp [h])

/-- The acknowledgement of a switch leaves the lines and the mark. -/
theorem ackSwitch_lines (s : State) : (ackSwitch s).pair.driving = s.pair.driving ∧ (ackSwitch s).pair.armed = s.pair.armed ∧
    (ackSwitch s).pair.outEn = s.pair.outEn ∧ (ackSwitch s).pair.fenceMark = s.pair.fenceMark ∧ (ackSwitch s).pair.recBusy = s.pair.recBusy := by
  unfold ackSwitch
  split
  · split
    · exact ⟨rfl, rfl, rfl, rfl, rfl⟩
    · simp
  · exact ⟨rfl, rfl, rfl, rfl, rfl⟩

/-- A waiting claim record is completed, and the lines and the mark stay. -/
theorem finishClaim_lines {s : State} (hbusy : s.pair.recBusy = true) (hbank : s.sup.bankHeld = false) :
    (finishClaim s).pair.recBusy = false ∧ (finishClaim s).pair.driving = s.pair.driving ∧ (finishClaim s).pair.armed = s.pair.armed ∧
      (finishClaim s).pair.outEn = s.pair.outEn ∧ (finishClaim s).pair.fenceMark = s.pair.fenceMark := by
  simp [finishClaim, recordDone, hbusy, hbank, ackSwitch_lines, cfgDraw]

/-- A silenced module at the end of its hold-up. -/
def silenced (s : State) : State := { s with pair := silence s.pair, hw := { s.hw with holdup := false } }

/-- The last record, and the rails fall. -/
def lastRecord (r : EvRec) (s : State) : State := railsFall (regionsLost (writeEvent r (silenced s)))

theorem powerFail_running {s : State} (hrun : Running s) (hidle : s.pair.recBusy = false) :
    powerFail s = lastRecord { code := BitVec.ofNat 16 0x0C01, block := 0x01, cont := false, data := zeros 14 } s := by
  have hclaim : finishClaim (silenced s) = silenced s := finishClaim_idle hidle
  have hahead := writeAhead_up (s := silenced s) 0x0C01 0x01 hrun.bank (running_isolated hrun 0x63#8)
  have hpower : powerFail s = railsFall (regionsLost (writeAhead 0x0C01 0x01 [] (finishClaim (silenced s)))) :=
    if_neg (by simp [running_hearthOn hrun])
  rw [hpower, hclaim, hahead]
  rfl

theorem lastRecord_mem (r : EvRec) (s : State) : (lastRecord r s).mem = poweredOff (writeBytes s.mem (0x3C000000 + 32 * (s.evr.head % 131072))
    (evBytes s.evr.head s.mnt.comm r ++ le4 0xC0A1E7E5)) := rfl

theorem lastRecord_fields (r : EvRec) (s : State) : Silent (lastRecord r s) ∧ (lastRecord r s).hw.powerDown = true ∧
    (lastRecord r s).hw.porReleased = false ∧ (lastRecord r s).hw.holdup = false ∧ (lastRecord r s).evr.queue = [] ∧
    (lastRecord r s).evr.supQueue = [] ∧ (lastRecord r s).evr.head = (s.evr.head + 1) % 2 ^ 48 ∧ (lastRecord r s).pair.fenceMark = s.pair.fenceMark ∧
    (lastRecord r s).pair.epoch = s.pair.epoch ∧ (lastRecord r s).jrn.segs = s.jrn.segs ∧ (lastRecord r s).od.vals = s.od.vals ∧
    (lastRecord r s).ks = s.ks ∧ (lastRecord r s).sup.fsCause = 0 ∧ (lastRecord r s).sup.kilnHeld = true ∧ (lastRecord r s).sup.bankHeld = true ∧
    (lastRecord r s).sup.failSilent = s.sup.failSilent :=
  ⟨⟨rfl, rfl, rfl⟩, rfl, rfl, rfl, rfl, rfl, rfl, rfl, rfl, rfl, rfl, rfl, rfl, rfl, rfl, rfl⟩

/-- The bytes of the MRAM stay when power goes. -/
theorem readBytes_poweredOff (m : Memory) {a n : Nat} (hlo : 0x20000000 ≤ a) (hhi : a + n ≤ 0x40000000) :
    readBytes (poweredOff m) a n = readBytes m a n :=
  readBytes_congr fun b hb hlt => by rw [readByte_poweredOff, if_pos (by omega)]

/-- A module that has left its seat, its lines silenced. -/
def pulled (s : State) : State := { s with hw := { s.hw with seated := false, seatChanged := true }, pair := silence s.pair }

/-- The rest of a withdrawal (R476). -/
def withdrawn (s : State) : State :=
  let t := regionsLost (clearDivergence s)
  { t with hw := { t.hw with porReleased := false }, mnt := { t.mnt with running := false, held := [] } }

/-- The requests of key and lever at their end (R474, R553). -/
def requestsEnded (s : State) : State :=
  { s with
    pair := { s.pair with
      serviceTold := false, switch := s.pair.switch.map (fun w => { w with service := false }), leaveAfter := s.pair.leaveAfter && s.pair.leaving }
    hw := { s.hw with ejectTold := false } }

/-- The claim record of a module that is pulled: FENCEMARK goes with it (R476). -/
def claimEnded (s : State) : State :=
  if s.pair.role = .fenced then finishClaim { s with pair := { s.pair with fenceMark := false, recBusy := true } } else finishClaim s

theorem unseated_running {s : State} (hrun : Running s) (hseated : s.hw.seated = true) :
    unseated s = withdrawn (claimEnded (if safe s then pulled s else writeAhead 0x0C09 0x01 [] (pulled s))) := by
  have hon : hearthOn { s with hw := { s.hw with seated := false, seatChanged := true } } = true := by simp [hearthOn, hrun.power, hrun.reset]
  unfold unseated
  rw [if_neg (by simp [hseated])]
  dsimp only
  rw [if_neg (by simp [hon])]
  rfl

/-- Whether the withdrawal is told or not, the module is silenced and out of its seat. -/
theorem pulled_told {s : State} (hrun : Running s) : ∃ u, (if safe s then pulled s else writeAhead 0x0C09 0x01 [] (pulled s)) = u ∧
    u.pair = silence s.pair ∧ u.sup.failSilent = false ∧ u.sup.bankHeld = false ∧ u.hw.seated = false := by
  obtain ⟨r, hr⟩ : ∃ r, writeAhead 0x0C09 0x01 [] (pulled s) = writeEvent r (pulled s) := ⟨_, writeAhead_up 0x0C09 0x01 hrun.bank (running_isolated hrun 0x63#8)⟩
  rw [hr]
  cases safe s with
  | true => exact ⟨pulled s, rfl, rfl, hrun.loud, hrun.bank, rfl⟩
  | false => exact ⟨_, rfl, rfl, hrun.loud, hrun.bank, rfl⟩

theorem viaSeen_congr {s t : State} (hpair : t.pair = s.pair) (hslot : mySlot t = mySlot s) (hnow : t.now = s.now) : viaSeen t = viaSeen s := by
  simp only [viaSeen, heard, deadNs, hpair, hslot, hnow]
  rfl

/-- A junction too hot, before the module fails silent. -/
def overheated (j : Half) (s : State) : State :=
  { s with hw := { s.hw with junction := j }, sup := { s.sup with faultLed := true, atStart := s.sup.atStart ++ evRecs 0x0C08 0x01 [] } }

/-- The event of the lever. -/
def leverTold (opened : Bool) (s : State) : State :=
  post 0x0C03 0x01 (u8 (b2n opened)) { s with hw := { s.hw with ejectOpen := opened, flags := setBit s.hw.flags 2 } }

end Sys2Proof.Laws

namespace Sys2Proof.Proofs

open Sys2Proof Sys2Proof.Machine Sys2Proof.Safety Sys2Proof.Laws

/-- Settles O38: each command by its branch. -/
theorem hardwareComplete : Obligations.HardwareComplete := by
  refine ⟨?powerFail, ?unseated, ?fenced, ?offline, ?leaves, ?closed, ?warning, ?hot, ?clear⟩
  case powerFail =>
    intro s hrun hidle
    obtain ⟨r, hr, hpower⟩ : ∃ r : EvRec, r = { code := 0x0C01, block := 0x01, cont := false, data := zeros 14 } ∧ powerFail s = lastRecord r s :=
      ⟨_, rfl, powerFail_running hrun hidle⟩
    rw [← hr]
    have hexec : execPowerFail s = finish (lastRecord r s) := congrArg finish hpower
    obtain ⟨hsilent, hdown, hreset, hholdup, hqueue, hsup, hhead, hmark, hepoch, hsegs, hvals, hks, hcause, hkiln, hbank, hloud⟩ := lastRecord_fields r s
    have hmem := lastRecord_mem r s
    have hlen : (evBytes s.evr.head s.mnt.comm r ++ le4 0xC0A1E7E5).length = 32 := by simp [evBytes, le2, le4, u8]
    refine answers_of_finish hexec (hloud.trans hrun.loud)
      ⟨hsilent, hdown, hreset, hholdup, hqueue, hsup, hhead, hmark, hepoch, hsegs, hvals, hks, hcause, hkiln, hbank, fun hwf => ?_, fun _ a ha => ?_⟩
    · have hback := readBytes_writeBytes hwf (0x3C000000 + 32 * (s.evr.head % 131072)) (evBytes s.evr.head s.mnt.comm r ++ le4 0xC0A1E7E5)
      rw [hlen] at hback
      exact (congrArg (readBytes · _ 32) hmem).trans ((readBytes_poweredOff _ (by omega) (by omega)).trans hback)
    · refine (congrArg (readByte · a) hmem).trans ?_
      rw [readByte_poweredOff, if_neg (by omega)]
  case unseated =>
    intro s hrun hseated hopen hrole hidle
    have hsafe : safe s = true := by simp [safe, hopen, hrole]
    have hended : claimEnded (pulled s) = pulled s :=
      (if_neg (by simp [pulled, silence, hrole])).trans (finishClaim_idle hidle)
    have hunseated : unseated s = withdrawn (pulled s) := by rw [unseated_running hrun hseated, hsafe, if_pos rfl, hended]
    have hexec : execUnseated s = finish (withdrawn (pulled s)) := congrArg finish hunseated
    exact answers_of_finish hexec hrun.loud ⟨rfl, rfl, rfl, ⟨rfl, rfl, rfl⟩, rfl, rfl, rfl, rfl, rfl, rfl, rfl, rfl, rfl, rfl⟩
  case fenced =>
    intro s hrun hseated hrole
    obtain ⟨u, hu, hpair, hloud, hbank, hseat⟩ := pulled_told hrun
    have hended : claimEnded u = finishClaim { u with pair := { u.pair with fenceMark := false, recBusy := true } } :=
      if_pos (by rw [hpair]; exact hrole)
    have hexec : execUnseated s = finish (withdrawn (finishClaim { u with pair := { u.pair with fenceMark := false, recBusy := true } })) := by
      refine congrArg finish ?_
      rw [unseated_running hrun hseated, hu, hended]
    obtain ⟨hidle, hdriving, harmed, hout, hmark⟩ := finishClaim_lines (s := { u with pair := { u.pair with fenceMark := false, recBusy := true } }) rfl hbank
    have hkept : (finishClaim { u with pair := { u.pair with fenceMark := false, recBusy := true } }).sup.failSilent = false ∧
        (finishClaim { u with pair := { u.pair with fenceMark := false, recBusy := true } }).hw.seated = false := by simp [hloud, hseat]
    generalize finishClaim { u with pair := { u.pair with fenceMark := false, recBusy := true } } = w at hexec hidle hdriving harmed hout hmark hkept
    rw [hpair] at hdriving harmed hout
    exact answers_of_finish hexec hkept.1 ⟨hkept.2, rfl, ⟨hdriving, harmed, hout⟩, hmark, hidle⟩
  case offline =>
    intro s hrun hclosed hrole
    have heject : eject true s = leverTold true s := by
      simp [eject, hclosed, running_hearthOn hrun, hwPost, hwFlag, leverTold, serviceBegins, hrole]
    exact congrArg finish heject
  case leaves =>
    intro s hrun hclosed hrole hslot hseen hleaving hvia
    have hlever : eject true s = serviceBegins (leverTold true s) := by
      have hactive : s.pair.role ≠ .active := by rcases hrole with h | h <;> simp [h]
      simp [eject, hclosed, running_hearthOn hrun, hwPost, hwFlag, leverTold, hactive]
    have heject : eject true s = leaveRoles (leverTold true s) := by
      have hasked : serviceAsked (leverTold true s) = true := by simp [serviceAsked, leverTold]
      have hmine : mySlot (leverTold true s) ≠ .c := by simpa [mySlot, leverTold] using hslot
      rw [hlever]
      rcases hrole with h | h
      · have h' : (leverTold true s).pair.role = .standby := by simpa [leverTold] using h
        have hseen' : (leverTold true s).pair.switchSeen = none ∧ (leverTold true s).pair.leaving = false := by simp [leverTold, hseen, hleaving]
        simp [serviceBegins, h', serviceBeat, hasked, hseen', hmine]
      · have h' : (leverTold true s).pair.role = .reserve := by simpa [leverTold] using h
        have hvia' : viaSeen (leverTold true s) = false := (viaSeen_congr (by simp [leverTold]) (by simp [leverTold, mySlot]) (by simp [leverTold])).trans (hvia h)
        simp [serviceBegins, h', serviceBeat, hasked, hvia']
    have hexec : execEject true s = finish (leaveRoles (leverTold true s)) := congrArg finish heject
    refine answers_of_finish hexec ?_ ⟨?_, ?_, ?_, ?_⟩
    · simp [leverTold, hrun.loud]
    · exact leaveRoles_role _
    · simp [leverTold]
    · simp [leverTold, bit_setBit_same]
    · simp [leverTold]
  case closed =>
    intro s hrun hopen hrole hkey
    have hnone : serviceAsked (leverTold false s) = false := by simp [serviceAsked, leverTold, hkey]
    have heject : eject false s = requestsEnded (leverTold false s) := by
      have hjoin (t : State) (h : t.pair.role ≠ .offline) : tryJoin t = t := by simp [tryJoin, h]
      have hends : eject false s = serviceEnds (leverTold false s) := by
        simp [eject, hopen, running_hearthOn hrun, hwPost, hwFlag, leverTold]
      rw [hends, serviceEnds, if_neg (by simp [hnone])]
      exact hjoin _ (by simpa [leverTold] using hrole)
    have hexec : execEject false s = finish (requestsEnded (leverTold false s)) := congrArg finish heject
    refine answers_of_finish hexec ?_ ⟨?_, ?_, ?_, ?_, ?_⟩
    all_goals simp [requestsEnded, leverTold, hrun.loud, bit_setBit_same]
  case warning =>
    intro j s hrun
    exact congrArg finish (if_neg (by simp [running_hearthOn hrun]))
  case hot =>
    intro j s hrun
    have hloud : (overheated j s).sup.failSilent = false := hrun.loud
    have hexec : execOverTemperature j s = finish (chipError 0x09 0x01 0 (overheated j s)) :=
      congrArg finish (if_neg (by simp [running_hearthOn hrun]))
    refine answers_settled hexec ⟨chipError_stopped 0x01 0 hloud (by decide), ?_, ?_, ?_, ?_⟩
    · simp [overheated]
    · rw [chipError_loud hloud]
      simp [failSilent, overheated]
    · simp [overheated]
    · simp [overheated]
  case clear =>
    intro level w s hrun
    have hpeak : (if hearthOn s && bit w 0 then { s with hw := { s.hw with powerPeak := s.hw.powerNow } } else s) =
        { s with hw := { s.hw with powerPeak := if bit w 0 = true then s.hw.powerNow else s.hw.powerPeak } } := by
      rw [running_hearthOn hrun, Bool.true_and]
      cases bit w 0 <;> rfl
    exact finish_of_eq hpeak hrun.loud

end Sys2Proof.Proofs

/-! PROOF. The start sequence and the automatic restart (01 R27, R30, 10 R353). -/

namespace Sys2Proof.Proofs

open Sys2Proof Sys2Proof.Machine Sys2Proof.Safety Sys2Proof.Laws

/-- Settles O8: the start away from CLOCK-HOLD, and the automatic restart before and after the third. -/
theorem startsComplete : Obligations.StartsComplete := by
  refine ⟨?start, ?restart⟩
  case start =>
    intro s hreset hpower hphase hloud hrole
    have hhold : (s.pair.role == .clockHold) = false := beq_eq_false_iff_ne.mpr hrole
    refine congrArg finish ?_
    unfold startSequence
    rw [if_neg (by simp [hreset, hpower, hphase, hloud, hhold]), hhold]
    rfl
  case restart =>
    intro s hsilent hheld hblock hphase hrole recent
    have hhold : (s.pair.role == .clockHold) = false := beq_eq_false_iff_ne.mpr hrole
    have hauto : autoRestart s = if 3 ≤ recent.length then { s with sup := { s.sup with heldSilent := true, faultLed := true } }
        else { restart 1 s with sup := { (restart 1 s).sup with autoRestarts := s.now :: recent, fsPrev := true, clkHoldPrev := false } } := by
      unfold autoRestart
      rw [if_neg (by simp [hsilent, hheld, hblock, hphase, hhold]), hhold]
      rfl
    refine ⟨fun hfew => ?_, fun hthird => ?_⟩
    · have hexec : execAutoRestart s = finish { restart 1 s with
          sup := { (restart 1 s).sup with autoRestarts := s.now :: recent, fsPrev := true, clkHoldPrev := false } } :=
        congrArg finish (hauto.trans (if_neg (not_le.mpr hfew)))
      exact answers_of_finish hexec rfl ⟨rfl, rfl, rfl, rfl, rfl, rfl, rfl, rfl, rfl, rfl, rfl, rfl, rfl, rfl, rfl⟩
    · have hexec : execAutoRestart s = finish { s with sup := { s.sup with heldSilent := true, faultLed := true } } :=
        congrArg finish (hauto.trans (if_pos hthird))
      have hholds := settle_failSilentHolds { s with sup := { s.sup with heldSilent := true, faultLed := true } }
      refine answers_settled hexec ⟨?_, ?_, ?_, ?_, rfl, rfl⟩
      · simpa using hsilent
      · simp
      · simp
      · exact (hholds (by simpa using hsilent)).1

end Sys2Proof.Proofs

/-! PROOF. Scale channels (08 R285 to R308): their commands, the SCL_ registers' commands. -/

namespace Sys2Proof.Laws

open Sys2Proof Sys2Proof.Machine Sys2Proof.Safety

theorem scCh_putCh {p : Nat} {s : State} (c : ScCh) (h : p < s.scl.chans.length) : scCh (putCh p c s) p = c := getD_putAt_same c {} h

@[simp] theorem putUnit_scl_sup (a : Nat) (body : List Byte) (s : State) : (putUnit a body s).scl = s.scl ∧ (putUnit a body s).sup = s.sup := ⟨rfl, rfl⟩

@[simp] theorem putStatus_scl_sup (n p : Nat) (s : State) : (putStatus n p s).scl = s.scl ∧ (putStatus n p s).sup = s.sup := by
  unfold putStatus
  split
  · exact putUnit_scl_sup ..
  · exact ⟨rfl, rfl⟩

/-- A command that waits at a channel whose engine runs. -/
structure Waits (n p cmd : Nat) (k : ScaleCmd) (s : State) : Prop where
  run : Running s
  engine : s.scl.run = true
  ingress : s.scl.ingress = true
  phys : physOf s n = some p
  known : p < s.scl.chans.length
  code : k.cmd = cmd
  only : (scCh s p).cmds = [k]
  instr : 1 ≤ chInstr (scCh s p) ∧ chInstr (scCh s p) ≤ 5

/-- The command is applied, and its channel's status published. -/
theorem applyFront_waits {n p cmd : Nat} {k : ScaleCmd} {s : State} (h : Waits n p cmd k s) :
    applyFront cmd n s = putStatus n p { putCh p (applyCmd (scEnv s n p 0) k (scCh s p)) s with freeCtr := s.freeCtr + 1 } := by
  have hlive : sclLive s = true := by simp [sclLive, running_cordLive h.run, h.engine, h.ingress, running_isolated h.run]
  simp [applyFront, h.phys, h.only, h.code, hlive]

/-- What a command leaves of the state beside its channel. -/
theorem answers_applied {n p cmd : Nat} {k : ScaleCmd} {s : State} {o : Host.Outcome State Fault Refusal} {post : State → Prop}
    (ho : o = finish (applyFront cmd n s)) (h : Waits n p cmd k s)
    (hpost : ∀ t : State, scCh t p = applyCmd (scEnv s n p 0) k (scCh s p) → t.legal = s.legal → t.aud = s.aud → post t) : Answers o post := by
  rw [applyFront_waits h] at ho
  refine answers_of_finish ho (by simp [putCh, h.run.loud]) (hpost _ ?_ ?_ ?_)
  · have hscl := (putStatus_scl_sup n p { putCh p (applyCmd (scEnv s n p 0) k (scCh s p)) s with freeCtr := s.freeCtr + 1 }).1
    exact (congrArg (fun x : Scl => x.chans.getD p {}) hscl).trans (scCh_putCh (applyCmd (scEnv s n p 0) k (scCh s p)) h.known)
  · simp [putCh]
  · simp [putCh]

/-- What is reported of the one command that waited. -/
theorem applyCmd_only {env : ScEnv} {k : ScaleCmd} {c d : ScCh} {r : Nat} (h : cmdEffect env k c = (d, r)) (hd : d.cmds = [k]) :
    applyCmd env k c = { d with cseq := k.cseq, cmd := k.cmd, cresult := r, cmds := [] } := by
  simp [applyCmd, h, hd]

/-- A command that its instrument takes has its effect. -/
theorem cmdEffect_taken {env : ScEnv} {k : ScaleCmd} {c : ScCh} (hcode : 1 ≤ k.cmd ∧ k.cmd ≤ 7) (h : instrTakes (chInstr c) k.cmd = true) :
    cmdEffect env k c = match k.cmd with
      | 1 => cmdZero c
      | 2 => cmdTare c
      | 3 => cmdPreset k.arg c
      | 4 => cmdClear c
      | 5 => cmdStart env c
      | 6 => cmdEnd env c
      | _ => cmdReset c := by
  unfold cmdEffect
  refine (if_neg (by omega)).trans ((if_neg (by simp [h])).trans ?_)
  rfl

/-- The Cord processor reaches the registers of a running module. -/
theorem viaCord_running {s : State} (h : Running s) (f : State → State) : viaCord f s = f s := by
  simp [viaCord, running_cordLive h, running_isolated h]

/-- What every step of a fold keeps, the fold keeps. -/
theorem foldl_keeps {α β : Type} {f : State → α → State} (g : State → β) (hf : ∀ s x, g (f s x) = g s) (xs : List α) (s : State) :
    g (xs.foldl f s) = g s := by
  induction xs generalizing s with
  | nil => rfl
  | cons x xs ih => rw [List.foldl_cons, ih, hf]

/-- Where pending commands are discarded none waits. -/
theorem discardPending_channel (n : Nat) {p : Nat} {s : State} (h : p < s.scl.chans.length) :
    (scCh (discardPending n p s) p).cmds = [] ∧ p < (discardPending n p s).scl.chans.length ∧ (discardPending n p s).sup.failSilent = s.sup.failSilent := by
  unfold discardPending
  dsimp only
  by_cases hempty : (scCh s p).cmds.isEmpty = true
  · rw [if_pos hempty]
    exact ⟨List.isEmpty_iff.mp hempty, h, rfl⟩
  · rw [if_neg hempty]
    have hscl := foldl_keeps (f := fun s (_ : ScaleCmd) => cordPost 0x0519 (u8 n) s) State.scl (fun s _ => by simp [cordPost]) (scCh s p).cmds
      (putCh p (discardCmds (scCh s p)) s)
    have hsilent := foldl_keeps (f := fun s (_ : ScaleCmd) => cordPost 0x0519 (u8 n) s) (fun t => t.sup.failSilent) (fun s _ => by simp [cordPost])
      (scCh s p).cmds (putCh p (discardCmds (scCh s p)) s)
    refine ⟨?_, ?_, hsilent⟩
    · have hch : scCh (putCh p (discardCmds (scCh s p)) s) p = discardCmds (scCh s p) := scCh_putCh _ h
      rw [scCh, hscl, ← scCh, hch, discardCmds]
      split
      next hnone => exact List.getLast?_eq_none_iff.mp hnone
      next => rfl
    · rw [hscl]
      simpa [putCh] using h

/-- The values adopted, for a channel that has published no record of that index. -/
theorem adoptFrom_fields (env : ScEnv) (seq : Word) (zero tare aux : Int) (h : PubHist) (c : ScCh) :
    (adoptFrom env seq zero tare aux h c).tare = c.tare + (tare - h.tare) ∧ (adoptFrom env seq zero tare aux h c).seq = c.seq + (seq - h.seq) ∧
      (adoptFrom env seq zero tare aux h c).st = c.st := by
  have haux (c : ScCh) (old v : Int) : (putAux c old v).tare = c.tare ∧ (putAux c old v).seq = c.seq ∧ (putAux c old v).st = c.st := by
    unfold putAux
    (repeat' split) <;> exact ⟨rfl, rfl, rfl⟩
  exact haux ..

/-- Every instrument takes ZERO. -/
theorem instrTakes_zero {i : Nat} (h : 1 ≤ i ∧ i ≤ 5) : instrTakes i 1 = true := by
  obtain ⟨h1, h5⟩ := h
  interval_cases i <;> decide

end Sys2Proof.Laws

namespace Sys2Proof.Proofs

open Sys2Proof Sys2Proof.Machine Sys2Proof.Safety Sys2Proof.Laws

/-- Settles O25: each command by its effect on its channel. -/
theorem scaleCommandsComplete : Obligations.ScaleCommandsComplete := by
  unfold Obligations.ScaleCommandsComplete
  intro due told fit_
  have hwaits {n p cmd : Nat} {k : ScaleCmd} {s : State} (h : due n p cmd k s) : Waits n p cmd k s := by
    obtain ⟨hrun, hengine, hingress, hphys, hknown, hcode, honly, hlo, hhi⟩ := h
    exact ⟨hrun, hengine, hingress, hphys, hknown, hcode, honly, hlo, hhi⟩
  refine ⟨?zero, ?unstable, ?tare, ?preset, ?clear, ?start, ?stop, ?reset, ?told, ?sclStart, ?sclStop, ?adopt, ?retire⟩
  case zero =>
    intro n p k s hdue ⟨hovr, hunder, hstable⟩ hzero hlo hhi
    have h := hwaits hdue
    refine answers_applied rfl h fun t ht hlegal haud => ⟨?_, hlegal, haud⟩
    have heffect : cmdEffect (scEnv s n p 0) k (scCh s p) = ({ scCh s p with z := (scCh s p).m }, 0) := by
      rw [cmdEffect_taken (by rw [h.code]; decide) (by rw [h.code]; exact instrTakes_zero h.instr), h.code]
      simp [cmdZero, hovr, hunder, hstable, hzero, hlo, hhi]
    rw [ht, applyCmd_only heffect h.only]
  case unstable =>
    intro n p k s hdue hovr hunder hstable
    have h := hwaits hdue
    refine answers_applied rfl h fun t ht hlegal haud => ?_
    have heffect : cmdEffect (scEnv s n p 0) k (scCh s p) = (scCh s p, 1) := by
      rw [cmdEffect_taken (by rw [h.code]; decide) (by rw [h.code]; exact instrTakes_zero h.instr), h.code]
      simp [cmdZero, hovr, hunder, hstable]
    rw [ht, applyCmd_only heffect h.only]
  case tare =>
    intro n p k T s hdue hinstr ⟨hovr, hunder, hstable⟩ hmode hgross hround hpos hmax
    have h := hwaits hdue
    have hgross' : fLt 0#64 (gOf (scCh s p)) = true := hgross
    have htakes : instrTakes (chInstr (scCh s p)) k.cmd = true := by rw [h.code]; rcases hinstr with hi | hi <;> rw [hi] <;> decide
    refine answers_applied rfl h fun t ht hlegal haud => ⟨?_, hlegal⟩
    have heffect : cmdEffect (scEnv s n p 0) k (scCh s p) = ({ scCh s p with tare := T, preset := false }, 0) := by
      rw [cmdEffect_taken (by rw [h.code]; decide) htakes, h.code]
      simp [cmdTare, hmode, hovr, hunder, hstable, hgross', hround, setTare, hpos, hmax]
    rw [ht, applyCmd_only heffect h.only]
  case preset =>
    intro n p k T s hdue hinstr ⟨hovr, hunder, hstable⟩ hmode hround hpos hmax
    have h := hwaits hdue
    have htakes : instrTakes (chInstr (scCh s p)) k.cmd = true := by rw [h.code]; rcases hinstr with hi | hi <;> rw [hi] <;> decide
    refine answers_applied rfl h fun t ht hlegal haud => ⟨?_, hlegal⟩
    have heffect : cmdEffect (scEnv s n p 0) k (scCh s p) = ({ scCh s p with tare := T, preset := true }, 0) := by
      rw [cmdEffect_taken (by rw [h.code]; decide) htakes, h.code]
      simp [cmdPreset, hmode, hovr, hunder, hround, setTare, hpos, hmax]
    rw [ht, applyCmd_only heffect h.only]
  case clear =>
    intro n p k s hdue hinstr hmode
    have h := hwaits hdue
    have htakes : instrTakes (chInstr (scCh s p)) k.cmd = true := by rw [h.code]; rcases hinstr with hi | hi <;> rw [hi] <;> decide
    refine answers_applied rfl h fun t ht hlegal haud => ⟨?_, hlegal⟩
    have heffect : cmdEffect (scEnv s n p 0) k (scCh s p) = ({ scCh s p with tare := 0, preset := false }, 0) := by
      rw [cmdEffect_taken (by rw [h.code]; decide) htakes, h.code]
      simp [cmdClear, hmode]
    rw [ht, applyCmd_only heffect h.only]
  case start =>
    intro n p k s hdue hinstr hstable hopen
    have h := hwaits hdue
    have htakes : instrTakes (chInstr (scCh s p)) k.cmd = true := by rw [h.code]; rcases hinstr with hi | hi | hi <;> rw [hi] <;> decide
    refine answers_applied rfl h fun t ht hlegal haud => ?_
    obtain ⟨startG, axle, heffect⟩ : ∃ startG axle, cmdEffect (scEnv s n p 0) k (scCh s p) = ({ scCh s p with ins := { (scCh s p).ins with
        open_ := true, sum := 0, count := 0, gap := false, startG := startG, axle := axle, vehicle := 0 } }, 0) := by
      rw [cmdEffect_taken (by rw [h.code]; decide) htakes, h.code]
      exact ⟨_, _, (if_neg (by simp [hopen])).trans (if_neg (by simp [hstable]))⟩
    rw [ht, applyCmd_only heffect h.only]
    exact ⟨rfl, rfl, rfl, rfl, h.code, rfl, rfl, rfl⟩
  case stop =>
    intro n p k s hdue hinstr hstable hopen
    have h := hwaits hdue
    have htakes : instrTakes (chInstr (scCh s p)) k.cmd = true := by rw [h.code]; rcases hinstr with hi | hi | hi <;> rw [hi] <;> decide
    refine answers_applied rfl h fun t ht hlegal haud => ?_
    obtain ⟨ins, d, hclosed, hgap, hkind, heffect⟩ : ∃ ins d, ins.open_ = false ∧ d.gap = (scCh s p).ins.gap ∧
        d.kind = (match chInstr (scCh s p) with | 2 => 2 | 3 => 3 | _ => 6) ∧
        cmdEffect (scEnv s n p 0) k (scCh s p) = ({ scCh s p with ins := ins, due := (scCh s p).due ++ [d] }, 0) := by
      rw [cmdEffect_taken (by rw [h.code]; decide) htakes, h.code]
      simp only [cmdEnd, hopen, hstable, Bool.not_true, Bool.false_eq_true, if_false]
      rcases hinstr with hi | hi | hi
      all_goals
        rw [hi]
        exact ⟨_, _, rfl, rfl, rfl, rfl⟩
    rw [ht, applyCmd_only heffect h.only]
    exact ⟨hclosed, ⟨d, rfl, hgap, hkind⟩, rfl⟩
  case reset =>
    intro n p k s hdue hinstr
    have h := hwaits hdue
    have htakes : instrTakes (chInstr (scCh s p)) k.cmd = true := by rw [h.code]; rcases hinstr with hi | hi <;> rw [hi] <;> decide
    refine answers_applied rfl h fun t ht hlegal haud => ⟨?_, hlegal⟩
    have heffect : cmdEffect (scEnv s n p 0) k (scCh s p) =
        ({ scCh s p with ins := { (scCh s p).ins with total := 0, zone := 0, batchSum := 0 } }, 0) := by
      rw [cmdEffect_taken (by rw [h.code]; decide) htakes, h.code]
      rfl
    rw [ht, applyCmd_only heffect h.only]
  case told =>
    intro n p s hrun hphys hst hnozero hnot hfull
    have hexec : execInitialZeroTimeout n s = finish (post 0x0516 0x80 (u8 n) (putCh p { scCh s p with zeroTold := true } s)) := by
      simp [execInitialZeroTimeout, hphys, running_cordLive hrun, hst, hnozero, hnot, hfull, cordPost]
    exact hexec
  case sclStart =>
    intro s hrun hengine hst
    refine congrArg finish ((viaCord_running hrun sclStart).trans (if_neg ?_))
    rcases hst with h | h <;> simp [hengine, h]
  case sclStop =>
    intro s hrun hknown hst
    have hstop : sclStop s = putCh (selPhys s) { scCh (discardPending ((scCh s (selPhys s)).logical.getD 0xFF) (selPhys s) s) (selPhys s) with st := .idle }
        (discardPending ((scCh s (selPhys s)).logical.getD 0xFF) (selPhys s) s) := if_neg (by simp [hst])
    obtain ⟨hcmds, hlen, hloud⟩ := discardPending_channel ((scCh s (selPhys s)).logical.getD 0xFF) hknown
    have hexec := congrArg finish ((viaCord_running hrun sclStop).trans hstop)
    have hkept : (discardPending ((scCh s (selPhys s)).logical.getD 0xFF) (selPhys s) s).legal = s.legal ∧
        (discardPending ((scCh s (selPhys s)).logical.getD 0xFF) (selPhys s) s).mem = s.mem := by simp
    generalize discardPending ((scCh s (selPhys s)).logical.getD 0xFF) (selPhys s) s = u at hcmds hlen hloud hexec hkept
    have hch := scCh_putCh { scCh u (selPhys s) with st := .idle } hlen
    exact answers_of_finish hexec (hloud.trans hrun.loud) ⟨congrArg ScCh.st hch, (congrArg ScCh.cmds hch).trans hcmds, hkept.1, hkept.2⟩
  case adopt =>
    intro s hrun hknown hpubs
    have hfind : (scCh s (selPhys s)).pubs.find? (fun h => h.lastIdx == s.scl.adoptIdx) = none :=
      List.find?_eq_none.mpr fun h hh => by simpa using hpubs h hh
    obtain ⟨h, htare, hseq, hadopt⟩ : ∃ h : PubHist, h.tare = (scCh s (selPhys s)).tare ∧ h.seq = (scCh s (selPhys s)).seq ∧
        sclAdopt s = putCh (selPhys s) (adoptFrom (scEnv s ((scCh s (selPhys s)).logical.getD 0xFF) (selPhys s) 0) s.scl.adoptSeq s.scl.adoptZero.toInt
          s.scl.adoptTare.toInt s.scl.adoptAux.toInt h (scCh s (selPhys s))) s := by
      unfold sclAdopt
      dsimp only
      rw [hfind]
      exact ⟨_, rfl, rfl, rfl⟩
    have hexec := congrArg finish ((viaCord_running hrun sclAdopt).trans hadopt)
    obtain ⟨htare', hseq', hst'⟩ := adoptFrom_fields (scEnv s ((scCh s (selPhys s)).logical.getD 0xFF) (selPhys s) 0) s.scl.adoptSeq s.scl.adoptZero.toInt
      s.scl.adoptTare.toInt s.scl.adoptAux.toInt h (scCh s (selPhys s))
    generalize adoptFrom _ _ _ _ _ h (scCh s (selPhys s)) = c at hexec htare' hseq' hst'
    have hch := scCh_putCh c hknown
    refine answers_of_finish hexec hrun.loud ⟨(congrArg ScCh.tare hch).trans ?_, (congrArg ScCh.seq hch).trans ?_, (congrArg ScCh.st hch).trans hst', rfl⟩
    · rw [htare', htare]
      omega
    · rw [hseq', hseq]
      bv_omega
  case retire =>
    intro s hrun
    exact congrArg finish (viaCord_running hrun sclRetire)

end Sys2Proof.Proofs

/-! PROOF. COMMISSION and the fault injector (17 R533 to R543). -/

namespace Sys2Proof.Laws

open Sys2Proof Sys2Proof.Machine Sys2Proof.Safety

-- frames ------------------------------------------------------------------------------------------------------------------------------------------------

@[simp] theorem foldl_out {α : Type} {f : State → α → State} (hf : ∀ s x, (f s x).out = s.out) (xs : List α) (s : State) :
    (xs.foldl f s).out = s.out := by
  induction xs generalizing s with
  | nil => rfl
  | cons x xs ih => exact (ih _).trans (hf s x)
@[simp] theorem ite_out (c : Prop) [Decidable c] (s t : State) : (if c then s else t).out = if c then s.out else t.out := by
  split <;> rfl
@[simp] theorem foldl_mnt_comm {α : Type} {f : State → α → State} (hf : ∀ s x, (f s x).mnt.comm = s.mnt.comm) (xs : List α) (s : State) :
    (xs.foldl f s).mnt.comm = s.mnt.comm := by
  induction xs generalizing s with
  | nil => rfl
  | cons x xs ih => exact (ih _).trans (hf s x)
@[simp] theorem ite_mnt_comm (c : Prop) [Decidable c] (s t : State) : (if c then s else t).mnt.comm = if c then s.mnt.comm else t.mnt.comm := by
  split <;> rfl
@[simp] theorem ite_unit_mnt_comm (c : Prop) [Decidable c] (a b : Mnt) : (if c then a else b).comm = if c then a.comm else b.comm := by
  split <;> rfl
@[simp] theorem foldl_mnt_holders {α : Type} {f : State → α → State} (hf : ∀ s x, (f s x).mnt.holders = s.mnt.holders) (xs : List α) (s : State) :
    (xs.foldl f s).mnt.holders = s.mnt.holders := by
  induction xs generalizing s with
  | nil => rfl
  | cons x xs ih => exact (ih _).trans (hf s x)
@[simp] theorem ite_mnt_holders (c : Prop) [Decidable c] (s t : State) : (if c then s else t).mnt.holders = if c then s.mnt.holders else t.mnt.holders := by
  split <;> rfl
@[simp] theorem ite_unit_mnt_holders (c : Prop) [Decidable c] (a b : Mnt) : (if c then a else b).holders = if c then a.holders else b.holders := by
  split <;> rfl
@[simp] theorem foldl_mnt_rules {α : Type} {f : State → α → State} (hf : ∀ s x, (f s x).mnt.rules = s.mnt.rules) (xs : List α) (s : State) :
    (xs.foldl f s).mnt.rules = s.mnt.rules := by
  induction xs generalizing s with
  | nil => rfl
  | cons x xs ih => exact (ih _).trans (hf s x)
@[simp] theorem ite_mnt_rules (c : Prop) [Decidable c] (s t : State) : (if c then s else t).mnt.rules = if c then s.mnt.rules else t.mnt.rules := by
  split <;> rfl
@[simp] theorem ite_unit_mnt_rules (c : Prop) [Decidable c] (a b : Mnt) : (if c then a else b).rules = if c then a.rules else b.rules := by
  split <;> rfl
@[simp] theorem laneSend_out_od (n : Nat) (f : FlueFrame) (s : State) :
    (laneSend n f s).out = s.out ∧ (laneSend n f s).od = s.od := by
  refine ⟨?_, ?_⟩ <;> (unfold laneSend; rfl)
@[simp] theorem sendFlueF_out_od (flags : Byte) (dst : Option Slot) (body : FlueBody) (s : State) :
    (sendFlueF flags dst body s).out = s.out ∧ (sendFlueF flags dst body s).od = s.od := by
  unfold sendFlueF; simp
@[simp] theorem sendFlue_out_od (dst : Option Slot) (body : FlueBody) (s : State) :
    (sendFlue dst body s).out = s.out ∧ (sendFlue dst body s).od = s.od := by
  unfold sendFlue; simp
@[simp] theorem releaseToken_out_mnt_comm_mnt_rules (p : Holder → Bool) (s : State) :
    (releaseToken p s).out = s.out ∧ (releaseToken p s).mnt.comm = s.mnt.comm ∧ (releaseToken p s).mnt.rules = s.mnt.rules := by
  unfold releaseToken; simp
@[simp] theorem flushHeldTx_out_mnt_comm_mnt_holders_mnt_rules (s : State) :
    (flushHeldTx s).out = s.out ∧ (flushHeldTx s).mnt.comm = s.mnt.comm ∧ (flushHeldTx s).mnt.holders = s.mnt.holders ∧ (flushHeldTx s).mnt.rules = s.mnt.rules := by
  refine ⟨?_, ?_, ?_, ?_⟩
  · unfold flushHeldTx; rw [foldl_out (fun s x => by (repeat' split) <;> simp)]
  · unfold flushHeldTx; rw [foldl_mnt_comm (fun s x => by (repeat' split) <;> simp)]
  · unfold flushHeldTx; rw [foldl_mnt_holders (fun s x => by (repeat' split) <;> simp)]
  · unfold flushHeldTx; rw [foldl_mnt_rules (fun s x => by (repeat' split) <;> simp)]
@[simp] theorem fijStopRun_out_mnt_comm_mnt_rules (cause : Nat) (s : State) :
    (fijStopRun cause s).out = s.out ∧ (fijStopRun cause s).mnt.comm = s.mnt.comm ∧ (fijStopRun cause s).mnt.rules = s.mnt.rules := by
  unfold fijStopRun; simp
@[simp] theorem takeToken_out_od_mnt_comm_mnt_rules (h : Holder) (s : State) :
    (takeToken h s).out = s.out ∧ (takeToken h s).od = s.od ∧ (takeToken h s).mnt.comm = s.mnt.comm ∧ (takeToken h s).mnt.rules = s.mnt.rules := by
  unfold takeToken; simp
@[simp] theorem cfgDraw_out_od_mnt_comm_mnt_holders_mnt_rules (s : State) :
    (cfgDraw s).out = s.out ∧ (cfgDraw s).od = s.od ∧ (cfgDraw s).mnt.comm = s.mnt.comm ∧ (cfgDraw s).mnt.holders = s.mnt.holders ∧ (cfgDraw s).mnt.rules = s.mnt.rules := by
  refine ⟨?_, ?_, ?_, ?_, ?_⟩ <;> (unfold cfgDraw; rfl)
@[simp] theorem setCommission_out_od_mnt_rules (on : Bool) (s : State) :
    (setCommission on s).out = s.out ∧ (setCommission on s).od = s.od ∧ (setCommission on s).mnt.rules = s.mnt.rules := by
  unfold setCommission; simp
@[simp] theorem storeVal_out_mnt_comm_mnt_holders_mnt_rules (idx sub : Nat) (v : List Byte) (s : State) :
    (storeVal idx sub v s).out = s.out ∧ (storeVal idx sub v s).mnt.comm = s.mnt.comm ∧ (storeVal idx sub v s).mnt.holders = s.mnt.holders ∧ (storeVal idx sub v s).mnt.rules = s.mnt.rules := by
  refine ⟨?_, ?_, ?_, ?_⟩ <;> (unfold storeVal; rfl)
@[simp] theorem sendEntries_out_od (dst : Slot) (op : Nat) (txn : Word) (beat : DWord) (es : List ObjE) (s : State) :
    (sendEntries dst op txn beat es s).out = s.out ∧ (sendEntries dst op txn beat es s).od = s.od := by
  unfold sendEntries; simp

/-- A rule that judges a frame leaves the line and the token table. -/
theorem fijRule_comm_holders (m : Mnt) (k typ : Nat) (st : Option Nat) (len : Nat) :
    (fijRule m k typ st len).1.comm = m.comm ∧ (fijRule m k typ st len).1.holders = m.holders := by
  unfold fijRule
  dsimp only
  (repeat' split) <;> exact ⟨rfl, rfl⟩

theorem fijFlueTx_comm_holders (m : Mnt) (now lane : Nat) (f : FlueFrame) :
    (fijFlueTx m now lane f).1.comm = m.comm ∧ (fijFlueTx m now lane f).1.holders = m.holders := by
  have hrule := fijRule_comm_holders m (8 + 2 * lane) (bodyType f.body) none (flueBytes f)
  unfold fijFlueTx
  dsimp only
  split
  · exact ⟨rfl, rfl⟩
  · split
    all_goals
      next h =>
        rw [h] at hrule
        exact hrule

@[simp] theorem laneSend_mnt_comm_mnt_holders (n : Nat) (f : FlueFrame) (s : State) :
    (laneSend n f s).mnt.comm = s.mnt.comm ∧ (laneSend n f s).mnt.holders = s.mnt.holders := fijFlueTx_comm_holders ..

@[simp] theorem sendFlueF_mnt_comm_mnt_holders (flags : Byte) (dst : Option Slot) (body : FlueBody) (s : State) :
    (sendFlueF flags dst body s).mnt.comm = s.mnt.comm ∧ (sendFlueF flags dst body s).mnt.holders = s.mnt.holders := by
  unfold sendFlueF
  simp

@[simp] theorem sendFlue_mnt_comm_mnt_holders (dst : Option Slot) (body : FlueBody) (s : State) :
    (sendFlue dst body s).mnt.comm = s.mnt.comm ∧ (sendFlue dst body s).mnt.holders = s.mnt.holders := by
  unfold sendFlue
  simp

@[simp] theorem sendEntries_mnt_comm_mnt_holders (dst : Slot) (op : Nat) (txn : Word) (beat : DWord) (es : List ObjE) (s : State) :
    (sendEntries dst op txn beat es s).mnt.comm = s.mnt.comm ∧ (sendEntries dst op txn beat es s).mnt.holders = s.mnt.holders := by
  unfold sendEntries
  simp

-- the token table (R528, R540) --------------------------------------------------------------------------------------------------------------------------

theorem releaseToken_holders (p : Holder → Bool) (s : State) : (releaseToken p s).mnt.holders = s.mnt.holders.filter (fun h => !p h) := by
  unfold releaseToken
  exact foldl_keeps (fun t => t.mnt.holders) (fun s _ => by simp) _ _

theorem releaseToken_running (p : Holder → Bool) (s : State) : (releaseToken p s).mnt.running = s.mnt.running ∧
    (releaseToken p s).mnt.stopCause = s.mnt.stopCause ∧ (releaseToken p s).mnt.elapsed = s.mnt.elapsed := by
  unfold releaseToken
  refine ⟨?_, ?_, ?_⟩
  · exact foldl_keeps (fun t => t.mnt.running) (fun s _ => by simp) _ _
  · exact foldl_keeps (fun t => t.mnt.stopCause) (fun s _ => by simp) _ _
  · exact foldl_keeps (fun t => t.mnt.elapsed) (fun s _ => by simp) _ _

@[simp] theorem takeToken_now (h : Holder) (s : State) : (takeToken h s).now = s.now := by simp [takeToken]

theorem takeToken_holders (h : Holder) (s : State) : (takeToken h s).mnt = { s.mnt with holders := s.mnt.holders ++ [h] } := by
  simp [takeToken]

-- the end of a run (R537, R539) --------------------------------------------------------------------------------------------------------------------------

/-- One frame that a rule holds on transmit goes on its way. -/
def heldSent (s : State) (h : Nat × HeldFrame × Nat) : State :=
  match h.2.1 with
  | .flueTx n f => { s with flu := setLane s.flu n { laneOf s.flu n with out := (laneOf s.flu n).out ++ [{ f := f }] } }
  | .folTx n f => { s with fol := { s.fol with ports := modAt s.fol.ports n (fun p => { p with out := p.out ++ [{ f := f }] }) } }
  | _ => s

theorem laneOf_setLane_iff (f : Flu) (m n : Nat) (l : Lane) : laneOf (setLane f m l) n = if n = 0 ↔ m = 0 then l else laneOf f n := by
  unfold laneOf setLane
  by_cases hn : n = 0 <;> by_cases hm : m = 0 <;> simp [hn, hm]

/-- A frame that a lane sends already stays in its output. -/
theorem heldSent_keeps {s : State} {n : Nat} {x : FlueTx} (h : Nat × HeldFrame × Nat) (hx : x ∈ (laneOf s.flu n).out) :
    x ∈ (laneOf (heldSent s h).flu n).out := by
  unfold heldSent
  split
  next _ m f _ =>
    show _ ∈ (laneOf (setLane s.flu m _) n).out
    rw [laneOf_setLane_iff]
    split
    next hnm =>
      have hsame : laneOf s.flu m = laneOf s.flu n := by unfold laneOf; simp only [hnm]
      rw [hsame]
      exact List.mem_append_left _ hx
    next => exact hx
  next => exact hx
  next => exact hx

theorem foldl_heldSent {k n a : Nat} {f : FlueFrame} (xs : List (Nat × HeldFrame × Nat)) (s : State)
    (h : (k, HeldFrame.flueTx n f, a) ∈ xs ∨ { f := f, flip := none } ∈ (laneOf s.flu n).out) :
    { f := f, flip := none } ∈ (laneOf (xs.foldl heldSent s).flu n).out := by
  induction xs generalizing s with
  | nil => simpa using h
  | cons x xs ih =>
    rw [List.foldl_cons]
    refine ih _ ?_
    rcases h with h | h
    · rcases List.mem_cons.mp h with rfl | h
      · refine .inr ?_
        show _ ∈ (laneOf (setLane s.flu n _) n).out
        rw [laneOf_setLane_iff, if_pos Iff.rfl]
        exact List.mem_append_right _ (List.mem_singleton.mpr rfl)
      · exact .inl h
    · exact .inr (heldSent_keeps x h)

theorem flushHeldTx_sends {k n a : Nat} {f : FlueFrame} {s : State} (h : (k, HeldFrame.flueTx n f, a) ∈ s.mnt.held) :
    { f := f, flip := none } ∈ (laneOf (flushHeldTx s).flu n).out :=
  foldl_heldSent s.mnt.held.reverse _ (.inl (List.mem_reverse.mpr h))

theorem flushHeldTx_running (s : State) : (flushHeldTx s).mnt.running = s.mnt.running ∧ (flushHeldTx s).mnt.stopCause = s.mnt.stopCause ∧
    (flushHeldTx s).mnt.elapsed = s.mnt.elapsed := by
  have hsent (s : State) (h : Nat × HeldFrame × Nat) : (heldSent s h).mnt = s.mnt := by
    unfold heldSent
    split <;> rfl
  have hmnt := foldl_keeps (f := heldSent) State.mnt hsent s.mnt.held.reverse
    { s with mnt := { s.mnt with held := s.mnt.held.filter (fun h => match h.2.1 with | .flueTx _ _ => false | .folTx _ _ => false | _ => true) } }
  have hflush : (flushHeldTx s).mnt = _ := hmnt
  rw [hflush]
  exact ⟨rfl, rfl, rfl⟩

/-- The end of a run: its cause and its length, the token given back, the held frames on their way. -/
theorem fijStopRun_ended (cause : Nat) {s : State} (hrun : s.mnt.running = true) :
    (fijStopRun cause s).mnt.running = false ∧ (fijStopRun cause s).mnt.stopCause = cause ∧
      (fijStopRun cause s).mnt.elapsed = (s.now - s.mnt.startedAt) / 1000000000 ∧ (fijStopRun cause s).mnt.rules = s.mnt.rules ∧
      (fijStopRun cause s).mnt.holders = s.mnt.holders.filter (fun h => !(h.code == 9 && h.slot == mySlot s)) ∧
      ∀ k n f a, n < 2 → (k, HeldFrame.flueTx n f, a) ∈ s.mnt.held → { f := f, flip := none } ∈ (laneOf (fijStopRun cause s).flu n).out := by
  have hstop : fijStopRun cause s = releaseToken (fun h => h.code == 9 && h.slot == mySlot s)
      (post 0x0E11 0x4C (u8 cause ++ le4 (s.mnt.rules.map (fun r => r.hits.toNat)).sum) (flushHeldTx { s with
        mnt := { s.mnt with running := false, stopCause := cause, elapsed := (s.now - s.mnt.startedAt) / 1000000000 } })) :=
    if_neg (by simp [hrun])
  obtain ⟨hrunning, hcause, helapsed⟩ := flushHeldTx_running { s with
    mnt := { s.mnt with running := false, stopCause := cause, elapsed := (s.now - s.mnt.startedAt) / 1000000000 } }
  have hreleased := releaseToken_running (fun h => h.code == 9 && h.slot == mySlot s) (post 0x0E11 0x4C (u8 cause ++ le4 (s.mnt.rules.map (fun r => r.hits.toNat)).sum)
    (flushHeldTx { s with mnt := { s.mnt with running := false, stopCause := cause, elapsed := (s.now - s.mnt.startedAt) / 1000000000 } }))
  rw [← hstop] at hreleased
  obtain ⟨hrun', hcause', helapsed'⟩ := hreleased
  have hflu : (fijStopRun cause s).flu = _ := (congrArg State.flu hstop).trans (releaseToken_flu _ _)
  refine ⟨?_, ?_, ?_, ?_, ?_, fun k n f a _ h => ?_⟩
  · rw [hrun', post_mnt, hrunning]
  · rw [hcause', post_mnt, hcause]
  · rw [helapsed', post_mnt, helapsed]
  · simp
  · rw [hstop, releaseToken_holders]
    simp
  · rw [hflu, post_flu]
    exact flushHeldTx_sends h

/-- Where no run goes there is none to end. -/
theorem fijStopRun_idle (cause : Nat) {s : State} (h : s.mnt.running = false) : fijStopRun cause s = s := if_pos (by simp [h])

/-- The COMMISSION line drops. -/
def commissionCleared (s : State) : State := { s with mnt := { s.mnt with comm := false }, cord := crdLine 4 true s }

/-- PATHSEL goes back to the pair link. -/
def pathsOff (s : State) : State :=
  { s with flu := { s.flu with cfg := setFld s.flu.cfg 2 2 0, cfgNext := s.flu.cfgNext.map (fun w => setFld w 2 2 0) } }

/-- PATHSEL then reads 0. -/
theorem pathsOff_pathsel (s : State) : fld (pathsOff s).flu.cfg 2 2 = 0 := fld_setFld_same s.flu.cfg 0 (by decide)

/-- What the dropped line does, in order. -/
theorem setCommission_drops {s : State} (h : s.mnt.comm = true) :
    setCommission false s = post 0x0E04 0x05 [] (pathsOff (fijStopRun 3 (commissionCleared s))) := by
  unfold setCommission
  rw [if_neg (by simp [h]), if_neg (by simp)]
  rfl

/-- COMMISSION cleared: no run, PATHSEL 0. -/
theorem setCommission_off {s : State} (h : s.mnt.comm = true) :
    (setCommission false s).mnt.comm = false ∧ (setCommission false s).mnt.running = false ∧ fld (setCommission false s).flu.cfg 2 2 = 0 ∧
      (s.mnt.running = true → (setCommission false s).mnt.stopCause = 3) := by
  have hmnt : (setCommission false s).mnt = (fijStopRun 3 (commissionCleared s)).mnt := by
    rw [setCommission_drops h, post_mnt]
    rfl
  have hflu : (setCommission false s).flu = (pathsOff (fijStopRun 3 (commissionCleared s))).flu := by
    rw [setCommission_drops h, post_flu]
  rw [hmnt, hflu]
  have hstopped : (fijStopRun 3 (commissionCleared s)).mnt.running = false ∧
      (s.mnt.running = true → (fijStopRun 3 (commissionCleared s)).mnt.stopCause = 3) := by
    cases hrun : s.mnt.running with
    | false =>
      rw [fijStopRun_idle 3 (s := commissionCleared s) hrun]
      exact ⟨hrun, by simp⟩
    | true =>
      obtain ⟨hrunning, hcause, -⟩ := fijStopRun_ended 3 (s := commissionCleared s) hrun
      exact ⟨hrunning, fun _ => hcause⟩
  have hcomm : (fijStopRun 3 (commissionCleared s)).mnt.comm = false := by simp [commissionCleared]
  obtain ⟨hrunning, hcause⟩ := hstopped
  exact ⟨hcomm, hrunning, pathsOff_pathsel _, hcause⟩

theorem setCommission_on (s : State) : (setCommission true s).mnt = { s.mnt with comm := true } ∧ (setCommission true s).flu = s.flu ∧
    (setCommission true s).pair = s.pair := by
  by_cases h : s.mnt.comm = true
  · rw [setCommission, if_pos h, ← h]
    exact ⟨rfl, rfl, rfl⟩
  · rw [setCommission, if_neg h]
    simp

theorem setCommission_holders (on : Bool) (s : State) : ∀ h ∈ (setCommission on s).mnt.holders, h ∈ s.mnt.holders := by
  cases on with
  | true => rw [(setCommission_on s).1]; exact fun h hh => hh
  | false =>
    by_cases hcomm : s.mnt.comm = true
    · have hmnt : (setCommission false s).mnt.holders = (fijStopRun 3 (commissionCleared s)).mnt.holders := by
        rw [setCommission_drops hcomm, post_mnt]
        rfl
      rw [hmnt]
      cases hrun : s.mnt.running with
      | false =>
        rw [fijStopRun_idle 3 (s := commissionCleared s) hrun]
        exact fun h hh => hh
      | true =>
        obtain ⟨-, -, -, -, hholders, -⟩ := fijStopRun_ended 3 (s := commissionCleared s) hrun
        rw [hholders]
        exact fun h hh => List.mem_of_mem_filter hh
    · have hoff : s.mnt.comm = false := by simpa using hcomm
      rw [setCommission, if_pos hoff]
      exact fun h hh => hh

theorem setCommission_comm (on : Bool) (s : State) : (setCommission on s).mnt.comm = on := by
  cases on with
  | true => rw [(setCommission_on s).1]
  | false =>
    by_cases hcomm : s.mnt.comm = true
    · exact (setCommission_off hcomm).1
    · have hoff : s.mnt.comm = false := by simpa using hcomm
      rw [setCommission, if_pos hoff, hoff]

/-- The DONE of a write that touched no session closes none. -/
theorem closeRevoked_told {c : Client} {s u : State} (hod : u.od = s.od) (h : ∀ x ∈ s.od.sessions, x.xfer = none ∧ x.revoked = false) :
    closeRevoked (respond c 4 0 [] u) = respond c 4 0 [] u := by
  refine closeRevoked_none fun x hx => (h x ?_).2
  rw [← hod]
  exact hx

theorem told_done {idx sub : Nat} {rq : Rq} {s u : State} (hout : u.out = s.out) : Told rq s (respond (writer idx sub rq) 4 0 [] u) := by
  rw [Told, ← hout]
  exact respond_done _ u

/-- The transaction of an accepted change of COMMISSION, and the state in which it waits for its boundary: the value stored, the token held. -/
def commissionTxn (a : Asker) (v : List Byte) (s t : State) : Txn :=
  { no := s.od.txnNo + 1, beat := applyBeat s, entries := [entryE 0x1751 1 v], client := a.client, forward := a.forward, acked := false, cfgId := configId t }

def commissionWaits (a : Asker) (v : List Byte) (s : State) : State :=
  let t := takeToken { code := 8, slot := a.slot, arg := 0, session := a.session } (storeVal 0x1751 1 v s)
  { t with od := { t.od with txnNo := s.od.txnNo + 1, txns := t.od.txns ++ [commissionTxn a v s t] } }

/-- The standby is told of it where there is one to tell. -/
theorem copiedAccept_commission (a : Asker) (v : List Byte) (s : State) : copiedAccept a 0x1751 1 v s = commissionWaits a v s ∨
    ∃ x n b, copiedAccept a 0x1751 1 v s = sendEntries x 1 n b [entryE 0x1751 1 v] (commissionWaits a v s) := by
  have hdef : copiedAccept a 0x1751 1 v s = match applyTo (commissionWaits a v s) with
      | some x => sendEntries x 1 (s.od.txnNo + 1) (BitVec.ofNat 64 (applyBeat s)) [entryE 0x1751 1 v] (commissionWaits a v s)
      | none => commissionWaits a v s := rfl
  rw [hdef]
  split
  · exact .inr ⟨_, _, _, rfl⟩
  · exact .inl rfl

theorem copiedAccept_commission_od (a : Asker) (v : List Byte) (s : State) :
    (copiedAccept a 0x1751 1 v s).od = (commissionWaits a v s).od ∧
      (copiedAccept a 0x1751 1 v s).mnt.holders = s.mnt.holders ++ [{ code := 8, slot := a.slot, arg := 0, session := a.session }] ∧
      (copiedAccept a 0x1751 1 v s).mnt.comm = s.mnt.comm ∧ (copiedAccept a 0x1751 1 v s).out = s.out ∧
      (copiedAccept a 0x1751 1 v s).sup.failSilent = s.sup.failSilent := by
  have hw : (commissionWaits a v s).mnt.holders = s.mnt.holders ++ [{ code := 8, slot := a.slot, arg := 0, session := a.session }] ∧
      (commissionWaits a v s).mnt.comm = s.mnt.comm ∧ (commissionWaits a v s).out = s.out ∧
      (commissionWaits a v s).sup.failSilent = s.sup.failSilent := by
    simp [commissionWaits, takeToken_holders]
  rcases copiedAccept_commission a v s with h | ⟨x, n, b, h⟩
  · rw [h]
    exact ⟨rfl, hw⟩
  · rw [h]
    simpa using hw

theorem commissionWaits_od (a : Asker) (v : List Byte) (s : State) :
    (∃ x, (commissionWaits a v s).od.txns = s.od.txns ++ [x] ∧ x.beat = applyBeat s ∧ x.entries = [entryE 0x1751 1 v] ∧ x.client = a.client) ∧
      (commissionWaits a v s).od.vals = insertVal { index := 0x1751, sub := 1, val := v } s.od.vals ∧
      (commissionWaits a v s).od.sessions = s.od.sessions := by
  refine ⟨⟨commissionTxn a v s (takeToken { code := 8, slot := a.slot, arg := 0, session := a.session } (storeVal 0x1751 1 v s)), ?_, rfl, rfl, rfl⟩, ?_, ?_⟩
  · simp [commissionWaits, storeVal]
  · simp [commissionWaits, storeVal]
  · simp [commissionWaits, storeVal]

-- a run begins (R538) ------------------------------------------------------------------------------------------------------------------------------------

theorem running_fijLive {s : State} (h : Running s) : fijLive s = true := by
  simp [fijLive, running_rickFull h, running_isolated h]

/-- Every rule's account and LFSR begin anew. -/
theorem fijRun_begun (s : State) : (fijRun s).mnt = { s.mnt with
    running := true, stopCause := 0, startedAt := s.now, elapsed := 0
    rules := s.mnt.rules.map (fun r => { r with seen := 0, acted := 0, lfsr := if s.mnt.seed = 0 then 1 else s.mnt.seed }) } ∧
    (fijRun s).mem = s.mem ∧ (fijRun s).out = s.out ∧ (fijRun s).od = s.od := by
  simp [fijRun, fijPost]

end Sys2Proof.Laws

namespace Sys2Proof.Proofs

open Sys2Proof Sys2Proof.Machine Sys2Proof.Safety Sys2Proof.Laws

/-- Settles O43, along the two ways in, the dictionary and the registers; a run's end is one lemma for its causes. -/
theorem commissionComplete : Obligations.CommissionComplete := by
  unfold Obligations.CommissionComplete
  intro clear seed begun ended
  have hended (cause : Nat) (s : State) (hrun : s.mnt.running = true) : ended cause s (fijStopRun cause s) := by
    obtain ⟨h1, h2, h3, h4, h5, h6⟩ := fijStopRun_ended cause hrun
    exact ⟨h1, h2, h3, h4, h5, h6, by simp⟩
  have hbegun (h : Holder) (s : State) : begun s (fijRun (takeToken h s)) := by
    obtain ⟨hmnt, hmem, -⟩ := fijRun_begun (takeToken h s)
    rw [takeToken_holders] at hmnt
    simp only [begun, hmnt, hmem, seed]
    simp
  have hholders (h : Holder) (s : State) : (fijRun (takeToken h s)).mnt.holders = s.mnt.holders ++ [h] := by
    rw [(fijRun_begun _).1, takeToken_holders]
  refine ⟨?change, ?applied, ?line, ?startObj, ?startReg, ?stopObj, ?stopReg, ?expiry, ?cleared, ?hold⟩
  case change =>
    intro rq mt s hrun hacc hopen hactive h hfree
    obtain rfl := Option.some.inj (hacc.entry.symm.trans rfl)
    have hwrite : objCmd 0x1751 1 rq s = closeRevoked (copiedAccept (askOf s (writer 0x1751 1 rq)) 0x1751 1 rq.value (cfgDraw s)) := by
      rw [objCmd_accepted hrun (by decide) (by decide) hacc]
      have hfree' : tokenFree s { code := 8, slot := mySlot s, arg := 0, session := (writer 0x1751 1 rq).session } = true := hfree
      simp [routed, decided, writer_index, writer_sub, hactive, copiedWrite, checkHalt, copiedState, isResume, visible, askOf, hfree', areaWrite_open hrun hopen]
    obtain ⟨hod, hholders, hcomm, hout, hloud⟩ := copiedAccept_commission_od (askOf s (writer 0x1751 1 rq)) rq.value (cfgDraw s)
    obtain ⟨⟨x, htxns, hx⟩, hvals, hsessions⟩ := commissionWaits_od (askOf s (writer 0x1751 1 rq)) rq.value (cfgDraw s)
    rw [← hod] at htxns hvals hsessions
    simp only [cfgDraw_out_od_mnt_comm_mnt_holders_mnt_rules] at hholders hcomm hout hsessions htxns
    have hquiet : (copiedAccept (askOf s (writer 0x1751 1 rq)) 0x1751 1 rq.value (cfgDraw s)).sup.failSilent = false := by simp [hrun.loud]
    generalize copiedAccept (askOf s (writer 0x1751 1 rq)) 0x1751 1 rq.value (cfgDraw s) = u at *
    rw [closeRevoked_none fun x hx => (hacc.free x (hsessions ▸ hx)).2] at hwrite
    exact answers_of_finish (congrArg finish hwrite) hquiet ⟨⟨x, htxns, hx⟩, cfgVal_of_insertVal hvals, hholders, hcomm, hout⟩
  case applied =>
    intro x c v s hrun hentries hclient hforward
    have hentry : applyEntry s (entryE 0x1751 1 [v]) = setCommission (v != 0) s := by
      have hv : (beNat [v] != 0) = (v != 0) := by
        rw [Bool.eq_iff_iff, bne_iff_ne, bne_iff_ne, not_iff_not, ← BitVec.toNat_inj]
        simp [beNat, leNat]
      rw [← hv]
      rfl
    have happlied : applyTxn s x = respond c 4 0 [] (releaseToken (fun h => h.code == 8) (setCommission (v != 0) s)) := by
      rw [← hentry]
      simp only [applyTxn, hentries, hclient, hforward]
      rfl
    rw [happlied]
    have hcomm := setCommission_comm (v != 0) s
    have hout : (setCommission (v != 0) s).out = s.out := by simp
    generalize setCommission (v != 0) s = u at hcomm hout
    have hmnt : (respond c 4 0 [] (releaseToken (fun h => h.code == 8) u)).mnt = (releaseToken (fun h => h.code == 8) u).mnt := rfl
    refine ⟨?_, fun h hh => ?_, ?_⟩
    · rw [hmnt]
      simpa using hcomm
    · rw [hmnt, releaseToken_holders] at hh
      simpa using (List.mem_filter.mp hh).2
    · obtain ⟨m, hreply, hm⟩ := respond_done c (releaseToken (fun h => h.code == 8) u)
      exact ⟨m, by simpa [hout] using hreply, hm⟩
  case line =>
    intro level word s hrun
    have hlive := running_fijLive hrun
    refine ⟨fun hm hkey hset => ?_, fun hm hkey hclr hcomm => ?_, fun hno => ?_⟩
    · have hexec : execFijComm level word s = finish (setCommission true s) := by
        simp [execFijComm, fijComm, hm, hkey, hset, hlive]
      exact answers_of_finish hexec (by simp [hrun.loud]) (setCommission_on s)
    · have hexec : execFijComm level word s = finish (setCommission false s) := by
        simp [execFijComm, fijComm, hm, hkey, hclr, hlive]
      obtain ⟨h1, h2, h3, h4⟩ := setCommission_off hcomm
      exact answers_of_finish hexec (by simp [hrun.loud]) ⟨h1, h2, h3, h4, by simp⟩
    · refine finish_of_eq (if_pos ?_) hrun.loud
      tauto
  case startObj =>
    intro rq mt s hrun hacc hone hactive hrefused h hfree
    obtain rfl := Option.some.inj (hacc.entry.symm.trans rfl)
    have hact : activityOf 0x1753 1 rq.value = some 9 := by simp [activityOf, hone]
    have hstart : objCmd 0x1753 1 rq s = closeRevoked (respond (writer 0x1753 1 rq) 4 0 [] (fijRun (takeToken h s))) := by
      rw [objCmd_command hrun (by decide) (by decide) rfl rfl rfl rfl hacc]
      simp only [command, hact]
      have hfree' : tokenFree s { code := 9, slot := mySlot s, arg := 0, session := (writer 0x1753 1 rq).session } = true := hfree
      simp [activity, activityCheck, hrefused, hactive, activityArg, askOf, hfree', activityStart, tellAsker, h, ownHolder]
    obtain ⟨-, -, hout, hod⟩ := fijRun_begun (takeToken h s)
    have hbegan := hbegun h s
    have htaken := hholders h s
    have hloud : (fijRun (takeToken h s)).sup.failSilent = false := by simp [hrun.loud]
    generalize fijRun (takeToken h s) = u at hstart hout hod hbegan htaken hloud
    simp only [takeToken_out_od_mnt_comm_mnt_rules] at hout hod
    rw [closeRevoked_told hod hacc.free] at hstart
    exact answers_of_finish (congrArg finish hstart) hloud ⟨hbegan, htaken, told_done hout⟩
  case startReg =>
    intro m word s hrun hkey hone hrefused hfree
    have hstart : fijCmd .m word s = fijRun (takeToken (ownHolder s 9 0 0) s) := by
      simp [fijCmd, hkey, hone, running_fijLive hrun, fijStart, hrefused, hfree]
    exact answers_of_finish (congrArg finish hstart) (by simp [hrun.loud]) ⟨hbegun _ s, hholders _ s, (fijRun_begun _).2.2.1.trans (by simp)⟩
  case stopObj =>
    intro rq mt s hrun hacc htwo hgoes
    obtain rfl := Option.some.inj (hacc.entry.symm.trans rfl)
    have hact : activityOf 0x1753 1 rq.value = none := by simp [activityOf, htwo]
    have hstop : objCmd 0x1753 1 rq s = closeRevoked (respond (writer 0x1753 1 rq) 4 0 [] (fijStopRun 1 s)) :=
      objCmd_plain hrun (by decide) (by decide) rfl rfl rfl rfl hact rfl hacc
    have hend := hended 1 s hgoes
    have hod : (fijStopRun 1 s).od = s.od := by simp
    have hout : (fijStopRun 1 s).out = s.out := by simp
    have hloud : (fijStopRun 1 s).sup.failSilent = false := by simp [hrun.loud]
    generalize fijStopRun 1 s = u at hstop hend hod hout hloud
    rw [closeRevoked_told hod hacc.free] at hstop
    exact answers_of_finish (congrArg finish hstop) hloud ⟨hend, told_done hout⟩
  case stopReg =>
    intro m word s hrun hkey htwo hgoes
    have hstop : fijCmd .m word s = fijStopRun 1 s := by
      simp [fijCmd, hkey, htwo, running_fijLive hrun]
    exact answers_of_finish (congrArg finish hstop) (by simp [hrun.loud]) ⟨hended 1 s hgoes, by simp⟩
  case expiry =>
    intro s hrun hgoes
    have hexec : execFijRunExpiry s = finish (fijStopRun 2 s) := congrArg finish (if_pos (running_fijLive hrun))
    exact answers_of_finish hexec (by simp [hrun.loud]) ⟨hended 2 s hgoes, by simp⟩
  case cleared =>
    intro word s hrun hset hidle
    have hexec : fijClear .m word s = { s with mnt := { s.mnt with haltWr := false, rules := s.mnt.rules.map clear } } := by
      simp [fijClear, hset, hidle, running_fijLive hrun, clear]
    exact finish_of_eq hexec hrun.loud
  case hold =>
    intro k n f s hrun hgoes hheld r
    have hexec : holdExpiry k s = { s with
        mnt := { s.mnt with held := s.mnt.held.filter (fun h => h.1 != k), rules := putAt s.mnt.rules k { r with miss := satInc r.miss } }
        flu := setLane s.flu n { laneOf s.flu n with out := (laneOf s.flu n).out ++ [{ f := f }] } } := by
      simp [holdExpiry, hheld, hgoes, dropHeld, r]
    exact finish_of_eq hexec hrun.loud

end Sys2Proof.Proofs

/-! PROOF. Updates (16 R499 to R506): the image's segments, its checks, the loader, the recovery. -/

namespace Sys2Proof.Laws

open Sys2Proof Sys2Proof.Machine Sys2Proof.Safety

-- segments (09 R321) ------------------------------------------------------------------------------------------------------------------------------------

/-- A segment that passes steps 1 to 6 over the service port joins its transfer. -/
theorem dataCmd_segment {idx sub n : Nat} {m : SvcMsg} {rq : Rq} {mt : Meta} {s : State} (hrun : Running s) (hidx : idx < 65536) (hsub : sub < 256)
    (hpath : rq.path = .service n) (hconn : s.od.conns.contains n = true) (hlen : m.data.length ≤ 32768)
    (haccess : checkAccess (writer idx sub rq) true m.data s = 0) (hentry : entryOf idx sub s = some mt) :
    dataCmd idx sub m rq s = closeRevoked (writeSeg (writer idx sub rq) (dataMsg idx sub m rq)
      (if bit m.sflags 0 ∨ m.arg ≠ 0 then entryMax mt else m.data.length) s) := by
  have hentry' : entryOf (writer idx sub rq).index (writer idx sub rq).sub s = some mt := by
    rw [writer_index hidx, writer_sub idx hsub]; exact hentry
  have hdef : svcWrite rq.path (dataMsg idx sub m rq) s =
      if checkAccess (writer idx sub rq) true m.data s ≠ 0 then
        abort (writer idx sub rq) (checkAccess (writer idx sub rq) true m.data s) (dropXfer (writer idx sub rq).session s)
      else match entryOf (writer idx sub rq).index (writer idx sub rq).sub s with
        | none => abort (writer idx sub rq) 0x0602 s
        | some e => writeSeg (writer idx sub rq) (dataMsg idx sub m rq) (if bit m.sflags 0 ∨ m.arg ≠ 0 then entryMax e else m.data.length) s := rfl
  have hseg : svcWrite rq.path (dataMsg idx sub m rq) s = writeSeg (writer idx sub rq) (dataMsg idx sub m rq)
      (if bit m.sflags 0 ∨ m.arg ≠ 0 then entryMax mt else m.data.length) s := by
    rw [hdef, if_neg (by simp [haccess]), hentry']
  rw [← hseg]
  exact enter_service hrun ⟨n, hpath, hconn⟩ hlen

/-- The transfer that a segment belongs to. -/
def transferOf (c : Client) (m : SvcMsg) (s : State) : Option Xfer :=
  if m.arg = 0 then some { index := c.index, sub := c.sub, write := true, data := [], at_ := s.now } else xferOf c true s

/-- A segment in its place waits for the next, or completes the value. -/
theorem writeSeg_placed {c : Client} {m : SvcMsg} {limit : Nat} {t : Xfer} {s : State} (ht : transferOf c m s = some t) (hlate : t.late = false)
    (harg : m.arg.toNat = t.data.length) (hlimit : t.data.length + m.data.length ≤ limit) :
    writeSeg c m limit s = if bit m.sflags 0 then
        respond c 4 m.arg.toNat [] (putXfer c.session { t with data := t.data ++ m.data, at_ := s.now } (dropXfer c.session s))
      else wholeWrite c (t.data ++ m.data) (dropXfer c.session s) := by
  have hdef : writeSeg c m limit s = match transferOf c m s with
      | none => abort c 0x0606 (dropXfer c.session s)
      | some t =>
        if t.late then abort c 0x0607 (dropXfer c.session s)
        else if m.arg.toNat ≠ t.data.length ∨ limit < t.data.length + m.data.length then abort c 0x0606 (dropXfer c.session s)
        else if bit m.sflags 0 then
          respond c 4 m.arg.toNat [] (putXfer c.session { t with data := t.data ++ m.data, at_ := (dropXfer c.session s).now } (dropXfer c.session s))
        else wholeWrite c (t.data ++ m.data) (dropXfer c.session s) := rfl
  rw [hdef, ht]
  simp only [hlate, Bool.false_eq_true, if_false]
  rw [if_neg (by omega)]
  rfl

theorem transferOf_running {rq : Rq} {m : SvcMsg} {x : Session} {z : Xfer} {s : State}
    (hx : sessionOn s (writer 0x1720 1 rq).session (writer 0x1720 1 rq).path = some x) (hz : x.xfer = some z) (hidx : z.index = 0x1720) (hsub : z.sub = 1)
    (hwrite : z.write = true) (harg : m.arg.toNat = z.data.length) (hne : z.data ≠ []) :
    transferOf (writer 0x1720 1 rq) (dataMsg 0x1720 1 m rq) s = some z := by
  have harg' : m.arg ≠ 0 := fun h => hne (List.eq_nil_of_length_eq_zero (by rw [← harg, h]; rfl))
  refine (if_neg harg').trans ?_
  rw [xferOf, hx]
  simp [hz, hidx, hsub, hwrite, writer_index, writer_sub]

theorem sessionOn_modSession {h : Nat} {p : Path} {x : Session} {f : Session → Session} {s : State} (hx : sessionOn s h p = some x)
    (hf : ∀ y, (f y).handle = y.handle ∧ (f y).path = y.path) : sessionOn (modSession h f s) h p = some (f x) := by
  have hhandle : x.handle = h := by
    have hfound := List.find?_some hx
    simp only [Bool.and_eq_true, beq_iff_eq] at hfound
    exact hfound.1
  have hpred : ((fun x => x.handle == h && samePath x.path p) ∘ fun y : Session => if y.handle = h then f y else y) =
      fun x => x.handle == h && samePath x.path p := by
    funext y
    obtain ⟨hh, hp⟩ := hf y
    by_cases hy : y.handle = h
    · simp [hy, hh, hp]
    · simp [hy]
  have hx' : s.od.sessions.find? (fun x => x.handle == h && samePath x.path p) = some x := hx
  show (s.od.sessions.map _).find? _ = _
  rw [List.find?_map, hpred, hx', Option.map_some, if_pos hhandle]

/-- The transfer stands in its session. -/
theorem sessionOn_putXfer {h : Nat} {p : Path} {x : Session} {t : Xfer} {s : State} (hx : sessionOn s h p = some x) :
    sessionOn (putXfer h t (dropXfer h s)) h p = some { x with xfer := some t } := by
  have hdropped : sessionOn (dropXfer h s) h p = some { x with xfer := none } := sessionOn_modSession hx fun _ => ⟨rfl, rfl⟩
  exact sessionOn_modSession (x := { x with xfer := none }) (f := fun x => { x with xfer := some t }) hdropped fun _ => ⟨rfl, rfl⟩

theorem revoked_modSession {h : Nat} {f : Session → Session} {s : State} (hs : ∀ y ∈ s.od.sessions, y.revoked = false)
    (hf : ∀ y, (f y).revoked = y.revoked) : ∀ y ∈ (modSession h f s).od.sessions, y.revoked = false := by
  intro y hy
  obtain ⟨z, hz, rfl⟩ := List.mem_map.mp hy
  split
  · rw [hf]; exact hs z hz
  · exact hs z hz

theorem writer_session {rq : Rq} (h : rq.session < 65536) (idx sub : Nat) : (writer idx sub rq).session = rq.session := by
  simpa [writer, clientOf, objMsg] using h

/-- A segment with MORE is kept. -/
theorem segment_kept {c : Client} {t : Xfer} {x : Session} {a : Nat} {s : State} (hx : sessionOn s c.session c.path = some x)
    (hrevoked : ∀ y ∈ s.od.sessions, y.revoked = false) :
    closeRevoked (respond c 4 a [] (putXfer c.session t (dropXfer c.session s))) = respond c 4 a [] (putXfer c.session t (dropXfer c.session s)) ∧
      sessionOn (respond c 4 a [] (putXfer c.session t (dropXfer c.session s))) c.session c.path = some { x with xfer := some t } :=
  ⟨closeRevoked_none (revoked_modSession (revoked_modSession hrevoked fun _ => rfl) fun _ => rfl), sessionOn_putXfer hx⟩

/-- The last segment's whole value of UPDATE_DATA stages the image. -/
theorem wholeWrite_image {rq : Rq} {mt : Meta} {v : List Byte} {s : State} (hentry : entryOf 0x1720 1 s = some mt) (hvalue : checkValue 0x1720 1 mt v s = 0)
    (hst : s.upd.st ≠ .writing) :
    wholeWrite (writer 0x1720 1 rq) v s = respond (writer 0x1720 1 rq) 4 0 [] { s with upd := { s.upd with staged := v, st := .staged } } := by
  obtain ⟨hread, hcopied⟩ : mt.rd = none ∧ mt.copied = false := by
    obtain rfl := Option.some.inj (hentry.symm.trans rfl)
    exact ⟨rfl, rfl⟩
  have hentry' : entryOf (writer 0x1720 1 rq).index (writer 0x1720 1 rq).sub s = some mt := by
    rw [writer_index (by decide), writer_sub _ (by decide)]; exact hentry
  have hvalue' : checkValue (writer 0x1720 1 rq).index (writer 0x1720 1 rq).sub mt v s = 0 := by
    rw [writer_index (by decide), writer_sub _ (by decide)]; exact hvalue
  have hwhole : wholeWrite (writer 0x1720 1 rq) v s = routed (writer 0x1720 1 rq) mt v s := by
    simp only [wholeWrite, hentry', hvalue', ne_eq, not_true_eq_false, if_false]
  have hplain : plainCmd (askOf s (writer 0x1720 1 rq)).session 0x1720 1 v s = updateData v s := rfl
  have hdata : updateData v s = ({ s with upd := { s.upd with staged := v, st := .staged } }, 0) := if_neg hst
  rw [hwhole]
  simp [routed, decided, writer_index, writer_sub, visible, isResume, command, activityOf, waitsFor, hread, hcopied, hplain, hdata, tellR_done]

theorem advanceArb_outside (comp : Nat) (s : State) : (advanceArb comp s).od = s.od ∧ (advanceArb comp s).out = s.out ∧
    (advanceArb comp s).upd.st = s.upd.st ∧ (advanceArb comp s).sup.failSilent = s.sup.failSilent := by
  unfold advanceArb
  dsimp only
  split
  · simp
  · exact ⟨rfl, rfl, rfl, rfl⟩

/-- SVN_COMMIT of Cord's components goes through the mailbox. -/
theorem svnCommit_mailbox {comp : Nat} {s : State} (hrun : Running s) (hilock : s.cord.ilock = true) (hbusy : s.cord.busy = false) (hlo : 2 < comp)
    (hhi : comp ≤ 4) : ∃ u, svnCommit comp s = (u, 0) ∧
      (1 ≤ comp → comp ≤ s.upd.arb.length → arbOf u comp =
          (if (s.upd.fw.getD (comp - 1) {}).valid then max (arbOf s comp) (min 64 (s.upd.fw.getD (comp - 1) {}).svn) else arbOf s comp) ∧
        ∀ k, 1 ≤ k → k ≠ comp → arbOf u k = arbOf s k) ∧
      u.od = s.od ∧ u.out = s.out ∧ u.upd.st = s.upd.st ∧ u.sup.failSilent = false := by
  have harb := advanceArb_arb (comp := comp) (s := mbxTaken s)
  obtain ⟨hod, hout, hst, hloud⟩ := advanceArb_outside comp (mbxTaken s)
  obtain ⟨-, -, hcord, -, -⟩ := advanceArb_keeps (comp := comp) hlo (mbxTaken s)
  have hop : opArbAdvance (mbxOf s comp 0 []) (mbxTaken s) = (advanceArb comp (mbxTaken s), { status := 0 }) := by
    obtain rfl | rfl : comp = 3 ∨ comp = 4 := by omega
    · simp [opArbAdvance, mbxOf, okay]
    · simp [opArbAdvance, mbxOf, okay]
  have hcode := mbxCode_free (op := 0x0048) hrun hilock hbusy hop (by rw [hcord]; rfl)
  rw [svnCommit, if_neg (by omega), hcode]
  generalize advanceArb comp (mbxTaken s) = u at *
  refine ⟨_, rfl, fun h1 h2 => ?_, (mbxRead_od ..).trans hod, (mbxRead_out ..).trans hout, ?_, ?_⟩
  · have hread (k : Nat) : arbOf (mbxRead 0x0048 { status := 0 } u) k = arbOf u k := by rw [arbOf, mbxRead_upd, arbOf]
    simpa [hread] using harb h1 h2
  · rw [mbxRead_upd]; exact hst
  · rw [mbxRead_sup]; exact hloud.trans hrun.loud

/-- A value that passes step 7 lies in its range. -/
theorem inRange_of_checkValue {idx sub : Nat} {m : Meta} {v : List Byte} {s : State} (h : checkValue idx sub m v s = 0) : inRange m v = true := by
  by_contra hout
  unfold checkValue at h
  split at h
  · exact absurd h (by decide)
  · rw [if_pos (.inl (by simpa using hout))] at h
    exact absurd h (by decide)

-- checks, the loader (R500 to R503) ------------------------------------------------------------------------------------------------------------------------

/-- A check changes the update's state alone, but for its event. -/
theorem updateCheck_decides {s : State} (hst : s.upd.st = .staged ∨ s.upd.st = .checked) :
    (updateCheck s).2 = updateChecks s ∧
      (updateCheck s).1.upd = (if updateChecks s = 0 then { s.upd with st := .checked }
        else { s.upd with st := .failed, lastResult := BitVec.ofNat 16 (updateChecks s) }) ∧
      (updateCheck s).1.od = s.od ∧ (updateCheck s).1.out = s.out := by
  have hgo : ¬ (s.upd.st ≠ .staged ∧ s.upd.st ≠ .checked) := by tauto
  unfold updateCheck
  rw [if_neg hgo]
  by_cases hc : updateChecks s = 0
  · simp [hc]
  · simp [hc]

/-- The refusal of a write that touched no session closes none. -/
theorem closeRevoked_refused {c : Client} {code : Nat} {s u : State} (hod : u.od = s.od) (h : ∀ x ∈ s.od.sessions, x.xfer = none ∧ x.revoked = false) :
    closeRevoked (abort c code u) = abort c code u := by
  refine closeRevoked_none fun x hx => (h x ?_).2
  rw [← hod]
  exact hx

theorem refused_abort {idx sub code : Nat} {rq : Rq} {s u : State} (hout : u.out = s.out) : RefusedWith rq code s (abort (writer idx sub rq) code u) := by
  rw [RefusedWith, ← hout]
  exact ⟨_, rfl, rfl, rfl, rfl⟩

/-- What a restart leaves. -/
theorem restart_leaves (cause : Nat) (s : State) :
    (restart cause s).pair.role = .offline ∧ (restart cause s).hw.resetCause = cause ∧ (restart cause s).upd.st = s.upd.st ∧
      (restart cause s).upd.staged = s.upd.staged ∧ (restart cause s).upd.record = s.upd.record ∧ (restart cause s).upd.lastResult = s.upd.lastResult ∧
      (restart cause s).upd.recovery = s.upd.recovery ∧ (restart cause s).mem = s.mem ∧ (restart cause s).od.vals = s.od.vals ∧
      (restart cause s).ks.creds = s.ks.creds ∧ (restart cause s).out = [] ∧ (restart cause s).od.sessions = [] ∧
      (restart cause s).sup.failSilent = false ∧ (restart cause s).sup.runtimeUp = false :=
  ⟨rfl, rfl, rfl, rfl, rfl, rfl, rfl, rfl, rfl, rfl, rfl, rfl, rfl, rfl⟩

/-- The image that the loader writes, and the end of its region. -/
def imageOf (h body : List Byte) : List Byte := h ++ body.take (hdrLen h)
def norTop (comp : Nat) : Nat := [0x22080000, 0x22100000, 0x22200000, 0x22300000].getD (comp - 1) 0

theorem readByte_clearRange {m : Memory} (lo hi : Nat) {a : Nat} (h : a < lo ∨ hi ≤ a) : readByte (clearRange m lo hi) a = readByte m a := by
  induction m with
  | nil => rfl
  | cons c m ih =>
    obtain ⟨b, v⟩ := c
    unfold clearRange at ih ⊢
    rw [List.filter_cons]
    by_cases hb : b = a
    · subst hb
      rw [if_pos (by simpa using h), readByte_front, readByte_front]
    · rw [readByte_behind hb]
      split
      · rw [readByte_behind hb, ih]
      · exact ih

/-- A component's region holds its image, and nothing else changes. -/
theorem programRegion_writes {comp : Nat} (hlo : 1 ≤ comp) (hhi : comp ≤ 4) (h body : List Byte) {s : State} (hwf : s.mem.wf = true) :
    readBytes (programRegion comp h body s).mem (norBase comp) (imageOf h body).length = imageOf h body ∧
      ∀ a, (a < norBase comp ∨ (norTop comp ≤ a ∧ norBase comp + (imageOf h body).length ≤ a)) →
        readByte (programRegion comp h body s).mem a = readByte s.mem a := by
  have hmem : (programRegion comp h body s).mem = writeBytes (clearRange s.mem (norBase comp) (norTop comp)) (norBase comp) (imageOf h body) := by
    have hcomp : comp = 1 ∨ comp = 2 ∨ comp = 3 ∨ comp = 4 := by omega
    obtain rfl | rfl | rfl | rfl := hcomp <;> rfl
  rw [hmem]
  refine ⟨readBytes_writeBytes (wf_clearRange hwf _ _) _ _, fun a ha => ?_⟩
  rw [readByte_writeBytes_other _ _ (ha.imp_right And.right)]
  exact readByte_clearRange _ _ (ha.imp_right And.left)

/-- An image that passes has its header whole and its body's length. -/
theorem imageCheck_length {s : State} {comp : Nat} {cord : Bool} {h body : List Byte} (hc : imageCheck s comp cord h body = 0) :
    128 ≤ h.length ∧ hdrLen h ≤ body.length := by
  unfold imageCheck at hc
  by_cases hform : h.length < 128 ∨ leAt h 0 4 ≠ 0x50465731 ∨ leAt h 4 1 ≠ comp ∨ !(bit (BitVec.ofNat 32 (leAt h 16 4)) 11) ∨
      bodyMax comp < hdrLen h ∨ body.length < hdrLen h
  · rw [if_pos hform] at hc
    exact absurd hc (by decide)
  · exact ⟨by omega, by omega⟩

/-- The loader's steps, in order. -/
def loaderBegun (s : State) : State :=
  { s with upd := { s.upd with
      oldVersion := hdrVersion (norHeader s (stagedComp s)), record := some { comp := stagedComp s, sha := sha256 s.upd.staged, begun := true } } }

theorem loaderUpdate_checks {ok : Bool} {r : UpdRec} {s : State} (hrole : s.pair.role = .update) (hst : s.upd.st = .writing)
    (hkiln : s.sup.kilnHeld = false) (hstaged : s.upd.staged ≠ []) (hrec : s.upd.record = some r) (hsha : r.sha = sha256 s.upd.staged) :
    let c := imageCheck (setFw 1 (fwOf (norHeader s 1)) s) (stagedComp s) false (stagedHdr s) (stagedBody s)
    loaderUpdate ok s = if c ≠ 0 then restart 3 (closeUpdate c 0 { s with upd := { s.upd with oldVersion := hdrVersion (norHeader s (stagedComp s)) } })
      else restart 3 (closeUpdate (if ok then 0 else 0x2808) (hdrVersion (stagedHdr s))
        (programRegion (stagedComp s) (stagedHdr s) (stagedBody s) (loaderBegun s))) := by
  intro c
  have hgo : ¬ (s.pair.role ≠ .update ∨ s.upd.st ≠ .writing ∨ s.sup.kilnHeld) := by simp [hrole, hst, hkiln]
  have hwhole : ¬ ((s.upd.staged.isEmpty || s.upd.record.any (fun r => r.sha != sha256 s.upd.staged)) = true) := by simp [hstaged, hrec, hsha]
  unfold loaderUpdate
  rw [if_neg hgo]
  refine (if_neg hwhole).trans ?_
  rfl

-- the way into UPDATE (R501) -----------------------------------------------------------------------------------------------------------------------------

/-- The record is open, and the events are written before the restart. -/
def updateOpened (s : State) : State :=
  drainEvents (post 0x0D01 0x06 [] { setRole .update .none (clearTwin s) with upd := { (setRole .update .none (clearTwin s)).upd with
    st := .writing, record := some {
      comp := stagedComp (setRole .update .none (clearTwin s)), sha := sha256 (setRole .update .none (clearTwin s)).upd.staged, begun := false } } })

theorem enterUpdate_offline {s : State} (h : s.pair.role = .offline) : enterUpdate s = inLoader (restart 3 (updateOpened s)) := by
  unfold enterUpdate
  rw [if_neg (by simp [h])]
  rfl

theorem drainEvents_upd_od_ks (s : State) : (drainEvents s).upd = s.upd ∧ (drainEvents s).od = s.od ∧ (drainEvents s).ks = s.ks := by
  unfold drainEvents
  refine ⟨?_, ?_, ?_⟩
  · exact foldl_keeps (f := fun s r => writeEvent r s) State.upd (fun _ _ => rfl) _ _
  · exact foldl_keeps (f := fun s r => writeEvent r s) State.od (fun _ _ => rfl) _ _
  · exact foldl_keeps (f := fun s r => writeEvent r s) State.ks (fun _ _ => rfl) _ _

theorem updateOpened_leaves (s : State) : (updateOpened s).upd = { s.upd with
      st := .writing, record := some { comp := stagedComp s, sha := sha256 s.upd.staged, begun := false } } ∧
    (updateOpened s).od = s.od ∧ (updateOpened s).ks = s.ks := by
  have htwin : (clearTwin s).upd = s.upd ∧ (clearTwin s).od = s.od ∧ (clearTwin s).ks = s.ks := ⟨rfl, rfl, rfl⟩
  obtain ⟨hupd, hod, hks⟩ := drainEvents_upd_od_ks (post 0x0D01 0x06 [] { setRole .update .none (clearTwin s) with
    upd := { (setRole .update .none (clearTwin s)).upd with
      st := .writing, record := some {
        comp := stagedComp (setRole .update .none (clearTwin s)), sha := sha256 (setRole .update .none (clearTwin s)).upd.staged, begun := false } } })
  refine ⟨hupd.trans ?_, hod.trans ?_, hks.trans ?_⟩
  · simp [stagedComp, stagedHdr, htwin]
  · simp [htwin]
  · simp [htwin]

end Sys2Proof.Laws

namespace Sys2Proof.Proofs

open Sys2Proof Sys2Proof.Machine Sys2Proof.Safety Sys2Proof.Laws

/-- Settles O39: the dictionary's commands by their writes, the loader by the region it writes before its restart. -/
theorem updatesComplete : Obligations.UpdatesComplete := by
  unfold Obligations.UpdatesComplete
  refine ⟨?staged, ?segments, ?checked, ?started, ?discarded, ?loader, ?recovery, ?counter⟩
  case staged =>
    intro m rq mt s hrun hflags harg hacc hst
    obtain rfl := Option.some.inj (hacc.entry.symm.trans rfl)
    have hmsg : dataMsg 0x1720 1 m rq = objMsg 0x1720 1 { rq with value := m.data } := by
      obtain ⟨_, _, _, _, _, _, _, _⟩ := m
      subst hflags harg
      rfl
    have hdata : updateData m.data s = ({ s with upd := { s.upd with staged := m.data, st := .staged } }, 0) := if_neg hst
    have hcmd : dataCmd 0x1720 1 m rq s = closeRevoked (tellR (askOf s (writer 0x1720 1 rq)) (updateData m.data s)) := by
      have hobj := objCmd_plain hrun (by decide) (by decide) rfl rfl rfl rfl rfl rfl hacc
      exact (by rw [dataCmd, hmsg]; exact hobj)
    rw [hdata, tellR_done] at hcmd
    exact congrArg finish (hcmd.trans (closeRevoked_told (by rfl) hacc.free))
  case segments =>
    intro m rq mt x n s hrun hpath hconn hlen haccess hentry hty hsess hx hrevoked
    have hcmd := dataCmd_segment hrun (by decide) (by decide) hpath hconn hlen haccess hentry
    have hx' : sessionOn s (writer 0x1720 1 rq).session (writer 0x1720 1 rq).path = some x := by rw [writer_session hsess]; exact hx
    have hmax : entryMax mt = 33554560 := by rw [entryMax, hty]
    refine ⟨fun hmore harg => ?_, fun z hz hidx hsub hwrite hlate hne harg hfits => ⟨fun hmore => ?_, fun hlast hvalue hst => ?_⟩⟩
    · have ht : transferOf (writer 0x1720 1 rq) (dataMsg 0x1720 1 m rq) s = some { index := 0x1720, sub := 1, write := true, data := [], at_ := s.now } :=
        if_pos harg
      rw [if_pos (.inl hmore), hmax, writeSeg_placed ht rfl (by rw [show (dataMsg 0x1720 1 m rq).arg = 0 from harg]; rfl)
        (by simpa [dataMsg] using hlen.trans (by decide)), if_pos (by exact hmore)] at hcmd
      obtain ⟨hkept, hstands⟩ := segment_kept (c := writer 0x1720 1 rq) (a := (dataMsg 0x1720 1 m rq).arg.toNat)
        (t := { index := 0x1720, sub := 1, write := true, data := m.data, at_ := s.now }) hx' hrevoked
      exact answers_of_finish (congrArg finish (hcmd.trans hkept)) hrun.loud ⟨rfl, ⟨_, rfl, rfl, rfl⟩, _,
        by rw [← writer_session hsess 0x1720 1]; exact hstands, rfl⟩
    · have ht := transferOf_running hx' hz hidx hsub hwrite harg hne
      rw [if_pos (.inl hmore), hmax, writeSeg_placed ht hlate harg hfits, if_pos (by exact hmore)] at hcmd
      obtain ⟨hkept, hstands⟩ := segment_kept (c := writer 0x1720 1 rq) (a := (dataMsg 0x1720 1 m rq).arg.toNat)
        (t := { z with data := z.data ++ m.data, at_ := s.now }) hx' hrevoked
      exact answers_of_finish (congrArg finish (hcmd.trans hkept)) hrun.loud ⟨rfl, ⟨_, rfl, rfl, rfl⟩, _,
        by rw [← writer_session hsess 0x1720 1]; exact hstands, rfl⟩
    · have ht := transferOf_running hx' hz hidx hsub hwrite harg hne
      have harg' : m.arg ≠ 0 := fun h => hne (List.eq_nil_of_length_eq_zero (by rw [← harg, h]; rfl))
      have hlast' : ¬ bit (dataMsg 0x1720 1 m rq).sflags 0 = true := by simpa [dataMsg] using hlast
      rw [if_pos (.inr harg'), hmax, writeSeg_placed ht hlate harg hfits, if_neg hlast'] at hcmd
      have hwhole := wholeWrite_image (rq := rq) (v := z.data ++ m.data) (s := dropXfer (writer 0x1720 1 rq).session s) hentry hvalue hst
      have hkept : closeRevoked (wholeWrite (writer 0x1720 1 rq) (z.data ++ m.data) (dropXfer (writer 0x1720 1 rq).session s)) =
          wholeWrite (writer 0x1720 1 rq) (z.data ++ m.data) (dropXfer (writer 0x1720 1 rq).session s) := by
        rw [hwhole]
        exact closeRevoked_none (revoked_modSession (f := fun x => { x with xfer := none }) hrevoked fun _ => rfl)
      exact answers_of_finish (congrArg finish (hcmd.trans (hkept.trans hwhole))) hrun.loud ⟨rfl, _, rfl, rfl, rfl⟩
  case checked =>
    intro rq mt s hrun hacc hone hst
    obtain rfl := Option.some.inj (hacc.entry.symm.trans rfl)
    have hact : activityOf 0x1720 2 rq.value = none := by simp [activityOf, hone]
    have hplain : plainCmd (askOf s (writer 0x1720 2 rq)).session 0x1720 2 rq.value s = updateCheck s := if_pos hone
    have hcmd := objCmd_plain hrun (by decide) (by decide) rfl rfl rfl rfl hact rfl hacc
    rw [hplain] at hcmd
    obtain ⟨hcode, hupd, hod, hout⟩ := updateCheck_decides hst
    have hkeep : (updateCheck s).1.mem = s.mem ∧ (updateCheck s).1.pair = s.pair ∧ (updateCheck s).1.sup.failSilent = false := by simp [hrun.loud]
    have hpair : updateCheck s = ((updateCheck s).1, updateChecks s) := by rw [← hcode]
    rw [hpair] at hcmd
    generalize (updateCheck s).1 = u at *
    obtain ⟨hmem, hpairs, hloud⟩ := hkeep
    by_cases hc : updateChecks s = 0
    · rw [if_pos hc] at hupd
      rw [hc, tellR_done, closeRevoked_told hod hacc.free] at hcmd
      refine answers_of_finish (congrArg finish hcmd) hloud ⟨hmem, hpairs, ?_⟩
      rw [if_pos hc]
      exact ⟨hupd, told_done hout⟩
    · rw [if_neg hc] at hupd
      rw [tellR_refused _ _ _ hc, closeRevoked_refused hod hacc.free] at hcmd
      refine answers_of_finish (congrArg finish hcmd) hloud ⟨hmem, hpairs, ?_⟩
      rw [if_neg hc]
      exact ⟨hupd, refused_abort hout⟩
  case started =>
    intro rq mt s hrun hacc htwo hrefused hrole hreach hfree
    obtain rfl := Option.some.inj (hacc.entry.symm.trans rfl)
    have hact : activityOf 0x1720 2 rq.value = some 5 := by simp [activityOf, htwo]
    have hcmd : objCmd 0x1720 2 rq s = closeRevoked (respond (writer 0x1720 2 rq) 4 0 [] (inLoader (restart 3 (updateOpened
        (takeToken (ownHolder s 5 0 (writer 0x1720 2 rq).session) s))))) := by
      rw [objCmd_command hrun (by decide) (by decide) rfl rfl rfl rfl hacc]
      have hfree' : tokenFree s { code := 5, slot := mySlot s, arg := 0, session := (writer 0x1720 2 rq).session } = true := hfree
      have henter := enterUpdate_offline (s := takeToken (ownHolder s 5 0 (writer 0x1720 2 rq).session) s) (by simp [hrole])
      rw [← henter]
      simp [command, hact, activity, activityCheck, hrefused, hrole, hreach, activityArg, askOf, hfree', activityStart, tellAsker, ownHolder]
    obtain ⟨hupd, hod, hks⟩ := updateOpened_leaves (takeToken (ownHolder s 5 0 (writer 0x1720 2 rq).session) s)
    have htaken : stagedComp (takeToken (ownHolder s 5 0 (writer 0x1720 2 rq).session) s) = stagedComp s := by simp [stagedComp, stagedHdr, takeToken]
    rw [htaken] at hupd
    have hkept : (takeToken (ownHolder s 5 0 (writer 0x1720 2 rq).session) s).upd = s.upd ∧
        (takeToken (ownHolder s 5 0 (writer 0x1720 2 rq).session) s).ks = s.ks ∧
        (takeToken (ownHolder s 5 0 (writer 0x1720 2 rq).session) s).od = s.od := by simp [takeToken]
    obtain ⟨hkupd, hkks, hkod⟩ := hkept
    rw [hkupd] at hupd
    rw [hkod] at hod
    rw [hkks] at hks
    generalize updateOpened (takeToken (ownHolder s 5 0 (writer 0x1720 2 rq).session) s) = u at *
    have hleft := restart_leaves 3 u
    rw [hupd, hod, hks] at hleft
    obtain ⟨-, hcause, hst, hstaged, hrecord, -, -, -, hvals, hcreds, hout, hsessions, hloud, hruntime⟩ := hleft
    generalize restart 3 u = w at *
    have hnone : closeRevoked (respond (writer 0x1720 2 rq) 4 0 [] (inLoader w)) = respond (writer 0x1720 2 rq) 4 0 [] (inLoader w) := by
      refine closeRevoked_none fun x hx => ?_
      have hx' : x ∈ w.od.sessions := hx
      rw [hsessions] at hx'
      exact absurd hx' (List.not_mem_nil)
    refine answers_of_finish (congrArg finish (hcmd.trans hnone)) hloud ⟨rfl, hcause, hst, hstaged, hrecord, hruntime, hvals, hcreds, ?_⟩
    obtain ⟨m, hreply, hm⟩ := respond_done (writer 0x1720 2 rq) (inLoader w)
    have hquiet : (inLoader w).out = [] := hout
    rw [hquiet] at hreply
    exact ⟨m, hreply, hm⟩
  case discarded =>
    intro rq mt s hrun hacc hthree hst
    obtain rfl := Option.some.inj (hacc.entry.symm.trans rfl)
    have hact : activityOf 0x1720 2 rq.value = none := by simp [activityOf, hthree]
    have hplain : plainCmd (askOf s (writer 0x1720 2 rq)).session 0x1720 2 rq.value s =
        ({ s with upd := { s.upd with st := .idle, staged := [] } }, 0) :=
      (if_neg (by omega)).trans (if_neg hst)
    have hcmd := objCmd_plain hrun (by decide) (by decide) rfl rfl rfl rfl hact rfl hacc
    rw [hplain, tellR_done] at hcmd
    exact congrArg finish (hcmd.trans (closeRevoked_told (by rfl) hacc.free))
  case loader =>
    intro ok r s hrole hst hkiln hstaged hrec hsha hlo hhi hwf comp h c image top
    have hexec : exec (.loaderUpdate ok) s = finish (loaderUpdate ok s) := rfl
    rw [loaderUpdate_checks hrole hst hkiln hstaged hrec hsha] at hexec
    by_cases hc : c ≠ 0
    · rw [if_pos hc] at hexec
      refine answers_of_finish hexec rfl ⟨rfl, rfl, rfl, rfl, rfl, ?_, ?_⟩
      · rw [if_pos hc]
        rfl
      · rw [if_pos hc]
        rfl
    · rw [if_neg hc] at hexec
      obtain ⟨hwritten, hother⟩ := programRegion_writes hlo hhi (stagedHdr s) (stagedBody s) (s := loaderBegun s) hwf
      generalize programRegion (stagedComp s) (stagedHdr s) (stagedBody s) (loaderBegun s) = u at *
      refine answers_of_finish hexec rfl ⟨rfl, rfl, rfl, rfl, rfl, ?_, ?_⟩
      · rw [if_neg hc]
        cases ok <;> rfl
      · rw [if_neg hc]
        exact ⟨hwritten, hother⟩
  case recovery =>
    intro image s hrecovery hrole hkiln hlink hwf h
    have hgo : ¬ (!s.upd.recovery ∨ s.pair.role ≠ .update ∨ s.sup.kilnHeld ∨ !s.od.linkUp) := by simp [hrecovery, hrole, hkiln, hlink]
    have hexec : exec (.recoveryImage image) s = finish (if imageCheck s 1 false h (image.drop 128) ≠ 0 then s
        else restart 3 (programRegion 1 h (image.drop 128) { s with upd := { s.upd with recovery := false } })) := congrArg finish (if_neg hgo)
    by_cases hc : imageCheck s 1 false h (image.drop 128) = 0
    · rw [if_neg (not_not.mpr hc)] at hexec
      obtain ⟨hwritten, hother⟩ := programRegion_writes (comp := 1) (by decide) (by decide) h (image.drop 128)
        (s := { s with upd := { s.upd with recovery := false } }) hwf
      have hrec : (programRegion 1 h (image.drop 128) { s with upd := { s.upd with recovery := false } }).upd.recovery = false := rfl
      have hlen : (imageOf h (image.drop 128)).length = 128 + hdrLen h := by
        obtain ⟨hheader, hbody⟩ := imageCheck_length hc
        have hle : h.length ≤ 128 := List.length_take_le _ _
        rw [imageOf, List.length_append, List.length_take_of_le hbody]
        omega
      rw [hlen] at hwritten hother
      generalize programRegion 1 h (image.drop 128) { s with upd := { s.upd with recovery := false } } = u at *
      refine answers_of_finish hexec rfl ?_
      simp only [if_pos hc]
      refine ⟨hrec, rfl, rfl, hwritten, fun a ha => hother a (ha.imp_right (And.imp_right fun h => ?_))⟩
      show 0x20080000 + (128 + hdrLen _) ≤ a
      omega
    · rw [if_pos hc] at hexec
      refine answers_settled hexec ?_
      simp only [if_neg hc]
      refine ⟨rfl, rfl, ?_⟩
      show (if s.sup.failSilent then silence s.pair else s.pair).role = .update
      split
      · exact hrole
      · exact hrole
  case counter =>
    intro rq mt s hrun hilock hbusy hacc hlen comp f
    obtain rfl := Option.some.inj (hacc.entry.symm.trans rfl)
    have hcomp : 1 ≤ comp ∧ comp ≤ 4 := by
      have hrange := inRange_of_checkValue hacc.value
      have hbounds : (1 : Int) ≤ (beNat rq.value : Int) ∧ (beNat rq.value : Int) ≤ 4 := by simpa [inRange, Ty.value] using hrange
      omega
    obtain ⟨hlo, hhi⟩ := hcomp
    have hcmd := objCmd_plain hrun (by decide) (by decide) rfl rfl rfl rfl rfl rfl hacc
    have hplain : plainCmd (askOf s (writer 0x1720 7 rq)).session 0x1720 7 rq.value s = svnCommit comp s := rfl
    rw [hplain] at hcmd
    by_cases hnor : comp ≤ 2
    · obtain ⟨hraised, hother⟩ := advanceArb_arb (comp := comp) (s := s) hlo (by omega)
      obtain ⟨hod, hout, hst, hloud⟩ := advanceArb_outside comp s
      rw [svnCommit, if_pos hnor, tellR_done, closeRevoked_told hod hacc.free] at hcmd
      generalize advanceArb comp s = u at *
      exact answers_of_finish (congrArg finish hcmd) (hloud.trans hrun.loud) ⟨told_done hout, hst, hraised, hother⟩
    · obtain ⟨u, hplainly, hserved, hod, hout, hst, hloud⟩ := svnCommit_mailbox hrun hilock hbusy (show 2 < comp by omega) hhi
      obtain ⟨hraised, hother⟩ := hserved hlo (by omega)
      rw [hplainly, tellR_done, closeRevoked_told hod hacc.free] at hcmd
      exact answers_of_finish (congrArg finish hcmd) hloud ⟨told_done hout, hst, hraised, hother⟩

end Sys2Proof.Proofs

/-! PROOF. Sessions (09 R315): a PROOF whose message is longer than a segment ends the connection, and the session with it. -/

namespace Sys2Proof.Laws

open Sys2Proof Sys2Proof.Machine Sys2Proof.Safety

/-- A session that has been opened for an operator and not yet proven. -/
def unproven : Session :=
  { handle := 17, level := 1, proven := false, challenge := zeros 32, openedAt := 0, cred := none, path := .service 3, xfer := none }

/-- A running module with that session over connection 3. -/
def proofDue : State := { started with od := { started.od with conns := [3], sessions := [unproven] } }

/-- A signature that no message of the service port holds. -/
def longSignature : List Byte := List.replicate 40000 0

theorem longProof_length : 32768 < (sesMsg 0x11 9 17 ((0 : Byte) :: zeros 3 ++ longSignature)).data.length := by
  have hlong : longSignature.length = 40000 := List.length_replicate
  show 32768 < ((0 : Byte) :: zeros 3 ++ longSignature).length
  rw [List.length_append, hlong]
  omega

/-- The connection ends, its session closed. -/
theorem exec_longProof : exec (.sessionProve (.service 3) 9 17 0 longSignature) proofDue =
    finish (send (.closed 3) { post 0x0601 0x06 (le2 17 ++ u8 1) { proofDue with od := { proofDue.od with sessions := [] } } with
      od := { proofDue.od with sessions := [], conns := [] } }) := by
  refine congrArg finish (?_ : enter (.service 3) (sesMsg 0x11 9 17 ((0 : Byte) :: zeros 3 ++ longSignature)) _ proofDue = _)
  unfold enter
  rw [if_neg (by decide)]
  dsimp only
  rw [if_neg (by decide), if_pos longProof_length]
  rfl

end Sys2Proof.Laws

namespace Sys2Proof.Proofs

open Sys2Proof Sys2Proof.Machine Sys2Proof.Safety Sys2Proof.Laws

/-- Refutes O26: its clause on PROOF does not bound the signature, and a message above 32,768 bytes ends its connection and closes the session,
whether the signature holds or not. -/
theorem not_sessionsComplete : ¬ Obligations.SessionsComplete := by
  intro h
  obtain ⟨-, -, -, hprove, -⟩ := h
  obtain ⟨t, hnext, hpost⟩ := hprove 3 17 9 0 longSignature unproven proofDue ⟨⟨rfl, rfl, rfl, rfl, rfl, rfl, rfl, rfl, rfl, rfl, rfl, rfl⟩, rfl, by decide⟩
    rfl rfl rfl (by decide)
  have hsessions : t.od.sessions = [] := by
    rw [← Host.Outcome.next.inj (exec_longProof.symm.trans hnext)]
    rfl
  split at hpost
  · obtain ⟨hkept, -⟩ := hpost
    rw [hsessions] at hkept
    exact absurd hkept.symm (by simp [proofDue])
  · obtain ⟨hkept, -⟩ := hpost
    rw [hsessions] at hkept
    exact absurd hkept.symm (by simp [proofDue])

end Sys2Proof.Proofs

/-! PROOF. What the work of a beat boundary keeps (04 R137 to R141): the beat's number, its moment, the requests that wait. -/

namespace Sys2Proof.Laws

open Sys2Proof Sys2Proof.Machine Sys2Proof.Safety

@[simp] theorem foldl_cyc {α : Type} {f : State → α → State} (hf : ∀ s x, (f s x).cyc = s.cyc) (xs : List α) (s : State) :
    (xs.foldl f s).cyc = s.cyc := by
  induction xs generalizing s with
  | nil => rfl
  | cons x xs ih => exact (ih _).trans (hf s x)
@[simp] theorem foldl_fol {α : Type} {f : State → α → State} (hf : ∀ s x, (f s x).fol = s.fol) (xs : List α) (s : State) :
    (xs.foldl f s).fol = s.fol := by
  induction xs generalizing s with
  | nil => rfl
  | cons x xs ih => exact (ih _).trans (hf s x)
@[simp] theorem ite_fol (c : Prop) [Decidable c] (s t : State) : (if c then s else t).fol = if c then s.fol else t.fol := by
  split <;> rfl
@[simp] theorem foldl_cyc_beat {α : Type} {f : State → α → State} (hf : ∀ s x, (f s x).cyc.beat = s.cyc.beat) (xs : List α) (s : State) :
    (xs.foldl f s).cyc.beat = s.cyc.beat := by
  induction xs generalizing s with
  | nil => rfl
  | cons x xs ih => exact (ih _).trans (hf s x)
@[simp] theorem ite_cyc_beat (c : Prop) [Decidable c] (s t : State) : (if c then s else t).cyc.beat = if c then s.cyc.beat else t.cyc.beat := by
  split <;> rfl
@[simp] theorem ite_unit_cyc_beat (c : Prop) [Decidable c] (a b : Cyc) : (if c then a else b).beat = if c then a.beat else b.beat := by
  split <;> rfl
@[simp] theorem foldl_cyc_beatTime {α : Type} {f : State → α → State} (hf : ∀ s x, (f s x).cyc.beatTime = s.cyc.beatTime) (xs : List α) (s : State) :
    (xs.foldl f s).cyc.beatTime = s.cyc.beatTime := by
  induction xs generalizing s with
  | nil => rfl
  | cons x xs ih => exact (ih _).trans (hf s x)
@[simp] theorem ite_cyc_beatTime (c : Prop) [Decidable c] (s t : State) : (if c then s else t).cyc.beatTime = if c then s.cyc.beatTime else t.cyc.beatTime := by
  split <;> rfl
@[simp] theorem ite_unit_cyc_beatTime (c : Prop) [Decidable c] (a b : Cyc) : (if c then a else b).beatTime = if c then a.beatTime else b.beatTime := by
  split <;> rfl
@[simp] theorem foldl_cyc_beatAt {α : Type} {f : State → α → State} (hf : ∀ s x, (f s x).cyc.beatAt = s.cyc.beatAt) (xs : List α) (s : State) :
    (xs.foldl f s).cyc.beatAt = s.cyc.beatAt := by
  induction xs generalizing s with
  | nil => rfl
  | cons x xs ih => exact (ih _).trans (hf s x)
@[simp] theorem ite_cyc_beatAt (c : Prop) [Decidable c] (s t : State) : (if c then s else t).cyc.beatAt = if c then s.cyc.beatAt else t.cyc.beatAt := by
  split <;> rfl
@[simp] theorem ite_unit_cyc_beatAt (c : Prop) [Decidable c] (a b : Cyc) : (if c then a else b).beatAt = if c then a.beatAt else b.beatAt := by
  split <;> rfl
@[simp] theorem foldl_fol_requests {α : Type} {f : State → α → State} (hf : ∀ s x, (f s x).fol.requests = s.fol.requests) (xs : List α) (s : State) :
    (xs.foldl f s).fol.requests = s.fol.requests := by
  induction xs generalizing s with
  | nil => rfl
  | cons x xs ih => exact (ih _).trans (hf s x)
@[simp] theorem ite_fol_requests (c : Prop) [Decidable c] (s t : State) : (if c then s else t).fol.requests = if c then s.fol.requests else t.fol.requests := by
  split <;> rfl
@[simp] theorem ite_unit_fol_requests (c : Prop) [Decidable c] (a b : Fol) : (if c then a else b).requests = if c then a.requests else b.requests := by
  split <;> rfl
@[simp] theorem fluInt_cyc_fol (b : Nat) (s : State) :
    (fluInt b s).cyc = s.cyc ∧ (fluInt b s).fol = s.fol := by
  unfold fluInt; simp
@[simp] theorem cycInt_fol_cyc_beat_cyc_beatTime_cyc_beatAt (b : Nat) (s : State) :
    (cycInt b s).fol = s.fol ∧ (cycInt b s).cyc.beat = s.cyc.beat ∧ (cycInt b s).cyc.beatTime = s.cyc.beatTime ∧ (cycInt b s).cyc.beatAt = s.cyc.beatAt := by
  unfold cycInt; simp
@[simp] theorem laneSend_cyc_fol (n : Nat) (f : FlueFrame) (s : State) :
    (laneSend n f s).cyc = s.cyc ∧ (laneSend n f s).fol = s.fol := by
  refine ⟨?_, ?_⟩ <;> (unfold laneSend; rfl)
@[simp] theorem sendFlueF_cyc_fol (flags : Byte) (dst : Option Slot) (body : FlueBody) (s : State) :
    (sendFlueF flags dst body s).cyc = s.cyc ∧ (sendFlueF flags dst body s).fol = s.fol := by
  unfold sendFlueF; simp
@[simp] theorem sendFlue_cyc_fol (dst : Option Slot) (body : FlueBody) (s : State) :
    (sendFlue dst body s).cyc = s.cyc ∧ (sendFlue dst body s).fol = s.fol := by
  unfold sendFlue; simp
@[simp] theorem sendTwin_cyc_fol (body : FlueBody) (s : State) :
    (sendTwin body s).cyc = s.cyc ∧ (sendTwin body s).fol = s.fol := by
  unfold sendTwin; split <;> simp
@[simp] theorem issueRecord_cyc_fol (s : State) :
    (issueRecord s).cyc = s.cyc ∧ (issueRecord s).fol = s.fol := by
  refine ⟨?_, ?_⟩ <;> (unfold issueRecord; rfl)
@[simp] theorem releaseToken_cyc_fol (p : Holder → Bool) (s : State) :
    (releaseToken p s).cyc = s.cyc ∧ (releaseToken p s).fol = s.fol := by
  unfold releaseToken; simp
@[simp] theorem flushHeldTx_cyc_fol_requests (s : State) :
    (flushHeldTx s).cyc = s.cyc ∧ (flushHeldTx s).fol.requests = s.fol.requests := by
  refine ⟨?_, ?_⟩
  · unfold flushHeldTx; rw [foldl_cyc (fun s x => by (repeat' split) <;> simp)]
  · unfold flushHeldTx; rw [foldl_fol_requests (fun s x => by (repeat' split) <;> simp)]
@[simp] theorem fijStopRun_cyc_fol_requests (cause : Nat) (s : State) :
    (fijStopRun cause s).cyc = s.cyc ∧ (fijStopRun cause s).fol.requests = s.fol.requests := by
  unfold fijStopRun; simp
@[simp] theorem setRole_cyc_fol_requests (r : Role) (sub : Sub) (s : State) :
    (setRole r sub s).cyc = s.cyc ∧ (setRole r sub s).fol.requests = s.fol.requests := by
  unfold setRole; simp
@[simp] theorem clearTwin_cyc_fol (s : State) :
    (clearTwin s).cyc = s.cyc ∧ (clearTwin s).fol = s.fol := by
  refine ⟨?_, ?_⟩ <;> (unfold clearTwin; rfl)
@[simp] theorem enterResync_cyc_fol (byDiv : Bool) (s : State) :
    (enterResync byDiv s).cyc = s.cyc ∧ (enterResync byDiv s).fol = s.fol := by
  unfold enterResync; simp
@[simp] theorem takeToken_cyc_fol (h : Holder) (s : State) :
    (takeToken h s).cyc = s.cyc ∧ (takeToken h s).fol = s.fol := by
  unfold takeToken; simp
@[simp] theorem tokenBusy_cyc_fol (h : Holder) (s : State) :
    (tokenBusy h s).cyc = s.cyc ∧ (tokenBusy h s).fol = s.fol := by
  unfold tokenBusy; simp
@[simp] theorem startPass_cyc_fol (s : State) :
    (startPass s).cyc = s.cyc ∧ (startPass s).fol = s.fol := by
  refine ⟨?_, ?_⟩ <;> (unfold startPass; rfl)
@[simp] theorem autoPass_cyc_fol (s : State) :
    (autoPass s).cyc = s.cyc ∧ (autoPass s).fol = s.fol := by
  unfold autoPass; simp
@[simp] theorem seasonPauseTo_cyc_fol (p : Bool) (s : State) :
    (seasonPauseTo p s).cyc = s.cyc ∧ (seasonPauseTo p s).fol = s.fol := by
  unfold seasonPauseTo; simp
@[simp] theorem placeRel_cyc_fol (c op task : Nat) (s : State) :
    (placeRel c op task s).cyc = s.cyc ∧ (placeRel c op task s).fol = s.fol := by
  refine ⟨?_, ?_⟩ <;> (unfold placeRel; rfl)
@[simp] theorem respond_cyc_fol (c : Client) (op : Byte) (arg : Nat) (data : List Byte) (s : State) :
    (respond c op arg data s).cyc = s.cyc ∧ (respond c op arg data s).fol = s.fol := by
  refine ⟨?_, ?_⟩ <;> (unfold respond; rfl)
@[simp] theorem setTask_cyc_fol (t : Nat) (f : Task → Task) (s : State) :
    (setTask t f s).cyc = s.cyc ∧ (setTask t f s).fol = s.fol := by
  refine ⟨?_, ?_⟩ <;> (unfold setTask; rfl)
@[simp] theorem stopThreads_cyc_fol (t : Nat) (cores : BitVec 8) (s : State) :
    (stopThreads t cores s).cyc = s.cyc ∧ (stopThreads t cores s).fol = s.fol := by
  unfold stopThreads; simp
@[simp] theorem resumeTask_fol_cyc_beat_cyc_beatTime_cyc_beatAt (t : Nat) (s : State) :
    (resumeTask t s).fol = s.fol ∧ (resumeTask t s).cyc.beat = s.cyc.beat ∧ (resumeTask t s).cyc.beatTime = s.cyc.beatTime ∧ (resumeTask t s).cyc.beatAt = s.cyc.beatAt := by
  unfold resumeTask; simp
@[simp] theorem skipInstance_fol_cyc_beat_cyc_beatTime_cyc_beatAt (t : Nat) (s : State) :
    (skipInstance t s).fol = s.fol ∧ (skipInstance t s).cyc.beat = s.cyc.beat ∧ (skipInstance t s).cyc.beatTime = s.cyc.beatTime ∧ (skipInstance t s).cyc.beatAt = s.cyc.beatAt := by
  unfold skipInstance; simp
@[simp] theorem kdvTarget_cyc_fol (level : Level) (word : Word) (s : State) :
    (kdvTarget level word s).cyc = s.cyc ∧ (kdvTarget level word s).fol = s.fol := by
  unfold kdvTarget; simp
@[simp] theorem storeProgram_cyc_fol (b : List Byte) (s : State) :
    (storeProgram b s).cyc = s.cyc ∧ (storeProgram b s).fol = s.fol := by
  unfold storeProgram; simp
@[simp] theorem trackOn_cyc_fol (s : State) :
    (trackOn s).cyc = s.cyc ∧ (trackOn s).fol = s.fol := by
  refine ⟨?_, ?_⟩ <;> (unfold trackOn; rfl)
@[simp] theorem trackOff_cyc_fol (s : State) :
    (trackOff s).cyc = s.cyc ∧ (trackOff s).fol = s.fol := by
  refine ⟨?_, ?_⟩ <;> (unfold trackOff; rfl)
@[simp] theorem takeDirty_cyc_fol (s : State) :
    (takeDirty s).cyc = s.cyc ∧ (takeDirty s).fol = s.fol := by
  refine ⟨?_, ?_⟩ <;> (unfold takeDirty; rfl)
@[simp] theorem chgPost_cyc_fol (code : Nat) (data : List Byte) (s : State) :
    (chgPost code data s).cyc = s.cyc ∧ (chgPost code data s).fol = s.fol := by
  unfold chgPost; simp
@[simp] theorem endChange_cyc_fol (st : ChgSt) (code : Nat) (s : State) :
    (endChange st code s).cyc = s.cyc ∧ (endChange st code s).fol = s.fol := by
  unfold endChange; simp
@[simp] theorem sendKindle_cyc_fol (op flags : Nat) (arg aux : Nat) (data : List Byte) (s : State) :
    (sendKindle op flags arg aux data s).cyc = s.cyc ∧ (sendKindle op flags arg aux data s).fol = s.fol := by
  unfold sendKindle; simp
@[simp] theorem beginMeasuring_cyc_fol (s : State) :
    (beginMeasuring s).cyc = s.cyc ∧ (beginMeasuring s).fol = s.fol := by
  unfold beginMeasuring; simp
@[simp] theorem loadingDone_cyc_fol (s : State) :
    (loadingDone s).cyc = s.cyc ∧ (loadingDone s).fol = s.fol := by
  unfold loadingDone; (repeat' split) <;> simp
@[simp] theorem announceSwap_cyc_fol (s : State) :
    (announceSwap s).cyc = s.cyc ∧ (announceSwap s).fol = s.fol := by
  unfold announceSwap; split <;> simp
@[simp] theorem closeTasks_fol_cyc_beat_cyc_beatTime_cyc_beatAt (s : State) :
    (closeTasks s).fol = s.fol ∧ (closeTasks s).cyc.beat = s.cyc.beat ∧ (closeTasks s).cyc.beatTime = s.cyc.beatTime ∧ (closeTasks s).cyc.beatAt = s.cyc.beatAt := by
  refine ⟨?_, ?_, ?_, ?_⟩ <;> (unfold closeTasks; rfl)
@[simp] theorem restoreMasks_fol_cyc_beat_cyc_beatTime_cyc_beatAt (s : State) :
    (restoreMasks s).fol = s.fol ∧ (restoreMasks s).cyc.beat = s.cyc.beat ∧ (restoreMasks s).cyc.beatTime = s.cyc.beatTime ∧ (restoreMasks s).cyc.beatAt = s.cyc.beatAt := by
  refine ⟨?_, ?_, ?_, ?_⟩ <;> (unfold restoreMasks; rfl)
@[simp] theorem postpone_fol_cyc_beat_cyc_beatTime_cyc_beatAt (s : State) :
    (postpone s).fol = s.fol ∧ (postpone s).cyc.beat = s.cyc.beat ∧ (postpone s).cyc.beatTime = s.cyc.beatTime ∧ (postpone s).cyc.beatAt = s.cyc.beatAt := by
  unfold postpone; simp
@[simp] theorem tryQuiesce_fol_cyc_beat_cyc_beatTime_cyc_beatAt (s : State) :
    (tryQuiesce s).fol = s.fol ∧ (tryQuiesce s).cyc.beat = s.cyc.beat ∧ (tryQuiesce s).cyc.beatTime = s.cyc.beatTime ∧ (tryQuiesce s).cyc.beatAt = s.cyc.beatAt := by
  unfold tryQuiesce; simp
@[simp] theorem swapMissed_cyc_fol (s : State) :
    (swapMissed s).cyc = s.cyc ∧ (swapMissed s).fol = s.fol := by
  unfold swapMissed; simp
@[simp] theorem reopenSwap_fol_cyc_beat_cyc_beatTime_cyc_beatAt (s : State) :
    (reopenSwap s).fol = s.fol ∧ (reopenSwap s).cyc.beat = s.cyc.beat ∧ (reopenSwap s).cyc.beatTime = s.cyc.beatTime ∧ (reopenSwap s).cyc.beatAt = s.cyc.beatAt := by
  unfold reopenSwap; simp
@[simp] theorem leaveChange_cyc_fol (s : State) :
    (leaveChange s).cyc = s.cyc ∧ (leaveChange s).fol = s.fol := by
  refine ⟨?_, ?_⟩ <;> (unfold leaveChange; rfl)
@[simp] theorem changeBeat_fol_cyc_beat_cyc_beatTime_cyc_beatAt (s : State) :
    (changeBeat s).fol = s.fol ∧ (changeBeat s).cyc.beat = s.cyc.beat ∧ (changeBeat s).cyc.beatTime = s.cyc.beatTime ∧ (changeBeat s).cyc.beatAt = s.cyc.beatAt := by
  unfold changeBeat; dsimp only; (repeat' split) <;> simp
@[simp] theorem clearForces_cyc_fol (s : State) :
    (clearForces s).cyc = s.cyc ∧ (clearForces s).fol = s.fol := by
  unfold clearForces; simp
@[simp] theorem setPort_cyc_fol_requests (n : Nat) (f : Port → Port) (s : State) :
    (setPort n f s).cyc = s.cyc ∧ (setPort n f s).fol.requests = s.fol.requests := by
  refine ⟨?_, ?_⟩ <;> (unfold setPort; rfl)
@[simp] theorem setCnt_cyc_fol_requests (n : Nat) (f : PortCnt → PortCnt) (s : State) :
    (setCnt n f s).cyc = s.cyc ∧ (setCnt n f s).fol.requests = s.fol.requests := by
  refine ⟨?_, ?_⟩ <;> (unfold setCnt; rfl)
@[simp] theorem setSeg_cyc_fol_requests (n : Nat) (f : Seg → Seg) (s : State) :
    (setSeg n f s).cyc = s.cyc ∧ (setSeg n f s).fol.requests = s.fol.requests := by
  refine ⟨?_, ?_⟩ <;> (unfold setSeg; rfl)
@[simp] theorem portSend_cyc_fol_requests (n : Nat) (f : FolFrame) (s : State) :
    (portSend n f s).cyc = s.cyc ∧ (portSend n f s).fol.requests = s.fol.requests := by
  unfold portSend; simp
@[simp] theorem sendRelays_cyc_fol (es : List RelayE) (s : State) :
    (sendRelays es s).cyc = s.cyc ∧ (sendRelays es s).fol = s.fol := by
  unfold sendRelays; simp
@[simp] theorem endSend_cyc_fol_requests (n end_ : Nat) (f : FolFrame) (s : State) :
    (endSend n end_ f s).cyc = s.cyc ∧ (endSend n end_ f s).fol.requests = s.fol.requests := by
  unfold endSend; simp
@[simp] theorem windowSend_cyc_fol_requests (n end_ : Nat) (f : FolFrame) (s : State) :
    (windowSend n end_ f s).cyc = s.cyc ∧ (windowSend n end_ f s).fol.requests = s.fol.requests := by
  unfold windowSend; simp
@[simp] theorem svcToStation_cyc_fol_requests (n end_ station : Nat) (op : Byte) (index sub : Nat) (data : List Byte) (s : State) :
    (svcToStation n end_ station op index sub data s).cyc = s.cyc ∧ (svcToStation n end_ station op index sub data s).fol.requests = s.fol.requests := by
  unfold svcToStation; simp
@[simp] theorem relayCycleStarts_cyc_fol (s : State) :
    (relayCycleStarts s).cyc = s.cyc ∧ (relayCycleStarts s).fol = s.fol := by
  unfold relayCycleStarts; simp
@[simp] theorem putStation_cyc_fol_requests (x : Station) (s : State) :
    (putStation x s).cyc = s.cyc ∧ (putStation x s).fol.requests = s.fol.requests := by
  refine ⟨?_, ?_⟩ <;> (unfold putStation; rfl)
@[simp] theorem putQuality_cyc_fol_requests (x : Station) (s : State) :
    (putQuality x s).cyc = s.cyc ∧ (putQuality x s).fol.requests = s.fol.requests := by
  refine ⟨?_, ?_⟩ <;> (unfold putQuality; rfl)
@[simp] theorem stationWrite_cyc_fol_requests (x : Nat) (index sub : Nat) (data : List Byte) (s : State) :
    (stationWrite x index sub data s).cyc = s.cyc ∧ (stationWrite x index sub data s).fol.requests = s.fol.requests := by
  unfold stationWrite; (repeat' split) <;> simp
@[simp] theorem noteHyper_fol_cyc_beat_cyc_beatTime_cyc_beatAt (s : State) :
    (noteHyper s).fol = s.fol ∧ (noteHyper s).cyc.beat = s.cyc.beat ∧ (noteHyper s).cyc.beatTime = s.cyc.beatTime ∧ (noteHyper s).cyc.beatAt = s.cyc.beatAt := by
  refine ⟨?_, ?_, ?_, ?_⟩ <;> (unfold noteHyper; rfl)
@[simp] theorem stationBoundary_cyc_fol_requests (had : Bool) (s : State) (x : Station) :
    (stationBoundary had s x).cyc = s.cyc ∧ (stationBoundary had s x).fol.requests = s.fol.requests := by
  unfold stationBoundary; simp
@[simp] theorem segBoundary_cyc_fol_requests (n : Nat) (s : State) :
    (segBoundary n s).cyc = s.cyc ∧ (segBoundary n s).fol.requests = s.fol.requests := by
  unfold segBoundary; simp
@[simp] theorem emitCycleStart_cyc_fol_requests (n : Nat) (s : State) :
    (emitCycleStart n s).cyc = s.cyc ∧ (emitCycleStart n s).fol.requests = s.fol.requests := by
  unfold emitCycleStart; split <;> simp
@[simp] theorem sendPage_cyc_fol (s : State) (p : Nat) :
    (sendPage s p).cyc = s.cyc ∧ (sendPage s p).fol = s.fol := by
  unfold sendPage; simp
@[simp] theorem sendPages_cyc_fol (ps : List Nat) (s : State) :
    (sendPages ps s).cyc = s.cyc ∧ (sendPages ps s).fol = s.fol := by
  unfold sendPages; simp
@[simp] theorem setResync_cyc_fol (f : Resync → Resync) (s : State) :
    (setResync f s).cyc = s.cyc ∧ (setResync f s).fol = s.fol := by
  refine ⟨?_, ?_⟩ <;> (unfold setResync; rfl)
@[simp] theorem sendCtrl_cyc_fol (phase task : Nat) (arg : Word) (s : State) :
    (sendCtrl phase task arg s).cyc = s.cyc ∧ (sendCtrl phase task arg s).fol = s.fol := by
  unfold sendCtrl; simp
@[simp] theorem beginBulk_cyc_fol (s : State) :
    (beginBulk s).cyc = s.cyc ∧ (beginBulk s).fol = s.fol := by
  refine ⟨?_, ?_⟩ <;> (unfold beginBulk; rfl)
@[simp] theorem markSet_cyc_fol (task : Nat) (s : State) :
    (markSet task s).cyc = s.cyc ∧ (markSet task s).fol = s.fol := by
  unfold markSet; simp
@[simp] theorem closing_cyc_fol (s : State) :
    (closing s).cyc = s.cyc ∧ (closing s).fol = s.fol := by
  unfold closing; simp
@[simp] theorem resyncBeat_cyc_fol (s : State) :
    (resyncBeat s).cyc = s.cyc ∧ (resyncBeat s).fol = s.fol := by
  unfold resyncBeat; dsimp only; (repeat' split) <;> simp
@[simp] theorem endResync_cyc_fol (s : State) :
    (endResync s).cyc = s.cyc ∧ (endResync s).fol = s.fol := by
  unfold endResync; simp
@[simp] theorem cycPost_cyc_fol (code : Nat) (data : List Byte) (s : State) :
    (cycPost code data s).cyc = s.cyc ∧ (cycPost code data s).fol = s.fol := by
  unfold cycPost; simp
@[simp] theorem startTask_fol_cyc_beat_cyc_beatTime_cyc_beatAt (s : State) (t : Nat) :
    (startTask s t).fol = s.fol ∧ (startTask s t).cyc.beat = s.cyc.beat ∧ (startTask s t).cyc.beatTime = s.cyc.beatTime ∧ (startTask s t).cyc.beatAt = s.cyc.beatAt := by
  unfold startTask; simp
@[simp] theorem checkRunning_fol_cyc_beat_cyc_beatTime_cyc_beatAt (s : State) :
    (checkRunning s).fol = s.fol ∧ (checkRunning s).cyc.beat = s.cyc.beat ∧ (checkRunning s).cyc.beatTime = s.cyc.beatTime ∧ (checkRunning s).cyc.beatAt = s.cyc.beatAt := by
  unfold checkRunning; simp
@[simp] theorem stopAll_fol_cyc_beat_cyc_beatTime_cyc_beatAt (s : State) :
    (stopAll s).fol = s.fol ∧ (stopAll s).cyc.beat = s.cyc.beat ∧ (stopAll s).cyc.beatTime = s.cyc.beatTime ∧ (stopAll s).cyc.beatAt = s.cyc.beatAt := by
  unfold stopAll; simp
@[simp] theorem programStopped_fol_cyc_beat_cyc_beatTime_cyc_beatAt (s : State) :
    (programStopped s).fol = s.fol ∧ (programStopped s).cyc.beat = s.cyc.beat ∧ (programStopped s).cyc.beatTime = s.cyc.beatTime ∧ (programStopped s).cyc.beatAt = s.cyc.beatAt := by
  unfold programStopped; simp
@[simp] theorem stopBeat_fol_cyc_beat_cyc_beatTime_cyc_beatAt (s : State) :
    (stopBeat s).fol = s.fol ∧ (stopBeat s).cyc.beat = s.cyc.beat ∧ (stopBeat s).cyc.beatTime = s.cyc.beatTime ∧ (stopBeat s).cyc.beatAt = s.cyc.beatAt := by
  unfold stopBeat; simp
@[simp] theorem restartImages_cyc_fol (s : State) :
    (restartImages s).cyc = s.cyc ∧ (restartImages s).fol = s.fol := by
  refine ⟨?_, ?_⟩ <;> (unfold restartImages; rfl)
@[simp] theorem restartTasks_cyc_beat_cyc_beatTime_cyc_beatAt_fol_requests (s : State) :
    (restartTasks s).cyc.beat = s.cyc.beat ∧ (restartTasks s).cyc.beatTime = s.cyc.beatTime ∧ (restartTasks s).cyc.beatAt = s.cyc.beatAt ∧ (restartTasks s).fol.requests = s.fol.requests := by
  refine ⟨?_, ?_, ?_, ?_⟩ <;> (unfold restartTasks; rfl)
@[simp] theorem restartBegin_cyc_beat_cyc_beatTime_cyc_beatAt_fol_requests (r : Restart) (s : State) :
    (restartBegin r s).cyc.beat = s.cyc.beat ∧ (restartBegin r s).cyc.beatTime = s.cyc.beatTime ∧ (restartBegin r s).cyc.beatAt = s.cyc.beatAt ∧ (restartBegin r s).fol.requests = s.fol.requests := by
  unfold restartBegin; simp
@[simp] theorem restartBeat_cyc_beat_cyc_beatTime_cyc_beatAt_fol_requests (s : State) :
    (restartBeat s).cyc.beat = s.cyc.beat ∧ (restartBeat s).cyc.beatTime = s.cyc.beatTime ∧ (restartBeat s).cyc.beatAt = s.cyc.beatAt ∧ (restartBeat s).fol.requests = s.fol.requests := by
  unfold restartBeat; (repeat' split) <;> simp
@[simp] theorem setEnable_fol_cyc_beat_cyc_beatTime_cyc_beatAt (t : Nat) (on : Bool) (s : State) :
    (setEnable t on s).fol = s.fol ∧ (setEnable t on s).cyc.beat = s.cyc.beat ∧ (setEnable t on s).cyc.beatTime = s.cyc.beatTime ∧ (setEnable t on s).cyc.beatAt = s.cyc.beatAt := by
  unfold setEnable; simp
@[simp] theorem taskEntry_fol_cyc_beat_cyc_beatTime_cyc_beatAt (t sub v : Nat) (s : State) :
    (taskEntry t sub v s).fol = s.fol ∧ (taskEntry t sub v s).cyc.beat = s.cyc.beat ∧ (taskEntry t sub v s).cyc.beatTime = s.cyc.beatTime ∧ (taskEntry t sub v s).cyc.beatAt = s.cyc.beatAt := by
  unfold taskEntry; (repeat' split) <;> simp
@[simp] theorem pairPost_cyc_fol (code : Nat) (data : List Byte) (s : State) :
    (pairPost code data s).cyc = s.cyc ∧ (pairPost code data s).fol = s.fol := by
  unfold pairPost; simp
@[simp] theorem takeoverLate_cyc_fol (s : State) :
    (takeoverLate s).cyc = s.cyc ∧ (takeoverLate s).fol = s.fol := by
  unfold takeoverLate; split <;> simp
@[simp] theorem sendPromote_cyc_fol (action : Nat) (s : State) :
    (sendPromote action s).cyc = s.cyc ∧ (sendPromote action s).fol = s.fol := by
  unfold sendPromote; simp
@[simp] theorem beginSwitch_cyc_fol (service : Bool) (s : State) :
    (beginSwitch service s).cyc = s.cyc ∧ (beginSwitch service s).fol = s.fol := by
  unfold beginSwitch; dsimp only; (repeat' split) <;> simp
@[simp] theorem requestSwitch_cyc_fol (session : Nat) (service : Bool) (s : State) :
    (requestSwitch session service s).1.cyc = s.cyc ∧ (requestSwitch session service s).1.fol = s.fol := by
  unfold requestSwitch; dsimp only; (repeat' split) <;> simp
@[simp] theorem leaveRoles_cyc_fol_requests (s : State) :
    (leaveRoles s).cyc = s.cyc ∧ (leaveRoles s).fol.requests = s.fol.requests := by
  unfold leaveRoles; simp
@[simp] theorem tellEject_cyc_fol (s : State) :
    (tellEject s).cyc = s.cyc ∧ (tellEject s).fol = s.fol := by
  unfold tellEject; simp
@[simp] theorem serviceBeat_cyc_fol_requests (s : State) :
    (serviceBeat s).cyc = s.cyc ∧ (serviceBeat s).fol.requests = s.fol.requests := by
  unfold serviceBeat; dsimp only; (repeat' split) <;> simp
@[simp] theorem setCommission_cyc_fol_requests (on : Bool) (s : State) :
    (setCommission on s).cyc = s.cyc ∧ (setCommission on s).fol.requests = s.fol.requests := by
  unfold setCommission; simp
@[simp] theorem pairField_cyc_fol (lo len v : Nat) (s : State) :
    (pairField lo len v s).cyc = s.cyc ∧ (pairField lo len v s).fol = s.fol := by
  refine ⟨?_, ?_⟩ <;> (unfold pairField; rfl)
@[simp] theorem fluField_cyc_fol (lo len v : Nat) (s : State) :
    (fluField lo len v s).cyc = s.cyc ∧ (fluField lo len v s).fol = s.fol := by
  refine ⟨?_, ?_⟩ <;> (unfold fluField; rfl)
@[simp] theorem cycField_fol_cyc_beat_cyc_beatTime_cyc_beatAt (lo len v : Nat) (s : State) :
    (cycField lo len v s).fol = s.fol ∧ (cycField lo len v s).cyc.beat = s.cyc.beat ∧ (cycField lo len v s).cyc.beatTime = s.cyc.beatTime ∧ (cycField lo len v s).cyc.beatAt = s.cyc.beatAt := by
  refine ⟨?_, ?_, ?_, ?_⟩ <;> (unfold cycField; rfl)
@[simp] theorem lioField_cyc_fol (lo len v : Nat) (s : State) :
    (lioField lo len v s).cyc = s.cyc ∧ (lioField lo len v s).fol = s.fol := by
  refine ⟨?_, ?_⟩ <;> (unfold lioField; rfl)
@[simp] theorem applyPair_cyc_fol (sub v : Nat) (s : State) :
    (applyPair sub v s).cyc = s.cyc ∧ (applyPair sub v s).fol = s.fol := by
  unfold applyPair; split <;> simp
@[simp] theorem segField_cyc_fol (n lo len v : Nat) (s : State) :
    (segField n lo len v s).cyc = s.cyc ∧ (segField n lo len v s).fol = s.fol := by
  refine ⟨?_, ?_⟩ <;> (unfold segField; rfl)
@[simp] theorem applySegment_cyc_fol_requests (n sub v : Nat) (s : State) :
    (applySegment n sub v s).cyc = s.cyc ∧ (applySegment n sub v s).fol.requests = s.fol.requests := by
  unfold applySegment; split <;> simp
@[simp] theorem applyProgram_fol_cyc_beat_cyc_beatTime_cyc_beatAt (sub v : Nat) (s : State) :
    (applyProgram sub v s).fol = s.fol ∧ (applyProgram sub v s).cyc.beat = s.cyc.beat ∧ (applyProgram sub v s).cyc.beatTime = s.cyc.beatTime ∧ (applyProgram sub v s).cyc.beatAt = s.cyc.beatAt := by
  unfold applyProgram; split <;> simp
@[simp] theorem applyTime_cyc_fol (sub v : Nat) (s : State) :
    (applyTime sub v s).cyc = s.cyc ∧ (applyTime sub v s).fol = s.fol := by
  unfold applyTime; split <;> simp
@[simp] theorem applyStore_cyc_fol (sub v : Nat) (s : State) :
    (applyStore sub v s).cyc = s.cyc ∧ (applyStore sub v s).fol = s.fol := by
  unfold applyStore; split <;> simp
@[simp] theorem applyLio_cyc_fol (sub v : Nat) (s : State) :
    (applyLio sub v s).cyc = s.cyc ∧ (applyLio sub v s).fol = s.fol := by
  unfold applyLio; split <;> simp
@[simp] theorem applyFij_cyc_fol (idx sub : Nat) (v : List Byte) (s : State) :
    (applyFij idx sub v s).cyc = s.cyc ∧ (applyFij idx sub v s).fol = s.fol := by
  unfold applyFij; simp
@[simp] theorem applyMode_cyc_fol (sub v : Nat) (s : State) :
    (applyMode sub v s).cyc = s.cyc ∧ (applyMode sub v s).fol = s.fol := by
  unfold applyMode; split <;> simp
@[simp] theorem applyStation_cyc_fol_requests (x k sub : Nat) (v : List Byte) (s : State) :
    (applyStation x k sub v s).cyc = s.cyc ∧ (applyStation x k sub v s).fol.requests = s.fol.requests := by
  unfold applyStation; dsimp only; (repeat' split) <;> simp
@[simp] theorem applyVal_cyc_beat_cyc_beatTime_cyc_beatAt_fol_requests (idx sub : Nat) (v : List Byte) (s : State) :
    (applyVal idx sub v s).cyc.beat = s.cyc.beat ∧ (applyVal idx sub v s).cyc.beatTime = s.cyc.beatTime ∧ (applyVal idx sub v s).cyc.beatAt = s.cyc.beatAt ∧ (applyVal idx sub v s).fol.requests = s.fol.requests := by
  unfold applyVal; simp
@[simp] theorem takeNext_cyc_beat_cyc_beatTime_cyc_beatAt_fol_requests (s : State) :
    (takeNext s).cyc.beat = s.cyc.beat ∧ (takeNext s).cyc.beatTime = s.cyc.beatTime ∧ (takeNext s).cyc.beatAt = s.cyc.beatAt ∧ (takeNext s).fol.requests = s.fol.requests := by
  refine ⟨?_, ?_, ?_, ?_⟩ <;> (unfold takeNext; rfl)
@[simp] theorem sendEntries_cyc_fol (dst : Slot) (op : Nat) (txn : Word) (beat : DWord) (es : List ObjE) (s : State) :
    (sendEntries dst op txn beat es s).cyc = s.cyc ∧ (sendEntries dst op txn beat es s).fol = s.fol := by
  unfold sendEntries; simp
@[simp] theorem applyEntry_cyc_beat_cyc_beatTime_cyc_beatAt_fol_requests (s : State) (e : ObjE) :
    (applyEntry s e).cyc.beat = s.cyc.beat ∧ (applyEntry s e).cyc.beatTime = s.cyc.beatTime ∧ (applyEntry s e).cyc.beatAt = s.cyc.beatAt ∧ (applyEntry s e).fol.requests = s.fol.requests := by
  unfold applyEntry; simp
@[simp] theorem sendResult_cyc_fol (n : Word) (code : Nat) (s : State) :
    (sendResult n code s).cyc = s.cyc ∧ (sendResult n code s).fol = s.fol := by
  unfold sendResult; simp
@[simp] theorem applyTxn_cyc_beat_cyc_beatTime_cyc_beatAt_fol_requests (s : State) (t : Txn) :
    (applyTxn s t).cyc.beat = s.cyc.beat ∧ (applyTxn s t).cyc.beatTime = s.cyc.beatTime ∧ (applyTxn s t).cyc.beatAt = s.cyc.beatAt ∧ (applyTxn s t).fol.requests = s.fol.requests := by
  unfold applyTxn; (repeat' split) <;> simp
@[simp] theorem sendWholeSet_cyc_fol (s : State) :
    (sendWholeSet s).cyc = s.cyc ∧ (sendWholeSet s).fol = s.fol := by
  unfold sendWholeSet; (repeat' split) <;> simp
@[simp] theorem setPath_cyc_fol (p : Nat) (s : State) :
    (setPath p s).cyc = s.cyc ∧ (setPath p s).fol = s.fol := by
  unfold setPath; simp
@[simp] theorem choosePath_cyc_fol (s : State) :
    (choosePath s).cyc = s.cyc ∧ (choosePath s).fol = s.fol := by
  unfold choosePath; simp
@[simp] theorem sendStatus_cyc_fol (s : State) :
    (sendStatus s).cyc = s.cyc ∧ (sendStatus s).fol = s.fol := by
  unfold sendStatus; simp
@[simp] theorem countBeat_fol (s : State) : (countBeat s).fol = s.fol := by
  unfold countBeat; rfl
@[simp] theorem closeBudget_cyc_fol (s : State) :
    (closeBudget s).cyc = s.cyc ∧ (closeBudget s).fol = s.fol := by
  unfold closeBudget; simp
@[simp] theorem setStale_fol_cyc_beat_cyc_beatTime_cyc_beatAt (t : Nat) (on : Bool) (s : State) :
    (setStale t on s).fol = s.fol ∧ (setStale t on s).cyc.beat = s.cyc.beat ∧ (setStale t on s).cyc.beatTime = s.cyc.beatTime ∧ (setStale t on s).cyc.beatAt = s.cyc.beatAt := by
  unfold setStale; simp
@[simp] theorem descBeat_fol_cyc_beat_cyc_beatTime_cyc_beatAt (s : State) (t : Nat) :
    (descBeat s t).fol = s.fol ∧ (descBeat s t).cyc.beat = s.cyc.beat ∧ (descBeat s t).cyc.beatTime = s.cyc.beatTime ∧ (descBeat s t).cyc.beatAt = s.cyc.beatAt := by
  unfold descBeat; simp
@[simp] theorem descsBeat_fol_cyc_beat_cyc_beatTime_cyc_beatAt (s : State) :
    (descsBeat s).fol = s.fol ∧ (descsBeat s).cyc.beat = s.cyc.beat ∧ (descsBeat s).cyc.beatTime = s.cyc.beatTime ∧ (descsBeat s).cyc.beatAt = s.cyc.beatAt := by
  unfold descsBeat; simp
@[simp] theorem takeMasks_fol_cyc_beat_cyc_beatTime_cyc_beatAt (s : State) :
    (takeMasks s).fol = s.fol ∧ (takeMasks s).cyc.beat = s.cyc.beat ∧ (takeMasks s).cyc.beatTime = s.cyc.beatTime ∧ (takeMasks s).cyc.beatAt = s.cyc.beatAt := by
  refine ⟨?_, ?_, ?_, ?_⟩ <;> (unfold takeMasks; rfl)
@[simp] theorem segBeat_cyc_fol_requests (s : State) (n : Nat) :
    (segBeat s n).cyc = s.cyc ∧ (segBeat s n).fol.requests = s.fol.requests := by
  unfold segBeat; (repeat' split) <;> simp
@[simp] theorem segsBeat_cyc_fol_requests (s : State) :
    (segsBeat s).cyc = s.cyc ∧ (segsBeat s).fol.requests = s.fol.requests := by
  unfold segsBeat; simp
@[simp] theorem retryRecord_cyc_fol (s : State) :
    (retryRecord s).cyc = s.cyc ∧ (retryRecord s).fol = s.fol := by
  unfold retryRecord; simp
@[simp] theorem repeatClaim_cyc_fol (s : State) :
    (repeatClaim s).cyc = s.cyc ∧ (repeatClaim s).fol = s.fol := by
  unfold repeatClaim; simp
@[simp] theorem dropSwitchSeen_cyc_fol (s : State) :
    (dropSwitchSeen s).cyc = s.cyc ∧ (dropSwitchSeen s).fol = s.fol := by
  unfold dropSwitchSeen; split <;> simp
@[simp] theorem pairBeat_cyc_fol_requests (s : State) :
    (pairBeat s).cyc = s.cyc ∧ (pairBeat s).fol.requests = s.fol.requests := by
  unfold pairBeat; simp

/-- The beat as the boundary has counted it, and the requests that wait for the runtime. -/
def SameBeat (s t : State) : Prop :=
  t.cyc.beat = s.cyc.beat ∧ t.cyc.beatTime = s.cyc.beatTime ∧ t.cyc.beatAt = s.cyc.beatAt ∧ t.fol.requests = s.fol.requests

theorem applyTxns_sameBeat (b : Nat) {s : State} (h : s.od.waits = []) : SameBeat s (applyTxns b s) := by
  unfold applyTxns
  simp [h, SameBeat]

theorem applyBeatClass_sameBeat {s : State} (h : s.od.waits = []) : SameBeat s (applyBeatClass s) := by
  obtain ⟨h1, h2, h3, h4⟩ := applyTxns_sameBeat s.cyc.beat.toNat h
  unfold applyBeatClass
  simp [SameBeat, h1, h2, h3, h4]

/-- With no request waiting a beat raises the number by 1 and dates it. -/
theorem beat_counts {s : State} (hreq : s.fol.requests = []) (hwaits : s.od.waits = []) :
    (beat s).cyc.beat = s.cyc.beat + 1 ∧ (beat s).cyc.beatTime = s.tim.time ∧ (beat s).cyc.beatAt = s.now := by
  have hcounted : (closeBudget (countBeat s)).od.waits = [] := by
    simpa [closeBudget, countBeat, fluInt] using hwaits
  obtain ⟨hbeat, htime, hat, hrequests⟩ := applyBeatClass_sameBeat hcounted
  have hclosed : (closeBudget (countBeat s)).cyc = (countBeat s).cyc ∧ (closeBudget (countBeat s)).fol.requests = [] := by simp [countBeat, hreq]
  obtain ⟨hcyc, hnone⟩ := hclosed
  rw [hcyc] at hbeat htime hat
  rw [hnone] at hrequests
  have hserve {t : State} (h : t.fol.requests = []) : (if runtimeLive t then serveRequests t else t).cyc = t.cyc := by
    split
    · simp [serveRequests, h]
    · rfl
  unfold beat
  dsimp only
  rw [ring_cyc, (sendStatus_cyc_fol _).1, hserve (by simp [hrequests])]
  exact ⟨Eq.trans (by simp) hbeat, Eq.trans (by simp) htime, Eq.trans (by simp) hat⟩

end Sys2Proof.Laws

/-! PROOF. Beat boundaries, fault bits, watchdogs, EMITOFF and the program commands (04 R137 to R173). -/

namespace Sys2Proof.Laws

open Sys2Proof Sys2Proof.Machine Sys2Proof.Safety

@[simp] theorem foldl_run {α : Type} {f : State → α → State} (hf : ∀ s x, (f s x).run = s.run) (xs : List α) (s : State) :
    (xs.foldl f s).run = s.run := by
  induction xs generalizing s with
  | nil => rfl
  | cons x xs ih => exact (ih _).trans (hf s x)
@[simp] theorem foldl_run_prog {α : Type} {f : State → α → State} (hf : ∀ s x, (f s x).run.prog = s.run.prog) (xs : List α) (s : State) :
    (xs.foldl f s).run.prog = s.run.prog := by
  induction xs generalizing s with
  | nil => rfl
  | cons x xs ih => exact (ih _).trans (hf s x)
@[simp] theorem ite_run_prog (c : Prop) [Decidable c] (s t : State) : (if c then s else t).run.prog = if c then s.run.prog else t.run.prog := by
  split <;> rfl
@[simp] theorem ite_unit_run_prog (c : Prop) [Decidable c] (a b : Run) : (if c then a else b).prog = if c then a.prog else b.prog := by
  split <;> rfl
@[simp] theorem foldl_run_restart {α : Type} {f : State → α → State} (hf : ∀ s x, (f s x).run.restart = s.run.restart) (xs : List α) (s : State) :
    (xs.foldl f s).run.restart = s.run.restart := by
  induction xs generalizing s with
  | nil => rfl
  | cons x xs ih => exact (ih _).trans (hf s x)
@[simp] theorem ite_run_restart (c : Prop) [Decidable c] (s t : State) : (if c then s else t).run.restart = if c then s.run.restart else t.run.restart := by
  split <;> rfl
@[simp] theorem ite_unit_run_restart (c : Prop) [Decidable c] (a b : Run) : (if c then a else b).restart = if c then a.restart else b.restart := by
  split <;> rfl
@[simp] theorem foldl_cyc_pstate {α : Type} {f : State → α → State} (hf : ∀ s x, (f s x).cyc.pstate = s.cyc.pstate) (xs : List α) (s : State) :
    (xs.foldl f s).cyc.pstate = s.cyc.pstate := by
  induction xs generalizing s with
  | nil => rfl
  | cons x xs ih => exact (ih _).trans (hf s x)
@[simp] theorem ite_cyc_pstate (c : Prop) [Decidable c] (s t : State) : (if c then s else t).cyc.pstate = if c then s.cyc.pstate else t.cyc.pstate := by
  split <;> rfl
@[simp] theorem ite_unit_cyc_pstate (c : Prop) [Decidable c] (a b : Cyc) : (if c then a else b).pstate = if c then a.pstate else b.pstate := by
  split <;> rfl
@[simp] theorem foldl_cyc_taskFault {α : Type} {f : State → α → State} (hf : ∀ s x, (f s x).cyc.taskFault = s.cyc.taskFault) (xs : List α) (s : State) :
    (xs.foldl f s).cyc.taskFault = s.cyc.taskFault := by
  induction xs generalizing s with
  | nil => rfl
  | cons x xs ih => exact (ih _).trans (hf s x)
@[simp] theorem ite_cyc_taskFault (c : Prop) [Decidable c] (s t : State) : (if c then s else t).cyc.taskFault = if c then s.cyc.taskFault else t.cyc.taskFault := by
  split <;> rfl
@[simp] theorem ite_unit_cyc_taskFault (c : Prop) [Decidable c] (a b : Cyc) : (if c then a else b).taskFault = if c then a.taskFault else b.taskFault := by
  split <;> rfl
@[simp] theorem foldl_cyc_evtPend {α : Type} {f : State → α → State} (hf : ∀ s x, (f s x).cyc.evtPend = s.cyc.evtPend) (xs : List α) (s : State) :
    (xs.foldl f s).cyc.evtPend = s.cyc.evtPend := by
  induction xs generalizing s with
  | nil => rfl
  | cons x xs ih => exact (ih _).trans (hf s x)
@[simp] theorem ite_cyc_evtPend (c : Prop) [Decidable c] (s t : State) : (if c then s else t).cyc.evtPend = if c then s.cyc.evtPend else t.cyc.evtPend := by
  split <;> rfl
@[simp] theorem ite_unit_cyc_evtPend (c : Prop) [Decidable c] (a b : Cyc) : (if c then a else b).evtPend = if c then a.evtPend else b.evtPend := by
  split <;> rfl
@[simp] theorem laneSend_cyc_run (n : Nat) (f : FlueFrame) (s : State) :
    (laneSend n f s).cyc = s.cyc ∧ (laneSend n f s).run = s.run := by
  refine ⟨?_, ?_⟩ <;> (unfold laneSend; rfl)
@[simp] theorem sendFlueF_cyc_run (flags : Byte) (dst : Option Slot) (body : FlueBody) (s : State) :
    (sendFlueF flags dst body s).cyc = s.cyc ∧ (sendFlueF flags dst body s).run = s.run := by
  unfold sendFlueF; simp
@[simp] theorem sendFlue_cyc_run (dst : Option Slot) (body : FlueBody) (s : State) :
    (sendFlue dst body s).cyc = s.cyc ∧ (sendFlue dst body s).run = s.run := by
  unfold sendFlue; simp
@[simp] theorem sendTwin_cyc_run_mnt_holders (body : FlueBody) (s : State) :
    (sendTwin body s).cyc = s.cyc ∧ (sendTwin body s).run = s.run ∧ (sendTwin body s).mnt.holders = s.mnt.holders := by
  unfold sendTwin; split <;> simp
@[simp] theorem clearTwin_run_mnt_holders (s : State) :
    (clearTwin s).run = s.run ∧ (clearTwin s).mnt.holders = s.mnt.holders := by
  refine ⟨?_, ?_⟩ <;> (unfold clearTwin; rfl)
@[simp] theorem takeToken_cyc_run (h : Holder) (s : State) :
    (takeToken h s).cyc = s.cyc ∧ (takeToken h s).run = s.run := by
  unfold takeToken; simp
@[simp] theorem jrnInt_cyc_run_mnt_holders (b : Nat) (s : State) :
    (jrnInt b s).cyc = s.cyc ∧ (jrnInt b s).run = s.run ∧ (jrnInt b s).mnt.holders = s.mnt.holders := by
  unfold jrnInt; simp
@[simp] theorem lowSegs_cyc_run_mnt_holders (before : Nat) (s : State) :
    (lowSegs before s).cyc = s.cyc ∧ (lowSegs before s).run = s.run ∧ (lowSegs before s).mnt.holders = s.mnt.holders := by
  unfold lowSegs; simp
@[simp] theorem startPass_run_mnt_holders (s : State) :
    (startPass s).run = s.run ∧ (startPass s).mnt.holders = s.mnt.holders := by
  refine ⟨?_, ?_⟩ <;> (unfold startPass; rfl)
@[simp] theorem autoPass_run_mnt_holders (s : State) :
    (autoPass s).run = s.run ∧ (autoPass s).mnt.holders = s.mnt.holders := by
  unfold autoPass; simp
@[simp] theorem snapshotDone_cyc_run_mnt_holders (base : Nat) (drop : JSeg → Bool) (s : State) :
    (snapshotDone base drop s).cyc = s.cyc ∧ (snapshotDone base drop s).run = s.run ∧ (snapshotDone base drop s).mnt.holders = s.mnt.holders := by
  unfold snapshotDone; simp
@[simp] theorem coldSnapshot_cyc_run_mnt_holders (s : State) :
    (coldSnapshot s).cyc = s.cyc ∧ (coldSnapshot s).run = s.run ∧ (coldSnapshot s).mnt.holders = s.mnt.holders := by
  unfold coldSnapshot; simp
@[simp] theorem cfgDraw_cyc_run (s : State) :
    (cfgDraw s).cyc = s.cyc ∧ (cfgDraw s).run = s.run := by
  refine ⟨?_, ?_⟩ <;> (unfold cfgDraw; rfl)
@[simp] theorem setTask_cyc_mnt_holders_run_prog_run_restart (t : Nat) (f : Task → Task) (s : State) :
    (setTask t f s).cyc = s.cyc ∧ (setTask t f s).mnt.holders = s.mnt.holders ∧ (setTask t f s).run.prog = s.run.prog ∧ (setTask t f s).run.restart = s.run.restart := by
  refine ⟨?_, ?_, ?_, ?_⟩ <;> (unfold setTask; rfl)
@[simp] theorem resumeTask_mnt_holders_run_prog_run_restart_cyc_pstate_cyc_evtPend (t : Nat) (s : State) :
    (resumeTask t s).mnt.holders = s.mnt.holders ∧ (resumeTask t s).run.prog = s.run.prog ∧ (resumeTask t s).run.restart = s.run.restart ∧ (resumeTask t s).cyc.pstate = s.cyc.pstate ∧ (resumeTask t s).cyc.evtPend = s.cyc.evtPend := by
  unfold resumeTask; simp
@[simp] theorem storeProgram_cyc_run_mnt_holders (b : List Byte) (s : State) :
    (storeProgram b s).cyc = s.cyc ∧ (storeProgram b s).run = s.run ∧ (storeProgram b s).mnt.holders = s.mnt.holders := by
  unfold storeProgram; simp
@[simp] theorem portSend_cyc (n : Nat) (f : FolFrame) (s : State) : (portSend n f s).cyc = s.cyc := by
  unfold portSend; simp
@[simp] theorem sendRelays_cyc_run_mnt_holders (es : List RelayE) (s : State) :
    (sendRelays es s).cyc = s.cyc ∧ (sendRelays es s).run = s.run ∧ (sendRelays es s).mnt.holders = s.mnt.holders := by
  unfold sendRelays; simp
@[simp] theorem putStation_cyc_run_mnt_holders (x : Station) (s : State) :
    (putStation x s).cyc = s.cyc ∧ (putStation x s).run = s.run ∧ (putStation x s).mnt.holders = s.mnt.holders := by
  refine ⟨?_, ?_, ?_⟩ <;> (unfold putStation; rfl)
@[simp] theorem emitStations_cyc (n flags oflags : Nat) (xs : List Station) (s : State) : (emitStations n flags oflags xs s).cyc = s.cyc := by
  unfold emitStations; split <;> simp
@[simp] theorem sendCtrl_cyc_run_mnt_holders (phase task : Nat) (arg : Word) (s : State) :
    (sendCtrl phase task arg s).cyc = s.cyc ∧ (sendCtrl phase task arg s).run = s.run ∧ (sendCtrl phase task arg s).mnt.holders = s.mnt.holders := by
  unfold sendCtrl; simp
@[simp] theorem cycPost_cyc_run_mnt_holders (code : Nat) (data : List Byte) (s : State) :
    (cycPost code data s).cyc = s.cyc ∧ (cycPost code data s).run = s.run ∧ (cycPost code data s).mnt.holders = s.mnt.holders := by
  unfold cycPost; simp
@[simp] theorem setEnable_run_mnt_holders_cyc_pstate_cyc_taskFault_cyc_evtPend (t : Nat) (on : Bool) (s : State) :
    (setEnable t on s).run = s.run ∧ (setEnable t on s).mnt.holders = s.mnt.holders ∧ (setEnable t on s).cyc.pstate = s.cyc.pstate ∧ (setEnable t on s).cyc.taskFault = s.cyc.taskFault ∧ (setEnable t on s).cyc.evtPend = s.cyc.evtPend := by
  unfold setEnable; simp
@[simp] theorem taskEntry_run_mnt_holders_cyc_pstate_cyc_taskFault_cyc_evtPend (t sub v : Nat) (s : State) :
    (taskEntry t sub v s).run = s.run ∧ (taskEntry t sub v s).mnt.holders = s.mnt.holders ∧ (taskEntry t sub v s).cyc.pstate = s.cyc.pstate ∧ (taskEntry t sub v s).cyc.taskFault = s.cyc.taskFault ∧ (taskEntry t sub v s).cyc.evtPend = s.cyc.evtPend := by
  unfold taskEntry; (repeat' split) <;> simp
@[simp] theorem storeVal_cyc_run (idx sub : Nat) (v : List Byte) (s : State) :
    (storeVal idx sub v s).cyc = s.cyc ∧ (storeVal idx sub v s).run = s.run := by
  refine ⟨?_, ?_⟩ <;> (unfold storeVal; rfl)
@[simp] theorem sendEntries_cyc_run (dst : Slot) (op : Nat) (txn : Word) (beat : DWord) (es : List ObjE) (s : State) :
    (sendEntries dst op txn beat es s).cyc = s.cyc ∧ (sendEntries dst op txn beat es s).run = s.run := by
  unfold sendEntries; simp

-- the fault bits (R157) ------------------------------------------------------------------------------------------------------------------------------------

/-- One task of CYC_FAULT_CLEAR. -/
def clearedOne (tasks : BitVec 16) (events : DWord) (s : State) (t : Nat) : State :=
  if faultedTask s t && (if t < 16 then bit tasks t else bit events (t - 16)) then resumeTask t s else s

theorem clearedOne_faults (tasks : BitVec 16) (events : DWord) (s : State) (t : Nat) :
    (clearedOne tasks events s t).cyc.taskFault =
        (if t < 16 then (if bit s.cyc.taskFault t && bit tasks t then clrBit s.cyc.taskFault t else s.cyc.taskFault) else s.cyc.taskFault) ∧
      (clearedOne tasks events s t).cyc.evtFault =
        (if t < 16 then s.cyc.evtFault
        else if bit s.cyc.evtFault (t - 16) && bit events (t - 16) then clrBit s.cyc.evtFault (t - 16) else s.cyc.evtFault) := by
  unfold clearedOne faultedTask
  by_cases ht : t < 16
  · simp only [if_pos ht]
    split
    · exact ⟨by simp [resumeTask, setTask, ht], by simp [resumeTask, setTask, ht]⟩
    · exact ⟨rfl, rfl⟩
  · simp only [if_neg ht]
    split
    · exact ⟨by simp [resumeTask, setTask, ht], by simp [resumeTask, setTask, ht]⟩
    · exact ⟨rfl, rfl⟩

/-- The tasks' bits, and the events', fall one by one. -/
theorem foldl_clearedOne_faults (tasks : BitVec 16) (events : DWord) (ts : List Nat) (s : State) :
    (ts.foldl (clearedOne tasks events) s).cyc.taskFault =
        (ts.filter (fun t => decide (t < 16))).foldl (fun w t => if bit w t && bit tasks t then clrBit w t else w) s.cyc.taskFault ∧
      (ts.foldl (clearedOne tasks events) s).cyc.evtFault =
        ((ts.filter (fun t => decide (16 ≤ t))).map (· - 16)).foldl (fun w t => if bit w t && bit events t then clrBit w t else w) s.cyc.evtFault := by
  induction ts generalizing s with
  | nil => exact ⟨rfl, rfl⟩
  | cons t ts ih =>
    obtain ⟨htask, hevt⟩ := clearedOne_faults tasks events s t
    obtain ⟨ihtask, ihevt⟩ := ih (clearedOne tasks events s t)
    rw [htask] at ihtask
    rw [hevt] at ihevt
    rw [List.foldl_cons, ihtask, ihevt]
    by_cases ht : t < 16
    · simp [ht, not_le.mpr ht]
    · simp [ht, not_lt.mp ht]

theorem foldl_clearedOne_rest (tasks : BitVec 16) (events : DWord) (ts : List Nat) (s : State) (c : Cyc) (r : Run) (d : Dic) :
    { ts.foldl (clearedOne tasks events) s with cyc := c, run := r, dic := d } = { s with cyc := c, run := r, dic := d } := by
  refine foldl_keeps (fun u : State => { u with cyc := c, run := r, dic := d }) (fun u t => ?_) ts s
  unfold clearedOne
  by_cases h : (faultedTask u t && (if t < 16 then bit tasks t else bit events (t - 16))) = true
  · rw [if_pos h]
    rfl
  · rw [if_neg h]

theorem and_not_of_bits {n : Nat} {u v w : BitVec n} (h : ∀ i < n, bit u i = (bit v i && !bit w i)) : u = v &&& ~~~w := by
  refine BitVec.eq_of_getLsbD_eq fun i hi => ?_
  rw [BitVec.getLsbD.eq_1, BitVec.getLsbD.eq_1]
  show bit u i = bit (v &&& ~~~w) i
  rw [h i hi, bit_and, bit_not w hi]

/-- All of them: the bits written fall, the others stay. -/
theorem clearedAll_faults (tasks : BitVec 16) (events : DWord) (s : State) :
    ((List.range 80).foldl (clearedOne tasks events) s).cyc.taskFault = s.cyc.taskFault &&& ~~~tasks ∧
      ((List.range 80).foldl (clearedOne tasks events) s).cyc.evtFault = s.cyc.evtFault &&& ~~~events := by
  obtain ⟨htask, hevt⟩ := foldl_clearedOne_faults tasks events (List.range 80) s
  refine ⟨and_not_of_bits fun i hi => ?_, and_not_of_bits fun i hi => ?_⟩
  · have hmem : ((List.range 80).filter (fun t => decide (t < 16))).contains i = true := by
      simp only [List.contains_iff_mem, List.mem_filter, List.mem_range, decide_eq_true_eq]
      omega
    rw [htask, bit_foldl_clr, hmem, Bool.true_and]
  · have hmem : (((List.range 80).filter (fun t => decide (16 ≤ t))).map (· - 16)).contains i = true := by
      simp only [List.contains_iff_mem, List.mem_map, List.mem_filter, List.mem_range, decide_eq_true_eq]
      exact ⟨i + 16, by omega, by omega⟩
    rw [hevt, bit_foldl_clr, hmem, Bool.true_and]

theorem lowSegs_now (before : Nat) (s : State) : (lowSegs before s).now = s.now := by
  unfold lowSegs jrnInt
  simp

theorem coldSnapshot_now (s : State) : (coldSnapshot s).now = s.now := lowSegs_now ..

-- emissions (R169) ---------------------------------------------------------------------------------------------------------------------------------------

theorem emitStations_none (n flags oflags : Nat) (s : State) : emitStations n flags oflags [] s = s := by
  unfold emitStations
  split
  · rfl
  · simp [byDistance]

/-- A segment that does not run sends nothing at EMITOFF. -/
theorem emitOff_quiet {n : Nat} {s : State} (h : (segOf s n).st ≠ .running) : emitOff n s = s := by
  have hnone : takePart s n = [] := if_neg (by simp [h])
  unfold emitOff
  split
  · rfl
  · simp only [hnone, List.filter_nil, emitStations_none]
    split
    · rfl
    · rfl
    · split <;> rfl

-- program commands (R161) ----------------------------------------------------------------------------------------------------------------------------------

/-- What the command leaves of the state before its twin is told. -/
theorem cmdTaken_leaves (c session : Nat) (s : State) :
    let u := cmdTaken c (takeToken (ownHolder s 2 c session) s)
    u.cyc.cmdState = 1 ∧ u.cyc.cmdLast = BitVec.ofNat 8 c ∧ u.cyc.cmdAbort = 0 ∧ u.pair.role = s.pair.role ∧
      u.mnt.holders = s.mnt.holders ++ [ownHolder s 2 c session] ∧ u.mem = s.mem ∧ u.sup.failSilent = s.sup.failSilent ∧
      (if c = 3 then u.run.stopReq = true else u.run.restart = some { cold := c == 2, begun := false, snap := false, inited := false, b0 := none }) := by
  have htaken := takeToken_holders (ownHolder s 2 c session) s
  by_cases hc : c = 3
  · subst hc
    simp [cmdTaken, htaken]
  · simp [cmdTaken, hc, htaken]

-- loading (R160) -------------------------------------------------------------------------------------------------------------------------------------------

theorem placeProgram_leaves (b : List Byte) (s : State) :
    (placeProgram b s).cyc.pstate = s.cyc.pstate ∧ (placeProgram b s).cyc.taskFault = 0 ∧ (placeProgram b s).cyc.evtPend = 0 ∧
      (placeProgram b s).run.prog = some (kindleProg b) ∧ (placeProgram b s).pair = s.pair ∧ (placeProgram b s).sup.failSilent = s.sup.failSilent := by
  simp [placeProgram]

theorem programLoad_checked {b : List Byte} {s : State} (hst : s.cyc.pstate = .none) (hrestart : s.run.restart = none) :
    programLoad b s = if kindleOk b && kindleSigned s b && descsOk (kindleProg b).descs then
        cycPost 0x030A [] (storeProgram b { placeProgram b { s with cyc := { s.cyc with pstate := .stopped } } with
          run := { (placeProgram b { s with cyc := { s.cyc with pstate := .stopped } }).run with freshLoad := true } })
      else s := by
  unfold programLoad
  by_cases h : (kindleOk b && kindleSigned s b && descsOk (kindleProg b).descs) = true
  · rw [if_pos h, if_neg]
    simp only [Bool.and_eq_true] at h
    obtain ⟨⟨hok, hsigned⟩, hdescs⟩ := h
    simp [hst, hrestart, hok, hsigned, hdescs]
  · rw [if_neg h, if_pos]
    simp only [Bool.and_eq_true, not_and] at h
    by_cases hok : kindleOk b = true
    · by_cases hsigned : kindleSigned s b = true
      · have hdescs := h ⟨hok, hsigned⟩
        simp [hdescs]
      · simp [hsigned]
    · simp [hok]

-- copied writes (R328) ---------------------------------------------------------------------------------------------------------------------------------------

/-- The state in which an accepted copied write waits for its boundary. -/
def copiedStored (idx sub : Nat) (v : List Byte) (s : State) : State := if isResume idx sub then s else storeVal idx sub v s

def copiedTxn (a : Asker) (idx sub : Nat) (v : List Byte) (s : State) : Txn :=
  { no := s.od.txnNo + 1, beat := applyBeat s, entries := [entryE idx sub v], client := a.client, forward := a.forward, acked := false
    cfgId := configId (copiedStored idx sub v s) }

def copiedWaits (a : Asker) (idx sub : Nat) (v : List Byte) (s : State) : State :=
  { copiedStored idx sub v s with od := { (copiedStored idx sub v s).od with
      txnNo := s.od.txnNo + 1, txns := (copiedStored idx sub v s).od.txns ++ [copiedTxn a idx sub v s] } }

/-- The standby is told of it where there is one to tell. -/
theorem copiedAccept_told {idx : Nat} (hidx : idx ≠ 0x1751) (a : Asker) (sub : Nat) (v : List Byte) (s : State) :
    copiedAccept a idx sub v s = match applyTo (copiedWaits a idx sub v s) with
      | some x => sendEntries x 1 (s.od.txnNo + 1) (BitVec.ofNat 64 (applyBeat s)) [entryE idx sub v] (copiedWaits a idx sub v s)
      | none => copiedWaits a idx sub v s := by
  unfold copiedAccept
  simp only [if_neg hidx] <;> rfl

/-- What an accepted copied write leaves of the state. -/
structure CopiedLeft (a : Asker) (idx sub : Nat) (v : List Byte) (s u : State) : Prop where
  txns : u.od.txns = s.od.txns ++ [copiedTxn a idx sub v s]
  number : u.od.txnNo = s.od.txnNo + 1
  sessions : u.od.sessions = s.od.sessions
  vals : isResume idx sub = false → u.od.vals = insertVal { index := idx, sub := sub, val := v } s.od.vals
  pair : u.pair = s.pair
  mem : u.mem = s.mem
  out : u.out = s.out
  loud : u.sup.failSilent = s.sup.failSilent

theorem copiedWaits_left (a : Asker) (idx sub : Nat) (v : List Byte) (s : State) : CopiedLeft a idx sub v s (copiedWaits a idx sub v s) := by
  cases hresume : isResume idx sub with
  | true =>
    have hsame : copiedStored idx sub v s = s := if_pos hresume
    constructor
    all_goals simp [copiedWaits, hsame, hresume]
  | false =>
    have hstored : copiedStored idx sub v s = storeVal idx sub v s := if_neg (by simp [hresume])
    constructor
    all_goals simp [copiedWaits, hstored, storeVal]

theorem copiedAccept_left {idx : Nat} (hidx : idx ≠ 0x1751) (a : Asker) (sub : Nat) (v : List Byte) (s : State) :
    CopiedLeft a idx sub v s (copiedAccept a idx sub v s) := by
  have h := copiedWaits_left a idx sub v s
  rw [copiedAccept_told hidx]
  split
  · constructor
    all_goals simp [h.txns, h.number, h.sessions, h.pair, h.mem, h.out, h.loud]
    exact h.vals
  · exact h

/-- On the active a copied write is decided as one. -/
theorem routed_copied {idx sub : Nat} {rq : Rq} {m : Meta} {v : List Byte} {s : State} (hidx : idx < 0x6000) (hsub : sub < 256)
    (hvisible : visible idx sub = false) (hcopied : m.copied = true ∨ isResume idx sub = true) (hactive : s.pair.role = .active) :
    routed (writer idx sub rq) m v s = copiedWrite (askOf s (writer idx sub rq)) idx sub m v s := by
  have hlow : ¬ (0x7000 ≤ idx ∧ idx ≤ 0x7FFF) := by omega
  simp [routed, decided, writer_index (show idx < 65536 by omega), writer_sub idx hsub, hvisible, hcopied, hlow, hactive]

/-- A copied write that changes no entry at halt and finds nothing against it is accepted. -/
theorem copiedWrite_open {a : Asker} {idx sub : Nat} {m : Meta} {v : List Byte} {s : State} (hrun : Running s) (hopen : AreaOpen s) (hchg : m.chg ≠ .halt)
    (hstate : copiedState a idx sub s = (s, 0)) (hresume : isResume idx sub = false) :
    copiedWrite a idx sub m v s = copiedAccept a idx sub v (cfgDraw s) := by
  have hhalt : checkHalt idx sub m v s = (s, 0) := if_pos hchg
  simp only [copiedWrite, hhalt, hstate, hresume, areaWrite_open hrun hopen, Bool.false_eq_true, if_false]

/-- RESUME is stored nowhere. -/
theorem copiedWrite_resume {a : Asker} {idx sub : Nat} {m : Meta} {v : List Byte} {s : State} (hchg : m.chg ≠ .halt)
    (hstate : copiedState a idx sub s = (s, 0)) (hresume : isResume idx sub = true) :
    copiedWrite a idx sub m v s = copiedAccept a idx sub v s := by
  have hhalt : checkHalt idx sub m v s = (s, 0) := if_pos hchg
  simp only [copiedWrite, hhalt, hstate, hresume, if_true]

/-- An entry of a task that is copied, and RESUME. -/
theorem entryOf_task {t sub : Nat} (ht : t < 80) (hsub : sub = 8 ∨ sub = 0x0D) (s : State) :
    entryOf (0x1310 + t) sub s = if sub = 8 then cfgE .bool .beat 0 1 (u8 0) else wo (.u 1) 2 1 1 := by
  have hmeta : entryOf (0x1310 + t) sub s = metaTask (0x1310 + t) sub := by
    have hlow : ¬ (0x6000 ≤ 0x1310 + t ∧ 0x1310 + t < 0x6FFF) := by omega
    have htask : 0x1310 + t = 0x1300 ∨ (0x1310 ≤ 0x1310 + t ∧ 0x1310 + t ≤ 0x135F) := by omega
    rw [entryOf, if_neg (by omega), if_neg (by omega), if_neg hlow, metaOf, if_neg (by omega), if_neg (by omega), if_neg (by omega), if_pos htask]
  rw [hmeta]
  rcases hsub with rfl | rfl
  · exact (if_neg (by omega)).trans (if_neg (by omega))
  · exact (if_neg (by omega)).trans (if_neg (by omega))

end Sys2Proof.Laws

namespace Sys2Proof.Proofs

open Sys2Proof Sys2Proof.Machine Sys2Proof.Safety Sys2Proof.Laws

/-- Settles O18. -/
theorem beatsAndProgramsComplete : Obligations.BeatsAndProgramsComplete := by
  unfold Obligations.BeatsAndProgramsComplete
  refine ⟨?boundary, ?late, ?faults, ?wdog, ?wdogExpiry, ?rickExpiry, ?emitoff, ?commands, ?initDone, ?snapshot, ?load, ?writes⟩
  case boundary =>
    intro s hrun hreq hwaits
    have hexec : exec .beatBoundary s = finish (beat s) := by
      show finish _ = _
      rw [if_neg (by simp [rickLive, hrun.rick]), if_neg (by simp [bankedNow, hrun.ember])]
    refine answers_settled hexec ?_
    simpa using beat_counts hreq hwaits
  case late =>
    intro s hrun
    have hexec : exec .beatBoundaryLate s = finish (blockFails 0x05 0x40 0 s) := congrArg finish (if_pos (running_rickFull hrun))
    exact answers_settled hexec ⟨blockFails_stopped 0 rfl hrun.loud (by decide), by simp⟩
  case faults =>
    intro tasks events s hrun
    have hexec : exec (.cycFaultClear .m tasks events) s = finish ((List.range 80).foldl (clearedOne tasks events) s) :=
      congrArg finish (if_neg (by simp [running_rickFull hrun]))
    obtain ⟨htask, hevt⟩ := clearedAll_faults tasks events s
    have hrest := foldl_clearedOne_rest tasks events (List.range 80) s s.cyc s.run s.dic
    generalize (List.range 80).foldl (clearedOne tasks events) s = u at *
    have hloud : u.sup = s.sup := by
      have hsup := congrArg State.sup hrest
      exact hsup
    exact answers_of_finish hexec ((congrArg Sup.failSilent hloud).trans hrun.loud) ⟨htask, hevt, hrest⟩
  case wdog =>
    intro word s hrun hkey
    exact finish_of_eq (if_pos ⟨rfl, rfl, hkey, running_rickFull hrun⟩) hrun.loud
  case wdogExpiry =>
    intro s hrun hruns harmed hdue
    have hexec : exec .runtimeWatchdogExpiry s = finish (chipError 0x05 0x20 0 s) := by
      show finish _ = _
      rw [if_pos (by simp [running_rickFull hrun, harmed, hdue]), if_pos (by simp [hruns])]
    exact answers_settled hexec ⟨chipError_stopped 0x20 0 hrun.loud (by decide), by simp⟩
  case rickExpiry =>
    intro s hrun hhost
    have hexec : exec .rickWatchdogExpiry s = finish (blockFails 0x05 0x4A 0 s) :=
      congrArg finish (if_pos (by simp [running_rickFull hrun, hrun.rickUp, hhost]))
    exact answers_settled hexec ⟨blockFails_stopped 0 rfl hrun.loud (by decide), by simp⟩
  case emitoff =>
    intro n s hrun hst
    have hexec : exec (.emitoffEmission n) s = finish s := congrArg finish ((if_pos (running_rickFull hrun)).trans (emitOff_quiet hst))
    exact answers_of_finish hexec hrun.loud ⟨rfl, rfl, rfl⟩
  case commands =>
    intro m p s hrun hactive hidle hprog taken
    have hcmd {c : Nat} {word : Word} (hkey : fld word 16 16 = 0xC7C1) (hc : fld word 0 8 = c) (hlo : c ≠ 0) (hhi : c ≤ 3)
        (hfree : tokenFree s (ownHolder s 2 c 0) = true) : viaProgram (.reg m .m word) s = cmdTaken c (takeToken (ownHolder s 2 c 0) s) := by
      simp [viaProgram, cycCmd, hkey, hc, hlo, not_lt.mpr hhi, running_runtimeLive hrun, running_rickFull hrun, programCommand, hactive, hidle, hprog, hfree]
    have hdone {c : Nat} (hfree : tokenFree s (ownHolder s 2 c 0) = true) : taken c (cmdTaken c (takeToken (ownHolder s 2 c 0) s)) := by
      obtain ⟨h1, h2, h3, h4, h5, h6, -⟩ := cmdTaken_leaves c 0 s
      exact ⟨h1, h2, h3, h4.trans hactive, h5, h6⟩
    have hloud (c : Nat) : (cmdTaken c (takeToken (ownHolder s 2 c 0) s)).sup.failSilent = false := (cmdTaken_leaves c 0 s).2.2.2.2.2.2.1.trans hrun.loud
    have hlast (c : Nat) := (cmdTaken_leaves c 0 s).2.2.2.2.2.2.2
    refine ⟨fun hfree => ?_, fun hfree => ?_, fun hfree => ?_⟩
    · exact answers_of_finish (congrArg finish (hcmd (by decide) (by decide) (by decide) (by decide) hfree)) (hloud 1) ⟨hdone hfree, hlast 1⟩
    · exact answers_of_finish (congrArg finish (hcmd (by decide) (by decide) (by decide) (by decide) hfree)) (hloud 2) ⟨hdone hfree, hlast 2⟩
    · exact answers_of_finish (congrArg finish (hcmd (by decide) (by decide) (by decide) (by decide) hfree)) (hloud 3) ⟨hdone hfree, hlast 3⟩
  case initDone =>
    intro r p s hrun hr hp hbegun hinited hcold b0
    have hexec : restartInit s = { s with
        mem := initData p 0 s.mem, run := { s.run with restart := some { r with inited := true, b0 := b0 } } } := by
      cases hsnap : r.snap
      · simp [restartInit, hr, hp, hbegun, hinited, hcold, nameB0, hsnap, b0]
      · simp [restartInit, hr, hp, hbegun, hinited, hcold, nameB0, hsnap, b0]
    exact congrArg finish ((if_pos (running_runtimeLive hrun)).trans hexec)
  case snapshot =>
    intro r s hrun hr hcold hinited hsnap
    have hexec : restartSnap s = nameB0 { coldSnapshot s with run := { (coldSnapshot s).run with restart := some { r with snap := true } } } := by
      simp [restartSnap, hr, hcold, hinited, hsnap]
    have hnamed (u : State) : nameB0 { u with run := { u.run with restart := some { r with snap := true } } } =
        { u with run := { u.run with restart := some { r with
          snap := true, b0 := some (u.cyc.beat.toNat + (if u.now = u.cyc.beatAt then 2 else 3)) } } } := by
      simp [nameB0, hinited]
    rw [hnamed] at hexec
    have hcyc : (coldSnapshot s).cyc = s.cyc ∧ (coldSnapshot s).now = s.now ∧ (coldSnapshot s).sup.failSilent = false := by
      simp [hrun.loud, coldSnapshot_now]
    generalize coldSnapshot s = u at *
    obtain ⟨hcyc, hnow, hloud⟩ := hcyc
    refine answers_of_finish (congrArg finish ((if_pos (by simp [bankLive, hrun.bank])).trans hexec)) hloud ⟨?_, hcyc⟩
    rw [hcyc, hnow]
  case load =>
    intro b s hrun hnone hrestart
    have hexec : exec (.programLoad b) s = finish (programLoad b s) := congrArg finish (if_pos (running_runtimeLive hrun))
    rw [programLoad_checked hnone hrestart] at hexec
    by_cases hok : (kindleOk b && kindleSigned s b && descsOk (kindleProg b).descs) = true
    · rw [if_pos hok] at hexec
      obtain ⟨hst, hfault, hpend, hprog, hpair, hloud⟩ := placeProgram_leaves b { s with cyc := { s.cyc with pstate := .stopped } }
      generalize placeProgram b { s with cyc := { s.cyc with pstate := .stopped } } = u at *
      refine answers_of_finish hexec ?_ ?_
      · simp [hloud, hrun.loud]
      · rw [if_pos hok]
        simp [hst, hfault, hpend, hprog, hpair]
    · rw [if_neg hok] at hexec
      refine answers_of_finish hexec hrun.loud ?_
      rw [if_neg hok]
  case writes =>
    intro t sub rq m s hrun ht hsub hacc hopen hactive
    obtain ⟨w, hwrite, hod, hbeat, hpair, hmem, hloud⟩ : ∃ w, objCmd (0x1310 + t) sub rq s =
        closeRevoked (copiedAccept (askOf s (writer (0x1310 + t) sub rq)) (0x1310 + t) sub rq.value w) ∧
        w.od = s.od ∧ applyBeat w = applyBeat s ∧ w.pair = s.pair ∧ w.mem = s.mem ∧ w.sup.failSilent = false := by
      have hentry := entryOf_task ht (hsub.imp_right And.left) s
      rw [hacc.entry] at hentry
      rw [objCmd_accepted hrun (by omega) (by omega) hacc]
      rcases hsub with rfl | ⟨rfl, hfault⟩
      · obtain rfl := Option.some.inj hentry
        refine ⟨cfgDraw s, congrArg closeRevoked ?_, by simp, rfl, by simp, by simp, by simp [hrun.loud]⟩
        rw [routed_copied (by omega) (by decide) (by simp [visible]; omega) (.inl rfl) hactive]
        exact copiedWrite_open hrun hopen (by decide) (by simp [copiedState, isResume]; omega) (by simp [isResume])
      · obtain rfl := Option.some.inj hentry
        have hresume : isResume (0x1310 + t) 0x0D = true := by simp [isResume]; omega
        have htask : taskIdx (0x1310 + t) = t := Nat.add_sub_cancel_left 0x1310 t
        refine ⟨s, congrArg closeRevoked ?_, rfl, rfl, rfl, rfl, hrun.loud⟩
        rw [routed_copied (by omega) (by decide) (by simp [visible]; omega) (.inr hresume) hactive]
        exact copiedWrite_resume (by decide) (by simp [copiedState, hresume, hactive, htask, hfault]) hresume
    have hleft := copiedAccept_left (idx := 0x1310 + t) (by omega) (askOf s (writer (0x1310 + t) sub rq)) sub rq.value w
    generalize copiedAccept (askOf s (writer (0x1310 + t) sub rq)) (0x1310 + t) sub rq.value w = u at *
    have hsessions : u.od.sessions = s.od.sessions := hleft.sessions.trans (congrArg Od.sessions hod)
    rw [closeRevoked_none fun x hx => (hacc.free x (hsessions ▸ hx)).2] at hwrite
    have hexec : (if sub = 8 then exec (.taskEnable t rq) s else exec (.resume t rq) s) = finish u := by
      rw [← hwrite]
      rcases hsub with rfl | ⟨rfl, -⟩
      · rfl
      · rfl
    refine answers_of_finish hexec (hleft.loud.trans hloud)
      ⟨copiedTxn (askOf s (writer (0x1310 + t) sub rq)) (0x1310 + t) sub rq.value w, ?_, hbeat, rfl, rfl, ?_, ?_, ?_⟩
    · exact hleft.txns.trans (by rw [hod])
    · exact hleft.number.trans (by rw [hod])
    · exact (congrArg Pair.role (hleft.pair.trans hpair)).trans hactive
    · exact hleft.mem.trans hmem

end Sys2Proof.Proofs

/-! PROOF. Online change and forces (05 R176 to R191). -/

namespace Sys2Proof.Laws

open Sys2Proof Sys2Proof.Machine Sys2Proof.Safety

@[simp] theorem foldl_chg_st {α : Type} {f : State → α → State} (hf : ∀ s x, (f s x).chg.st = s.chg.st) (xs : List α) (s : State) :
    (xs.foldl f s).chg.st = s.chg.st := by
  induction xs generalizing s with
  | nil => rfl
  | cons x xs ih => exact (ih _).trans (hf s x)
@[simp] theorem ite_chg_st (c : Prop) [Decidable c] (s t : State) : (if c then s else t).chg.st = if c then s.chg.st else t.chg.st := by
  split <;> rfl
@[simp] theorem ite_unit_chg_st (c : Prop) [Decidable c] (a b : Chg) : (if c then a else b).st = if c then a.st else b.st := by
  split <;> rfl
@[simp] theorem foldl_chg_copied {α : Type} {f : State → α → State} (hf : ∀ s x, (f s x).chg.copied = s.chg.copied) (xs : List α) (s : State) :
    (xs.foldl f s).chg.copied = s.chg.copied := by
  induction xs generalizing s with
  | nil => rfl
  | cons x xs ih => exact (ih _).trans (hf s x)
@[simp] theorem ite_chg_copied (c : Prop) [Decidable c] (s t : State) : (if c then s else t).chg.copied = if c then s.chg.copied else t.chg.copied := by
  split <;> rfl
@[simp] theorem ite_unit_chg_copied (c : Prop) [Decidable c] (a b : Chg) : (if c then a else b).copied = if c then a.copied else b.copied := by
  split <;> rfl
@[simp] theorem foldl_chg_forces {α : Type} {f : State → α → State} (hf : ∀ s x, (f s x).chg.forces = s.chg.forces) (xs : List α) (s : State) :
    (xs.foldl f s).chg.forces = s.chg.forces := by
  induction xs generalizing s with
  | nil => rfl
  | cons x xs ih => exact (ih _).trans (hf s x)
@[simp] theorem ite_chg_forces (c : Prop) [Decidable c] (s t : State) : (if c then s else t).chg.forces = if c then s.chg.forces else t.chg.forces := by
  split <;> rfl
@[simp] theorem ite_unit_chg_forces (c : Prop) [Decidable c] (a b : Chg) : (if c then a else b).forces = if c then a.forces else b.forces := by
  split <;> rfl
@[simp] theorem laneSend_chg_gate_now (n : Nat) (f : FlueFrame) (s : State) :
    (laneSend n f s).chg = s.chg ∧ (laneSend n f s).gate = s.gate ∧ (laneSend n f s).now = s.now := by
  refine ⟨?_, ?_, ?_⟩ <;> (unfold laneSend; rfl)
@[simp] theorem sendFlueF_chg_gate_now (flags : Byte) (dst : Option Slot) (body : FlueBody) (s : State) :
    (sendFlueF flags dst body s).chg = s.chg ∧ (sendFlueF flags dst body s).gate = s.gate ∧ (sendFlueF flags dst body s).now = s.now := by
  unfold sendFlueF; simp
@[simp] theorem sendFlue_chg_gate_now (dst : Option Slot) (body : FlueBody) (s : State) :
    (sendFlue dst body s).chg = s.chg ∧ (sendFlue dst body s).gate = s.gate ∧ (sendFlue dst body s).now = s.now := by
  unfold sendFlue; simp
@[simp] theorem sendTwin_chg_gate_now_od_out (body : FlueBody) (s : State) :
    (sendTwin body s).chg = s.chg ∧ (sendTwin body s).gate = s.gate ∧ (sendTwin body s).now = s.now ∧ (sendTwin body s).od = s.od ∧ (sendTwin body s).out = s.out := by
  unfold sendTwin; split <;> simp
@[simp] theorem releaseToken_run (p : Holder → Bool) (s : State) : (releaseToken p s).run = s.run := by
  unfold releaseToken; simp
@[simp] theorem takeToken_chg_gate (h : Holder) (s : State) :
    (takeToken h s).chg = s.chg ∧ (takeToken h s).gate = s.gate := by
  unfold takeToken; simp
@[simp] theorem jrnInt_chg_gate_now_od (b : Nat) (s : State) :
    (jrnInt b s).chg = s.chg ∧ (jrnInt b s).gate = s.gate ∧ (jrnInt b s).now = s.now ∧ (jrnInt b s).od = s.od := by
  unfold jrnInt; simp
@[simp] theorem lowSegs_chg_gate_od_out (before : Nat) (s : State) :
    (lowSegs before s).chg = s.chg ∧ (lowSegs before s).gate = s.gate ∧ (lowSegs before s).od = s.od ∧ (lowSegs before s).out = s.out := by
  unfold lowSegs; simp
@[simp] theorem startPass_chg_gate_now_od_out (s : State) :
    (startPass s).chg = s.chg ∧ (startPass s).gate = s.gate ∧ (startPass s).now = s.now ∧ (startPass s).od = s.od ∧ (startPass s).out = s.out := by
  refine ⟨?_, ?_, ?_, ?_, ?_⟩ <;> (unfold startPass; rfl)
@[simp] theorem autoPass_chg_gate_now_od_out (s : State) :
    (autoPass s).chg = s.chg ∧ (autoPass s).gate = s.gate ∧ (autoPass s).now = s.now ∧ (autoPass s).od = s.od ∧ (autoPass s).out = s.out := by
  unfold autoPass; simp
@[simp] theorem numberCommit_chg_gate_run_cyc_now_od_out_mnt_holders (task inst : Nat) (ds : List Delta) (draw : Nat) (s : State) :
    (numberCommit task inst ds draw s).chg = s.chg ∧ (numberCommit task inst ds draw s).gate = s.gate ∧ (numberCommit task inst ds draw s).run = s.run ∧ (numberCommit task inst ds draw s).cyc = s.cyc ∧ (numberCommit task inst ds draw s).now = s.now ∧ (numberCommit task inst ds draw s).od = s.od ∧ (numberCommit task inst ds draw s).out = s.out ∧ (numberCommit task inst ds draw s).mnt.holders = s.mnt.holders := by
  refine ⟨?_, ?_, ?_, ?_, ?_, ?_, ?_, ?_⟩ <;> (unfold numberCommit; rfl)
@[simp] theorem flushBuffer_chg_gate_run_cyc_now_od_out_mnt_holders (s : State) :
    (flushBuffer s).chg = s.chg ∧ (flushBuffer s).gate = s.gate ∧ (flushBuffer s).run = s.run ∧ (flushBuffer s).cyc = s.cyc ∧ (flushBuffer s).now = s.now ∧ (flushBuffer s).od = s.od ∧ (flushBuffer s).out = s.out ∧ (flushBuffer s).mnt.holders = s.mnt.holders := by
  unfold flushBuffer; simp
@[simp] theorem jrnSwap_chg_gate_run_cyc_now_od_out_mnt_holders (newId oldId base : Nat) (s : State) :
    (jrnSwap newId oldId base s).chg = s.chg ∧ (jrnSwap newId oldId base s).gate = s.gate ∧ (jrnSwap newId oldId base s).run = s.run ∧ (jrnSwap newId oldId base s).cyc = s.cyc ∧ (jrnSwap newId oldId base s).now = s.now ∧ (jrnSwap newId oldId base s).od = s.od ∧ (jrnSwap newId oldId base s).out = s.out ∧ (jrnSwap newId oldId base s).mnt.holders = s.mnt.holders := by
  unfold jrnSwap; simp
@[simp] theorem snapshotDone_chg_gate_od_out (base : Nat) (drop : JSeg → Bool) (s : State) :
    (snapshotDone base drop s).chg = s.chg ∧ (snapshotDone base drop s).gate = s.gate ∧ (snapshotDone base drop s).od = s.od ∧ (snapshotDone base drop s).out = s.out := by
  unfold snapshotDone; simp
@[simp] theorem trackOn_chg_run_now_od_out_mnt_holders (s : State) :
    (trackOn s).chg = s.chg ∧ (trackOn s).run = s.run ∧ (trackOn s).now = s.now ∧ (trackOn s).od = s.od ∧ (trackOn s).out = s.out ∧ (trackOn s).mnt.holders = s.mnt.holders := by
  refine ⟨?_, ?_, ?_, ?_, ?_, ?_⟩ <;> (unfold trackOn; rfl)
@[simp] theorem trackOff_chg_run_now_od_out_mnt_holders (s : State) :
    (trackOff s).chg = s.chg ∧ (trackOff s).run = s.run ∧ (trackOff s).now = s.now ∧ (trackOff s).od = s.od ∧ (trackOff s).out = s.out ∧ (trackOff s).mnt.holders = s.mnt.holders := by
  refine ⟨?_, ?_, ?_, ?_, ?_, ?_⟩ <;> (unfold trackOff; rfl)
@[simp] theorem takeDirty_chg_run_now_od_out_mnt_holders (s : State) :
    (takeDirty s).chg = s.chg ∧ (takeDirty s).run = s.run ∧ (takeDirty s).now = s.now ∧ (takeDirty s).od = s.od ∧ (takeDirty s).out = s.out ∧ (takeDirty s).mnt.holders = s.mnt.holders := by
  refine ⟨?_, ?_, ?_, ?_, ?_, ?_⟩ <;> (unfold takeDirty; rfl)
@[simp] theorem chgPost_chg_gate_run_now_od_out_mnt_holders (code : Nat) (data : List Byte) (s : State) :
    (chgPost code data s).chg = s.chg ∧ (chgPost code data s).gate = s.gate ∧ (chgPost code data s).run = s.run ∧ (chgPost code data s).now = s.now ∧ (chgPost code data s).od = s.od ∧ (chgPost code data s).out = s.out ∧ (chgPost code data s).mnt.holders = s.mnt.holders := by
  unfold chgPost; simp
@[simp] theorem sendKindle_chg_gate_run_now_od_out_mnt_holders (op flags : Nat) (arg aux : Nat) (data : List Byte) (s : State) :
    (sendKindle op flags arg aux data s).chg = s.chg ∧ (sendKindle op flags arg aux data s).gate = s.gate ∧ (sendKindle op flags arg aux data s).run = s.run ∧ (sendKindle op flags arg aux data s).now = s.now ∧ (sendKindle op flags arg aux data s).od = s.od ∧ (sendKindle op flags arg aux data s).out = s.out ∧ (sendKindle op flags arg aux data s).mnt.holders = s.mnt.holders := by
  unfold sendKindle; simp
@[simp] theorem beginMeasuring_run_now_od_out_mnt_holders_chg_copied_chg_forces (s : State) :
    (beginMeasuring s).run = s.run ∧ (beginMeasuring s).now = s.now ∧ (beginMeasuring s).od = s.od ∧ (beginMeasuring s).out = s.out ∧ (beginMeasuring s).mnt.holders = s.mnt.holders ∧ (beginMeasuring s).chg.copied = s.chg.copied ∧ (beginMeasuring s).chg.forces = s.chg.forces := by
  unfold beginMeasuring; simp
@[simp] theorem sendKindleImage_chg_gate_run_cyc_now_od_out_mnt_holders (b : List Byte) (s : State) :
    (sendKindleImage b s).chg = s.chg ∧ (sendKindleImage b s).gate = s.gate ∧ (sendKindleImage b s).run = s.run ∧ (sendKindleImage b s).cyc = s.cyc ∧ (sendKindleImage b s).now = s.now ∧ (sendKindleImage b s).od = s.od ∧ (sendKindleImage b s).out = s.out ∧ (sendKindleImage b s).mnt.holders = s.mnt.holders := by
  unfold sendKindleImage; simp
@[simp] theorem announceSwap_gate_run_now_od_out_mnt_holders_chg_st_chg_copied_chg_forces (s : State) :
    (announceSwap s).gate = s.gate ∧ (announceSwap s).run = s.run ∧ (announceSwap s).now = s.now ∧ (announceSwap s).od = s.od ∧ (announceSwap s).out = s.out ∧ (announceSwap s).mnt.holders = s.mnt.holders ∧ (announceSwap s).chg.st = s.chg.st ∧ (announceSwap s).chg.copied = s.chg.copied ∧ (announceSwap s).chg.forces = s.chg.forces := by
  unfold announceSwap; split <;> simp
@[simp] theorem rebindForces_gate_run_cyc_now_od_out_mnt_holders_chg_st_chg_copied (new : Prog) (s : State) :
    (rebindForces new s).gate = s.gate ∧ (rebindForces new s).run = s.run ∧ (rebindForces new s).cyc = s.cyc ∧ (rebindForces new s).now = s.now ∧ (rebindForces new s).od = s.od ∧ (rebindForces new s).out = s.out ∧ (rebindForces new s).mnt.holders = s.mnt.holders ∧ (rebindForces new s).chg.st = s.chg.st ∧ (rebindForces new s).chg.copied = s.chg.copied := by
  unfold rebindForces; simp
@[simp] theorem nextMasks_chg_gate_run_now_od_out_mnt_holders (en : BitVec 16) (ev : BitVec 64) (s : State) :
    (nextMasks en ev s).chg = s.chg ∧ (nextMasks en ev s).gate = s.gate ∧ (nextMasks en ev s).run = s.run ∧ (nextMasks en ev s).now = s.now ∧ (nextMasks en ev s).od = s.od ∧ (nextMasks en ev s).out = s.out ∧ (nextMasks en ev s).mnt.holders = s.mnt.holders := by
  refine ⟨?_, ?_, ?_, ?_, ?_, ?_, ?_⟩ <;> (unfold nextMasks; rfl)
@[simp] theorem reopenNext_gate_run_now_od_out_mnt_holders_chg_st_chg_copied_chg_forces (r : Option Nat) (s : State) :
    (reopenNext r s).gate = s.gate ∧ (reopenNext r s).run = s.run ∧ (reopenNext r s).now = s.now ∧ (reopenNext r s).od = s.od ∧ (reopenNext r s).out = s.out ∧ (reopenNext r s).mnt.holders = s.mnt.holders ∧ (reopenNext r s).chg.st = s.chg.st ∧ (reopenNext r s).chg.copied = s.chg.copied ∧ (reopenNext r s).chg.forces = s.chg.forces := by
  unfold reopenNext; simp
@[simp] theorem swapMem_run_cyc_now_od_out_mnt_holders_chg_st_chg_copied (old new : Prog) (s : State) :
    (swapMem old new s).run = s.run ∧ (swapMem old new s).cyc = s.cyc ∧ (swapMem old new s).now = s.now ∧ (swapMem old new s).od = s.od ∧ (swapMem old new s).out = s.out ∧ (swapMem old new s).mnt.holders = s.mnt.holders ∧ (swapMem old new s).chg.st = s.chg.st ∧ (swapMem old new s).chg.copied = s.chg.copied := by
  unfold swapMem; simp
@[simp] theorem swapJournal_chg_gate_run_cyc_now_od_out_mnt_holders (old new : Prog) (s : State) :
    (swapJournal old new s).chg = s.chg ∧ (swapJournal old new s).gate = s.gate ∧ (swapJournal old new s).run = s.run ∧ (swapJournal old new s).cyc = s.cyc ∧ (swapJournal old new s).now = s.now ∧ (swapJournal old new s).od = s.od ∧ (swapJournal old new s).out = s.out ∧ (swapJournal old new s).mnt.holders = s.mnt.holders := by
  unfold swapJournal; simp
@[simp] theorem carryTriggers_gate_cyc_now_od_out_mnt_holders_chg_st_chg_copied_chg_forces_run_prog (new : Prog) (s : State) :
    (carryTriggers new s).gate = s.gate ∧ (carryTriggers new s).cyc = s.cyc ∧ (carryTriggers new s).now = s.now ∧ (carryTriggers new s).od = s.od ∧ (carryTriggers new s).out = s.out ∧ (carryTriggers new s).mnt.holders = s.mnt.holders ∧ (carryTriggers new s).chg.st = s.chg.st ∧ (carryTriggers new s).chg.copied = s.chg.copied ∧ (carryTriggers new s).chg.forces = s.chg.forces ∧ (carryTriggers new s).run.prog = s.run.prog := by
  refine ⟨?_, ?_, ?_, ?_, ?_, ?_, ?_, ?_, ?_, ?_⟩ <;> (unfold carryTriggers; rfl)
@[simp] theorem swapNames_gate_cyc_now_od_out_mnt_holders_chg_st_chg_forces (new : Prog) (en : BitVec 16) (ev : BitVec 64) (s : State) :
    (swapNames new en ev s).gate = s.gate ∧ (swapNames new en ev s).cyc = s.cyc ∧ (swapNames new en ev s).now = s.now ∧ (swapNames new en ev s).od = s.od ∧ (swapNames new en ev s).out = s.out ∧ (swapNames new en ev s).mnt.holders = s.mnt.holders ∧ (swapNames new en ev s).chg.st = s.chg.st ∧ (swapNames new en ev s).chg.forces = s.chg.forces := by
  refine ⟨?_, ?_, ?_, ?_, ?_, ?_, ?_, ?_⟩ <;> (unfold swapNames; rfl)

-- a change ends (05 R187) --------------------------------------------------------------------------------------------------------------------------------

/-- What the end of a change leaves, whatever its cause. -/
theorem endChange_leaves (st : ChgSt) (code : Nat) (s : State) :
    let u := endChange st code s
    u.chg.st = st ∧ u.chg.lastAbort = BitVec.ofNat 16 code ∧ u.chg.new = none ∧ u.chg.image = [] ∧ u.chg.estimate = s.chg.estimate ∧
      u.gate.trkEn = false ∧ u.mnt.holders = s.mnt.holders.filter (fun x => x.code != 3) ∧ u.run = s.run ∧ u.mem = s.mem ∧ u.pair = s.pair ∧
      u.od = s.od ∧ u.sup.failSilent = s.sup.failSilent := by
  simp [endChange, trackOff, releaseToken_holders]
  rfl

/-- The standby is told where the change runs at both. -/
def kindleIf (c : Bool) (op flags arg aux : Nat) (s : State) : State := if c then sendKindle op flags arg aux [] s else s

theorem kindleIf_keeps (c : Bool) (op flags arg aux : Nat) (s : State) :
    let u := kindleIf c op flags arg aux s
    u.chg = s.chg ∧ u.gate = s.gate ∧ u.mnt.holders = s.mnt.holders ∧ u.run = s.run ∧ u.cyc = s.cyc ∧ u.now = s.now ∧ u.mem = s.mem ∧ u.pair = s.pair ∧
      u.od = s.od ∧ u.out = s.out ∧ u.sup.failSilent = s.sup.failSilent := by
  cases c
  · exact ⟨rfl, rfl, rfl, rfl, rfl, rfl, rfl, rfl, rfl, rfl, rfl⟩
  · simp [kindleIf]

/-- The estimate is taken; where it is low enough the pre-copy begins. -/
def estimated (s : State) : State := { s with chg := { s.chg with estimate := BitVec.ofNat 32 s.chg.measured } }

def precopyBegun (s : State) : State :=
  trackOn (chgPost 0x0320 (le4 s.chg.measured) { estimated s with chg := { (estimated s).chg with st := .precopy, passed := false } })

theorem measuringEnd_fits {s : State} (hactive : s.pair.role = .active) (hst : s.chg.st = .measuring) (hfits : s.chg.measured ≤ 1024)
    (hhurts : swapHurts s = false) : measuringEnd s = kindleIf s.chg.pair 3 0 0 0 (precopyBegun s) := by
  have hhurts' : swapHurts (estimated s) = false := hhurts
  have hpair : (precopyBegun s).chg.pair = s.chg.pair := by simp [precopyBegun, estimated]
  unfold measuringEnd
  rw [if_neg (by simp [hactive, hst])]
  dsimp only
  rw [if_neg (by omega)]
  refine (if_neg fun h => Bool.false_ne_true (hhurts'.symm.trans h)).trans ?_
  show kindleIf (precopyBegun s).chg.pair 3 0 0 0 (precopyBegun s) = _
  rw [hpair]

theorem measuringEnd_heavy {s : State} (hactive : s.pair.role = .active) (hst : s.chg.st = .measuring) (hheavy : 1024 < s.chg.measured) :
    measuringEnd s = endChange .refused 0x2307 (kindleIf s.chg.pair 8 0 0x2307 0 (estimated s)) := by
  unfold measuringEnd
  rw [if_neg (by simp [hactive, hst])]
  exact if_pos hheavy

/-- The boundary that is chosen depends on the cycle engine alone. -/
theorem chooseSwap_congr {s u : State} (hcyc : u.cyc = s.cyc) (hrun : u.run = s.run) : chooseSwap u = chooseSwap s := by
  have hclear (b : Nat) : clearAt u b = clearAt s b := by
    simp only [clearAt, cyclicOn, taskOf, hcyc, hrun]
    rfl
  have hfree (b : Nat) : startFree u b = startFree s b := by simp only [startFree, cyclicOn, taskOf, hcyc, hrun]
  simp only [chooseSwap, hclear, hfree, hcyc]

theorem announceSwap_leaves (s : State) : (chooseSwap s = none → announceSwap s = s) ∧
    ∀ b, chooseSwap s = some b → (announceSwap s).chg.swapBeat = BitVec.ofNat 64 b ∧ (announceSwap s).chg.goSent = true := by
  refine ⟨fun h => by simp [announceSwap, h], fun b h => ?_⟩
  unfold announceSwap
  rw [h]
  dsimp only
  split
  · simp
  · exact ⟨rfl, rfl⟩

theorem announceSwap_passed_remain (s : State) : (announceSwap s).chg.passed = s.chg.passed ∧ (announceSwap s).chg.remain = s.chg.remain := by
  unfold announceSwap
  split
  · exact ⟨rfl, rfl⟩
  · dsimp only
    split
    · simp
    · exact ⟨rfl, rfl⟩

/-- What a round of the pre-copy leaves before it judges. -/
def roundDone (m : Memory) (s : State) : State :=
  takeDirty { s with mem := m, chg := { s.chg with passed := true, remain := BitVec.ofNat 32 (deltaNow s) } }

theorem precopyRound_round {old new : Prog} {s : State} (hactive : s.pair.role = .active) (hst : s.chg.st = .precopy) (hold : s.run.prog = some old)
    (hnew : s.chg.new = some new) : ∃ m, precopyRound s = if deltaNow s ≤ s.chg.estimate.toNat then
        announceSwap (chgPost 0x0322 [] { roundDone m s with chg := { (roundDone m s).chg with st := .ready } })
      else roundDone m s := by
  refine ⟨(new.migs.filter (fun e => !s.chg.passed || !(newPages old { new with migs := [e] } (dirtyPages s)).isEmpty)).foldl (fun m e => migrate old new e m)
    (if s.chg.passed then s.mem else writeBytes s.mem new.dataBase (fit new.dataLen new.init)), ?_⟩
  unfold precopyRound
  rw [hold, hnew]
  dsimp only
  rw [if_neg (by simp [hst])]
  by_cases hfew : deltaNow s ≤ s.chg.estimate.toNat
  · rw [if_pos hfew]
    exact if_pos ⟨hactive, hst, hfew⟩
  · rw [if_neg hfew]
    refine (if_neg fun h => hfew h.2.2).trans (if_neg fun h => ?_)
    have hready : s.chg.st = .ready := h.2.1
    rw [hst] at hready
    exact absurd hready (by decide)

/-- The new program is in place. -/
def swapped (old new : Prog) (s : State) : State :=
  swapJournal old new (swapNames new (newTaskEn s) (newEvtEn s) (swapMem old new (carryTriggers new s)))

theorem swapCopyDone_copies {old new : Prog} {s : State} (hactive : s.pair.role = .active) (hst : s.chg.st = .swap) (hquiet : s.chg.quiesced = true)
    (hcopied : s.chg.copied = false) (hold : s.run.prog = some old) (hnew : s.chg.new = some new) : ∃ c n,
      swapCopyDone s = reopenNext (some (reopenAt (swapped old new s))) (kindleIf c 7 0 (reopenAt (swapped old new s)) n (swapped old new s)) := by
  refine ⟨(swapped old new s).chg.pair, (swapped old new s).chg.lastDelta.toNat, ?_⟩
  have hrole : (swapped old new s).pair.role = .active := by simp [swapped, hactive]
  unfold swapCopyDone
  rw [hold, hnew]
  dsimp only
  rw [if_neg (by simp [hst, hquiet, hcopied])]
  exact if_pos hrole

theorem rebindForces_forces (new : Prog) (s : State) :
    (rebindForces new s).chg.forces = s.chg.forces.filter (fun f => new.syms.any (fun y => y.id == f.id)) := by
  unfold rebindForces
  dsimp only
  rw [foldl_chg_forces (fun s f => by simp)]

theorem swapped_leaves {new : Prog} (old : Prog) {s : State} (hst : s.chg.st = .swap) :
    (swapped old new s).chg.st = .swap ∧ (swapped old new s).chg.copied = true ∧ (swapped old new s).run.prog = some new ∧
      reopenAt (swapped old new s) = reopenAt s ∧
      (swapped old new s).chg.forces = s.chg.forces.filter (fun f => new.syms.any (fun y => y.id == f.id)) ∧
      (swapped old new s).sup.failSilent = s.sup.failSilent := by
  refine ⟨?_, ?_, ?_, ?_, ?_, ?_⟩
  · simp [swapped, hst]
  · simp [swapped, swapNames]
  · simp [swapped, swapNames]
  · simp [reopenAt, swapped]
  · simp [swapped, swapMem, rebindForces_forces]
  · simp [swapped]

theorem reopenNext_reopen (r : Option Nat) (s : State) : (reopenNext r s).chg.reopen = r := by
  unfold reopenNext
  dsimp only
  split
  · rfl
  · rfl

/-- CHANGE_CMD start has taken the token, and the image is judged. -/
def changeLoads (h : Holder) (s : State) : State :=
  { takeToken h s with chg := { (takeToken h s).chg with
      st := .loading, new := none, loadedOwn := some (loadCheck s.chg.image (takeToken h s)), loadedPeer := none, postponed := 0, lastAbort := 0
      pair := standbySync (takeToken h s), goSent := false, goAcked := false, closed := false, quiesced := false, copied := false, extended := false
      doneR := none, reopen := none, passed := false } }

/-- The token taken changes neither what the image's checks read nor the standby's state. -/
theorem loadCheck_taken (h : Holder) (b : List Byte) {s : State} (hrun : Running s) :
    loadCheck b (takeToken h s) = loadCheck b s ∧ standbySync (takeToken h s) = standbySync s := by
  have htaken : ∃ m e d, takeToken h s = { s with mnt := m, evr := e, dic := d } := by
    have hheld : Running { s with mnt := { s.mnt with holders := s.mnt.holders ++ [h] } } :=
      ⟨hrun.kiln, hrun.rick, hrun.bank, hrun.cord, hrun.intact, hrun.runtime, hrun.rickUp, hrun.loud, hrun.ember, hrun.power, hrun.reset, hrun.clocks⟩
    rw [takeToken, running_post hheld]
    exact ⟨_, _, _, rfl⟩
  obtain ⟨m, e, d, htaken⟩ := htaken
  rw [htaken]
  exact ⟨rfl, rfl⟩

/-- An image that passes is placed, and the standby gets it. -/
def imagePlaced (b : List Byte) (s : State) : State := if (placeNew b s).chg.pair then sendKindleImage b (placeNew b s) else placeNew b s

theorem changeStart_loads {session : Nat} {p : Prog} {s : State} (hactive : s.pair.role = .active) (hidle : changeIdle s = true) (hswitch : s.pair.switch = none)
    (hrestart : s.run.restart = none) (hstop : s.run.stopReq = false) (hholders : ∀ h ∈ s.mnt.holders, h.code ≠ 2) (hprog : s.run.prog = some p)
    (hphase : s.flu.resync.phase < 2 ∨ 4 < s.flu.resync.phase) (hfree : tokenFree s (ownHolder s 3 0 session) = true) :
    changeStart session s = (if loadCheck s.chg.image (takeToken (ownHolder s 3 0 session) s) ≠ 0 then loadingDone (changeLoads (ownHolder s 3 0 session) s)
      else loadingDone (imagePlaced s.chg.image (changeLoads (ownHolder s 3 0 session) s)), 0) := by
  have hnone : s.mnt.holders.any (fun h => h.code == 2) = false := by simpa using hholders
  have hbusy : ¬ (!changeIdle s ∨ s.pair.switch.isSome ∨ s.run.restart.isSome ∨ s.run.stopReq ∨ s.mnt.holders.any (fun h => h.code == 2)) := by
    simp [hidle, hswitch, hrestart, hstop, hnone]
  have hapart : ¬ (2 ≤ s.flu.resync.phase ∧ s.flu.resync.phase ≤ 4) := by omega
  unfold changeStart
  rw [if_neg (by simp [hactive])]
  refine (if_neg hbusy).trans ((if_neg (by simp [hprog])).trans ((if_neg hapart).trans ((if_neg (by simp [hfree])).trans ?_)))
  by_cases hc : loadCheck s.chg.image (takeToken (ownHolder s 3 0 session) s) ≠ 0
  · refine (if_pos hc).trans ?_
    rw [if_pos hc]
    rfl
  · refine (if_neg hc).trans ?_
    rw [if_neg hc]
    rfl

theorem changeLoads_keeps (h : Holder) (s : State) :
    (changeLoads h s).od = s.od ∧ (changeLoads h s).pair = s.pair ∧ (changeLoads h s).mem = s.mem ∧
      (changeLoads h s).sup.failSilent = s.sup.failSilent ∧ (changeLoads h s).mnt.holders = s.mnt.holders ++ [h] := by
  simp [changeLoads, takeToken_holders]

/-- A refused image ends the change with its code. -/
theorem changeLoads_refused {h : Holder} {s : State} (hactive : s.pair.role = .active) (hc : loadCheck s.chg.image (takeToken h s) ≠ 0) :
    loadingDone (changeLoads h s) = endChange .refused (loadCheck s.chg.image (takeToken h s))
      (kindleIf (changeLoads h s).chg.pair 8 0 (loadCheck s.chg.image (takeToken h s)) 0 (changeLoads h s)) := by
  have hrole : (changeLoads h s).pair.role = .active := by simp [changeLoads, hactive]
  obtain ⟨c, hcode⟩ := Nat.exists_eq_succ_of_ne_zero hc
  have hown : (changeLoads h s).chg.loadedOwn = some (c + 1) := congrArg some hcode
  unfold loadingDone
  rw [if_neg (by rw [hrole]; simp [changeLoads]), hown, hcode]
  rfl

/-- An image that passes: the standby loads it too, or the measuring begins. -/
theorem imagePlaced_loads {h : Holder} {b : List Byte} {p : Prog} {s : State} (hactive : s.pair.role = .active) (hprog : s.run.prog = some p)
    (hc : loadCheck s.chg.image (takeToken h s) = 0) :
    let u := loadingDone (imagePlaced b (changeLoads h s))
    u.od = s.od ∧ u.pair = s.pair ∧ u.sup.failSilent = s.sup.failSilent ∧ u.mnt.holders = s.mnt.holders ++ [h] ∧ u.chg.new.isSome = true ∧
      u.chg.pair = standbySync (takeToken h s) ∧
      if standbySync (takeToken h s) then u.chg.st = .loading ∧ u.chg.loadedPeer = none else u.chg.st = .measuring ∧ u.gate.trkEn = true ∧ u.gate.dirty = [] := by
  intro u
  obtain ⟨hod, hpair, -, hloud, hholding⟩ := changeLoads_keeps h s
  obtain ⟨n, m, hplaced⟩ : ∃ n m, placeNew b (changeLoads h s) = { changeLoads h s with mem := m, chg := { (changeLoads h s).chg with new := some n } } := by
    have hprog' : (changeLoads h s).run.prog = some p := by simpa [changeLoads] using hprog
    unfold placeNew
    rw [hprog']
    exact ⟨_, _, rfl⟩
  have hown : (changeLoads h s).chg.loadedOwn = some 0 := congrArg some hc
  cases hsync : standbySync (takeToken h s) with
  | true =>
    have hu : u = sendKindleImage b { changeLoads h s with mem := m, chg := { (changeLoads h s).chg with new := some n } } := by
      have hboth : (changeLoads h s).chg.pair = true := hsync
      have hpeer : (changeLoads h s).chg.loadedPeer = none := rfl
      simp [u, imagePlaced, hplaced, hboth, loadingDone, hown, hpeer]
    rw [hu]
    simp [hod, hpair, hloud, hholding]
    exact ⟨hsync, rfl, rfl⟩
  | false =>
    have hu : u = beginMeasuring { changeLoads h s with mem := m, chg := { (changeLoads h s).chg with new := some n } } := by
      have hboth : (changeLoads h s).chg.pair = false := hsync
      have hpeer : (changeLoads h s).chg.loadedPeer = none := rfl
      have hst : (changeLoads h s).chg.st = .loading := rfl
      simp [u, imagePlaced, hplaced, hboth, loadingDone, hown, hpeer, hst, hpair, hactive]
    rw [hu]
    simp [hod, hpair, hloud, hholding, beginMeasuring, trackOn]
    exact hsync

/-- A force that waits for its run. -/
def forceW (c : Client) (sub : Nat) (v : List Byte) (s : State) : ProgW :=
  { sym := ((exportSym (cfgDraw s) 0x1361).map (fun y => y.id)).getD 0, elem := sub - 1, value := v, entry := some (entryE 0x1361 sub v), client := some c
    forward := none, carried := false }

def forceWaits (c : Client) (sub : Nat) (v : List Byte) (s : State) : State :=
  { cfgDraw s with od := { s.od with progWs := s.od.progWs ++ [forceW c sub v s] } }

end Sys2Proof.Laws

namespace Sys2Proof.Proofs

open Sys2Proof Sys2Proof.Machine Sys2Proof.Safety Sys2Proof.Laws

/-- Settles O19. -/
theorem changesComplete : Obligations.ChangesComplete := by
  unfold Obligations.ChangesComplete
  refine ⟨?image, ?start, ?abandon, ?measured, ?round, ?timeout, ?copied, ?force, ?writes⟩
  case image =>
    intro m rq mt s hrun hflags harg hacc hidle
    obtain rfl := Option.some.inj (hacc.entry.symm.trans rfl)
    have hmsg : dataMsg 0x1360 2 m rq = objMsg 0x1360 2 { rq with value := m.data } := by
      obtain ⟨_, _, _, _, _, _, _, _⟩ := m
      subst hflags harg
      rfl
    have hdata : kindleData m.data s = ({ s with chg := { s.chg with image := m.data } }, 0) := if_pos hidle
    have hcmd : dataCmd 0x1360 2 m rq s = closeRevoked (tellR (askOf s (writer 0x1360 2 rq)) (kindleData m.data s)) := by
      have hobj := objCmd_plain hrun (by decide) (by decide) rfl rfl rfl rfl rfl rfl hacc
      exact (by rw [dataCmd, hmsg]; exact hobj)
    rw [hdata, tellR_done] at hcmd
    exact congrArg finish (hcmd.trans (closeRevoked_told (by rfl) hacc.free))
  case start =>
    intro rq mt p s hrun hacc hone hactive hidle hswitch hrestart hstop hholders hprog hphase hfree h code
    obtain rfl := Option.some.inj (hacc.entry.symm.trans rfl)
    have hact : activityOf 0x1360 3 rq.value = none := by simp [activityOf]
    have hplain : plainCmd (askOf s (writer 0x1360 3 rq)).session 0x1360 3 rq.value s = changeStart (writer 0x1360 3 rq).session s := if_pos hone
    have hcmd := objCmd_plain hrun (by decide) (by decide) rfl rfl rfl rfl hact rfl hacc
    rw [hplain, changeStart_loads hactive hidle hswitch hrestart hstop hholders hprog hphase hfree, tellR_done] at hcmd
    obtain ⟨hcode, hsync⟩ := loadCheck_taken h s.chg.image hrun
    have hcode' : loadCheck s.chg.image (takeToken h s) = code := hcode
    by_cases hc : code = 0
    · rw [if_neg (by rw [hcode']; simp [hc])] at hcmd
      obtain ⟨hod, hpair, hloud, hholding, hnew, hboth, hstage⟩ := imagePlaced_loads (h := h) (b := s.chg.image) hactive hprog (hcode'.trans hc)
      rw [hsync] at hboth hstage
      rw [closeRevoked_told hod hacc.free] at hcmd
      generalize loadingDone (imagePlaced s.chg.image (changeLoads h s)) = u at *
      refine answers_of_finish (congrArg finish hcmd) (hloud.trans hrun.loud) ⟨(congrArg Pair.role hpair).trans hactive, ?_⟩
      rw [if_pos hc]
      exact ⟨hholding, hnew, hboth, hstage⟩
    · rw [if_pos (by rw [hcode']; exact hc)] at hcmd
      have hends := changeLoads_refused (h := h) hactive (show loadCheck s.chg.image (takeToken h s) ≠ 0 by rw [hcode']; exact hc)
      rw [hcode'] at hends
      obtain ⟨h1, h2, h3, h4, -, -, h7, -, h9, h10, h11, h12⟩ := endChange_leaves .refused code (kindleIf (changeLoads h s).chg.pair 8 0 code 0 (changeLoads h s))
      obtain ⟨-, -, k3, -, -, -, k7, k8, k9, -, k11⟩ := kindleIf_keeps (changeLoads h s).chg.pair 8 0 code 0 (changeLoads h s)
      obtain ⟨hod, hpair, hmem, hloud, hholding⟩ := changeLoads_keeps h s
      rw [k3, hholding] at h7
      rw [hends, closeRevoked_told (h11.trans (k9.trans hod)) hacc.free] at hcmd
      generalize endChange .refused code (kindleIf (changeLoads h s).chg.pair 8 0 code 0 (changeLoads h s)) = u at *
      refine answers_of_finish (congrArg finish hcmd) (h12.trans (k11.trans (hloud.trans hrun.loud)))
        ⟨(congrArg Pair.role (h10.trans (k8.trans hpair))).trans hactive, ?_⟩
      rw [if_neg hc]
      exact ⟨h7, h1, h2, h3, h4, h9.trans (k7.trans hmem)⟩
  case abandon =>
    intro rq mt s hrun hacc htwo hactive hbusy hgo hst
    obtain rfl := Option.some.inj (hacc.entry.symm.trans rfl)
    have hact : activityOf 0x1360 3 rq.value = none := by simp [activityOf]
    have habandon : changeAbandon s = (endChange .abandoned 0 (kindleIf s.chg.pair 8 0 0 0 s), 0) := by
      simp [changeAbandon, hactive, hbusy, hgo, hst, kindleIf]
    have hplain : plainCmd (askOf s (writer 0x1360 3 rq)).session 0x1360 3 rq.value s = changeAbandon s := if_neg (by omega)
    have hcmd := objCmd_plain hrun (by decide) (by decide) rfl rfl rfl rfl hact rfl hacc
    obtain ⟨h1, h2, h3, h4, -, h6, h7, h8, h9, -, h11, h12⟩ := endChange_leaves .abandoned 0 (kindleIf s.chg.pair 8 0 0 0 s)
    obtain ⟨k1, k2, k3, k4, k5, k6, k7, k8, k9, k10, k11⟩ := kindleIf_keeps s.chg.pair 8 0 0 0 s
    rw [hplain, habandon, tellR_done, closeRevoked_told (h11.trans k9) hacc.free] at hcmd
    generalize endChange .abandoned 0 (kindleIf s.chg.pair 8 0 0 0 s) = u at *
    exact answers_of_finish (congrArg finish hcmd) (h12.trans (k11.trans hrun.loud)) ⟨h1, h2, h3, h4, h6, k3 ▸ h7, h8.trans k4, h9.trans k7⟩
  case measured =>
    intro s hrun hactive hst hhurts
    have hexec : exec .measuringEnd s = finish (measuringEnd s) := congrArg finish (if_pos (running_runtimeLive hrun))
    by_cases hfits : s.chg.measured ≤ 1024
    · rw [measuringEnd_fits hactive hst hfits (hhurts hfits)] at hexec
      obtain ⟨k1, k2, k3, k4, k5, k6, k7, k8, k9, k10, k11⟩ := kindleIf_keeps s.chg.pair 3 0 0 0 (precopyBegun s)
      have hb : (precopyBegun s).chg.estimate = BitVec.ofNat 32 s.chg.measured ∧ (precopyBegun s).mem = s.mem ∧ (precopyBegun s).chg.st = .precopy ∧
          (precopyBegun s).chg.passed = false ∧ (precopyBegun s).gate.trkEn = true ∧ (precopyBegun s).sup.failSilent = s.sup.failSilent := by
        simp [precopyBegun, estimated, trackOn]
      rw [← k1, ← k2, ← k7, ← k11] at hb
      obtain ⟨hest, hmem, hstage, hpassed, htrk, hloud⟩ := hb
      refine answers_of_finish hexec (hloud.trans hrun.loud) ⟨hest, hmem, ?_⟩
      rw [if_pos hfits]
      exact ⟨hstage, hpassed, htrk⟩
    · rw [measuringEnd_heavy hactive hst (by omega)] at hexec
      obtain ⟨k1, k2, k3, k4, k5, k6, k7, k8, k9, k10, k11⟩ := kindleIf_keeps s.chg.pair 8 0 0x2307 0 (estimated s)
      obtain ⟨h1, h2, -, -, h5, h6, -, -, h9, -, -, h12⟩ := endChange_leaves .refused 0x2307 (kindleIf s.chg.pair 8 0 0x2307 0 (estimated s))
      rw [k1] at h5
      generalize endChange .refused 0x2307 (kindleIf s.chg.pair 8 0 0x2307 0 (estimated s)) = u at *
      refine answers_of_finish hexec (h12.trans (k11.trans hrun.loud)) ⟨h5, h9.trans k7, ?_⟩
      rw [if_neg hfits]
      exact ⟨h1, h2, h6⟩
  case round =>
    intro old new s hrun hactive hst hold hnew
    have hexec : exec .precopyRoundEnd s = finish (precopyRound s) := congrArg finish (if_pos (running_runtimeLive hrun))
    obtain ⟨m, hround⟩ := precopyRound_round hactive hst hold hnew
    rw [hround] at hexec
    by_cases hfew : deltaNow s ≤ s.chg.estimate.toNat
    · rw [if_pos hfew] at hexec
      obtain ⟨hpassed, hremain⟩ := announceSwap_passed_remain (chgPost 0x0322 [] { roundDone m s with chg := { (roundDone m s).chg with st := .ready } })
      refine answers_of_finish hexec (by simp [roundDone, takeDirty, hrun.loud]) ⟨?_, ?_, ?_, ?_, ?_⟩
      · exact hpassed.trans (by simp [roundDone, takeDirty])
      · simp [roundDone, takeDirty]
      · exact hremain.trans (by simp [roundDone, takeDirty])
      · simp [roundDone, takeDirty, hold]
      · simp [roundDone, takeDirty, if_pos hfew]
    · rw [if_neg hfew] at hexec
      refine answers_of_finish hexec hrun.loud ⟨rfl, rfl, rfl, hold, ?_⟩
      rw [if_neg hfew]
      exact hst
  case timeout =>
    intro s hrun hactive hst hsent hacked
    have hexec : exec .goAckTimeout s = finish (announceSwap (sendKindle 6 0 s.chg.swapBeat.toNat 0 [] { s with chg := { s.chg with goSent := false } })) :=
      congrArg finish (if_pos ⟨running_runtimeLive hrun, hactive, hst, hsent, by simp [hacked]⟩)
    have hkept : (sendKindle 6 0 s.chg.swapBeat.toNat 0 [] { s with chg := { s.chg with goSent := false } }).chg = { s.chg with goSent := false } ∧
        (sendKindle 6 0 s.chg.swapBeat.toNat 0 [] { s with chg := { s.chg with goSent := false } }).mem = s.mem ∧
        (sendKindle 6 0 s.chg.swapBeat.toNat 0 [] { s with chg := { s.chg with goSent := false } }).sup.failSilent = s.sup.failSilent ∧
        (sendKindle 6 0 s.chg.swapBeat.toNat 0 [] { s with chg := { s.chg with goSent := false } }).cyc = s.cyc ∧
        (sendKindle 6 0 s.chg.swapBeat.toNat 0 [] { s with chg := { s.chg with goSent := false } }).run = s.run := by simp
    generalize sendKindle 6 0 s.chg.swapBeat.toNat 0 [] { s with chg := { s.chg with goSent := false } } = u at *
    obtain ⟨hchg, hmem, hloud, hcyc, hruns⟩ := hkept
    have hchoose : chooseSwap u = chooseSwap s := chooseSwap_congr hcyc hruns
    obtain ⟨hnone, hsome⟩ := announceSwap_leaves u
    refine answers_of_finish hexec (by simp [hloud, hrun.loud]) ⟨by simp [hchg, hst], by simp [hmem], ?_⟩
    rw [← hchoose]
    cases hc : chooseSwap u with
    | none =>
      show (announceSwap u).chg.goSent = false
      rw [hnone hc, hchg]
    | some b => exact hsome b hc
  case copied =>
    intro old new s hrun hactive hst hquiet hcopied hold hnew
    have hexec : exec .swapCopyDone s = finish (swapCopyDone s) := congrArg finish (if_pos (running_runtimeLive hrun))
    obtain ⟨c, n, hcopy⟩ := swapCopyDone_copies hactive hst hquiet hcopied hold hnew
    obtain ⟨hstage, hdone, hprog, hnamed, hforces, hloud⟩ := swapped_leaves (new := new) old hst
    rw [hcopy, hnamed] at hexec
    obtain ⟨k1, k2, k3, k4, k5, k6, k7, k8, k9, k10, k11⟩ := kindleIf_keeps c 7 0 (reopenAt s) n (swapped old new s)
    generalize kindleIf c 7 0 (reopenAt s) n (swapped old new s) = u at *
    refine answers_of_finish hexec ?_ ⟨?_, ?_, ?_, ?_, ?_⟩
    · simp [k11, hloud, hrun.loud]
    · simp [k1, hstage]
    · simp [k1, hdone]
    · simp [k4, hprog]
    · exact reopenNext_reopen _ _
    · simp only [reopenNext_gate_run_now_od_out_mnt_holders_chg_st_chg_copied_chg_forces, k1, hforces]
      exact fun f hf => List.mem_filter.mp hf
  case force =>
    intro sub rq mt s hrun hlo hhi hacc hopen hactive hset hclear
    have hvisible : visible 0x1361 sub = true := by simp [visible, hlo, hhi]
    have hstate : visibleState 0x1361 sub rq.value s = (cfgDraw s, 0) := by
      have hcheck : (if sub = 1 then forceCheck rq.value s else if sub = 2 ∧ (symOf s (BitVec.ofNat 32 (beNat rq.value))).isNone then 0x230E else 0) = 0 := by
        split
        next h1 => exact hset h1
        next h1 =>
          rw [if_neg]
          rintro ⟨h2, hnone⟩
          simp [Option.isNone_iff_eq_none.mp hnone] at hclear
          exact hclear h2
      simp only [visibleState, hcheck, areaWrite_open hrun hopen, show ¬ (0x1361 = 0x1600) by decide, if_false, if_true, ne_eq, not_true_eq_false]
    have hwrite : objCmd 0x1361 sub rq s = closeRevoked (forceWaits (writer 0x1361 sub rq) sub rq.value s) := by
      rw [objCmd_accepted hrun (by decide) (by omega) hacc]
      refine congrArg closeRevoked ?_
      simp only [routed, decided, writer_index (show 0x1361 < 65536 by decide), writer_sub 0x1361 (show sub < 256 by omega), hvisible, hactive]
      simp [visibleWrite, hactive, hstate, forceWaits, forceW, askOf]
    rw [closeRevoked_none (s := forceWaits (writer 0x1361 sub rq) sub rq.value s) fun x hx => (hacc.free x hx).2] at hwrite
    have hexec : (match (generalizing := false) sub with | 1 => exec (.forceSet rq) s | 2 => exec (.forceClear rq) s | _ => exec (.forceClearAll rq) s) =
        finish (forceWaits (writer 0x1361 sub rq) sub rq.value s) := by
      rw [← hwrite]
      obtain rfl | rfl | rfl : sub = 1 ∨ sub = 2 ∨ sub = 3 := by omega
      all_goals rfl
    exact answers_of_finish hexec hrun.loud ⟨rfl, rfl, rfl, forceW (writer 0x1361 sub rq) sub rq.value s, rfl, rfl, rfl, rfl⟩
  case writes =>
    intro v s
    refine ⟨?_, ?_, ?_⟩
    · simp [forceWrite, dropForce]
    · simp [forceWrite, dropForce]
    · simp [forceWrite]

end Sys2Proof.Proofs

/-! PROOF. KINDLE frames (05 R178): a DATA frame that completes an image which the standby refuses. -/

namespace Sys2Proof.Laws

open Sys2Proof Sys2Proof.Machine Sys2Proof.Safety

/-- The length of an image of a program without code, symbols, migrations and data. -/
@[irreducible] def blankLen : Nat := 64 + descBytes + trigBytes + 64

theorem blankLen_value : blankLen = 45184 := by unfold blankLen; rfl

/-- Such an image, all zero. -/
def blankImage : List Byte := List.replicate blankLen 0

theorem leNat_replicate_zero (n : Nat) : leNat (List.replicate n (0 : Byte)) = 0 := by
  induction n with
  | zero => rfl
  | succ n ih => rw [List.replicate_succ, leNat, ih]; rfl

theorem leAt_replicate_zero (k off len : Nat) : leAt (List.replicate k (0 : Byte)) off len = 0 := by
  rw [leAt, slice, List.drop_replicate, List.take_replicate, leNat_replicate_zero]

theorem kindleLen_blankImage : kindleLen blankImage = blankImage.length := by
  have hlen : blankImage.length = blankLen := List.length_replicate
  have hzero (off len : Nat) : leAt blankImage off len = 0 := leAt_replicate_zero blankLen off len
  rw [hlen, blankLen_value]
  simp [kindleLen, hzero, descBytes, trigBytes]

/-- A standby in slot A, without a program, that has the bytes `image` of an image. -/
def kindleDue (image : List Byte) : State :=
  { started with
    pair := { started.pair with role := .standby, peerB := { started.pair.peerB with heardAt := some 0 } }
    flu := { started.flu with path := 1, lane0 := { started.flu.lane0 with up := true, locked := true } }
    fluq := { started.fluq with rxB := { started.fluq.rxB with own := some 41 } }
    chg := { started.chg with st := .loading, image := image } }

/-- The header of the next frame, and the frame that brings one byte at `arg`. -/
def lastHdr : FlueHdr := { ver := 1, src := .b, dst := some .a, epoch := started.pair.epoch, seq := 42, flags := 0 }
def byteData (arg : BitVec 64) : KindleP := { op := 1, flags := 0, imgid := 0, arg := arg, aux := 0, data := [0] }

theorem running_kindleDue (image : List Byte) : Running (kindleDue image) :=
  ⟨rfl, rfl, rfl, rfl, rfl, rfl, rfl, rfl, rfl, rfl, rfl, rfl⟩

theorem received_kindleDue (image : List Byte) (p : KindleP) : Received 0 ⟨lastHdr, .kindle p⟩ (kindleDue image) where
  two := by decide
  opened := rfl
  up := rfl
  path := by
    have hc : mySlot (kindleDue image) ≠ .c := fun h : Slot.a = Slot.c => absurd h (by decide)
    have hsel : pathSel (kindleDue image) = 0 := show pathSel started = 0 by decide
    rw [pathNow, if_neg hc, hsel]
    rfl
  quiet := rfl
  free := rfl
  ver := rfl
  src := fun h : Slot.b = Slot.a => absurd h (by decide)
  dst := rfl
  top := fun h : started.pair.epoch = 0xFFFFFFFF => absurd h (by decide)
  epoch := .inl rfl
  recent := ⟨0, rfl, show started.now - 0 < 100000000 by decide⟩
  order := ⟨41, rfl, rfl⟩

theorem heard_kindleDue (image : List Byte) (p : KindleP) : (flueHeard 0 ⟨lastHdr, .kindle p⟩ (kindleDue image)).pair.role = .standby ∧
    (flueHeard 0 ⟨lastHdr, .kindle p⟩ (kindleDue image)).run.prog = none ∧
    (flueHeard 0 ⟨lastHdr, .kindle p⟩ (kindleDue image)).chg = (kindleDue image).chg := ⟨rfl, rfl, rfl⟩

/-- The byte behind all but the last completes the image. -/
theorem overlay_lastByte (arg : BitVec 64) (harg : arg.toNat = blankLen - 1) :
    overlay (if arg = 0 then [] else List.replicate (blankLen - 1) 0) arg.toNat [0] = blankImage := by
  have hne : arg ≠ 0 := fun h => by
    rw [h, blankLen_value] at harg
    exact absurd harg (by decide)
  have hsucc : blankLen = blankLen - 1 + 1 := by rw [blankLen_value]
  rw [if_neg hne, harg, overlay, fit_of_length List.length_replicate, List.drop_eq_nil_of_le (by simp), List.append_nil, blankImage]
  rw [← List.replicate_succ', ← hsucc]

/-- An image that is whole and fails its checks ends the change at once. -/
theorem onKindleData_refused {p : KindleP} {s : State} {b : List Byte} (hrole : s.pair.role = .standby) (hprog : s.run.prog = none)
    (hdata : overlay (if p.arg = 0 then [] else s.chg.image) p.arg.toNat p.data = b) (hlen : 64 ≤ b.length) (hwhole : b.length = kindleLen b) :
    (onKindleData p s).chg.st = .refused := by
  have hcheck (u : State) (h : u.run = s.run) : loadCheck b u = 0x2301 := by simp [loadCheck, h, hprog]
  unfold onKindleData
  rw [if_neg (by simp [hrole])]
  dsimp only
  rw [hdata, if_neg (by omega)]
  generalize hr : loadCheck b _ = r
  have hcode : r = 0x2301 := hr.symm.trans (hcheck _ rfl)
  rw [hcode]
  exact (endChange_leaves .refused 0x2301 _).1

/-- What clause DATA of the obligation says of the change's state does not hold where the byte completes an image that fails. -/
theorem kindleDataFrame_refused {image b : List Byte} {arg : BitVec 64} (hdata : overlay (if arg = 0 then [] else image) arg.toNat [0] = b)
    (hlen : 64 ≤ b.length) (hwhole : b.length = kindleLen b) {t : State}
    (hnext : exec (.kindleDataFrame 0 lastHdr (byteData arg)) (kindleDue image) = .next t) : t.chg.st = .refused := by
  have hexec : exec (.kindleDataFrame 0 lastHdr (byteData arg)) (kindleDue image) =
      finish (onKindleData (byteData arg) (flueHeard 0 ⟨lastHdr, .kindle (byteData arg)⟩ (kindleDue image))) :=
    congrArg finish (flueRx_received (running_kindleDue image) (received_kindleDue image (byteData arg)))
  obtain ⟨hrole, hprog, hchg⟩ := heard_kindleDue image (byteData arg)
  rw [← Host.Outcome.next.inj (hexec.symm.trans hnext), settle_chg]
  generalize flueHeard 0 ⟨lastHdr, .kindle (byteData arg)⟩ (kindleDue image) = u at *
  refine onKindleData_refused hrole hprog (b := b) ?_ hlen hwhole
  rw [hchg]
  exact hdata

end Sys2Proof.Laws

namespace Sys2Proof.Proofs

open Sys2Proof Sys2Proof.Machine Sys2Proof.Safety Sys2Proof.Laws

/-- Refutes O20: a DATA frame whose byte completes the image has it checked at once, and a standby without a program refuses it (0x2301): the state is
then REFUSED and the image gone, not LOADING with the image grown. -/
theorem not_kindleFramesComplete : ¬ Obligations.KindleFramesComplete := by
  intro h
  obtain ⟨hdata, -⟩ := h
  obtain ⟨arg, harg⟩ : ∃ arg : BitVec 64, arg.toNat = blankLen - 1 :=
    ⟨BitVec.ofNat 64 (blankLen - 1), by rw [BitVec.toNat_ofNat, blankLen_value]⟩
  obtain ⟨t, hnext, hst, -⟩ := hdata 0 lastHdr (byteData arg) (kindleDue (List.replicate (blankLen - 1) 0))
    (running_kindleDue _) (received_kindleDue _ _) rfl
  have hlen : 64 ≤ blankImage.length := by
    rw [blankImage, List.length_replicate, blankLen_value]
    decide
  rw [kindleDataFrame_refused (overlay_lastByte arg harg) hlen kindleLen_blankImage.symm hnext] at hst
  exact absurd hst (by decide)

end Sys2Proof.Proofs

/-! PROOF. The twin's frames (03 R109 to R122): what every accepted frame leaves, and its effect. -/

namespace Sys2Proof.Laws

open Sys2Proof Sys2Proof.Machine Sys2Proof.Safety

-- what a received frame leaves ---------------------------------------------------------------------------------------------

section

variable (lane : Nat) (f : FlueFrame) (s : State)

/-- A received frame touches the pair's marks, its lane and the receive sequences alone. -/
theorem flueHeard_eq : flueHeard lane f s = { s with
    pair := (flueHeard lane f s).pair, flu := (flueHeard lane f s).flu, fluq := (flueHeard lane f s).fluq } := by
  unfold flueHeard countPayload
  split <;> rfl

@[simp] theorem flueHeard_mem : (flueHeard lane f s).mem = s.mem := by rw [flueHeard_eq]
@[simp] theorem flueHeard_run : (flueHeard lane f s).run = s.run := by rw [flueHeard_eq]
@[simp] theorem flueHeard_sup : (flueHeard lane f s).sup = s.sup := by rw [flueHeard_eq]
@[simp] theorem flueHeard_hw : (flueHeard lane f s).hw = s.hw := by rw [flueHeard_eq]
@[simp] theorem flueHeard_emb : (flueHeard lane f s).emb = s.emb := by rw [flueHeard_eq]
@[simp] theorem flueHeard_clk : (flueHeard lane f s).clk = s.clk := by rw [flueHeard_eq]
@[simp] theorem flueHeard_fol : (flueHeard lane f s).fol = s.fol := by rw [flueHeard_eq]
@[simp] theorem flueHeard_cyc : (flueHeard lane f s).cyc = s.cyc := by rw [flueHeard_eq]
@[simp] theorem flueHeard_now : (flueHeard lane f s).now = s.now := by rw [flueHeard_eq]
@[simp] theorem flueHeard_od : (flueHeard lane f s).od = s.od := by rw [flueHeard_eq]

theorem flueHeard_pair : (flueHeard lane f s).pair = { setPeer s.pair f.hdr.src { peerOf s.pair f.hdr.src with heardAt := some s.now } with
    epochSeen := (flueHeard lane f s).pair.epochSeen } := by
  unfold flueHeard countPayload
  split <;> rfl

@[simp] theorem flueHeard_role : (flueHeard lane f s).pair.role = s.pair.role := by rw [flueHeard_pair, setPeer_role]
@[simp] theorem flueHeard_sub : (flueHeard lane f s).pair.sub = s.pair.sub := by rw [flueHeard_pair]; cases f.hdr.src <;> rfl
@[simp] theorem flueHeard_armed : (flueHeard lane f s).pair.armed = s.pair.armed := by rw [flueHeard_pair, setPeer_armed]
@[simp] theorem flueHeard_epoch : (flueHeard lane f s).pair.epoch = s.pair.epoch := by rw [flueHeard_pair, setPeer_epoch]

theorem flueHeard_flu : (flueHeard lane f s).flu = { setLane s.flu lane { laneOf s.flu lane with rx := satInc (laneOf s.flu lane).rx, up := true } with
    rxNow := (flueHeard lane f s).flu.rxNow } := by
  unfold flueHeard countPayload
  split <;> rfl

theorem flueHeard_lane : laneOf (flueHeard lane f s).flu lane = { laneOf s.flu lane with rx := satInc (laneOf s.flu lane).rx, up := true } := by
  rw [flueHeard_flu]
  exact laneOf_setLane s.flu lane _

@[simp] theorem flueHeard_resync : (flueHeard lane f s).flu.resync = s.flu.resync := by
  rw [flueHeard_flu]; unfold setLane; split <;> rfl
@[simp] theorem flueHeard_syncTasks : (flueHeard lane f s).flu.syncTasks = s.flu.syncTasks := by
  rw [flueHeard_flu]; unfold setLane; split <;> rfl
@[simp] theorem flueHeard_syncEvts : (flueHeard lane f s).flu.syncEvts = s.flu.syncEvts := by
  rw [flueHeard_flu]; unfold setLane; split <;> rfl

theorem flueHeard_fluq : (flueHeard lane f s).fluq = setRx f.hdr.src { rxOf s.fluq f.hdr.src with own := some f.hdr.seq } s.fluq := by
  unfold flueHeard countPayload
  split <;> rfl

@[simp] theorem flueHeard_images : (flueHeard lane f s).fluq.images = s.fluq.images := by rw [flueHeard_fluq]; cases f.hdr.src <;> rfl
@[simp] theorem flueHeard_own : (flueHeard lane f s).fluq.own = s.fluq.own := by rw [flueHeard_fluq]; cases f.hdr.src <;> rfl
@[simp] theorem flueHeard_peer : (flueHeard lane f s).fluq.peer = s.fluq.peer := by rw [flueHeard_fluq]; cases f.hdr.src <;> rfl
@[simp] theorem flueHeard_relays : (flueHeard lane f s).fluq.relays = s.fluq.relays := by rw [flueHeard_fluq]; cases f.hdr.src <;> rfl
@[simp] theorem flueHeard_held : (flueHeard lane f s).fluq.held = s.fluq.held := by rw [flueHeard_fluq]; cases f.hdr.src <;> rfl

@[simp] theorem flueHeard_twinOn (t : Nat) : twinOn (flueHeard lane f s) t = twinOn s t := by simp [twinOn]

end

theorem flueHeard_running (lane : Nat) (f : FlueFrame) {s : State} (hrun : Running s) : Running (flueHeard lane f s) := by
  obtain ⟨kiln, rick, bank, cord, intact, runtime, rickUp, loud, ember, power, reset, clocks⟩ := hrun
  constructor <;> simpa

/-- The end of a frame of the twin that nothing turns away, in a running module. -/
theorem answers_frame {o : Host.Outcome State Fault Refusal} {lane : Nat} {f : FlueFrame} {s : State} {post : State → Prop} (hrun : Running s)
    (hrec : Received lane f s) (ho : o = finish (flueRx lane f s)) (h : post (settle (flueBody lane f (flueHeard lane f s)))) : Answers o post :=
  answers_settled (ho.trans (congrArg finish (flueRx_received hrun hrec))) h

-- the effects ---------------------------------------------------------------------------------------------------------------

/-- The first part of a run of more than one part waits for its fellows. -/
theorem onImage_first {p : ImageP} {s : State} (hrole : s.pair.role = .standby) (hsub : s.pair.sub = .synchronised) (hnone : s.fluq.images = [])
    (hparts : 1 < p.parts) :
    onImage p s = { s with fluq := { s.fluq with images := [{ task := p.task, inst := p.inst, parts := p.parts, got := [p] }] } } := by
  have hnot : ¬ (s.pair.role ≠ .standby ∨ s.pair.sub = .resync ∧ s.flu.resync.phase < 4) := by simp [hrole, hsub]
  unfold onImage
  rw [if_neg hnot, hnone]
  have hwait (u : State) : releasable u { task := p.task, inst := p.inst, parts := p.parts, got := [p] } = false := by
    simp [releasable, Nat.ne_of_lt hparts]
  simp [releaseImages, hwait]

/-- A digest whose fellow is not there yet is kept. -/
theorem onDigest_first {p : DigestP} {s : State} (hrole : s.pair.role = .active) (htwin : twinOn s p.task = true) (hown : s.fluq.own = []) :
    onDigest p s = { s with fluq := { s.fluq with peer := s.fluq.peer ++ [{ p := p, at_ := s.now }] } } := by
  simp [onDigest, hrole, htwin, hown, runsTasks]

/-- A digest of both ends is compared, and the own one kept no longer. -/
theorem onDigest_fellow {own p : DigestP} {k : Nat} {s : State} (hrole : s.pair.role = .active) (htwin : twinOn s p.task = true)
    (hown : s.fluq.own = [{ p := own, at_ := k }]) (htask : own.task = p.task) (hinst : own.inst = p.inst) :
    onDigest p s = compareDigests own p { s with fluq := { s.fluq with own := [] } } := by
  have hsame : sameDig p.task p.inst { p := own, at_ := k } = true := by simp [sameDig, htask, hinst]
  simp [onDigest, hrole, htwin, hown, runsTasks, hsame]

/-- At the ACTIVE, agreement forgets the missed digests. -/
theorem compareDigests_agree {own p : DigestP} {s : State} (hrole : s.pair.role = .active) (hout : own.outcome = 0) (heq : own.digest = p.digest) :
    compareDigests own p s = { s with fluq := { s.fluq with missed := 0 } } := by
  simp [compareDigests, hrole, hout, heq, agree, becomeSynchronised]

theorem compareDigests_differ {own p : DigestP} {s : State} (hrole : s.pair.role = .active) (hout : own.outcome = 0) (hne : own.digest ≠ p.digest) :
    compareDigests own p s = diverge own p s := by
  simp [compareDigests, hrole, hout, hne]

end Sys2Proof.Laws
namespace Sys2Proof.Laws

open Sys2Proof Sys2Proof.Machine Sys2Proof.Safety

theorem fluInt_flu (b : Nat) (s : State) : (fluInt b s).flu = { s.flu with intStatus := setBit s.flu.intStatus b } := by simp [fluInt]

/-- A divergence at the ACTIVE names both digests and ends the twin's tasks, phase 1 of the resync begun. -/
theorem diverge_active {own p : DigestP} {s : State} (hrole : s.pair.role = .active) :
    (diverge own p s).flu = { s.flu with
      divTask := own.task, divInst := own.inst, digLocal := own.digest, digPeer := p.digest, intStatus := setBit s.flu.intStatus 2
      resync := { phase := 1, since := s.now, byDiv := true }, syncTasks := 0, syncEvts := false } ∧
    (diverge own p s).pair.role = .active ∧ (diverge own p s).mem = s.mem := by
  have hnoted : (noteDivergence own p s).pair.role = .active := by simpa [noteDivergence] using hrole
  have hnow : (noteDivergence own p s).now = s.now := by simp [noteDivergence, fluInt]
  have hflu : (noteDivergence own p s).flu = { s.flu with
      divTask := own.task, divInst := own.inst, digLocal := own.digest, digPeer := p.digest, intStatus := setBit s.flu.intStatus 2 } := by
    simp [noteDivergence, fluInt_flu]
  have hmem : (noteDivergence own p s).mem = s.mem := by simp [noteDivergence]
  unfold diverge
  generalize noteDivergence own p s = u at *
  simp [hnoted, hnow, hflu, hmem, clearTwin]

/-- A frame of the station to be relayed waits for its time. -/
theorem takeRelay_waits {e : RelayE} {f : FolFrame} {s : State} (hfol : folOf e.frame = some f) (hflag : bit e.flags 0 = false)
    (htime : s.now ≤ relayTime s f.hdr.stamp e.toff.toNat) :
    takeRelay s e = { s with fluq := { s.fluq with relays := s.fluq.relays ++ [{ e := e, at_ := relayTime s f.hdr.stamp e.toff.toNat }] } } := by
  simp [takeRelay, hfol, hflag, Nat.not_lt.mpr htime]

/-- A relayed frame that missed its time is counted, told and not sent. -/
theorem relayTransmit_late {n k : Nat} {e : RelayE} {s : State} (hrelays : s.fluq.relays = [{ e := e, at_ := k }]) (hport : e.port = n) :
    relayTransmit n true s = relayLate n { s with fluq := { s.fluq with relays := [] } } := by
  simp [relayTransmit, hrelays, hport]

theorem takeRelayIn_input {lane : Nat} {e : RelayE} {g : FolHdr} {p : InputP} {s : State} (hrole : s.pair.role = .active) (hport : e.port < 4)
    (hfol : folOf e.frame = some ⟨g, .input p⟩) :
    takeRelayIn lane s e = rxInput e.port (1 - (myEnd s).getD 0) lane false g p s := by
  have hnot : ¬ (s.pair.role ≠ .active ∨ 4 ≤ e.port) := by simp [hrole, hport]
  unfold takeRelayIn
  dsimp only
  rw [if_neg hnot, hfol]

/-- A NAK with nothing held is counted at its lane. -/
theorem onNak_empty {lane : Nat} {src : Slot} {p : NakP} {s : State} (hheld : s.fluq.held = []) :
    onNak lane src p s = { s with flu := setLane s.flu lane { laneOf s.flu lane with naks := satInc (laneOf s.flu lane).naks } } := by
  unfold onNak
  dsimp only
  rw [hheld]
  rfl

/-- The bytes of the bulk copy at a standby in RESYNC: phase 2, and the arm withdrawn, by the first of them. -/
def copied (p : ResyncDataP) (s : State) : State :=
  let u := if s.flu.resync.phase ≤ 1 then setResync (fun r => { r with phase := 2, since := s.now }) { s with pair := { s.pair with armed := false } } else s
  { u with mem := writeBytes u.mem p.addr p.data }

theorem copied_mem (p : ResyncDataP) (s : State) : (copied p s).mem = writeBytes s.mem p.addr p.data := by unfold copied; dsimp only; split <;> rfl

theorem copied_phase (p : ResyncDataP) (s : State) : (copied p s).flu.resync.phase = max 2 s.flu.resync.phase := by
  unfold copied
  dsimp only
  split
  next h => exact (max_eq_left (show s.flu.resync.phase ≤ 2 by omega)).symm
  next h => exact (max_eq_right (show 2 ≤ s.flu.resync.phase by omega)).symm

theorem copied_armed {p : ResyncDataP} {s : State} (h : s.flu.resync.phase ≤ 1) : (copied p s).pair.armed = false := by
  unfold copied
  rw [if_pos h]
  rfl

theorem copied_sup (p : ResyncDataP) (s : State) : (copied p s).sup = s.sup := by unfold copied; dsimp only; split <;> rfl

theorem copied_marked (p : ResyncDataP) (s : State) : (copied p s).flu.resync.marked = s.flu.resync.marked := by
  unfold copied; dsimp only; split <;> rfl

theorem onResyncData_copies {p : ResyncDataP} {s : State} (hrole : s.pair.role = .standby) (hsub : s.pair.sub = .resync)
    (hmarked : s.flu.resync.marked = []) : onResyncData p s = copied p s := by
  have hnot : ¬ (s.pair.role ≠ .standby ∨ s.pair.sub ≠ .resync) := by simp [hrole, hsub]
  have hnone : (copied p s).flu.resync.marked = [] := (copied_marked p s).trans hmarked
  unfold onResyncData
  rw [if_neg hnot]
  show answerSets (copied p s) = copied p s
  unfold answerSets
  rw [hnone]
  rfl

/-- The last answer of phase 4 ends it. -/
theorem onResyncCtrl_last {p : ResyncCtrlP} {q : Word} {s : State} (hrole : s.pair.role = .active) (hp : p.phase = 4) (hphase : s.flu.resync.phase = 4)
    (hwait : s.flu.resync.awaiting = [(p.task, q)]) (htrail : s.flu.resync.trailing = []) :
    onResyncCtrl p s = setResync (fun r => { r with phase := 5, awaiting := [], arrived := r.arrived ++ [p.task] }) s := by
  have hne : ¬ s.pair.role = .standby := by simp [hrole]
  simp [onResyncCtrl, hrole, hp, hphase, setResync, hwait, htrail]

theorem laneHears_open {n : Nat} {s : State} (hrun : Running s) (hn : n < 2) (hopen : laneOpen s n = true) : laneHears s n = true := by
  simp [laneHears, running_rickLive hrun, hn, hopen, hrun.loud, hrun.power]

/-- Slot C passes a frame of slot A to all slots on to slot B. -/
theorem slotCForward_all {f : FlueFrame} {s : State} (hrun : Running s) (hslot : mySlot s = .c) (hin : laneOpen s 0 = true) (hout : laneOpen s 1 = true)
    (hforwards : forwards s = true) (hsrc : f.hdr.src = .a) (hdst : f.hdr.dst = none) :
    slotCForward 0 f s = laneSend 1 { f with hdr := { f.hdr with flags := setBit f.hdr.flags 0 } } s := by
  simp [slotCForward, hslot, laneHears_open hrun (by decide) hin, hforwards, hsrc, hdst, hout]

end Sys2Proof.Laws

namespace Sys2Proof.Proofs

open Sys2Proof Sys2Proof.Machine Sys2Proof.Safety Sys2Proof.Laws

/-- Settles O15: what every accepted frame leaves (`flueHeard`), then the frame's own effect. -/
theorem twinFramesComplete : Obligations.TwinFramesComplete := by
  unfold Obligations.TwinFramesComplete
  refine ⟨?image, ?first, ?fellow, ?relayOut, ?late, ?relayIn, ?nak, ?data, ?ctrl, ?discard, ?forward⟩
  case image =>
    intro n h p s hrun hrec hrole hsub hnone hparts
    have hbody : flueBody n ⟨h, .image p⟩ (flueHeard n ⟨h, .image p⟩ s) = onImage p (flueHeard n ⟨h, .image p⟩ s) :=
      if_pos (running_rickFull (flueHeard_running _ _ hrun))
    refine answers_frame hrun hrec rfl ?_
    rw [hbody, onImage_first (by simpa) (by simpa) (by simpa) hparts]
    simp
  case first =>
    intro n h p s hrun hrec hrole htwin hown
    have hbody : flueBody n ⟨h, .digest p⟩ (flueHeard n ⟨h, .digest p⟩ s) = onDigest p (flueHeard n ⟨h, .digest p⟩ s) :=
      if_pos (running_rickFull (flueHeard_running _ _ hrun))
    refine answers_frame hrun hrec rfl ?_
    rw [hbody, onDigest_first (by simpa) (by simpa) (by simpa)]
    simp
  case fellow =>
    intro n h own p k s hrun hrec hrole htwin hown htask hinst hout _
    have hbody : flueBody n ⟨h, .digest p⟩ (flueHeard n ⟨h, .digest p⟩ s) = onDigest p (flueHeard n ⟨h, .digest p⟩ s) :=
      if_pos (running_rickFull (flueHeard_running _ _ hrun))
    refine ⟨fun heq => ?_, fun hne => ?_⟩
    · refine answers_frame hrun hrec rfl ?_
      rw [hbody, onDigest_fellow (by simpa) (by simpa) (by simpa) htask hinst, compareDigests_agree (by simpa) hout heq]
      simp
    · refine answers_frame hrun hrec rfl ?_
      rw [hbody, onDigest_fellow (by simpa) (by simpa) (by simpa) htask hinst, compareDigests_differ (by simpa) hout hne]
      generalize hu : ({ flueHeard n ⟨h, .digest p⟩ s with fluq := { (flueHeard n ⟨h, .digest p⟩ s).fluq with own := [] } } : State) = u
      have hrole' : u.pair.role = .active := by rw [← hu]; simpa
      have hmem' : u.mem = s.mem := by rw [← hu]; simp
      obtain ⟨hflu, hactive, -⟩ := diverge_active (own := own) (p := p) hrole'
      have htold : bit (setBit u.flu.intStatus 2) 2 = true := bit_setBit_same _ (by decide)
      simp [hflu, hactive, htold, htask, hinst, hmem']
  case relayOut =>
    intro n h e f s hrun hrec hrole hfol hflag htime
    have hbody : flueBody n ⟨h, .relayOut [e]⟩ (flueHeard n ⟨h, .relayOut [e]⟩ s) = takeRelay (flueHeard n ⟨h, .relayOut [e]⟩ s) e :=
      (if_pos (running_rickFull (flueHeard_running _ _ hrun))).trans (if_pos ((flueHeard_role _ _ _).trans hrole))
    have hsame : relayTime (flueHeard n ⟨h, .relayOut [e]⟩ s) f.hdr.stamp e.toff.toNat = relayTime s f.hdr.stamp e.toff.toNat := by simp [relayTime]
    refine answers_frame hrun hrec rfl ?_
    rw [hbody, takeRelay_waits hfol hflag (by rw [hsame]; simpa), hsame]
    simp
  case late =>
    intro n k e s hrun hrelays hport
    exact congrArg finish ((if_pos (running_rickFull hrun)).trans (relayTransmit_late hrelays hport))
  case relayIn =>
    intro n h e g p s hrun hrec hrole hport hfol
    have hbody : flueBody n ⟨h, .relayIn [e]⟩ (flueHeard n ⟨h, .relayIn [e]⟩ s) = takeRelayIn n (flueHeard n ⟨h, .relayIn [e]⟩ s) e :=
      if_pos (running_rickFull (flueHeard_running _ _ hrun))
    have hend : myEnd (flueHeard n ⟨h, .relayIn [e]⟩ s) = myEnd s := by simp [myEnd, mySlot]
    refine congrArg finish ((flueRx_received hrun hrec).trans (hbody.trans ?_))
    rw [takeRelayIn_input (by simpa) hport hfol, hend]
  case nak =>
    intro n h p s hrun hrec hheld
    have hbody : flueBody n ⟨h, .nak p⟩ (flueHeard n ⟨h, .nak p⟩ s) = onNak n h.src p (flueHeard n ⟨h, .nak p⟩ s) := rfl
    refine answers_frame hrun hrec rfl ?_
    rw [hbody, onNak_empty (by simpa)]
    simp [laneOf_setLane, flueHeard_lane]
  case data =>
    intro n h p s hrun hrec hrole hsub hmarked
    have hbody : flueBody n ⟨h, .resyncData p⟩ (flueHeard n ⟨h, .resyncData p⟩ s) = onResyncData p (flueHeard n ⟨h, .resyncData p⟩ s) :=
      if_pos (running_rickFull (flueHeard_running _ _ hrun))
    have harmed (hphase : s.flu.resync.phase ≤ 1) : (settle (copied p (flueHeard n ⟨h, .resyncData p⟩ s))).pair.armed = false := by
      rw [settle_pair_loud (by rw [copied_sup, flueHeard_sup]; exact hrun.loud)]
      exact copied_armed (by simpa)
    refine answers_frame hrun hrec rfl ?_
    rw [hbody, onResyncData_copies (by simpa) (by simpa) (by simpa)]
    refine ⟨fun hwf => ?_, fun a ha => ?_, ?_, harmed⟩
    · rw [settle_mem, copied_mem, flueHeard_mem]
      exact readBytes_writeBytes hwf p.addr p.data
    · rw [settle_mem, copied_mem, flueHeard_mem]
      exact readByte_writeBytes_other s.mem p.data ha
    · rw [settle_flu, copied_phase, flueHeard_resync]
  case ctrl =>
    intro n h p q s hrun hrec hrole hp hphase hwait htrail
    have hbody : flueBody n ⟨h, .resyncCtrl p⟩ (flueHeard n ⟨h, .resyncCtrl p⟩ s) = onResyncCtrl p (flueHeard n ⟨h, .resyncCtrl p⟩ s) :=
      if_pos (running_rickFull (flueHeard_running _ _ hrun))
    refine answers_frame hrun hrec rfl ?_
    rw [hbody, onResyncCtrl_last (q := q) (by simpa) hp (by simpa) (by simpa) (by simpa)]
    simp [setResync]
  case discard =>
    intro n x s hrun hn hopen
    have hcrc : flueDiscard n .crc x s = laneCrc n s := by simp [flueDiscard, laneHears_open hrun hn hopen]
    exact finish_of_eq hcrc hrun.loud
  case forward =>
    intro f s hrun hslot hin hout hforwards hsrc hdst
    exact congrArg finish (slotCForward_all hrun hslot hin hout hforwards hsrc hdst)

end Sys2Proof.Proofs

/-! PROOF. The twin's timers, the lanes and the resync (03 R104 to R118). -/

namespace Sys2Proof.Laws

open Sys2Proof Sys2Proof.Machine Sys2Proof.Safety

-- the standby falls back ----------------------------------------------------------------------------------------------------

theorem enterResync_pair (byDiv : Bool) (s : State) : (enterResync byDiv s).pair = { s.pair with sub := .resync } := by
  simp [enterResync, fluInt, clearTwin]

theorem enterResync_flu (byDiv : Bool) (s : State) : (enterResync byDiv s).flu = { s.flu with
    syncTasks := 0, syncEvts := false, resync := { phase := 1, since := s.now, byDiv := byDiv }, intStatus := setBit s.flu.intStatus 0 } := by
  simp [enterResync, fluInt_flu, clearTwin]

theorem enterResync_own (byDiv : Bool) (s : State) : (enterResync byDiv s).fluq.own = [] := by simp [enterResync, fluInt, clearTwin]

/-- A standby in RESYNC phase 1, told by the interrupt bits 0 and `b`, epoch and memory kept. -/
def Fallen (b : Nat) (s t : State) : Prop := t.pair.role = .standby ∧ t.pair.sub = .resync ∧ t.flu.resync.phase = 1 ∧ t.flu.syncTasks = 0 ∧
  t.pair.epoch = s.pair.epoch ∧ bit t.flu.intStatus 0 = true ∧ t.mem = s.mem ∧ bit t.flu.intStatus b = true

/-- The interrupt, the fall and its event, as the four causes of the standby have them. -/
theorem enterResync_falls {b code : Nat} {s : State} (hrole : s.pair.role = .standby) (hb : b < 32) (hb0 : b ≠ 0) :
    Fallen b s (settle (post code 0x46 [] (enterResync false (fluInt b s)))) := by
  have hfirst (w : Word) : bit (setBit w 0) 0 = true := bit_setBit_same w (by decide)
  have hown (w : Word) : bit (setBit (setBit w b) 0) b = true := (bit_setBit_other _ hb0.symm).trans (bit_setBit_same w hb)
  simp [Fallen, enterResync_pair, enterResync_flu, fluInt_flu, hrole, hfirst, hown]

-- paths and lanes -----------------------------------------------------------------------------------------------------------

theorem endResync_lane (n : Nat) (s : State) : laneOf (endResync s).flu n = laneOf s.flu n := by
  unfold endResync
  split
  · rfl
  · split <;> rfl

/-- The path in use and its end of a resync touch no lane. -/
theorem setPath_lane (p n : Nat) (s : State) : laneOf (setPath p s).flu n = laneOf s.flu n := by
  unfold setPath
  dsimp only
  split
  · rfl
  · have hpath : laneOf (post 0x0204 0x46 (u8 s.flu.path ++ u8 p) (fluInt 5 { s with flu := { s.flu with path := p } })).flu n = laneOf s.flu n := by
      simp [fluInt_flu, laneOf]
    split
    · exact (endResync_lane n _).trans hpath
    · exact hpath

theorem choosePath_lane (n : Nat) (s : State) : laneOf (choosePath s).flu n = laneOf s.flu n := setPath_lane _ _ _

/-- A lane that was up goes down, counted. -/
theorem laneDown_up {n : Nat} {s : State} (hup : (laneOf s.flu n).up = true) :
    laneDown n s = choosePath { s with flu := setLane s.flu n { laneOf s.flu n with up := false, linkDown := satInc (laneOf s.flu n).linkDown } } := by
  simp [laneDown, hup]

theorem laneDown_lane {n : Nat} {s : State} (hup : (laneOf s.flu n).up = true) :
    laneOf (laneDown n s).flu n = { laneOf s.flu n with up := false, linkDown := satInc (laneOf s.flu n).linkDown } := by
  rw [laneDown_up hup, choosePath_lane]
  exact laneOf_setLane _ _ _

theorem blockLock_running {n : Nat} (locked : Bool) {s : State} (hrun : Running s) (hn : n < 2) :
    blockLock n locked s = if locked then { s with flu := setLane s.flu n { laneOf s.flu n with locked := true } }
      else laneDown n { s with flu := setLane (setLane s.flu n { laneOf s.flu n with locked := false }) n { laneOf s.flu n with locked := false, out := [] } } := by
  have hpass : (!rickLive s || decide (2 ≤ n) || isolated s (if n = 0 then 0x46 else 0x47)) = false := by
    simp [running_rickLive hrun, running_isolated hrun, hn]
  unfold blockLock
  rw [hpass, if_neg Bool.false_ne_true]
  cases locked
  · dsimp only
    rw [laneOf_setLane]
    rfl
  · rfl

end Sys2Proof.Laws

namespace Sys2Proof.Proofs

open Sys2Proof Sys2Proof.Machine Sys2Proof.Safety Sys2Proof.Laws

/-- Settles O16: the four causes fall into RESYNC by one lemma (`enterResync_falls`); the lanes by what a lane's end leaves (`laneDown_lane`). -/
theorem twinTimersComplete : Obligations.TwinTimersComplete := by
  unfold Obligations.TwinTimersComplete
  refine ⟨?image, ?instance_, ?digest, ?alignment, ?selfTest, ?locked, ?unlocked, ?down, ?back, ?bulk, ?converging, ?clear⟩
  case image =>
    intro k s hrun hrole htwin
    have hexec : exec (.imageLagTimeout k) s = finish (lagged s) :=
      congrArg finish (if_pos (by simp [running_rickFull hrun, hrole, htwin]))
    obtain ⟨hstandby, hsub, hphase, htasks, hepoch, hbit0, hmem, hbit⟩ := enterResync_falls (b := 4) (code := 0x0203) hrole (by decide) (by decide)
    exact answers_settled hexec ⟨⟨hstandby, hsub, hphase, htasks, hepoch, hbit0, hmem⟩, hbit⟩
  case instance_ =>
    intro k s hrun hrole hflight hpartner
    have hexec : exec (.instanceLagTimeout k) s = finish (lagged s) :=
      congrArg finish (if_pos (by simp [running_rickFull hrun, hrole, hflight, hpartner]))
    obtain ⟨hstandby, hsub, hphase, htasks, hepoch, hbit0, hmem, hbit⟩ := enterResync_falls (b := 4) (code := 0x0203) hrole (by decide) (by decide)
    exact answers_settled hexec ⟨⟨hstandby, hsub, hphase, htasks, hepoch, hbit0, hmem⟩, hbit⟩
  case digest =>
    intro d s hrun hrole hown hmissed
    let u : State := { s with fluq := { s.fluq with own := [], missed := s.fluq.missed + 1 } }
    have hlate : digestMissed d.p.task s = post 0x0202 0x46 [] (enterResync false (fluInt 3 u)) := by
      have hlimit : missMax u ≤ s.fluq.missed + 1 := hmissed
      simp [digestMissed, hown, hrole, u] at hlimit ⊢
      simp [hlimit]
    have hexec : exec (.digestMissed d.p.task) s = finish (post 0x0202 0x46 [] (enterResync false (fluInt 3 u))) :=
      congrArg finish ((if_pos (running_rickFull hrun)).trans hlate)
    obtain ⟨hstandby, hsub, hphase, htasks, hepoch, hbit0, hmem, hbit⟩ :=
      enterResync_falls (s := u) (b := 3) (code := 0x0202) hrole (by decide) (by decide)
    exact answers_settled hexec ⟨⟨hstandby, hsub, hphase, htasks, hepoch, hbit0, hmem⟩, hbit, by rw [settle_fluq, post_fluq, enterResync_own]⟩
  case alignment =>
    intro s hrun hrole hsync
    have hexec : exec .alignmentLost s = finish (post 0x0209 0x46 [] (enterResync false (fluInt 7 s))) :=
      congrArg finish (if_pos (by simp [running_rickFull hrun, hrole, hsync]))
    obtain ⟨hstandby, hsub, hphase, htasks, hepoch, hbit0, hmem, hbit⟩ := enterResync_falls (b := 7) (code := 0x0209) hrole (by decide) (by decide)
    exact answers_settled hexec ⟨⟨hstandby, hsub, hphase, htasks, hepoch, hbit0, hmem⟩, hbit⟩
  case selfTest =>
    intro k s hrun hsince
    refine congrArg finish ((if_pos (running_runtimeLive hrun)).trans ?_)
    simp only [selfTestDone, hsince, Option.isNone_some, Bool.false_eq_true, if_false, if_true]
    rfl
  case locked =>
    intro n s hrun hn
    exact finish_of_eq ((blockLock_running true hrun hn).trans (if_pos rfl)) hrun.loud
  case unlocked =>
    intro n s hrun hn hup
    let u : State := { s with flu := setLane (setLane s.flu n { laneOf s.flu n with locked := false }) n { laneOf s.flu n with locked := false, out := [] } }
    have hlane : laneOf u.flu n = { laneOf s.flu n with locked := false, out := [] } := laneOf_setLane _ _ _
    have hdown := laneDown_lane (s := u) (n := n) (by rw [hlane]; exact hup)
    have hloud : (laneDown n u).sup.failSilent = false := by simpa [u] using hrun.loud
    have hpair : (laneDown n u).pair = s.pair := by simp [u]
    have hmem : (laneDown n u).mem = s.mem := by simp [u]
    refine answers_of_finish (u := laneDown n u) (congrArg finish (blockLock_running false hrun hn)) hloud ?_
    rw [hlane] at hdown
    exact ⟨by rw [hdown], by rw [hdown], by rw [hdown], by rw [hdown], hpair, hmem⟩
  case down =>
    intro n s hrun hn hup
    have hdown := laneDown_lane hup
    have hloud : (laneDown n s).sup.failSilent = false := by simpa using hrun.loud
    have hpair : (laneDown n s).pair = s.pair := by simp
    have hmem : (laneDown n s).mem = s.mem := by simp
    refine answers_of_finish (u := laneDown n s) (congrArg finish (if_pos (by simp [running_rickLive hrun, hn]))) hloud ?_
    exact ⟨by rw [hdown], by rw [hdown], by rw [hdown], hpair, hmem⟩
  case back =>
    intro s hrun hslot hpath hsel hup hsince
    have hreturn : pairReturn s = setPath 1 s :=
      if_pos (by simp [running_rickLive hrun, hslot, hpath, hsel, hup, hsince])
    refine congrArg finish (hreturn.trans ?_)
    simp only [setPath, hpath]
    rfl
  case bulk =>
    intro s hrole hphase hpages
    exact congrArg finish (if_pos ⟨hrole, hphase, by rw [hpages]; rfl⟩)
  case converging =>
    intro s hrole hphase htold
    exact congrArg finish (if_pos ⟨hrole, hphase, by rw [htold]; rfl⟩)
  case clear =>
    intro level s hrun clear
    exact ⟨finish_of_eq (if_pos (running_rickLive hrun)) hrun.loud, finish_of_eq (if_pos (running_rickLive hrun)) hrun.loud⟩

end Sys2Proof.Proofs

/-! PROOF. Instances of tasks (04 R147 to R157): latches, commits, traps and deadlines. -/

namespace Sys2Proof.Laws

open Sys2Proof Sys2Proof.Machine Sys2Proof.Safety

@[simp] theorem foldl_tim {α : Type} {f : State → α → State} (hf : ∀ s x, (f s x).tim = s.tim) (xs : List α) (s : State) :
    (xs.foldl f s).tim = s.tim := by
  induction xs generalizing s with
  | nil => rfl
  | cons x xs ih => exact (ih _).trans (hf s x)
@[simp] theorem isolateEffects_pair_role (block : Byte) (s : State) : (isolateEffects block s).pair.role = s.pair.role := by
  unfold isolateEffects; simp
@[simp] theorem cycInt_run_now_tim_pair_role (b : Nat) (s : State) :
    (cycInt b s).run = s.run ∧ (cycInt b s).now = s.now ∧ (cycInt b s).tim = s.tim ∧ (cycInt b s).pair.role = s.pair.role := by
  unfold cycInt; simp
@[simp] theorem laneSend_tim_pair_role (n : Nat) (f : FlueFrame) (s : State) :
    (laneSend n f s).tim = s.tim ∧ (laneSend n f s).pair.role = s.pair.role := by
  refine ⟨?_, ?_⟩ <;> (unfold laneSend; rfl)
@[simp] theorem sendFlueF_tim_pair_role (flags : Byte) (dst : Option Slot) (body : FlueBody) (s : State) :
    (sendFlueF flags dst body s).tim = s.tim ∧ (sendFlueF flags dst body s).pair.role = s.pair.role := by
  unfold sendFlueF; simp
@[simp] theorem sendFlue_tim_pair_role (dst : Option Slot) (body : FlueBody) (s : State) :
    (sendFlue dst body s).tim = s.tim ∧ (sendFlue dst body s).pair.role = s.pair.role := by
  unfold sendFlue; simp
@[simp] theorem sendTwin_tim_pair_role (body : FlueBody) (s : State) :
    (sendTwin body s).tim = s.tim ∧ (sendTwin body s).pair.role = s.pair.role := by
  unfold sendTwin; split <;> simp
@[simp] theorem placeRel_run_now_tim_pair_role (c op task : Nat) (s : State) :
    (placeRel c op task s).run = s.run ∧ (placeRel c op task s).now = s.now ∧ (placeRel c op task s).tim = s.tim ∧ (placeRel c op task s).pair.role = s.pair.role := by
  refine ⟨?_, ?_, ?_, ?_⟩ <;> (unfold placeRel; rfl)
@[simp] theorem respond_run_now_tim_pair_role (c : Client) (op : Byte) (arg : Nat) (data : List Byte) (s : State) :
    (respond c op arg data s).run = s.run ∧ (respond c op arg data s).now = s.now ∧ (respond c op arg data s).tim = s.tim ∧ (respond c op arg data s).pair.role = s.pair.role := by
  refine ⟨?_, ?_, ?_, ?_⟩ <;> (unfold respond; rfl)
@[simp] theorem cfgDraw_now_tim_pair_role (s : State) :
    (cfgDraw s).now = s.now ∧ (cfgDraw s).tim = s.tim ∧ (cfgDraw s).pair.role = s.pair.role := by
  refine ⟨?_, ?_, ?_⟩ <;> (unfold cfgDraw; rfl)
@[simp] theorem markRange_run_now_tim_pair_role (a len : Nat) (s : State) :
    (markRange a len s).run = s.run ∧ (markRange a len s).now = s.now ∧ (markRange a len s).tim = s.tim ∧ (markRange a len s).pair.role = s.pair.role := by
  refine ⟨?_, ?_, ?_, ?_⟩ <;> (unfold markRange; rfl)
@[simp] theorem setTask_now_tim_pair_role (t : Nat) (f : Task → Task) (s : State) :
    (setTask t f s).now = s.now ∧ (setTask t f s).tim = s.tim ∧ (setTask t f s).pair.role = s.pair.role := by
  refine ⟨?_, ?_, ?_⟩ <;> (unfold setTask; rfl)
@[simp] theorem applyForces_now_tim_pair_role (t : Nat) (sel : Sym → Bool) (s : State) :
    (applyForces t sel s).now = s.now ∧ (applyForces t sel s).tim = s.tim ∧ (applyForces t sel s).pair.role = s.pair.role := by
  unfold applyForces; split <;> simp
@[simp] theorem reinitTask_now_tim_pair_role (t : Nat) (s : State) :
    (reinitTask t s).now = s.now ∧ (reinitTask t s).tim = s.tim ∧ (reinitTask t s).pair.role = s.pair.role := by
  unfold reinitTask; split <;> simp
@[simp] theorem skipInstance_now_tim_pair_role (t : Nat) (s : State) :
    (skipInstance t s).now = s.now ∧ (skipInstance t s).tim = s.tim ∧ (skipInstance t s).pair.role = s.pair.role := by
  unfold skipInstance; simp
@[simp] theorem release_now_tim_pair_role (t origin inst : Nat) (s : State) :
    (release t origin inst s).now = s.now ∧ (release t origin inst s).tim = s.tim ∧ (release t origin inst s).pair.role = s.pair.role := by
  unfold release; simp
@[simp] theorem carryWrites_run_now_tim_pair_role (t : Nat) (s : State) :
    (carryWrites t s).run = s.run ∧ (carryWrites t s).now = s.now ∧ (carryWrites t s).tim = s.tim ∧ (carryWrites t s).pair.role = s.pair.role := by
  refine ⟨?_, ?_, ?_, ?_⟩ <;> (unfold carryWrites; rfl)
@[simp] theorem dropForce_run_now_tim_pair_role (id : Word) (s : State) :
    (dropForce id s).run = s.run ∧ (dropForce id s).now = s.now ∧ (dropForce id s).tim = s.tim ∧ (dropForce id s).pair.role = s.pair.role := by
  refine ⟨?_, ?_, ?_, ?_⟩ <;> (unfold dropForce; rfl)
@[simp] theorem forceWrite_run_now_tim_pair_role (sub : Nat) (v : List Byte) (s : State) :
    (forceWrite sub v s).run = s.run ∧ (forceWrite sub v s).now = s.now ∧ (forceWrite sub v s).tim = s.tim ∧ (forceWrite sub v s).pair.role = s.pair.role := by
  unfold forceWrite; split <;> simp
@[simp] theorem writeVar_now_tim_pair_role (t : Nat) (id : Word) (elem : Nat) (v : List Byte) (s : State) :
    (writeVar t id elem v s).now = s.now ∧ (writeVar t id elem v s).tim = s.tim ∧ (writeVar t id elem v s).pair.role = s.pair.role := by
  unfold writeVar; split <;> simp
@[simp] theorem takeWrite_now_tim_pair_role (t : Nat) (w : ProgW) (s : State) :
    (takeWrite t w s).now = s.now ∧ (takeWrite t w s).tim = s.tim ∧ (takeWrite t w s).pair.role = s.pair.role := by
  unfold takeWrite; (repeat' split) <;> simp
@[simp] theorem takeWrites_now_tim_pair_role (t : Nat) (s : State) :
    (takeWrites t s).now = s.now ∧ (takeWrites t s).tim = s.tim ∧ (takeWrites t s).pair.role = s.pair.role := by
  unfold takeWrites; simp
@[simp] theorem sendImage_run_now_tim_pair_role (t inst : Nat) (body : List Byte) (s : State) :
    (sendImage t inst body s).run = s.run ∧ (sendImage t inst body s).now = s.now ∧ (sendImage t inst body s).tim = s.tim ∧ (sendImage t inst body s).pair.role = s.pair.role := by
  unfold sendImage; simp
@[simp] theorem evalTriggers_now_tim_pair_role (t : Nat) (s : State) :
    (evalTriggers t s).1.now = s.now ∧ (evalTriggers t s).1.tim = s.tim ∧ (evalTriggers t s).1.pair.role = s.pair.role := by
  refine ⟨?_, ?_, ?_⟩ <;> (unfold evalTriggers; rfl)
@[simp] theorem copyTrigger_run_now_tim_pair_role (e : Nat) (s : State) :
    (copyTrigger e s).run = s.run ∧ (copyTrigger e s).now = s.now ∧ (copyTrigger e s).tim = s.tim ∧ (copyTrigger e s).pair.role = s.pair.role := by
  refine ⟨?_, ?_, ?_, ?_⟩ <;> (unfold copyTrigger; rfl)
@[simp] theorem copyExchange_run_now_tim_pair_role (t : Nat) (s : State) (x : Nat × Nat × Nat) :
    (copyExchange t s x).run = s.run ∧ (copyExchange t s x).now = s.now ∧ (copyExchange t s x).tim = s.tim ∧ (copyExchange t s x).pair.role = s.pair.role := by
  unfold copyExchange; simp
@[simp] theorem copyExchanges_run_now_tim_pair_role (t : Nat) (s : State) :
    (copyExchanges t s).run = s.run ∧ (copyExchanges t s).now = s.now ∧ (copyExchanges t s).tim = s.tim ∧ (copyExchanges t s).pair.role = s.pair.role := by
  unfold copyExchanges; simp
@[simp] theorem releaseEvent_now_tim_pair_role (t : Nat) (s : State) :
    (releaseEvent t s).now = s.now ∧ (releaseEvent t s).tim = s.tim ∧ (releaseEvent t s).pair.role = s.pair.role := by
  unfold releaseEvent; simp
@[simp] theorem audInt_run_now_tim_pair_role (b : Nat) (s : State) :
    (audInt b s).run = s.run ∧ (audInt b s).now = s.now ∧ (audInt b s).tim = s.tim ∧ (audInt b s).pair.role = s.pair.role := by
  refine ⟨?_, ?_, ?_, ?_⟩ <;> (unfold audInt; rfl)
@[simp] theorem cordPost_run_now_tim_pair_role (code : Nat) (data : List Byte) (s : State) :
    (cordPost code data s).run = s.run ∧ (cordPost code data s).now = s.now ∧ (cordPost code data s).tim = s.tim ∧ (cordPost code data s).pair.role = s.pair.role := by
  unfold cordPost; simp
@[simp] theorem audWrite_run_now_tim (stage : List Byte) (mramOk : Bool) (s : State) :
    (audWrite stage mramOk s).1.run = s.run ∧ (audWrite stage mramOk s).1.now = s.now ∧ (audWrite stage mramOk s).1.tim = s.tim := by
  unfold audWrite; dsimp only; (repeat' split) <;> simp
@[simp] theorem audLevels_run_now_tim (before : Nat) (s : State) :
    (audLevels before s).run = s.run ∧ (audLevels before s).now = s.now ∧ (audLevels before s).tim = s.tim := by
  unfold audLevels; simp
@[simp] theorem cordAppend_run_now_tim (kind ch index sub typ old new actor : Nat) (s : State) :
    (cordAppend kind ch index sub typ old new actor s).1.run = s.run ∧ (cordAppend kind ch index sub typ old new actor s).1.now = s.now ∧ (cordAppend kind ch index sub typ old new actor s).1.tim = s.tim := by
  unfold cordAppend; split <;> simp
@[simp] theorem putUnit_run_now_tim_pair_role (a : Nat) (body : List Byte) (s : State) :
    (putUnit a body s).run = s.run ∧ (putUnit a body s).now = s.now ∧ (putUnit a body s).tim = s.tim ∧ (putUnit a body s).pair.role = s.pair.role := by
  refine ⟨?_, ?_, ?_, ?_⟩ <;> (unfold putUnit; rfl)
@[simp] theorem sclInt_run_now_tim_pair_role (b : Nat) (s : State) :
    (sclInt b s).run = s.run ∧ (sclInt b s).now = s.now ∧ (sclInt b s).tim = s.tim ∧ (sclInt b s).pair.role = s.pair.role := by
  refine ⟨?_, ?_, ?_, ?_⟩ <;> (unfold sclInt; rfl)
@[simp] theorem putCh_run_now_tim_pair_role (p : Nat) (c : ScCh) (s : State) :
    (putCh p c s).run = s.run ∧ (putCh p c s).now = s.now ∧ (putCh p c s).tim = s.tim ∧ (putCh p c s).pair.role = s.pair.role := by
  refine ⟨?_, ?_, ?_, ?_⟩ <;> (unfold putCh; rfl)
@[simp] theorem mapRecords_run_now_tim_pair_role (t : Nat) (s : State) :
    (mapRecords t s).run = s.run ∧ (mapRecords t s).now = s.now ∧ (mapRecords t s).tim = s.tim ∧ (mapRecords t s).pair.role = s.pair.role := by
  unfold mapRecords; simp
@[simp] theorem putStatus_run_now_tim_pair_role (n p : Nat) (s : State) :
    (putStatus n p s).run = s.run ∧ (putStatus n p s).now = s.now ∧ (putStatus n p s).tim = s.tim ∧ (putStatus n p s).pair.role = s.pair.role := by
  unfold putStatus; simp
@[simp] theorem putRecord_run_now_tim_pair_role (n : Nat) (r : List Byte) (s : State) :
    (putRecord n r s).run = s.run ∧ (putRecord n r s).now = s.now ∧ (putRecord n r s).tim = s.tim ∧ (putRecord n r s).pair.role = s.pair.role := by
  unfold putRecord; simp
@[simp] theorem spareMove_run_now_tim (n p : Nat) (s : State) :
    (spareMove n p s).run = s.run ∧ (spareMove n p s).now = s.now ∧ (spareMove n p s).tim = s.tim := by
  unfold spareMove; dsimp only; (repeat' split) <;> simp
@[simp] theorem selfCheckFailed_run_now_tim (n p : Nat) (s : State) :
    (selfCheckFailed n p s).run = s.run ∧ (selfCheckFailed n p s).now = s.now ∧ (selfCheckFailed n p s).tim = s.tim := by
  unfold selfCheckFailed; simp
@[simp] theorem takeOut_run_now_tim (n p : Nat) (soft keyed : Bool) (o : ScOut) (s : State) :
    (takeOut n p soft keyed o s).run = s.run ∧ (takeOut n p soft keyed o s).now = s.now ∧ (takeOut n p soft keyed o s).tim = s.tim := by
  unfold takeOut; simp
@[simp] theorem handChannel_run_now_tim (tag : Nat) (time : DWord) (n : Nat) (s : State) :
    (handChannel tag time n s).run = s.run ∧ (handChannel tag time n s).now = s.now ∧ (handChannel tag time n s).tim = s.tim := by
  unfold handChannel; split <;> simp
@[simp] theorem beginTwin_run_now_tim_pair_role (t : Nat) (s : State) :
    (beginTwin t s).run = s.run ∧ (beginTwin t s).now = s.now ∧ (beginTwin t s).tim = s.tim ∧ (beginTwin t s).pair.role = s.pair.role := by
  unfold beginTwin; simp
@[simp] theorem latchPages_run_now_tim_pair_role (t : Nat) (s : State) :
    (latchPages t s).run = s.run ∧ (latchPages t s).now = s.now ∧ (latchPages t s).tim = s.tim ∧ (latchPages t s).pair.role = s.pair.role := by
  unfold latchPages; simp
@[simp] theorem foldl_cyc_cntOvr {α : Type} {f : State → α → State} (hf : ∀ s x, (f s x).cyc.cntOvr = s.cyc.cntOvr) (xs : List α) (s : State) :
    (xs.foldl f s).cyc.cntOvr = s.cyc.cntOvr := by
  induction xs generalizing s with
  | nil => rfl
  | cons x xs ih => exact (ih _).trans (hf s x)
@[simp] theorem ite_cyc_cntOvr (c : Prop) [Decidable c] (s t : State) : (if c then s else t).cyc.cntOvr = if c then s.cyc.cntOvr else t.cyc.cntOvr := by
  split <;> rfl
@[simp] theorem ite_unit_cyc_cntOvr (c : Prop) [Decidable c] (a b : Cyc) : (if c then a else b).cntOvr = if c then a.cntOvr else b.cntOvr := by
  split <;> rfl
@[simp] theorem foldl_cyc_intStatus {α : Type} {f : State → α → State} (hf : ∀ s x, (f s x).cyc.intStatus = s.cyc.intStatus) (xs : List α) (s : State) :
    (xs.foldl f s).cyc.intStatus = s.cyc.intStatus := by
  induction xs generalizing s with
  | nil => rfl
  | cons x xs ih => exact (ih _).trans (hf s x)
@[simp] theorem ite_cyc_intStatus (c : Prop) [Decidable c] (s t : State) : (if c then s else t).cyc.intStatus = if c then s.cyc.intStatus else t.cyc.intStatus := by
  split <;> rfl
@[simp] theorem ite_unit_cyc_intStatus (c : Prop) [Decidable c] (a b : Cyc) : (if c then a else b).intStatus = if c then a.intStatus else b.intStatus := by
  split <;> rfl
@[simp] theorem fluInt_run (b : Nat) (s : State) : (fluInt b s).run = s.run := by
  unfold fluInt; simp
@[simp] theorem cycInt_cyc_taskFault_cyc_cntOvr (b : Nat) (s : State) :
    (cycInt b s).cyc.taskFault = s.cyc.taskFault ∧ (cycInt b s).cyc.cntOvr = s.cyc.cntOvr := by
  unfold cycInt; simp
@[simp] theorem jrnCommit_run_cyc (task inst : Nat) (ds : List Delta) (s : State) :
    (jrnCommit task inst ds s).run = s.run ∧ (jrnCommit task inst ds s).cyc = s.cyc := by
  unfold jrnCommit; simp
@[simp] theorem markRange_cyc (a len : Nat) (s : State) : (markRange a len s).cyc = s.cyc := by
  unfold markRange; rfl
@[simp] theorem stopThreads_run (t : Nat) (cores : BitVec 8) (s : State) : (stopThreads t cores s).run = s.run := by
  unfold stopThreads; simp
@[simp] theorem reEnable_run_cyc (g : Nat) (s : State) :
    (reEnable g s).run = s.run ∧ (reEnable g s).cyc = s.cyc := by
  unfold reEnable; simp
@[simp] theorem reEnables_run_cyc (mask : Nat) (s : State) :
    (reEnables mask s).run = s.run ∧ (reEnables mask s).cyc = s.cyc := by
  unfold reEnables; simp
@[simp] theorem lioCommit_run_cyc (t : Nat) (s : State) :
    (lioCommit t s).run = s.run ∧ (lioCommit t s).cyc = s.cyc := by
  unfold lioCommit; simp
@[simp] theorem putUnit_cyc (a : Nat) (body : List Byte) (s : State) : (putUnit a body s).cyc = s.cyc := by
  unfold putUnit; rfl
@[simp] theorem putCh_cyc (p : Nat) (c : ScCh) (s : State) : (putCh p c s).cyc = s.cyc := by
  unfold putCh; rfl
@[simp] theorem putStatus_cyc (n p : Nat) (s : State) : (putStatus n p s).cyc = s.cyc := by
  unfold putStatus; simp
@[simp] theorem takeSlot_run_cyc (n : Nat) (k : ScaleCmd) (s : State) :
    (takeSlot n k s).run = s.run ∧ (takeSlot n k s).cyc = s.cyc := by
  unfold takeSlot; (repeat' split) <;> simp
@[simp] theorem handSlots_run_cyc (t tag : Nat) (s : State) :
    (handSlots t tag s).run = s.run ∧ (handSlots t tag s).cyc = s.cyc := by
  unfold handSlots; simp
@[simp] theorem endChange_run (st : ChgSt) (code : Nat) (s : State) : (endChange st code s).run = s.run := by
  unfold endChange; simp
@[simp] theorem restoreMasks_run_cyc_taskFault_cyc_cntOvr_cyc_intStatus (s : State) :
    (restoreMasks s).run = s.run ∧ (restoreMasks s).cyc.taskFault = s.cyc.taskFault ∧ (restoreMasks s).cyc.cntOvr = s.cyc.cntOvr ∧ (restoreMasks s).cyc.intStatus = s.cyc.intStatus := by
  refine ⟨?_, ?_, ?_, ?_⟩ <;> (unfold restoreMasks; rfl)
@[simp] theorem postpone_run_cyc_taskFault_cyc_cntOvr_cyc_intStatus (s : State) :
    (postpone s).run = s.run ∧ (postpone s).cyc.taskFault = s.cyc.taskFault ∧ (postpone s).cyc.cntOvr = s.cyc.cntOvr ∧ (postpone s).cyc.intStatus = s.cyc.intStatus := by
  unfold postpone; simp
@[simp] theorem tryQuiesce_run_cyc_taskFault_cyc_cntOvr_cyc_intStatus (s : State) :
    (tryQuiesce s).run = s.run ∧ (tryQuiesce s).cyc.taskFault = s.cyc.taskFault ∧ (tryQuiesce s).cyc.cntOvr = s.cyc.cntOvr ∧ (tryQuiesce s).cyc.intStatus = s.cyc.intStatus := by
  unfold tryQuiesce; simp
@[simp] theorem setPort_run (n : Nat) (f : Port → Port) (s : State) : (setPort n f s).run = s.run := by
  unfold setPort; rfl
@[simp] theorem portSend_run (n : Nat) (f : FolFrame) (s : State) : (portSend n f s).run = s.run := by
  unfold portSend; simp
@[simp] theorem emitStations_run (n flags oflags : Nat) (xs : List Station) (s : State) : (emitStations n flags oflags xs s).run = s.run := by
  unfold emitStations; split <;> simp
@[simp] theorem emitCommit_run_cyc (t : Nat) (s : State) :
    (emitCommit t s).run = s.run ∧ (emitCommit t s).cyc = s.cyc := by
  unfold emitCommit; simp
@[simp] theorem noteDivergence_run_cyc (own peer : DigestP) (s : State) :
    (noteDivergence own peer s).run = s.run ∧ (noteDivergence own peer s).cyc = s.cyc := by
  unfold noteDivergence; simp
@[simp] theorem handCommit_cyc (t : Nat) (s : State) : (handCommit t s).cyc = s.cyc := by
  unfold handCommit; simp
@[simp] theorem sendPage_run (s : State) (p : Nat) : (sendPage s p).run = s.run := by
  unfold sendPage; simp
@[simp] theorem sendPages_run (ps : List Nat) (s : State) : (sendPages ps s).run = s.run := by
  unfold sendPages; simp
@[simp] theorem setResync_run (f : Resync → Resync) (s : State) : (setResync f s).run = s.run := by
  unfold setResync; rfl
@[simp] theorem markSet_run (task : Nat) (s : State) : (markSet task s).run = s.run := by
  unfold markSet; simp
@[simp] theorem trailTask_run_cyc (t : Nat) (s : State) :
    (trailTask t s).run = s.run ∧ (trailTask t s).cyc = s.cyc := by
  unfold trailTask; simp
@[simp] theorem checkRunning_run_cyc_taskFault_cyc_cntOvr (s : State) :
    (checkRunning s).run = s.run ∧ (checkRunning s).cyc.taskFault = s.cyc.taskFault ∧ (checkRunning s).cyc.cntOvr = s.cyc.cntOvr := by
  unfold checkRunning; simp
@[simp] theorem commitPages_run_cyc (t : Nat) (s : State) :
    (commitPages t s).run = s.run ∧ (commitPages t s).cyc = s.cyc := by
  unfold commitPages; simp

-- the table of tasks --------------------------------------------------------------------------------------------------------

theorem taskOf_setTask {t : Nat} {s : State} (h : t < s.run.tasks.length) (f : Task → Task) : taskOf (setTask t f s) t = f (taskOf s t) :=
  (getD_modAt ..).trans (if_pos ⟨rfl, h⟩)

theorem taskOf_setTask_other {t e : Nat} (h : e ≠ t) (f : Task → Task) (s : State) : taskOf (setTask e f s) t = taskOf s t :=
  (getD_modAt ..).trans (if_neg fun hboth => h hboth.1.symm)

theorem setTask_length (t : Nat) (f : Task → Task) (s : State) : (setTask t f s).run.tasks.length = s.run.tasks.length := length_modAt ..

theorem taskOf_congr {s u : State} (h : u.run = s.run) (t : Nat) : taskOf u t = taskOf s t := by rw [taskOf, h, taskOf]

-- what the end of a run leaves at the ACTIVE ----------------------------------------------------------------------------

/-- An ACTIVE module, with the tasks of `s`. -/
def TasksKept (s u : State) : Prop := u.pair.role = .active ∧ u.run = s.run

theorem compareDigests_active {own p : DigestP} {s : State} (hrole : s.pair.role = .active) :
    TasksKept s (compareDigests own p s) ∧ (compareDigests own p s).cyc = s.cyc := by
  have hdiverge : TasksKept s (diverge own p s) ∧ (diverge own p s).cyc = s.cyc := by
    have hnoted : (noteDivergence own p s).pair.role = .active := by simpa [noteDivergence] using hrole
    have hcyc : (noteDivergence own p s).cyc = s.cyc := by simp [noteDivergence]
    have hrun : (noteDivergence own p s).run = s.run := by simp
    unfold diverge
    generalize noteDivergence own p s = u at *
    simp [TasksKept, hnoted, hcyc, hrun, clearTwin]
  have hself : TasksKept s s := ⟨hrole, rfl⟩
  have hagree : TasksKept s (agree s) ∧ (agree s).cyc = s.cyc := by
    have hnot : ¬ s.pair.role = .standby := by simp [hrole]
    simp [TasksKept, agree, becomeSynchronised, hrole]
  unfold compareDigests
  rw [if_neg (by simp [hrole])]
  split
  · exact ⟨hself, rfl⟩
  · split
    · exact hagree
    · exact hdiverge

theorem settleDigests_active {s : State} (hrole : s.pair.role = .active) : TasksKept s (settleDigests s) ∧ (settleDigests s).cyc = s.cyc := by
  unfold settleDigests
  refine List.foldlRecOn s.fluq.own _ (motive := fun u => TasksKept s u ∧ u.cyc = s.cyc) ⟨⟨hrole, rfl⟩, rfl⟩ fun u hu d _ => ?_
  obtain ⟨⟨hrole', hrun⟩, hcyc⟩ := hu
  have hsame : TasksKept s u ∧ u.cyc = s.cyc := ⟨⟨hrole', hrun⟩, hcyc⟩
  dsimp only
  split
  · split
    · exact ⟨⟨(compareDigests_active (by exact hrole')).1.1, (compareDigests_active (by exact hrole')).1.2.trans hrun⟩,
        (compareDigests_active (by exact hrole')).2.trans hcyc⟩
    · exact hsame
  · exact hsame

/-- The end of a run of a cyclic task keeps the tasks, their faults and the cycle engine's counts. -/
theorem afterEnd_active {t : Nat} {s : State} (ht : t < 16) (hrole : s.pair.role = .active) :
    TasksKept s (afterEnd t s) ∧ (afterEnd t s).cyc.taskFault = s.cyc.taskFault ∧ (afterEnd t s).cyc.cntOvr = s.cyc.cntOvr ∧
      (afterEnd t s).cyc.intStatus = s.cyc.intStatus := by
  obtain ⟨⟨hrole', hrun⟩, hcyc⟩ := settleDigests_active hrole
  have hpending (u : State) : releasePending t u = u := if_neg (fun h => absurd h.1 (by omega))
  have hstandby (u : State) (h : u.pair.role = .active) : ¬ u.pair.role = .standby := by simp [h]
  unfold afterEnd TasksKept
  dsimp only
  rw [hpending, if_neg (hstandby _ (by simpa using hrole'))]
  simp [hrole', hrun, hcyc]

-- instances that end in a fault ------------------------------------------------------------------------------------------------

/-- A run ended with outcome 3, whose task has its overruns still; at policy FAULT the task is faulted. -/
def EndedFaulted (t : Nat) (pol : Nat) (s u : State) : Prop :=
  u.pair.role = .active ∧ (taskOf u t).inFlight = false ∧ (taskOf u t).outcome = 3 ∧ (taskOf u t).threads = 0 ∧
  (taskOf u t).overruns = (taskOf s t).overruns ∧ u.cyc.cntOvr = s.cyc.cntOvr ∧
  (∀ b, bit s.cyc.intStatus b = true → bit u.cyc.intStatus b = true) ∧
  (2 ≤ pol → (taskOf u t).st = 5 ∧ bit u.cyc.taskFault t = true)

/-- A task whose run ended with outcome 3 at `now`. -/
def endedTask (now : Nat) (k : Task) : Task := { k with
  inFlight := false, threads := 0, trapped := false, poison := false, outcome := 3, st := if k.st = 5 then 5 else 1
  lastExec := BitVec.ofNat 32 (now - k.relAt), maxExec := BitVec.ofNat 32 (max k.maxExec.toNat (now - k.relAt))
  pds := [], partner := none, handWait := false, extended := false, missed := false, skipRun := 0 }

theorem endFaulted_run (t : Nat) (s : State) : (endFaulted t s).run = (setTask t (endedTask s.now) s).run := by
  unfold endFaulted
  dsimp only
  split
  · simp only [sendTwin_cyc_run_mnt_holders, setTask]
    rfl
  · rfl

theorem endFaulted_task {t : Nat} {s : State} (h : t < s.run.tasks.length) : taskOf (endFaulted t s) t = endedTask s.now (taskOf s t) :=
  (taskOf_congr (endFaulted_run t s) t).trans (taskOf_setTask h _)

theorem endFaulted_cyc (t : Nat) (s : State) : (endFaulted t s).cyc = s.cyc := by
  unfold endFaulted
  dsimp only
  split
  · simp
  · rfl

theorem endFaulted_role (t : Nat) (s : State) : (endFaulted t s).pair.role = s.pair.role := by
  unfold endFaulted
  dsimp only
  split
  · simp
  · rfl

theorem faultTask_run (t cause : Nat) (s : State) : (faultTask t cause s).run = (setTask t (fun k => { k with st := 5, reinit := true }) s).run := by
  simp [faultTask, setTask]

theorem faultTask_taskFault {t : Nat} (cause : Nat) {s : State} (h : t < 16) : (faultTask t cause s).cyc.taskFault = setBit s.cyc.taskFault t := by
  simp [faultTask, setTask, h]

theorem faultTask_cntOvr (t cause : Nat) (s : State) : (faultTask t cause s).cyc.cntOvr = s.cyc.cntOvr := by
  unfold faultTask
  split <;> simp

theorem cycInt_intStatus (b : Nat) (s : State) : (cycInt b s).cyc.intStatus = setBit s.cyc.intStatus b := by simp [cycInt]

theorem faultTask_intStatus (t cause : Nat) (s : State) : (faultTask t cause s).cyc.intStatus = setBit s.cyc.intStatus 3 := by
  simp only [faultTask, post_cyc, cycInt_intStatus, setTask]
  split <;> rfl

theorem bit_setBit_mono {n : Nat} {w : BitVec n} (i : Nat) {b : Nat} (h : bit w b = true) : bit (setBit w i) b = true := by
  by_cases hi : i = b
  · subst hi
    have hlt : i < n := by
      by_contra hge
      simp [bit, Nat.testBit_lt_two_pow (Nat.lt_of_lt_of_le w.isLt (Nat.pow_le_pow_right (by decide) (Nat.not_lt.mp hge)))] at h
    exact bit_setBit_same w hlt
  · exact (bit_setBit_other w hi).trans h

/-- The end of a faulted run, of a task that policy FAULT has faulted before. -/
theorem endFaulted_ends {t pol : Nat} {s : State} (ht : t < 16) (hlen : t < s.run.tasks.length) (hrole : s.pair.role = .active)
    (hst : 2 ≤ pol → (taskOf s t).st = 5 ∧ bit s.cyc.taskFault t = true) : EndedFaulted t pol s (afterEnd t (endFaulted t s)) := by
  obtain ⟨⟨hactive, hrun⟩, hfault, hovr, hint⟩ := afterEnd_active (s := endFaulted t s) ht ((endFaulted_role t s).trans hrole)
  unfold EndedFaulted
  rw [hactive, taskOf_congr hrun, endFaulted_task hlen, hfault, hovr, hint, endFaulted_cyc]
  exact ⟨rfl, rfl, rfl, rfl, rfl, rfl, fun _ h => h, fun h => ⟨if_pos (hst h).1, (hst h).2⟩⟩

theorem EndedFaulted.of_same {t pol : Nat} {s v u : State} (h : EndedFaulted t pol v u) (hovr : (taskOf v t).overruns = (taskOf s t).overruns)
    (hcnt : v.cyc.cntOvr = s.cyc.cntOvr) (hint : ∀ b, bit s.cyc.intStatus b = true → bit v.cyc.intStatus b = true) : EndedFaulted t pol s u := by
  obtain ⟨hrole, hflight, hout, hthreads, hovr', hcnt', hint', hfault⟩ := h
  exact ⟨hrole, hflight, hout, hthreads, hovr'.trans hovr, hcnt'.trans hcnt, fun b hb => hint' b (hint b hb), hfault⟩

/-- The task faulted, its run ended. -/
theorem faultTask_ends {t pol : Nat} (cause : Nat) {s : State} (ht : t < 16) (hlen : t < s.run.tasks.length) (hrole : s.pair.role = .active) :
    EndedFaulted t pol s (afterEnd t (endFaulted t (faultTask t cause s))) ∧ (taskOf (afterEnd t (endFaulted t (faultTask t cause s))) t).st = 5 ∧
      bit (afterEnd t (endFaulted t (faultTask t cause s))).cyc.taskFault t = true := by
  have hlen' : t < (faultTask t cause s).run.tasks.length := by rw [faultTask_run, setTask_length]; exact hlen
  have htask : taskOf (faultTask t cause s) t = { taskOf s t with st := 5, reinit := true } :=
    (taskOf_congr (faultTask_run t cause s) t).trans (taskOf_setTask hlen _)
  have hst : (taskOf (faultTask t cause s) t).st = 5 := by rw [htask]
  have hbit : bit (faultTask t cause s).cyc.taskFault t = true := by rw [faultTask_taskFault cause ht]; exact bit_setBit_same _ ht
  have hends (p : Nat) := (endFaulted_ends (pol := p) ht hlen' (by simpa using hrole) fun _ => ⟨hst, hbit⟩).of_same (s := s) (by rw [htask])
    (faultTask_cntOvr t cause s) (fun b hb => by rw [faultTask_intStatus]; exact bit_setBit_mono 3 hb)
  obtain ⟨-, -, -, -, -, -, -, hfaulted⟩ := hends 2
  exact ⟨hends pol, hfaulted (le_refl 2)⟩

theorem stopAndFault_ends {t pol : Nat} (cause : Nat) {s : State} (ht : t < 16) (hlen : t < s.run.tasks.length) (hrole : s.pair.role = .active) :
    EndedFaulted t pol s (afterEnd t (stopAndFault t cause s)) ∧ (taskOf (afterEnd t (stopAndFault t cause s)) t).st = 5 ∧
      bit (afterEnd t (stopAndFault t cause s)).cyc.taskFault t = true := by
  unfold stopAndFault
  dsimp only
  have hrun : (stopThreads t (taskOf s t).threads s).run = s.run := by simp
  have hcyc : (stopThreads t (taskOf s t).threads s).cyc = s.cyc := by simp
  obtain ⟨hends, hfault⟩ := faultTask_ends (pol := pol) cause ht (s := stopThreads t (taskOf s t).threads s) (by rw [hrun]; exact hlen) (by simpa using hrole)
  exact ⟨hends.of_same (by rw [taskOf_congr hrun]) (by rw [hcyc]) (by rw [hcyc]; exact fun _ h => h), hfault⟩

/-- The end of a run after a trap. -/
theorem trapEnd_ends {t : Nat} {s : State} (ht : t < 16) (hlen : t < s.run.tasks.length) (hrole : s.pair.role = .active) :
    EndedFaulted t (taskOf s t).pol s (trapEnd t s) := by
  let v := setTask t (fun k => { k with reinit := k.reinit || decide (1 < popcount k.desc.cores) }) s
  have hlen' : t < v.run.tasks.length := by rw [setTask_length]; exact hlen
  have htask : taskOf v t = { taskOf s t with reinit := (taskOf s t).reinit || decide (1 < popcount (taskOf s t).desc.cores) } := taskOf_setTask hlen _
  have hends : EndedFaulted t (taskOf s t).pol v (trapEnd t s) := by
    show EndedFaulted t (taskOf s t).pol v (afterEnd t (endFaulted t (if 2 ≤ (taskOf s t).pol then faultTask t 1 v else v)))
    split
    next h => exact (faultTask_ends 1 ht hlen' hrole).1
    next h => exact endFaulted_ends ht hlen' hrole fun h2 => absurd h2 h
  exact hends.of_same (by rw [htask]) rfl fun _ h => h

-- commits -----------------------------------------------------------------------------------------------------------------------

theorem mem_pagesOf {b : BitVec 1024} {p : Nat} : p ∈ pagesOf b ↔ p < 1024 ∧ bit b p = true := by
  rw [pagesOf, List.mem_filter, List.mem_range]

/-- Pages copied between two images that do not meet. -/
theorem readBytes_copyPages {src dst p : Nat} (hfar : src + 256 * 1024 ≤ dst ∨ dst + 256 * 1024 ≤ src) (hp : p < 1024) {ps : List Nat}
    (hps : ∀ q ∈ ps, q < 1024) : ∀ {m : Memory}, m.wf = true → p ∈ ps ∨ readBytes m (dst + 256 * p) 256 = readBytes m (src + 256 * p) 256 →
    readBytes (copyPages src dst ps m) (dst + 256 * p) 256 = readBytes m (src + 256 * p) 256 := by
  induction ps with
  | nil =>
    intro m _ h
    exact h.resolve_left List.not_mem_nil
  | cons q qs ih =>
    intro m hwf h
    have hq : q < 1024 := hps q List.mem_cons_self
    have hsrc : readBytes (copyPage src dst m q) (src + 256 * p) 256 = readBytes m (src + 256 * p) 256 := by
      refine readBytes_congr fun b hlo hhi => readByte_writeBytes_other m _ ?_
      rw [length_readBytes]
      omega
    have hcons : copyPages src dst (q :: qs) m = copyPages src dst qs (copyPage src dst m q) := by
      rw [copyPages, copyPages, List.foldl_cons]
    have hrest := ih (fun r hr => hps r (List.mem_cons_of_mem q hr)) (m := copyPage src dst m q) (wf_copyPage hwf src dst q)
    rw [hcons, ← hsrc]
    refine hrest ?_
    by_cases hqp : p = q
    · refine .inr ?_
      rw [hsrc, hqp, copyPage]
      have h := readBytes_writeBytes hwf (dst + 256 * q) (readBytes m (src + 256 * q) 256)
      rwa [length_readBytes] at h
    · refine (h.imp (fun hmem => (List.mem_cons.mp hmem).resolve_left hqp) fun hpage => ?_)
      rw [hsrc, ← hpage]
      refine readBytes_congr fun b hlo hhi => readByte_writeBytes_other m _ ?_
      rw [length_readBytes]
      omega

/-- With no force, a run's values stay. -/
theorem applyForces_none {t : Nat} {sel : Sym → Bool} {s : State} (h : s.chg.forces = []) (hlen : t < s.run.tasks.length) :
    (applyForces t sel s).mem = s.mem ∧ taskOf (applyForces t sel s) t = taskOf s t ∧ (applyForces t sel s).run.tasks.length = s.run.tasks.length := by
  unfold applyForces
  split
  · exact ⟨rfl, rfl, rfl⟩
  · rw [h]
    refine ⟨rfl, (taskOf_setTask (by exact hlen) _).trans ?_, setTask_length ..⟩
    simp only [List.append_nil]

/-- With any forces, all but its deltas stays. -/
theorem applyForces_task (t : Nat) (sel : Sym → Bool) {s : State} (hlen : t < s.run.tasks.length) :
    (∃ pds, taskOf (applyForces t sel s) t = { taskOf s t with pds := pds }) ∧ (applyForces t sel s).run.tasks.length = s.run.tasks.length := by
  unfold applyForces
  split
  · exact ⟨⟨(taskOf s t).pds, rfl⟩, rfl⟩
  · exact ⟨⟨_, taskOf_setTask (by exact hlen) _⟩, setTask_length ..⟩

theorem commitPages_run (t : Nat) (s : State) : (commitPages t s).run = s.run := by simp

theorem commitPages_mem (t : Nat) (s : State) : (commitPages t s).mem = copyPages wkBase emBase (pagesOf (taskOf s t).desc.outPages) s.mem := by
  unfold commitPages
  dsimp only
  generalize pagesOf (taskOf s t).desc.outPages = ps
  exact foldl_mem (f := fun s p => markRange (emBase + 256 * p) 256 s) (fun _ _ => rfl) ps _

/-- What the commit of a run begins with: the digest taken, the output pages in the emit copy, the deltas journalled. -/
theorem beginCommit_begins {t : Nat} {s : State} (hlen : t < s.run.tasks.length) (hpoison : (taskOf s t).poison = false) :
    (taskOf (beginCommit t s) t).st = 4 ∧ (taskOf (beginCommit t s) t).threads = (taskOf s t).threads ∧
      (taskOf (beginCommit t s) t).inFlight = (taskOf s t).inFlight ∧ (taskOf (beginCommit t s) t).dig.isSome = true ∧
      (s.chg.forces = [] → (beginCommit t s).mem = copyPages wkBase emBase (pagesOf (taskOf s t).desc.outPages) s.mem) := by
  obtain ⟨⟨pds, htask⟩, hlen'⟩ := applyForces_task t notInput hlen
  have hmem (h : s.chg.forces = []) := (applyForces_none (sel := notInput) h hlen).1
  unfold beginCommit
  rw [if_neg (by simp [hpoison])]
  generalize applyForces t notInput s = v at *
  dsimp only
  have hlast (p : DigestP) (ds : List Delta) : taskOf (lioCommit t (jrnCommit t (taskOf v t).cur.toNat ds
      (setTask t (fun k => { k with st := 4, dig := some p }) (commitPages t v)))) t = { taskOf v t with st := 4, dig := some p } := by
    refine (taskOf_congr (u := lioCommit t _) (s := setTask t (fun k => { k with st := 4, dig := some p }) (commitPages t v)) (by simp only [lioCommit_run_cyc, jrnCommit_run_cyc]) t).trans
      ((taskOf_setTask (by rw [commitPages_run, hlen']; exact hlen) _).trans ?_)
    rw [taskOf_congr (commitPages_run t v)]
  rw [hlast]
  refine ⟨rfl, by rw [htask], by rw [htask], rfl, fun hnone => ?_⟩
  have hpages : (taskOf v t).desc.outPages = (taskOf s t).desc.outPages := by rw [htask]
  simp [setTask, commitPages_mem, hpages, hmem hnone]

/-- The end of a commit without overrun at the ACTIVE. -/
theorem commitComplete_completes {t : Nat} {p : DigestP} {s : State} (hrun : Running s) (ht : t < 16) (hlen : t < s.run.tasks.length)
    (hrole : s.pair.role = .active) (hst : (taskOf s t).st = 4) (hdig : (taskOf s t).dig = some p) :
    (commitComplete t s).pair.role = .active ∧
      taskOf (commitComplete t s) t = { committedTask s.now s.cyc.beat.toNat (taskOf s t) with handWait := false } := by
  let v := handOver t (setTask t (committedTask s.now s.cyc.beat.toNat) s)
  have hv : v.pair.role = .active ∧ taskOf v t = { committedTask s.now s.cyc.beat.toNat (taskOf s t) with handWait := false } := by
    have hhand : v = handCommit t (setTask t (committedTask s.now s.cyc.beat.toNat) s) := if_pos (.inl hrole)
    have hlen' : t < (setTask t (committedTask s.now s.cyc.beat.toNat) s).run.tasks.length := by rw [setTask_length]; exact hlen
    refine ⟨by rw [hhand]; simpa using hrole, ?_⟩
    rw [hhand]
    refine (taskOf_congr (s := setTask t (fun k => { k with handWait := false }) (setTask t (committedTask s.now s.cyc.beat.toNat) s)) ?_ t).trans
      ((taskOf_setTask hlen' _).trans ?_)
    · simp [handCommit]
    · rw [taskOf_setTask hlen]
  obtain ⟨hrole1, htask1⟩ := hv
  have hown : ∀ u : State, u.pair.role = .active → u.run = v.run → (ownDigest p (sendTwin (.digest p) u)).pair.role = .active ∧
      (ownDigest p (sendTwin (.digest p) u)).run = v.run := by
    intro u hu hurun
    have hsent : (sendTwin (.digest p) u).pair.role = .active ∧ (sendTwin (.digest p) u).run = v.run := by simp [hu, hurun]
    unfold ownDigest
    generalize sendTwin (.digest p) u = x at hsent ⊢
    obtain ⟨hxrole, hxrun⟩ := hsent
    split
    · obtain ⟨⟨hr, hq⟩, -⟩ := compareDigests_active (own := p) (s := { x with fluq := { x.fluq with peer := x.fluq.peer.erase _ } }) hxrole
      exact ⟨hr, hq.trans hxrun⟩
    · exact ⟨hxrole, hxrun⟩
  have htail : ∀ u : State, u.pair.role = .active → u.run = v.run → (afterEnd t (checkRunning u)).pair.role = .active ∧
      (afterEnd t (checkRunning u)).run = v.run := by
    intro u hu hurun
    obtain ⟨⟨hr, hq⟩, -⟩ := afterEnd_active (t := t) (s := checkRunning u) ht (by simpa using hu)
    exact ⟨hr, hq.trans (by simpa using hurun)⟩
  have hend : (commitComplete t s).pair.role = .active ∧ (commitComplete t s).run = v.run := by
    have hpass : ¬ ((!rickFull s || (taskOf s t).st != 4) = true) := by simp [running_rickFull hrun, hst]
    unfold commitComplete
    dsimp only
    rw [hdig]
    dsimp only
    rw [if_neg hpass]
    have hmid : (if twinOn v t then ownDigest p (sendTwin (.digest p) v) else v).pair.role = .active ∧
        (if twinOn v t then ownDigest p (sendTwin (.digest p) v) else v).run = v.run := by
      split
      · exact hown v hrole1 rfl
      · exact ⟨hrole1, rfl⟩
    show (afterEnd t (checkRunning (if (taskOf s t).extended || (taskOf s t).missed then
        (if twinOn v t then ownDigest p (sendTwin (.digest p) v) else v)
      else emitCommit t (if twinOn v t then ownDigest p (sendTwin (.digest p) v) else v)))).pair.role = .active ∧ _
    generalize (if twinOn v t then ownDigest p (sendTwin (.digest p) v) else v) = w at hmid ⊢
    refine htail _ ?_ ?_
    · split
      · exact hmid.1
      · simpa using hmid.1
    · split
      · exact hmid.2
      · simpa using hmid.2
  exact ⟨hend.1, (taskOf_congr hend.2 t).trans htask1⟩

-- latches ---------------------------------------------------------------------------------------------------------------------

/-- The task `t` of `u` is that of `s` but for its pending deltas and its reinitialisation; role, times and the number of tasks are those of `s`. -/
def Carries (t : Nat) (s u : State) : Prop :=
  (∃ pds r, taskOf u t = { taskOf s t with pds := pds, reinit := r }) ∧ u.run.tasks.length = s.run.tasks.length ∧ u.now = s.now ∧ u.tim = s.tim ∧
  u.pair.role = s.pair.role

theorem Carries.refl (t : Nat) (s : State) : Carries t s s := ⟨⟨(taskOf s t).pds, (taskOf s t).reinit, rfl⟩, rfl, rfl, rfl, rfl⟩

theorem Carries.trans {t : Nat} {s u v : State} (h : Carries t s u) (k : Carries t u v) : Carries t s v := by
  obtain ⟨⟨pds, r, htask⟩, hlen, hnow, htim, hrole⟩ := h
  obtain ⟨⟨pds', r', htask'⟩, hlen', hnow', htim', hrole'⟩ := k
  exact ⟨⟨pds', r', by rw [htask', htask]⟩, hlen'.trans hlen, hnow'.trans hnow, htim'.trans htim, hrole'.trans hrole⟩

theorem carries_of_run {t : Nat} {s u : State} (hrun : u.run = s.run) (hnow : u.now = s.now) (htim : u.tim = s.tim) (hrole : u.pair.role = s.pair.role) :
    Carries t s u :=
  ⟨⟨(taskOf s t).pds, (taskOf s t).reinit, taskOf_congr hrun t⟩, by rw [hrun], hnow, htim, hrole⟩

/-- The write of another task's record. -/
theorem carries_setTask_other {t e : Nat} (h : e ≠ t) (f : Task → Task) (s : State) : Carries t s (setTask e f s) :=
  ⟨⟨(taskOf s t).pds, (taskOf s t).reinit, taskOf_setTask_other h f s⟩, setTask_length .., rfl, rfl, rfl⟩

/-- A write of a task's deltas or its reinitialisation. -/
theorem carries_setTask {t e : Nat} {f : Task → Task} (hf : ∀ k, ∃ pds r, f k = { k with pds := pds, reinit := r }) (s : State) :
    Carries t s (setTask e f s) := by
  by_cases h : e = t
  · refine ⟨?_, setTask_length .., rfl, rfl, rfl⟩
    by_cases hlen : t < s.run.tasks.length
    · rw [h, taskOf_setTask hlen]
      exact hf _
    · have hout : taskOf (setTask e f s) t = taskOf s t := (getD_modAt ..).trans (if_neg fun hboth => hlen hboth.2)
      exact ⟨(taskOf s t).pds, (taskOf s t).reinit, hout⟩
  · exact carries_setTask_other h f s

/-- A write of memory and program state about the task, then of its deltas. -/
theorem carries_mem {t : Nat} (s : State) (m : Memory) : Carries t s { s with mem := m } := carries_of_run rfl rfl rfl rfl

theorem carries_applyForces (t e : Nat) (sel : Sym → Bool) (s : State) : Carries t s (applyForces e sel s) := by
  unfold applyForces
  split
  · exact Carries.refl t s
  · exact (carries_mem s _).trans (carries_setTask (fun k => ⟨_, k.reinit, rfl⟩) _)

theorem carries_reinitTask (t e : Nat) (s : State) : Carries t s (reinitTask e s) := by
  unfold reinitTask
  split
  · exact Carries.refl t s
  · exact (carries_mem s _).trans (carries_setTask (fun k => ⟨k.pds, false, rfl⟩) _)

theorem carries_writeVar (t e : Nat) (id : Word) (elem : Nat) (v : List Byte) (s : State) : Carries t s (writeVar e id elem v s) := by
  unfold writeVar
  split
  · exact (carries_mem s _).trans (carries_setTask (fun k => ⟨_, k.reinit, rfl⟩) _)
  · exact Carries.refl t s

/-- The value of a program-visible write: of a force, of a re-enable or of a variable. -/
def valueTaken (e : Nat) (w : ProgW) (s : State) : State :=
  match w.entry with
  | some x =>
    if x.index = 0x1361 then forceWrite x.sub.toNat w.value s
    else if x.index = 0x1600 then { s with lio := { s.lio with rearmReq := s.lio.rearmReq ||| beNat w.value } }
    else writeVar e w.sym w.elem w.value s
  | none => writeVar e w.sym w.elem w.value s

theorem carries_valueTaken (t e : Nat) (w : ProgW) (s : State) : Carries t s (valueTaken e w s) := by
  unfold valueTaken
  split
  · split
    · exact carries_of_run (by simp) (by simp) (by simp) (by simp)
    · split
      · exact carries_of_run rfl rfl rfl rfl
      · exact carries_writeVar ..
  · exact carries_writeVar ..

/-- The end of a program-visible write: its RESULT to the standby, its answer to the client. -/
def writeTold (w : ProgW) (s : State) : State :=
  let s := { s with od := { s.od with progWs := s.od.progWs.erase w } }
  let s := match w.forward with
    | some n => sendTwin (.objWrite { op := 5, txn := n, beat := 0, arg := 0, entries := [] }) s
    | none => s
  match w.client with
  | none => s
  | some c =>
    if s.od.progWs.any (fun x => x.client == some c) then s
    else respond c (if w.entry.isSome then 4 else 0x21) 0 [] s

theorem takeWrite_eq (e : Nat) (w : ProgW) (s : State) : takeWrite e w s = writeTold w (valueTaken e w s) := by
  unfold takeWrite valueTaken writeTold
  rfl

theorem carries_writeTold (t : Nat) (w : ProgW) (s : State) : Carries t s (writeTold w s) := by
  unfold writeTold
  refine carries_of_run ?_ ?_ ?_ ?_ <;> (cases w.forward <;> cases w.client <;> simp)

theorem carries_foldl {α : Type} {t : Nat} {f : State → α → State} {xs : List α} (hf : ∀ s, ∀ x ∈ xs, Carries t s (f s x)) (s : State) :
    Carries t s (xs.foldl f s) :=
  List.foldlRecOn (motive := fun u => Carries t s u) xs f (Carries.refl t s) fun u hu x hx => hu.trans (hf u x hx)

theorem carries_takeWrites (t e : Nat) (s : State) : Carries t s (takeWrites e s) :=
  carries_foldl (fun u w _ => by rw [takeWrite_eq]; exact (carries_valueTaken t e w u).trans (carries_writeTold t w _)) s

theorem carries_copyExchanges (t e : Nat) (s : State) : Carries t s (copyExchanges e s) := carries_of_run (by simp) (by simp) (by simp) (by simp)
theorem carries_carryWrites (t e : Nat) (s : State) : Carries t s (carryWrites e s) := carries_of_run (by simp) (by simp) (by simp) (by simp)
theorem carries_sendImage (t e inst : Nat) (body : List Byte) (s : State) : Carries t s (sendImage e inst body s) :=
  carries_of_run (by simp) (by simp) (by simp) (by simp)

theorem carries_reinit (t e : Nat) (s : State) : Carries t s (if (taskOf s e).reinit then reinitTask e s else s) := by
  split
  · exact carries_reinitTask t e s
  · exact Carries.refl t s

/-- A released task. -/
def releasedTask (origin inst now beat : Nat) (k : Task) : Task := { k with
  inFlight := true, inst := BitVec.ofNat 64 inst, cur := BitVec.ofNat 64 inst, startAt := origin, relAt := now
  dueAt := origin + deadlineNs k.desc, extended := false, missed := false, skipRun := 0, threads := k.desc.cores, trapped := false
  st := 3, latchDue := none, pol := k.desc.policy, lastStart := some (startBeat k.desc beat), dig := none, partner := none, handWait := false }

/-- What comes before the release itself: the reinitialisation, the forces on static variables. -/
def releaseReady (t : Nat) (s : State) : State := applyForces t inStatic (if (taskOf s t).reinit then reinitTask t s else s)

theorem carries_releaseReady (t e : Nat) (s : State) : Carries t s (releaseReady e s) :=
  (carries_reinit t e s).trans (carries_applyForces t e _ _)

theorem release_run (t origin inst : Nat) (s : State) (f : Task → Task)
    (hf : f = fun k => { k with
      inFlight := true, inst := BitVec.ofNat 64 inst, cur := BitVec.ofNat 64 inst, startAt := origin, relAt := (releaseReady t s).now
      dueAt := origin + deadlineNs (taskOf (releaseReady t s) t).desc, extended := false, missed := false, skipRun := 0
      threads := (taskOf (releaseReady t s) t).desc.cores, trapped := false, st := 3, latchDue := none, pol := (taskOf (releaseReady t s) t).desc.policy
      lastStart := some (startBeat (taskOf (releaseReady t s) t).desc (releaseReady t s).cyc.beat.toNat), dig := none, partner := none
      handWait := false }) :
    Carries t (setTask t f (releaseReady t s)) (release t origin inst s) ∧ ∀ x, x ≠ t → Carries x s (release t origin inst s) := by
  have hplaced (u : State) (cs : List Nat) (x : Nat) : Carries x u (cs.foldl (fun s c => placeRel c 1 t s) u) :=
    carries_foldl (fun v c _ => carries_of_run (by simp) (by simp) (by simp) (by simp)) u
  have heq : release t origin inst s = ((List.range 8).filter (bit (taskOf (releaseReady t s) t).desc.cores)).foldl (fun s c => placeRel c 1 t s)
      (setTask t f (releaseReady t s)) := by rw [hf]; rfl
  rw [heq]
  exact ⟨hplaced _ _ t, fun x hx => ((carries_releaseReady x t s).trans (carries_setTask_other hx.symm f _)).trans (hplaced _ _ x)⟩

/-- A release leaves the other tasks. -/
theorem carries_release_other {t e : Nat} (h : e ≠ t) (origin inst : Nat) (s : State) : Carries t s (release e origin inst s) :=
  (release_run e origin inst s _ rfl).2 t h.symm

/-- A release of the task, seen from its record. -/
theorem release_task {t : Nat} (origin inst : Nat) {s : State} (hlen : t < s.run.tasks.length) :
    (∃ pds r beat, taskOf (release t origin inst s) t =
      { releasedTask origin inst s.now beat (taskOf s t) with pds := pds, reinit := r }) ∧
      (release t origin inst s).pair.role = s.pair.role := by
  obtain ⟨⟨pds, r, htask⟩, hlen', hnow, -, hrole⟩ := carries_releaseReady t t s
  obtain ⟨⟨pds', r', htask'⟩, -, -, -, hrole'⟩ := (release_run t origin inst s _ rfl).1
  refine ⟨⟨pds', r', (releaseReady t s).cyc.beat.toNat, htask'.trans ?_⟩, hrole'.trans hrole⟩
  rw [taskOf_setTask (by rw [hlen']; exact hlen), htask, hnow]
  rfl

theorem carries_skipInstance {t e : Nat} (h : e ≠ t) (s : State) : Carries t s (skipInstance e s) := by
  unfold skipInstance
  dsimp only
  have hset (u : State) (hu : u.run = (setTask e (fun k => { k with
      inst := BitVec.ofNat 64 ((taskOf s e).inst.toNat + 1), skips := satInc k.skips, skipRun := if k.inFlight then k.skipRun + 1 else k.skipRun
      outcome := if k.inFlight then k.outcome else 2 }) s).run) (hnow : u.now = s.now) (htim : u.tim = s.tim) (hrole : u.pair.role = s.pair.role) :
      Carries t s u :=
    (carries_setTask_other h _ s).trans (carries_of_run hu hnow htim hrole)
  split
  · exact hset _ (by simp [setTask]) (by simp) (by simp) (by simp)
  · exact hset _ (by simp [setTask]) (by simp) (by simp) (by simp)

theorem carries_releaseEvent {t e : Nat} (h : e ≠ t) (s : State) : Carries t s (releaseEvent e s) := by
  unfold releaseEvent
  dsimp only
  split
  · exact (carries_setTask_other h _ s).trans (carries_skipInstance h _)
  · have hcopied : Carries t s (copyExchanges e (copyTrigger (taskOf s e).desc.trigger s)) := (carries_mem s _).trans (carries_copyExchanges t e _)
    have hcarried := (hcopied.trans (carries_setTask_other h (fun k => { k with
      stamp := (taskOf (copyExchanges e (copyTrigger (taskOf s e).desc.trigger s)) (trigOwner (copyExchanges e (copyTrigger (taskOf s e).desc.trigger s))
        (taskOf s e).desc.trigger)).stamp }) _)).trans (carries_carryWrites t e _)
    refine (hcarried.trans ?_).trans ((carries_takeWrites t e _).trans (carries_release_other h _ _ _))
    split
    · exact carries_sendImage ..
    · exact Carries.refl t _

/-- The triggers that fire: events to release now, all of them event tasks. -/
theorem fireOne_carries {t : Nat} (e : Nat) {s : State} (acc : State × List Nat × List Nat) (h : Carries t s acc.1 ∧ ∀ x ∈ acc.2.1, 16 ≤ x) :
    Carries t s (fireOne acc e).1 ∧ ∀ x ∈ (fireOne acc e).2.1, 16 ≤ x := by
  obtain ⟨u, now, listed⟩ := acc
  obtain ⟨hu, hnow⟩ := h
  unfold fireOne
  dsimp only at hu hnow ⊢
  split
  · exact ⟨hu, hnow⟩
  · split
    · refine ⟨hu, fun x hx => (List.mem_append.mp hx).elim (hnow x) fun hx => ?_⟩
      rw [List.mem_singleton.mp hx]
      omega
    · split
      · exact ⟨hu.trans (carries_of_run (by simp) (by simp) (by simp) (by simp)), hnow⟩
      · exact ⟨hu.trans (carries_of_run rfl rfl rfl rfl), hnow⟩

theorem carries_scaleHandOff (t e tag : Nat) {s : State} (hrole : s.pair.role = .active) : Carries t s (scaleHandOff e tag s) := by
  have hfollow : followRecords e s = s := if_pos (by simp [hrole])
  unfold scaleHandOff
  rw [hfollow]
  split
  · exact Carries.refl t s
  · exact carries_foldl (fun u nm _ => carries_of_run (by simp) (by simp) (by simp) (by simp)) s

theorem carries_evalTriggers (t e : Nat) (s : State) : Carries t s (evalTriggers e s).1 :=
  ⟨⟨(taskOf s t).pds, (taskOf s t).reinit, rfl⟩, rfl, rfl, rfl, rfl⟩

/-- The inputs of a task's run updated: its stamp taken, the rest of the task carried. -/
theorem updateImage_carries {t : Nat} {s : State} (hrole : s.pair.role = .active) (hlen : t < s.run.tasks.length) :
    Carries t (setTask t (fun k => { k with stamp := s.tim.time }) s) (updateImage t s).1 ∧ ∀ e ∈ (updateImage t s).2.1, 16 ≤ e := by
  let v := mapRecords t (copyExchanges t (latchPages t (beginTwin t s)))
  have hv : v.run = s.run ∧ v.now = s.now ∧ v.tim = s.tim ∧ v.pair.role = s.pair.role := by simp [v]
  obtain ⟨hrun, hnow, htim, hvrole⟩ := hv
  have hstamped : Carries t (setTask t (fun k => { k with stamp := s.tim.time }) s) (setTask t (fun k => { k with stamp := v.tim.time }) v) := by
    refine ⟨⟨(taskOf s t).pds, (taskOf s t).reinit, ?_⟩, ?_, hnow, htim, hvrole⟩
    · rw [taskOf_setTask hlen, taskOf_setTask (by rw [hrun]; exact hlen), taskOf_congr hrun, htim]
    · rw [setTask_length, setTask_length, hrun]
  have hforced := hstamped.trans (carries_applyForces t t inInput _)
  have hactive : (applyForces t inInput (setTask t (fun k => { k with stamp := v.tim.time }) v)).pair.role = .active :=
    hforced.2.2.2.2.trans hrole
  have hscaled := fun tag => hforced.trans (carries_scaleHandOff t t tag hactive)
  have hfired := fun tag => (hscaled tag).trans (carries_evalTriggers t t _)
  have hfold (xs : List Nat) (acc : State × List Nat × List Nat)
      (h : Carries t (setTask t (fun k => { k with stamp := s.tim.time }) s) acc.1 ∧ ∀ x ∈ acc.2.1, 16 ≤ x) :
      Carries t (setTask t (fun k => { k with stamp := s.tim.time }) s) (xs.foldl fireOne acc).1 ∧ ∀ x ∈ (xs.foldl fireOne acc).2.1, 16 ≤ x :=
    List.foldlRecOn (motive := fun a => Carries t _ a.1 ∧ ∀ x ∈ a.2.1, 16 ≤ x) xs fireOne h fun a ha x _ => fireOne_carries x a ha
  obtain ⟨hcarried, hnow'⟩ := hfold _ (_, [], []) ⟨hfired _, fun x hx => absurd hx List.not_mem_nil⟩
  exact ⟨hcarried.trans (carries_carryWrites t t _), hnow'⟩

/-- The latch that is due releases the next run. -/
theorem inputLatch_releases {t d : Nat} {s : State} (ht : t < 16) (hlen : t < s.run.tasks.length) (hrole : s.pair.role = .active)
    (hready : latchReady t s = true) (hdue : (taskOf s t).latchDue = some d) :
    (∃ pds r beat, taskOf (inputLatch t s) t = { releasedTask (d - (taskOf s t).desc.latch * 1000) ((taskOf s t).inst.toNat + 1) s.now beat
      { taskOf s t with stamp := s.tim.time } with pds := pds, reinit := r }) ∧ (inputLatch t s).pair.role = .active := by
  obtain ⟨hupdated, hnow⟩ := updateImage_carries hrole hlen
  unfold inputLatch
  rw [if_neg (by simp [hready])]
  generalize updateImage t s = r at *
  obtain ⟨v, now, listed⟩ := r
  dsimp only at hupdated hnow ⊢
  generalize hsent : (if twinOn v t then sendImage t ((taskOf v t).inst.toNat + 1) (imageBody t (listed.map (fun e => e - 16)) v) v else v) = w
  have hw : Carries t v w := by
    rw [← hsent]
    split
    · exact carries_sendImage ..
    · exact Carries.refl t v
  have hevents : Carries t w (now.foldl (fun s e => releaseEvent e s) w) :=
    carries_foldl (fun u e he => carries_releaseEvent (fun h => absurd (hnow e he) (by omega)) u) w
  have hall := ((hupdated.trans hw).trans hevents).trans (carries_takeWrites t t _)
  obtain ⟨⟨pds, r, htask⟩, hlength, htime, -, hrole'⟩ := hall
  obtain ⟨⟨_, _, hinst⟩, -⟩ := hupdated
  rw [taskOf_setTask hlen] at htask hinst
  rw [setTask_length] at hlength
  have hnumber : (taskOf v t).inst = (taskOf s t).inst := by rw [hinst]
  obtain ⟨⟨pds', r', beat, hreleased⟩, hrole''⟩ := release_task (t := t) (d - (taskOf s t).desc.latch * 1000) ((taskOf s t).inst.toNat + 1)
    (s := takeWrites t (now.foldl (fun s e => releaseEvent e s) w)) (by rw [hlength]; exact hlen)
  have hget : (taskOf s t).latchDue.getD 0 = d := by rw [hdue]; rfl
  rw [hget, hnumber]
  refine ⟨⟨pds', r', beat, hreleased.trans ?_⟩, (hrole''.trans hrole').trans hrole⟩
  rw [htask, htime]
  rfl

end Sys2Proof.Laws

namespace Sys2Proof.Proofs

open Sys2Proof Sys2Proof.Machine Sys2Proof.Safety Sys2Proof.Laws

/-- Settles O17: the latch carries its task to the release (`inputLatch_releases`); a run ends by `endFaulted_ends` and
`commitComplete_completes`. -/
theorem instancesComplete : Obligations.InstancesComplete := by
  unfold Obligations.InstancesComplete
  intro runs faulted
  have hlength {t : Nat} {s : State} (h : s.run.tasks.length = 80) (ht : t < 16) : t < s.run.tasks.length := by omega
  refine ⟨?latch, ?thread, ?last, ?level, ?trap, ?trapStop, ?commit, ?deadline, ?limit⟩
  case latch =>
    intro t d s ⟨hrun, htasks, ht, hrole⟩ hreleasing henabled hnofault hdue hidle hquiet
    have hready : latchReady t s = true := by
      have hall : s.run.tasks.all (fun k => k.st != 4) = true := List.all_eq_true.mpr fun k hk => by simpa using hquiet k hk
      simp [latchReady, leads, enabled, faultedTask, running_rickFull hrun, hrole, hreleasing, ht, henabled, hnofault, hdue, hidle, hall]
    obtain ⟨⟨pds, r, beat, htask⟩, hactive⟩ := inputLatch_releases ht (hlength htasks ht) hrole hready hdue
    refine answers_settled (u := inputLatch t s) rfl ?_
    have hinst : BitVec.ofNat 64 ((taskOf s t).inst.toNat + 1) = (taskOf s t).inst + 1 := by
      rw [BitVec.ofNat_add, BitVec.ofNat_toNat, BitVec.setWidth_eq]
      rfl
    rw [taskOf_congr (settle_run _), htask]
    exact ⟨rfl, rfl, hinst, rfl, rfl, rfl, rfl, rfl, rfl, by simpa using hactive⟩
  case thread =>
    intro t core word ds s ⟨hrun, htasks, ht, hrole⟩ htask hword hflight hst hcore hrest
    refine congrArg finish ?_
    simp [cycDone, hword, htask, threadDone, running_rickFull hrun, hflight, hst, hcore]
    exact fun h => absurd h hrest
  case last =>
    intro t core word ds s ⟨hrun, htasks, ht, hrole⟩ htask hword hflight hst htrap hpoison hcore hrest
    let v := setTask t (fun k => { k with threads := 0, pds := k.pds ++ ds }) s
    have hlen := hlength htasks ht
    have hv : taskOf v t = { taskOf s t with threads := 0, pds := (taskOf s t).pds ++ ds } := taskOf_setTask hlen _
    have hdone : cycDone core .m word ds s = beginCommit t v := by
      simp [cycDone, hword, htask, threadDone, running_rickFull hrun, hflight, hst, hcore, hrest, htrap, v]
    obtain ⟨hst', hthreads, hflight', hdig, hmem⟩ := beginCommit_begins (s := v) (by rw [setTask_length]; exact hlen) (by rw [hv]; exact hpoison)
    refine answers_settled (congrArg finish hdone) ?_
    rw [taskOf_congr (settle_run _)]
    refine ⟨hst', by rw [hthreads, hv], by rw [hflight', hv]; exact hflight, hdig, fun hwf hforces p hp hpage => ?_⟩
    have hpages : (taskOf v t).desc.outPages = (taskOf s t).desc.outPages := by rw [hv]
    rw [settle_mem, hmem hforces, hpages]
    exact readBytes_copyPages (by decide) hp (fun q hq => (mem_pagesOf.mp hq).1) hwf (.inl (mem_pagesOf.mpr ⟨hp, hpage⟩))
  case level =>
    intro core level word ds s hrun hlevel
    exact finish_of_eq (if_pos hlevel) hrun.loud
  case trap =>
    intro t core s ⟨hrun, htasks, ht, hrole⟩ hflight hst hcore hrest
    let v := setTask t (fun k => { k with threads := 0, trapped := true }) s
    have hlen := hlength htasks ht
    have hv : taskOf v t = { taskOf s t with threads := 0, trapped := true } := taskOf_setTask hlen _
    let w := if (taskOf s t).trapped then v else stopThreads t 0 v
    have hw : w.run = v.run ∧ w.pair.role = .active := by
      unfold w
      split
      · exact ⟨rfl, hrole⟩
      · have hpair : (stopThreads t 0 v).pair = v.pair := by simp
        exact ⟨by simp, by rw [hpair]; exact hrole⟩
    obtain ⟨hwrun, hwrole⟩ := hw
    have hpol : (taskOf w t).pol = (taskOf s t).pol := by rw [taskOf_congr hwrun, hv]
    have htrapped : threadTrap core t s = trapEnd t w := by
      simp [threadTrap, running_rickFull hrun, hflight, hst, hcore, hrest, v, w]
    obtain ⟨-, hflight', hout, hthreads, -, -, -, hfault⟩ :=
      trapEnd_ends (s := w) ht (by rw [hwrun, setTask_length]; exact hlen) hwrole
    refine answers_settled (congrArg finish ((if_pos rfl).trans htrapped)) ?_
    rw [hpol] at hfault
    exact ⟨⟨hflight', hout, hthreads⟩, hfault⟩
  case trapStop =>
    intro t s ⟨hrun, htasks, ht, hrole⟩ hflight htrap
    obtain ⟨-, hflight', hout, hthreads, -, -, -, hfault⟩ := trapEnd_ends ht (hlength htasks ht) hrole
    refine answers_settled (u := trapEnd t s) (congrArg finish (if_pos ?_)) ⟨⟨hflight', hout, hthreads⟩, hfault⟩
    simp [running_rickFull hrun, hflight, htrap]
  case commit =>
    intro t p s ⟨hrun, htasks, ht, hrole⟩ hst hdig hextended hmissed
    obtain ⟨hactive, htask⟩ := commitComplete_completes hrun ht (hlength htasks ht) hrole hst hdig
    refine answers_settled (u := commitComplete t s) rfl ?_
    rw [taskOf_congr (settle_run _), htask]
    exact ⟨rfl, rfl, by simp [committedTask, hextended, b2n], rfl, rfl, rfl, rfl, by simpa using hactive⟩
  case deadline =>
    intro t s ⟨hrun, htasks, ht, hrole⟩ hflight hst
    have hlen := hlength htasks ht
    let v := noteMiss t s
    have hvrun : v.run = (setTask t (fun k => { k with overruns := satInc k.overruns }) s).run := by simp [v, noteMiss, setTask]
    have hv : taskOf v t = { taskOf s t with overruns := satInc (taskOf s t).overruns } := (taskOf_congr hvrun t).trans (taskOf_setTask hlen _)
    have hvlen : t < v.run.tasks.length := by rw [hvrun, setTask_length]; exact hlen
    have hvrole : v.pair.role = .active := by simpa [v] using hrole
    have hcnt : v.cyc.cntOvr = satInc s.cyc.cntOvr := by simp [v, noteMiss, setTask]
    have hint : bit v.cyc.intStatus 1 = true := by
      have hset : v.cyc.intStatus = setBit s.cyc.intStatus 1 := by simp [v, noteMiss, cycInt_intStatus, setTask]
      rw [hset]
      exact bit_setBit_same _ (by decide)
    have hbranch : deadlineMiss t s = match (taskOf s t).pol with
        | 0 => setTask t (fun k => { k with missed := true }) v
        | 1 => if (taskOf s t).extended then afterEnd t (stopAndFault t 2 v)
          else setTask t (fun k => { k with extended := true, dueAt := k.dueAt +
            (if (taskOf s t).desc.period = 0 then deadlineNs (taskOf s t).desc else (taskOf s t).desc.period * 250000), skipNext := 1 }) v
        | _ => afterEnd t (stopAndFault t 0 v) := by
      unfold deadlineMiss
      dsimp only
      exact (if_neg (by simp [running_rickFull hrun, hrole, hflight, hst])).trans rfl
    have hends (cause : Nat) := stopAndFault_ends (pol := 0) cause ht hvlen hvrole
    refine answers_settled (u := deadlineMiss t s) rfl ?_
    rw [taskOf_congr (settle_run _), settle_cyc, hbranch]
    split
    next hpol =>
      rw [taskOf_setTask hvlen, hv, hpol]
      exact ⟨rfl, hcnt, hint, fun _ => ⟨hflight, rfl⟩, fun h => absurd h (by decide), fun h => absurd h (by decide)⟩
    next hpol =>
      rw [hpol]
      split
      next hextended =>
        obtain ⟨⟨-, -, -, -, hovr, hcnt', hint', -⟩, -⟩ := hends 2
        refine ⟨by rw [hovr, hv], hcnt'.trans hcnt, hint' 1 hint, fun h => absurd h (by decide), fun _ h => ?_, fun h => absurd h (by decide)⟩
        rw [hextended] at h
        exact absurd h (by decide)
      next hextended =>
        rw [taskOf_setTask hvlen, hv]
        refine ⟨rfl, hcnt, hint, fun h => absurd h (by decide), fun _ _ => ⟨hflight, rfl, rfl, fun hperiod => ?_⟩, fun h => absurd h (by decide)⟩
        rw [if_neg (Nat.pos_iff_ne_zero.mp hperiod)]
    next hnot0 hnot1 =>
      obtain ⟨⟨-, hflight', hout, hthreads, hovr, hcnt', hint', -⟩, hst', hbit⟩ := hends 0
      exact ⟨by rw [hovr, hv], hcnt'.trans hcnt, hint' 1 hint, fun h => absurd h hnot0, fun h => absurd h hnot1,
        fun _ => ⟨⟨hflight', hout, hthreads⟩, hst', hbit⟩⟩
  case limit =>
    intro t s ⟨hrun, htasks, ht, hrole⟩ hflight hst hpol hmissed
    obtain ⟨⟨-, hflight', hout, hthreads, -, -, -, -⟩, hst', hbit⟩ := stopAndFault_ends (pol := 0) 2 ht (hlength htasks ht) hrole
    refine answers_settled (u := afterEnd t (stopAndFault t 2 s)) (congrArg finish (if_neg ?_)) ⟨⟨hflight', hout, hthreads⟩, hst', hbit⟩
    simp [running_rickFull hrun, hrole, hflight, hst, hpol, hmissed]

end Sys2Proof.Proofs

/-! PROOF. The OBJWRITE frames of the pair (09 R328 to R332). -/

namespace Sys2Proof.Laws

open Sys2Proof Sys2Proof.Machine Sys2Proof.Safety

@[simp] theorem flueHeard_jrn (lane : Nat) (f : FlueFrame) (s : State) : (flueHeard lane f s).jrn = s.jrn := by rw [flueHeard_eq]

@[simp] theorem flueHeard_legal (lane : Nat) (f : FlueFrame) (s : State) : (flueHeard lane f s).legal = s.legal := by rw [flueHeard_eq]

theorem length_beBytes (n v : Nat) : (beBytes n v).length = n := by simp [beBytes]

theorem length_section (t : Nat) (b : List Byte) : (section_ t b).length = (section_ t []).length + b.length := by
  simp [section_, u8, be4, length_beBytes]
  omega

/-- The length of an image reads neither the pair's marks nor the lanes: the standby's state takes one byte of it in any case. -/
theorem length_imageBody (t : Nat) (fired : List Nat) {s u : State} (hrun : u.run = s.run) (hod : u.od = s.od) (hmem : u.mem = s.mem) :
    (imageBody t fired u).length = (imageBody t fired s).length := by
  have htask : taskOf u t = taskOf s t := taskOf_congr hrun t
  have hpair (x y : State) : (section_ 3 (u8 2 ++ u8 (standbyState x) ++ zeros 2 ++ be4 x.pair.epoch.toNat ++ be4 x.pair.takeCount.toNat ++ zeros 4)).length =
      (section_ 3 (u8 2 ++ u8 (standbyState y) ++ zeros 2 ++ be4 y.pair.epoch.toNat ++ be4 y.pair.takeCount.toNat ++ zeros 4)).length := by
    rw [length_section, length_section 3 (u8 2 ++ u8 (standbyState y) ++ _ ++ _ ++ _ ++ _)]
    simp [u8, be4, length_beBytes]
  unfold imageBody
  rw [htask, hod, hmem]
  simp only [List.length_append, hpair u s]

theorem flueHeard_lagFits (lane : Nat) (f : FlueFrame) (s : State) (n : Nat) : lagFits n (flueHeard lane f s) = lagFits n s := by
  have hlength (t : Nat) : (imageBody t [] { flueHeard lane f s with od := { (flueHeard lane f s).od with progWs := [] } }).length =
      (imageBody t [] { s with od := { s.od with progWs := [] } }).length :=
    length_imageBody t [] (flueHeard_run ..) (by simp) (flueHeard_mem ..)
  have hrun : (flueHeard lane f s).run = s.run := flueHeard_run ..
  refine congrArg₂ (· || ·) (by rw [hrun]) (congrArg (List.all (List.range 80)) (funext fun t => ?_))
  have htask : taskOf { flueHeard lane f s with od := { (flueHeard lane f s).od with progWs := [] } } t = taskOf s t := taskOf_congr hrun t
  dsimp only
  rw [htask, hlength]
  rfl

/-- The checks of an entry read neither the pair's marks nor the lanes. -/
theorem flueHeard_entryCheck (lane : Nat) (f : FlueFrame) (s : State) (e : ObjE) : entryCheck (flueHeard lane f s) e = entryCheck s e := by
  have hrun : (flueHeard lane f s).run = s.run := flueHeard_run ..
  have hod : (flueHeard lane f s).od = s.od := flueHeard_od ..
  have hmem : (flueHeard lane f s).mem = s.mem := flueHeard_mem ..
  have hlegal : (flueHeard lane f s).legal = s.legal := flueHeard_legal ..
  have hnum (i k : Nat) : cfgNum (flueHeard lane f s) i k = cfgNum s i k := by unfold cfgNum cfgVal; rw [hod]
  have hcycle (i : Nat) : cycleUs i (flueHeard lane f s) = cycleUs i s := by unfold cycleUs; rw [hnum]
  have hmarks (i rd wr : Nat) : marksOk i rd wr (flueHeard lane f s) = marksOk i rd wr s := by unfold marksOk; rw [hcycle]
  have htaskNum (t k : Nat) : taskNum t k (flueHeard lane f s) = taskNum t k s := by unfold taskNum; rw [hod, hmem]
  have hrange (t k n : Nat) : taskRange t k n (flueHeard lane f s) = taskRange t k n s := by unfold taskRange; simp only [htaskNum]
  have hmapping (c : Nat) (v : List Byte) : mappingOk c v (flueHeard lane f s) = mappingOk c v s := by
    simp only [mappingOk, chanSt, taskOf, hlegal, hrun]
  have hextra (i k : Nat) (v : List Byte) : rangeExtra i k v (flueHeard lane f s) = rangeExtra i k v s := by
    simp only [rangeExtra, flueHeard_lagFits, hmarks, hnum, hrange, hmapping]
  have hexport (i : Nat) (v : List Byte) : exportRange i v (flueHeard lane f s) = exportRange i v s := by
    simp only [exportRange, exportSym, hrun]
  simp only [entryCheck, checkValue, hextra, hexport]

/-- The gathering of a request of one frame. -/
def gathered (s : State) : State := { s with od := { s.od with rxParts := [] } }

theorem gather_whole {p : ObjWriteP} {e : ObjE} {s : State} (hparts : s.od.rxParts = []) (hentries : p.entries = [e]) :
    gather p false s = (gathered s, some [e]) := by
  simp [gather, hparts, hentries, joinEntries, gathered]

/-- What one accepted entry of the active leaves at the SYNCHRONISED standby. -/
structure ApplyLeft (txn : Word) (beat : DWord) (e : ObjE) (s u : State) : Prop where
  taken : u.od.taken = s.od.taken ++ [{ no := txn, beat := beat.toNat, entries := [e] }]
  vals : u.od.vals = insertVal { index := e.index.toNat, sub := e.sub.toNat, val := e.value } s.od.vals
  agree : u.od.agree = 1
  peer : u.od.peerCfgId = configId u
  pair : u.pair = s.pair
  mem : u.mem = s.mem

theorem takeApply_applies {p : ObjWriteP} {e : ObjE} {s : State} (hrun : Running s) (hsync : s.pair.sub = .synchronised) (hcheck : entryCheck s e = 0)
    (hresume : isResume e.index.toNat e.sub.toNat = false) (hopen : AreaOpen s) (hbeat : s.cyc.beat.toNat < p.beat.toNat) :
    ApplyLeft p.txn p.beat e s (takeApply p [e] s) := by
  have hpass : (([e].map (entryCheck s)).find? (fun r => r != 0)).getD 0 = 0 := by simp [hcheck]
  have hwhole : (s.pair.sub == .resync && !s.flu.resync.whole && decide (s.flu.resync.phase ≤ 2)) = false := by simp [hsync]
  have hlate : ¬ (p.beat.toNat ≤ s.cyc.beat.toNat ∧ (!false) = true) := by omega
  have hstored : storeEntries [e] (cfgDraw s) = storeVal e.index.toNat e.sub.toNat e.value (cfgDraw s) := by simp [storeEntries, hresume]
  unfold takeApply
  simp only [hpass, hwhole, areaWrite_open hrun hopen, hstored, ne_eq, not_true_eq_false, if_false, Bool.false_eq_true]
  have hnow (u : State) (h : u.cyc = s.cyc) : ¬ (p.beat.toNat ≤ u.cyc.beat.toNat ∧ (!false) = true) := by rw [h]; exact hlate
  rw [if_neg (hnow _ (by simp [storeVal]))]
  constructor <;> simp [storeVal, configId]

/-- An acknowledgement of the configuration that was meant. -/
theorem onAck_agrees {p : ObjWriteP} {x : Txn} {s : State} (hrole : s.pair.role = .active)
    (hfind : s.od.txns.find? (fun t => t.no == p.txn) = some x) (hid : x.cfgId = p.arg) :
    onAck p s = { s with od := { s.od with
      txns := s.od.txns.map (fun t => if t.no = p.txn then { t with acked := true } else t), peerCfgId := p.arg, agree := 1 } } := by
  simp [onAck, hrole, hfind, hid, b2n]

/-- The watchdog of the pair of 0x1100 is a copied entry: a forwarded write of it is an own write under the forward's number. -/
theorem onForward_presence {src : Slot} {p : ObjWriteP} {e : ObjE} {s : State} (hrun : Running s) (hindex : e.index = 0x1100) (hsub : e.sub = 6)
    (hopen : AreaOpen s) :
    onForward src p [e] s = copiedAccept { client := none, forward := some p.txn, slot := src, session := 0 } 0x1100 6 e.value (cfgDraw s) := by
  have hactivity : activityOf 0x1100 6 e.value = none := by simp [activityOf]
  have hmeta : entryOf 0x1100 6 s = cfgE (.u 2) .beat 100 10000 (be2 500) := by simp [entryOf, metaOf, metaPair]
  have hi : (0x1100 : Half).toNat = 0x1100 := by decide
  have hk : (6 : Byte).toNat = 6 := by decide
  unfold onForward
  simp only [hindex, hsub, hi, hk, hactivity, hmeta]
  show decided _ 0x1100 6 _ e.value s = _
  rw [decided, if_neg (by omega), if_neg (by decide), if_pos (.inl rfl)]
  exact copiedWrite_open hrun hopen (by decide) rfl rfl

/-- The answer to a forwarded request that starts no activity. -/
theorem onResult_told {p : ObjWriteP} {f : Fwd} {c : Client} {s : State} (hfind : s.od.forwards.find? (fun f => f.no == p.txn) = some f)
    (hclient : f.client = some c) (hplain : activityOf c.index c.sub f.value = none) :
    onResult p s = if p.arg = 0 then respond c 4 0 [] { s with od := { s.od with forwards := s.od.forwards.erase f } }
      else abort c p.arg.toNat { s with od := { s.od with forwards := s.od.forwards.erase f } } := by
  have hzero : p.arg.toNat = 0 ↔ p.arg = 0 := ⟨fun h => BitVec.eq_of_toNat_eq h, fun h => by rw [h]; rfl⟩
  unfold onResult
  rw [hfind]
  dsimp only
  rw [hclient]
  dsimp only
  rw [hplain]
  by_cases h : p.arg = 0
  · simp [h]
  · simp [hzero]

end Sys2Proof.Laws

namespace Sys2Proof.Proofs

open Sys2Proof Sys2Proof.Machine Sys2Proof.Safety Sys2Proof.Laws

/-- Settles O27: each frame after what every accepted frame leaves (`flueHeard`). -/
theorem objWriteFramesComplete : Obligations.ObjWriteFramesComplete := by
  unfold Obligations.ObjWriteFramesComplete
  intro frame
  refine ⟨?apply, ?ack, ?nack, ?forward, ?result, ?timeout⟩
  case apply =>
    intro n h e txn b s p hrun hrec hwhole hnumber hrole hsync hparts hcheck hresume hopen hbeat
    have hlive := running_runtimeLive (flueHeard_running n (frame 1 h p) hrun)
    have hheard : (flueHeard n (frame 1 h p) s).pair.role = .standby ∧ (flueHeard n (frame 1 h p) s).pair.sub = .synchronised ∧
        (flueHeard n (frame 1 h p) s).od = s.od ∧ (flueHeard n (frame 1 h p) s).jrn = s.jrn ∧ (flueHeard n (frame 1 h p) s).now = s.now ∧
        (flueHeard n (frame 1 h p) s).cyc = s.cyc ∧ (flueHeard n (frame 1 h p) s).mem = s.mem ∧ Running (flueHeard n (frame 1 h p) s) ∧
        entryCheck (flueHeard n (frame 1 h p) s) e = 0 :=
      ⟨by simpa, by simpa, by simp, by simp, by simp, by simp, by simp, flueHeard_running n _ hrun, (flueHeard_entryCheck n _ s e).trans hcheck⟩
    refine answers_frame hrun hrec rfl ?_
    show _ ∧ _
    generalize flueHeard n (frame 1 h p) s = u at *
    obtain ⟨hrole', hsync', hod, hjrn, hnow, hcyc, hmem, hrun', hcheck'⟩ := hheard
    have hbody : flueBody n (frame 1 h p) u = takeApply p [e] (gathered u) := by
      show onObjWrite h.src (bit h.flags 1) p u = _
      rw [onObjWrite, hlive, hwhole, gather_whole (e := e) (by rw [hod]; exact hparts) rfl]
      simp only [p, Bool.not_true, Bool.false_eq_true, if_false, if_neg hnumber, hrole', ne_eq, not_true_eq_false]
    have hleft := takeApply_applies (p := p) (s := gathered u) ⟨hrun'.kiln, hrun'.rick, hrun'.bank, hrun'.cord, hrun'.intact, hrun'.runtime, hrun'.rickUp,
      hrun'.loud, hrun'.ember, hrun'.power, hrun'.reset, hrun'.clocks⟩ hsync' hcheck' hresume
      (show 12000000000 ≤ cfgTokens u.jrn u.now by rw [hjrn, hnow]; exact hopen) (show u.cyc.beat.toNat < b.toNat by rw [hcyc]; exact hbeat)
    rw [hbody]
    refine ⟨hleft.taken.trans (by rw [← hod]; rfl), cfgVal_of_insertVal hleft.vals, hleft.agree, hleft.peer, ?_, ?_, hleft.mem.trans hmem⟩
    · rw [settle_pair_role, hleft.pair]
      exact hrole'
    · rw [settle_pair_sub, hleft.pair]
      exact hsync'
  case ack =>
    intro n h p x s hrun hrec hrole hfind hid
    have hbody : flueBody n (frame 2 h p) (flueHeard n (frame 2 h p) s) = onAck { p with op := 2 } (flueHeard n (frame 2 h p) s) :=
      if_neg (by simp [running_runtimeLive (flueHeard_running n (frame 2 h p) hrun)])
    refine answers_frame hrun hrec rfl ?_
    rw [hbody, onAck_agrees (p := { p with op := 2 }) (x := x) (by simpa) (by simpa) hid]
    simp [hrole]
  case nack =>
    intro n h p s hrun hrec hrole
    have hbody : flueBody n (frame 3 h p) (flueHeard n (frame 3 h p) s) = onNack { p with op := 3 } (flueHeard n (frame 3 h p) s) :=
      if_neg (by simp [running_runtimeLive (flueHeard_running n (frame 3 h p) hrun)])
    refine answers_frame hrun hrec rfl ?_
    rw [hbody, onNack, if_neg (by simp [hrole])]
    simp [hrole]
  case forward =>
    intro n h e txn s p hrun hrec hwhole hrole hparts hindex hsub hopen
    have hlive := running_runtimeLive (flueHeard_running n (frame 4 h p) hrun)
    have hheard : (flueHeard n (frame 4 h p) s).pair.role = .active ∧ (flueHeard n (frame 4 h p) s).od = s.od ∧
        (flueHeard n (frame 4 h p) s).jrn = s.jrn ∧ (flueHeard n (frame 4 h p) s).now = s.now ∧
        (flueHeard n (frame 4 h p) s).cyc = s.cyc ∧ (flueHeard n (frame 4 h p) s).mem = s.mem ∧ Running (flueHeard n (frame 4 h p) s) :=
      ⟨by simpa, by simp, by simp, by simp, by simp, by simp, flueHeard_running n _ hrun⟩
    refine answers_frame hrun hrec rfl ?_
    show _ ∧ _
    generalize flueHeard n (frame 4 h p) s = u at *
    obtain ⟨hrole', hod, hjrn, hnow, hcyc, hmem, hrun'⟩ := hheard
    let a : Asker := { client := none, forward := some txn, slot := h.src, session := 0 }
    have hbody : flueBody n (frame 4 h p) u = copiedAccept a 0x1100 6 e.value (cfgDraw (gathered u)) := by
      show onObjWrite h.src (bit h.flags 1) p u = _
      rw [onObjWrite, hlive, hwhole, gather_whole (e := e) (by rw [hod]; exact hparts) rfl]
      have hforward := onForward_presence (src := h.src) (p := p) (e := e) (s := gathered u) ⟨hrun'.kiln, hrun'.rick, hrun'.bank, hrun'.cord, hrun'.intact,
        hrun'.runtime, hrun'.rickUp, hrun'.loud, hrun'.ember, hrun'.power, hrun'.reset, hrun'.clocks⟩ hindex hsub
        (show 12000000000 ≤ cfgTokens u.jrn u.now by rw [hjrn, hnow]; exact hopen)
      simpa [p, hrole'] using hforward
    have hleft := copiedAccept_left (idx := 0x1100) (by decide) a 6 e.value (cfgDraw (gathered u))
    have hbeat : applyBeat u = applyBeat s := by rw [applyBeat, hcyc, hnow, applyBeat]
    rw [hbody]
    refine ⟨⟨copiedTxn a 0x1100 6 e.value (cfgDraw (gathered u)), hleft.txns.trans (by rw [← hod]; rfl), rfl, rfl, hbeat, rfl⟩,
      cfgVal_of_insertVal (hleft.vals rfl), ?_, hleft.mem.trans hmem⟩
    rw [settle_pair_role, hleft.pair]
    exact hrole'
  case result =>
    intro n h p f c s hrun hrec hfind hclient hplain u
    have hbody : flueBody n (frame 5 h p) u = onResult { p with op := 5 } u :=
      if_neg (by simp [running_runtimeLive (flueHeard_running n (frame 5 h p) hrun), u])
    have hod : u.od = s.od := flueHeard_od ..
    refine congrArg finish ((flueRx_received hrun hrec).trans (hbody.trans ((onResult_told (by rw [hod]; exact hfind) hclient hplain).trans ?_)))
    rw [hod]
  case timeout =>
    intro f c s hrun hfind hclient hrole
    refine congrArg finish ((if_pos (running_runtimeLive hrun)).trans ?_)
    simp [forwardTimeout, hfind, hclient, hrole]

end Sys2Proof.Proofs

/-! PROOF. Fencing, the claim record, joins and starts of a pair (02 R60 to R79). -/

namespace Sys2Proof.Laws

open Sys2Proof Sys2Proof.Machine Sys2Proof.Safety

/-- The registers of the pair in a FENCED module. -/
theorem fence_pair (heardE : Word) (path : Nat) (sender : List Byte) (s : State) :
    (fence heardE path sender s).pair = { s.pair with
      role := .fenced, sub := .none, armed := false, driving := false, outEn := false, switch := none, switchSeen := none
      fenceMark := true, recBusy := true, intStatus := setBit s.pair.intStatus 7 } := by
  simp [fence, pairInt_eq, clearTwin, runsTasks]

/-- A claim record of the bytes `rec` written, `j` the journal's state after its draw. -/
def recordStored (rec : List Byte) (j : Jrn) (s : State) : State := { s with
  mem := writeBytes s.mem (claimAddr s.pair.recSecond) rec, jrn := j
  pair := { s.pair with recSeq := s.pair.recSeq + 1, recSecond := !s.pair.recSecond, recBusy := false, recFailed := false } }

theorem ackSwitch_none {s : State} (h : s.pair.switchSeen = none) : ackSwitch s = s := by
  unfold ackSwitch
  rw [h]

theorem recordDone_stored {s : State} (hrun : Running s) (hbusy : s.pair.recBusy = true) (hseen : s.pair.switchSeen = none) :
    ∃ j, recordDone true s = recordStored (claimRecord s) j s := by
  have hpass : ¬ ((!s.pair.recBusy || s.sup.bankHeld) = true) := by simp [hbusy, hrun.bank]
  refine ⟨{ s.jrn with cfgNano := cfgTokens s.jrn s.now - 12000000000, cfgAt := s.now }, ?_⟩
  unfold recordDone recordStored
  rw [if_neg hpass, if_pos rfl]
  generalize claimRecord s = rec
  exact ackSwitch_none hseen

theorem length_claimRecord (s : State) : (claimRecord s).length = 32 := by simp [claimRecord, le4, le8, u8, zeros]

/-- The registers of the pair after START_ALONE (R67). -/
theorem startAlone_registers {s : State} (hstart : mayStart s = true) (hactive : anySeen s .active = false) (hstandby : anySeen s .standby = false)
    (hupdate : anySeen s .update = false) (hwins : winsStart s = true) (hepoch : epochExhausted s = false) :
    (startAlone s).pair.role = .active ∧ (startAlone s).pair.epoch = nextEpoch s ∧ (startAlone s).pair.driving = true ∧
      (startAlone s).pair.recBusy = true := by
  unfold startAlone
  rw [if_neg (by simp [hstart, hactive, hstandby, hupdate, hwins]), if_neg (by simp [hepoch])]
  simp [heardEpoch, nextEpoch]

/-- The epoch of a module whose partner died: the next one, its claim without the dead one. -/
theorem deadEpoch_takes {x : Slot} {s : State} (hclaimed : s.pair.claimed = []) (hepoch : epochExhausted s = false) :
    deadEpoch x s = pairPost 0x0105 [] (takeEpoch (nextEpoch s) 3 (goodStanding s &&& ~~~(memberBit x)) s) := by
  unfold deadEpoch
  dsimp only
  rw [if_neg (by simp [hclaimed]), if_neg (by simp [hepoch])]

theorem bit_memberBit (x : Slot) : bit (memberBit x) (slotNo x) = true := by cases x <;> decide

theorem peerOf_setPeer_same (p : Pair) (x : Slot) (q : Peer) : peerOf (setPeer p x q) x = q := by cases x <;> rfl

/-- Claims, interrupts and messages that follow the death keep the registers of the peers. -/
theorem partnerDead_pair {x : Slot} {s : State} (hrun : Running s) (hrole : s.pair.role = .active) (hx : x ≠ mySlot s)
    (halive : (peerOf s.pair x).dead = false) (hseen : (peerOf s.pair x).role = some .standby) (hclaimed : s.pair.claimed = [])
    (hepoch : epochExhausted s = false) :
    let p := setPeer s.pair x { peerOf s.pair x with dead := true }
    (partnerDead x s).pair = { p with
      epoch := nextEpoch s, claimed := [nextEpoch s], epochAt := s.now, recBusy := true, claimLeft := 8, claimReason := 3
      claimMembers := goodStanding { s with pair := p } &&& ~~~(memberBit x), intStatus := setBit (setBit p.intStatus 2) 6 } := by
  intro p
  have hnext : nextEpoch { s with pair := p } = nextEpoch s := by cases x <;> rfl
  have hroom : epochExhausted { s with pair := p } = false := by rw [← hepoch]; cases x <;> rfl
  have hnone : p.claimed = [] := by rw [← hclaimed]; cases x <;> rfl
  have hpass : ¬ ((!rickFull s || s.pair.role != .active || x == mySlot s || (peerOf s.pair x).dead ||
      !((peerOf s.pair x).role == some .active || (peerOf s.pair x).role == some .standby)) = true) := by
    simp [running_rickFull hrun, hrole, hx, halive, hseen]
  unfold partnerDead
  dsimp only
  rw [if_neg hpass, deadEpoch_takes hnone hroom, hnext]
  generalize hu : releaseToken (fun h => h.slot == x) (pairPost 0x0102 [] (pairInt 6 (pairPost 0x0105 []
    (takeEpoch (nextEpoch s) 3 (goodStanding { s with pair := p } &&& ~~~(memberBit x)) { s with pair := p })))) = u
  have hpair : u.pair = { p with
      epoch := nextEpoch s, claimed := [nextEpoch s], epochAt := s.now, recBusy := true, claimLeft := 8, claimReason := 3
      claimMembers := goodStanding { s with pair := p } &&& ~~~(memberBit x), intStatus := setBit (setBit p.intStatus 2) 6 } := by
    rw [← hu]
    simp [pairInt_eq, pairPost, hnone]
  generalize hw : (if (standbySlot u).isNone then { clearTwin u with flu := { (clearTwin u).flu with resync := {} } } else u : State) = w
  have hwpair : w.pair = u.pair := by
    rw [← hw]
    split <;> rfl
  split
  · simpa [sendPromote, hwpair] using hpair
  · exact hwpair.trans hpair

end Sys2Proof.Laws

namespace Sys2Proof.Proofs

open Sys2Proof Sys2Proof.Machine Sys2Proof.Safety Sys2Proof.Laws

/-- Settles O11: each case by the branch that its premises choose and the registers that it leaves. -/
theorem claimsComplete : Obligations.ClaimsComplete := by
  unfold Obligations.ClaimsComplete
  refine ⟨?fenced, ?stored, ?failed, ?join, ?start, ?window, ?dead, ?selfTest⟩
  case fenced =>
    intro x s hrun hrole hfirst hquiet
    have hall : (others s).all (fun y => match (peerOf s.pair y).claimAt with
        | some c => decide (c < (peerOf s.pair x).togAt)
        | none => true) = true := List.all_eq_true.mpr fun y hy => by rw [hquiet y hy]
    have hfence : foreignFence s = fence s.pair.epochSeen 0x20 (u8 (slotNo x)) s := by
      unfold foreignFence
      rw [hfirst]
      exact if_pos (by rw [running_rickLive hrun, hrole]; exact hall)
    have hpair := fence_pair s.pair.epochSeen 0x20 (u8 (slotNo x)) s
    have hbit : bit (setBit s.pair.intStatus 7) 7 = true := bit_setBit_same _ (by decide)
    refine answers_of_finish (congrArg finish hfence) (by simpa using hrun.loud) ?_
    dsimp only
    rw [hpair]
    exact ⟨rfl, rfl, rfl, rfl, rfl, rfl, rfl, hbit, by simp⟩
  case stored =>
    intro s hrun hbusy hseen
    obtain ⟨j, hstored⟩ := recordDone_stored hrun hbusy hseen
    have hlength := length_claimRecord s
    refine answers_of_finish (congrArg finish hstored) hrun.loud ?_
    generalize claimRecord s = rec at hlength ⊢
    refine ⟨rfl, rfl, rfl, rfl, fun hwf => ?_, fun a ha => ?_, rfl⟩
    · have hread := readBytes_writeBytes hwf (claimAddr s.pair.recSecond) rec
      rwa [hlength] at hread
    · exact readByte_writeBytes_other s.mem rec (by rw [hlength]; exact ha)
  case failed =>
    intro s hrun hbusy
    have hpass : ¬ ((!s.pair.recBusy || s.sup.bankHeld) = true) := by simp [hbusy, hrun.bank]
    refine congrArg finish (((if_neg hpass).trans (if_neg Bool.false_ne_true)).trans ?_)
    simp
  case join =>
    intro t0 s hrun hjoin hrole
    refine ⟨congrArg finish (if_pos (by simp [running_rickFull hrun, hjoin, hrole])), fun x hx => ?_⟩
    unfold sendJoin
    rw [hx]
    exact ⟨_, rfl, rfl, rfl⟩
  case start =>
    intro s hrun hrole hkey hlever hprog hcord hdiv hslot hpermit hactive hstandby hupdate hwins hepoch
    have hstart : mayStart s = true := by
      simp [mayStart, hrole, hkey, hlever, hprog, hcord, hdiv, hslot, hpermit, running_runtimeLive hrun]
    have hregs := startAlone_registers hstart hactive hstandby hupdate hwins hepoch
    exact answers_of_finish (u := startAlone s) rfl (by simpa using hrun.loud) hregs
  case window =>
    intro n w s hn hlen hwindow hheard
    let u := setSeg n (fun g => { g with window := none }) s
    have hseg : segOf u n = { segOf s n with window := none } := (getD_modAt ..).trans (if_pos ⟨rfl, by omega⟩)
    have hclose : exec (.startWindowClose n) s = finish u := by
      refine congrArg finish ?_
      rw [hwindow]
      exact if_pos (by rw [hheard]; rfl)
    refine answers_settled hclose ?_
    have hfol : segOf (settle u) n = segOf u n := rfl
    rw [hfol, hseg]
    exact ⟨rfl, rfl, rfl, rfl, rfl⟩
  case dead =>
    intro x s hrun hrole hx halive hseen hnever hclaimed hepoch
    have hpair := partnerDead_pair hrun hrole hx halive hseen hclaimed hepoch
    have hbit : bit (goodStanding { s with pair := setPeer s.pair x { peerOf s.pair x with dead := true } } &&& ~~~(memberBit x)) (slotNo x) = false := by
      have hlt : slotNo x < 3 := by cases x <;> decide
      rw [bit_and, bit_not _ hlt, bit_memberBit]
      simp
    have hint (w : Word) : bit (setBit w 6) 6 = true := bit_setBit_same _ (by decide)
    have hactive : (setPeer s.pair x { peerOf s.pair x with dead := true }).role = .active := (setPeer_role ..).trans hrole
    have hdead : (peerOf (setPeer s.pair x { peerOf s.pair x with dead := true }) x).dead = true := by rw [peerOf_setPeer_same]
    refine answers_of_finish (u := partnerDead x s) rfl (by simpa using hrun.loud) ?_
    dsimp only
    rw [hpair]
    exact ⟨by cases x <;> exact hdead, hactive, rfl, rfl, hbit, hint _⟩
  case selfTest =>
    intro t0 s hrun hrole hself
    have hpass : ¬ (s.pair.role ≠ .reserve ∨ s.pair.selfTest.isNone) := by simp [hrole, hself]
    exact congrArg finish ((if_pos (running_runtimeLive hrun)).trans (if_neg hpass))

end Sys2Proof.Proofs

/-! PROOF. The planned switchover, the promotion of the reserve and the keyswitch (02 R85 to R95; 15). -/

namespace Sys2Proof.Laws

open Sys2Proof Sys2Proof.Machine Sys2Proof.Safety

/-- A command word of PAIR_CMD with its key, in machine mode. -/
theorem pairCmd_switchover {s : State} (hrun : Running s) (hrole : s.pair.role = .active) :
    pairCmd .m 0xC1A10001 s = (cmdStatus 1 (requestSwitch 0 false s)).1 := by
  have hnot : ¬ s.pair.role = .standby := by simp [hrole]
  simp [pairCmd, fld, running_runtimeLive hrun, running_rickLive hrun, hrole]

theorem pairCmd_promote {s : State} (hrun : Running s) : pairCmd .m 0xC1A10003 s = (cmdStatus 3 (promoteReserve s)).1 := by
  simp [pairCmd, fld, running_runtimeLive hrun, running_rickLive hrun]

/-- Before phase 2 there is no resync to end. -/
theorem endResync_idle {s : State} (h : s.flu.resync.phase = 0) : endResync s = s := by simp [endResync, h]

theorem takeToken_pair (h : Holder) (s : State) : (takeToken h s).pair = s.pair := by simp [takeToken]

/-- A switchover that nothing stands against waits for its point, told to the standby. -/
theorem beginSwitch_leaves {x : Slot} {s : State} (hx : standbySlot s = some x) (service : Bool) :
    (beginSwitch service s).pair = { s.pair with switch := some { beat := switchBeat s, epoch := nextEpoch s, acked := false, service := service } } ∧
      (beginSwitch service s).mnt.holders = s.mnt.holders ∧ (beginSwitch service s).mem = s.mem ∧
      (beginSwitch service s).sup.failSilent = s.sup.failSilent := by
  have hseen : standbySlot { s with pair := { s.pair with
      switch := some { beat := switchBeat s, epoch := nextEpoch s, acked := false, service := service } } } = some x := hx
  unfold beginSwitch
  dsimp only
  rw [hseen]
  simp

theorem switchBeat_ahead (s : State) : s.cyc.beat.toNat + 4 ≤ switchBeat s := by
  unfold switchBeat
  dsimp only
  split <;> split <;> omega

theorem requestSwitch_refused {s : State} (hphase : s.flu.resync.phase = 0) (hnone : standbySlot s = none) :
    requestSwitch 0 false s = (s, 0x2202) := by
  have hcheck : switchCheck s = 0x2202 := by rw [switchCheck, hnone]
  simp [requestSwitch, endResync_idle hphase, hcheck]

theorem requestSwitch_begins {s : State} (hphase : s.flu.resync.phase = 0) (hcheck : switchCheck s = 0) (hfree : tokenFree s (ownHolder s 1 0 0) = true) :
    requestSwitch 0 false s = (beginSwitch false (takeToken (ownHolder s 1 0 0) s), 0) := by
  simp [requestSwitch, endResync_idle hphase, hcheck, hfree]

/-- What a switchover that is cancelled leaves of the registers. -/
theorem cancelSwitch_leaves (s : State) :
    (cancelSwitch s).pair = { s.pair with
      switch := none, cmdState := if s.pair.cmdState = 1 then 4 else s.pair.cmdState, intStatus := setBit (setBit s.pair.intStatus 4) 0 } ∧
      (cancelSwitch s).mnt.holders = s.mnt.holders.filter (fun h => h.code != 1) ∧ (cancelSwitch s).mem = s.mem ∧
      (cancelSwitch s).sup.failSilent = s.sup.failSilent := by
  unfold cancelSwitch
  refine ⟨?_, ?_, ?_, ?_⟩
  · simp [pairInt_eq, pairPost]
  · rw [releaseToken_holders]
    simp [pairInt_eq, pairPost, bne]
  · simp
  · simp

/-- The former ACTIVE after the switch point: a standby whose twin tasks go on. -/
theorem switchPoint_leaves {w : SwOver} {s : State} (hrole : s.pair.role = .active) (hswitch : s.pair.switch = some w) (hacked : w.acked = true) :
    (switchPoint s).pair.role = .standby ∧ (switchPoint s).pair.sub = .resync ∧ (switchPoint s).pair.driving = false ∧
      (switchPoint s).pair.outEn = false ∧ (switchPoint s).pair.switch = none ∧ (switchPoint s).pair.leaving = true ∧
      (switchPoint s).flu.resync.phase = 5 ∧ (switchPoint s).pair.epoch = s.pair.epoch ∧ (switchPoint s).mem = s.mem ∧
      (switchPoint s).sup.failSilent = s.sup.failSilent := by
  have hpass : ¬ (s.pair.role ≠ .active ∨ (!w.acked) = true) := by simp [hrole, hacked]
  unfold switchPoint
  rw [hswitch]
  dsimp only
  rw [if_neg hpass]
  simp [fluInt_flu, twinAll]

/-- The keyswitch turned to SERVICE under an ACTIVE module is told, and starts nothing. -/
theorem keyChange_service {s : State} (hrun : Running s) (hkey : s.hw.key = .run) (hrole : s.pair.role = .active) :
    keyChange .service s = debugPort (hwPost 0x0C06 (u8 (keyNo .service)) (hwFlag 3 { s with hw := { s.hw with key := .service } })) := by
  have hturn : ¬ (s.hw.key = .service ∨ (!hearthOn s) = true) := by simp [hkey, running_hearthOn hrun]
  have hplain : keyRestarts s .service = false := by simp [keyRestarts, hkey]
  unfold keyChange
  dsimp only
  rw [if_neg hturn, hplain, if_neg Bool.false_ne_true, if_pos rfl]
  exact if_neg (by simp [hrole, hwPost, hwFlag])

end Sys2Proof.Laws

namespace Sys2Proof.Proofs

open Sys2Proof Sys2Proof.Machine Sys2Proof.Safety Sys2Proof.Laws

/-- Settles O13: each command by the branch that its premises choose and what it leaves. -/
theorem switchoversComplete : Obligations.SwitchoversComplete := by
  unfold Obligations.SwitchoversComplete
  refine ⟨?begin, ?refused, ?late, ?point, ?promote, ?key⟩
  case begin =>
    intro m x s hrun hrole hphase hx hcheck hfree
    let v := takeToken (ownHolder s 1 0 0) s
    have hv : v.pair = s.pair ∧ v.hw = s.hw ∧ v.now = s.now ∧ v.cyc = s.cyc ∧ v.chg = s.chg ∧ v.mem = s.mem ∧
        v.sup.failSilent = s.sup.failSilent ∧ v.mnt.holders = s.mnt.holders ++ [ownHolder s 1 0 0] := by simp [v, takeToken]
    obtain ⟨hpair, hhw, hnow, hcyc, hchg, hmem, hsilent, hholders⟩ := hv
    have hseen : standbySlot v = some x := by
      have hsame : seenIn v .standby = seenIn s .standby := by
        funext y
        have hheard : heard v y = heard s y := by unfold heard deadNs; rw [hpair, hnow]
        unfold seenIn
        rw [hheard, hpair]
      rw [standbySlot, hsame, others_congr hhw]
      exact hx
    have hbeat : switchBeat v = switchBeat s := by simp only [switchBeat, hcyc, hnow, hchg]
    have hepoch : nextEpoch v = nextEpoch s := by simp only [nextEpoch, heardEpoch, hpair]
    obtain ⟨hpair', hholders', hmem', hsilent'⟩ := beginSwitch_leaves hseen false
    have hcmd : pairCmd .m 0xC1A10001 s = { beginSwitch false v with pair := { (beginSwitch false v).pair with
        cmdLast := 1, cmdState := 1, cmdAbort := 0 } } := by
      rw [pairCmd_switchover hrun hrole, requestSwitch_begins hphase hcheck hfree]
      rfl
    refine answers_of_finish (congrArg finish hcmd) (hsilent'.trans (hsilent.trans hrun.loud)) ?_
    dsimp only
    rw [hpair', hpair, hbeat, hepoch]
    exact ⟨rfl, switchBeat_ahead s, rfl, hrole, rfl, hholders'.trans hholders, hmem'.trans hmem⟩
  case refused =>
    intro m s hrun hrole hphase hnone u
    refine congrArg finish ?_
    show pairCmd .m 0xC1A10001 s = _
    rw [pairCmd_switchover hrun hrole, requestSwitch_refused hphase hnone]
    rfl
  case late =>
    intro w s hrun hrole hswitch hacked
    have hcancel : exec .switchAckTimeout s = finish (cancelSwitch s) := by
      refine congrArg finish ((if_pos (running_rickLive hrun)).trans ?_)
      simp [switchNoAck, hswitch, hrole, hacked]
    obtain ⟨hpair, hholders, hmem, hsilent⟩ := cancelSwitch_leaves s
    refine answers_of_finish hcancel (hsilent.trans hrun.loud) ?_
    dsimp only
    rw [hpair]
    exact ⟨rfl, fun h => if_pos h, hrole, rfl, hholders, hmem⟩
  case point =>
    intro w s hrun hrole hswitch hacked
    obtain ⟨hstandby, hsub, hdriving, hout, hnone, hleaving, hphase, hepoch, hmem, hsilent⟩ := switchPoint_leaves hrole hswitch hacked
    exact answers_of_finish (u := switchPoint s) (congrArg finish (if_pos (running_rickLive hrun))) (hsilent.trans hrun.loud)
      ⟨hstandby, hsub, hdriving, hout, hnone, hleaving, hphase, hepoch, hmem⟩
  case promote =>
    intro m s hrun hrole hreserve u
    have hpromote : promoteReserve s = (sendPromote 0 s, 0) := by simp [promoteReserve, hrole, hreserve]
    refine congrArg finish ?_
    show pairCmd .m 0xC1A10003 s = _
    rw [pairCmd_promote hrun, hpromote]
    rfl
  case key =>
    intro s hrun hkey hrole hlever hdebug
    refine answers_of_finish (congrArg finish (keyChange_service hrun hkey hrole)) (by simpa [hwPost, hwFlag] using hrun.loud) ?_
    have hbit : bit (setBit s.hw.flags 3) 3 = true := bit_setBit_same _ (by decide)
    simp [hwPost, hwFlag, hbit, hrole]

end Sys2Proof.Proofs

/-! PROOF. Field ports and stations (06 R198 to R231). -/

namespace Sys2Proof.Laws

open Sys2Proof Sys2Proof.Machine Sys2Proof.Safety

-- the injector keeps the token table -------------------------------------------------------------------------------------------

theorem fijFolTx_holders (m : Mnt) (now port : Nat) (f : FolFrame) : (fijFolTx m now port f).1.holders = m.holders := by
  have hrule := fijRule_comm_holders m (2 * port) (folType f.body) (some f.hdr.station) (38 + (folPayload f.body).length)
  unfold fijFolTx
  dsimp only
  split
  · rfl
  · generalize fijRule m (2 * port) (folType f.body) (some f.hdr.station) (38 + (folPayload f.body).length) = r at hrule ⊢
    split <;> exact hrule.2

@[simp] theorem portSend_mnt_holders (n : Nat) (f : FolFrame) (s : State) : (portSend n f s).mnt.holders = s.mnt.holders := by
  unfold portSend
  split
  · rfl
  · exact fijFolTx_holders s.mnt s.now n f

@[simp] theorem foldl_fol_stations {α : Type} {f : State → α → State} (hf : ∀ s x, (f s x).fol.stations = s.fol.stations) (xs : List α) (s : State) :
    (xs.foldl f s).fol.stations = s.fol.stations := by
  induction xs generalizing s with
  | nil => rfl
  | cons x xs ih => exact (ih _).trans (hf s x)
@[simp] theorem ite_fol_stations (c : Prop) [Decidable c] (s t : State) : (if c then s else t).fol.stations = if c then s.fol.stations else t.fol.stations := by
  split <;> rfl
@[simp] theorem ite_unit_fol_stations (c : Prop) [Decidable c] (a b : Fol) : (if c then a else b).stations = if c then a.stations else b.stations := by
  split <;> rfl
@[simp] theorem foldl_fol_segs {α : Type} {f : State → α → State} (hf : ∀ s x, (f s x).fol.segs = s.fol.segs) (xs : List α) (s : State) :
    (xs.foldl f s).fol.segs = s.fol.segs := by
  induction xs generalizing s with
  | nil => rfl
  | cons x xs ih => exact (ih _).trans (hf s x)
@[simp] theorem ite_fol_segs (c : Prop) [Decidable c] (s t : State) : (if c then s else t).fol.segs = if c then s.fol.segs else t.fol.segs := by
  split <;> rfl
@[simp] theorem ite_unit_fol_segs (c : Prop) [Decidable c] (a b : Fol) : (if c then a else b).segs = if c then a.segs else b.segs := by
  split <;> rfl
@[simp] theorem foldl_fol_cnts {α : Type} {f : State → α → State} (hf : ∀ s x, (f s x).fol.cnts = s.fol.cnts) (xs : List α) (s : State) :
    (xs.foldl f s).fol.cnts = s.fol.cnts := by
  induction xs generalizing s with
  | nil => rfl
  | cons x xs ih => exact (ih _).trans (hf s x)
@[simp] theorem ite_fol_cnts (c : Prop) [Decidable c] (s t : State) : (if c then s else t).fol.cnts = if c then s.fol.cnts else t.fol.cnts := by
  split <;> rfl
@[simp] theorem ite_unit_fol_cnts (c : Prop) [Decidable c] (a b : Fol) : (if c then a else b).cnts = if c then a.cnts else b.cnts := by
  split <;> rfl
@[simp] theorem foldl_fol_ports {α : Type} {f : State → α → State} (hf : ∀ s x, (f s x).fol.ports = s.fol.ports) (xs : List α) (s : State) :
    (xs.foldl f s).fol.ports = s.fol.ports := by
  induction xs generalizing s with
  | nil => rfl
  | cons x xs ih => exact (ih _).trans (hf s x)
@[simp] theorem ite_fol_ports (c : Prop) [Decidable c] (s t : State) : (if c then s else t).fol.ports = if c then s.fol.ports else t.fol.ports := by
  split <;> rfl
@[simp] theorem ite_unit_fol_ports (c : Prop) [Decidable c] (a b : Fol) : (if c then a else b).ports = if c then a.ports else b.ports := by
  split <;> rfl
@[simp] theorem foldl_fol_gateRsts {α : Type} {f : State → α → State} (hf : ∀ s x, (f s x).fol.gateRsts = s.fol.gateRsts) (xs : List α) (s : State) :
    (xs.foldl f s).fol.gateRsts = s.fol.gateRsts := by
  induction xs generalizing s with
  | nil => rfl
  | cons x xs ih => exact (ih _).trans (hf s x)
@[simp] theorem ite_fol_gateRsts (c : Prop) [Decidable c] (s t : State) : (if c then s else t).fol.gateRsts = if c then s.fol.gateRsts else t.fol.gateRsts := by
  split <;> rfl
@[simp] theorem ite_unit_fol_gateRsts (c : Prop) [Decidable c] (a b : Fol) : (if c then a else b).gateRsts = if c then a.gateRsts else b.gateRsts := by
  split <;> rfl
@[simp] theorem setPort_fol_stations_fol_segs_fol_cnts_fol_gateRsts_mnt_holders (n : Nat) (f : Port → Port) (s : State) :
    (setPort n f s).fol.stations = s.fol.stations ∧ (setPort n f s).fol.segs = s.fol.segs ∧ (setPort n f s).fol.cnts = s.fol.cnts ∧ (setPort n f s).fol.gateRsts = s.fol.gateRsts ∧ (setPort n f s).mnt.holders = s.mnt.holders := by
  refine ⟨?_, ?_, ?_, ?_, ?_⟩ <;> (unfold setPort; rfl)
@[simp] theorem setCnt_fol_stations_fol_segs_fol_ports_fol_gateRsts_mnt_holders (n : Nat) (f : PortCnt → PortCnt) (s : State) :
    (setCnt n f s).fol.stations = s.fol.stations ∧ (setCnt n f s).fol.segs = s.fol.segs ∧ (setCnt n f s).fol.ports = s.fol.ports ∧ (setCnt n f s).fol.gateRsts = s.fol.gateRsts ∧ (setCnt n f s).mnt.holders = s.mnt.holders := by
  refine ⟨?_, ?_, ?_, ?_, ?_⟩ <;> (unfold setCnt; rfl)
@[simp] theorem setSeg_fol_stations_fol_cnts_fol_ports_fol_gateRsts_mnt_holders (n : Nat) (f : Seg → Seg) (s : State) :
    (setSeg n f s).fol.stations = s.fol.stations ∧ (setSeg n f s).fol.cnts = s.fol.cnts ∧ (setSeg n f s).fol.ports = s.fol.ports ∧ (setSeg n f s).fol.gateRsts = s.fol.gateRsts ∧ (setSeg n f s).mnt.holders = s.mnt.holders := by
  refine ⟨?_, ?_, ?_, ?_, ?_⟩ <;> (unfold setSeg; rfl)
@[simp] theorem fptInt_fol_stations_fol_segs_fol_cnts_fol_gateRsts_mnt_holders (n b : Nat) (s : State) :
    (fptInt n b s).fol.stations = s.fol.stations ∧ (fptInt n b s).fol.segs = s.fol.segs ∧ (fptInt n b s).fol.cnts = s.fol.cnts ∧ (fptInt n b s).fol.gateRsts = s.fol.gateRsts ∧ (fptInt n b s).mnt.holders = s.mnt.holders := by
  unfold fptInt; simp
@[simp] theorem fptPost_fol_mnt_holders (n code : Nat) (data : List Byte) (s : State) :
    (fptPost n code data s).fol = s.fol ∧ (fptPost n code data s).mnt.holders = s.mnt.holders := by
  unfold fptPost; simp
@[simp] theorem portSend_fol_stations_fol_segs_fol_cnts_fol_gateRsts (n : Nat) (f : FolFrame) (s : State) :
    (portSend n f s).fol.stations = s.fol.stations ∧ (portSend n f s).fol.segs = s.fol.segs ∧ (portSend n f s).fol.cnts = s.fol.cnts ∧ (portSend n f s).fol.gateRsts = s.fol.gateRsts := by
  unfold portSend; simp
@[simp] theorem endSend_fol_stations_fol_segs_fol_cnts_fol_gateRsts_mnt_holders (n end_ : Nat) (f : FolFrame) (s : State) :
    (endSend n end_ f s).fol.stations = s.fol.stations ∧ (endSend n end_ f s).fol.segs = s.fol.segs ∧ (endSend n end_ f s).fol.cnts = s.fol.cnts ∧ (endSend n end_ f s).fol.gateRsts = s.fol.gateRsts ∧ (endSend n end_ f s).mnt.holders = s.mnt.holders := by
  unfold endSend; simp
@[simp] theorem windowSend_fol_stations_fol_segs_fol_cnts_fol_gateRsts_mnt_holders (n end_ : Nat) (f : FolFrame) (s : State) :
    (windowSend n end_ f s).fol.stations = s.fol.stations ∧ (windowSend n end_ f s).fol.segs = s.fol.segs ∧ (windowSend n end_ f s).fol.cnts = s.fol.cnts ∧ (windowSend n end_ f s).fol.gateRsts = s.fol.gateRsts ∧ (windowSend n end_ f s).mnt.holders = s.mnt.holders := by
  unfold windowSend; simp
@[simp] theorem svcToStation_fol_stations_fol_segs_fol_cnts_fol_gateRsts_mnt_holders (n end_ station : Nat) (op : Byte) (index sub : Nat) (data : List Byte) (s : State) :
    (svcToStation n end_ station op index sub data s).fol.stations = s.fol.stations ∧ (svcToStation n end_ station op index sub data s).fol.segs = s.fol.segs ∧ (svcToStation n end_ station op index sub data s).fol.cnts = s.fol.cnts ∧ (svcToStation n end_ station op index sub data s).fol.gateRsts = s.fol.gateRsts ∧ (svcToStation n end_ station op index sub data s).mnt.holders = s.mnt.holders := by
  unfold svcToStation; simp
@[simp] theorem relayCycleStarts_mnt_holders (s : State) : (relayCycleStarts s).mnt.holders = s.mnt.holders := by
  unfold relayCycleStarts; simp
@[simp] theorem putStation_fol_segs_fol_cnts_fol_ports_fol_gateRsts (x : Station) (s : State) :
    (putStation x s).fol.segs = s.fol.segs ∧ (putStation x s).fol.cnts = s.fol.cnts ∧ (putStation x s).fol.ports = s.fol.ports ∧ (putStation x s).fol.gateRsts = s.fol.gateRsts := by
  refine ⟨?_, ?_, ?_, ?_⟩ <;> (unfold putStation; rfl)
@[simp] theorem putQuality_fol_segs_fol_cnts_fol_ports_fol_gateRsts_mnt_holders (x : Station) (s : State) :
    (putQuality x s).fol.segs = s.fol.segs ∧ (putQuality x s).fol.cnts = s.fol.cnts ∧ (putQuality x s).fol.ports = s.fol.ports ∧ (putQuality x s).fol.gateRsts = s.fol.gateRsts ∧ (putQuality x s).mnt.holders = s.mnt.holders := by
  refine ⟨?_, ?_, ?_, ?_, ?_⟩ <;> (unfold putQuality; rfl)
@[simp] theorem stationWrite_fol_segs_fol_cnts_fol_gateRsts_mnt_holders (x : Nat) (index sub : Nat) (data : List Byte) (s : State) :
    (stationWrite x index sub data s).fol.segs = s.fol.segs ∧ (stationWrite x index sub data s).fol.cnts = s.fol.cnts ∧ (stationWrite x index sub data s).fol.gateRsts = s.fol.gateRsts ∧ (stationWrite x index sub data s).mnt.holders = s.mnt.holders := by
  unfold stationWrite; (repeat' split) <;> simp
@[simp] theorem configure_fol_segs_fol_cnts_fol_gateRsts_mnt_holders (x : Station) (s : State) :
    (configure x s).fol.segs = s.fol.segs ∧ (configure x s).fol.cnts = s.fol.cnts ∧ (configure x s).fol.gateRsts = s.fol.gateRsts ∧ (configure x s).mnt.holders = s.mnt.holders := by
  unfold configure; simp
@[simp] theorem becomePresent_fol_segs_fol_cnts_fol_gateRsts_mnt_holders (x : Station) (s : State) :
    (becomePresent x s).fol.segs = s.fol.segs ∧ (becomePresent x s).fol.cnts = s.fol.cnts ∧ (becomePresent x s).fol.gateRsts = s.fol.gateRsts ∧ (becomePresent x s).mnt.holders = s.mnt.holders := by
  unfold becomePresent; simp
@[simp] theorem becomeAbsent_fol_segs_fol_cnts_fol_ports_fol_gateRsts_mnt_holders (x : Station) (s : State) :
    (becomeAbsent x s).fol.segs = s.fol.segs ∧ (becomeAbsent x s).fol.cnts = s.fol.cnts ∧ (becomeAbsent x s).fol.ports = s.fol.ports ∧ (becomeAbsent x s).fol.gateRsts = s.fol.gateRsts ∧ (becomeAbsent x s).mnt.holders = s.mnt.holders := by
  refine ⟨?_, ?_, ?_, ?_, ?_⟩ <;> (unfold becomeAbsent; rfl)
@[simp] theorem becomeMismatch_fol_segs_fol_cnts_fol_gateRsts_mnt_holders (x : Station) (s : State) :
    (becomeMismatch x s).fol.segs = s.fol.segs ∧ (becomeMismatch x s).fol.cnts = s.fol.cnts ∧ (becomeMismatch x s).fol.gateRsts = s.fol.gateRsts ∧ (becomeMismatch x s).mnt.holders = s.mnt.holders := by
  unfold becomeMismatch; simp
@[simp] theorem topEpoch_fol_stations_fol_segs_fol_ports_fol_gateRsts_mnt_holders (n : Nat) (s : State) :
    (topEpoch n s).fol.stations = s.fol.stations ∧ (topEpoch n s).fol.segs = s.fol.segs ∧ (topEpoch n s).fol.ports = s.fol.ports ∧ (topEpoch n s).fol.gateRsts = s.fol.gateRsts ∧ (topEpoch n s).mnt.holders = s.mnt.holders := by
  unfold topEpoch; simp
@[simp] theorem probe_fol_stations_fol_segs_fol_cnts_fol_gateRsts_mnt_holders (x : Station) (e : Nat) (s : State) :
    (probe x e s).fol.stations = s.fol.stations ∧ (probe x e s).fol.segs = s.fol.segs ∧ (probe x e s).fol.cnts = s.fol.cnts ∧ (probe x e s).fol.gateRsts = s.fol.gateRsts ∧ (probe x e s).mnt.holders = s.mnt.holders := by
  unfold probe; simp
@[simp] theorem noteHyper_mnt_holders (s : State) : (noteHyper s).mnt.holders = s.mnt.holders := by
  unfold noteHyper; rfl
@[simp] theorem wakeAll_fol_stations_fol_segs_fol_cnts_fol_gateRsts_mnt_holders (n : Nat) (s : State) :
    (wakeAll n s).fol.stations = s.fol.stations ∧ (wakeAll n s).fol.segs = s.fol.segs ∧ (wakeAll n s).fol.cnts = s.fol.cnts ∧ (wakeAll n s).fol.gateRsts = s.fol.gateRsts ∧ (wakeAll n s).mnt.holders = s.mnt.holders := by
  unfold wakeAll; simp

-- ports, counters, segments ---------------------------------------------------------------------------------------------------

theorem portOf_setPort {n : Nat} {s : State} (h : n < s.fol.ports.length) (f : Port → Port) : portOf (setPort n f s) n = f (portOf s n) :=
  (getD_modAt ..).trans (if_pos ⟨rfl, h⟩)

theorem segOf_setSeg {n : Nat} {s : State} (h : n < s.fol.segs.length) (f : Seg → Seg) : segOf (setSeg n f s) n = f (segOf s n) :=
  (getD_modAt ..).trans (if_pos ⟨rfl, h⟩)

/-- The counters of a port. -/
def cntOf (s : State) (n : Nat) : PortCnt := s.fol.cnts.getD n {}

theorem cntOf_setCnt {n : Nat} {s : State} (h : n < s.fol.cnts.length) (f : PortCnt → PortCnt) : cntOf (setCnt n f s) n = f (cntOf s n) :=
  (getD_modAt ..).trans (if_pos ⟨rfl, h⟩)

theorem portOf_congr {s u : State} (h : u.fol.ports = s.fol.ports) (n : Nat) : portOf u n = portOf s n := by rw [portOf, h, portOf]
theorem segOf_congr {s u : State} (h : u.fol.segs = s.fol.segs) (n : Nat) : segOf u n = segOf s n := by rw [segOf, h, segOf]
theorem cntOf_congr {s u : State} (h : u.fol.cnts = s.fol.cnts) (n : Nat) : cntOf u n = cntOf s n := by rw [cntOf, h, cntOf]
theorem stationOf_congr {s u : State} (h : u.fol.stations = s.fol.stations) (x : Nat) : stationOf u x = stationOf s x := by rw [stationOf, h, stationOf]

theorem fptInt_fol (n b : Nat) (s : State) :
    (fptInt n b s).fol = (setPort n (fun p => { p with intStatus := setBit (portOf s n).intStatus b }) s).fol := by
  simp [fptInt, setPort]

theorem portOf_fptInt {n : Nat} {s : State} (b : Nat) (h : n < s.fol.ports.length) :
    portOf (fptInt n b s) n = { portOf s n with intStatus := setBit (portOf s n).intStatus b } :=
  (portOf_congr (by rw [fptInt_fol]) n).trans (portOf_setPort h (fun p => { p with intStatus := setBit (portOf s n).intStatus b }))

theorem length_setPort (n : Nat) (f : Port → Port) (s : State) : (setPort n f s).fol.ports.length = s.fol.ports.length := length_modAt ..

/-- An interrupt and an event of a port, as most of its reports have them. -/
theorem portOf_told {n : Nat} {s : State} (code b : Nat) (data : List Byte) (h : n < s.fol.ports.length) :
    portOf (fptPost n code data (fptInt n b s)) n = { portOf s n with intStatus := setBit (portOf s n).intStatus b } :=
  (portOf_congr (by simp) n).trans (portOf_fptInt b h)

theorem setCnt_setCnt (n : Nat) (f g : PortCnt → PortCnt) (s : State) : setCnt n g (setCnt n f s) = setCnt n (fun c => g (f c)) s := by
  have hlist : modAt (modAt s.fol.cnts n f) n g = modAt s.fol.cnts n (fun c => g (f c)) := by
    refine List.ext_getElem? fun j => ?_
    simp only [getElem?_modAt]
    split
    · rw [Option.map_map]; rfl
    · rfl
  exact congrArg (fun l => ({ s with fol := { s.fol with cnts := l } } : State)) hlist

-- stations --------------------------------------------------------------------------------------------------------------------

theorem find_replaced {xs : List Station} {x y : Station} (h : xs.find? (fun z => z.no == y.no) = some x) :
    (xs.map (fun z => if z.no = y.no then y else z)).find? (fun z => z.no == y.no) = some y := by
  have hsame : ((fun z : Station => z.no == y.no) ∘ fun z => if z.no = y.no then y else z) = fun z => z.no == y.no := by
    funext z
    by_cases hz : z.no = y.no
    · simp [hz]
    · simp [hz]
  have hx : x.no = y.no := by simpa using List.find?_some h
  rw [List.find?_map, hsame, h, Option.map_some, if_pos hx]

/-- A station's entry reads as it was put. -/
theorem stationOf_putStation {x y : Station} {s : State} (h : stationOf s y.no = some x) : stationOf (putStation y s) y.no = some y :=
  find_replaced h

theorem putQuality_stations (y : Station) (s : State) :
    (putQuality y s).fol.stations = (putStation { y with quality := qualityByte s.pair.epoch y } s).fol.stations := rfl

theorem stationOf_putQuality {x y : Station} {s : State} (h : stationOf s y.no = some x) :
    stationOf (putQuality y s) y.no = some { y with quality := qualityByte s.pair.epoch y } :=
  (stationOf_congr (putQuality_stations y s) y.no).trans (stationOf_putStation (y := { y with quality := qualityByte s.pair.epoch y }) h)

/-- A configuration write leaves a station but for its writes under way. -/
theorem stationOf_stationWrite {k : Nat} {y : Station} {s : State} (index sub : Nat) (data : List Byte) (h : stationOf s k = some y) (hk : y.no = k) :
    ∃ u w, stationOf (stationWrite k index sub data s) k = some { y with unacked := u, windows := w } := by
  unfold stationWrite
  rw [h]
  dsimp only
  split
  · exact ⟨y.unacked, y.windows, h⟩
  · refine ⟨y.unacked ++ [s.fol.tid], 3, (stationOf_congr (s := putStation { y with unacked := y.unacked ++ [s.fol.tid], windows := 3 } s) (by simp) k).trans ?_⟩
    rw [← hk]
    exact stationOf_putStation (y := { y with unacked := y.unacked ++ [s.fol.tid], windows := 3 }) (by rw [← hk] at h; exact h)

/-- A station that is configured again. -/
theorem stationOf_configure {x w : Station} {s : State} (h : stationOf s x.no = some w) :
    ∃ q u v, stationOf (configure x s) x.no = some { x with st := .configuring, quality := q, unacked := u, windows := v } := by
  let y : Station := { x with st := .configuring, unacked := [] }
  have h0 := stationOf_putQuality (y := y) h
  unfold configure
  dsimp only
  generalize hq : qualityByte s.pair.epoch y = q at h0
  generalize putQuality y s = s0 at h0 ⊢
  obtain ⟨u1, v1, h1⟩ := stationOf_stationWrite (stationIdx x.no 1) 1 (u8 x.cfg.subCnt) h0 rfl
  generalize stationWrite x.no (stationIdx x.no 1) 1 (u8 x.cfg.subCnt) s0 = s1 at h1 ⊢
  obtain ⟨u2, v2, h2⟩ := stationOf_stationWrite (stationIdx x.no 4) 1 (cfgVal s1 (stationIdx x.no 4) 1) h1 rfl
  generalize stationWrite x.no (stationIdx x.no 4) 1 (cfgVal s1 (stationIdx x.no 4) 1) s1 = s2 at h2 ⊢
  obtain ⟨u3, v3, h3⟩ := stationOf_stationWrite (stationIdx x.no 5) 1 (cfgVal s2 (stationIdx x.no 5) 1) h2 rfl
  generalize stationWrite x.no (stationIdx x.no 5) 1 (cfgVal s2 (stationIdx x.no 5) 1) s2 = s3 at h3 ⊢
  obtain ⟨u4, v4, h4⟩ := stationOf_stationWrite (0x1201 + x.cfg.seg) 9 (be4 (portOf s3 x.cfg.seg).cfgid.toNat) h3 rfl
  exact ⟨q, u4, v4, h4⟩

-- frames at a port -------------------------------------------------------------------------------------------------------------

/-- With no run of the injector and no frame held, a frame passes its port's receive rule. -/
theorem folRx_passes {n : Nat} {s : State} (f : FolFrame) (hrun : Running s) (hup : portUp s n = true) (hquiet : s.mnt.running = false)
    (hfree : s.mnt.held = []) : folRx n f s = folRxBody n f s := by
  have hrule : folRxRule n f s = (s, .passes, none) := by simp [folRxRule, heldBy, hfree, fijRule, hquiet]
  have hpass : ¬ ((!rickFull s || !portUp s n) = true) := by simp [running_rickFull hrun, hup]
  unfold folRx
  rw [if_neg hpass, hrule]

/-- A station's frame under the module's own epoch changes no role. -/
theorem stationEpochs_own {n station path : Nat} {e gate : Word} {s : State} (hepoch : e = s.pair.epoch) (htop : e ≠ 0xFFFFFFFF)
    (hgate : gate.toNat ≤ s.pair.epoch.toNat) (hwindow : (segOf s n).window = none) :
    stationEpochs n station e gate path s = (noteStationEpoch gate (noteStationEpoch e s), true) := by
  have hgateTop : gate ≠ 0xFFFFFFFF := fun h => by
    rw [h] at hgate
    have hmax : (0xFFFFFFFF : Word).toNat = 4294967295 := by decide
    have hlt := s.pair.epoch.isLt
    refine htop (hepoch.trans (BitVec.eq_of_toNat_eq ?_))
    omega
  have hhigher (snd : List Byte) : higherEpoch e path snd (noteStationEpoch gate (noteStationEpoch e s)) = noteStationEpoch gate (noteStationEpoch e s) :=
    if_pos (by rw [hepoch]; exact Nat.le_refl _)
  have hwin : (segOf (noteStationEpoch gate (noteStationEpoch e s)) n).window.isSome = false := by
    have hsame : segOf (noteStationEpoch gate (noteStationEpoch e s)) n = segOf s n := rfl
    rw [hsame, hwindow, Option.isSome_none]
  unfold stationEpochs
  rw [if_neg (not_or.mpr ⟨htop, hgateTop⟩)]
  simp only [hwin, Bool.and_false, Bool.false_eq_true, if_false, hhigher]

/-- An accepted INPUT of a PRESENT station. -/
def inputTaken (end_ : Nat) (h : FolHdr) (p : InputP) (x : Station) : Station := { x with
  got := true, noData := 0, lastStamp := h.stamp, filter := h.epoch, gate := p.gateEpoch, status := p.status, refusals := p.refusals
  cRefuse := satAdd x.cRefuse (p.refusals - x.refusals).toNat, endNow := end_
  cEnd := if x.endNow = end_ then x.cEnd else satInc x.cEnd }

theorem acceptInput_present {n end_ b : Nat} {h : FolHdr} {p : InputP} {x : Station} {s : State} (hx : stationOf s h.station = some x)
    (hseg : x.cfg.seg = n) (hstart : (segOf s n).start = some b) (hstamp : h.stamp = stampOf s n) (hlatch : pastLatch s x = false) (hgot : x.got = false)
    (hst : x.st = .present) (hmism : bit p.status 5 = false) :
    acceptInput n end_ true h p s = inputReports x (inputTaken end_ h p x) (putInput (inputTaken end_ h p x) p s) := by
  have hin : ¬ ((segOf s n).start.isNone = true ∨ h.stamp ≠ stampOf s n ∨ pastLatch s x = true) := by simp [hstart, hstamp, hlatch]
  unfold acceptInput inputTaken
  rw [hx]
  dsimp only
  rw [if_neg (by simp [hseg]), if_neg hin, hgot, if_neg Bool.false_ne_true, hst, hmism]
  rfl

theorem inputReports_stations (x y : Station) (s : State) : (inputReports x y s).fol.stations = s.fol.stations := by
  unfold inputReports
  dsimp only
  (repeat' split) <;> simp

/-- The bytes of a station's input in the receive copy, where its quality byte lies elsewhere. -/
theorem readBytes_putInput {x : Station} {s : State} (p : InputP) (hwf : s.mem.wf = true) (hin : x.cfg.inOff + x.cfg.inLen ≤ 0x40000)
    (hq : x.cfg.qOff < x.cfg.inOff ∨ x.cfg.inOff + x.cfg.inLen ≤ x.cfg.qOff) :
    readBytes (putInput x p s).mem (rxBase + x.cfg.inOff) x.cfg.inLen = fit x.cfg.inLen p.data := by
  have hfit : (fit x.cfg.inLen p.data).length = x.cfg.inLen := length_fit ..
  have hrx : rxBase = 0x01000000 := rfl
  have hdata := readBytes_writeBytes hwf (rxBase + x.cfg.inOff) (fit x.cfg.inLen p.data)
  rw [hfit] at hdata
  rw [← hdata]
  unfold putInput putQuality putStation
  dsimp only
  refine readBytes_congr fun a hlo hhi => ?_
  rw [readByte_writeByte_other _ _ (by omega)]
  refine readByte_writeBytes_other _ _ ?_
  left
  show a < 0x01160000 + 0x10 * x.no
  omega

/-- A CYCLE-START of the other end under the own epoch keeps the port's segment continuous. -/
theorem moduleFrame_own {n : Nat} {h : FolHdr} {cs : CycleStartP} {s : State} (hepoch : h.epoch = s.pair.epoch) (htop : h.epoch ≠ 0xFFFFFFFF) :
    moduleFrame n ⟨h, .cycleStart cs⟩ s = setPort n (fun p => { p with through := setBit p.through 0, csrx := s.tim.time }) (noteEpoch h.epoch s) := by
  have hlow : ¬ h.epoch.toNat < s.pair.epoch.toNat := by rw [hepoch]; exact Nat.lt_irrefl _
  unfold moduleFrame
  rw [if_neg htop, if_neg hlow]
  exact if_pos (by rw [hepoch]; exact Nat.le_refl _)

/-- An INPUT under the own epoch, at the ACTIVE. -/
theorem rxInput_active {n end_ path : Nat} {own : Bool} {h : FolHdr} {p : InputP} {s : State} (hrole : s.pair.role = .active)
    (hepoch : h.epoch = s.pair.epoch) (htop : h.epoch ≠ 0xFFFFFFFF) (hgate : p.gateEpoch.toNat ≤ s.pair.epoch.toNat)
    (hwindow : (segOf s n).window = none) :
    rxInput n end_ path own h p s = acceptInput n end_ true h p (noteStationEpoch p.gateEpoch (noteStationEpoch h.epoch s)) := by
  have hactive : (noteStationEpoch p.gateEpoch (noteStationEpoch h.epoch s)).pair.role = .active := hrole
  unfold rxInput
  rw [stationEpochs_own hepoch htop hgate hwindow]
  dsimp only
  rw [hactive]
  rfl

/-- The answer to a PROBE of an ABSENT station. -/
theorem probeAnswer_absent {n station end_ : Nat} {epoch : Word} {rt ta path : Nat} {typeid : Word} {x : Station} {s : State}
    (hrole : s.pair.role = .active) (hepoch : epoch = s.pair.epoch) (htop : epoch ≠ 0xFFFFFFFF) (hwindow : (segOf s n).window = none)
    (hx : stationOf s station = some x) (hno : x.no = station) (hseg : x.cfg.seg = n) (hst : x.st = .absent) (hend : end_ < 2) :
    ∃ y, stationOf (probeAnswer n station end_ epoch rt ta typeid path s) station = some y ∧
      y.st = (if typeid = x.cfg.typeId then .configuring else .mismatch) ∧ y.filter = epoch ∧
      (if end_ = 0 then y.delayA else y.delayB) = BitVec.ofNat 32 ((rt - ta) / 2) ∧ y.cfg = x.cfg := by
  let d : Word := BitVec.ofNat 32 ((rt - ta) / 2)
  let y : Station := { x with filter := epoch, delayA := if end_ = 0 then d else x.delayA, delayB := if end_ = 1 then d else x.delayB }
  have hdelay : (if end_ = 0 then y.delayA else y.delayB) = d := by
    split
    next h => exact if_pos h
    next h => exact if_pos (by omega)
  let v := noteStationEpoch 0 (noteStationEpoch epoch s)
  have hput : stationOf (putStation y v) y.no = some y := stationOf_putStation (x := x) (by rw [show y.no = station from hno]; exact hx)
  let w : State := if typeid = x.cfg.typeId then configure y (putStation y v) else becomeMismatch y (putStation y v)
  have hw : ∃ z, stationOf w station = some z ∧ z.no = station ∧ z.st = (if typeid = x.cfg.typeId then .configuring else .mismatch) ∧ z.filter = epoch ∧
      (if end_ = 0 then z.delayA else z.delayB) = d ∧ z.cfg = x.cfg := by
    unfold w
    split
    next htype =>
      obtain ⟨q, u, v', hconfigured⟩ := stationOf_configure hput
      rw [show y.no = station from hno] at hconfigured
      exact ⟨_, hconfigured, rfl, rfl, rfl, hdelay, rfl⟩
    next htype =>
      have hmism := stationOf_putQuality (y := { y with st := .mismatch }) hput
      have hsame : stationOf (becomeMismatch y (putStation y v)) station = stationOf (putQuality { y with st := .mismatch } (putStation y v)) station :=
        stationOf_congr (by simp [becomeMismatch]) station
      rw [← show y.no = station from hno] at hsame ⊢
      exact ⟨_, hsame.trans hmism, rfl, rfl, rfl, hdelay, rfl⟩
  obtain ⟨z, hz, hzno, hzst, hzfilter, hzdelay, hzcfg⟩ := hw
  have heq : probeAnswer n station end_ epoch rt ta typeid path s =
      if d = (if end_ = 0 then x.delayA else x.delayB) then w else stationWrite station (stationIdx station 1) (2 + end_) (be4 d.toNat) w := by
    have hvx : stationOf v station = some x := hx
    unfold probeAnswer
    rw [stationEpochs_own hepoch htop (Nat.zero_le _) hwindow]
    dsimp only
    rw [if_neg (by simp [noteStationEpoch, hrole])]
    rw [show stationOf (noteStationEpoch 0 (noteStationEpoch epoch s)) station = some x from hvx]
    dsimp only
    unfold w y d
    rw [if_neg (by simp [hseg]), hst]
  rw [heq]
  by_cases hd : d = (if end_ = 0 then x.delayA else x.delayB)
  · rw [if_pos hd]
    exact ⟨z, hz, hzst, hzfilter, hzdelay, hzcfg⟩
  · rw [if_neg hd]
    obtain ⟨u, k, hwritten⟩ := stationOf_stationWrite (stationIdx station 1) (2 + end_) (be4 d.toNat) hz hzno
    exact ⟨_, hwritten, hzst, hzfilter, hzdelay, hzcfg⟩

/-- The acknowledgement of a station's last configuration write. -/
theorem writeAnswer_last {n path : Nat} {epoch : Word} {tid : Byte} {x : Station} {s : State} (hrole : s.pair.role = .active)
    (hresets : s.fol.gateRsts = []) (hepoch : epoch = s.pair.epoch) (htop : epoch ≠ 0xFFFFFFFF) (hwindow : (segOf s n).window = none)
    (hx : stationOf s x.no = some x) (hst : x.st = .configuring) (hlast : x.unacked = [tid]) :
    writeAnswer n x.no epoch tid 0 path s = becomePresent { x with unacked := [] } (noteStationEpoch 0 (noteStationEpoch epoch s)) := by
  let v := noteStationEpoch 0 (noteStationEpoch epoch s)
  have hnone : v.fol.gateRsts = [] := hresets
  have hvx : stationOf v x.no = some x := hx
  have hactive : v.pair.role = .active := hrole
  unfold writeAnswer
  rw [stationEpochs_own hepoch htop (Nat.zero_le _) hwindow]
  show (if (!true || v.pair.role != .active) = true then v else _) = becomePresent { x with unacked := [] } v
  rw [if_neg (by simp [hactive])]
  have hfind : v.fol.gateRsts.find? (fun g => g.station == x.no && g.tid == tid) = none := by rw [hnone]; rfl
  rw [hfind]
  dsimp only
  rw [hvx]
  simp [hlast, hst, v]

end Sys2Proof.Laws

namespace Sys2Proof.Proofs

open Sys2Proof Sys2Proof.Machine Sys2Proof.Safety Sys2Proof.Laws

/-- Settles O21: a port by `portOf_told` and `cntOf_setCnt`, a station by the entry that is put last. -/
theorem fieldPortsComplete : Obligations.FieldPortsComplete := by
  unfold Obligations.FieldPortsComplete
  intro port clean
  refine ⟨?up, ?down, ?sfp, ?discard, ?through, ?input, ?probe, ?acknowledged, ?clear⟩
  case up =>
    intro n s ⟨hrun, hn, hports, hcnts⟩ hdown
    let v := setPort n (fun p => { p with up := true }) s
    have hlen : n < v.fol.ports.length := by rw [length_setPort]; omega
    have hexec : exec (.portUp n) s = finish (fptPost n 0x0408 [] (fptInt n 3 v)) :=
      congrArg finish (if_neg (by simp [running_rickFull hrun, hn, hdown, running_isolated hrun]))
    have hport := portOf_told 0x0408 3 [] hlen
    rw [portOf_setPort (s := s) (by omega)] at hport
    refine answers_settled hexec ?_
    have hsame : portOf (settle (fptPost n 0x0408 [] (fptInt n 3 v))) n = portOf (fptPost n 0x0408 [] (fptInt n 3 v)) n := rfl
    rw [hsame, hport]
    exact ⟨rfl, bit_setBit_same _ (by decide), by simp [v], by simp [v]⟩
  case down =>
    intro n s ⟨hrun, hn, hports, hcnts⟩ hup
    let v := setPort n (fun p => { p with up := false, through := 0 }) s
    let w := setCnt n (fun c => { c with linkDown := satInc c.linkDown }) v
    have hlen : n < w.fol.ports.length := by
      show n < (setPort n _ s).fol.ports.length
      rw [length_setPort]; omega
    have hexec : exec (.portDown n) s = finish (fptPost n 0x0407 [] (fptInt n 3 w)) :=
      congrArg finish (if_neg (by simp [running_rickFull hrun, hup]))
    have hport := portOf_told 0x0407 3 [] hlen
    have hw : portOf w n = { portOf s n with up := false, through := 0 } :=
      (portOf_congr (s := v) (by simp [w]) n).trans (portOf_setPort (s := s) (by omega) (fun p => { p with up := false, through := 0 }))
    have hcnt : cntOf (settle (fptPost n 0x0407 [] (fptInt n 3 w))) n = { cntOf s n with linkDown := satInc (cntOf s n).linkDown } := by
      refine (cntOf_congr (s := w) (by simp) n).trans ((cntOf_setCnt (by simp [v]; omega) _).trans ?_)
      rw [cntOf_congr (s := s) (u := v) (by simp [v])]
    rw [hw] at hport
    refine answers_settled hexec ?_
    have hsame : portOf (settle (fptPost n 0x0407 [] (fptInt n 3 w))) n = portOf (fptPost n 0x0407 [] (fptInt n 3 w)) n := rfl
    rw [hsame, hport]
    exact ⟨rfl, rfl, bit_setBit_same _ (by decide), congrArg PortCnt.linkDown hcnt, by simp [w, v]⟩
  case sfp =>
    intro n r s ⟨hrun, hn, hports, hcnts⟩ hfitted hfault halarm
    let tell := !r.qualified && !(portOf s n).sfpTold
    let v := setPort n (fun p => { p with sfp := pack 8 [(7, 1), (6, b2n r.los), (4, b2n r.warn)], sfpTold := p.sfpTold || tell }) s
    have hv : portOf v n = { portOf s n with
        sfp := pack 8 [(7, 1), (6, b2n r.los), (4, b2n r.warn)], sfpTold := (portOf s n).sfpTold || tell } :=
      portOf_setPort (by omega) _
    have htold : ((portOf s n).sfpTold || tell) = ((portOf s n).sfpTold || !r.qualified) := by
      unfold tell
      cases (portOf s n).sfpTold <;> cases r.qualified <;> rfl
    have hbyte : (pack 8 [(7, b2n true), (6, b2n r.los), (5, b2n false), (4, b2n r.warn), (3, b2n false)] : Byte) =
        pack 8 [(7, 1), (6, b2n r.los), (4, b2n r.warn)] := by
      cases r.los <;> cases r.warn <;> decide
    have hbits (a b : Bool) : bit (pack 8 [(7, 1), (6, b2n a), (4, b2n b)] : Byte) 5 = false ∧ bit (pack 8 [(7, 1), (6, b2n a), (4, b2n b)] : Byte) 3 = false := by
      cases a <;> cases b <;> decide
    have hpoll : exec (.sfpPoll n r) s = finish (if tell then post 0x0C05 0x05 [] v else v) := by
      refine congrArg finish ((if_neg (by simp [running_rickFull hrun, hn])).trans ?_)
      rw [hfitted, hfault, halarm]
      simp only [Bool.true_and, hbyte, hbits, Bool.false_and, Bool.or_false, Bool.false_eq_true, if_false]
      rfl
    refine answers_settled hpoll ?_
    have hend (u : State) (hfol : u.fol = v.fol) (hmem : u.mem = v.mem) :
        (portOf (settle u) n).sfp = pack 8 [(7, 1), (6, b2n r.los), (4, b2n r.warn)] ∧
        (portOf (settle u) n).sfpTold = ((portOf s n).sfpTold || !r.qualified) ∧ (portOf (settle u) n).up = (portOf s n).up ∧ (settle u).mem = s.mem := by
      have hport : portOf (settle u) n = portOf v n := portOf_congr (by rw [settle_fol, hfol]) n
      rw [hport, hv]
      exact ⟨rfl, htold, rfl, hmem⟩
    split
    · exact hend _ (by simp) (by simp)
    · exact hend _ rfl rfl
  case discard =>
    intro n x s ⟨hrun, hn, hports, hcnts⟩ hup
    have hpass : ¬ ((!rickFull s || !portUp s n) = true) := by simp [running_rickFull hrun, hup]
    exact ⟨congrArg finish (if_neg hpass), congrArg finish ((if_neg hpass).trans (setCnt_setCnt n _ _ s))⟩
  case through =>
    intro n h s ⟨⟨hrun, hn, hports, hcnts⟩, hup, hquiet, hfree⟩ hepoch htop
    let v := noteEpoch h.epoch (countRx n s)
    let w := setPort n (fun p => { p with through := setBit p.through 0, csrx := s.tim.time }) v
    have hexec : exec (.throughCycleStart n h) s = finish w := by
      refine congrArg finish ((folRx_passes _ hrun hup hquiet hfree).trans ?_)
      exact moduleFrame_own hepoch htop
    have hport : portOf w n = { portOf s n with through := setBit (portOf s n).through 0, csrx := s.tim.time } :=
      (portOf_setPort (s := v) (show n < s.fol.ports.length by omega) _)
    have hcnt : cntOf w n = { cntOf s n with rx := satInc (cntOf s n).rx } := cntOf_setCnt (s := s) (by omega) (fun c => { c with rx := satInc c.rx })
    refine answers_of_finish hexec hrun.loud ?_
    have hsame : portOf { w with dic := leaveIdle w.dic } n = portOf w n := rfl
    rw [hsame, hport]
    exact ⟨bit_setBit_same _ (by decide), rfl, congrArg PortCnt.rx hcnt, rfl, rfl, rfl⟩
  case input =>
    intro n b h p x s ⟨⟨hrun, hn, hports, hcnts⟩, hup, hquiet, hfree⟩ hrole hx hno hseg hstart hwindow hstamp hlatch hgot hst hmism hepoch htop hgate
    let v := noteStationEpoch p.gateEpoch (noteStationEpoch h.epoch (countRx n s))
    let y := inputTaken ((myEnd s).getD 0) h p x
    let w := inputReports x y (putInput y p v)
    have haccept : acceptInput n ((myEnd s).getD 0) true h p v = w :=
      acceptInput_present (s := v) hx hseg hstart hstamp hlatch hgot hst hmism
    have hw : (w.pair = v.pair ∧ w.sup.failSilent = v.sup.failSilent) ∧ w.mem = (putInput y p v).mem := by simp [w, putInput]
    obtain ⟨⟨hpair, hsilent⟩, hmem⟩ := hw
    have hexec : exec (.stationInput n h p) s = finish w := by
      refine congrArg finish ((folRx_passes _ hrun hup hquiet hfree).trans ?_)
      have hrelay (u : State) (hu : u.pair.role = .active) : relayIn n ⟨h, .input p⟩ u = u := if_pos (by simp [hu])
      have hrx : rxInput n ((myEnd s).getD 0) (0x10 + n) true h p (countRx n s) = w :=
        (rxInput_active (s := countRx n s) hrole hepoch htop hgate hwindow).trans haccept
      have hend : myEnd (countRx n s) = myEnd s := rfl
      unfold folRxBody
      dsimp only
      rw [hend, hrx]
      exact hrelay w (by rw [hpair]; exact hrole)
    have hput : stationOf (putInput y p v) y.no = some { y with quality := qualityByte v.pair.epoch y } :=
      stationOf_putQuality (s := { v with mem := writeBytes v.mem (rxBase + y.cfg.inOff) (fit y.cfg.inLen p.data) }) (x := x)
        (by rw [show y.no = h.station from hno]; exact hx)
    have hstation : stationOf w h.station = some { y with quality := qualityByte v.pair.epoch y } := by
      rw [stationOf_congr (inputReports_stations x y (putInput y p v)), ← hno]
      exact hput
    refine answers_of_finish hexec (hsilent.trans hrun.loud) ?_
    refine ⟨⟨_, hstation, rfl, rfl, hst, rfl, rfl, rfl, rfl, rfl, rfl⟩, (congrArg Pair.role hpair).trans hrole,
      (congrArg Pair.epoch hpair : w.pair.epoch = v.pair.epoch), ?_⟩
    intro hwf hin hq
    show readBytes w.mem _ _ = _
    rw [hmem]
    exact readBytes_putInput (x := y) p hwf hin hq
  case probe =>
    intro n r x s ⟨hrun, hn, hports, hcnts⟩ hup hrole hx hno hseg hwindow hst hepoch htop hend
    let v := countRx n s
    let u := probeAnswer n r.station r.fromEnd r.epoch r.roundTrip r.turnaround r.typeid (0x10 + n) v
    have hexec : exec (.probeResp n r) s = finish u := by
      refine congrArg finish ((if_neg (by simp [running_rickFull hrun, hup])).trans ?_)
      have hrelay (f : FolFrame) : relayIn n f v = v := if_pos (by simp [v, countRx, hrole])
      show probeAnswer n r.station r.fromEnd r.epoch r.roundTrip r.turnaround r.typeid (0x10 + n) (relayIn n _ v) = u
      rw [hrelay]
    exact answers_settled hexec (probeAnswer_absent (s := v) hrole hepoch htop hwindow hx hno hseg hst hend)
  case acknowledged =>
    intro n tid x s ⟨⟨hrun, hn, hports, hcnts⟩, hup, hquiet, hfree⟩ hrole hresets hx hseg hwindow hst hlast htop
    let v := noteStationEpoch 0 (noteStationEpoch s.pair.epoch (countRx n s))
    let y : Station := { x with unacked := [] }
    have hsegment : segOfStation s x.no = n := by
      have hfound : stationSeg s x.no = some n := by
        show (stationOf s x.no).map _ = _
        rw [hx, Option.map_some, hseg]
      rw [segOfStation, hfound, Option.getD_some]
    have hexec : exec (.stationWriteResp x.no s.pair.epoch tid 0) s = finish (becomePresent y v) := by
      refine congrArg finish ?_
      dsimp only
      rw [hsegment, folRx_passes _ hrun hup hquiet hfree]
      have hrelay (f : FolFrame) : relayIn n f (countRx n s) = countRx n s := if_pos (by simp [countRx, hrole])
      unfold folRxBody
      dsimp only [stationFrame]
      rw [hrelay]
      exact writeAnswer_last (s := countRx n s) hrole hresets rfl htop hwindow hx hst hlast
    let z : Station := { y with st := .present }
    have hput : stationOf (putStation z v) x.no = some z := stationOf_putStation (x := x) (y := z) hx
    have hlen : n < (putStation z v).fol.ports.length := by
      show n < s.fol.ports.length
      omega
    have hport : portOf (becomePresent y v) n = { portOf (putStation z v) n with intStatus := setBit (portOf (putStation z v) n).intStatus 2 } := by
      have h := portOf_told 0x0403 2 [] hlen
      rw [← hseg] at h ⊢
      exact h
    have hrole' : (becomePresent y v).pair.role = .active := by
      have hpair : (becomePresent y v).pair = v.pair := by simp
      rw [hpair]
      exact hrole
    refine answers_settled hexec ⟨⟨z, (stationOf_congr (by simp [becomePresent, z]) x.no).trans hput, rfl, rfl, rfl⟩, ?_, ?_⟩
    · have hsame : portOf (settle (becomePresent y v)) n = portOf (becomePresent y v) n := rfl
      rw [hsame, hport]
      exact bit_setBit_same _ (by decide)
    · rw [settle_pair_role]
      exact hrole'
  case clear =>
    intro n word s ⟨hrun, hn, hports, hcnts⟩ hbit
    exact finish_of_eq ((if_pos (running_rickFull hrun)).trans (if_pos ⟨rfl, hbit⟩)) hrun.loud

end Sys2Proof.Proofs

/-! PROOF. Segments, continuity, station timers and GATE_RESET (O22): what a stop leaves of a segment's stations, and the frames a probe and a
TIME put on the wire. -/

namespace Sys2Proof.Laws

open Sys2Proof Sys2Proof.Machine Sys2Proof.Safety

@[simp] theorem setPort_od (n : Nat) (f : Port → Port) (s : State) : (setPort n f s).od = s.od := by
  unfold setPort; rfl
@[simp] theorem portSend_od (n : Nat) (f : FolFrame) (s : State) : (portSend n f s).od = s.od := by
  unfold portSend; simp
@[simp] theorem sendRelays_od (es : List RelayE) (s : State) : (sendRelays es s).od = s.od := by
  unfold sendRelays; simp
@[simp] theorem endSend_od (n end_ : Nat) (f : FolFrame) (s : State) : (endSend n end_ f s).od = s.od := by
  unfold endSend; simp
@[simp] theorem windowSend_od (n end_ : Nat) (f : FolFrame) (s : State) : (windowSend n end_ f s).od = s.od := by
  unfold windowSend; simp
@[simp] theorem svcToStation_od (n end_ station : Nat) (op : Byte) (index sub : Nat) (data : List Byte) (s : State) : (svcToStation n end_ station op index sub data s).od = s.od := by
  unfold svcToStation; simp

/-- FPT_CMD reaches the segment command in a running module. -/
theorem fptCmd_command {n k : Nat} {word : Word} {s : State} (hrun : Running s) (hkey : fld word 16 16 = 0xF057) (hk : fld word 0 8 = k) (h0 : k ≠ 0)
    (h3 : k ≤ 3) : fptCmd n .m word s = (segCommand n k 0 s).1 := by
  unfold fptCmd
  rw [hk]
  exact if_neg (by simp [hkey, running_rickFull hrun, running_isolated hrun, h0, h3])

theorem portOf_settle (s : State) (n : Nat) : portOf (settle s) n = portOf s n := rfl
theorem segOf_settle (s : State) (n : Nat) : segOf (settle s) n = segOf s n := rfl
theorem stationOf_settle (s : State) (x : Nat) : stationOf (settle s) x = stationOf s x := rfl

theorem portOf_setSeg (n k : Nat) (f : Seg → Seg) (s : State) : portOf (setSeg n f s) k = portOf s k := rfl
theorem segOf_setPort (n k : Nat) (f : Port → Port) (s : State) : segOf (setPort n f s) k = segOf s k := rfl
theorem loadStations_segs (n : Nat) (s : State) : (loadStations n s).fol.segs = s.fol.segs := rfl

/-- What a station that becomes absent is kept as. -/
def absentAs (x : Station) (s : State) : Station :=
  let y : Station := { x with st := .absent, cDrop := if x.st = .present then satInc x.cDrop else x.cDrop, unacked := [] }
  { y with quality := qualityByte s.pair.epoch y }

theorem becomeAbsent_stations (x : Station) (s : State) :
    (becomeAbsent x s).fol.stations = s.fol.stations.map (fun y => if y.no = x.no then absentAs x s else y) := rfl

theorem stationOf_becomeAbsent {x : Station} {s : State} (h : stationOf s x.no = some x) : stationOf (becomeAbsent x s) x.no = some (absentAs x s) :=
  find_replaced (y := absentAs x s) h

theorem absentAs_cDrop {x : Station} {s : State} (h : x.st ≠ .present) : (absentAs x s).cDrop = x.cDrop := if_neg h

/-- One station made absent: it takes every place of its number, the other places stay. -/
theorem mem_becomeAbsent {x z : Station} {s : State} (hz : z ∈ (becomeAbsent x s).fol.stations) : z.st = .absent ∨ (z ∈ s.fol.stations ∧ z.no ≠ x.no) := by
  rw [becomeAbsent_stations, List.mem_map] at hz
  obtain ⟨w, hw, hz⟩ := hz
  by_cases hno : w.no = x.no
  · rw [if_pos hno] at hz
    exact .inl (hz ▸ rfl)
  · rw [if_neg hno] at hz
    exact .inr ⟨hz ▸ hw, hz ▸ hno⟩

/-- After a run of stations made absent, a station of the segment is absent or was not among them. -/
theorem foldl_becomeAbsent_stations {n : Nat} {f : Station → Station} (hf : ∀ x, (f x).no = x.no) (xs : List Station) (s : State)
    (h : ∀ z ∈ s.fol.stations, z.cfg.seg = n → z.st = .absent ∨ z ∈ xs) :
    ∀ z ∈ (xs.foldl (fun s x => becomeAbsent (f x) s) s).fol.stations, z.cfg.seg = n → z.st = .absent := by
  induction xs generalizing s with
  | nil => exact fun z hz hseg => (h z hz hseg).elim id (absurd · List.not_mem_nil)
  | cons x xs ih =>
    rw [List.foldl_cons]
    refine ih _ fun z hz hseg => ?_
    have hcase : z.st = .absent ∨ (z ∈ s.fol.stations ∧ z.no ≠ (f x).no) := mem_becomeAbsent hz
    rcases hcase with habs | ⟨hold, hno⟩
    · exact .inl habs
    · refine (h z hold hseg).imp id fun hin => (List.mem_cons.mp hin).resolve_left fun hzx => hno ?_
      rw [hf, hzx]

theorem le_foldl_max {a b : Nat} {xs : List Nat} (h : a ≤ b ∨ a ∈ xs) : a ≤ xs.foldl max b := by
  induction xs generalizing b with
  | nil => exact h.resolve_right List.not_mem_nil
  | cons x xs ih => exact ih (h.elim (fun hb => .inl (le_max_of_le_left hb)) fun hx => (List.mem_cons.mp hx).imp (fun hx => hx.le.trans (le_max_right b x)) id)

/-- A frame without a held one and without a run of the injector passes as it is. -/
theorem fijFolTx_passes {m : Mnt} (now port : Nat) (f : FolFrame) (hquiet : m.running = false) (hfree : m.held = []) :
    fijFolTx m now port f = (m, [{ f := f }]) := by
  simp [fijFolTx, heldBy, fijRule, hquiet, hfree]

theorem portOf_portSend {n : Nat} {f : FolFrame} {s : State} (hn : n < s.fol.ports.length) (hmay : maySendFol s = true) (hup : portUp s n = true)
    (htx : (portOf s n).txdis = false) (hquiet : s.mnt.running = false) (hfree : s.mnt.held = []) :
    portOf (portSend n f s) n = { portOf s n with out := (portOf s n).out ++ [{ f := f }] } := by
  have hsend : portSend n f s = setPort n (fun p => { p with out := p.out ++ [{ f := f }] }) s := by
    unfold portSend
    rw [fijFolTx_passes _ _ _ hquiet hfree]
    exact if_neg (by simp [hmay, hup, htx])
  rw [hsend]
  exact portOf_setPort hn _

/-- A service message outside the cycle, at the module's own end, leaves at once (R190). -/
theorem portOf_svcToStation {n e station index sub : Nat} {op : Byte} {data : List Byte} {s : State} (hn : n < s.fol.ports.length)
    (hst : (segOf s n).st ≠ .running) (hend : myEnd s = some e) (hmay : maySendFol s = true) (hup : portUp s n = true)
    (htx : (portOf s n).txdis = false) (hquiet : s.mnt.running = false) (hfree : s.mnt.held = []) :
    ∃ f m, portOf (svcToStation n e station op index sub data s) n = { portOf s n with out := (portOf s n).out ++ [{ f := f }] } ∧
      f.body = .service m ∧ m.op = op ∧ f.hdr.station = station ∧ f.hdr.epoch = s.pair.epoch := by
  let m : SvcMsg := { op := op, tid := s.fol.tid, index := BitVec.ofNat 16 index, sub := BitVec.ofNat 8 sub, sflags := 0, session := 0, arg := 0, data := data }
  let f := folFrame s n e (stampOf s n) 0 station (.service m)
  let t : State := { s with fol := { s.fol with tid := s.fol.tid + 1 } }
  have hsend : svcToStation n e station op index sub data s = portSend n f t := (if_pos hst).trans (if_pos hend)
  refine ⟨f, m, ?_, rfl, rfl, rfl, rfl⟩
  rw [hsend]
  exact portOf_portSend (s := t) hn hmay hup htx hquiet hfree

theorem stationOfIdx_stationIdx (x : Nat) : stationOfIdx (stationIdx x 5) = x := by
  unfold stationOfIdx stationIdx; omega

theorem entryOf_gateReset {x : Nat} (hx : x < 2048) (s : State) : entryOf (stationIdx x 5) 2 s = wo (.u 1) 4 1 1 := by
  have hmeta : metaOf (stationIdx x 5) 2 = metaStation (stationIdx x 5 % 8) 2 := by
    unfold stationIdx metaOf
    repeat rw [if_neg (by omega)]
    rw [if_pos (by omega)]
  have hmod : stationIdx x 5 % 8 = 5 := by unfold stationIdx; omega
  unfold entryOf
  rw [if_neg (by decide), if_neg (by unfold stationIdx; omega), if_neg (by unfold stationIdx; omega), hmeta, hmod]
  rfl

theorem activityOf_gateReset {x : Nat} (hx : x < 2048) (v : List Byte) : activityOf (stationIdx x 5) 2 v = some 10 := by
  unfold stationIdx activityOf
  dsimp only
  repeat rw [if_neg (by omega)]
  rw [if_pos (by omega)]

theorem endFor_takeToken (h : Holder) (x : Station) (s : State) : endFor (takeToken h s) x = endFor s x := by
  simp [endFor, endsInUse, takeToken, myEnd, mySlot, portUp, farUsed, isolated, portOf, fptBlock, seenIn, heard, deadNs, lanesFor, laneOpen, laneTo]

/-- GATE_RESET of a station in reach is kept as under way and goes to the station (R216). -/
theorem gateReset_goes {x : Station} {c : Client} {v : List Byte} {s : State} {h : Holder}
    (hh : h = { code := 10, slot := mySlot s, arg := x.no, session := (askOf s c).session }) (hno : x.no < 2048) (hx : stationOf s x.no = some x)
    (hst : x.st ≠ .absent) (hend : (endFor s x).isSome = true) (hcomm : s.mnt.comm = true) (hrole : s.pair.role = .active)
    (hfree : tokenFree s h = true) :
    ∃ e g, command (askOf s c) (stationIdx x.no 5) 2 v s = svcToStation x.cfg.seg e x.no 2 (stationIdx x.no 5) 2 (u8 1)
        { takeToken h s with fol := { s.fol with gateRsts := s.fol.gateRsts ++ [g] } } ∧
      g.station = x.no ∧ g.tid = s.fol.tid ∧ g.client = some c := by
  subst hh
  obtain ⟨e, he⟩ := Option.isSome_iff_exists.mp hend
  refine ⟨e, { station := x.no, tid := s.fol.tid, client := some c, forward := (askOf s c).forward }, ?_, rfl, rfl, rfl⟩
  have hcheck : activityCheck 10 (stationIdx x.no 5) v s = 0 := by
    simp [activityCheck, hcomm, stationOfIdx_stationIdx, hx, hst]
  have harg : activityArg 10 (stationIdx x.no 5) = x.no := (if_pos rfl).trans (stationOfIdx_stationIdx _)
  have hactivity : command (askOf s c) (stationIdx x.no 5) 2 v s = activity 10 (askOf s c) (stationIdx x.no 5) 2 v s := by
    unfold command
    rw [activityOf_gateReset hno]
  rw [hactivity]
  unfold activity
  rw [hcheck, harg]
  have hstation : stationOf (takeToken { code := 10, slot := mySlot s, arg := x.no, session := (askOf s c).session } s) x.no = some x :=
    (stationOf_congr (by simp) x.no).trans hx
  have hserved : endFor (takeToken { code := 10, slot := mySlot s, arg := x.no, session := (askOf s c).session } s) x = some e :=
    (endFor_takeToken _ x s).trans he
  refine (if_neg (not_not.mpr rfl)).trans ((if_neg (fun h => h.1 hrole)).trans ((if_neg (by decide)).trans ((if_neg ?_).trans ?_)))
  · simpa [askOf] using hfree
  unfold activityStart
  dsimp only
  unfold gateResetGo
  rw [stationOfIdx_stationIdx]
  dsimp only [askOf] at hstation hserved ⊢
  rw [hstation]
  dsimp only
  rw [hserved]
  simp only [takeToken_cyc_fol]

end Sys2Proof.Laws

namespace Sys2Proof.Proofs

open Sys2Proof Sys2Proof.Machine Sys2Proof.Safety Sys2Proof.Laws

/-- Settles O22, each clause from what its command leaves of the segment, the port or the station; a stop by induction on the segment's stations. -/
theorem segmentsComplete : Obligations.SegmentsComplete := by
  unfold Obligations.SegmentsComplete
  refine ⟨?start, ?probing, ?stop, ?reprobe, ?lost, ?restored, ?absent, ?timeout, ?probe, ?time, ?gate⟩
  case start =>
    intro n m s ⟨hrun, hn, hsegs, hports, hrole⟩ hst hchecks hfree
    let h := ownHolder s 4 n 0
    let v := loadStations n (takeToken h s)
    let u := wakeAll n (fptPost n 0x0400 [] (setSeg n (fun g => { g with st := .probing, since := v.now, start := none, window := none }) v))
    have hexec : exec (.segmentStart n (.reg m .m 0xF0570001)) s = finish u := by
      refine congrArg finish ((fptCmd_command (k := 1) hrun rfl rfl (by decide) (by decide)).trans ?_)
      simp only [segCommand]
      rw [if_neg (not_not.mpr hrole), if_neg (not_not.mpr hst), if_neg (by simp [hchecks]), if_neg (by simp [hfree])]
    have hlen : n < v.fol.segs.length := by
      have : v.fol.segs = s.fol.segs := by simp [v, loadStations_segs]
      rw [this]; omega
    have hseg : segOf u n = { segOf v n with st := .probing, since := s.now, start := none, window := none } := by
      have hnow : v.now = s.now := takeToken_now h s
      rw [← hnow]
      have hsegs : u.fol.segs = (setSeg n (fun g => { g with st := .probing, since := v.now, start := none, window := none }) v).fol.segs := by simp [u]
      exact (segOf_congr hsegs n).trans (segOf_setSeg hlen _)
    refine answers_settled hexec ⟨?_, ?_, ?_, ?_, ?_, ?_⟩
    · have hsame := segOf_settle u n
      rw [hsame, hseg]
    · have hsame := segOf_settle u n
      rw [hsame, hseg]
    · have hsame := segOf_settle u n
      rw [hsame, hseg]
    · show u.mnt.holders = _
      simp [u, v, loadStations, takeToken_holders, h]
    · show u.fol.stations = _
      simp [u, v, loadStations]
    · show u.mem = _
      simp [u, v]
  case probing =>
    intro n s ⟨hrun, hn, hsegs, hports, hrole⟩ hst
    let v := setSeg n (fun g => { g with st := .running }) s
    let w := fptInt n 0 (noteHyper v)
    let u := relayCycleStarts (releaseToken (fun x => x.code == 4 && x.arg == n) w)
    have hexec : exec (.probingEnd n) s = finish u :=
      congrArg finish ((if_pos (running_rickFull hrun)).trans (if_neg (by simp [hst, hrole])))
    have hfol : u.fol = w.fol := by simp [u]
    have hseg : segOf u n = { segOf s n with st := .running } :=
      ((segOf_congr (congrArg Fol.segs hfol) n).trans (segOf_congr (s := v) (by simp [w]) n)).trans (segOf_setSeg (by omega) _)
    have hlen : n < (noteHyper v).fol.ports.length := by simp [v]; omega
    refine answers_settled hexec ⟨?_, ?_, ?_, ?_, ?_⟩
    · have hsame := segOf_settle u n
      rw [hsame, hseg]
    · show u.mnt.holders = _
      simp [u, releaseToken_holders, w, v]
    · have hsame := portOf_settle u n
      rw [hsame, portOf_congr (congrArg Fol.ports hfol), portOf_fptInt 0 hlen]
      exact bit_setBit_same _ (by decide)
    · show u.fol.stations = _
      rw [hfol]
      simp [w, v]
    · show u.mem = _
      simp [u, w, v]
  case stop =>
    intro n m s ⟨hrun, hn, hsegs, hports, hrole⟩ hst hfree
    let h := ownHolder s 4 n 0
    let v := takeToken h s
    let w := (stationsOn v n).foldl (fun s x => becomeAbsent { x with st := .absent } s) v
    let y := setPort n (fun p => { p with waiting := [] }) (setSeg n (fun g => { g with st := .stopped, start := none, window := none }) w)
    let u := releaseToken (fun x => x.code == 4 && x.arg == n) (noteHyper (fptPost n 0x0401 [] (fptInt n 0 y)))
    have hexec : exec (.segmentStop n (.reg m .m 0xF0570002)) s = finish u := by
      refine congrArg finish ((fptCmd_command (k := 2) hrun rfl rfl (by decide) (by decide)).trans ?_)
      simp only [segCommand]
      rw [if_neg (not_not.mpr hrole), if_neg hst, if_neg (by simp [hfree])]
    have hsegs' : n < w.fol.segs.length := by
      have : w.fol.segs = s.fol.segs := by simp [w, v]
      rw [this]; omega
    have hports' : n < y.fol.ports.length := by
      have : y.fol.ports.length = w.fol.ports.length := length_setPort ..
      have hsame : w.fol.ports = s.fol.ports := by simp [w, v]
      rw [this, hsame]; omega
    have hfol : u.fol = (fptInt n 0 y).fol := by simp [u]
    have hseg : segOf u n = { segOf w n with st := .stopped, start := none, window := none } :=
      ((segOf_congr (congrArg Fol.segs hfol) n).trans (segOf_congr (s := setSeg n (fun g => { g with st := .stopped, start := none, window := none }) w)
        (by simp [y]) n)).trans (segOf_setSeg hsegs' _)
    have hport : portOf u n = { portOf y n with intStatus := setBit (portOf y n).intStatus 0 } :=
      (portOf_congr (congrArg Fol.ports hfol) n).trans (portOf_fptInt 0 hports')
    have hquiet : portOf y n = { portOf w n with waiting := [] } := portOf_setPort (by rwa [length_setPort] at hports') _
    refine answers_settled hexec ⟨?_, ?_, ?_, ?_, ?_, ?_, ?_⟩
    · have hsame := segOf_settle u n
      rw [hsame, hseg]
    · have hsame := segOf_settle u n
      rw [hsame, hseg]
    · have hsame := segOf_settle u n
      rw [hsame, hseg]
    · have hsame := portOf_settle u n
      rw [hsame, hport, hquiet]
    · show ∀ x ∈ u.fol.stations, _
      have hstations : u.fol.stations = w.fol.stations := by rw [hfol]; simp [y]
      rw [hstations]
      exact foldl_becomeAbsent_stations (f := fun x => { x with st := .absent }) (fun _ => rfl) (stationsOn v n) v fun z hz hseg => .inr (List.mem_filter.mpr ⟨hz, by simp [hseg]⟩)
    · have hsame := portOf_settle u n
      rw [hsame, hport]
      exact bit_setBit_same _ (by decide)
    · rw [settle_pair_role]
      have hpair : u.pair = s.pair := by simp [u, y, w, v]
      rw [hpair, hrole]
  case reprobe =>
    intro n m s ⟨hrun, hn, hsegs, hports, hrole⟩
    let u := (stationsOn s n).foldl (fun s x => (endsInUse s n).foldl (fun s e => probe x e s) s) s
    have hexec : exec (.segmentReprobe n (.reg m .m 0xF0570003)) s = finish u := by
      refine congrArg finish ((fptCmd_command (k := 3) hrun rfl rfl (by decide) (by decide)).trans ?_)
      simp only [segCommand]
      rw [if_neg (not_not.mpr hrole)]
    refine answers_settled hexec ⟨?_, ?_, ?_, ?_⟩
    · show u.fol.segs = _
      simp [u]
    · show u.fol.stations = _
      simp [u]
    · show u.mnt.holders = _
      simp [u]
    · show u.mem = _
      simp [u]
  case lost =>
    intro n s ⟨hrun, hn, hsegs, hports, hrole⟩ hcut hends hthrough
    let after := (((stationsOn s n).filter (fun x => x.endNow == 0 && (x.got || x.noData == 0) && x.st == .present)).map (fun x => x.cfg.pos)).foldl max 0
    let v := setPort n (fun p => { p with cut := true, cutAfter := after }) s
    let u := fptPost n 0x0405 (le2 after) (fptInt n 4 v)
    have hexec : exec (.continuityLost n) s = finish u :=
      congrArg finish (if_neg (by simp [running_rickFull hrun, hcut, hrole, hends, hthrough]))
    have hport : portOf u n = { portOf v n with intStatus := setBit (portOf v n).intStatus 4 } :=
      portOf_told 0x0405 4 (le2 after) (by rw [length_setPort]; omega)
    have hput : portOf v n = { portOf s n with cut := true, cutAfter := after } := portOf_setPort (by omega) _
    have hsame := portOf_settle u n
    refine answers_settled hexec ⟨?_, ?_, ?_, ?_, ?_⟩
    · rw [hsame, hport, hput]
    · rw [hsame, hport]
      exact bit_setBit_same _ (by decide)
    · show u.fol.stations = _
      simp [u, v]
    · show u.mem = _
      simp [u, v]
    · intro x hx hseg hend hgot hst
      rw [hsame, hport, hput]
      exact le_foldl_max (.inr (List.mem_map.mpr ⟨x, by simp [stationsOn, hx, hseg, hend, hgot, hst], rfl⟩))
  case restored =>
    intro n s ⟨hrun, hn, hsegs, hports, hrole⟩ hcut h1 h2
    let v := setPort n (fun p => { p with cut := false, cutAfter := 0xFFFF }) s
    let u := fptPost n 0x0406 [] (fptInt n 4 v)
    have hexec : exec (.continuityRestored n) s = finish u :=
      congrArg finish (if_neg (by simp [running_rickFull hrun, hcut, h1, h2]))
    have hport : portOf u n = { portOf v n with intStatus := setBit (portOf v n).intStatus 4 } :=
      portOf_told 0x0406 4 [] (by rw [length_setPort]; omega)
    have hput : portOf v n = { portOf s n with cut := false, cutAfter := 0xFFFF } := portOf_setPort (by omega) _
    have hsame := portOf_settle u n
    refine answers_settled hexec ⟨?_, ?_, ?_, ?_, ?_⟩
    · rw [hsame, hport, hput]
    · rw [hsame, hport, hput]
    · rw [hsame, hport]
      exact bit_setBit_same _ (by decide)
    · show u.fol.stations = _
      simp [u, v]
    · show u.mem = _
      simp [u, v]
  case absent =>
    intro n x s ⟨hrun, hn, hsegs, hports, hrole⟩ hx hseg hst hmissed
    let v := becomeAbsent x s
    let u := fptPost x.cfg.seg 0x0402 [] (fptInt x.cfg.seg 1 v)
    have hexec : exec (.stationAbsent x.no) s = finish u := by
      refine congrArg finish ?_
      rw [hx]
      exact if_neg (by simp [running_rickFull hrun, hrole, hst]; omega)
    have hport : portOf u n = { portOf v n with intStatus := setBit (portOf v n).intStatus 1 } := by
      rw [← hseg]
      exact portOf_told 0x0402 1 [] (by show x.cfg.seg < s.fol.ports.length; omega)
    refine answers_settled hexec ⟨⟨absentAs x s, ((stationOf_settle u _).trans (stationOf_congr (s := v) (by simp [u]) x.no)).trans (stationOf_becomeAbsent hx), rfl, if_pos hst, rfl⟩, ?_⟩
    have hsame := portOf_settle u n
    rw [hsame, hport]
    exact bit_setBit_same _ (by decide)
  case timeout =>
    intro n x s ⟨hrun, hn, hsegs, hports, hrole⟩ hx hseg hst
    have hexec : exec (.configuringTimeout x.no) s = finish (becomeAbsent x s) := by
      refine congrArg finish ?_
      rw [hx]
      exact if_neg (by simp [running_rickFull hrun, hrole, hst])
    have hput : stationOf (settle (becomeAbsent x s)) x.no = some (absentAs x s) := (stationOf_settle _ _).trans (stationOf_becomeAbsent hx)
    exact answers_settled hexec ⟨absentAs x s, hput, rfl, absentAs_cDrop (by simp [hst]), rfl, rfl⟩
  case probe =>
    intro n e x s ⟨hrun, hn, hsegs, hports, hrole⟩ hx hseg hst hprobing hends hend hmay hup htx hquiet hfree
    have hexec : exec (.stationProbeTimer x.no) s = finish (probe x e s) := by
      refine congrArg finish ?_
      rw [hx]
      subst hseg
      dsimp only
      rw [if_neg (by simp [running_rickFull hrun, hrole, hprobing]), hst, hends]
      rfl
    obtain ⟨f, m, hport, hbody, hop, hstation, hepoch⟩ := portOf_svcToStation (n := n) (e := e) (station := x.no) (index := 0) (sub := 0) (op := 6)
      (data := []) (s := s) (by omega) (by simp [hprobing]) hend hmay hup htx hquiet hfree
    have hsent : portOf (settle (probe x e s)) n = portOf (svcToStation n e x.no 6 0 0 [] s) n := by rw [← hseg]; rfl
    refine answers_settled hexec ⟨⟨f, m, ?_, hbody, hop, hstation, hepoch⟩, ?_, ?_⟩
    · rw [hsent, hport]
    · show (probe x e s).fol.stations = _
      simp
    · show (probe x e s).mem = _
      simp
  case time =>
    intro n e s ⟨hrun, hn, hsegs, hports, hrole⟩ hst hcfg hends hend hsec
    let p : TimeP := { time := s.tim.time - BitVec.ofNat 64 (cycleT s n), utcoff := BitVec.ofNat 16 (cfgNum s 0x1400 8),
                       tflags := BitVec.ofNat 8 (b2n (s.tim.source == 1) + 2 * b2n (s.tim.source != 1)) }
    let v := setPort n (fun p => { p with timeSec := timeNs s / 1000000000 }) s
    let f := folFrame v n e (stampOf v n) 0 0xFFFF (.time p)
    let u := setPort n (fun p => { p with waiting := p.waiting ++ [f] }) v
    have hexec : exec (.timeFrameSend n) s = finish u := by
      refine congrArg finish ?_
      dsimp only
      rw [if_neg (by simp [running_rickFull hrun, hrole, hcfg, hst, hsec]), hends]
      exact (if_neg (not_not.mpr hst)).trans (if_pos hend)
    have hput : portOf v n = { portOf s n with timeSec := timeNs s / 1000000000 } := portOf_setPort (by omega) _
    have hport : portOf u n = { portOf v n with waiting := (portOf v n).waiting ++ [f] } := portOf_setPort (by rw [length_setPort]; omega) _
    have hsame := portOf_settle u n
    refine answers_settled hexec ⟨?_, rfl, f, p, ?_, rfl, rfl, rfl⟩
    · rw [hsame, hport, hput]
    · rw [hsame, hport, hput]
  case gate =>
    intro n x rq mt s ⟨hrun, hn, hsegs, hports, hrole⟩ hno hx hseg hst hend hcomm hacc hfree
    obtain rfl := Option.some.inj (hacc.entry.symm.trans (entryOf_gateReset hno s))
    have hlow : stationIdx x.no 5 < 0x6000 := by unfold stationIdx; omega
    have hvisible : visible (stationIdx x.no 5) 2 = false := by
      unfold visible stationIdx; simp; omega
    have hresume : isResume (stationIdx x.no 5) 2 = false := by
      simp [isResume]
    obtain ⟨e, g, hgo, hstation, htid, hclient⟩ := gateReset_goes (c := writer (stationIdx x.no 5) 2 rq) (v := rq.value) rfl hno hx hst hend hcomm hrole hfree
    have hcmd := objCmd_command hrun hlow (by decide) hvisible hresume rfl rfl hacc
    rw [hgo, closeRevoked_none ?_] at hcmd
    · refine answers_settled (congrArg finish hcmd) ⟨⟨g, ?_, hstation, htid, hclient⟩, ?_⟩
      · rw [settle_fol]
        simp
      · rw [settle_mnt]
        simp [takeToken_holders, askOf]
    · intro y hy
      refine (hacc.free y ?_).2
      simpa using hy

end Sys2Proof.Proofs

/-! PROOF. Every command keeps the queue (O2): the operations that are not yet known to keep it, in the order of the model. -/

namespace Sys2Proof.Laws

open Sys2Proof Sys2Proof.Machine Sys2Proof.Safety

-- scales, Cord's mailbox, images, keys, sessions ------------------------------------------------------------------------------

/-- What a pair's queue is, once the pair has been taken apart. -/
theorem pending_of_eq {α : Type} {s t : State} {r : State × α} {a : α} (hr : r.1.pending = s.pending) (h : r = (t, a)) : t.pending = s.pending := by
  rw [h] at hr; exact hr

@[simp] theorem opProve_pending (m : MbxRq) (s : State) : (opProve m s).1.pending = s.pending := by
  have happend {c : Cord} {t : State} {actor r : Nat} (h : cordAppend 4 0xFF 0 0 0 0 0 actor { s with cord := c } = (t, r)) :
      t.pending = s.pending := pending_of_eq (by simp) h
  unfold opProve
  dsimp only
  iterate 3
    split
    · simp
  split
  · iterate 3
      split
      · simp
    split
    next t h => simp [happend h]
    next t r _ h => simp [happend h]
  · simp

@[simp] theorem opChannelTest_pending (m : MbxRq) (s : State) : (opChannelTest m s).1.pending = s.pending := by
  unfold opChannelTest; dsimp only; (repeat' split) <;> simp

@[simp] theorem opChannelService_pending (m : MbxRq) (s : State) : (opChannelService m s).1.pending = s.pending := by
  unfold opChannelService; dsimp only; (repeat' split) <;> simp

@[simp] theorem proveWithToken_pending (m : MbxRq) (s : State) : (proveWithToken m s).1.pending = s.pending := by
  unfold proveWithToken; dsimp only; (repeat' split) <;> simp

@[simp] theorem onKindleStart_pending (x00 : KindleP) (s : State) : (onKindleStart x00 s).pending = s.pending := by
  unfold onKindleStart; simp

@[simp] theorem onKindleNogo_pending (x00 : KindleP) (s : State) : (onKindleNogo x00 s).pending = s.pending := by
  unfold onKindleNogo; simp

@[simp] theorem onKindle_pending (p : KindleP) (s : State) : (onKindle p s).pending = s.pending := by
  unfold onKindle; split <;> simp

@[simp] theorem doRestore_pending (v : Nat) (s : State) : (doRestore v s).1.pending = s.pending := by
  unfold doRestore
  split
  next t h =>
    have ht : t.pending = s.pending := pending_of_eq (by simp) h
    simp [ht]
  · simp

@[simp] theorem followRecords_pending (t : Nat) (s : State) : (followRecords t s).pending = s.pending := by
  unfold followRecords
  split
  · rfl
  · refine foldl_pending (fun s x => ?_) _ _
    dsimp only
    (repeat' split) <;> simp

@[simp] theorem scaleHandOff_pending (t tag : Nat) (s : State) : (scaleHandOff t tag s).pending = s.pending := by
  unfold scaleHandOff; simp

@[simp] theorem viaCord_pending {f : State → State} (hf : ∀ s, (f s).pending = s.pending) (s : State) : (viaCord f s).pending = s.pending := by
  unfold viaCord; simp [hf]

@[simp] theorem mbxRun_pending (op : Nat) {f : MbxRq → State → State × MbxRes} (hf : ∀ m s, (f m s).1.pending = s.pending) (m : MbxRq) (s : State) :
    (mbxRun op f m s).1.pending = s.pending := by
  unfold mbxRun; simp [hf]

@[simp] theorem mbxExec_pending (op : Nat) {f : MbxRq → State → State × MbxRes} (hf : ∀ m s, (f m s).1.pending = s.pending) (m : MbxRq) (s : State) :
    (mbxExec op f m s).pending = s.pending := by
  unfold mbxExec; split
  · exact mbxRun_pending op hf m s
  · rfl

@[simp] theorem booted_pending {f : MbxRq → State → State × MbxRes} (hf : ∀ m s, (f m s).1.pending = s.pending) (m : MbxRq) (s : State) :
    (booted f m s).1.pending = s.pending := by
  unfold booted; split <;> simp [hf]

@[simp] theorem ofStatus_pending (r : State × Nat) : (ofStatus r).1.pending = r.1.pending := rfl

@[simp] theorem opKsEnrol_pending (m : MbxRq) (s : State) : (opKsEnrol m s).1.pending = s.pending := by
  unfold opKsEnrol; split <;> simp

@[simp] theorem opKsRevoke_pending (m : MbxRq) (s : State) : (opKsRevoke m s).1.pending = s.pending := by
  unfold opKsRevoke; split <;> simp

@[simp] theorem opKsLoad_pending (m : MbxRq) (s : State) : (opKsLoad m s).1.pending = s.pending := by
  unfold opKsLoad; simp

@[simp] theorem viaMbx_pending (op : Nat) {f : MbxRq → State → State × MbxRes} (hf : ∀ m s, (f m s).1.pending = s.pending) (m : MbxRq) (s : State) :
    (viaMbx op f m s).1.pending = s.pending := by
  unfold viaMbx; split
  · rfl
  · exact mbxRun_pending op (fun m s => booted_pending hf m s) m s

@[simp] theorem mbxCode_pending (op : Nat) {f : MbxRq → State → State × MbxRes} (hf : ∀ m s, (f m s).1.pending = s.pending) (a b : Nat) (d : List Byte)
    (s : State) : (mbxCode op f a b d s).1.pending = s.pending := by
  unfold mbxCode; exact viaMbx_pending op hf _ s

@[simp] theorem fireOne_pending (a : State × List Nat × List Nat) (e : Nat) : (fireOne a e).1.pending = a.1.pending := by
  unfold fireOne; (repeat' split) <;> simp

theorem foldl_fireOne_pending (xs : List Nat) (a : State × List Nat × List Nat) : (xs.foldl fireOne a).1.pending = a.1.pending := by
  induction xs generalizing a with
  | nil => rfl
  | cons x xs ih => exact (ih _).trans (by simp)

@[simp] theorem updateImage_pending (t : Nat) (s : State) : (updateImage t s).1.pending = s.pending := by
  unfold updateImage; simp [foldl_fireOne_pending]

@[simp] theorem inputLatch_pending (t : Nat) (s : State) : (inputLatch t s).pending = s.pending := by
  unfold inputLatch; simp

@[simp] theorem imageRelease_pending (a : Assembly) (s : State) : (imageRelease a s).pending = s.pending := by
  unfold imageRelease; simp

@[simp] theorem svnCommit_pending (comp : Nat) (s : State) : (svnCommit comp s).1.pending = s.pending := by
  unfold svnCommit; split <;> simp

@[simp] theorem credEnrol_pending (v : List Byte) (s : State) : (credEnrol v s).1.pending = s.pending := by
  unfold credEnrol; dsimp only; (repeat' split) <;> simp

@[simp] theorem credRevoke_pending (slot : Nat) (s : State) : (credRevoke slot s).1.pending = s.pending := by
  unfold credRevoke; split <;> simp

@[simp] theorem progEnrol_pending (v : List Byte) (s : State) : (progEnrol v s).1.pending = s.pending := by
  unfold progEnrol; (repeat' split) <;> simp

@[simp] theorem progRevoke_pending (slot : Nat) (s : State) : (progRevoke slot s).1.pending = s.pending := by
  unfold progRevoke; simp

@[simp] theorem keyLoad_pending (v : List Byte) (s : State) : (keyLoad v s).1.pending = s.pending := by
  unfold keyLoad; split <;> simp

@[simp] theorem verEnrol_pending (v : List Byte) (s : State) : (verEnrol v s).1.pending = s.pending := by
  unfold verEnrol; (repeat' split) <;> simp

@[simp] theorem verRevoke_pending (slot : Nat) (s : State) : (verRevoke slot s).1.pending = s.pending := by
  unfold verRevoke; split <;> simp

@[simp] theorem zeroiseObj_pending (s : State) : (zeroiseObj s).1.pending = s.pending := by
  unfold zeroiseObj; simp

@[simp] theorem debugUnlock_pending (v : List Byte) (s : State) : (debugUnlock v s).1.pending = s.pending := by
  unfold debugUnlock; (repeat' split) <;> simp

@[simp] theorem debugChallenge_pending (s : State) : (debugChallenge s).1.pending = s.pending := by
  unfold debugChallenge; simp

@[simp] theorem readObj_pending (idx sub : Nat) (s : State) : (readObj idx sub s).1.pending = s.pending := by
  unfold readObj; dsimp only; (repeat' split) <;> simp

@[simp] theorem vClose_pending (x : Session) (s : State) : (vClose x s).pending = s.pending := by
  unfold vClose; split <;> simp

@[simp] theorem closeSession_pending (h cause : Nat) (s : State) : (closeSession h cause s).pending = s.pending := by
  unfold closeSession; split <;> simp

@[simp] theorem closeWhere_pending (p : Session → Bool) (cause : Nat) (s : State) : (closeWhere p cause s).pending = s.pending := by
  unfold closeWhere; simp

@[simp] theorem sessionClose_pending (p : Path) (tid : Byte) (h : Nat) (s : State) : (sessionClose p tid h s).pending = s.pending := by
  unfold sessionClose; split <;> simp

@[simp] theorem closeRevoked_pending (s : State) : (closeRevoked s).pending = s.pending := by
  unfold closeRevoked; simp

@[simp] theorem doProof_pending (session : Nat) (v : List Byte) (s : State) : (doProof session v s).1.pending = s.pending := by
  unfold doProof; simp

@[simp] theorem verifierCmd_pending (sub n session : Nat) (s : State) : (verifierCmd sub n session s).1.pending = s.pending := by
  unfold verifierCmd; split <;> simp

@[simp] theorem secCmd_pending (idx sub : Nat) (v : List Byte) (s : State) : (secCmd idx sub v s).1.pending = s.pending := by
  unfold secCmd; dsimp only; (repeat' split) <;> simp

@[simp] theorem legalWrite_pending (a : Asker) (idx sub : Nat) (v : List Byte) (s : State) : (legalWrite a idx sub v s).pending = s.pending := by
  unfold legalWrite; simp

@[simp] theorem svcRead_pending (p : Path) (m : SvcMsg) (s : State) : (svcRead p m s).pending = s.pending := by
  unfold svcRead; simp

-- threads, accepted writes, requests, what a beat and the pair's frames apply -------------------------------------------------

@[simp] theorem releaseImages_pending (n : Nat) (s : State) : (releaseImages n s).pending = s.pending := by
  induction n generalizing s with
  | zero => rfl
  | succ n ih =>
    unfold releaseImages
    split
    · exact (ih _).trans (by simp)
    · rfl

@[simp] theorem tellR_pending (a : Asker) (r : State × Nat) : (tellR a r).pending = r.1.pending := by
  unfold tellR; simp

@[simp] theorem cmdStatus_pending (cmd : Nat) (r : State × Nat) : (cmdStatus cmd r).1.pending = r.1.pending := by
  unfold cmdStatus; simp

@[simp] theorem enter_pending (p : Path) (m : SvcMsg) {f : State → State} (hf : ∀ s, (f s).pending = s.pending) (s : State) :
    (enter p m f s).pending = s.pending := by
  unfold enter; dsimp only; (repeat' split) <;> simp [hf]

@[simp] theorem forwardWrite_pending (c : Option Client) (idx sub : Nat) (v : List Byte) (s : State) : (forwardWrite c idx sub v s).pending = s.pending := by
  unfold forwardWrite; (repeat' split) <;> simp

@[simp] theorem copiedWrite_pending (a : Asker) (idx sub : Nat) (m : Meta) (v : List Byte) (s : State) : (copiedWrite a idx sub m v s).pending = s.pending := by
  unfold copiedWrite
  split
  next s₁ h₁ =>
    have k₁ := pending_of_eq (s := s) (by simp) h₁
    split
    next s₂ h₂ =>
      have k₂ := (pending_of_eq (s := s₁) (by simp) h₂).trans k₁
      split
      · simp [k₂]
      · split
        next s₃ h₃ => simp [(pending_of_eq (s := s₂) (by simp) h₃).trans k₂]
        · simp [k₂]
    · simp [k₁]
  · simp

@[simp] theorem afterLocal_pending (idx sub n : Nat) (s : State) : (afterLocal idx sub n s).pending = s.pending := by
  unfold afterLocal
  split
  · exact (foldl_pending (fun s c => send_pending (.closed c) s) _ _).trans (closeWhere_pending _ 1 s)
  · simp

@[simp] theorem localWrite_pending (a : Asker) (idx sub : Nat) (m : Meta) (v : List Byte) (s : State) : (localWrite a idx sub m v s).pending = s.pending := by
  unfold localWrite
  dsimp only
  split
  next s₁ h₁ =>
    have k₁ := pending_of_eq (s := s) (by simp) h₁
    split
    · simp [k₁]
    · split
      · simp [k₁]
      · split
        next s₂ h₂ => simp [(pending_of_eq (s := s₁) (by simp) h₂).trans k₁]
        · simp [k₁]
  · simp

@[simp] theorem visibleWrite_pending (a : Asker) (idx sub : Nat) (v : List Byte) (s : State) : (visibleWrite a idx sub v s).pending = s.pending := by
  unfold visibleWrite
  split
  · simp
  · split
    next s₁ h₁ =>
      have k₁ := pending_of_eq (s := s) (by simp) h₁
      exact k₁
    · simp

@[simp] theorem onImage_pending (p : ImageP) (s : State) : (onImage p s).pending = s.pending := by
  unfold onImage; simp

@[simp] theorem afterEnd_pending (t : Nat) (s : State) : (afterEnd t s).pending = s.pending := by
  unfold afterEnd; simp

@[simp] theorem trapEnd_pending (t : Nat) (s : State) : (trapEnd t s).pending = s.pending := by
  unfold trapEnd; simp

@[simp] theorem threadTrap_pending (core t : Nat) (s : State) : (threadTrap core t s).pending = s.pending := by
  unfold threadTrap; simp

@[simp] theorem beginCommit_pending (t : Nat) (s : State) : (beginCommit t s).pending = s.pending := by
  unfold beginCommit; simp

@[simp] theorem threadDone_pending (core t : Nat) (ds : List Delta) (s : State) : (threadDone core t ds s).pending = s.pending := by
  unfold threadDone; simp

@[simp] theorem commitComplete_pending (t : Nat) (s : State) : (commitComplete t s).pending = s.pending := by
  unfold commitComplete; dsimp only; (repeat' split) <;> simp

@[simp] theorem deadlineMiss_pending (t : Nat) (s : State) : (deadlineMiss t s).pending = s.pending := by
  unfold deadlineMiss; dsimp only; (repeat' split) <;> simp

@[simp] theorem skipLimit_pending (t : Nat) (s : State) : (skipLimit t s).pending = s.pending := by
  unfold skipLimit; simp

@[simp] theorem cycDone_pending (core : Nat) (level : Level) (word : Word) (ds : List Delta) (s : State) : (cycDone core level word ds s).pending = s.pending := by
  unfold cycDone; simp

@[simp] theorem activityStart_pending (k : Nat) (a : Asker) (idx : Nat) (v : List Byte) (s : State) : (activityStart k a idx v s).pending = s.pending := by
  unfold activityStart; split <;> simp

@[simp] theorem activity_pending (k : Nat) (a : Asker) (idx sub : Nat) (v : List Byte) (s : State) : (activity k a idx sub v s).pending = s.pending := by
  unfold activity; simp

@[simp] theorem plainCmd_pending (session idx sub : Nat) (v : List Byte) (s : State) : (plainCmd session idx sub v s).1.pending = s.pending := by
  unfold plainCmd; dsimp only; (repeat' split) <;> simp

@[simp] theorem command_pending (a : Asker) (idx sub : Nat) (v : List Byte) (s : State) : (command a idx sub v s).pending = s.pending := by
  unfold command; (repeat' split) <;> simp

@[simp] theorem decided_pending (a : Asker) (idx sub : Nat) (m : Meta) (v : List Byte) (s : State) : (decided a idx sub m v s).pending = s.pending := by
  unfold decided; simp

@[simp] theorem routed_pending (c : Client) (m : Meta) (v : List Byte) (s : State) : (routed c m v s).pending = s.pending := by
  unfold routed; simp

@[simp] theorem wholeWrite_pending (c : Client) (v : List Byte) (s : State) : (wholeWrite c v s).pending = s.pending := by
  unfold wholeWrite; split <;> simp

@[simp] theorem writeSeg_pending (c : Client) (m : SvcMsg) (limit : Nat) (s : State) : (writeSeg c m limit s).pending = s.pending := by
  unfold writeSeg; dsimp only; (repeat' split) <;> simp

@[simp] theorem svcWrite_pending (p : Path) (m : SvcMsg) (s : State) : (svcWrite p m s).pending = s.pending := by
  unfold svcWrite; dsimp only; (repeat' split) <;> simp

@[simp] theorem svcBody_pending (p : Path) (m : SvcMsg) (s : State) : (svcBody p m s).pending = s.pending := by
  unfold svcBody; split <;> simp

@[simp] theorem folRequest_pending (seg end_ : Nat) (f : FolFrame) (m : SvcMsg) (s : State) : (folRequest seg end_ f m s).pending = s.pending := by
  unfold folRequest; simp

@[simp] theorem serveRequests_pending (s : State) : (serveRequests s).pending = s.pending := by
  unfold serveRequests; rw [foldl_pending (fun s x => by (repeat' split) <;> simp)]

@[simp] theorem objCmd_pending (idx sub : Nat) (rq : Rq) (s : State) : (objCmd idx sub rq s).pending = s.pending := by
  unfold objCmd; simp

@[simp] theorem runWait_pending (s : State) (w : Wait) : (runWait s w).pending = s.pending := by
  unfold runWait; simp

@[simp] theorem applyTxns_pending (b : Nat) (s : State) : (applyTxns b s).pending = s.pending := by
  unfold applyTxns; simp

@[simp] theorem onForward_pending (src : Slot) (p : ObjWriteP) (es : List ObjE) (s : State) : (onForward src p es s).pending = s.pending := by
  unfold onForward; dsimp only; (repeat' split) <;> simp

@[simp] theorem granted_pending (c : Client) (k : Nat) (v : List Byte) (s : State) : (granted c k v s).pending = s.pending := by
  unfold granted; simp

@[simp] theorem onResult_pending (p : ObjWriteP) (s : State) : (onResult p s).pending = s.pending := by
  unfold onResult; dsimp only; (repeat' split) <;> simp

@[simp] theorem pairCmd_pending (level : Level) (word : Word) (s : State) : (pairCmd level word s).pending = s.pending := by
  unfold pairCmd; (repeat' split) <;> simp

@[simp] theorem dataCmd_pending (idx sub : Nat) (m : SvcMsg) (rq : Rq) (s : State) : (dataCmd idx sub m rq s).pending = s.pending := by
  unfold dataCmd; simp

@[simp] theorem viaPair_pending (sub : Nat) (via : Via) (s : State) : (viaPair sub via s).pending = s.pending := by
  unfold viaPair; split <;> simp

@[simp] theorem viaProgram_pending (via : Via) (s : State) : (viaProgram via s).pending = s.pending := by
  unfold viaProgram; split <;> simp

@[simp] theorem viaSegment_pending (seg : Nat) (via : Via) (s : State) : (viaSegment seg via s).pending = s.pending := by
  unfold viaSegment; split <;> simp

@[simp] theorem viaInjector_pending (via : Via) (s : State) : (viaInjector via s).pending = s.pending := by
  unfold viaInjector; split <;> simp

@[simp] theorem relayService_pending (lane n end_ : Nat) (f : FolFrame) (m : SvcMsg) (s : State) : (relayService lane n end_ f m s).pending = s.pending := by
  unfold relayService; simp

@[simp] theorem takeRelayIn_pending (lane : Nat) (s : State) (e : RelayE) : (takeRelayIn lane s e).pending = s.pending := by
  unfold takeRelayIn; (repeat' split) <;> simp

@[simp] theorem onRelayIn_pending (lane : Nat) (es : List RelayE) (s : State) : (onRelayIn lane es s).pending = s.pending := by
  unfold onRelayIn; simp

@[simp] theorem applyBeatClass_pending (s : State) : (applyBeatClass s).pending = s.pending := by
  unfold applyBeatClass; simp

@[simp] theorem beat_pending (s : State) : (beat s).pending = s.pending := by
  unfold beat; simp

@[simp] theorem pairWrite_pending (o : Nat) (level : Level) (w : Word) (s : State) : (pairWrite o level w s).pending = s.pending := by
  unfold pairWrite; split <;> simp

@[simp] theorem cycWrite_pending (o core : Nat) (level : Level) (w : Word) (s : State) : (cycWrite o core level w s).pending = s.pending := by
  unfold cycWrite; split <;> simp

-- frames of the Flue, registers, the bus --------------------------------------------------------------------------------------

theorem wholeOr_pending (b : Bool) (es : List ObjE) (s : State) : (if b then wholeSet es s else (s, es)).1.pending = s.pending := by
  split <;> simp

@[simp] theorem takeApply_pending (p : ObjWriteP) (es : List ObjE) (s : State) : (takeApply p es s).pending = s.pending := by
  unfold takeApply
  generalize (s.pair.sub == Sub.resync && !s.flu.resync.whole && decide (s.flu.resync.phase ≤ 2)) = whole
  dsimp only
  split
  · simp
  · split
    next t h =>
      have kt : t.pending = s.pending := pending_of_eq (by simp) h
      have kw := wholeOr_pending whole es t
      generalize (if whole = true then wholeSet es t else (t, es)) = w at kw ⊢
      obtain ⟨u, all⟩ := w
      have ku : u.pending = s.pending := kw.trans kt
      simp [ku]
    next t c hne h =>
      have kt : t.pending = s.pending := pending_of_eq (by simp) h
      simp [kt]

@[simp] theorem onObjWrite_pending (src : Slot) (more : Bool) (p : ObjWriteP) (s : State) : (onObjWrite src more p s).pending = s.pending := by
  have hgather {t : State} {es : Option (List ObjE)} (h : gather p more s = (t, es)) : t.pending = s.pending := pending_of_eq (by simp) h
  unfold onObjWrite
  (repeat' split) <;> simp [*]

@[simp] theorem flueBody_pending (lane : Nat) (f : FlueFrame) (s : State) : (flueBody lane f s).pending = s.pending := by
  unfold flueBody; split <;> simp

@[simp] theorem flueEffect_pending (lane : Nat) (f : FlueFrame) (s : State) : (flueEffect lane f s).pending = s.pending := by
  unfold flueEffect; simp

theorem takeSeq_pending {h : FlueHdr} {fresh : Bool} {s t : State} (ht : takeSeq h fresh s = some t) : t.pending = s.pending := by
  unfold takeSeq at ht
  dsimp only at ht
  split at ht
  · split at ht
    · cases ht
    · exact Option.some.inj ht ▸ rfl
  · split at ht
    · cases ht
    · rw [← Option.some.inj ht]
      split <;> simp

@[simp] theorem flueInOrder_pending (lane : Nat) (f : FlueFrame) (fresh : Bool) (s : State) : (flueInOrder lane f fresh s).pending = s.pending := by
  unfold flueInOrder
  split
  · rfl
  next t ht => simp [takeSeq_pending ht]

@[simp] theorem flueToHere_pending (lane : Nat) (f : FlueFrame) (s : State) : (flueToHere lane f s).pending = s.pending := by
  unfold flueToHere; simp

@[simp] theorem flueArrive_pending (lane : Nat) (f : FlueFrame) (s : State) : (flueArrive lane f s).pending = s.pending := by
  unfold flueArrive; simp

@[simp] theorem flueRx_pending (lane : Nat) (f : FlueFrame) (s : State) : (flueRx lane f s).pending = s.pending := by
  unfold flueRx; dsimp only; (repeat' split) <;> simp

@[simp] theorem holdExpiry_pending (k : Nat) (s : State) : (holdExpiry k s).pending = s.pending := by
  unfold holdExpiry; dsimp only; (repeat' split) <;> simp

@[simp] theorem kindleFrame_pending (op lane : Nat) (h : FlueHdr) (p : KindleP) (s : State) : (kindleFrame op lane h p s).pending = s.pending := by
  unfold kindleFrame; simp

@[simp] theorem objFrame_pending (op lane : Nat) (h : FlueHdr) (p : ObjWriteP) (s : State) : (objFrame op lane h p s).pending = s.pending := by
  unfold objFrame; simp

/-- The state that a settled next state answers with keeps the queue that its effect keeps. -/
theorem finish_keeps {u s : State} (h : u.pending = s.pending) : Answers (finish u) fun t => t.pending = s.pending := ⟨_, rfl, h⟩

theorem after_pending {o : Host.Outcome State Fault Refusal} {s : State} (h : Answers o fun t => t.pending = s.pending) : (after o s).pending = s.pending := by
  obtain ⟨t, rfl, ht⟩ := h
  exact ht

@[simp] theorem hpwWrite_pending (o : Nat) (w : Word) (s : State) : (hpwWrite o w s).pending = s.pending := by
  unfold hpwWrite; split
  · refine after_pending (finish_keeps ?_)
    simp
  · rfl
  · rfl

@[simp] theorem jrnWrite_pending (o : Nat) (w : Word) (s : State) : (jrnWrite o w s).pending = s.pending := by
  unfold jrnWrite; split
  · simp
  · refine after_pending (finish_keeps ?_)
    simp
  · rfl
  · simp
  · rfl

@[simp] theorem evrWindow_pending (o : Nat) (level : Level) (w : Word) (s : State) : (evrWindow o level w s).pending = s.pending := by
  unfold evrWindow
  have h (win : Nat) : (after (execEventPosting win level w s) s).pending = s.pending := by
    refine after_pending (finish_keeps ?_)
    simp
  simp [h]

@[simp] theorem evrWrite_pending (o : Nat) (level : Level) (w : Word) (s : State) : (evrWrite o level w s).pending = s.pending := by
  unfold evrWrite; split <;> simp

@[simp] theorem ksCmd_pending (w : Word) (s : State) : (ksCmd w s).pending = s.pending := by
  unfold ksCmd
  split
  · rfl
  · split
    iterate 9
      · refine after_pending (finish_keeps ?_)
        (repeat' split) <;> simp
    · rfl

@[simp] theorem ksWrite_pending (o : Nat) (w : Word) (s : State) : (ksWrite o w s).pending = s.pending := by
  unfold ksWrite; split <;> simp

@[simp] theorem crdWrite_pending (o : Nat) (w : Word) (s : State) : (crdWrite o w s).pending = s.pending := by
  unfold crdWrite
  split
  case h_1 | h_4 | h_5 =>
    refine after_pending (finish_keeps ?_)
    simp
  all_goals simp

@[simp] theorem audRegWrite_pending (o : Nat) (w : Word) (s : State) : (audRegWrite o w s).pending = s.pending := by
  unfold audRegWrite
  split
  case h_1 | h_2 =>
    refine after_pending (finish_keeps ?_)
    simp
  all_goals simp

@[simp] theorem regWrite_pending (b : Blk) (o core : Nat) (level : Level) (w : Word) (s : State) : (regWrite b o core level w s).pending = s.pending := by
  unfold regWrite; split <;> simp

@[simp] theorem write32_pending (m : Master) (level : Level) (b : Blk) (base o : Nat) (w : Word) (s : State) : (write32 m level b base o w s).pending = s.pending := by
  unfold write32; dsimp only; (repeat' split) <;> simp

@[simp] theorem writeReg_pending (m : Master) (level : Level) (b : Blk) (base o len v : Nat) (s : State) : (writeReg m level b base o len v s).pending = s.pending := by
  unfold writeReg; simp

@[simp] theorem serveReg_pending (r : BusReq) (level : Level) (b : Blk) (o : Nat) (s : State) : (serveReg r level b o s).1.pending = s.pending := by
  unfold serveReg; (repeat' split) <;> simp

@[simp] theorem cordRequest_pending (r : BusReq) (s : State) : (cordRequest r s).pending = s.pending := by
  unfold cordRequest; (repeat' split) <;> simp

@[simp] theorem serveParts_pending (r : BusReq) (level : Level) (ps : List (Nat × Nat)) (s : State) : (serveParts r level ps s).1.pending = s.pending := by
  unfold serveParts
  suffices H : ∀ a : State × List Byte,
      (ps.foldl (fun acc p => let (t, d) := servePart r level acc.1 p; (t, acc.2 ++ d)) a).1.pending = a.1.pending from H (s, [])
  induction ps with
  | nil => exact fun a => rfl
  | cons p ps ih => exact fun a => (ih _).trans (by simp)

@[simp] theorem serve_pending (r : BusReq) (level : Level) (ps : List (Nat × Nat)) (s : State) : (serve r level ps s).1.pending = s.pending := by
  unfold serve; (repeat' split) <;> simp

@[simp] theorem offer_pending (r : BusReq) (level : Level) (s : State) : (offer r level s).pending = s.pending := by
  unfold offer; simp

@[simp] theorem checked_pending (r : BusReq) (level : Level) (s : State) : (checked r level s).pending = s.pending := by
  unfold checked; dsimp only; (repeat' split) <;> simp

@[simp] theorem busRequest_pending (r : BusReq) (s : State) : (busRequest r s).pending = s.pending := by
  unfold busRequest; simp

theorem takeRetry_pending {m : Master} {x : Retry} {s t : State} (h : takeRetry m s = some (x, t)) : t.pending = s.pending := by
  unfold takeRetry at h
  split at h
  · cases h
  · obtain ⟨-, rfl⟩ := Prod.mk.inj (Option.some.inj h)
    rfl

@[simp] theorem retryReissue_pending (m : Master) (busy : Bool) (s : State) : (retryReissue m busy s).pending = s.pending := by
  unfold retryReissue
  split
  · rfl
  next x t h =>
    dsimp only
    (repeat' split) <;> simp [takeRetry_pending h]

@[simp] theorem registerWrite_pending (m : Master) (level : Level) (a : Nat) (wide : Bool) (v : DWord) (s : State) : (registerWrite m level a wide v s).pending = s.pending := by
  unfold registerWrite; simp

-- all commands ----------------------------------------------------------------------------------------------------------------

@[simp] theorem suppress_pending (n : Nat) (cs : List Nat) (s : State) : (suppress n cs s).pending = s.pending := by
  induction n generalizing cs s with
  | zero => simp [suppress]
  | succ n ih =>
    cases cs with
    | nil => simp [suppress]
    | cons c cs =>
      unfold suppress
      dsimp only
      split
      · rfl
      · exact (ih _ _).trans (by simp)

/-- Every command's effect keeps the queue: each is made of operations that do, on every branch. -/
theorem exec_keeps_queue (c : Instr) (s : State) : Answers (exec c s) fun t => t.pending = s.pending := by
  cases c
  case dramPatrolScrub errors =>
    refine finish_keeps ?_
    split
    · rfl
    · refine foldl_pending (fun s e => ?_) _ _
      split <;> simp
  case deltasComplete =>
    simp only [exec, execDeltasComplete]
    split <;> exact finish_keeps (by simp)
  case commitDurable =>
    simp only [exec, execCommitDurable]
    (repeat' split) <;> exact finish_keeps (by simp)
  case seasoningPassDone =>
    simp only [exec, execSeasoningPassDone]
    (repeat' split) <;> exact finish_keeps (by simp)
  case rickResetReload tid =>
    refine finish_keeps ?_
    split
    · rfl
    · split
      next t r h =>
        have ht : t.pending = s.pending := pending_of_eq (by simp) h
        split <;> simp [ht]
  case stationProbeTimer station =>
    refine finish_keeps ?_
    dsimp only
    (repeat' split) <;> simp
  all_goals refine finish_keeps ?_
  all_goals (repeat' split) <;> simp

end Sys2Proof.Laws

namespace Sys2Proof.Proofs

open Sys2Proof Sys2Proof.Machine Sys2Proof.Safety Sys2Proof.Laws

/-- Settles O2: every command answers the settled state of an effect that keeps the queue; none of the hypotheses is needed. -/
theorem commandsKeepQueue : Obligations.CommandsKeepQueue := by
  unfold Obligations.CommandsKeepQueue
  exact fun c s _ _ _ => exec_keeps_queue c s

end Sys2Proof.Proofs
